-- ==== Sys2Proof/Word.lean ====
section
/-! DEFINITION. The smallest words of the model. -/

namespace Sys2Proof

/-- A byte (00, Notation). -/
abbrev Byte := BitVec 8

/-- A count of the 50 MHz timebase, 20 ns each (04 R86). -/
abbrev Tick := Nat

end Sys2Proof
end

