-- ==== Sys2Proof/Word/Types.lean ====
section
/-! DEFINITION. The closed sets of names the spec gives (states, modes, kinds, codes) and the records that stand
in operands: packets, descriptors, headers. Written once, used by Syntax and State. -/

namespace Sys2Proof

/-- Table 0.1 (00, R1). -/
inductive Variant where
  | m8 | m6 | m4
  deriving DecidableEq, Repr, Inhabited

/-- Slot and bay switch states (02, R44). -/
inductive SwState where
  | off | starting | on | fault
  deriving DecidableEq, Repr, Inhabited

/-- The 72 V input switch (02, R27, R30, R32). -/
inductive InputSw where
  | opened | softStart | closed
  deriving DecidableEq, Repr, Inhabited

/-- STATE of PWR_DOMn and PWR_ROWr (03, R79). -/
inductive PwrState where
  | absent | off | starting | on | capped | retryWait | dark | fault
  deriving DecidableEq, Repr, Inhabited

/-- Row states of Table 4.3 and CLK_ROWr STATE (04, R103, R109). -/
inductive RowSt where
  | active | idle | nap | sleep | off | waking | dark
  deriving DecidableEq, Repr, Inhabited

/-- States a ROW_POWER command names (16, Table 16.5). -/
inductive RowTarget where
  | sleep | off | wake
  deriving DecidableEq, Repr, Inhabited

/-- Position states of Table 5.8 (05). -/
inductive PosState where
  | active | spare | badFuse | badTest | badRuntime | lost | inTest
  deriving DecidableEq, Repr, Inhabited

/-- ROW_STATE of Table 5.7 (05). -/
inductive RowClass where
  | full | degraded | out | dark
  deriving DecidableEq, Repr, Inhabited

/-- FAB_PORTn STATE (14, R369). -/
inductive PortState where
  | up | upSpare | down | absent | downRuntime | retraining
  deriving DecidableEq, Repr, Inhabited

/-- Finer states of stacks and channels, Table 12.8 and Table 16.3. -/
inductive UnitFine where
  | inService | degraded | draining | returning | drained | testing | failed | absent
  deriving DecidableEq, Repr, Inhabited

/-- Card states of Table 13.7 (13, R354). -/
inductive CardState where
  | inService | degraded | readOnly | draining | rebalancing | drained | testing | failed | absent
  deriving DecidableEq, Repr, Inhabited

/-- Flash channel states of Table 13.6 (13, R353). -/
inductive FChanState where
  | inService | lowSpare | readOnly | empty | retired | absent
  deriving DecidableEq, Repr, Inhabited

/-- Bank states (11, R286, R290). -/
inductive BankSt where
  | on | ret | off | entering | waking | scrub | retired
  deriving DecidableEq, Repr, Inhabited

/-- Stage status (05, R117). -/
inductive StageStatus where
  | pass | passFindings | skipped | absent | stopped
  deriving DecidableEq, Repr, Inhabited

/-- SPN_BOOT STATE (22, R574). -/
inductive BootState where
  | running | ready | stopped
  deriving DecidableEq, Repr, Inhabited

/-- PRM_STATUS STATE (10, R257). -/
inductive CoreSt where
  | running | waiting | halted | reset
  deriving DecidableEq, Repr, Inhabited

/-- Remap entry states (12, R307). -/
inductive PageSt where
  | mapped | retired | lost | borrowed
  deriving DecidableEq, Repr, Inhabited

/-- FAB_ROUTE OTHER (14, R379, R382). -/
inductive OtherVer where
  | free | staged | draining
  deriving DecidableEq, Repr, Inhabited

/-- WIT_RINGn STATE (20, R550). -/
inductive WitSt where
  | closed | opened | closing | failed
  deriving DecidableEq, Repr, Inhabited

/-- What a management core is doing (05 R116, R144; 18 R500, R503). -/
inductive McSt where
  | reset | running | standby | failed
  deriving DecidableEq, Repr, Inhabited

/-- Regions of Table 12.1 (12, R305). -/
inductive RegionKind where
  | scratch | hbmIl | hbmLocal | ddrIl | ddrLocal | fetchPort | unmapped
  deriving DecidableEq, Repr, Inhabited

/-- TYPE of Table 12.4 (12, R312). -/
inductive TableType where
  | direct | shared | keyed | kv
  deriving DecidableEq, Repr, Inhabited

/-- HOME of Table 12.4 (12, R312). -/
inductive HomeTier where
  | hbm | ddr | flash
  deriving DecidableEq, Repr, Inhabited

/-- OP of Table 11.2 (11, R276). -/
inductive DmaOp where
  | copy | skew | unskew | fill
  deriving DecidableEq, Repr, Inhabited

/-- DECIDE MODE (08, R213). -/
inductive DecMode where
  | off | thresh | topk | sign | tol
  deriving DecidableEq, Repr, Inhabited

/-- Class of a SENDER_ID, Table 15.4 (15, R407). -/
inductive SrcKind where
  | none | chaviHost | chaviAuth | mgmtNet | fabricPeer | primrose | witness | spine
  deriving DecidableEq, Repr, Inhabited

/-- RCV of MBX_CFGn (15, R421). -/
inductive Rcv where
  | mgmtCore | chaviHost | mgmtNet | fabricPeer
  deriving DecidableEq, Repr, Inhabited

/-- KIND of a doorbell word (15, R430). -/
inductive DbKind where
  | reqTail | reqAdd | cplHead
  deriving DecidableEq, Repr, Inhabited

/-- VERDICT of Table 17.3 (17). -/
inductive Verdict where
  | confirmed | poisoned
  deriving DecidableEq, Repr, Inhabited

/-- OUTCOME of Table 17.4 (17, R477). -/
inductive TestOutcome where
  | none | transient | lasting | untestable | pass
  deriving DecidableEq, Repr, Inhabited

/-- Shared rails and bus converters of Tables 3.1 and 3.9 (03, R62, R85). -/
inductive SharedRail where
  | bc0 | bc1 | vbus12 | vnocN | vnocS | vhbmN | vhbmS | vbrE | vbrW | v3p3 | vspine
  deriving DecidableEq, Repr, Inhabited

/-- Return and finding codes (16, Tables 16.10 and 16.11, R452). -/
inductive Code where
  | ok | cmdUnknown | cmdIllegal | cmdDenied | unitAbsent | unitRetired | unitBusy | capacityShort | formatUnsupported
  | notReady | late | deadlinePassed | parityError | rowDark | rowInUse | memUnclaimed | progImageBad | astIllegal
  | astRange | astBusy | astHalted | astPane | astWset | astGeometry | astChain | astNoepi | drecFull
  | astTimeout | scbIllegal | scbFull | resvOverlap | relsNomatch | prmWatchdog | prmParity | prmDoubleTrap | dmaIllegal
  | dmaRange | dmaTimeout | bankAsleep | bankBusy | netTimeout | dataLost | memUncorrectable | tableUnknown | fetchIllegal
  | fetchPartial | flashWriteFail | cardForeign | fabNoEndpoint | fabMalformed | ecrcError | noRoute | ttlExpired | fabStall
  | fabTimeout | fabQueueFull | linkDown | routeBusy | windowDenied | windowStale | windowRange | poisoned | mbxNoChannel
  | mbxSecure | senderRefused | mbxFull | ringEmpty | ringFull | ringNotOwned | ringUnknown | doorbellDenied | doorbellRange
  | reqTimeout | jobTimeout | sigInvalid | keyRevoked | tokenInvalid | inputRange | inputTrip | phaseLost | rowShort
  | railLost | refLoss | clockHold | thermalThrottle | thermalCritical | thermalHalt | ucieDown | mcWatchdog | lowSpare
  | flashState | noiseFail | failover | noCore | mcSelftestFail | strapUnstable | eepromBad | eepromMismatch | fuseWordBad
  | railFault | switchFault | defectNew | defectCarried | chainCut | rowDegraded | rowOut | memRepaired | memRetired
  | unitOut | laneSpared | portDown | imageFetchFail | imageRejected | stageTimeout | logTruncated
  deriving DecidableEq, Repr, Inhabited

/-- What a trip event record carries (02, R59). -/
structure TripInfo where
  /-- 8 bits: 1 undervoltage, 2 overvoltage, 3 overcurrent; 02 R59. -/
  cause : Nat := 0
  /-- 64 bits; 02 R59. -/
  tb : Nat := 0
  /-- 16 bits, 0.1 V; 02 R59. -/
  vin : Nat := 0
  /-- 16 bits, 0.1 A; 02 R59. -/
  iin : Nat := 0
  deriving DecidableEq, Repr, Inhabited

/-- A DMA descriptor (11, R276). -/
structure DmaDesc where
  /-- OP; 11 R276. -/
  op : DmaOp := .copy
  /-- FMT; 11 R276. -/
  fmt : Nat := 0
  /-- TAG; 11 R276. -/
  tag : Nat := 0
  /-- V; 11 R276. -/
  v : Nat := 0
  /-- K; 11 R276. -/
  k : Nat := 0
  /-- SRC; 11 R276. -/
  src : Nat := 0
  /-- DST; 11 R276. -/
  dst : Nat := 0
  /-- SRC_SIDE; 11 R276. -/
  srcSide : Nat := 0xFFFFFFFFFFFFFFFF
  /-- DST_SIDE; 11 R276. -/
  dstSide : Nat := 0xFFFFFFFFFFFFFFFF
  /-- LEN; 11 R276. -/
  len : Nat := 0
  /-- STRIDE; 11 R276. -/
  stride : Nat := 0
  /-- PATTERN; 11 R276. -/
  pattern : Nat := 0
  /-- every reserved field 0; 11 R276. -/
  rsvOk : Bool := true
  /-- submitted by a core of the row, else Gwynpin; 18 R508. -/
  byCore : Bool := true
  deriving DecidableEq, Repr, Inhabited

/-- A finding (05, Table 5.3). -/
structure Finding where
  /-- 16 bits; 05 Table 5.3. -/
  code : Nat := 0
  /-- 16 bits; 05 Table 5.3. -/
  unit : Nat := 0
  /-- 32 bits; 05 Table 5.3. -/
  detail : Nat := 0
  /-- 64 bits; 05 Table 5.3. -/
  tb : Nat := 0
  deriving DecidableEq, Repr, Inhabited

/-- A fetch command (12, Table 12.5). -/
structure FetchCmd where
  /-- OP; 12 R320. -/
  op : Nat := 0
  /-- OFMT; 12 R320. -/
  ofmt : Nat := 0
  /-- FLAGS; 12 R320. -/
  flags : Nat := 0
  /-- TABLE; 12 R320. -/
  table : Nat := 0
  /-- TAG; 12 R320. -/
  tag : Nat := 0
  /-- NBAGS; 12 R320. -/
  nbags : Nat := 0
  /-- NIDS; 12 R320. -/
  nids : Nat := 0
  /-- LIST; 12 R320. -/
  list : Nat := 0
  /-- KEYS; 12 R320. -/
  keys : Nat := 0
  /-- DST; 12 R320. -/
  dst : Nat := 0
  /-- DSIDE; 12 R320. -/
  dside : Nat := 0
  /-- CPL; 12 R320. -/
  cpl : Nat := 0
  /-- STRIDE; 12 R320. -/
  stride : Nat := 0
  /-- reserved fields 0; 12 R320. -/
  rsvOk : Bool := true
  /-- 0 local; else 1 + SRC endpoint; 14 R394. -/
  src : Nat := 0
  /-- row of the core; 12 R319. -/
  row : Nat := 0
  /-- Primrose slot; 12 R319. -/
  slot : Nat := 0
  /-- entry list of a FETCH packet; 14 R394. -/
  entries : List (BitVec 8) := []
  /-- accepted after its table was being destroyed; 16 Table 16.7. -/
  unknown : Bool := false
  deriving DecidableEq, Repr, Inhabited

/-- A fabric packet (14, Table 14.3). -/
structure Pkt where
  /-- DST; 14 R372. -/
  dst : Nat := 0
  /-- SRC; 14 R372. -/
  src : Nat := 0
  /-- TYPE; 14 R372. -/
  type : Nat := 0
  /-- FENCE; 14 R372. -/
  fence : Bool := false
  /-- EPOCH; 14 R372. -/
  epoch : Bool := false
  /-- PROV; 14 R372. -/
  prov : Bool := false
  /-- COMP; 14 R372. -/
  comp : Bool := false
  /-- TTL; 14 R372. -/
  ttl : Nat := 32
  /-- FLOW; 14 R372. -/
  flow : Nat := 0
  /-- LEN; 14 R372. -/
  len : Nat := 0
  /-- TAG; 14 R372. -/
  tag : Nat := 0
  /-- STATUS; 14 R372. -/
  status : Nat := 0
  /-- WIN; 14 R372. -/
  win : Nat := 0xFFFF
  /-- OFFSET; 14 R372. -/
  offset : Nat := 0
  /-- WEPOCH; 14 R372. -/
  wepoch : Nat := 0
  /-- PSEQ; 14 R372. -/
  pseq : Nat := 0
  /-- payload; 14 R372. -/
  data : List (BitVec 8) := []
  /-- reserved fields 0, LEN within its type; 14 R374. -/
  wellFormed : Bool := true
  /-- ECRC right; 14 R374. -/
  ecrcOk : Bool := true
  deriving DecidableEq, Repr, Inhabited

/-- What a Chavi request arrives with (15, R400; 21, R562). -/
structure ChaviHdr where
  /-- TAG; 15 R400. -/
  tag : Nat := 0
  /-- ENC; 21 R562. -/
  enc : Bool := false
  /-- CTR; 21 R562. -/
  ctr : Nat := 0
  /-- the GCM tag verifies; 21 R562. -/
  authOk : Bool := true
  /-- CRC right; 15 R400. -/
  crcOk : Bool := true
  /-- reserved fields 0, LEN and ARG within the type; 15 R400. -/
  layoutOk : Bool := true
  deriving DecidableEq, Repr, Inhabited

/-- Header of a command message (16, Table 16.1). -/
structure CmdHdr where
  /-- arrival channel; 16 R436. -/
  chan : Nat := 0
  /-- CTAG; 16 R436. -/
  ctag : Nat := 0
  /-- RCHAN; 16 R436. -/
  rchan : Nat := 0xFFFF
  /-- RESPTR; 16 R436. -/
  resptr : Nat := 0
  /-- RESMAX; 16 R436. -/
  resmax : Nat := 0
  /-- OPCODE is listed; 16 R440. -/
  known : Bool := true
  /-- reserved fields 0, ARGLEN right; 16 R440. -/
  layoutOk : Bool := true
  /-- ARGPTR with INDIRECT set; 16 R436. -/
  argPtr : Option Nat := none
  deriving DecidableEq, Repr, Inhabited

/-- What one 1 ms window measured (03 R78; 19 R518, R524). -/
structure PowerWindow where
  /-- 45 means, 10 mA; 03 R79. -/
  avg : List Nat := []
  /-- 45 peaks, 10 mA; 03 R79. -/
  peak : List Nat := []
  /-- 45 voltages, 2 mV; 03 R79. -/
  volt : List Nat := []
  /-- µJ of the window; 19 R524. -/
  energy : Nat := 0
  /-- per row: phase (0 none), ticks its Aster slots spent busy in it; 19 R518. -/
  busy : List (List (Nat × Nat)) := []
  /-- per row: every Aster slot empty for the whole window; 19 R518. -/
  empty : List Bool := []
  deriving DecidableEq, Repr, Inhabited

/-- 10 µs means of the fast check (19 R513). -/
structure FastMeans where
  /-- input power, mW; 19 R512. -/
  input : Nat := 0
  /-- package power, mW; 19 R512. -/
  package : Nat := 0
  /-- I_HALF, mA; 19 R512. -/
  halves : List Nat := []
  /-- VCORE currents, mA; 19 R512. -/
  rows : List Nat := []
  deriving DecidableEq, Repr, Inhabited

/-- A fetch item (20, Table 20.5). -/
structure FItem where
  /-- TABLE; 20. -/
  table : Nat := 0
  /-- ROWIDX; 20. -/
  rowIdx : Nat := 0
  /-- TIER; 20. -/
  tier : Nat := 0
  /-- BAG; 20. -/
  bag : Nat := 0
  /-- FTAG; 20. -/
  ftag : Nat := 0
  /-- DROW; 20. -/
  drow : Nat := 0
  /-- SRC; 20. -/
  src : Nat := 0
  /-- W; 20. -/
  w : Nat := 0
  /-- EPOCH; 20. -/
  epoch : Nat := 0
  deriving DecidableEq, Repr, Inhabited

/-- A group item (20, Table 20.6). -/
structure GItem where
  /-- COL; 20. -/
  col : Nat := 0
  /-- GROUP; 20. -/
  group : Nat := 0
  /-- PANE; 20. -/
  pane : Nat := 0
  /-- SUM; 20. -/
  sum : Nat := 0
  /-- TRUNC; 20. -/
  trunc : Nat := 0
  /-- REM; 20. -/
  rem : Nat := 0
  /-- WTAG; 20. -/
  wtag : Nat := 0
  /-- VIDX; 20. -/
  vidx : Nat := 0
  /-- ROW; 20. -/
  row : Nat := 0
  /-- SLOT; 20. -/
  slot : Nat := 0
  deriving DecidableEq, Repr, Inhabited

/-- A decision item (20, Table 20.7). -/
structure DItem where
  /-- WTAG; 20. -/
  wtag : Nat := 0
  /-- VIDX; 20. -/
  vidx : Nat := 0
  /-- ROW; 20. -/
  row : Nat := 0
  /-- SLOT; 20. -/
  slot : Nat := 0
  /-- PANE; 20. -/
  pane : Nat := 0
  /-- RLEN; 20. -/
  rlen : Nat := 0
  /-- DREC; 20. -/
  drec : List (BitVec 8) := []
  deriving DecidableEq, Repr, Inhabited

/-- What BU3 found in one row (05 R127, R128): units 0-4 A0-A4, 5-14 C0-C9, 15-19 skip links around A0-A4, 20-29 around C0-C9. -/
structure RowTest where
  /-- positions whose self-test failed; 05 R127. -/
  selfFail : List Nat := []
  /-- FAIL votes: Primrose position, unit; 05 R127. -/
  failVotes : List (Nat × Nat) := []
  /-- units the arbiter test fails; 05 R128. -/
  arbFail : List Nat := []
  /-- DMA engines the built-in test fails; 05 R131. -/
  dmaBad : List Nat := []
  /-- bits 2 row controller, 3 scoreboard, 4 oscillator failed; 05 Table 5.5. -/
  ctl : Nat := 0
  deriving DecidableEq, Repr, Inhabited

/-- What BU5, BU6 or TESTING found on a stack or channel (05 R134; 12 R331). -/
structure MemTest where
  /-- index in Mem.units; 05 R134. -/
  unit : Nat := 0
  /-- rows repaired; 05 Table 5.5. -/
  repaired : Nat := 0
  /-- logical pages retired; 05 R134. -/
  pages : List Nat := []
  /-- 0, or the reason of Table 12.9 it is OUT; 12 R602. -/
  reason : Nat := 0
  deriving DecidableEq, Repr, Inhabited

/-- What BU7 or a scan found on a card (13 R360). -/
structure CardTest where
  /-- card; 13 R360. -/
  card : Nat := 0
  /-- 0, or the reason of Table 13.8 the card is out; 13 Table 13.8. -/
  reason : Nat := 0
  /-- channel states; none listed: IN_SERVICE; 13 R360. -/
  chans : List FChanState := []
  /-- reason of a RETIRED channel; 13 Table 13.8. -/
  chReason : List Nat := []
  /-- AT_RISK blocks by channel; 13 R352. -/
  atRisk : List Nat := []
  /-- row groups found lost: table, group; 13 R350. -/
  lost : List (Nat × Nat) := []
  deriving DecidableEq, Repr, Inhabited

/-- What BU8 or a session found on a port (05 R136 to R138). -/
structure PortTest where
  /-- port; 05 R136. -/
  port : Nat := 0
  /-- the partner answered within 1 s; 05 R136. -/
  partner : Bool := true
  /-- lanes that passed at both ends; 05 R137. -/
  lanes : BitVec 9 := 0x1FF
  deriving DecidableEq, Repr, Inhabited

/-- The path by which a doorbell arrives (15 R430): a Chavi DOORBELL packet, or a fabric one at a port. -/
inductive BellPath where
  | chavi (h : ChaviHdr) | fabric (port : Nat) (p : Pkt)
  deriving DecidableEq, Repr

end Sys2Proof
end

