-- ==== Sys2Proof/Syntax.lean ====
section
/-! DEFINITION. The commands: one constructor per row of spec/opcode_table.json, in the table's order, with the
operands the row's rule names. -/

namespace Sys2Proof

/-- A command of the block. -/
inductive Instr where
  /-- INPUT_TRIP (R30): An undervoltage, overvoltage or overcurrent filter on the 72 V input expires. The input switch opens, PWR_OK falls and the rails go down in the order of Table 2.6. -/
  | inputTrip (cause : Nat) (vin : Nat) (iin : Nat)
  /-- INPUT_RANGE_EXCURSION (R28): The input leaves the operating range but stays above the trip levels. The module keeps running, raises the input-range cause and sends one platform fault report. -/
  | inputRangeExcursion (vin : Nat)
  /-- HOLD_UP_END (R30): Twenty milliseconds after a trip, VSPINE and the TB-W rail turn off and the module goes dark. -/
  | holdUpEnd
  /-- PLATFORM_EVENT_RECORD_WRITE (R60): The spine writes a trip event record, then the header, to the platform event area of the identity EEPROM. -/
  | platformEventRecordWrite (arbLost : Bool)
  /-- EEPROM_ARBITRATION_RETRY (R61): One millisecond after the spine loses two-wire bus arbitration, it retries the EEPROM access. It abandons the access after the fifth lost retry. -/
  | eepromArbitrationRetry (lost : Bool)
  /-- INPUT_SWITCH_CLOSE (R32): Once the input has stayed in the start window for 100 ms, the module closes its input switch and begins soft start. -/
  | inputSwitchClose
  /-- SOFT_START_COMPLETE (R27): The hold-up capacitance is charged and AUXC brings up VSPINE, which lets cold bring-up begin. -/
  | softStartComplete
  /-- MRST_N_ASSERT (R37): MRST_N has been low for 1 µs. The module takes the rails down under Table 3.6, resets the spine logic and the management cores, and clears the mailbox store. -/
  | mrstNAssert (ns : Nat)
  /-- MRST_N_RELEASE (R38): MRST_N returns high, which schedules a cold bring-up for 1 ms later. -/
  | mrstNRelease
  /-- COLD_BRING_UP_START (R38): One millisecond after MRST_N is released, a cold bring-up starts at BU0. -/
  | coldBringUpStart
  /-- SWITCH_SOFT_START_DONE (R44): Both outputs of a slot or bay switch reach regulation within the soft-start time, and the switch enters ON. -/
  | switchSoftStartDone (i : Nat) (spdOk : Bool) (trainOk : Bool)
  /-- SWITCH_SOFT_START_TIMEOUT (R44): A switch in STARTING does not reach regulation within its soft-start time and enters FAULT. -/
  | switchSoftStartTimeout (i : Nat)
  /-- SWITCH_CURRENT_LIMIT_LATCH (R44): A slot or bay switch stays above its current limit for 100 µs. It latches FAULT and opens, which is a platform fault. -/
  | switchCurrentLimitLatch (i : Nat)
  /-- DIMM_REMOVED_WHILE_ON (R48): A DIMM is pulled from a slot whose switch is ON. The switch latches FAULT and the channel fails. -/
  | dimmRemovedWhileOn (d : Nat)
  /-- BAY_LATCH_OPEN (R49): A flash bay latch opens while its switch is ON. The card-removal cause is raised, programs and erases stop, and the switch is scheduled to open 100 ms later. -/
  | bayLatchOpen (c : Nat)
  /-- BAY_SWITCH_DELAYED_OPEN (R49): One hundred milliseconds after the latch opened, the bay switch opens and the card becomes FAILED. -/
  | baySwitchDelayedOpen (c : Nat)
  /-- PRESENT_N_CHANGE (R396): A fabric connector's PRESENT_N rises, which takes its port DOWN_RUNTIME. -/
  | presentNChange (p : Nat) (high : Bool)
  /-- MGMT_PORT_LINK_CHANGE (R53): The J3 1000BASE-T link comes up or goes down. -/
  | mgmtPortLinkChange (up : Bool) (fullDuplex1000 : Bool)
  /-- J3_SEND (R415): A J3 SEND frame writes a message to a non-secure mailbox channel and is answered with RSP. -/
  | j3Send (mac : Nat) (ch : Nat) (msg : List (BitVec 8))
  /-- J3_DONE (R600): A J3 DONE frame is checked and, if it passes, takes the message held on a management-network channel. -/
  | j3Done (mac : Nat) (ch : Nat) (mseq : Nat) (code : Nat)
  /-- PHASE_LOSS (R64): A row converter phase is taken out of service for overcurrent, overtemperature or loss of drive. The converter rebalances, and the row may become CAPPED or DARK. -/
  | phaseLoss (r : Nat) (p : Nat)
  /-- ROW_SHORT (R81): A row converter stays above its trip threshold, or below half its setpoint, for 2 µs. It turns off, the headers open and the row enters RETRY_WAIT, or DARK if the trip falls during the retry. -/
  | rowShort (r : Nat)
  /-- ROW_RETRY_BEGIN (R82): One second after a row short, the converter restarts at step 0 with half its trip threshold and the row joins its half's staging queue. -/
  | rowRetryBegin (r : Nat)
  /-- ROW_RETRY_SUCCESS (R82): A retried row has run 100 ms at step 0 without a trip. Its thresholds are restored, it leaves RETRY_WAIT and its targeted test starts. -/
  | rowRetrySuccess (r : Nat)
  /-- STAGING_START (R69): At a 1 µs current refresh with I_HALF below I_HALF_LIM − H, the row at the head of its half's queue starts staging at full rate. -/
  | stagingStart (h : Nat) (iHalf : Nat)
  /-- STAGING_HALF_RATE_START (R70): A row has waited 2 ms at the head of the queue without meeting the current condition, and starts staging at half rate. -/
  | stagingHalfRateStart (h : Nat) (iHalf : Nat)
  /-- HEADER_STAGE_CLOSE (R67): The next header stage of a staging row closes, weak segment then main segment, and the banks of a bank stage begin their scrub. -/
  | headerStageClose (h : Nat)
  /-- ROW_USABLE (R103): A waking row's oscillator runs and its logic reset is released. The row is usable, and the transactions held at its router are delivered. -/
  | rowUsable (r : Nat)
  /-- POWER_WINDOW_END (R78): A 1 ms measurement window ends on a multiple of 50,000 tb. The PWR_DOM entries are replaced together. -/
  | powerWindowEnd (w : PowerWindow)
  /-- SHARED_RAIL_LOST (R85): A bus converter, VBUS12, VNOC, VHBM, VBR or V3P3 rail is lost, with the effects of Table 3.9 for that rail. -/
  | sharedRailLost (x : SharedRail)
  /-- SHARED_RAIL_RETRY (R85): One second after a shared rail is lost, its single retry restarts it, as a repeat of BU2 for VBUS12. -/
  | sharedRailRetry (x : SharedRail) (ok : Bool)
  /-- VSPINE_LOST (R85): VSPINE leaves regulation. PWR_OK falls, every other rail goes down, and every Moon-domain store is lost. AUXC restarts once after 1 s. -/
  | vspineLost
  /-- REF_LOSS (R89): The 50 MHz reference has been absent or off-frequency for 1 µs. The timebase continues from the internal oscillator, and the reference-loss cause is raised. -/
  | refLoss
  /-- CLOCK_HOLD (R92): A row's clock hold passes 50 tb. The clock-hold cause is raised and an error record is written. -/
  | clockHold (r : Nat) (ticks : Nat) (volt : Nat)
  /-- CLK_STEP_AT_WRITE (R98): The capping controller writes CLK_STEP_AT, which arms a step change. The write is refused with LATE or BUSY when it breaks the arming rules. -/
  | clkStepAtWrite (next : Nat) (part : Nat) (tick : Nat)
  /-- STEP_WITHDRAW (R98): A controller write of CLK_STEP WITHDRAW withdraws an armed change whose tick has not been reached and clears PEND. -/
  | stepWithdraw
  /-- STEP_CHANGE_TICK (R99): The armed change tick is reached, and every running row oscillator takes the new period at its next cycle boundary. -/
  | stepChangeTick
  /-- STEP_SETTLED (R99): Every running row's converter has settled at the new setpoint, and PEND clears. -/
  | stepSettled
  /-- IDLE_ENTRY (R103): After 32 idle cycles the row's clock is gated and the row enters IDLE. -/
  | idleEntry (r : Nat)
  /-- NAP_ENTRY (R104): T_NAP of continuous idling expires and the row enters NAP. -/
  | napEntry (r : Nat)
  /-- SLEEP_ENTRY (R104): T_SLEEP of continuous idling expires and the row enters SLEEP. -/
  | sleepEntry (r : Nat)
  /-- TIMEBASE_EVENT_WAKE (R105): The row controller starts the wake of a sleeping row early enough for a core's timebase wait to end on its tick. -/
  | timebaseEventWake (r : Nat)
  /-- HALF_PARK (R110): All six rows of a half are asleep, off or dark and its network has been quiet for 500 tb. The half's network and the centre seam park. -/
  | halfPark (h : Nat)
  /-- SEAM_UNPARK_COMPLETE (R111): One hundred ticks after a transfer arrives for a parked half, its network and the seam lanes are usable. -/
  | seamUnparkComplete (h : Nat)
  /-- BU0 (R116): VSPINE, VBR_W and V3P3 come up, both management cores run the boot ROM self-check, the boot core is chosen, the straps are sampled and the identity EEPROM is read. -/
  | bu0 (fail0 : Nat) (fail1 : Nat) (slotUnst : Bool) (mbxUnst : Bool) (arbLost : Bool)
  /-- BU1 (R125): The fuse map is voted, and SPN_CAPS, the trims and the device keys are loaded. The identity area is compared with the fuses. -/
  | bu1 (badWord : Option Nat)
  /-- BU2 (R76): The remaining rails come up, the rows are staged and the slot and bay switches close, under Table 3.5. -/
  | bu2 (trips : List SharedRail) (rowTrips : List Nat) (present : List Nat) (swFaults : List Nat)
  /-- BU3 (R127): The neighbour test runs: self-tests, votes, arbiter tests, chain cuts and slot binding. -/
  | bu3 (tests : List RowTest)
  /-- BU4 (R133): A March C− runs over every bank, failing banks are retired, and the banks in service are left filled with zero. -/
  | bu4 (badBanks : List Nat)
  /-- BU5 (R134): The HBM4 march, retention pauses, repair, retirement and zero fill run. -/
  | bu5 (res : List MemTest)
  /-- BU6 (R134): The DDR5 march, retention pauses, repair, retirement and zero fill run. -/
  | bu6 (res : List MemTest)
  /-- BU7 (R360): The flash metadata scan runs: checkpoints are loaded, the journal is replayed, uncommitted batches are rolled back, retention margins are measured and the card and channel states are set. -/
  | bu7 (res : List CardTest)
  /-- BU8 (R136): The link error-rate qualification sessions run on every present port. -/
  | bu8 (res : List PortTest)
  /-- BU9 (R557): Firmware images are fetched over Chavi and verified in index order. -/
  | bu9
  /-- BU10 (R144): Gwynpin starts and posts its start message, the standby core is released, and the bring-up cause is raised. -/
  | bu10
  /-- STAGE_TIMEOUT (R117): A bring-up stage exceeds its limit in Table 5.1 and ends STOPPED. -/
  | stageTimeout
  /-- AST_RUN_WRITE (R222): A write of AST_RUN starts a run of instruction words from a loaded program region, or is refused with RUN_REFUSED. -/
  | astRunWrite (r : Nat) (t : Nat) (v : Nat)
  /-- AST_RUN_FETCH (R202): The run fetcher moves the next line of program words into the queue once the queue has room. -/
  | astRunFetch (r : Nat) (t : Nat) (bad : Option Nat)
  /-- AST_QPUSH_WRITE (R223): A 128-bit write, or the high half of two 64-bit writes, pushes one instruction after the static checks, or is refused. -/
  | astQpushWrite (r : Nat) (t : Nat) (w : Nat) (part : Nat)
  /-- NOP (R206): A NOP issues after every earlier instruction, and sends a phase marker when MARK is 1. -/
  | nopMark (r : Nat) (t : Nat) (i : Nat)
  /-- FENCE (R207): A FENCE issues after every earlier instruction completes, and with SET = 1 changes the pane mode and resets the weight sets and pane settings. -/
  | fence (r : Nat) (t : Nat) (i : Nat)
  /-- RESV (R208): A tile's RESV issues when the scoreboard grants its entry, and records it. -/
  | resv (r : Nat) (t : Nat) (i : Nat)
  /-- RELS (R209): A tile's RELS frees the matching reservation once every earlier user of the range has completed. -/
  | rels (r : Nat) (t : Nat) (i : Nat)
  /-- WLOAD (R211): A WLOAD issues on the loader, invalidates the overlapping weight sets and starts staging plane and scale images. -/
  | wload (r : Nat) (t : Nat) (i : Nat) (bad : List Nat)
  /-- WLOAD_COMPLETE (R211): Every plane and scale unit of a WLOAD is stored, and the new weight set becomes valid. -/
  | wloadComplete (r : Nat) (t : Nat) (i : Nat)
  /-- EPI (R212): An EPI issues and starts loading the pane's epilogue settings and its scale and bias table. -/
  | epi (r : Nat) (t : Nat) (i : Nat) (bad : List Nat)
  /-- EPI_COMPLETE (R212): The parameter store of the pane is loaded. -/
  | epiComplete (r : Nat) (t : Nat) (i : Nat)
  /-- DECIDE (R214): A DECIDE sets the pane's Decider mode, parameters, record pointer and capacity. -/
  | decideSet (r : Nat) (t : Nat) (i : Nat)
  /-- GROUP (R215): A GROUP sets the pane's feature-group split and designated columns. -/
  | group (r : Nat) (t : Nat) (i : Nat)
  /-- MATV (R217): A MATV issues and starts streaming its vectors through the pane, opening, continuing or closing a chain. -/
  | matv (r : Nat) (t : Nat) (i : Nat) (bad : List Nat)
  /-- DECIDER_EVALUATION (R228): After the last pass of a plane, the Decider forms the column intervals and settles or continues each vector of the wave. -/
  | deciderEvaluation (r : Nat) (t : Nat) (i : Nat) (w : Nat)
  /-- MATV_COMPLETE (R204): The last output line, side line and decision record of a MATV are written and its group sums are handed over. -/
  | matvComplete (r : Nat) (t : Nat) (i : Nat)
  /-- PAIR_COMPARE (R195): The follower's comparison of a leader write completes. A pass confirms the provisional entries and taints of that sequence, and a mismatch poisons them. -/
  | pairCompare (r : Nat) (pair : Nat) (pass : Bool)
  /-- AST_WAIT_TIMEOUT (R487): The oldest unissued instruction of a pane exceeds the wait limit, and the tile halts with AST_TIMEOUT. -/
  | astWaitTimeout (r : Nat) (t : Nat) (i : Nat)
  /-- AST_RUN_TIMEOUT (R487): An issued instruction exceeds its run limit. It is abandoned and the tile halts with AST_TIMEOUT. -/
  | astRunTimeout (r : Nat) (t : Nat) (i : Nat)
  /-- PRIMROSE_EXECUTE (R242): A Primrose core executes one RV64GCV instruction, taking the exception or halt that it causes. -/
  | primroseExecute (r : Nat) (c : Nat) (bad : Nat)
  /-- PRIMROSE_MEMORY_ACCESS (R245): A Primrose load or store to scratchpad or device memory completes as one network transaction, or takes its access fault. -/
  | primroseMemoryAccess (r : Nat) (c : Nat) (err : Nat)
  /-- RPOP (R247): RPOP moves the oldest entry of a named or selected ring into local memory and records it as outstanding. -/
  | rpop (r : Nat) (c : Nat) (rd : Nat) (rs1 : Nat) (rs2 : Nat)
  /-- RPUSH (R249): RPUSH matches an outstanding request and posts its completion, or returns RING_FULL, RING_NOT_OWNED or LATE. -/
  | rpush (r : Nat) (c : Nat) (rd : Nat) (rs1 : Nat) (rs2 : Nat)
  /-- SRESV (R250): SRESV places a reservation request for a core and waits for the grant or the deadline. -/
  | sresv (r : Nat) (c : Nat) (rd : Nat) (rs1 : Nat) (rs2 : Nat)
  /-- SRESV_DEADLINE (R250): An SRESV reaches its deadline ungranted and returns DEADLINE_PASSED, or SCB_FULL when every entry is in use. -/
  | sresvDeadline (r : Nat) (c : Nat)
  /-- SRELS (R251): SRELS frees the core's matching reservation, or returns RELS_NOMATCH. -/
  | srels (r : Nat) (c : Nat) (rd : Nat) (rs1 : Nat)
  /-- TBWAIT (R252): TBWAIT waits for a tick and, when rs2 = 1, for ring work. -/
  | tbwait (r : Nat) (c : Nat) (rd : Nat) (rs1 : Nat) (rs2 : Nat)
  /-- TBWAIT_END (R252): The awaited tick is reached, or an assigned ring holds an entry. The wait ends, the tick is returned and the watchdog restarts. -/
  | tbwaitEnd (r : Nat) (c : Nat)
  /-- WDKICK (R259): WDKICK restarts the core's watchdog at PERIOD. -/
  | wdkick (r : Nat) (c : Nat)
  /-- BADD (R253): BADD gives a bound sum, rounded up to BF16. -/
  | badd (r : Nat) (c : Nat) (rd : Nat) (rs1 : Nat) (rs2 : Nat)
  /-- BSCL (R253): BSCL gives a bound product, rounded up to BF16. -/
  | bscl (r : Nat) (c : Nat) (rd : Nat) (rs1 : Nat) (rs2 : Nat)
  /-- BMAX (R253): BMAX gives the bound maximum. -/
  | bmax (r : Nat) (c : Nat) (rd : Nat) (rs1 : Nat) (rs2 : Nat)
  /-- BLIN (R253): BLIN gives rs1 × rs2 + rs3 with a single upward rounding to BF16. -/
  | blin (r : Nat) (c : Nat) (rd : Nat) (rs1 : Nat) (rs2 : Nat) (rs3 : Nat)
  /-- FHASH (R254): FHASH computes the FH0, FH1 or FH2 row index of a feature identifier. -/
  | fhash (r : Nat) (c : Nat) (rd : Nat) (rs1 : Nat) (rs2 : Nat) (rs3 : Nat) (fn : Nat)
  /-- PRM_WATCHDOG_EXPIRY (R259): A core's watchdog reaches zero. The core halts with PRM_WATCHDOG and its pending SRESV is withdrawn. -/
  | prmWatchdogExpiry (r : Nat) (c : Nat)
  /-- HALTED_CORE_REQUESTS_END (R261): Within 100 tb of a core's halt, the ring engine posts an error completion for every request the core had popped and not posted. -/
  | haltedCoreRequestsEnd (r : Nat) (c : Nat)
  /-- SCOREBOARD_GRANT (R269): The scoreboard grants a waiting request whose ranges have become compatible, and stamps the new entries. -/
  | scoreboardGrant (r : Nat) (i : Nat) (bad : Bool)
  /-- DMA_COPY (R277): A submitted COPY descriptor is checked and queued, or refused with SUB_REFUSED. -/
  | dmaCopy (r : Nat) (e : Nat) (d : DmaDesc)
  /-- DMA_SKEW (R277): A submitted SKEW descriptor is checked and queued to write linear vectors in skewed layout with a side area. -/
  | dmaSkew (r : Nat) (e : Nat) (d : DmaDesc)
  /-- DMA_UNSKEW (R277): A submitted UNSKEW descriptor is checked and queued to write skewed vectors back in linear form. -/
  | dmaUnskew (r : Nat) (e : Nat) (d : DmaDesc)
  /-- DMA_FILL (R277): A submitted FILL descriptor is checked and queued to write a repeated pattern. -/
  | dmaFill (r : Nat) (e : Nat) (d : DmaDesc)
  /-- DMA_DESCRIPTOR_START (R278): An engine takes up the descriptor at the head of its queue once its completion FIFO has room, and requests its reservations. -/
  | dmaDescriptorStart (r : Nat) (e : Nat)
  /-- DMA_COMPLETE (R280): A descriptor ends with one status, releases its ranges and enqueues exactly one completion record. -/
  | dmaComplete (r : Nat) (e : Nat) (err : Nat) (lines : Nat)
  /-- DMA_CPL_POP (R284): A 128-bit read of DMA_CPL pops the oldest completion record. -/
  | dmaCplPop (r : Nat) (e : Nat)
  /-- DMA_DESCRIPTOR_TIMEOUT (R484): A descriptor's DMA timeout expires, and it ends with DMA_TIMEOUT. -/
  | dmaDescriptorTimeout (r : Nat) (e : Nat) (lines : Nat)
  /-- INGRESS_TRANSACTION (R291): An ingress agent takes an arriving bridge transaction, reserves its units, performs it and releases them, or refuses it. -/
  | ingressTransaction (r : Nat) (a : Nat) (i : Nat) (bad : Bool)
  /-- NET_TIMEOUT_EXPIRY (R486): A network transaction has no response by its timeout, and the requester ends it with its timeout outcome. -/
  | netTimeoutExpiry (kind : Nat) (a : Nat) (b : Nat)
  /-- BANK_RET_ENTRY (R287): T_BANK of continuous inactivity expires, and the bank enters RET. -/
  | bankRetEntry (r : Nat) (b : Nat)
  /-- BANK_TRANSITION_COMPLETE (R286): A bank's ENTERING or WAKING transition completes. -/
  | bankTransitionComplete (r : Nat) (b : Nat)
  /-- BANK_SCRUB_END (R289): A bank's scrub ends, and it accepts traffic from the next cycle. -/
  | bankScrubEnd (r : Nat) (b : Nat)
  /-- UCIE_FLIT_RECEIVE (R303): A UCIe flit arrives and its CRC is checked. A good flit is acknowledged, and a bad one is NAKed for replay. More than 8 replays take the module out of service. -/
  | ucieFlitReceive (m : Nat) (seq : Nat) (idle : Bool) (crcOk : Bool) (cvc : Nat) (ccnt : Nat)
  /-- MEMORY_ACCESS (R309): An HBM4 or DDR5 access completes through the remap table: it is served, or answered DATA_LOST, UNIT_RETIRED or MEM_UNCORRECTABLE. -/
  | memoryAccess (a : Nat) (n : Nat) (wr : Bool) (data : List (BitVec 8)) (corr : Bool) (bad : Option Nat)
  /-- PAGE_REMAP_COMPLETE (R308): A retired page's copy ends and its logical page is switched to the spare. The stack or channel goes OUT past its limit. -/
  | pageRemapComplete (k : Nat)
  /-- HBM_TEMP_READ (R310): Every 1 ms the HBM4 temperature readout is taken for refresh and thermal control. -/
  | hbmTempRead (u : Nat) (v : Int)
  /-- DDR_SCRUB_COUNT_READ (R311): Every 1 s the DRAMs' error-check-and-scrub counts are read. -/
  | ddrScrubCountRead (d : Nat) (count : Nat) (errs : List Nat)
  /-- FETCH_COMMAND (R319): A 64-byte Primrose store to a fetch port is accepted into the bridge queue, or faults. -/
  | fetchCommand (r : Nat) (c : Nat)
  /-- FETCH_DISPATCH (R322): A queued fetch command is dispatched to a free row-fetch engine and checked. -/
  | fetchDispatch (b : Nat) (e : Nat)
  /-- FETCH_POOL (R323): A POOL command resolves, fetches, decodes and sums list rows into bags and writes them with their bounds. -/
  | fetchPool (b : Nat) (e : Nat)
  /-- FETCH_BLOCK_GATHER (R328): A BLOCK_GATHER copies KV blocks through the block map to the destination. -/
  | fetchBlockGather (b : Nat) (e : Nat) (bad : Bool)
  /-- FETCH_BLOCK_MOVE (R328): A BLOCK_MOVE copies each KV block and updates its map entry. -/
  | fetchBlockMove (b : Nat) (e : Nat) (bad : Bool)
  /-- ROW_READ_COMPLETE (R315): A row read returns from the cache or the home tier, is added to its bag, and may fill a cache way. -/
  | rowReadComplete (b : Nat) (e : Nat) (bad : Bool)
  /-- FETCH_COMPLETE (R327): A fetch command writes its single completion record after all its other writes. -/
  | fetchComplete (b : Nat) (e : Nat)
  /-- MIGRATION_PAGE_COPY_COMPLETE (R332): A drained or returned page finishes its copy and switches to its new place in one step. The channel state advances after the last page. -/
  | migrationPageCopyComplete (d : Nat)
  /-- CHANNEL_TEST_COMPLETE (R333): The TESTING march of a new DIMM ends. The channel becomes RETURNING, or FAILED with its switch off. -/
  | channelTestComplete (d : Nat) (reason : Nat) (pages : List Nat)
  /-- FLASH_READ_COMPLETE (R340): A flash codeword read ends at the first ladder step that decodes it, or is unreadable. -/
  | flashReadComplete (b : Nat) (e : Nat) (step : Nat)
  /-- FLASH_BATCH_COMMIT (R343): Every stripe and the journal record of a flash batch are programmed. The map entries switch and EPOCH becomes even. -/
  | flashBatchCommit (t : Nat) (toL : List Nat)
  /-- FLASH_PROGRAM_ERASE_COMPLETE (R350): A NAND program or erase ends. A failed block is retired and its data rewritten, and a failed die is retired and rebuilt. -/
  | flashProgramEraseComplete (c : Nat) (k : Nat) (die : Nat) (fail : Nat) (spareLeft : Nat) (peAvg : Nat) (peMax : Nat) (wa : Nat) (lost : List (Nat × Nat))
  /-- FLASH_RELOCATION_COMPLETE (R346): A relocated row group is written to new stripes, and its map entry switches in one step. -/
  | flashRelocationComplete (t : Nat) (g : Nat) (c : Nat) (k : Nat) (die : Nat) (balanced : Bool)
  /-- FLASH_RETENTION_EXPIRY (R349): A block's data passes T_RET for its temperature history and is queued for relocation, or becomes AT_RISK. -/
  | flashRetentionExpiry (c : Nat) (k : Nat) (gs : List (Nat × Nat))
  /-- FLASH_INTERFACE_TRAINING (R335): Every 1 s each ONFI channel runs DQ training and ZQ calibration. -/
  | flashInterfaceTraining (c : Nat) (k : Nat) (ok : Bool)
  /-- FLASH_MAP_RELOAD_COMPLETE (R338): A lost part of the flash working map has been reloaded from flash, and the fetches waiting on it proceed. -/
  | flashMapReloadComplete (b : Nat) (t : Nat)
  /-- CARD_TEST_COMPLETE (R357): A returned card finishes formatting or scanning and becomes REBALANCING, or FAILED, or is refused as CARD_FOREIGN. -/
  | cardTestComplete (c : Nat) (hdr : Nat) (serial : Nat) (reason : Nat) (balanced : Bool)
  /-- FABRIC_FRAME_RECEIVE (R365): A fabric frame arrives and its four codewords are decoded. On an uncorrectable codeword it is discarded and a NAK is sent. -/
  | fabricFrameReceive (port : Nat) (ok : Bool) (csym : Nat) (seqs : List Nat)
  /-- FABRIC_CONTROL_FLIT (R364): A control flit delivers cumulative ACK, NAK and credits, and any lane command. -/
  | fabricControlFlit (port : Nat) (ack : Nat) (nak : Bool) (creds : List Nat) (lcmd : Nat) (larg : Nat)
  /-- LANE_SWAP (R366): A SWAP lane command is received or sent, which schedules lane 8 to take over the named lane. -/
  | laneSwap (port : Nat) (lane : Nat) (received : Bool)
  /-- LANE_SWAP_EFFECTIVE (R366): At the 64th frame boundary after the SWAP or RETURN, the lane change takes effect in that direction. -/
  | laneSwapEffective (port : Nat) (tx : Bool)
  /-- LANE_RETURN (R367): A RETURN lane command gives a retrained lane its traffic back, and lane 8 goes back to PRBS31. -/
  | laneReturn (port : Nat) (lane : Nat) (received : Bool)
  /-- LANE_BER_WINDOW_END (R366): A 1 s BER window ends. Each lane's estimate is compared with its limit, which may trigger a swap or take the port down. -/
  | laneBerWindowEnd (port : Nat) (above : List Nat) (spareBad : Bool)
  /-- LANE_QUALIFICATION_END (R367): The 15.6 s measurement of a swapped-out lane ends. RETURN is sent if the lane passed, or its LANE_OK bit is cleared. -/
  | laneQualificationEnd (port : Nat) (pass : Bool)
  /-- FABRIC_PACKET_FORWARD (R376): A bridge looks up a transit or injected packet in the version its EPOCH bit names, picks a live candidate and forwards it, or discards it. -/
  | fabricPacketForward (inPort : Nat) (p : Pkt)
  /-- FABRIC_WRITE (R388): A WRITE packet is checked against its window and performed in the region, and ACK is returned. -/
  | fabricWrite (port : Nat) (p : Pkt)
  /-- FABRIC_READ_REQ (R388): A READ_REQ packet is checked against its window and answered with READ_RSP. -/
  | fabricReadReq (port : Nat) (p : Pkt)
  /-- FABRIC_READ_RSP (R383): A READ_RSP reaches its source bridge and completes its tracked request, or is discarded as LATE. -/
  | fabricReadRsp (port : Nat) (p : Pkt)
  /-- FABRIC_ACK (R383): An ACK reaches its source bridge and completes its tracked request, or is discarded as LATE. -/
  | fabricAck (port : Nat) (p : Pkt)
  /-- FABRIC_FETCH (R394): A FETCH packet from another module takes a fabric queue place, or is answered FAB_QUEUE_FULL. -/
  | fabricFetch (port : Nat) (p : Pkt)
  /-- FABRIC_MSG (R416): A MSG packet writes a mailbox channel and is answered with OK or the refusal code. -/
  | fabricMsg (port : Nat) (p : Pkt)
  /-- FABRIC_TOKEN (R395): A TOKEN packet reports slack or transfers power budget, and is answered. -/
  | fabricToken (port : Nat) (p : Pkt)
  /-- FABRIC_POISON (R465): A POISON verdict arrives and is applied to held writes and provisional entries. -/
  | fabricPoison (port : Nat) (p : Pkt)
  /-- FABRIC_WITREC (R534): A WITREC packet delivers Witness items to the unit. -/
  | fabricWitrec (port : Nat) (p : Pkt)
  /-- FAB_STALL_EXPIRY (R378): A packet has waited 2 ms for credit at the head of an output queue. It is discarded and answered FAB_STALL. -/
  | fabStallExpiry (port : Nat)
  /-- FAB_REQUEST_TIMEOUT (R383): A tracked fabric request has had no response by its timeout, and completes with FAB_TIMEOUT. -/
  | fabRequestTimeout (b : Nat) (tag : Nat)
  /-- INJECTION_STEP_EVAL (R386): Every 1 µs each output port's injection step is re-evaluated from its queue depth. -/
  | injectionStepEval
  /-- ROUTE_COMMIT_TICK (R380): At the commit tick, ACT switches to the staged version and the old version becomes DRAINING. -/
  | routeCommitTick
  /-- ROUTE_VERSION_FREE (R381): A DRAINING version has held no packet for 10 µs, or its drain limit passes, and it becomes FREE. -/
  | routeVersionFree (b : Nat)
  /-- BINDING_SEND_START (R391): A binding's data and side write reservations have been granted, and its read request is placed to start a send. -/
  | bindingSendStart (n : Nat)
  /-- BINDING_SEND_COMPLETE (R393): Every WRITE of a send has been answered. The NOTIFY doorbell goes out, or the binding halts. -/
  | bindingSendComplete (n : Nat)
  /-- PORT_LINK_LOSS (R396): A port loses frame lock or its partner's control flits, or hits a replay or lane limit, and goes DOWN_RUNTIME. -/
  | portLinkLoss (port : Nat)
  /-- PORT_RETRAIN_START (R396): One second after the loss, and every 10 s after a failed attempt, a down port starts retraining. -/
  | portRetrainStart (port : Nat)
  /-- PORT_QUALIFICATION_END (R138): A port's qualification session ends, and the port becomes UP, UP_SPARE or DOWN. -/
  | portQualificationEnd (port : Nat) (lanes : BitVec 9) (partner : Bool)
  /-- CHAVI_FRAME_RECEIVE (R399): A Chavi frame arrives and is decoded, with a NAK and replay on an uncorrectable codeword. -/
  | chaviFrameReceive (ok : Bool) (idle : Bool) (seq : Nat) (nak : Bool) (ack : Nat)
  /-- CHAVI_LINK_UP (R598): Frame alignment holds on all four lanes and a CREDIT has arrived. The link is up and pending deliveries and events are sent. -/
  | chaviLinkUp
  /-- CHAVI_LINK_DOWN (R598): The Chavi link loses alignment, passes its replay limit, misses CREDIT for 10 µs or loses its optical module. -/
  | chaviLinkDown (cause : Nat)
  /-- CREDIT (R401): A CREDIT packet returns cumulative receive-buffer credits. -/
  | credit (h : ChaviHdr) (freed : Nat)
  /-- MBX_SEND (R409): A Chavi MBX_SEND writes a message to a mailbox channel under the checks of R409 and is answered with RSP. -/
  | mbxSend (h : ChaviHdr) (ch : Nat) (msg : List (BitVec 8))
  /-- MBX_DONE (R600): A Chavi MBX_DONE is checked and, if it passes, takes the held message. -/
  | mbxDone (h : ChaviHdr) (ch : Nat) (mseq : Nat) (code : Nat)
  /-- DW_READ (R571): A DW_READ returns words of the spine register block without side effects. -/
  | dwRead (h : ChaviHdr) (off : Nat) (n : Nat) (bad : List Nat)
  /-- HWRITE (R402): A host write through a window is checked and forwarded to the window's home. -/
  | hwrite (h : ChaviHdr) (win : Nat) (off : Nat) (wepoch : Nat) (data : List (BitVec 8))
  /-- HREAD (R402): A host read through a window is checked and answered with data. -/
  | hread (h : ChaviHdr) (win : Nat) (off : Nat) (wepoch : Nat) (n : Nat)
  /-- MBX_ACK_WRITE (R411): A management-core write of MBX_ACK with a matching MSEQ clears FULL and records the ACK. -/
  | mbxAckWrite (n : Nat) (seq : Nat) (code : Nat)
  /-- MBX_TAKE_READ (R419): A read of MBX_TAKE returns the held message's stamp and, in streaming mode, takes it. -/
  | mbxTakeRead (n : Nat)
  /-- MBX_PEER_RESEND (R414): Every 1 ms until it is acknowledged, a message for a fabric-peer channel is sent again as a MSG packet. -/
  | mbxPeerResend (n : Nat)
  /-- REQ_TAIL (R431): A REQ_TAIL doorbell sets a ring's PI after the doorbell checks. -/
  | reqTail (path : BellPath) (ring : Nat) (value : Nat) (rsv : Nat)
  /-- REQ_ADD (R431): A REQ_ADD doorbell advances a ring's PI after the doorbell checks. -/
  | reqAdd (path : BellPath) (ring : Nat) (value : Nat) (rsv : Nat)
  /-- CPL_HEAD (R431): A CPL_HEAD doorbell sets a ring's CCI, and the places it frees go to held error completions first. -/
  | cplHead (path : BellPath) (ring : Nat) (value : Nat) (rsv : Nat)
  /-- REQ_TIMEOUT (R488): A popped request's TMO expires. It leaves the outstanding table and its REQ_TIMEOUT error completion is posted, or held. -/
  | reqTimeout (n : Nat) (i : Nat)
  /-- JOB_TIMEOUT (R489): A job timer expires. Its outstanding requests receive JOB_TIMEOUT, and its later entries are ended at the ring head. -/
  | jobTimeout (job : Nat)
  /-- DEVICE_INFO (R446): The command writes the 1,024-byte device information, including one whole defect-map epoch. -/
  | deviceInfo (h : CmdHdr)
  /-- DEFECT_MAP (R139): The command writes the 512-byte defect map. -/
  | defectMap (h : CmdHdr)
  /-- BOOT_LOG (R593): The command writes one boot-log half and, for half 0, clears BOOT.READY if BOOT_NO has not changed. -/
  | bootLog (h : CmdHdr) (half : Nat)
  /-- POWER_STATUS (R446): The command writes PWR_ROW and PWR_DOM from one window. -/
  | powerStatus (h : CmdHdr)
  /-- CLOCK_STATUS (R446): The command writes CLK_STEP, CLK_STEP_AT and the CLK_ROW registers, clearing their RC fields. -/
  | clockStatus (h : CmdHdr)
  /-- FABRIC_STATUS (R446): The command writes FAB_ROUTE and the FAB_PORT registers of one bridge. -/
  | fabricStatus (h : CmdHdr) (b : Nat)
  /-- FLASH_HEALTH (R361): The command writes the card and channel health records and restarts the since-last-read counts. -/
  | flashHealth (h : CmdHdr)
  /-- ERROR_LOG_READ (R592): The command writes error records from FROM and clears the attention leaves below NEXT. -/
  | errorLogRead (h : CmdHdr) (start : Nat) (max : Nat)
  /-- ROW_POWER_POLICY (R104): The command sets T_NAP, T_SLEEP and T_BANK for one row or all rows. -/
  | rowPowerPolicy (h : CmdHdr) (r : Nat) (tNap : Nat) (tSleep : Nat) (tBank : Nat)
  /-- ROW_POWER (R601): The command puts a row in SLEEP or OFF at its next idle moment, or wakes it. -/
  | rowPower (h : CmdHdr) (r : Nat) (st : Nat)
  /-- ROW_REARM (R83): The command gives a DARK row a fresh automatic retry, which starts at once. -/
  | rowRearm (h : CmdHdr) (r : Nat)
  /-- BANK_POWER (R288): The command turns a bank OFF, refusing with BANK_BUSY when it is in use, or turns it ON with a scrub. -/
  | bankPower (h : CmdHdr) (r : Nat) (b : Nat) (st : Nat)
  /-- POWER_CAP (R512): The command sets the module, package and half limits. -/
  | powerCap (h : CmdHdr) (module : Nat) (package : Nat) (halfN : Nat) (halfS : Nat)
  /-- STEP_LIMIT (R512): The command bounds the steps that the controller arms. -/
  | stepLimit (h : CmdHdr) (min : Nat) (max : Nat)
  /-- ENERGY_REPORT (R528): The command writes the energy report header and the interval records. -/
  | energyReport (h : CmdHdr) (job : Nat) (start : Nat)
  /-- POWER_GROUP (R529): The command joins a power group, leaves it, or reconciles the module's share. -/
  | powerGroup (h : CmdHdr) (op : Nat) (grp : Nat) (budget : Nat)
  /-- WATCHDOG (R258): The command writes a Primrose slot's watchdog period. -/
  | watchdog (h : CmdHdr) (r : Nat) (slot : Nat) (period : Nat)
  /-- PROGRAM_LOAD (R448): The command checks a program image, writes its sections, grants the Aster read reservations and starts the Primrose slots. -/
  | programLoad (h : CmdHdr) (r : Nat) (prog : Nat) (flags : Nat) (region : Nat) (units : Nat) (src : Nat) (len : Nat)
  /-- PROGRAM_UNLOAD (R446): The command halts a program's slots, frees its region and reservations, and completes when its tiles are EMPTY. -/
  | programUnload (h : CmdHdr) (r : Nat) (prog : Nat)
  /-- SELF_TEST (R478): The command runs the targeted test of a named unit and returns its outcome. -/
  | selfTest (h : CmdHdr) (u : Nat)
  /-- UNIT_RECOVER (R492): The command recovers or swaps a slot, retrains a lane or port, or resets a row or bridge. -/
  | unitRecover (h : CmdHdr) (u : Nat) (copyBad : Bool)
  /-- TIMEOUT_SET (R484): The command sets a timeout level, or the timeout of a job. -/
  | timeoutSet (h : CmdHdr) (level : Nat) (job : Nat) (value : Nat)
  /-- RECALIBRATE (R505): The command starts a live trim search on the named rows, or a temperature-sensor calibration. -/
  | recalibrate (h : CmdHdr) (r : Nat) (what : Nat)
  /-- DEFECT_CLEAR (R141): The command withdraws carried defects at the next bring-up. -/
  | defectClear (h : CmdHdr) (u : Nat)
  /-- RESTART (R142): After its reply, the command starts a warm restart with the memories in self-refresh. -/
  | restart (h : CmdHdr) (kind : Nat)
  /-- HANDOFF (R500): The command starts a firmware handoff, having the standby core fetch and verify an image. -/
  | handoff (h : CmdHdr) (image : Nat)
  /-- HANDOFF_IMAGE_VERIFIED (R501): Once the new image is verified, the running core stops, carries its commands in the handoff record, and the boot role moves to the standby. -/
  | handoffImageVerified
  /-- MEM_CLAIM (R603): The command claims every logical page that an aligned range reaches. -/
  | memClaim (h : CmdHdr) (base : Nat) (len : Nat)
  /-- MEM_RELEASE (R603): The command releases claimed pages that nothing still uses. -/
  | memRelease (h : CmdHdr) (base : Nat) (len : Nat)
  /-- PAGE_FREE (R309): The command remaps LOST pages to good zero-filled pages. -/
  | pageFree (h : CmdHdr) (base : Nat) (len : Nat)
  /-- TABLE_CREATE (R449): The command places a table descriptor on its bridge, zeroes its partition tags and, for flash, reserves space. -/
  | tableCreate (h : CmdHdr) (table : Nat) (bridge : Nat) (home : Nat) (type : Nat) (hash : Nat) (seed : Nat) (nrows : Nat) (dim : Nat) (fmt : Nat) (fill : Nat) (part : Nat) (rowBase : Nat) (keyBase : Nat) (partBase : Nat) (bsize : Nat) (mapBase : Nat) (mapInit : Nat)
  /-- TABLE_UPDATE (R450): The command applies a batch of whole rows under the epoch protocol. -/
  | tableUpdate (h : CmdHdr) (table : Nat) (count : Nat) (src : Nat)
  /-- TABLE_DESTROY (R446): The command removes a table once its accepted fetches have completed, and frees its partition and flash space. -/
  | tableDestroy (h : CmdHdr) (table : Nat)
  /-- CHANNEL_DRAIN (R332): The command starts moving a DDR5 channel's logical pages to the other channels of its bridge. -/
  | channelDrain (h : CmdHdr) (d : Nat) (rate : Nat)
  /-- CHANNEL_RETURN (R333): The command powers a replaced DIMM, trains and tests it, and then returns the channel's pages. -/
  | channelReturn (h : CmdHdr) (d : Nat) (rate : Nat) (present : Bool)
  /-- LOCATE (R46): The command sets or clears the amber locate blink of an OFF slot or bay. -/
  | locate (h : CmdHdr) (kind : Nat) (index : Nat) (on : Nat)
  /-- FLASH_POLICY (R446): The command sets the flash migration rate of a bridge. -/
  | flashPolicy (h : CmdHdr) (b : Nat) (rate : Nat)
  /-- CARD_DRAIN (R356): The command starts moving every row group off a flash card. -/
  | cardDrain (h : CmdHdr) (c : Nat)
  /-- CARD_RETURN (R357): The command powers, identifies and tests a returned card, formatting it when FORMAT is set. -/
  | cardReturn (h : CmdHdr) (c : Nat) (flags : Nat) (present : Bool)
  /-- ENDPOINT_ASSIGN (R370): The command sets the module's EPBASE. -/
  | endpointAssign (h : CmdHdr) (ep : Nat)
  /-- ROUTE_STAGE (R380): The command writes routing entries into the non-active version and leaves it STAGED. -/
  | routeStage (h : CmdHdr) (b : Nat) (first : Nat) (count : Nat) (src : Nat)
  /-- ROUTE_COMMIT (R380): The command arms a version switch on both bridges at a tick at least 50 tb ahead. -/
  | routeCommit (h : CmdHdr) (tick : Nat) (drain : Nat)
  /-- MAP_WINDOW (R389): The command opens a window, or maps it again with a new epoch after the old requests have been performed. -/
  | mapWindow (h : CmdHdr) (win : Nat) (perm : Nat) (home : Nat) (base : Nat) (len : Nat) (srcf : List (Nat × Nat))
  /-- UNMAP_WINDOW (R389): The command closes an open window and increments its epoch. -/
  | unmapWindow (h : CmdHdr) (win : Nat)
  /-- BINDING (R451): The command creates, replaces, resumes or deletes a send binding. -/
  | binding (h : CmdHdr) (bind : Nat) (op : Nat) (r : Nat) (b : Nat) (comp : Nat) (fmt : Nat) (flow : Nat) (dline : Nat) (dlen : Nat) (sline : Nat) (slen : Nat) (dst : Nat) (win : Nat) (wepoch : Nat) (doff : Nat) (soff : Nat) (v : Nat) (k : Nat) (stride : Nat) (notify : Nat) (ndst : Nat) (nword : Nat)
  /-- FABRIC_POLICY (R386): The command sets a bridge's injection thresholds. -/
  | fabricPolicy (h : CmdHdr) (b : Nat) (q1 : Nat) (q2 : Nat) (q3 : Nat) (q4 : Nat)
  /-- CHANNEL_CONFIGURE (R421): The command writes a mailbox channel's configuration. -/
  | channelConfigure (h : CmdHdr) (ch : Nat) (rcv : Nat) (flags : Nat) (smatch : Nat) (rdest : Nat) (rchan : Nat)
  /-- RING_CREATE (R423): The command creates a ring, allocates its outstanding area and zeroes its completion ring. -/
  | ringCreate (h : CmdHdr) (ring : Nat) (owner : Nat) (slots : Nat) (log2 : Nat) (cqtarget : Nat) (cqchan : Nat) (notify : Nat) (dbchavi : Nat) (rq : Nat) (cq : Nat) (dbsrc : List (Nat × Nat)) (tmo : Nat)
  /-- RING_DESTROY (R434): The command destroys an idle or FAILED ring. -/
  | ringDestroy (h : CmdHdr) (ring : Nat)
  /-- RING_MODIFY (R434): The command replaces a ring's slots, notify, doorbell permissions and timeout. -/
  | ringModify (h : CmdHdr) (ring : Nat) (slots : Nat) (notify : Nat) (dbchavi : Nat) (dbsrc : List (Nat × Nat)) (tmo : Nat)
  /-- WITNESS_RING (R542): The command opens a Witness ring with its OPEN entry, or closes it with a final seal. -/
  | witnessRing (h : CmdHdr) (w : Nat) (pred : Nat) (flags : Nat) (n : Nat) (thr : Nat) (base : Nat) (len : Nat)
  /-- WITNESS_SEAL (R549): The command triggers a seal of a Witness ring and completes when the seal is written. -/
  | witnessSeal (h : CmdHdr) (w : Nat)
  /-- ATTEST_QUOTE (R559): The command writes a signed quote over the measurement log. -/
  | attestQuote (h : CmdHdr) (nonce : List (BitVec 8))
  /-- DEBUG_UNLOCK (R565): The command checks a signed debug token and ORs its scope into the scope in force. -/
  | debugUnlock (h : CmdHdr) (token : List (BitVec 8)) (sig : List (BitVec 8))
  /-- KEY_REVOKE (R564): The command checks a signed revocation record and blows a KEYREV bit. -/
  | keyRevoke (h : CmdHdr) (record : List (BitVec 8)) (sig : List (BitVec 8))
  /-- REPLY_RETRY (R439): Every 1 ms for 1 s, Gwynpin retries a reply whose private channel is FULL, then abandons it. -/
  | replyRetry (i : Nat)
  /-- POISON_DEADLINE (R465): A provisional entry or held WRITE reaches its deadline without a verdict and becomes POISONED. -/
  | poisonDeadline
  /-- HELD_RPUSH_RESOLVE (R467): A tainted core's held RPUSH resolves and is posted as written, or as a POISONED error completion. -/
  | heldRpushResolve (r : Nat) (c : Nat)
  /-- TARGETED_TEST_START (R475): Within 10 ms of an error record on a testable unit, Gwynpin places the unit in the state the test needs and starts its test. -/
  | targetedTestStart (u : Nat)
  /-- TEST_NEEDS_TIMEOUT (R476): The test's needs are not met within 10 ms, and the outcome is UNTESTABLE. -/
  | testNeedsTimeout (u : Nat)
  /-- TARGETED_TEST_RETRY (R476): One second after an UNTESTABLE outcome, the test is retried. -/
  | targetedTestRetry (u : Nat)
  /-- TARGETED_TEST_END (R477): A targeted test ends TRANSIENT or LASTING, and the unit returns to service or is retired. -/
  | targetedTestEnd (u : Nat) (pass : Bool) (rt : RowTest) (badBanks : List Nat)
  /-- SLOT_RECOVERY (R492): Gwynpin recovers a halted Aster or Primrose slot: test, spare, reservation marking and restore. -/
  | slotRecovery (ast : Bool) (r : Nat) (t : Nat)
  /-- MGMT_WATCHDOG_RESTART (R484): Gwynpin restarts the management watchdog. -/
  | mgmtWatchdogRestart
  /-- MGMT_WATCHDOG_EXPIRY (R503): The management watchdog expires, and the spine performs a failover to the standby core. -/
  | mgmtWatchdogExpiry (dup : Bool)
  /-- MC_HALT (R503): The running management core halts on a double trap or a parity error, which causes a failover. -/
  | mcHalt (dup : Bool)
  /-- FAILOVER_RESUME (R503): The new core rebuilds its state from the journal and completes or acknowledges the commands that were interrupted. -/
  | failoverResume
  /-- POWER_FAST_CHECK (R513): Every 1 µs, a failing fast check of Table 19.1 arms one step lower. -/
  | powerFastCheck (m : FastMeans)
  /-- PHASE_MARKER (R519): A phase marker reaches the controller, which recomputes the ceiling and arms it. -/
  | phaseMarker
  /-- THERMAL_SENSOR_READ (R520): A sensor reading is filtered and compared with its throttle, release and critical thresholds. -/
  | thermalSensorRead (k : Nat) (v : Int)
  /-- THERMAL_CEILING_RAISE (R521): After 10 ms with every value below release, the thermal ceiling rises by one step. -/
  | thermalCeilingRaise
  /-- PEER_DISCOVERY (R530): Once per second a group member sends report TOKENs to find its peers and updates its roster. -/
  | peerDiscovery
  /-- TOKEN_REPORT_PERIOD (R531): Every 10 ms a member reports its SLACK and cap to its peers, and may send one grant. -/
  | tokenReportPeriod
  /-- WITNESS_ITEM (R534): A fetch, group or decision item is accepted into the item area, or discarded. -/
  | witnessItem (i : Nat)
  /-- WITNESS_ITEM_EXPIRY (R534): An unlinked item held for 5,000,000 tb is discarded. -/
  | witnessItemExpiry (i : Nat)
  /-- WITNESS_EVALUATION (R539): A WITNESS completion is evaluated against its ring's capture predicates, assembled into a record if captured, and then posted. -/
  | witnessEvaluation (i : Nat)
  /-- FETCH_ITEM_WAIT_EXPIRY (R540): The 5,000 tb wait for linked fetch items ends short, and the record carries FETCH_SHORT. -/
  | fetchItemWaitExpiry (i : Nat)
  /-- STALL_HOLD_EXPIRY (R541): A record held under STALL for 5,000,000 tb is given up, and its completion posts. -/
  | stallHoldExpiry (w : Nat)
  /-- WITNESS_ENTRY_WRITE (R543): An accepted entry is written to its Witness ring once space allows, and PRODUCED advances. -/
  | witnessEntryWrite (w : Nat)
  /-- SEAL_TIMER (R549): Fifty million ticks after the last seal, with new chained entries written, a seal is triggered. -/
  | sealTimer (w : Nat)
  /-- SEAL_WRITE (R549): The signing engine finishes a seal, and the seal entry is written. -/
  | sealWrite
  /-- IMG_REQ_RESPONSE (R557): An RSP answering IMG_REQ delivers image data, or UNIT_ABSENT. -/
  | imgReqResponse (idx : Nat) (off : Nat) (absent : Bool) (data : List (BitVec 8))
  /-- IMG_REQ_RESEND (R557): An IMG_REQ without an RSP after 1 s is sent again. After three resends the fetch fails. -/
  | imgReqResend
  /-- SES_HELLO (R560): A HELLO ends any session and starts key agreement. -/
  | sesHello (h : ChaviHdr) (total : Nat) (off : Nat) (frag : List (BitVec 8))
  /-- SES_OFFER_SEND (R561): The device encapsulates, signs T1 and sends the OFFER. -/
  | sesOfferSend
  /-- SES_PROOF (R561): The host's PROOF is verified, and SES_DONE returns OK and starts the authenticated session, or SIG_INVALID. -/
  | sesProof (h : ChaviHdr) (total : Nat) (off : Nat) (frag : List (BitVec 8))
  /-- AUTH_LOCKOUT_END (R563): Ten seconds after the fifth consecutive set-up failure, HELLO is accepted again. -/
  | authLockoutEnd
  /-- NOISE_HEALTH_CHANGE (R554): The noise source health test starts or stops failing. -/
  | noiseHealthChange (bad : Bool)
  /-- DBG_READ (R566): An authenticated DBG_READ within the scope reads the management address space. -/
  | dbgRead (h : ChaviHdr) (a : Nat) (n : Nat)
  /-- DBG_WRITE (R566): An authenticated DBG_WRITE within the scope writes the management address space. -/
  | dbgWrite (h : ChaviHdr) (a : Nat) (data : List (BitVec 8))
  /-- SPN_ATTN_CLEARBELOW (R591): A write of N clears the EVENT leaves of every branch whose LASTREC lies below N. -/
  | spnAttnClearbelow (n : Nat)
  /-- SPN_TB_LOW_READ (R88): A 32-bit read of the timebase low word latches the high word for the next read. -/
  | spnTbLowRead (high : Bool)
  /-- AST_PLANES_READ (R241): A read of AST_PLANES returns and clears the plane counters. -/
  | astPlanesRead (r : Nat) (t : Nat)
  /-- SCB_STATUS_READ (R273): A read of SCB_STATUS returns and clears HIWAT and FULLSEEN. -/
  | scbStatusRead (r : Nat)
  /-- CLK_ROW_READ (R109): A read of CLK_ROWr returns and clears the stretch, crossing-hold and clock-hold counts. -/
  | clkRowRead (r : Nat)
  /-- WIT_CNT_READ (R551): A read of WIT_CNTn returns and clears the Witness counters. -/
  | witCntRead (n : Nat)
  /-- REGISTER_WRITE (R10): A write to a register without a row of its own acts under its access codes, such as RW fields, W1C leaves and enables. -/
  | registerWrite (a : Nat) (v : Nat)
  /-- ATTN_N_RELEASE (R596): ATTN_N is released once the summary is 0 and it has been low for 100 µs. -/
  | attnNRelease
  /-- ATTN_EVENT_DEFERRED (R597): At the end of the 10 µs spacing, the spine sends an EVENT carrying the current summary if it changed. -/
  | attnEventDeferred
  /-- DIMM_FAULT (R331): A DDR5 channel's sideband reports a DIMM fault, the channel becomes FAILED, and its own mapped pages become LOST. -/
  | dimmFault (d : Nat)
  /-- QUALIFICATION_SESSION_REQUEST (R136): A link partner requests a qualification session on a port, and the module runs the session on that port alone. -/
  | qualificationSessionRequest (port : Nat)
  /-- QUOTE_SIGNING_COMPLETE (R559): The security engine finishes signing a queued attestation quote, the quote is written at RESPTR, and ATTEST_QUOTE completes. -/
  | quoteSigningComplete
  /-- BRIDGE_RELOAD_COMPLETE (R509): A reset or returned bridge finishes UCIe training, DDR5 self-refresh exit, flash rescan and the reload of its tables, windows, bindings and routes, and its rings are served again. -/
  | bridgeReloadComplete (b : Nat) (res : List CardTest)
  /-- RECALIBRATION_COMPLETE (R505): A live trim search of a row, or a sensor calibration, ends, and its new values enter the calibration table. -/
  | recalibrationComplete (sensors : Bool) (r : Nat) (v : Int)
  deriving DecidableEq, Repr

end Sys2Proof
end

