-- ==== Sys2Proof/Config.lean ====
section
/-! DEFINITION. What an implementation fixes and what the spec leaves open: opaque constants without a body, so that
no proof can rest on a value of one (notes/assumptions/11.md and the entries each docstring names). -/

namespace Sys2Proof.Config

/-- A value the spec leaves open, drawn by the counter State.fresh (log 11). -/
opaque freeNat : Nat → Nat

/-- Noise of the security engine, by draw (21 R554; log 11). -/
opaque noiseVal : Nat → BitVec (8 * 32)

/-- The boot ROM contents, fixed in silicon, which the spec does not give (21, Table 21.5; log 12). -/
opaque bootRom : List Byte

/-- The bytes of a word, low first. -/
def wordBytes (n : Nat) (v : BitVec (8 * n)) : List Byte := (List.range n).map (fun i => (v >>> (8 * i)).setWidth 8)

def noise (n : Nat) : List Byte := wordBytes 32 (noiseVal n)

/-- SHAKE256 to 64 bytes: FIPS 202 is not in the spec (log 12). -/
opaque shake256Val : List Byte → BitVec (8 * 64)
def shake256 (l : List Byte) : List Byte := wordBytes 64 (shake256Val l)

/-- Whether an SLH-DSA signature of the message is right under the key: FIPS 205 is not in the spec (log 12). -/
opaque slhVerify : List Byte → List Byte → List Byte → Bool

/-- The device's attestation key pair, derived from SEED: its public key, and the SLH-DSA-SHAKE-256f signatures it makes; FIPS
205 is not in the spec (log 12). -/
opaque attestKeyVal : Nat → BitVec (8 * 64)
opaque slhSignVal : Nat → List Byte → BitVec (8 * 49856)
def attestKey (seed : Nat) : List Byte := wordBytes 64 (attestKeyVal seed)
def slhSign (seed : Nat) (l : List Byte) : List Byte := wordBytes 49856 (slhSignVal seed l)

/-- The public key of the device's identity key pair, derived from SEED (21 R553; log 12). -/
opaque identKeyVal : Nat → BitVec (8 * 64)
def identKey (seed : Nat) : List Byte := wordBytes 64 (identKeyVal seed)

/-- The SLH-DSA-SHAKE-256f signatures made with the identity key (21 R553, R561; log 12). -/
opaque identSignVal : Nat → List Byte → BitVec (8 * 49856)
def identSign (seed : Nat) (l : List Byte) : List Byte := wordBytes 49856 (identSignVal seed l)

/-- The ML-KEM-1024 ciphertext of an encapsulation to a key with randomness: FIPS 203 is not in the spec (log 12). -/
opaque kemVal : List Byte → List Byte → BitVec (8 * 1568)
def kem (ek rnd : List Byte) : List Byte := wordBytes 1568 (kemVal ek rnd)

/-- The epilogue's approximated functions within their error (06 R155): function code, FP32 bits of the input (log 13). -/
opaque epiFn : Nat → Nat → Nat

/-- Results a RISC-V specification leaves to the implementation or gives by table: the vector reciprocal estimates and the
unordered sums, by instruction word and operands (10 R242; log 14). -/
opaque rvFloat : Nat → List Nat → Nat

/-- The identification CSRs mvendorid, marchid, mimpid, mhartid and mconfigptr of a core (number, row, slot), to which the
spec gives no values (10 R242; log 14). -/
opaque hartId : Nat → Nat → Nat → Nat

end Sys2Proof.Config
end

