-- ==== Sys2Proof/Machine/State.lean ====
section
/-! DEFINITION. The state of the module: plain data, every register, queue, counter, mode and pin the spec gives
it. A field's default is its value at reset (State.reset): the spec's, or a DESIGN CHOICE named in the log entry
its docstring gives. -/

namespace Sys2Proof.Machine

/-- One event record of the platform event area (02, R59). -/
structure EvtRecord where
  /-- Table 2.14; 02 R59. -/
  info : TripInfo := {}
  /-- 16 bits, SLOT_ID in [5:0]; 02 R59. -/
  slot : Nat := 0
  /-- record whole; 02 R60. -/
  crcOk : Bool := false
  deriving DecidableEq, Repr, Inhabited

/-- Identity area of the EEPROM as read (02, R56). -/
structure Identity where
  /-- 4 bytes; 02 R56 (DESIGN CHOICE at reset, log 1). -/
  magic : Nat := 0x4D36444B
  /-- CRC right; 02 R56 (DESIGN CHOICE at reset, log 1). -/
  crcOk : Bool := true
  /-- 16 bits; 02 R56 (DESIGN CHOICE at reset, log 1). -/
  format : Nat := 1
  /-- 8 bits; 02 R56 (DESIGN CHOICE at reset, log 1). -/
  boardRev : Nat := 0
  /-- 16 bytes; 02 R56 (DESIGN CHOICE at reset, log 1). -/
  partNo : Nat := 0
  /-- 16 bits; 02 R56 (DESIGN CHOICE at reset, log 1). -/
  mfgYear : Nat := 0
  /-- 8 bits; 02 R56 (DESIGN CHOICE at reset, log 1). -/
  mfgWeek : Nat := 0
  /-- 8 bits; 02 R56 (DESIGN CHOICE at reset, log 1). -/
  variant : Nat := 8
  /-- 16 bits; 02 R56 (DESIGN CHOICE at reset, log 1). -/
  ddrSlots : Nat := 0xFFFF
  /-- 8 bits; 02 R56 (DESIGN CHOICE at reset, log 1). -/
  flashBays : Nat := 0xFF
  /-- 16 bits; 02 R56 (DESIGN CHOICE at reset, log 1). -/
  fabConn : Nat := 0xFFF
  /-- 16 bytes; 02 R56 (DESIGN CHOICE at reset, log 1). -/
  serial : Nat := 0
  /-- 6 bytes; 02 R56 (DESIGN CHOICE at reset, log 1). -/
  mac : Nat := 0
  deriving DecidableEq, Repr, Inhabited

/-- The identity EEPROM (02, R55-R61). -/
structure Eeprom where
  /-- identity area; 02 R56 (DESIGN CHOICE at reset, log 1). -/
  ident : Identity := {}
  /-- 32 bits, next record 0-126; 02 R58 (DESIGN CHOICE at reset, log 1). -/
  hdrIndex : Nat := 0
  /-- 32 bits, records ever written; 02 R58 (DESIGN CHOICE at reset, log 1). -/
  hdrTotal : Nat := 0
  /-- 127 records by index; 02 R58 (DESIGN CHOICE at reset, log 1). -/
  records : List (Nat × EvtRecord) := []
  /-- trip whose record is to be written; 02 R60. -/
  recordDue : Option TripInfo := none
  /-- an access waits after lost arbitration: retries lost, tick of the last loss; 02 R61. -/
  arbLost : Option (Nat × Nat) := none
  /-- the BU0 read was abandoned; 02 R61. -/
  readAbandoned : Bool := false
  deriving DecidableEq, Repr, Inhabited

/-- A slot (0-15) or bay (16-23) power switch (02, R43-R49). -/
structure Switch where
  /-- OFF STARTING ON FAULT; 02 R44. -/
  st : SwState := .off
  /-- presence contact; 02 R45 (DESIGN CHOICE at reset, log 2). -/
  present : Bool := false
  /-- bay latch contact; 02 R45 (DESIGN CHOICE at reset, log 2). -/
  latchOpen : Bool := false
  /-- amber blink selected; 02 R46. -/
  locate : Bool := false
  /-- tick of the delayed opening; 02 R49. -/
  openAt : Option Nat := none
  /-- tick STARTING began; 02 R44. -/
  startedAt : Nat := 0
  deriving DecidableEq, Repr, Inhabited

/-- PWR_DOMn (03, R79). -/
structure PwrDom where
  /-- 16 bits, 10 mA; 03 R79. -/
  avg : Nat := 0
  /-- 16 bits, 10 mA; 03 R79. -/
  peak : Nat := 0
  /-- 16 bits, 2 mV; 03 R79. -/
  volt : Nat := 0
  /-- 8 bits; 03 R79. -/
  seq : Nat := 0
  /-- 4 bits; 03 R79. -/
  st : PwrState := .absent
  deriving DecidableEq, Repr, Inhabited

/-- A row converter and its headers (03, R64, R80-R83). -/
structure Conv where
  /-- PH_FAIL; 03 R80. -/
  phFail : BitVec 7 := 0
  /-- converter running; 03 R75. -/
  on : Bool := false
  /-- STATE; 03 R80. -/
  st : PwrState := .off
  /-- RETRY_USED; 03 R80. -/
  retryUsed : Bool := false
  /-- HALF_RATE of the last staging; 03 R80. -/
  halfRate : Bool := false
  /-- trip threshold at 50 %; 03 R82. -/
  halfThr : Bool := false
  /-- tick the retry begins; 03 R81. -/
  retryAt : Option Nat := none
  /-- tick the retry's staging ended; 03 R82. -/
  stagedAt : Option Nat := none
  /-- row rating; 03 R64. -/
  ratingMa : Nat := 84000
  deriving DecidableEq, Repr, Inhabited

/-- A staging in progress (03, R67, Table 3.4). -/
structure Staging where
  /-- row index; 03 R68. -/
  row : Nat := 0
  /-- schedule; 03 Table 3.4. -/
  fromSleep : Bool := false
  /-- half rate; 03 R70. -/
  half : Bool := false
  /-- next header stage to close, 0-16; 03 R67. -/
  next : Nat := 0
  /-- tick staging began; 03 R72. -/
  startTb : Nat := 0
  deriving DecidableEq, Repr, Inhabited

/-- A half's staging queue, current and network (03, R68-R72; 04, R110-R112). -/
structure Half where
  /-- rows waiting, in order of arrival; 03 R68. -/
  queue : List Nat := []
  /-- tick the head row reached the head; 03 R70. -/
  headSince : Nat := 0
  /-- at most one row; 03 R68. -/
  staging : Option Staging := none
  /-- measured half current, mA; 03 R69. -/
  iHalf : Nat := 0
  /-- I_HALF_LIM, A; 03. -/
  iLim : Nat := 360
  /-- the half is parked; 04 R110. -/
  parked : Bool := false
  /-- tick the half becomes usable; 04 R111. -/
  unparkAt : Option Nat := none
  /-- tick of the last network transaction; 04 R110. -/
  quietSince : Nat := 0
  deriving DecidableEq, Repr, Inhabited

/-- A shared rail (03, R62, R85). -/
structure Rail where
  /-- in regulation; 03 R63. -/
  inReg : Bool := false
  /-- single retry spent; 03 R85. -/
  retryUsed : Bool := false
  /-- tick of the retry; 03 R85. -/
  retryAt : Option Nat := none
  deriving DecidableEq, Repr, Inhabited

/-- Input, rails, converters, switches (02, 03). -/
structure Power where
  /-- the input switch; 02 R30 (DESIGN CHOICE at reset, log 3). -/
  inputSw : InputSw := .closed
  /-- a trip has fired; 02 R30. -/
  trip : Option TripInfo := none
  /-- module dark; 02 R30 (DESIGN CHOICE at reset, log 3). -/
  dark : Bool := false
  /-- MRST_N low; 02 R37. -/
  mrstLow : Bool := false
  /-- tick a cold bring-up starts; 02 R38. -/
  bringUpAt : Option Nat := none
  /-- level of PWR_OK; 02 R39. -/
  pwrOk : Bool := false
  /-- BU2 has completed; 02 R39. -/
  bu2Done : Bool := false
  /-- one per SharedRail (VSPINE up); 03 R62. -/
  rails : List Rail := [{}, {}, {}, {}, {}, {}, {}, {}, {}, {}, { inReg := true }]
  /-- PWR_DOM0-44; 03 R79. -/
  dom : List PwrDom := List.replicate 45 {}
  /-- row converters; 03 R80. -/
  conv : List Conv := List.replicate 12 {}
  /-- North, South; 03 R68. -/
  halves : List Half := [{}, {}]
  /-- D0-D15, FC0-FC7; 02 R44. -/
  switches : List Switch := List.replicate 24 {}
  /-- module input cap fell to 850 W; 03 R85. -/
  inputCap850 : Bool := false
  /-- optical module accepted; 02 R52 (DESIGN CHOICE at reset, log 2). -/
  j4Ok : Bool := true
  /-- J3 link; 02 R53 (DESIGN CHOICE at reset, log 2). -/
  j3Up : Bool := false
  /-- J3 has a MAC address; 02 R57. -/
  j3Enabled : Bool := true
  /-- PRESENT_N of L0-L11, true = high = no cable; 02 R50 (DESIGN CHOICE at reset, log 2). -/
  presentN : List Bool := List.replicate 12 true
  /-- SLOT_ID pins, 6 bits (pulled up); 02 R34. -/
  straps : Nat := 0x3F
  /-- MBX_MODE pin (pulled down); 02 R34. -/
  mbxModePin : Bool := false
  /-- VSPINE losses since input applied; 03 R85. -/
  vspineLosses : Nat := 0
  deriving DecidableEq, Repr, Inhabited

/-- RC fields of CLK_ROWr (04, R109). -/
structure ClkRow where
  /-- 16 bits, saturating; 04 R109. -/
  stretch : Nat := 0
  /-- 16 bits, saturating; 04 R109. -/
  xhold : Nat := 0
  /-- 8 bits, saturating; 04 R109. -/
  chold : Nat := 0
  deriving DecidableEq, Repr, Inhabited

/-- Timebase and step (04). -/
structure Clk where
  /-- 64-bit timebase; 04 R86. -/
  tb : Nat := 0
  /-- VSPINE in regulation; 04 R86. -/
  tbRunning : Bool := true
  /-- high word latched by a low read; 04 R88. -/
  tbHiLatch : Option Nat := none
  /-- reference lost; 04 R89. -/
  refLost : Bool := false
  /-- 3 bits CUR; 04 R101. -/
  cur : Nat := 0
  /-- 3 bits NEXT; 04 R101. -/
  next : Nat := 0
  /-- PEND; 04 R101. -/
  pend : Bool := false
  /-- LATE; 04 R101. -/
  late : Bool := false
  /-- BUSY; 04 R101. -/
  busy : Bool := false
  /-- a change is armed and its tick not reached; 04 R98. -/
  armed : Bool := false
  /-- 64 bits CLK_STEP_AT; 04 R102. -/
  stepAt : Nat := 0
  /-- held low word of CLK_STEP_AT; 04 R102. -/
  atLow : Nat := 0
  /-- 8 trims a row, units of 5 mV; 04 R93 (DESIGN CHOICE at reset, log 4). -/
  trims : List (List Int) := List.replicate 12 (List.replicate 8 0)
  /-- STRETCH XHOLD CHOLD; 04 R109. -/
  rowCnt : List ClkRow := List.replicate 12 {}
  /-- rows whose trim search runs or waits; 18 R505. -/
  recalRows : List Nat := []
  /-- tick at which sensor calibration began; 18 R506. -/
  recalSensors : Option Nat := none
  deriving DecidableEq, Repr, Inhabited

/-- A valid weight set of a pane (08, R211). -/
structure WSet where
  /-- pane; 08 R211. -/
  pane : Nat := 0
  /-- 4 bits; 08 R211. -/
  slot : Nat := 0
  /-- 4 bits; 08 R211. -/
  wfmt : Nat := 0
  /-- planes; 08 R211. -/
  pw : Nat := 0
  /-- scale unit; 08 R211. -/
  unit : Nat := 0
  deriving DecidableEq, Repr, Inhabited

/-- Epilogue settings of a pane (08, R212). -/
structure EpiSet where
  /-- 3 bits; 08 Table 8.6. -/
  func : Nat := 0
  /-- LAY; 08 Table 8.6. -/
  skewed : Bool := false
  /-- 4 bits; 08 Table 8.6. -/
  ofmt : Nat := 0
  /-- BF16 bits; 08 Table 8.6. -/
  g : Nat := 0
  /-- BF16 bits; 08 Table 8.6. -/
  werr : Nat := 0
  /-- FP32 bits; 08 Table 8.6. -/
  oscale : Nat := 0
  /-- scale_j, bias_j as FP32 bits; 08 R212. -/
  table : List (Nat × Nat) := []
  /-- an entry was not finite; 08 R212. -/
  nonFinite : Bool := false
  deriving DecidableEq, Repr, Inhabited

/-- Decider settings of a pane (08, R213, R214). -/
structure DecSet where
  /-- MODE; 08 R213. -/
  mode : DecMode := .off
  /-- k of TOPK; 08 R213. -/
  k : Nat := 0
  /-- FP32 bits; 08 R213. -/
  thr : Nat := 0
  /-- BF16 bits; 08 R213. -/
  tol : Nat := 0
  /-- record pointer, LN; 08 R214. -/
  ptr : Nat := 0
  /-- records left; 08 R214. -/
  cap : Nat := 0
  deriving DecidableEq, Repr, Inhabited

/-- Feature-group split of a pane (08, R215). -/
structure GrpSet where
  /-- group of each segment, 15 none; 08 R215. -/
  segg : List Nat := List.replicate 16 15
  /-- 9 bits; 08 R215. -/
  col0 : Nat := 0
  /-- 5 bits; 08 R215. -/
  ncol : Nat := 0
  /-- 16 bits; 08 R215. -/
  wtag : Nat := 0
  deriving DecidableEq, Repr, Inhabited

/-- An epilogue accumulator (07, R188). -/
structure Acc where
  /-- 48 bits; 07 R188. -/
  a : Int := 0
  /-- 16-bit exponent; 07 R188. -/
  t : Int := 0
  /-- 8 bits; 07 R188. -/
  nq : Nat := 0
  deriving DecidableEq, Repr, Inhabited

/-- Accumulators of one vector in flight (07, R188; 06, R164). -/
structure VecAcc where
  /-- one per column; 07 R188. -/
  cols : List Acc := []
  /-- key 8*column + group; 07 R192. -/
  grps : List (Nat × Acc) := []
  /-- largest vb_in + conv_in; none is +Inf; 06 R164. -/
  rx : Option Rat := some 0
  /-- running a1; 06 R164. -/
  a1 : Rat := 0
  deriving DecidableEq, Repr, Inhabited

/-- An open chain of a pane (08, R217). -/
structure Chain where
  /-- vectors; 08 R217. -/
  v : Nat := 0
  /-- AFMT; 08 R217. -/
  afmt : Nat := 0
  /-- held accumulators; 07 R174. -/
  vecs : List VecAcc := []
  /-- a link read a POISONED line; 17 R463. -/
  poisoned : Bool := false
  deriving DecidableEq, Repr, Inhabited

/-- Settings of one pane (08). -/
structure Pane where
  /-- EPI in force; 08 R207. -/
  epi : Option EpiSet := none
  /-- DECIDE; 08 R207. -/
  dec : DecSet := {}
  /-- GROUP; 08 R207. -/
  grp : GrpSet := {}
  /-- open chain; 08 R217. -/
  chain : Option Chain := none
  deriving DecidableEq, Repr, Inhabited

/-- A queue entry of a tile (08, R198, R202). -/
structure QEntry where
  /-- instruction; 08 R198. -/
  word : BitVec 128 := 0
  /-- index in its run, 0xFFFF pushed; 08 R221. -/
  fword : Nat := 0xFFFF
  /-- tick it became the oldest of its pane; 18 R487. -/
  since : Nat := 0
  /-- wait limit in force then; 18 R487. -/
  limit : Nat := 500000
  deriving DecidableEq, Repr, Inhabited

/-- An issued instruction not yet complete (08, R204). -/
structure Issued where
  /-- instruction; 08 R204. -/
  word : BitVec 128 := 0
  /-- index; 08 R221. -/
  fword : Nat := 0
  /-- tick of issue; 18 R487. -/
  issuedAt : Nat := 0
  /-- run limit in tb; 18 R487. -/
  limit : Nat := 0
  /-- pane; 08 R198. -/
  pane : Nat := 0
  /-- accumulators of a running MATV; 07 R188. -/
  vecs : List VecAcc := []
  /-- a source line failed parity or was POISONED; 17 R463. -/
  poisoned : Bool := false
  /-- planes evaluated, per wave of 32 vectors; 09 R225. -/
  planes : List Nat := []
  /-- bytes read that count as failing parity, 64 x LN + byte; 17 R456. -/
  bad : List Nat := []
  /-- outputs written, items handed to the Witness unit; 20 R535. -/
  written : Bool := false
  /-- vector, plane it stopped after; 09 R228. -/
  stops : List (Nat × Nat) := []
  /-- key 512*vector+column: 1 HIGH 2 LOW; 09 R228. -/
  latch : List (Nat × Nat) := []
  /-- same key: FP32 bits of d_j; 09 R235. -/
  dvals : List (Nat × Nat) := []
  /-- record pointer at issue; 08 R214. -/
  dptr : Nat := 0
  /-- pair sequence, 0 unpaired; 17 R458. -/
  seq : Nat := 0
  deriving DecidableEq, Repr, Inhabited

/-- The run of AST_RUN (08, R222). -/
structure RunCtl where
  /-- LN; 08 R222. -/
  line : Nat := 0
  /-- 0-3; 08 R222. -/
  word : Nat := 0
  /-- words; 08 R222. -/
  count : Nat := 0
  /-- words fetched; 08 R202. -/
  done : Nat := 0
  deriving DecidableEq, Repr, Inhabited

/-- An Aster slot's tile (07, 08). -/
structure Tile where
  /-- pane mode 0-2; 08 R207. -/
  mode : Nat := 0
  /-- pane settings; 07 R172. -/
  panes : List Pane := List.replicate 16 {}
  /-- valid weight sets; 08 R211. -/
  wsets : List WSet := []
  /-- plane store, key 16*pane + slot; 07 R167. -/
  planes : List (Nat × List (BitVec 8)) := []
  /-- scale store, by unit 0-63; 07 R167. -/
  scales : List (Nat × List (BitVec 8)) := []
  /-- at most 64; 07 R185. -/
  queue : List QEntry := []
  /-- running instructions; 08 R204. -/
  issued : List Issued := []
  /-- active run; 08 R222. -/
  run : Option RunCtl := none
  /-- HALTED; 08 R221. -/
  halted : Bool := false
  /-- FAULT; 08 R221. -/
  fault : Nat := 0
  /-- FWORD; 08 R221. -/
  fwordF : Nat := 0
  /-- PCODE; 08 R221. -/
  pcode : Nat := 0
  /-- PUSH_REFUSED; 08 R221. -/
  pushRefused : Bool := false
  /-- RUN_REFUSED; 08 R221. -/
  runRefused : Bool := false
  /-- last low half written; 08 R223. -/
  pushLow : BitVec 64 := 0
  /-- pushes that wait for the full queue; 07 R185. -/
  pushWait : List (BitVec 128) := []
  /-- 32 bits RUN; 09 R241. -/
  planesRun : Nat := 0
  /-- 32 bits SKIP; 09 R241. -/
  planesSkip : Nat := 0
  /-- phase the controller was last told, 0 none; 08 R206. -/
  phase : Nat := 0
  /-- a live swap has stopped fetch and issue; 18 R497. -/
  stopped : Bool := false
  /-- member of a pair; 07 R194. -/
  paired : Bool := false
  /-- origin, greatest sequence; 17 R460. -/
  taint : List (Nat × Nat) := []
  /-- taint POISONED; 17 R462. -/
  taintBad : Bool := false
  deriving DecidableEq, Repr, Inhabited

/-- A core's outstanding network access (10, R244). -/
structure PendMem where
  /-- instruction, 32 bits; 10 R244. -/
  word : Nat := 0
  /-- its bytes; 10 R242. -/
  len : Nat := 4
  /-- store; 10 R244. -/
  isStore : Bool := false
  /-- core address; 10 R243. -/
  addr : Nat := 0
  /-- tick its timer started: the path usable; 18 R486. -/
  startTb : Option Nat := none
  /-- network timeout in force; 18 R484. -/
  limit : Nat := 2500
  deriving DecidableEq, Repr, Inhabited

/-- What a WAITING core waits for (10, R250, R252). -/
structure CoreWait where
  /-- TBWAIT, else SRESV; 10 R252. -/
  isTb : Bool := false
  /-- tick; 10 R250. -/
  untilTb : Nat := 0
  /-- rs2 = 1; 10 R252. -/
  ring : Bool := false
  /-- destination register; 10 R246. -/
  rd : Nat := 0
  deriving DecidableEq, Repr, Inhabited

/-- A Primrose slot's core (10). -/
structure Core where
  /-- STATE; 10 R257. -/
  st : CoreSt := .reset
  /-- program counter; 10 R242. -/
  pc : BitVec 64 := 0
  /-- integer registers; 10 R242. -/
  x : List (BitVec 64) := List.replicate 32 0
  /-- floating-point registers; 10 R242 (DESIGN CHOICE at reset, log 5). -/
  f : List (BitVec 64) := List.replicate 32 0
  /-- vector registers, VLEN 512; 10 R242 (DESIGN CHOICE at reset, log 5). -/
  v : List (BitVec 512) := List.replicate 32 0
  /-- CSRs by number (unlisted 0); 10 R242 (DESIGN CHOICE at reset, log 5). -/
  csr : List (Nat × BitVec 64) := []
  /-- mtvec; 10 Table 10.1. -/
  mtvec : BitVec 64 := 0xFFFFFFFFFFFFFFFC
  /-- local memory, 256 KiB; 10 R243 (DESIGN CHOICE at reset, log 5). -/
  lmem : List Host.Cell := []
  /-- load reservation; 10 Table 10.1. -/
  resv : Option Nat := none
  /-- WDOG; 10 R257. -/
  wdog : Bool := false
  /-- PARITY; 10 R257. -/
  parity : Bool := false
  /-- HCODE; 10 R257. -/
  hcode : Nat := 0
  /-- PRM_WDOG PERIOD; 10 R258. -/
  period : Nat := 5000
  /-- tick the watchdog reaches 0; 10 R259. -/
  wdAt : Nat := 0
  /-- ticks left while paused; 10 R259. -/
  wdLeft : Nat := 0
  /-- wait; 10 R252. -/
  wait : Option CoreWait := none
  /-- outstanding access; 10 R244. -/
  mem : Option PendMem := none
  /-- ring last popped; 10 R247 (DESIGN CHOICE at reset, log 5). -/
  lastRing : Nat := 65535
  /-- held RPUSH: ring, entry, rd; 17 R467. -/
  heldPush : Option (Nat × List (BitVec 8) × Nat) := none
  /-- program number; 16 R448. -/
  prog : Option Nat := none
  /-- fetch commands outstanding per bridge; 12 R319. -/
  fetchOut : List Nat := [0, 0]
  /-- origin, sequence; 17 R460. -/
  taint : List (Nat × Nat) := []
  /-- taint POISONED; 17 R462. -/
  taintBad : Bool := false
  deriving DecidableEq, Repr, Inhabited

/-- A scoreboard entry (11, R268, R274). -/
structure ScbEntry where
  /-- 21 bits; 11 R274. -/
  line : Nat := 0
  /-- 13 bits, units; 11 R274. -/
  len : Nat := 0
  /-- WR; 11 R274. -/
  wr : Bool := false
  /-- 8 bits; 11 R274. -/
  owner : Nat := 0
  /-- tick of grant; 11 R274. -/
  tb : Nat := 0
  deriving DecidableEq, Repr, Inhabited

/-- A pending request (11, R269). -/
structure ScbReq where
  /-- owner code; 11 R269. -/
  owner : Nat := 0
  /-- LINE, LEN, WR; 11 R269. -/
  ranges : List (Nat × Nat × Bool) := []
  /-- arrival; 11 R269. -/
  tb : Nat := 0
  deriving DecidableEq, Repr, Inhabited

/-- A scratchpad bank (11, R286-R289). -/
structure Bank where
  /-- 3 bits; 11 R290. -/
  st : BankSt := .off
  /-- tick of last activity; 11 R287. -/
  idleSince : Nat := 0
  /-- T_BANK in force for the running idle interval; 16 R446. -/
  tIdle : Nat := 5000
  /-- ENTERING leads to OFF; 11 R286. -/
  toOff : Bool := false
  /-- a BANK_POWER OFF waits; 11 R288. -/
  cmdOff : Bool := false
  /-- woken once ENTERING ends; 11 R287. -/
  wakeAfter : Bool := false
  /-- held for a targeted test; 17 R476. -/
  inTest : Bool := false
  /-- WAKING from OFF: a scrub follows; 11 R289. -/
  fromOff : Bool := false
  deriving DecidableEq, Repr, Inhabited

/-- A DMA completion record (11, R284). -/
structure DmaCpl where
  /-- 16 bits; 11 R284. -/
  tag : Nat := 0
  /-- 16 bits; 11 R284. -/
  status : Nat := 0
  /-- 31 bits; 11 R284. -/
  done : Nat := 0
  /-- 64 bits; 11 R284. -/
  tb : Nat := 0
  /-- of a descriptor submitted by a core of the row; 18 R508. -/
  byCore : Bool := true
  deriving DecidableEq, Repr, Inhabited

/-- A DMA engine (11, R275-R284). -/
structure Dma where
  /-- at most 32, head first; 11 R275. -/
  queue : List DmaDesc := []
  /-- head taken up; 11 R281. -/
  active : Bool := false
  /-- WAIT_RESV; 11 R283. -/
  waitResv : Bool := false
  /-- tick it was taken up; 18 R484. -/
  startTb : Nat := 0
  /-- DMA timeout in force when it was taken up; 18 R484. -/
  limit : Nat := 500000
  /-- words written to DMA_DESC; 11 R282. -/
  stage : List (BitVec 64) := List.replicate 8 0
  /-- FIFO, at most 64; 11 R281. -/
  cpl : List DmaCpl := []
  /-- records waiting in queue places; 11 R281. -/
  held : List DmaCpl := []
  /-- submissions that wait for the full queue; 11 R282. -/
  subWait : List DmaDesc := []
  /-- SUB_REFUSED; 11 R283. -/
  subRefused : Bool := false
  /-- SCODE; 11 R283. -/
  scode : Nat := 0
  /-- origins; 17 R460. -/
  taint : List (Nat × Nat) := []
  /-- taint POISONED; 17 R462. -/
  taintBad : Bool := false
  deriving DecidableEq, Repr, Inhabited

/-- A bridge transaction of a row, on its way or held by an agent (11, R291). -/
structure Ingress where
  /-- write; 11 R291. -/
  isWrite : Bool := false
  /-- device address; 11 R291. -/
  addr : Nat := 0
  /-- bytes; 11 R291. -/
  bytes : Nat := 0
  /-- data of a write; 11 R291. -/
  data : List (BitVec 8) := []
  /-- source endpoint; 2^16 + 4*bridge + engine for a row-fetch engine; 11 R292. -/
  src : Nat := 0
  /-- FENCE; 11 R292. -/
  fence : Bool := false
  /-- provisional tag of a PROV WRITE; 17 R465. -/
  tag : Option Nat := none
  /-- its lines are POISONED; 17 R462. -/
  poisoned : Bool := false
  /-- who is answered: 0 a fabric request, 1 the Chavi host, 3 a send engine, 4 nobody, else a row-fetch engine; 11 R293. -/
  kind : Nat := 0
  /-- the fabric request answered, or the Chavi TAG in tag; 14 R383. -/
  pkt : Pkt := {}
  /-- bridge it came through; 11 R291. -/
  bridge : Nat := 0
  /-- tick of arrival; 17 R465. -/
  since : Nat := 0
  /-- taint of a row-fetch engine's write; 17 R460. -/
  origins : List (Nat × Nat) := []
  /-- side range of a send: LINE, LEN; 14 R391. -/
  side : Option (Nat × Nat) := none
  deriving DecidableEq, Repr, Inhabited

/-- An entry of the provisional table (17, R459). -/
structure ProvEntry where
  /-- first LN; 17 R459. -/
  line : Nat := 0
  /-- units; 17 R459. -/
  len : Nat := 0
  /-- up to 4: origin, sequence; 17 R459. -/
  origins : List (Nat × Nat) := []
  /-- state; 17 R459. -/
  poisoned : Bool := false
  /-- tick, remote origins; 17 R465. -/
  deadline : Option Nat := none
  deriving DecidableEq, Repr, Inhabited

/-- A pair of tiles (07, R194; 17, R458). -/
structure Pair where
  /-- pair exists; 07 R194. -/
  formed : Bool := false
  /-- next sequence, 15 bits; 17 R458. -/
  seq : Nat := 1
  /-- sequence resolved up to; 17 R461. -/
  done : Nat := 0
  deriving DecidableEq, Repr, Inhabited

/-- A loaded program of a row (16, R448). -/
structure Prog where
  /-- PROG; 16 R448. -/
  num : Nat := 0
  /-- LN; 16 R448. -/
  region : Nat := 0
  /-- units; 16 R448. -/
  units : Nat := 0
  /-- Aster slots named; 16 R448. -/
  aster : List Nat := []
  /-- Primrose slots named; 16 R448. -/
  prm : List Nat := []
  /-- PAIRED; 16 R448. -/
  paired : Bool := false
  /-- Aster words; 16 R448. -/
  words : Nat := 0
  /-- PROG_CRC; 20 Table 20.8. -/
  crc : Nat := 0
  /-- PROG_GEN; 20 Table 20.8. -/
  gen : Nat := 0
  /-- SRC; 18 R496. -/
  src : Nat := 0
  /-- LEN; 16 R448. -/
  len : Nat := 0
  /-- being unloaded; 16 Table 16.6. -/
  dying : Bool := false
  deriving DecidableEq, Repr, Inhabited

/-- A range whose write reservation starts a send (14, R391). -/
structure Watch where
  /-- binding; 14 R391. -/
  bind : Nat := 0
  /-- its side range; 14 R391. -/
  side : Bool := false
  /-- LINE; 14 R390. -/
  line : Nat := 0
  /-- LEN; 14 R390. -/
  len : Nat := 0
  /-- a write reservation covering it was granted since the last send; 14 R391. -/
  seen : Bool := false
  deriving DecidableEq, Repr, Inhabited

/-- Everything of one row (04, 07-11, 16, 17). -/
structure Row where
  /-- STATE; 04 R109. -/
  st : RowSt := .off
  /-- tick idling began; 04 R104. -/
  idleSince : Nat := 0
  /-- T_NAP; 04 R104. -/
  tNap : Nat := 250
  /-- T_SLEEP; 04 R104. -/
  tSleep : Nat := 50000
  /-- T_BANK; 11 R287. -/
  tBank : Nat := 5000
  /-- T_NAP in force for the running idle interval; 16 R446. -/
  napNow : Nat := 250
  /-- T_SLEEP in force for the running idle interval; 16 R446. -/
  sleepNow : Nat := 50000
  /-- a WAKING row was in SLEEP; 04 R601. -/
  fromSleep : Bool := false
  /-- entries of its rings are ended until a program is loaded; 04 R108. -/
  endsWork : Bool := false
  /-- ROW_POWER waiting for idle; 04 R601. -/
  target : Option RowTarget := none
  /-- row is OUT; 05 R131. -/
  rowOut : Bool := false
  /-- Aster slots 0-3; 07. -/
  tiles : List Tile := List.replicate 4 {}
  /-- Primrose slots 0-7; 10. -/
  cores : List Core := List.replicate 8 {}
  /-- pairs 0, 1; 17 R458. -/
  pairs : List Pair := [{}, {}]
  /-- DMA0-DMA3; 11 R275. -/
  dma : List Dma := List.replicate 4 {}
  /-- B00-B39; 11 R290. -/
  banks : List Bank := List.replicate 40 {}
  /-- at most 256; 11 R268. -/
  scb : List ScbEntry := []
  /-- oldest first; 11 R269. -/
  scbPend : List ScbReq := []
  /-- HIWAT; 11 R273. -/
  hiwat : Nat := 0
  /-- FULLSEEN; 11 R273. -/
  fullSeen : Bool := false
  /-- 16 agents; 11 R291. -/
  ingress : List (Option Ingress) := List.replicate 16 none
  /-- bridge transactions at the row's router, oldest first; 04 R107. -/
  arrivals : List Ingress := []
  /-- at most 64; 17 R459. -/
  prov : List ProvEntry := []
  /-- loaded programs; 16 R448. -/
  progs : List Prog := []
  /-- PROGRAM_LOADs accepted; 20 Table 20.8. -/
  progGen : Nat := 0
  /-- ranges of the bindings that send from the row; 14 R391. -/
  watch : List Watch := []
  /-- row reset running; 18 R508. -/
  inReset : Bool := false
  deriving DecidableEq, Repr, Inhabited

/-- Fuse verdicts of a row: listed = bad (05, R125). -/
structure RowFuse where
  /-- bad Aster positions; 05 R125 (DESIGN CHOICE at reset, log 1). -/
  ast : List Nat := []
  /-- bad Primrose positions; 05 R125 (DESIGN CHOICE at reset, log 1). -/
  prm : List Nat := []
  /-- bad banks; 05 R125 (DESIGN CHOICE at reset, log 1). -/
  banks : List Nat := []
  /-- bad DMA engines; 05 R125 (DESIGN CHOICE at reset, log 1). -/
  dma : List Nat := []
  /-- bad skip links, 0-4 A, 5-14 C; 05 R125 (DESIGN CHOICE at reset, log 1). -/
  skips : List Nat := []
  deriving DecidableEq, Repr, Inhabited

/-- The fuse array (05, R125; 21, R552). -/
structure Fuse where
  /-- VARIANT; 05 R125 (DESIGN CHOICE at reset, log 1). -/
  variant : Variant := .m8
  /-- verdicts; 05 R125 (DESIGN CHOICE at reset, log 1). -/
  rows : List RowFuse := List.replicate 12 {}
  /-- trims; 05 R125 (DESIGN CHOICE at reset, log 1). -/
  trims : List (List Int) := List.replicate 12 (List.replicate 8 0)
  /-- 32 bytes; 21 R552 (DESIGN CHOICE at reset, log 1). -/
  seed : Nat := 0
  /-- FWKEY0-3, 64 bytes each; 21 R552 (DESIGN CHOICE at reset, log 1). -/
  fwkeys : List Nat := [0, 0, 0, 0]
  /-- KEYPROG; 21 R552 (DESIGN CHOICE at reset, log 1). -/
  keyProg : BitVec 4 := 1
  /-- KEYREV; 21 R552 (DESIGN CHOICE at reset, log 1). -/
  keyRev : BitVec 4 := 0
  deriving DecidableEq, Repr, Inhabited

/-- A stage record (05, Table 5.2). -/
structure BootRec where
  /-- 0-10; 05 Table 5.2. -/
  stage : Nat := 0
  /-- STATUS; 05 Table 5.2. -/
  status : StageStatus := .pass
  /-- KIND; 05 Table 5.2. -/
  warm : Bool := false
  /-- BOOT_CORE; 05 Table 5.2. -/
  bootCore : Nat := 0
  /-- TB_START; 05 Table 5.2. -/
  tbStart : Nat := 0
  /-- TB_END; 05 Table 5.2. -/
  tbEnd : Nat := 0
  /-- BOOT_NO; 05 Table 5.2. -/
  bootNo : Nat := 0
  /-- at most 254; 05 Table 5.3. -/
  finds : List Finding := []
  deriving DecidableEq, Repr, Inhabited

/-- Bring-up (05; 22, R574, R575). -/
structure Boot where
  /-- STAGE; 22 R574. -/
  stage : Nat := 0
  /-- STATE; 22 R574. -/
  st : BootState := .running
  /-- KIND; 22 R574. -/
  warm : Bool := false
  /-- BOOT_CORE; 22 R574. -/
  bootCore : Nat := 0
  /-- CURHALF; 22 R574. -/
  curHalf : Nat := 0
  /-- BOOT_NO; 22 R574. -/
  bootNo : Nat := 0
  /-- tick the stage began; 05 R117. -/
  stageTb : Nat := 0
  /-- boot log halves; 05 R120. -/
  halves : List (List BootRec) := [[], []]
  /-- sampled SLOT_ID; 22 R575. -/
  slotId : Nat := 0
  /-- sampled MBX_MODE, true streaming; 22 R575. -/
  mbxMode : Bool := false
  /-- SAMPLED; 22 R575. -/
  sampled : Bool := false
  /-- UNSTABLE; 22 R575. -/
  unstable : Bool := false
  /-- SPN_CAPS loaded; 00 R2. -/
  capsLoaded : Bool := false
  /-- doorbells discarded before BU10; 05 R119. -/
  dbDiscarded : Nat := 0
  /-- carried defects: unit identifier, tick of the original error; 05 R141. -/
  carried : List (Nat × Nat) := []
  /-- defects to withdraw at the next bring-up; 05 R141. -/
  clearReq : List Nat := []
  /-- findings of the running stage so far (IMAGE_REJECTED); 21 R557. -/
  pendFinds : List Finding := []
  /-- loss to report in the next BU0; 03 R85. -/
  vspineLost : Bool := false
  deriving DecidableEq, Repr, Inhabited

/-- Row record of the defect map (05, Table 5.7). -/
structure DRow where
  /-- AST_STATE; 05 Table 5.7. -/
  ast : List PosState := List.replicate 5 .spare
  /-- PRM_STATE; 05 Table 5.7. -/
  prm : List PosState := List.replicate 10 .spare
  /-- BANK_OK; 05 Table 5.7. -/
  bankOk : List Bool := List.replicate 40 true
  /-- DMA_OK; 05 Table 5.7. -/
  dmaOk : List Bool := List.replicate 4 true
  /-- ROW_STATE; 05 Table 5.7. -/
  cls : RowClass := .full
  /-- AST_SLOTS; 05 Table 5.7. -/
  astSlots : List (Option Nat) := List.replicate 4 none
  /-- PRM_SLOTS; 05 Table 5.7. -/
  prmSlots : List (Option Nat) := List.replicate 8 none
  /-- SKIP_OK; 05 Table 5.7. -/
  skipOk : List Bool := List.replicate 15 true
  deriving DecidableEq, Repr, Inhabited

/-- FAB entry of the defect map (05, Table 5.6). -/
structure FabMap where
  /-- LANE_OK; 05 Table 5.6. -/
  laneOk : BitVec 9 := 0
  /-- SPARE_IN_USE; 05 Table 5.6. -/
  spareInUse : Bool := false
  /-- state; 05 Table 5.6. -/
  st : PortState := .down
  deriving DecidableEq, Repr, Inhabited

/-- The defect map (05, R139). -/
structure DMap where
  /-- EPOCH; 05 Table 5.6. -/
  epoch : Nat := 0
  /-- TB_CHANGED; 05 Table 5.6. -/
  tbChanged : Nat := 0
  /-- ROW; 05 Table 5.6 (DESIGN CHOICE at reset, log 6). -/
  rows : List DRow := List.replicate 12 {}
  /-- FAB; 05 Table 5.6 (DESIGN CHOICE at reset, log 6). -/
  fab : List FabMap := List.replicate 12 {}
  /-- HBM and DDR, one code a stack or channel; 05 Table 5.6 (DESIGN CHOICE at reset, log 6). -/
  units : List Nat := List.replicate 24 5
  /-- FLASH, one code a card; 05 Table 5.6 (DESIGN CHOICE at reset, log 6). -/
  cards : List Nat := List.replicate 8 5
  /-- MC bit 0; 05 Table 5.6 (DESIGN CHOICE at reset, log 6). -/
  mc0 : Bool := true
  /-- MC bit 1; 05 Table 5.6 (DESIGN CHOICE at reset, log 6). -/
  mc1 : Bool := true
  deriving DecidableEq, Repr, Inhabited

/-- A remap entry that is not the identity (12, R307). -/
structure PageEnt where
  /-- state; 12 R307. -/
  st : PageSt := .mapped
  /-- unit holding it; 12 R307. -/
  unit : Nat := 0
  /-- physical page; 12 R307. -/
  phys : Nat := 0
  /-- copy to a new page runs; 12 R308. -/
  copying : Bool := false
  deriving DecidableEq, Repr, Inhabited

/-- A stack (0-7) or channel (8-23) (12, R330). -/
structure MemUnit where
  /-- finer state; 12 R330 (DESIGN CHOICE at reset, log 2). -/
  st : UnitFine := .absent
  /-- retired pages; 12 R308. -/
  retired : Nat := 0
  /-- physical pages retired; 12 R308. -/
  badPhys : List Nat := []
  /-- last readout, 0.25 °C; 12 R310 (DESIGN CHOICE at reset, log 7). -/
  temp : Int := 0
  /-- refresh rate raised; 12 R310. -/
  refreshFast : Bool := false
  /-- half access rate; 19 R521. -/
  throttled : Bool := false
  /-- error-check-and-scrub count; 12 R311. -/
  scrubCount : Nat := 0
  /-- DETAIL of Table 12.9; 12 R602. -/
  outReason : Nat := 0
  /-- logical pages still to move; 12 R332. -/
  moving : List Nat := []
  /-- migration rate, MB/s; 12 R332. -/
  rate : Nat := 12800
  /-- in self-refresh; 05 R142. -/
  selfRefresh : Bool := false
  /-- uncorrectable error since its last march; 05 R143. -/
  uncorr : Bool := false
  deriving DecidableEq, Repr, Inhabited

/-- Device memory (11, 12). -/
structure Mem where
  /-- bytes at canonical device addresses; unlisted 0; 12 R305 (DESIGN CHOICE at reset, log 8). -/
  cells : List Host.Cell := []
  /-- key 65536*unit + logical page; 12 R307. -/
  remap : List (Nat × PageEnt) := []
  /-- units whose logical pages without an entry are LOST; 12 R331. -/
  lostUnits : List Nat := []
  /-- 64-byte units marked DATA_LOST; 12 R309. -/
  dataLost : List Nat := []
  /-- 64-byte units that meet an uncorrectable error, their page's copy not ended; 12 R308, R309. -/
  bad : List Nat := []
  /-- claimed logical pages, same key; 16 R603. -/
  claimed : List Nat := []
  /-- corrected-error ticks by page; 12 R308. -/
  corrected : List (Nat × List Nat) := []
  /-- H0-H7, D0-D15; 12 R330. -/
  units : List MemUnit := List.replicate 24 {}
  deriving DecidableEq, Repr, Inhabited

/-- A table descriptor (12, Table 12.4). -/
structure Table where
  /-- BRIDGE; 12 R312. -/
  bridge : Nat := 0
  /-- HOME; 12 R312. -/
  home : HomeTier := .hbm
  /-- TYPE; 12 R312. -/
  type : TableType := .direct
  /-- HASH; 12 R312. -/
  hash : Nat := 0xFF
  /-- SEED; 12 R312. -/
  seed : Nat := 0
  /-- NROWS; 12 R312. -/
  nrows : Nat := 0
  /-- DIM; 12 R312. -/
  dim : Nat := 0
  /-- FMT; 12 R312. -/
  fmt : Nat := 0
  /-- ROWBYTES; 12 R312. -/
  rowBytes : Nat := 0
  /-- PART; 12 R312. -/
  part : Nat := 0
  /-- FILL; 12 R312. -/
  fill : Nat := 0
  /-- EPOCH; 12 R312. -/
  epoch : Nat := 0
  /-- ROWBASE; 16 R449. -/
  rowBase : Nat := 0
  /-- KEYBASE; 16 R449. -/
  keyBase : Nat := 0
  /-- PARTBASE; 16 R449. -/
  partBase : Nat := 0
  /-- BSIZE; 16 R449. -/
  bsize : Nat := 0
  /-- MAPBASE; 16 R449. -/
  mapBase : Nat := 0
  /-- DDR5 pages of the working map; 13 R338. -/
  mapPages : List Nat := []
  /-- partition pages that TABLE_CREATE claimed; 16 R445. -/
  partPages : List Nat := []
  /-- TABLE_DESTROY waits; 16 R446. -/
  dying : Bool := false
  deriving DecidableEq, Repr, Inhabited

/-- A dispatched fetch command (12, R322-R327). -/
structure FetchRun where
  /-- command; 12 R322. -/
  cmd : FetchCmd := {}
  /-- STATUS so far; 12 R327. -/
  status : Nat := 0
  /-- ended early; 12 R326. -/
  ended : Bool := false
  /-- ROWS; 12 R327. -/
  rows : Nat := 0
  /-- HITS; 12 R327. -/
  hits : Nat := 0
  /-- FROM_DDR; 12 R327. -/
  fromDdr : Nat := 0
  /-- FROM_FLASH; 12 R327. -/
  fromFlash : Nat := 0
  /-- FILLS; 12 R327. -/
  fills : Nat := 0
  /-- FAILED; 12 R327. -/
  failed : Nat := 0
  /-- MISSES; 12 R327. -/
  misses : Nat := 0
  /-- EPOCH_START; 12 R318. -/
  epochStart : Option Nat := none
  /-- EPOCH_END; 12 R318. -/
  epochEnd : Nat := 0
  /-- BAGS; 12 R327. -/
  bags : Nat := 0
  /-- next list entry; 12 R323. -/
  next : Nat := 0
  /-- bag being summed; 12 R323. -/
  curBag : Nat := 0
  /-- FP32 accumulators; 12 R323. -/
  acc : List Nat := []
  /-- sums of |w x|; 06 R160. -/
  absAcc : List Rat := []
  /-- sum of |w| eps; 06 R160. -/
  errAcc : Rat := 0
  /-- n of the bag; 06 R160. -/
  bagRows : Nat := 0
  /-- bag bound +Inf; 12 R325. -/
  bagBad : Bool := false
  /-- row read in flight; 12 R315. -/
  pendRow : Option Nat := none
  /-- its weight W, FP32 bits; 12 R323. -/
  pendW : Nat := 0
  /-- the flash read of that row returned, good or not; 13 R343. -/
  flashRead : Option Bool := none
  /-- the row was updated while its read was in flight; 12 R316. -/
  noFill : Bool := false
  /-- an entry of the bag has been read; 12 R321. -/
  bagSeen : Bool := false
  /-- origins; 17 R460. -/
  taint : List (Nat × Nat) := []
  /-- taint POISONED; 17 R462. -/
  taintBad : Bool := false
  deriving DecidableEq, Repr, Inhabited

/-- Row fetch of one bridge (12, R319). -/
structure FetchUnit where
  /-- 256 places, 64 of them for the fabric, oldest first; 12 R319. -/
  queue : List FetchCmd := []
  /-- row-fetch engines; 12 R319. -/
  engines : List (Option FetchRun) := List.replicate 4 none
  deriving DecidableEq, Repr, Inhabited

/-- Tables and row fetch (12). -/
structure Fetch where
  /-- by TABLE, at most 4,096; 12 R312. -/
  tables : List (Nat × Table) := []
  /-- TB-W, TB-E; 12 R319. -/
  bridges : List FetchUnit := [{}, {}]
  /-- tables with a batch in progress; 12 R317. -/
  updBusy : List Nat := []
  deriving DecidableEq, Repr, Inhabited

/-- A flash channel (13, Table 13.10). -/
structure FChan where
  /-- STATE; 13 R353. -/
  st : FChanState := .absent
  /-- DIES_OK; 13 R361 (DESIGN CHOICE at reset, log 2). -/
  diesOk : BitVec 16 := 0xFFFF
  /-- SPARE_LEFT; 13 R361 (DESIGN CHOICE at reset, log 2). -/
  spareLeft : Nat := 0
  /-- SPARE_INIT; 13 R361 (DESIGN CHOICE at reset, log 2). -/
  spareInit : Nat := 0
  /-- PE_AVG; 13 R361 (DESIGN CHOICE at reset, log 2). -/
  peAvg : Nat := 0
  /-- PE_MAX; 13 R361 (DESIGN CHOICE at reset, log 2). -/
  peMax : Nat := 0
  /-- RETRY; 13 R361. -/
  retry : Nat := 0
  /-- RECON; 13 R361. -/
  recon : Nat := 0
  /-- FAILED; 13 R361. -/
  failed : Nat := 0
  /-- AT_RISK; 13 R361. -/
  atRisk : Nat := 0
  /-- row groups queued for relocation: table, group; 13 R346. -/
  toMove : List (Nat × Nat) := []
  /-- tick of the last training; 13 R335. -/
  lastTrain : Nat := 0
  deriving DecidableEq, Repr, Inhabited

/-- A flash card (13, Table 13.9). -/
structure Card where
  /-- STATE; 13 R354. -/
  st : CardState := .absent
  /-- TEMP; 13 R361 (DESIGN CHOICE at reset, log 7). -/
  temp : Int := 0
  /-- CAP, GB; 13 R361. -/
  cap : Nat := 7000
  /-- WRITTEN, in bytes; 13 R361 (DESIGN CHOICE at reset, log 2). -/
  written : Nat := 0
  /-- WA; 13 R361 (DESIGN CHOICE at reset, log 2). -/
  wa : Nat := 100
  /-- SERIAL; 13 R361 (DESIGN CHOICE at reset, log 2). -/
  serial : Nat := 0
  /-- 4 channels; 13 R334. -/
  chans : List FChan := List.replicate 4 {}
  /-- no program or erase; 19 R521. -/
  throttled : Bool := false
  /-- latch open: no program or erase; 13 R358. -/
  noWrites : Bool := false
  /-- uncorrectable error since its last BU7; 05 R143. -/
  uncorr : Bool := false
  /-- module serial in the card header, 0 blank; 13 R357 (DESIGN CHOICE at reset, log 2). -/
  mapSerial : Nat := 0
  /-- CARD_RETURN carried FORMAT; 13 R357. -/
  format : Bool := false
  /-- dies retired whose stripes are being rebuilt, 16 x channel + die; 13 R350. -/
  failedDies : List Nat := []
  deriving DecidableEq, Repr, Inhabited

/-- A row group of a flash table (13, R336). -/
structure RowGroup where
  /-- LOST; 13 R341. -/
  lost : Bool := true
  /-- card holding it, 8 none; 13 R336. -/
  card : Nat := 8
  /-- channel; 13 R336. -/
  chan : Nat := 0
  /-- die; 13 R336. -/
  die : Nat := 0
  /-- tick of its program; 13 R349. -/
  since : Nat := 0
  /-- BATCH; 13 R336. -/
  batch : Nat := 0
  /-- codeword header wrong; 13 R341. -/
  bad : Bool := false
  /-- reads since it was written; 13 R349 (log 31). -/
  reads : Nat := 0
  deriving DecidableEq, Repr, Inhabited

/-- A flash batch not committed (13, R343). -/
structure Batch where
  /-- TABLE; 13 R343. -/
  table : Nat := 0
  /-- row, stored bytes; 16 R450. -/
  rows : List (Nat × List (BitVec 8)) := []
  /-- row, key; 16 R450. -/
  keys : List (Nat × Nat) := []
  deriving DecidableEq, Repr, Inhabited

/-- The flash tier (13). -/
structure Flash where
  /-- FC0-FC7; 13 R354. -/
  cards : List Card := List.replicate 8 {}
  /-- map by (table, group); 13 R336. -/
  groups : List ((Nat × Nat) × RowGroup) := []
  /-- stored rows by (table, row); 13 R336. -/
  rows : List ((Nat × Nat) × List (BitVec 8)) := []
  /-- in progress; 13 R343. -/
  batches : List Batch := []
  /-- BATCH number; 13 R336 (DESIGN CHOICE at reset, log 2). -/
  nextBatch : Nat := 1
  /-- (bridge, table) parts of the map being reloaded; 13 R338. -/
  reloading : List (Nat × Nat) := []
  /-- migration rate per bridge, MB/s; 13 Table 13.4. -/
  rate : List Nat := [2000, 2000]
  deriving DecidableEq, Repr, Inhabited

/-- A fabric port (14, R362-R369). -/
structure Port where
  /-- STATE; 14 R369. -/
  st : PortState := .down
  /-- LANE_OK; 14 R369. -/
  laneOk : BitVec 9 := 0
  /-- SPARED; 14 R369. -/
  spared : Option Nat := none
  /-- THROT; 14 R369. -/
  throt : Nat := 0
  /-- REPLAYS; 14 R369. -/
  replays : Nat := 0
  /-- CSYM; 14 R369. -/
  csym : Nat := 0
  /-- flits replayed in the running window; 14 R369. -/
  winReplays : Nat := 0
  /-- symbols corrected in the running window; 14 R369. -/
  winCsym : Nat := 0
  /-- next SEQ expected, 10 bits; 14 R363 (DESIGN CHOICE at reset, log 9). -/
  rxSeq : Nat := 0
  /-- next SEQ to send, 10 bits; 14 R363 (DESIGN CHOICE at reset, log 9). -/
  txSeq : Nat := 0
  /-- last SEQ acknowledged; 14 R364 (DESIGN CHOICE at reset, log 9). -/
  txAcked : Nat := 1023
  /-- discarding until the replay; 14 R365. -/
  rxDiscarding : Bool := false
  /-- replays of one flit in a row; 14 R365. -/
  replayRow : Nat := 0
  /-- credits held, RSP REQ WIT BULK; 14 R385. -/
  credTx : List Nat := [1024, 1024, 512, 4096]
  /-- cumulative credits freed for the partner; 14 R364. -/
  credFreed : List Nat := [0, 0, 0, 0]
  /-- cumulative credits received; 14 R364. -/
  credSeen : List Nat := [0, 0, 0, 0]
  /-- output queue; 14 R386. -/
  txq : List Pkt := []
  /-- packets sent whose last flit, by its SEQ, is not acknowledged; 14 R365. -/
  replay : List (Nat × Pkt) := []
  /-- tick the head began waiting; 14 R378. -/
  headSince : Nat := 0
  /-- queue depth, bytes; 14 R386. -/
  depth : Nat := 0
  /-- lane change scheduled in the sending direction: lane, true SWAP; 14 R366. -/
  swapTx : Option (Nat × Bool) := none
  /-- the same, receiving direction; 14 R366. -/
  swapRx : Option (Nat × Bool) := none
  /-- lane swapped out and being retrained; 14 R367. -/
  outLane : Option Nat := none
  /-- tick of the next retraining; 14 R396. -/
  downAt : Option Nat := none
  /-- tick the running 1 s window began; 14 R366. -/
  winTb : Nat := 0
  /-- tick the swapped-out lane began its retraining; 14 R367. -/
  outAt : Nat := 0
  /-- tick of the last discard record; 14 R374. -/
  lastDiscardTb : Option Nat := none
  deriving DecidableEq, Repr, Inhabited

/-- A request tracked at its source bridge (14, R383). -/
structure Tracked where
  /-- TAG; 14 R383. -/
  tag : Nat := 0
  /-- DST; 14 R383. -/
  dst : Nat := 0
  /-- SRC; 14 R384. -/
  src : Nat := 0
  /-- TYPE; 14 R383. -/
  type : Nat := 0
  /-- injection tick; 14 R383. -/
  tb : Nat := 0
  /-- timeout in force at injection; 14 R383. -/
  limit : Nat := 5000000
  /-- 0 send engine, 1 mailbox peer, 2 token, 3 HREAD or HWRITE, 4 fetch, 5 poison, 6 binding doorbell; 14 R383. -/
  owner : Nat := 0
  /-- binding, channel + 1024 x MSEQ, TSEQ or engine; 14 R383. -/
  arg : Nat := 0
  deriving DecidableEq, Repr, Inhabited

/-- A window (14, Table 14.6). -/
structure Window where
  /-- open; 14 R387. -/
  isOpen : Bool := false
  /-- BASE; 14 R387. -/
  base : Nat := 0
  /-- LENGTH; 14 R387. -/
  length : Nat := 0
  /-- HOME; 14 R387. -/
  home : Nat := 0
  /-- PERM[0]; 14 R387. -/
  permR : Bool := false
  /-- PERM[1]; 14 R387. -/
  permW : Bool := false
  /-- SRCF pairs; 14 R387. -/
  srcf : List (Nat × Nat) := []
  /-- EPOCH, 32 bits; 14 R387. -/
  epoch : Nat := 0
  deriving DecidableEq, Repr, Inhabited

/-- A send binding (14, R390; 16, R451). -/
structure Binding where
  /-- ROW; 14 R390. -/
  row : Nat := 0
  /-- BRIDGE; 14 R390. -/
  bridge : Nat := 0
  /-- data LINE; 14 R390. -/
  dline : Nat := 0
  /-- data LEN; 14 R390. -/
  dlen : Nat := 0
  /-- side LINE; 14 R390. -/
  sline : Nat := 0
  /-- side LEN, 0 none; 14 R390. -/
  slen : Nat := 0
  /-- DST; 14 R390. -/
  dst : Nat := 0
  /-- WIN; 14 R390. -/
  win : Nat := 0
  /-- WEPOCH; 14 R390. -/
  wepoch : Nat := 0
  /-- DOFF; 14 R390. -/
  doff : Nat := 0
  /-- SOFF; 14 R390. -/
  soff : Nat := 0
  /-- FLOW; 14 R390. -/
  flow : Nat := 0
  /-- COMP; 14 R390. -/
  comp : Bool := false
  /-- FMT; 14 R390. -/
  fmt : Nat := 0
  /-- V; 14 R390. -/
  v : Nat := 0
  /-- K; 14 R390. -/
  k : Nat := 0
  /-- STRIDE; 14 R390. -/
  stride : Nat := 0
  /-- NDST, NWORD; 14 R390. -/
  notify : Option (Nat × Nat) := none
  /-- halted; 14 R393. -/
  halted : Bool := false
  /-- send in progress; 14 R391. -/
  sending : Bool := false
  /-- WRITEs not yet answered; 14 R393. -/
  left : Nat := 0
  /-- first failing answer; 14 R393. -/
  badCode : Nat := 0
  /-- provisional tags of the send not yet confirmed; 17 R464. -/
  tags : List Nat := []
  /-- a tag of the send was poisoned; 17 R464. -/
  tagBad : Bool := false
  deriving DecidableEq, Repr, Inhabited

/-- A tier bridge's fabric side (14). -/
structure Bridge where
  /-- ACT; 14 R382. -/
  act : Bool := false
  /-- OTHER; 14 R382. -/
  other : OtherVer := .free
  /-- commit tick; 14 R380. -/
  armedAt : Option Nat := none
  /-- drain limit, tb; 14 R381. -/
  drainLim : Nat := 50000
  /-- tick of the commit; 14 R381. -/
  commitTb : Nat := 0
  /-- tick the in-flight count became 0; 14 R381. -/
  zeroSince : Option Nat := none
  /-- INFLIGHT; 14 R382. -/
  inflight : Nat := 0
  /-- DRAIN_EXPIRED; 14 R382. -/
  drainExpired : Bool := false
  /-- version V0, unlisted 0 (not VALID); 14 R375 (DESIGN CHOICE at reset, log 9). -/
  v0 : List (Nat × BitVec 32) := []
  /-- version V1; 14 R375 (DESIGN CHOICE at reset, log 9). -/
  v1 : List (Nat × BitVec 32) := []
  /-- last committed table; 14 R382. -/
  committed : List (Nat × BitVec 32) := []
  /-- outstanding requests, at most 8,192; 14 R383. -/
  tracked : List Tracked := []
  /-- next TAG; 14 R372 (DESIGN CHOICE at reset, log 9). -/
  nextTag : Nat := 0
  /-- requests held at injection, with owner and argument; 14 R383, R384. -/
  fenced : List (Pkt × Nat × Nat) := []
  /-- packets of local endpoints not yet looked up, oldest first; 14 R376, R386. -/
  injq : List Pkt := []
  /-- Q1-Q4, KiB; 14 R386. -/
  q : List Nat := [128, 256, 384, 480]
  /-- last 256: tag, verdict, tick; 17 R465. -/
  verdicts : List (Nat × Verdict × Nat) := []
  /-- pending verdicts to send: tag, DST; 17 R464. -/
  pendVerd : List (Nat × Nat) := []
  /-- held WRITEs with deadlines; 17 R465. -/
  holdBuf : List (Pkt × Nat) := []
  /-- LATE; 14 R383. -/
  lateCount : Nat := 0
  /-- bridge reset running; 18 R509. -/
  inReset : Bool := false
  /-- bridge out of service; 03 R85. -/
  out : Bool := false
  deriving DecidableEq, Repr, Inhabited

/-- A UCIe module (11, R301-R303; log 83 on the flits sent). -/
structure Ucie where
  /-- in service; 11 R301. -/
  up : Bool := true
  /-- next SEQ expected; 11 R302 (DESIGN CHOICE at reset, log 9). -/
  rxSeq : Nat := 0
  /-- replay requested; 11 R303. -/
  nakSent : Bool := false
  /-- consecutive replays of one flit; 11 R303. -/
  replays : Nat := 0
  /-- credits returned per VC; 11 R302 (DESIGN CHOICE at reset, log 9). -/
  credits : List Nat := [0, 0, 0, 0]
  deriving DecidableEq, Repr, Inhabited

/-- The fabric (14). -/
structure Fab where
  /-- EPBASE; 14 R370. -/
  epBase : Option Nat := none
  /-- TB-W, TB-E; 14. -/
  bridges : List Bridge := [{}, {}]
  /-- L0-L11; 14 R369. -/
  ports : List Port := List.replicate 12 {}
  /-- by number; 14 R387. -/
  windows : List (Nat × Window) := []
  /-- by number; 14 R390. -/
  bindings : List (Nat × Binding) := []
  /-- 8 x bridge + module; 11 R301. -/
  ucie : List Ucie := List.replicate 16 {}
  /-- ROUTE_GEN; 20 Table 20.8. -/
  routeGen : Nat := 0
  /-- windows to be mapped or unmapped when their old requests have been performed; 14 R389. -/
  winNext : List (Nat × Window) := []
  /-- bindings to be replaced or deleted (none) when their sends end; 16 R451. -/
  bindNext : List (Nat × Option Binding) := []
  deriving DecidableEq, Repr, Inhabited

/-- A packet the device sends on the Chavi link (15, Table 15.1). -/
structure ChaviOut where
  /-- TYPE; 15 R400. -/
  type : Nat := 0
  /-- TAG; 15 R400. -/
  tag : Nat := 0
  /-- STATUS; 15 R400. -/
  status : Nat := 0
  /-- ARG; 15 R400. -/
  arg : Nat := 0
  /-- ARG2; 15 R400. -/
  arg2 : Nat := 0
  /-- payload, before encryption; 15 R400. -/
  data : List (BitVec 8) := []
  /-- CTR of a packet sent with ENC; none in clear; 21 R562. -/
  ctr : Option Nat := none
  deriving DecidableEq, Repr, Inhabited

/-- A Chavi request that waits for earlier HWRITEs (15, R433). -/
structure HostReq where
  /-- HWRITEs accepted before it; 15 R433 (the model's own). -/
  seq : Nat := 0
  /-- 0 MBX_SEND, 1 MBX_DONE, 2 DOORBELL; 15 R433 (the model's own). -/
  kind : Nat := 0
  /-- TAG; 15 R400. -/
  tag : Nat := 0
  /-- channel; 15 R400. -/
  ch : Nat := 0
  /-- MSEQ; 15 R400. -/
  mseq : Nat := 0
  /-- STATUS of an MBX_DONE; 15 R400. -/
  code : Nat := 0
  /-- doorbell word; 15 R430. -/
  word : Nat := 0
  /-- message; 15 R400. -/
  msg : List (BitVec 8) := []
  /-- stamp by the path of arrival; 15 R407. -/
  sender : Nat := 0
  deriving DecidableEq, Repr, Inhabited

/-- The Chavi link (15, R398-R404, R598). -/
structure Chavi where
  /-- link up; 15 R598. -/
  up : Bool := false
  /-- next SEQ expected, 12 bits; 15 R399 (DESIGN CHOICE at reset, log 9). -/
  rxSeq : Nat := 0
  /-- discarding until the replay; 15 R399. -/
  discarding : Bool := false
  /-- replays of one frame in a row; 15 R399. -/
  replays : Nat := 0
  /-- cumulative credits received; 15 R401. -/
  creditRx : Nat := 0
  /-- tick of the last CREDIT; 15 R598. -/
  creditTb : Nat := 0
  /-- a CREDIT has arrived since the link was last down; 15 R598. -/
  credSeen : Bool := false
  /-- credits used by the packets sent; 15 R401. -/
  used : Nat := 0
  /-- cumulative credits freed for the host, 32 bits; 15 R401. -/
  credFreed : Nat := 0
  /-- packets that wait for credits, oldest first; 15 R401. -/
  txq : List ChaviOut := []
  /-- next SEQ to send, 12 bits; 15 R399 (DESIGN CHOICE at reset, log 9). -/
  txSeq : Nat := 0
  /-- packets sent whose last frame, by its SEQ, is not acknowledged; 15 R399. -/
  replay : List (Nat × ChaviOut) := []
  /-- ACK of the last NAK received; 15 R399. -/
  nakAck : Nat := 0
  /-- replays of one sent frame in a row; 15 R399. -/
  txReplays : Nat := 0
  /-- HWRITEs accepted so far; 15 R433 (the model's own). -/
  hwSeq : Nat := 0
  /-- requests that wait for earlier HWRITEs, oldest first; 15 R433. -/
  waiting : List HostReq := []
  deriving DecidableEq, Repr, Inhabited

/-- A mailbox channel (15, R417-R422). -/
structure Chan where
  /-- 64 bytes; 15 R417. -/
  msg : List (BitVec 8) := List.replicate 64 0
  /-- FULL; 15 R418. -/
  full : Bool := false
  /-- ACKV; 15 R418. -/
  ackv : Bool := false
  /-- COLLISION; 15 R418. -/
  collision : Bool := false
  /-- MSEQ; 15 R418. -/
  mseq : Nat := 0
  /-- ACK_SEQ; 15 R418. -/
  ackSeq : Nat := 0
  /-- SENDER_ID; 15 R418. -/
  sender : Nat := 0
  /-- ACK_CODE; 15 R418. -/
  ackCode : Nat := 0
  /-- RCV; 15 R421. -/
  rcv : Rcv := .mgmtCore
  /-- SHARED; 15 R421. -/
  shared : Bool := false
  /-- CLASSMATCH; 15 R421. -/
  classMatch : Bool := false
  /-- ENABLED; 15 R421. -/
  enabled : Bool := false
  /-- SMATCH; 15 R421. -/
  smatch : Nat := 0
  /-- RDEST; 15 R421. -/
  rdest : Nat := 0
  /-- RCHAN; 15 R421. -/
  rchan : Nat := 0
  /-- tick of the last MSG sent for it; 15 R414. -/
  peerTb : Nat := 0
  /-- TB; 15 R422. -/
  tb : Nat := 0
  deriving DecidableEq, Repr, Inhabited

/-- The mailbox store (15, R405, R406). -/
structure Mbx where
  /-- by channel; unlisted = reset channel; 15 R406. -/
  chans : List (Nat × Chan) := []
  deriving DecidableEq, Repr, Inhabited

/-- An outstanding request (15, R424, R427). -/
structure Req where
  /-- TAG; 15 R427. -/
  tag : Nat := 0
  /-- JOB; 15 R427. -/
  job : Nat := 0
  /-- pop tick; 15 R427. -/
  popTb : Nat := 0
  /-- Primrose slot that popped; 15 R429. -/
  slot : Nat := 0
  /-- TMO in force; 15 R423. -/
  tmo : Nat := 0
  /-- FLAGS WITNESS; 20 R538. -/
  witness : Bool := false
  /-- PROG; 15 R425. -/
  prog : Nat := 0
  deriving DecidableEq, Repr, Inhabited

/-- A ring (15, Table 15.7). -/
structure RqRing where
  /-- OWNER; 15 R423. -/
  owner : Nat := 0
  /-- SLOTS; 15 R423. -/
  slots : BitVec 8 := 0
  /-- LOG2SIZE; 15 R423. -/
  log2size : Nat := 0
  /-- RQBASE; 15 R423. -/
  rqBase : Nat := 0
  /-- CQBASE; 15 R423. -/
  cqBase : Nat := 0
  /-- CQTARGET MAILBOX channel; 15 R423. -/
  cqChan : Option Nat := none
  /-- NOTIFY; 15 R423. -/
  notify : Bool := false
  /-- DBCHAVI; 15 R423. -/
  dbChavi : Bool := false
  /-- DBSRC pairs; 15 R423. -/
  dbSrc : List (Nat × Nat) := []
  /-- TMO; 15 R423. -/
  tmo : Nat := 0
  /-- PI, 16 bits; 15 R424. -/
  pi : Nat := 0
  /-- CI, 16 bits; 15 R424. -/
  ci : Nat := 0
  /-- CPI, 16 bits; 15 R424. -/
  cpi : Nat := 0
  /-- CCI, 16 bits; 15 R424. -/
  cci : Nat := 0
  /-- CPHASE; 15 R424. -/
  cphase : Bool := true
  /-- outstanding, oldest first; 15 R424. -/
  out : List Req := []
  /-- held error completions with stamp index; 18 R488. -/
  held : List (List (BitVec 8) × Nat) := []
  /-- FAILED; 17 R483. -/
  failed : Bool := false
  deriving DecidableEq, Repr, Inhabited

/-- A completion handed to the Witness unit (20, R539). -/
structure WitCpl where
  /-- request ring; 20 R539. -/
  ring : Nat := 0
  /-- Primrose slot that pushed; 20 Table 20.8. -/
  slot : Nat := 0
  /-- completion entry; 15 R426. -/
  entry : List (BitVec 8) := []
  /-- its request; 20 R539. -/
  req : Req := {}
  /-- TB_PUSH; 20 Table 20.8. -/
  tb : Nat := 0
  deriving DecidableEq, Repr, Inhabited

/-- The ring engine (15, R423-R435). -/
structure Rings where
  /-- by number; 15 R423. -/
  rings : List (Nat × RqRing) := []
  /-- engine serving; 18 R509. -/
  up : Bool := true
  /-- LATE posts counted; 15 R428. -/
  late : Nat := 0
  /-- ring-table copies on H0, H4; 17 R483. -/
  copies : List Bool := [true, true]
  /-- completions with the Witness unit, oldest first; 20 R539. -/
  witHeld : List WitCpl := []
  deriving DecidableEq, Repr, Inhabited

/-- A command Gwynpin has taken and not completed (16, R438-R441). -/
structure Cmd where
  /-- model's number; 16 R441 (the model's own). -/
  id : Nat := 0
  /-- OPCODE; 16 R436. -/
  opcode : Nat := 0
  /-- arrival channel; 16 R436. -/
  chan : Nat := 0
  /-- MSEQ of the command; 15 R411. -/
  mseq : Nat := 0
  /-- CTAG; 16 R436. -/
  ctag : Nat := 0
  /-- RCHAN; 16 R436. -/
  rchan : Nat := 0xFFFF
  /-- RESPTR; 16 R436. -/
  resptr : Nat := 0
  /-- RESMAX; 16 R436. -/
  resmax : Nat := 0
  /-- what it waits for; 16 R442 (the model's own). -/
  wait : Nat := 0
  /-- object; 16 R441. -/
  obj : Nat := 0
  /-- argument it waits on; 16 R446 (the model's own). -/
  arg : Nat := 0
  deriving DecidableEq, Repr, Inhabited

/-- A reply being retried (16, R439). -/
structure Retry where
  /-- RCHAN; 16 R439. -/
  rchan : Nat := 0
  /-- reply; 16 R439. -/
  msg : List (BitVec 8) := []
  /-- tick of the first try; 16 R439. -/
  since : Nat := 0
  /-- retries made; 16 R439. -/
  tries : Nat := 0
  deriving DecidableEq, Repr, Inhabited

/-- A targeted test (17, R475-R477). -/
structure Test where
  /-- unit identifier; 17 R475. -/
  unit : Nat := 0
  /-- RECNO that started it; 17 R475. -/
  recNo : Nat := 0
  /-- tick queued; 17 R475. -/
  since : Nat := 0
  /-- running; 17 R475. -/
  running : Bool := false
  /-- UNTESTABLE outcomes in a row; 17 R476. -/
  untest : Nat := 0
  /-- tick of the retry; 17 R476. -/
  retryAt : Option Nat := none
  /-- tick Gwynpin placed the unit; 17 R476. -/
  placed : Option Nat := none
  /-- state before IN_TEST; 17 R475. -/
  wasSt : PosState := .active
  deriving DecidableEq, Repr, Inhabited

/-- A slot whose test has ended and that is to be restored (18, R492). -/
structure Recovery where
  /-- Aster, else Primrose; 18 R492. -/
  ast : Bool := true
  /-- row; 18 R492. -/
  row : Nat := 0
  /-- slot; 18 R492. -/
  slot : Nat := 0
  /-- position tested; 18 R492. -/
  unit : Nat := 0
  /-- OUTCOME; 18 R492. -/
  outcome : TestOutcome := .none
  /-- ACTION; 18 R492. -/
  action : Nat := 0
  /-- halt record; 18 R492. -/
  recNo : Nat := 0
  deriving DecidableEq, Repr, Inhabited

/-- Gwynpin and the management cores (05, 16, 18). -/
structure Gw where
  /-- MC0, MC1; 05 R116. -/
  mc : List McSt := [.reset, .reset]
  /-- core running Gwynpin; 05 R144. -/
  running : Option Nat := none
  /-- GWYNPIN_VER; 16 Table 16.3. -/
  version : Nat := 0
  /-- running image; 18 R500. -/
  imageIdx : Nat := 0
  /-- NHKEY of the image; 21 R555. -/
  nhkey : Nat := 0
  /-- at most 8 in progress; 16 R441. -/
  cmds : List Cmd := []
  /-- next command number; 16 R441 (the model's own). -/
  nextId : Nat := 1
  /-- commands that wait for Gwynpin, a place or their object: object, command; 16 R441. -/
  waiting : List (Nat × Instr) := []
  /-- replies being retried; 16 R439. -/
  retries : List Retry := []
  /-- numbers of commands with an intent entry and no completion mark; 18 R502. -/
  journal : List Nat := []
  /-- tick the management watchdog expires; 18 R484. -/
  wdAt : Nat := 0
  /-- HANDOFF in progress: image, 1 once it is verified; 18 R500. -/
  handoff : Option (Nat × Nat) := none
  /-- commands carried in the handoff record; 18 R501. -/
  handoffRec : List Nat := []
  /-- tick of a failover not yet resumed; 18 R503. -/
  failAt : Option Nat := none
  /-- targeted tests queued or running; 17 R475. -/
  tests : List Test := []
  /-- unit, ticks of passes; 17 R477. -/
  passes : List (Nat × List Nat) := []
  /-- network timeout; 18 R484. -/
  tmoNet : Nat := 2500
  /-- DMA timeout; 18 R484. -/
  tmoDma : Nat := 500000
  /-- Aster wait limit; 18 R487. -/
  tmoAst : Nat := 500000
  /-- management watchdog; 18 R484. -/
  tmoMgmt : Nat := 50000000
  /-- fabric request timeout; 18 R484. -/
  tmoFab : Nat := 5000000
  /-- JOB, limit; 18 R489. -/
  jobTmo : List (Nat × Nat) := []
  /-- JOB, tick its timer expires; 18 R489. -/
  jobAt : List (Nat × Nat) := []
  /-- expired jobs; 18 R489. -/
  jobExpired : List Nat := []
  /-- outstanding IMG_REQ: index, offset, tick, resends; 21 R557. -/
  imgReqs : List (Nat × Nat × Nat × Nat) := []
  /-- header of the running image, HKEY among it; 21 R555. -/
  imgHdr : List (BitVec 8) := []
  /-- image bytes received; 21 R557. -/
  imgBuf : List (BitVec 8) := []
  /-- the last reply written: RCHAN, message, tick; 18 R503. -/
  lastReply : Option (Nat × List (BitVec 8) × Nat) := none
  /-- a reply whose completion mark was lost; 18 R503. -/
  dupReply : Option (Nat × List (BitVec 8)) := none
  /-- slots to be restored; 18 R492. -/
  recovering : List Recovery := []
  deriving DecidableEq, Repr, Inhabited

/-- An error record (17, Table 17.4). -/
structure ErrRec where
  /-- RECNO; 17 R469. -/
  recno : Nat := 0
  /-- TB; 17 R469. -/
  tb : Nat := 0
  /-- CODE; 17 R469. -/
  code : Nat := 0
  /-- UNIT; 17 R469. -/
  unit : Nat := 0
  /-- OP; 17 R469. -/
  op : Nat := 0
  /-- PATH; 17 R469. -/
  platform : Bool := false
  /-- OUTCOME; 17 R469. -/
  outcome : TestOutcome := .none
  /-- ACTION; 17 R469. -/
  action : Nat := 0
  /-- TEMP; 17 R469. -/
  temp : Int := 0
  /-- VOLT; 17 R469. -/
  volt : Nat := 0
  /-- JOB; 17 R469. -/
  job : Nat := 0xFFFFFFFF
  /-- ADDR; 17 R469. -/
  addr : Nat := 0
  /-- DETAIL; 17 R469. -/
  detail : Nat := 0
  /-- RELREC; 17 R469. -/
  relrec : Nat := 0
  /-- SUPPR; 17 R469. -/
  suppr : Nat := 0
  deriving DecidableEq, Repr, Inhabited

/-- The error logger (17, R469-R473). -/
structure Err where
  /-- SPN_ERRLOG_NEXT; 22 R577. -/
  next : Nat := 1
  /-- last 4,096, oldest first; 17 R471. -/
  log : List ErrRec := []
  /-- (CODE, UNIT) to (tick of the last record, suppressed count); 17 R470. -/
  supp : List ((Nat × Nat) × (Nat × Nat)) := []
  deriving DecidableEq, Repr, Inhabited

/-- A phase table entry (19, R517). -/
structure PhaseEnt where
  /-- PHASE; 19 R517. -/
  phase : Nat := 0
  /-- 10 mA per step; 19 R517. -/
  d : List Nat := List.replicate 8 0
  /-- d[s] ever updated; 19 R518. -/
  learned : List Bool := List.replicate 8 false
  /-- last marker; 19 R517. -/
  tb : Nat := 0
  deriving DecidableEq, Repr, Inhabited

/-- An energy interval (19, R526, R527). -/
structure Interval where
  /-- TB_START; 19 R528. -/
  start : Nat := 0
  /-- TB_END; 19 R528. -/
  stop : Nat := 0
  /-- µJ; 19 R528. -/
  energy : Nat := 0
  /-- jobs present; 19 R528. -/
  jobs : List Nat := []
  deriving DecidableEq, Repr, Inhabited

/-- A power-group peer (19, R530). -/
structure Peer where
  /-- EPBASE of the peer; 19 R530. -/
  ep : Nat := 0
  /-- rounds unanswered; 19 R530. -/
  missed : Nat := 0
  /-- latest ASK; 19 R531. -/
  ask : Bool := false
  /-- latest SLACK; 19 R531. -/
  slack : Nat := 0
  deriving DecidableEq, Repr, Inhabited

/-- The power-capping controller and meter (19). -/
structure Cap where
  /-- POWER_CAP MODULE, mW; 19 R512. -/
  module : Nat := 1400000
  /-- POWER_CAP PACKAGE, mW; 19 R512. -/
  package : Nat := 1000000
  /-- STEP_LIMIT MIN; 19 R512. -/
  stepMin : Nat := 0
  /-- STEP_LIMIT MAX; 19 R512. -/
  stepMax : Nat := 7
  /-- ceiling in force; 19 R513. -/
  ceiling : Nat := 0
  /-- LIMIT code; 19 R528. -/
  limit : Nat := 0
  /-- thermal ceiling; 19 R521. -/
  thermCeil : Nat := 7
  /-- tick of the last fast drop; 19 R513. -/
  lastDrop : Option Nat := none
  /-- tick of the last R515 record; 19 R515. -/
  last515 : Option Nat := none
  /-- a drop waits for PEND; 19 R514. -/
  dropDue : Bool := false
  /-- at most 256; 19 R517. -/
  phases : List PhaseEnt := []
  /-- idle[r][s], 10 mA; 19 R518 (DESIGN CHOICE at reset, log 10). -/
  idle : List (List Nat) := List.replicate 12 (List.replicate 8 0)
  /-- tick of the last step change; 19 R518. -/
  lastStepTb : Nat := 0
  /-- last measured row current, 10 mA; 19 R519. -/
  rowCur : List Nat := List.replicate 12 0
  /-- 64 bits, µJ; 19 R524. -/
  meter : Nat := 0
  /-- last 16,384 entries; 19 R527. -/
  intervals : List Interval := []
  /-- jobs seen outstanding in the running window; 19 R525. -/
  winJobs : List Nat := []
  /-- GROUP; 19 R529. -/
  group : Option Nat := none
  /-- S, mW; 19 R529. -/
  share : Nat := 0
  /-- TSEQ; 19 R531. -/
  tseq : Nat := 0
  /-- at most 63; 19 R530. -/
  roster : List Peer := []
  /-- last TSEQ per SRC; 14 R395. -/
  seenTseq : List (Nat × Nat) := []
  /-- grants in flight: TSEQ, mW, reconcile count; 14 R395. -/
  grants : List (Nat × Nat × Nat) := []
  /-- tick of the last reconcile; 19 R533. -/
  reconTb : Option Nat := none
  /-- reconciles done; 19 R532. -/
  reconCount : Nat := 0
  /-- quiet ticks of the last 100 ms, newest first: first tick, end; 19 R531. -/
  slackRuns : List (Nat × Nat) := []
  /-- tick of the last search for peers; 19 R530. -/
  discTb : Option Nat := none
  /-- tick of the last report; 19 R531. -/
  reportTb : Option Nat := none
  /-- the last 100 windows: input mW, MODULE set the ceiling; 19 R531. -/
  win : List (Nat × Bool) := []
  /-- tick of the last grant; 19 R532. -/
  lastGrantTb : Option Nat := none
  /-- phase markers on their way: row, slot, PHASE, tick; 08 R206. -/
  markers : List (Nat × Nat × Nat × Nat) := []
  deriving DecidableEq, Repr, Inhabited

/-- Thermal control (19, R520-R523). -/
structure Therm where
  /-- filtered row sensors, 0.25 °C; 19 R520 (DESIGN CHOICE at reset, log 7). -/
  rows : List (List Int) := List.replicate 12 (List.replicate 4 0)
  /-- spine sensor; 19 R520 (DESIGN CHOICE at reset, log 7). -/
  spine : Int := 0
  /-- bridge sensors; 19 R520 (DESIGN CHOICE at reset, log 7). -/
  bridges : List (List Int) := [[0, 0], [0, 0]]
  /-- readings in each sensor's filter, newest first; 19 R520. -/
  samples : List (Nat × List Int) := []
  /-- a die, bridge or HBM value was at or above throttle in this window; 19 R521. -/
  hot : Bool := false
  /-- tick every value fell below release; 19 R521. -/
  coolSince : Option Nat := none
  /-- thermal halt; 19 R523. -/
  halt : Bool := false
  deriving DecidableEq, Repr, Inhabited

/-- An item in the item area (20, R534). -/
structure ItemHeld where
  /-- fetch item; 20 R534. -/
  fetch : Option FItem := none
  /-- group item; 20 R534. -/
  grp : Option GItem := none
  /-- decision item; 20 R534. -/
  dec : Option DItem := none
  /-- tick of acceptance; 20 R534. -/
  tb : Nat := 0
  /-- provisional tag it waits for, 0 none; 20 R537. -/
  tag : Nat := 0
  deriving DecidableEq, Repr, Inhabited

/-- An accepted entry not yet written (20, R543, R546). -/
structure WitEntry where
  /-- KIND; 20 R546. -/
  kind : Nat := 0
  /-- FLAGS; 20 R546. -/
  flags : Nat := 0
  /-- bytes from 0x60; 20 R547. -/
  body : List (BitVec 8) := []
  /-- TB; 20 R546. -/
  tb : Nat := 0
  deriving DecidableEq, Repr, Inhabited

/-- A record held under STALL with its completion (20, R541). -/
structure WitStalled where
  /-- record; 20 R541. -/
  entry : WitEntry := {}
  /-- tick the hold began; 20 R541. -/
  since : Nat := 0
  /-- completion held; 20 R541. -/
  cpl : WitCpl := {}
  deriving DecidableEq, Repr, Inhabited

/-- A seal being signed (20, R549). -/
structure WitSign where
  /-- Witness ring; 20 R549. -/
  ring : Nat := 0
  /-- LAST; 20 Table 20.9. -/
  last : Option Nat := none
  /-- H_LAST; 20 Table 20.9. -/
  hLast : List (BitVec 8) := []
  /-- CLOSED; 20 Table 20.4. -/
  closed : Bool := false
  /-- FORCED; 20 Table 20.4. -/
  forced : Bool := false
  deriving DecidableEq, Repr, Inhabited

/-- Linked fetch items that had not come when a completion was evaluated (20, R540). -/
structure WitLate where
  /-- Witness ring; 20 R540. -/
  wring : Nat := 0
  /-- OWNER; 20 R538. -/
  drow : Nat := 0
  /-- FTAG; 20 R538. -/
  ftag : Nat := 0
  /-- BAG0; 20 R538. -/
  bag0 : Nat := 0
  /-- NBAG; 20 R538. -/
  nbag : Nat := 0
  /-- items still missing; 20 R540. -/
  missing : Nat := 0
  /-- tick of the evaluation; 20 R540. -/
  tb : Nat := 0
  deriving DecidableEq, Repr, Inhabited

/-- A Witness ring (20, R542-R551). -/
structure WitRing where
  /-- STATE; 20 R550. -/
  st : WitSt := .closed
  /-- PRED; 20 R539. -/
  pred : BitVec 4 := 0
  /-- STALL; 20 R542. -/
  stall : Bool := false
  /-- CERT; 20 R542. -/
  cert : Bool := false
  /-- N; 20 R542. -/
  n : Nat := 0
  /-- THR, FP32 bits; 20 R542. -/
  thr : Nat := 0
  /-- BASE; 20 R542. -/
  base : Nat := 0
  /-- LEN; 20 R542. -/
  len : Nat := 0
  /-- PRODUCED; 20 R543. -/
  produced : Nat := 0
  /-- CONSUMED; 20 R543. -/
  consumed : Nat := 0
  /-- entry boundaries not yet consumed; 20 R543. -/
  bounds : List Nat := []
  /-- next ESEQ; 20 R546. -/
  eseq : Nat := 0
  /-- hash of the last chained entry; 20 R548. -/
  prev : List (BitVec 8) := []
  /-- ESEQ of the last chained entry; 20 R549. -/
  lastChained : Option Nat := none
  /-- LAST of the last seal; 20 R549. -/
  sealedTo : Option Nat := none
  /-- PREV_SEAL; 20 R549. -/
  prevSeal : List (BitVec 8) := []
  /-- tick of the last seal; 20 R549. -/
  sealTb : Nat := 0
  /-- chained entries since the last seal; 20 R549. -/
  sinceSeal : Nat := 0
  /-- a WITNESS_SEAL waits: for its signing to start (false), for its seal (true); 20 R549. -/
  sealCmd : Option Bool := none
  /-- evaluation count, 32 bits; 20 R539. -/
  cnt : Nat := 0
  /-- subject table, 4,096 entries; 20 R539. -/
  subj : List (Nat × (Nat × List (BitVec 8))) := []
  /-- accepted, waiting to be written; 20 R536. -/
  buf : List WitEntry := []
  /-- run of given-up records: count, first, last tick; 20 R541. -/
  gap : Option (Nat × Nat × Nat) := none
  /-- records held under STALL, oldest first; 20 R541. -/
  heldRecs : List WitStalled := []
  /-- CAPTURED; 20 R551. -/
  captured : Nat := 0
  /-- DROPPED; 20 R551. -/
  dropped : Nat := 0
  /-- ITEMSLOST; 20 R551. -/
  itemsLost : Nat := 0
  /-- code of the answer that made the ring FAILED; 20 R545 (the model's own). -/
  failCode : Nat := 0
  deriving DecidableEq, Repr, Inhabited

/-- The Witness unit (20). -/
structure Wit where
  /-- items on their way to the unit on the WIT channel, oldest first; 20 R534. -/
  inbox : List ItemHeld := []
  /-- item area; 20 R536. -/
  items : List ItemHeld := []
  /-- 0-15; 20 R542. -/
  rings : List WitRing := List.replicate 16 {}
  /-- triggers in order; 20 R549. -/
  sealQueue : List Nat := []
  /-- seal being signed; 20 R549. -/
  signing : Option WitSign := none
  /-- keys of items discarded for want of room; 20 R536. -/
  lost : List ItemHeld := []
  /-- fetch items that a completion was evaluated without; 20 R540. -/
  late : List WitLate := []
  deriving DecidableEq, Repr, Inhabited

/-- A measurement entry (21, Table 21.4). -/
structure MeasEnt where
  /-- INDEX; 21 R558. -/
  index : Nat := 0
  /-- TB; 21 R558. -/
  tb : Nat := 0
  /-- EVENT; 21 R558. -/
  event : Nat := 0
  /-- ARG; 21 R558. -/
  arg : Nat := 0
  /-- DETAIL; 21 R558. -/
  detail : Nat := 0
  /-- DIGEST; 21 R558. -/
  digest : List (BitVec 8) := []
  deriving DecidableEq, Repr, Inhabited

/-- A queued attestation quote (21, R559). -/
structure Quote where
  /-- command; 21 R559 (the model's own). -/
  cmd : Nat := 0
  /-- RESPTR; 21 R559. -/
  resptr : Nat := 0
  /-- header and entries as captured; 21 R559. -/
  body : List (BitVec 8) := []
  deriving DecidableEq, Repr, Inhabited

/-- The security engine (21). -/
structure Sec where
  /-- MR; 21 R568. -/
  mr : List (BitVec 8) := List.replicate 64 0
  /-- BASE_MR; 21 R558. -/
  baseMr : List (BitVec 8) := List.replicate 64 0
  /-- last 4,096; 21 R558. -/
  log : List MeasEnt := []
  /-- NMEAS; 21 R567. -/
  nmeas : Nat := 0
  /-- device keys derived; 21 R553. -/
  keysDerived : Bool := false
  /-- SESSION, 0 none; 21 R567. -/
  session : Nat := 0
  /-- next number; 21 R560. -/
  nextSession : Nat := 1
  /-- HELLO accepted: quotes to be signed before it, content; 21 R560, R561. -/
  hello : Option (Nat × List (BitVec 8)) := none
  /-- fragments of a HELLO; 21 R560. -/
  helloBuf : List (Nat × List (BitVec 8)) := []
  /-- fragments of a PROOF; 21 R560. -/
  proofBuf : List (Nat × List (BitVec 8)) := []
  /-- OFFER sent: session number, HKEYIDX, T1; 21 R561. -/
  offer : Option (Nat × Nat × List (BitVec 8)) := none
  /-- last CTR accepted; 21 R562. -/
  ctrRx : Option Nat := none
  /-- next CTR sent; 21 R562 (DESIGN CHOICE at reset, log 9). -/
  ctrTx : Nat := 0
  /-- consecutive failed set-ups: AUTHFAIL, saturating at 7; 21 R563, R567. -/
  failRun : Nat := 0
  /-- tick HELLO is accepted again; 21 R563. -/
  lockUntil : Option Nat := none
  /-- SCOPE; 21 R567. -/
  scope : BitVec 3 := 0
  /-- TAMPER; 21 R567. -/
  tamper : Bool := false
  /-- NOISE_FAIL; 21 R567. -/
  noiseFail : Bool := false
  /-- CHAL; 21 R569. -/
  chal : List (BitVec 8) := List.replicate 16 0
  /-- signing queue; 21 R559. -/
  quotes : List Quote := []
  deriving DecidableEq, Repr, Inhabited

/-- The attention tree (22). -/
structure Attn where
  /-- EVENT leaves by branch; 22 R586. -/
  cause : List (BitVec 6) := List.replicate 9 0
  /-- enables; 22 R587. -/
  en : List (BitVec 6) := [0x03, 0x3F, 0x1F, 0x03, 0x0F, 0x07, 0x1F, 0x03, 0x03]
  /-- SPN_ATTN_ROWS; 22 R588. -/
  rows : BitVec 12 := 0
  /-- SPN_ATTN_PORTS; 22 R588. -/
  ports : BitVec 12 := 0
  /-- SPN_ATTN_MEM; 22 R588. -/
  mem : BitVec 24 := 0
  /-- SPN_ATTN_CARDS; 22 R588. -/
  cards : BitVec 8 := 0
  /-- _EN; 22 R588. -/
  rowsEn : BitVec 12 := 0xFFF
  /-- _EN; 22 R588. -/
  portsEn : BitVec 12 := 0xFFF
  /-- _EN; 22 R588. -/
  memEn : BitVec 24 := 0xFFFFFF
  /-- _EN; 22 R588. -/
  cardsEn : BitVec 8 := 0xFF
  /-- LASTREC; 22 R590. -/
  lastRec : List Nat := List.replicate 9 0
  /-- ATTN_N low since this tick; none released; 22 R596. -/
  lowSince : Option Nat := none
  /-- ATTN_N high-impedance; 22 R596. -/
  hiZ : Bool := false
  /-- summary last sent; 22 R597. -/
  lastSent : Nat := 0
  /-- tick it was sent; 22 R597. -/
  lastSentTb : Option Nat := none
  /-- a change waits for the spacing; 22 R597. -/
  deferred : Bool := false
  /-- an EVENT is owed after the link came up or a SES_DONE OK; 22 R597. -/
  owed : Bool := false
  deriving DecidableEq, Repr, Inhabited

/-- What the module sends: the model's own record of its wires. -/
inductive Out where
  /-- A Chavi packet to the host (15 R400). -/
  | chavi (p : ChaviOut)
  /-- A J3 frame: TYPE of Table 15.5, channel, STATUS, SENDER_ID, MSEQ, MSG; destination (0 broadcast) (15 R415; 17 R473). -/
  | j3 (type chan status sender mseq : Nat) (msg : List (BitVec 8)) (mac : Nat)
  /-- A frame of EtherType 0x88B5 to the broadcast address: the prefix and a fragment of a boot record (05 R124). -/
  | j3Boot (frame : List (BitVec 8))
  /-- A packet forwarded on an output port (14 R376). -/
  | forward (port : Nat) (p : Pkt)
  /-- A control flit on a port: cumulative ACK, or NAK, with its sequence number, and the credits freed (14 R364). -/
  | flit (port : Nat) (nak : Bool) (seq : Nat) (cred : List Nat)
  /-- A lane command on a port: SWAP true, RETURN false (14 R366, R367). -/
  | lane (port lane : Nat) (swap : Bool)
  /-- A UCIe acknowledgement, or NAK, of a module (11 R303). -/
  | ucie (module : Nat) (nak : Bool) (seq : Nat)
  /-- A NAK on the Chavi link (15 R399). -/
  | chaviNak (seq : Nat)
  /-- The answer to an access of HBM4 or DDR5: a code, and the bytes of a served read (12 R309). -/
  | answer (code : Nat) (data : List (BitVec 8))
  /-- The value a register or memory read returned. -/
  | value (bits : Nat)
  deriving DecidableEq, Repr

/-- Why the machine would stop with a fault. No command of this block stops: the spec gives every one an effect. -/
inductive Fault where
  /-- Raised by no meaning (safe: nothing answers it); the interface asks for a type of faults. -/
  | none
  deriving DecidableEq, Repr

/-- Why a command has no meaning. -/
inductive Refusal where
  /-- Raised by an arm of exec that has no meaning yet, with the command's mnemonic (safe: nothing is claimed). -/
  | notModelled (mnemonic : String)
  deriving DecidableEq, Repr

/-- The module: everything the spec gives it, and the commands that wait. -/
structure State where
  /-- Input, rails, converters, switches (02, 03). -/
  power : Power
  /-- Timebase and V/F step (04). -/
  clk : Clk
  /-- N0-N5, S0-S5. -/
  rows : List Row
  /-- Fuse array (05 R125). -/
  fuse : Fuse
  /-- Identity EEPROM (02). -/
  eeprom : Eeprom
  /-- Bring-up, boot log, straps (05). -/
  boot : Boot
  /-- Defect map (05 R139). -/
  dmap : DMap
  /-- Device memory (12). -/
  mem : Mem
  /-- Tables and row fetch (12). -/
  fetch : Fetch
  /-- Flash tier (13). -/
  flash : Flash
  /-- Fabric and UCIe (14, 11). -/
  fab : Fab
  /-- Chavi link (15). -/
  chavi : Chavi
  /-- Mailbox store (15). -/
  mbx : Mbx
  /-- Ring engine (15). -/
  rings : Rings
  /-- Gwynpin and management cores (16, 18). -/
  gw : Gw
  /-- Error logger (17). -/
  err : Err
  /-- Capping controller and meter (19). -/
  cap : Cap
  /-- Thermal control (19). -/
  therm : Therm
  /-- Witness unit (20). -/
  wit : Wit
  /-- Security engine (21). -/
  sec : Sec
  /-- Attention tree (22). -/
  attn : Attn
  /-- What the module sends (packets, frames, control flits, values read), newest first (the model's own: the wires). -/
  out : List Out
  /-- How many free values have been drawn (the model's own counter, read and advanced by what draws one). -/
  fresh : Nat
  /-- The commands that wait, first in, first out. -/
  pending : List Instr
  deriving DecidableEq, Repr

/-- The module at reset: the start of BU0 of a cold bring-up (03 R75, 04 R86, 05 R116; DESIGN CHOICE log 3), every
field at the value its docstring gives. -/
def State.reset : State :=
  {power := {}, clk := {}, rows := List.replicate 12 {}, fuse := {}, eeprom := {}, boot := {},
    dmap := {}, mem := {}, fetch := {}, flash := {}, fab := {}, chavi := {}, mbx := {}, rings := {},
    gw := {}, err := {}, cap := {}, therm := {}, wit := {}, sec := {}, attn := {}, out := [],
    fresh := 0, pending := [] }

end Sys2Proof.Machine
end

