-- ==== Sys2Proof/Machine/Update.lean ====
section
/-! DEFINITION. One update per field of State. -/

namespace Sys2Proof.Machine

/-- Rewrites the field power and nothing else. -/
def State.modPower (s : State) (h : Power → Power) : State := { s with power := h s.power }
/-- Rewrites the field clk and nothing else. -/
def State.modClk (s : State) (h : Clk → Clk) : State := { s with clk := h s.clk }
/-- Rewrites the field rows and nothing else. -/
def State.modRows (s : State) (h : List Row → List Row) : State := { s with rows := h s.rows }
/-- Rewrites the field fuse and nothing else. -/
def State.modFuse (s : State) (h : Fuse → Fuse) : State := { s with fuse := h s.fuse }
/-- Rewrites the field eeprom and nothing else. -/
def State.modEeprom (s : State) (h : Eeprom → Eeprom) : State := { s with eeprom := h s.eeprom }
/-- Rewrites the field boot and nothing else. -/
def State.modBoot (s : State) (h : Boot → Boot) : State := { s with boot := h s.boot }
/-- Rewrites the field dmap and nothing else. -/
def State.modDmap (s : State) (h : DMap → DMap) : State := { s with dmap := h s.dmap }
/-- Rewrites the field mem and nothing else. -/
def State.modMem (s : State) (h : Mem → Mem) : State := { s with mem := h s.mem }
/-- Rewrites the field fetch and nothing else. -/
def State.modFetch (s : State) (h : Fetch → Fetch) : State := { s with fetch := h s.fetch }
/-- Rewrites the field flash and nothing else. -/
def State.modFlash (s : State) (h : Flash → Flash) : State := { s with flash := h s.flash }
/-- Rewrites the field fab and nothing else. -/
def State.modFab (s : State) (h : Fab → Fab) : State := { s with fab := h s.fab }
/-- Rewrites the field chavi and nothing else. -/
def State.modChavi (s : State) (h : Chavi → Chavi) : State := { s with chavi := h s.chavi }
/-- Rewrites the field mbx and nothing else. -/
def State.modMbx (s : State) (h : Mbx → Mbx) : State := { s with mbx := h s.mbx }
/-- Rewrites the field rings and nothing else. -/
def State.modRings (s : State) (h : Rings → Rings) : State := { s with rings := h s.rings }
/-- Rewrites the field gw and nothing else. -/
def State.modGw (s : State) (h : Gw → Gw) : State := { s with gw := h s.gw }
/-- Rewrites the field err and nothing else. -/
def State.modErr (s : State) (h : Err → Err) : State := { s with err := h s.err }
/-- Rewrites the field cap and nothing else. -/
def State.modCap (s : State) (h : Cap → Cap) : State := { s with cap := h s.cap }
/-- Rewrites the field therm and nothing else. -/
def State.modTherm (s : State) (h : Therm → Therm) : State := { s with therm := h s.therm }
/-- Rewrites the field wit and nothing else. -/
def State.modWit (s : State) (h : Wit → Wit) : State := { s with wit := h s.wit }
/-- Rewrites the field sec and nothing else. -/
def State.modSec (s : State) (h : Sec → Sec) : State := { s with sec := h s.sec }
/-- Rewrites the field attn and nothing else. -/
def State.modAttn (s : State) (h : Attn → Attn) : State := { s with attn := h s.attn }
/-- Rewrites the field out and nothing else. -/
def State.modOut (s : State) (h : List Out → List Out) : State := { s with out := h s.out }
/-- Rewrites the field fresh and nothing else. -/
def State.modFresh (s : State) (h : Nat → Nat) : State := { s with fresh := h s.fresh }
/-- Rewrites the field pending and nothing else. -/
def State.modPending (s : State) (h : List Instr → List Instr) : State := { s with pending := h s.pending }

end Sys2Proof.Machine
end

