-- ==== Sys2Proof/Machine/Bits.lean ====
section
/-! DEFINITION. Sparse maps, byte order, bit fields and checksums. -/

namespace Sys2Proof.Machine

/-- Entry of a sparse map. -/
def mget {α : Type} : List (Nat × α) → Nat → Option α
  | [], _ => none
  | (k', v) :: t, k => if k' = k then some v else mget t k

/-- Writes an entry of a sparse map, keys rising. -/
def mset {α : Type} : List (Nat × α) → Nat → α → List (Nat × α)
  | [], k, v => [(k, v)]
  | (k', v') :: t, k, v =>
    if k < k' then (k, v) :: (k', v') :: t
    else if k = k' then (k, v) :: t
    else (k', v') :: mset t k v

/-- Removes an entry of a sparse map. -/
def mdel {α : Type} (m : List (Nat × α)) (k : Nat) : List (Nat × α) := m.filter (fun p => p.1 != k)

/-- Changes an entry that is there. -/
def mmod {α : Type} (m : List (Nat × α)) (k : Nat) (f : α → α) : List (Nat × α) :=
  m.map (fun p => if p.1 = k then (p.1, f p.2) else p)

/-- Entry of a map under a key with equality. -/
def kget {κ α : Type} [BEq κ] (m : List (κ × α)) (k : κ) : Option α := (m.find? (fun p => p.1 == k)).map (·.2)

/-- Writes an entry of such a map. -/
def kset {κ α : Type} [BEq κ] (m : List (κ × α)) (k : κ) (v : α) : List (κ × α) :=
  (k, v) :: m.filter (fun p => !(p.1 == k))

/-- Element of a list of units. -/
def nth {α : Type} [Inhabited α] (l : List α) (i : Nat) : α := l.getD i default

/-- Adds to a list without repeats. -/
def addNew {α : Type} [BEq α] (l : List α) (x : α) : List α := if l.contains x then l else l ++ [x]

/-- The last `n` elements. -/
def lastN {α : Type} (n : Nat) (l : List α) : List α := l.drop (l.length - n)

/-- Bits [lo + n − 1 : lo] of a word. -/
def bits (v lo n : Nat) : Nat := v / 2 ^ lo % 2 ^ n

/-- One bit of a word. -/
def bit (v i : Nat) : Bool := v / 2 ^ i % 2 == 1

/-- A flag as a number. -/
def b2n (b : Bool) : Nat := if b then 1 else 0

/-- A two's-complement field of `n` bits as an integer. -/
def toSigned (n v : Nat) : Int := if v % 2 ^ n < 2 ^ (n - 1) then (v % 2 ^ n : Nat) else (v % 2 ^ n : Nat) - (2 ^ n : Nat)

/-- An integer as a two's-complement field of `n` bits. -/
def ofSigned (n : Nat) (v : Int) : Nat := (v % (2 ^ n : Nat)).toNat

/-- A number as `n` bytes, little-endian (00, Notation). -/
def leBytes : Nat → Nat → List Byte
  | 0, _ => []
  | n + 1, v => BitVec.ofNat 8 v :: leBytes n (v / 256)

/-- Bytes as a number, little-endian. -/
def leNat : List Byte → Nat
  | [] => 0
  | b :: t => b.toNat + 256 * leNat t

/-- Bytes [o, o + n) of a block as a number, little-endian. -/
def field (l : List Byte) (o n : Nat) : Nat := leNat ((l.drop o).take n)

/-- Saturating count of `n` bits. -/
def sat (n v : Nat) : Nat := min v (2 ^ n - 1)

/-- One byte of a reflected 32-bit CRC with polynomial `p`. -/
def crcByte (p : BitVec 32) (c : BitVec 32) (b : Byte) : BitVec 32 :=
  (List.range 8).foldl (fun c _ => if c.getLsbD 0 then (c >>> 1) ^^^ p else c >>> 1) (c ^^^ b.setWidth 32)

/-- CRC-32 with the IEEE 802.3 polynomial. -/
def crc32 (l : List Byte) : Nat := ((l.foldl (crcByte 0xEDB88320) 0xFFFFFFFF) ^^^ 0xFFFFFFFF).toNat

/-- CRC-32C (Castagnoli). -/
def crc32c (l : List Byte) : Nat := ((l.foldl (crcByte 0x82F63B78) 0xFFFFFFFF) ^^^ 0xFFFFFFFF).toNat

/-- The hash of FH0 and of FH1 before the reduction (10 R254). -/
def fh0h (x s : Nat) : Nat := (x ^^^ s) * 0x9E3779B97F4A7C15 % 2 ^ 64
def fh1h (x s : Nat) : Nat :=
  let z := (x + s) % 2 ^ 64
  let z := (z ^^^ z / 2 ^ 30) * 0xBF58476D1CE4E5B9 % 2 ^ 64
  let z := (z ^^^ z / 2 ^ 27) * 0x94D049BB133111EB % 2 ^ 64
  z ^^^ z / 2 ^ 31

/-- CRC-32C of the 8 bytes of x with the register preset to s[31:0] (10 R254, FH2). -/
def fh2c (x s : Nat) : Nat :=
  (((leBytes 8 x).foldl (crcByte 0x82F63B78) (BitVec.ofNat 32 s)) ^^^ 0xFFFFFFFF).toNat

/-- FHASH: the row of identifier x in a table of r rows with seed s; all ones for an r out of range (10 R254). -/
def fhash (fn x s r : Nat) : Nat :=
  if r = 0 ∨ (if fn = 2 then 2 ^ 32 else 2 ^ 40) < r then 2 ^ 64 - 1
  else match fn with
    | 0 => fh0h x s * r / 2 ^ 64
    | 1 => fh1h x s * r / 2 ^ 64
    | _ => fh2c x s % r

/-- The number of elements that pass a test. -/
def countIf {α : Type} (p : α → Bool) (l : List α) : Nat := (l.filter p).length

/-- Folds a state change over a list. -/
def each {α : Type} (l : List α) (f : α → State → State) (s : State) : State := l.foldl (fun s x => f x s) s

end Sys2Proof.Machine
end

