-- ==== Sys2Proof/Machine/Flags.lean ====
section
/-! DEFINITION. The attention tree: leaves, summary, ATTN_N and the event packet (22), and the values of the return
and finding codes (16, Tables 16.10 and 16.11). -/

namespace Sys2Proof

/-- The 16-bit value of a code (16, Tables 16.10 and 16.11, R452). -/
def Code.val : Code → Nat
  | .ok => 0x0000 | .cmdUnknown => 0x0001 | .cmdIllegal => 0x0002 | .cmdDenied => 0x0003
  | .unitAbsent => 0x0004 | .unitRetired => 0x0005 | .unitBusy => 0x0006 | .capacityShort => 0x0007
  | .formatUnsupported => 0x0008 | .notReady => 0x0009 | .late => 0x000A | .deadlinePassed => 0x000B
  | .parityError => 0x000C | .rowDark => 0x000D | .rowInUse => 0x000E | .memUnclaimed => 0x000F
  | .progImageBad => 0x0010 | .astIllegal => 0x0101 | .astRange => 0x0102 | .astBusy => 0x0103
  | .astHalted => 0x0104 | .astPane => 0x0105 | .astWset => 0x0106 | .astGeometry => 0x0107
  | .astChain => 0x0108 | .astNoepi => 0x0109 | .drecFull => 0x010A | .astTimeout => 0x010B
  | .scbIllegal => 0x0201 | .scbFull => 0x0202 | .resvOverlap => 0x0203 | .relsNomatch => 0x0204
  | .prmWatchdog => 0x0205 | .prmParity => 0x0206 | .prmDoubleTrap => 0x0207 | .dmaIllegal => 0x0301
  | .dmaRange => 0x0302 | .dmaTimeout => 0x0303 | .bankAsleep => 0x0304 | .bankBusy => 0x0305
  | .netTimeout => 0x0306 | .dataLost => 0x0401 | .memUncorrectable => 0x0402 | .tableUnknown => 0x0403
  | .fetchIllegal => 0x0404 | .fetchPartial => 0x0405 | .flashWriteFail => 0x0501 | .cardForeign => 0x0502
  | .fabNoEndpoint => 0x0601 | .fabMalformed => 0x0602 | .ecrcError => 0x0603 | .noRoute => 0x0604
  | .ttlExpired => 0x0605 | .fabStall => 0x0606 | .fabTimeout => 0x0607 | .fabQueueFull => 0x0608
  | .linkDown => 0x0609 | .routeBusy => 0x060A | .windowDenied => 0x060B | .windowStale => 0x060C
  | .windowRange => 0x060D | .poisoned => 0x060E | .mbxNoChannel => 0x0701 | .mbxSecure => 0x0702
  | .senderRefused => 0x0703 | .mbxFull => 0x0704 | .ringEmpty => 0x0705 | .ringFull => 0x0706
  | .ringNotOwned => 0x0707 | .ringUnknown => 0x0708 | .doorbellDenied => 0x0709 | .doorbellRange => 0x070A
  | .reqTimeout => 0x070B | .jobTimeout => 0x070C | .sigInvalid => 0x0801 | .keyRevoked => 0x0802
  | .tokenInvalid => 0x0803 | .inputRange => 0x0B01 | .inputTrip => 0x0B02 | .phaseLost => 0x0B03
  | .rowShort => 0x0B04 | .railLost => 0x0B05 | .refLoss => 0x0B06 | .clockHold => 0x0B07
  | .thermalThrottle => 0x0B08 | .thermalCritical => 0x0B09 | .thermalHalt => 0x0B0A | .ucieDown => 0x0B0B
  | .mcWatchdog => 0x0B0C | .lowSpare => 0x0B0D | .flashState => 0x0B0E | .noiseFail => 0x0B0F
  | .failover => 0x0B10 | .noCore => 0x0B11 | .mcSelftestFail => 0x0F01 | .strapUnstable => 0x0F02
  | .eepromBad => 0x0F03 | .eepromMismatch => 0x0F04 | .fuseWordBad => 0x0F05 | .railFault => 0x0F06
  | .switchFault => 0x0F07 | .defectNew => 0x0F08 | .defectCarried => 0x0F09 | .chainCut => 0x0F0A
  | .rowDegraded => 0x0F0B | .rowOut => 0x0F0C | .memRepaired => 0x0F0D | .memRetired => 0x0F0E
  | .unitOut => 0x0F0F | .laneSpared => 0x0F10 | .portDown => 0x0F11 | .imageFetchFail => 0x0F12
  | .imageRejected => 0x0F13 | .stageTimeout => 0x0F14 | .logTruncated => 0x0F15

/-- Every code. -/
def Code.all : List Code :=
  [.ok, .cmdUnknown, .cmdIllegal, .cmdDenied, .unitAbsent, .unitRetired, .unitBusy, .capacityShort,
   .formatUnsupported, .notReady, .late, .deadlinePassed, .parityError, .rowDark, .rowInUse, .memUnclaimed,
   .progImageBad, .astIllegal, .astRange, .astBusy, .astHalted, .astPane, .astWset, .astGeometry, .astChain,
   .astNoepi, .drecFull, .astTimeout, .scbIllegal, .scbFull, .resvOverlap, .relsNomatch, .prmWatchdog, .prmParity,
   .prmDoubleTrap, .dmaIllegal, .dmaRange, .dmaTimeout, .bankAsleep, .bankBusy, .netTimeout, .dataLost,
   .memUncorrectable, .tableUnknown, .fetchIllegal, .fetchPartial, .flashWriteFail, .cardForeign, .fabNoEndpoint,
   .fabMalformed, .ecrcError, .noRoute, .ttlExpired, .fabStall, .fabTimeout, .fabQueueFull, .linkDown, .routeBusy,
   .windowDenied, .windowStale, .windowRange, .poisoned, .mbxNoChannel, .mbxSecure, .senderRefused, .mbxFull,
   .ringEmpty, .ringFull, .ringNotOwned, .ringUnknown, .doorbellDenied, .doorbellRange, .reqTimeout, .jobTimeout,
   .sigInvalid, .keyRevoked, .tokenInvalid, .inputRange, .inputTrip, .phaseLost, .rowShort, .railLost, .refLoss,
   .clockHold, .thermalThrottle, .thermalCritical, .thermalHalt, .ucieDown, .mcWatchdog, .lowSpare, .flashState,
   .noiseFail, .failover, .noCore, .mcSelftestFail, .strapUnstable, .eepromBad, .eepromMismatch, .fuseWordBad,
   .railFault, .switchFault, .defectNew, .defectCarried, .chainCut, .rowDegraded, .rowOut, .memRepaired, .memRetired,
   .unitOut, .laneSpared, .portDown, .imageFetchFail, .imageRejected, .stageTimeout, .logTruncated]

/-- The code of a status that came from outside; one that is no code of this table counts as FAB_MALFORMED (log 58). -/
def Code.ofVal (v : Nat) : Code := (Code.all.find? (·.val == v)).getD .fabMalformed

end Sys2Proof

namespace Sys2Proof.Machine

/-- What a record sets: an EVENT leaf by branch and bit, or a third-level bit (22, Tables 22.2 and 22.3). -/
inductive Leaf where
  | ev (branch n : Nat) | row (r : Nat) | port (l : Nat) | mem (m : Nat) | card (c : Nat)
  deriving DecidableEq, Repr

/-- The branch whose LASTREC a leaf moves (22 R590). -/
def Leaf.branch : Leaf → Nat
  | .ev b _ => b | .row _ => 2 | .port _ => 5 | .mem _ => 6 | .card _ => 6

/-- SERVICE.OTHER (22 R583). -/
def Leaf.other : Leaf := .ev 6 4

/-- Sets bit i of a word. -/
def setBit {w : Nat} (x : BitVec w) (i : Nat) : BitVec w := x ||| BitVec.ofNat w (2 ^ i)

/-- Sets a leaf (22 R581). -/
def Attn.set (a : Attn) : Leaf → Attn
  | .ev b n => { a with cause := a.cause.modify b (setBit · n) }
  | .row r => { a with rows := setBit a.rows r }
  | .port l => { a with ports := setBit a.ports l }
  | .mem m => { a with mem := setBit a.mem m }
  | .card c => { a with cards := setBit a.cards c }

/-- Sets a leaf for a record: the leaf and LASTREC of its branch (22 R583, R590). -/
def Attn.record (a : Attn) (l : Leaf) (recno : Nat) : Attn :=
  { a.set l with lastRec := a.lastRec.set l.branch recno }

/-- The leaf of branch 1 that a data-path record of a code sets: the first in bit order (22, Table 22.2, R583). -/
def dataLeaf (c : Code) : Leaf :=
  if [Code.parityError, .memUncorrectable, .dataLost, .ecrcError].contains c then .ev 1 0
  else if c = .poisoned then .ev 1 1
  else if [Code.netTimeout, .dmaTimeout, .astTimeout, .prmWatchdog, .fabTimeout, .reqTimeout, .jobTimeout, .late].contains c
    then .ev 1 2
  else if (0x0101 ≤ c.val ∧ c.val ≤ 0x010A) ∨ c = .prmParity ∨ c = .prmDoubleTrap then .ev 1 3
  else if [Code.fabMalformed, .noRoute, .ttlExpired, .fabStall, .linkDown, .bankAsleep, .unitRetired, .rowDark].contains c
    then .ev 1 4
  else .ev 1 5

/-- No good management core (18 R504). -/
def noCore (s : State) : Bool := s.gw.mc.all (· == .failed)

/-- THERMAL.ACTIVE: thermal ceiling below 7, or a DDR5 channel or flash card throttled (22, Table 22.2). -/
def thermActive (s : State) : Bool :=
  decide (s.cap.thermCeil < 7) || (s.mem.units.drop 8).any (·.throttled) || s.flash.cards.any (·.throttled)

/-- SPN_ATTN_CAUSEb: EVENT leaves, STATE leaves and the third-level bits (22 R581, R586). -/
def causeWord (s : State) (b : Nat) : BitVec 6 :=
  let a := s.attn
  let e := nth a.cause b
  let on (i : Nat) (c : Bool) : BitVec 6 := if c then BitVec.ofNat 6 (2 ^ i) else 0
  match b with
  | 2 => e ||| on 1 (a.rows &&& a.rowsEn != 0)
  | 4 => e ||| on 1 (thermActive s) ||| on 3 s.therm.halt
  | 5 => e ||| on 0 (a.ports &&& a.portsEn != 0)
  | 6 => e ||| on 1 (a.mem &&& a.memEn != 0) ||| on 2 (a.cards &&& a.cardsEn != 0)
  | 7 => e ||| on 1 s.sec.noiseFail
  | 8 => e ||| on 1 (noCore s)
  | _ => e

/-- SPN_ATTN_SUMMARY (22 R582, R585). -/
def summary (s : State) : Nat :=
  ((List.range 9).filter (fun b => causeWord s b &&& nth s.attn.en b != 0)).foldl (fun v b => v + 2 ^ b) 0

/-! The sending side of the Chavi link (15 R399 to R401; 21 R562). -/

/-- Channels of the mode, and where the secure bank ends (15 R406, Table 15.3). -/
def nChans (s : State) : Nat := if s.boot.mbxMode then 1024 else 64
def secureEnd (s : State) : Nat := if s.boot.mbxMode then 128 else 16

/-- The session, or a set-up, ends: traffic is class 0x1 and in clear (21 R560, R562). -/
def endSession (s : State) : State := s.modSec (fun x => { x with
  session := 0, hello := none, helloBuf := [], proofBuf := [], offer := none, ctrRx := none, ctrTx := 0 })

/-- Packet types that carry ENC in a session (21 R562). -/
def encType (t : Nat) : Bool := decide (1 ≤ t) && decide (t ≤ 9)

/-- A packet goes out on the link: it takes the next frames of 1,280 payload bytes and is kept for replay while its last frame is
among the last 256 (15 R398, R399). -/
def chaviPut (p : ChaviOut) (s : State) : State :=
  let n := (28 + p.data.length + (if p.ctr.isSome then 24 else 0) + 1279) / 1280
  { s with
    out := .chavi p :: s.out
    chavi := { s.chavi with
      txSeq := (s.chavi.txSeq + n) % 4096
      replay := (s.chavi.replay ++ [((s.chavi.txSeq + n + 4095) % 4096, p)]).filter
        (fun x => decide ((s.chavi.txSeq + n + 4096 - x.1) % 4096 ≤ 256)) } }

/-- A packet leaves: with ENC and the next CTR in a session, which ends when CTR would pass 2^48 − 1; a message of the
secure bank leaves only in a session (15 R404; 21 R562). -/
def chaviEmit (p : ChaviOut) (s : State) : State :=
  let s := if s.sec.session ≠ 0 ∧ 2 ^ 48 ≤ s.sec.ctrTx then endSession s else s
  if s.sec.session ≠ 0 ∧ encType p.type = true then
    chaviPut { p with ctr := some s.sec.ctrTx } { s with sec := { s.sec with ctrTx := s.sec.ctrTx + 1 } }
  else if p.type = 2 ∧ p.arg % 1024 < secureEnd s then s
  else chaviPut p s

/-- Packets that use no credits (15 R401). -/
def chaviFree (p : ChaviOut) : Bool := [0x08, 0x09, 0x0A].contains p.type

/-- Credits a packet of n payload bytes uses (15 R401). -/
def chaviCredits (n : Nat) : Nat := (28 + n + 63) / 64

/-- Payload bytes of a packet: CTR and tag are counted with ENC (21 R562). -/
def chaviLen (s : State) (p : ChaviOut) : Nat := p.data.length + (if s.sec.session ≠ 0 ∧ encType p.type = true then 24 else 0)

/-- Credits the device holds: the host's 256 KiB and what it has freed, less what has been used (15 R401; log 59). -/
def chaviHolds (s : State) : Nat := (4096 + s.chavi.creditRx + 2 ^ 32 - s.chavi.used) % 2 ^ 32

/-- Starts the waiting packets for which the credits are held. -/
def chaviDrain : Nat → State → State
  | 0, s => s
  | k + 1, s =>
    match s.chavi.txq with
    | [] => s
    | p :: rest =>
      let n := chaviCredits (chaviLen s p)
      if n ≤ chaviHolds s then
        chaviDrain k (chaviEmit p (s.modChavi (fun c => { c with txq := rest, used := (c.used + n) % 2 ^ 32 })))
      else s

/-- Sends a packet on the Chavi link, at once or when its credits are held (15 R401). -/
def chaviSend (p : ChaviOut) (s : State) : State :=
  if s.chavi.up = false then s
  else if chaviFree p then chaviEmit p s
  else chaviDrain (s.chavi.txq.length + 1) (s.modChavi (fun c => { c with txq := c.txq ++ [p] }))

/-- The EVENT packet of the attention tree (22 R597). -/
def attnEvent (s : State) : State :=
  chaviSend { type := 0x08, arg := 2 ^ 63 + summary s }
    (s.modAttn (fun a => { a with lastSent := summary s, lastSentTb := some s.clk.tb, deferred := false, owed := false }))

/-- An EVENT packet left within the last 10 µs (22 R597). -/
def attnSpaced (s : State) : Bool := s.attn.lastSentTb.any (fun t => decide (s.clk.tb < t + 500))

/-- The EVENT that follows the link coming up or SES_DONE OK (22 R597). -/
def attnOwed (s : State) : State :=
  if attnSpaced s then s.modAttn (fun a => { a with deferred := true, owed := true }) else attnEvent s

/-- What follows a change of the summary: ATTN_N is driven low while it is nonzero (22 R596), and an EVENT packet
leaves, at most one per 10 µs, a change within that interval waiting for its end (22 R597). -/
def attnSettle (s : State) : State :=
  let v := summary s
  let s := if v ≠ 0 ∧ s.attn.lowSince = none ∧ s.attn.hiZ = false
    then s.modAttn (fun a => { a with lowSince := some s.clk.tb }) else s
  if s.chavi.up = false then s
  else if v = s.attn.lastSent ∧ s.attn.owed = false then s.modAttn (fun a => { a with deferred := false })
  else if attnSpaced s then s.modAttn (fun a => { a with deferred := true })
  else attnEvent s

/-- Sets an EVENT leaf of branch 0, which no record sets (22 R583). -/
def setBootLeaf (n : Nat) (s : State) : State := attnSettle (s.modAttn (·.set (.ev 0 n)))

/-- Clears of the EVENT leaves and third-level bits of one branch (22 R591). -/
def Attn.clearBranch (a : Attn) (b : Nat) : Attn :=
  let a := { a with cause := a.cause.set b 0 }
  match b with
  | 2 => { a with rows := 0 }
  | 5 => { a with ports := 0 }
  | 6 => { a with mem := 0, cards := 0 }
  | _ => a

/-- A write of N to SPN_ATTN_CLEARBELOW (22 R591). -/
def clearBelow (n : Nat) (s : State) : State :=
  attnSettle (s.modAttn (fun a => ((List.range 9).filter
    (fun b => 0 < b ∧ 0 < nth a.lastRec b ∧ nth a.lastRec b < n)).foldl Attn.clearBranch a))

end Sys2Proof.Machine
end

