-- ==== Sys2Proof/Machine/Ops.lean ====
section
/-! DEFINITION. The named operations over units, memory, mailbox channels, fabric injection, error records, and the
scoreboard. -/

namespace Sys2Proof.Machine

/-- The answer of a command that has its effect. -/
abbrev Res := Host.Outcome State Fault Refusal

/-! Units (05 R122, R123). -/

/-- Unit identifier of class c, row field r, index i (05, Table 5.4). -/
def unitId (c r i : Nat) : Nat := 0x1000 * c + 0x100 * r + i
def uAst (r p : Nat) : Nat := unitId 1 r p
def uPrm (r p : Nat) : Nat := unitId 2 r p
def uBank (r b : Nat) : Nat := unitId 3 r b
def uDma (r e : Nat) : Nat := unitId 4 r e
def uRow (r : Nat) : Nat := unitId 5 r 0
/-- Stack (0-7) or channel (8-23) by its index in Mem.units. -/
def uMem (u : Nat) : Nat := if u < 8 then unitId 6 0 u else unitId 7 0 (u - 8)
def uCard (c : Nat) : Nat := unitId 8 0 c
def uFChan (c k : Nat) : Nat := unitId 9 0 (4 * c + k)
def uPort (p : Nat) : Nat := unitId 0xA 0 p
def uLane (p l : Nat) : Nat := unitId 0xB 0 (9 * p + l)
def uBridge (b : Nat) : Nat := unitId 0xC 0 b
def uMc (m : Nat) : Nat := unitId 0xD 0 m
def uUcie (m : Nat) : Nat := unitId 0xF 0 m
def uDom (n : Nat) : Nat := unitId 0xF 1 n
/-- Spine unit: 0 spine, 1 Witness, 2 security, 3 ring engine, 4 capping controller, 5 error logger. -/
def uSpine (n : Nat) : Nat := unitId 0xF 2 n

/-- A unit identifier's fields (05, Table 5.4). -/
def uClass (u : Nat) : Nat := u / 0x1000
def uRowOf (u : Nat) : Nat := u / 0x100 % 16
def uIdx (u : Nat) : Nat := u % 0x100

/-! Accessors: each list of units has one home and is reached through these. -/

def State.row (s : State) (r : Nat) : Row := nth s.rows r
def State.modRow (s : State) (r : Nat) (f : Row → Row) : State := s.modRows (·.modify r f)
def State.tile (s : State) (r t : Nat) : Tile := nth (s.row r).tiles t
def State.modTile (s : State) (r t : Nat) (f : Tile → Tile) : State :=
  s.modRow r (fun w => { w with tiles := w.tiles.modify t f })
def State.core (s : State) (r c : Nat) : Core := nth (s.row r).cores c
def State.modCore (s : State) (r c : Nat) (f : Core → Core) : State :=
  s.modRow r (fun w => { w with cores := w.cores.modify c f })
def State.dmaE (s : State) (r e : Nat) : Dma := nth (s.row r).dma e
def State.modDma (s : State) (r e : Nat) (f : Dma → Dma) : State :=
  s.modRow r (fun w => { w with dma := w.dma.modify e f })
def State.bank (s : State) (r b : Nat) : Bank := nth (s.row r).banks b
def State.modBank (s : State) (r b : Nat) (f : Bank → Bank) : State :=
  s.modRow r (fun w => { w with banks := w.banks.modify b f })
def State.half (s : State) (h : Nat) : Half := nth s.power.halves h
def State.modHalf (s : State) (h : Nat) (f : Half → Half) : State :=
  s.modPower (fun p => { p with halves := p.halves.modify h f })
def State.conv (s : State) (r : Nat) : Conv := nth s.power.conv r
def State.modConv (s : State) (r : Nat) (f : Conv → Conv) : State :=
  s.modPower (fun p => { p with conv := p.conv.modify r f })
def State.sw (s : State) (i : Nat) : Switch := nth s.power.switches i
def State.modSw (s : State) (i : Nat) (f : Switch → Switch) : State :=
  s.modPower (fun p => { p with switches := p.switches.modify i f })
def State.modDom (s : State) (n : Nat) (f : PwrDom → PwrDom) : State :=
  s.modPower (fun p => { p with dom := p.dom.modify n f })
def State.memUnit (s : State) (u : Nat) : MemUnit := nth s.mem.units u
def State.modMemUnit (s : State) (u : Nat) (f : MemUnit → MemUnit) : State :=
  s.modMem (fun m => { m with units := m.units.modify u f })
def State.card (s : State) (c : Nat) : Card := nth s.flash.cards c
def State.modCard (s : State) (c : Nat) (f : Card → Card) : State :=
  s.modFlash (fun m => { m with cards := m.cards.modify c f })
def State.fchan (s : State) (c k : Nat) : FChan := nth (s.card c).chans k
def State.modFChan (s : State) (c k : Nat) (f : FChan → FChan) : State :=
  s.modCard c (fun m => { m with chans := m.chans.modify k f })
def State.bridge (s : State) (b : Nat) : Bridge := nth s.fab.bridges b
def State.modBridge (s : State) (b : Nat) (f : Bridge → Bridge) : State :=
  s.modFab (fun m => { m with bridges := m.bridges.modify b f })
def State.port (s : State) (p : Nat) : Port := nth s.fab.ports p
def State.modPort (s : State) (p : Nat) (f : Port → Port) : State :=
  s.modFab (fun m => { m with ports := m.ports.modify p f })
def State.drow (s : State) (r : Nat) : DRow := nth s.dmap.rows r
def State.clkRow (s : State) (r : Nat) : ClkRow := nth s.clk.rowCnt r
def State.modClkRow (s : State) (r : Nat) (f : ClkRow → ClkRow) : State :=
  s.modClk (fun c => { c with rowCnt := c.rowCnt.modify r f })
def State.wring (s : State) (w : Nat) : WitRing := nth s.wit.rings w
def State.modWring (s : State) (w : Nat) (f : WitRing → WitRing) : State :=
  s.modWit (fun m => { m with rings := m.rings.modify w f })
def State.ring (s : State) (n : Nat) : Option RqRing := mget s.rings.rings n
def State.modRing (s : State) (n : Nat) (f : RqRing → RqRing) : State :=
  s.modRings (fun m => { m with rings := mmod m.rings n f })
def State.chan (s : State) (n : Nat) : Chan := (mget s.mbx.chans n).getD {}
def State.setChan (s : State) (n : Nat) (c : Chan) : State :=
  s.modMbx (fun m => { m with chans := mset m.chans n c })
def State.tb (s : State) : Nat := s.clk.tb

/-- Free bytes of a Witness ring's data area (20 R544). -/
def witFree (g : WitRing) : Nat := (g.len - 64) - (g.produced - g.consumed)

/-- Appends what the module sends. -/
def State.send (s : State) (o : Out) : State := s.modOut (o :: ·)

/-- Draws a free value (log 11): the value and the state with the counter moved. -/
def State.draw (s : State) : Nat × State := (Config.freeNat s.fresh, s.modFresh (· + 1))

/-- SPN_CAPS (00 R2, R4, Table 0.2). -/
def spnCaps (s : State) : Nat :=
  if s.boot.capsLoaded = false then 0
  else match s.fuse.variant with
    | .m8 => 0x0FFF1187 | .m6 => 0x0FFF1166 | .m4 => 0x03CF1140

/-- The fitted units of Table 0.1 (00 R1). -/
def hasFlash (s : State) : Bool := s.fuse.variant == .m8
def hasWitness (s : State) : Bool := s.fuse.variant != .m4
def nDdr (s : State) : Nat := if s.fuse.variant == .m4 then 8 else 16
def portFitted (s : State) (p : Nat) : Bool :=
  if s.fuse.variant == .m4 then [0, 1, 2, 3, 6, 7, 8, 9].contains p else decide (p < 12)

/-- The half of a row: 0 North, 1 South. -/
def halfOf (r : Nat) : Nat := r / 6

/-- A row takes no work: OUT in the defect map, or DARK (05 R131; 11 R263). -/
def rowIsOut (s : State) (r : Nat) : Bool := (s.row r).rowOut
def rowIsDark (s : State) (r : Nat) : Bool := (s.row r).st == .dark || (s.conv r).st == .retryWait || (s.conv r).st == .dark

/-- The position an Aster or Primrose slot is bound to (05 R130). -/
def astPos (s : State) (r t : Nat) : Option Nat := nth (s.drow r).astSlots t
def prmPos (s : State) (r c : Nat) : Option Nat := nth (s.drow r).prmSlots c

/-! The boot log (05, Tables 5.2 and 5.3). -/

def Finding.toBytes (f : Finding) : List Byte := leBytes 2 f.code ++ leBytes 2 f.unit ++ leBytes 4 f.detail ++ leBytes 8 f.tb

def statusCode : StageStatus → Nat
  | .pass => 0 | .passFindings => 1 | .skipped => 2 | .absent => 3 | .stopped => 4

/-- A stage record (05, Table 5.2). -/
def BootRec.toBytes (r : BootRec) : List Byte :=
  let fs := r.finds.flatMap Finding.toBytes
  let h := leBytes 2 (32 + 16 * r.finds.length) ++ leBytes 1 r.stage ++ leBytes 1 (statusCode r.status) ++ leBytes 1 (b2n r.warm)
    ++ leBytes 1 r.bootCore ++ leBytes 2 r.finds.length ++ leBytes 8 r.tbStart ++ leBytes 8 r.tbEnd ++ leBytes 4 r.bootNo
  h ++ leBytes 4 (crc32 (h ++ fs)) ++ fs

/-- The frames of a stage record on J3: a 4-byte prefix and at most 1,468 bytes of the record each (05 R124). -/
def bootFrames (r : BootRec) : List (List Byte) :=
  let n := (32 + 16 * r.finds.length + 1467) / 1468
  (List.range n).map (fun i => leBytes 2 r.bootNo ++ leBytes 1 r.stage ++ leBytes 1 (i + 16 * n) ++ (r.toBytes.drop (1468 * i)).take 1468)

/-! The defect map. -/

/-- EPOCH and TB_CHANGED follow where the defect map is no longer as it was (05 R139). -/
def epochSince (d : DMap) (s : State) : State :=
  if s.dmap = d then s else s.modDmap (fun m => { m with epoch := (m.epoch + 1) % 2 ^ 32, tbChanged := s.tb })

/-- A change of the defect map: EPOCH and TB_CHANGED follow (05 R139). -/
def State.modDmapE (s : State) (f : DMap → DMap) : State := epochSince s.dmap (s.modDmap f)
def State.modDRow (s : State) (r : Nat) (f : DRow → DRow) : State :=
  s.modDmapE (fun d => { d with rows := d.rows.modify r f })

/-- State codes of a stack or channel, and of a card, in the defect map (05, Table 5.9; 12, Table 12.8; 13, Table 13.7). -/
def fineMap : UnitFine → Nat
  | .inService => 0 | .degraded => 1 | .draining => 3 | .returning => 3 | .drained => 4 | .testing => 4 | .failed => 4 | .absent => 5
def cardMap : CardState → Nat
  | .inService => 0 | .degraded => 1 | .readOnly => 2 | .draining => 3 | .rebalancing => 3 | .drained => 4 | .testing => 4
  | .failed => 4 | .absent => 5

/-- The bytes of some stacks and channels, and those of the cards, in the defect map follow their states (05 R139). -/
def mapUnits (us : List Nat) (s : State) : State :=
  s.modDmapE (fun d => { d with units := us.foldl (fun l u => l.set u (fineMap (s.memUnit u).st)) d.units })
def mapCards (s : State) : State := s.modDmapE (fun d => { d with cards := s.flash.cards.map (fun c => cardMap c.st) })

/-- Rewrites the row class after a change of what is bound or in service (05 R131). -/
def classOf (s : State) (r : Nat) (d : DRow) : RowClass :=
  if rowIsDark s r then .dark
  else if s.rows[r]?.any (·.rowOut) || d.prmSlots.all (· == none) || d.dmaOk.all (· == false) then .out
  else if d.astSlots.all (·.isSome) && d.prmSlots.all (·.isSome) && d.bankOk.all id && d.dmaOk.all id then .full
  else .degraded

/-! Memory (12 R305 to R309). Bytes are keyed by a canonical device address: scratchpad SA, stack-local and
channel-local addresses; the interleaved forms are mapped to it. -/

/-- Where a device address leads. -/
inductive Place where
  | scratch (row bank : Nat)
  | mem (unit local_ : Nat)
  | fetch (bridge : Nat)
  | unmapped
  deriving DecidableEq, Repr

/-- Decodes a device address (12 R305, R306; 11 R262). -/
def place (s : State) (a : Nat) : Place :=
  let off := a % 2 ^ 44
  let hbm (st loc : Nat) : Place := if loc < 47815065600 then .mem st loc else .unmapped
  let ddr (ch loc : Nat) : Place := if loc < 125829120000 then .mem (8 + ch) loc else .unmapped
  if 2 ^ 48 ≤ a then .unmapped
  else match a / 2 ^ 44 with
  | 0 => if off < 480 * 2 ^ 21 then .scratch (off / 2 ^ 21 / 40) (off / 2 ^ 21 % 40) else .unmapped
  | 1 => if off < 2 ^ 39 then hbm (off / 256 % 8) (256 * (off / 2048) + off % 256) else .unmapped
  | 2 => if off < 2 ^ 39 then hbm (off / 2 ^ 36) (off % 2 ^ 36) else .unmapped
  | 3 => if 2 ^ 41 ≤ off then .unmapped
         else if s.fuse.variant == .m4 then ddr (off / 256 % 8) (256 * (off / 2048) + off % 256)
         else ddr (off / 256 % 16) (256 * (off / 4096) + off % 256)
  | 4 => if off < 2 ^ 41 then ddr (off / 2 ^ 37) (off % 2 ^ 37) else .unmapped
  | 0xC => if off = 0 then .fetch 0 else if off = 2 ^ 12 then .fetch 1 else .unmapped
  | _ => .unmapped

/-- The key under which a byte is kept. -/
def canon (s : State) (a : Nat) : Nat :=
  match place s a with
  | .mem u loc => if u < 8 then 2 * 2 ^ 44 + u * 2 ^ 36 + loc else 4 * 2 ^ 44 + (u - 8) * 2 ^ 37 + loc
  | _ => a

/-- The logical page of a place: 65536 × unit + page (12 R307). -/
def pageKey (u loc : Nat) : Nat := 65536 * u + loc / 2 ^ 21

/-- The remap entry of a logical page: the identity unless listed, and LOST on a unit that failed (12 R307, R331). -/
def pageEnt (s : State) (k : Nat) : PageEnt := (mget s.mem.remap k).getD
  { st := if s.mem.lostUnits.contains (k / 65536) then .lost else .mapped, unit := k / 65536, phys := k % 65536 }

/-- A stack or channel whose pages answer UNIT_RETIRED (12 R309, Table 12.8). -/
def unitIsOut (f : UnitFine) : Bool := [UnitFine.drained, .testing, .failed, .absent].contains f

/-- The 64-byte units that [a, a + n) touches. -/
def unitsOf (a n : Nat) : List Nat := if n = 0 then [] else (List.range ((a + n - 1) / 64 - a / 64 + 1)).map (· + a / 64)

/-- The answer to an access of one 64-byte unit of [a, a + n) (11 R263, R293; 12 R305, R309). -/
def unitCode (s : State) (wr : Bool) (a n u : Nat) : Code :=
  match place s (64 * u) with
  | .unmapped => .dmaRange
  | .fetch _ => .dmaRange
  | .scratch r b =>
    if rowIsOut s r then .unitRetired
    else if rowIsDark s r then .rowDark
    else if (s.bank r b).st == .retired then .unitRetired
    else if (s.bank r b).st == .off || ((s.bank r b).st == .entering && (s.bank r b).toOff) then .bankAsleep
    else .ok
  | .mem m loc =>
    let e := pageEnt s (pageKey m loc)
    if e.st == .lost then .dataLost
    else if unitIsOut (s.memUnit e.unit).st then .unitRetired
    else if wr && decide (a ≤ 64 * u) && decide (64 * u + 64 ≤ a + n) then .ok
    else if s.mem.dataLost.contains (canon s (64 * u) / 64) then .dataLost
    else if s.mem.bad.contains (canon s (64 * u) / 64) then .memUncorrectable
    else .ok

/-- The answer to an access: the first touched unit that is not OK decides. -/
def accessCode (s : State) (wr : Bool) (a n : Nat) : Code :=
  ((unitsOf a n).map (unitCode s wr a n)).find? (· != .ok) |>.getD .ok

/-- One byte of memory: a listed cell, or what an unlisted address reads as, 0 (05 R133, R134; log 8). -/
def cellRead (m : List Host.Cell) (k : Nat) : Byte := (mget m k).getD 0

/-- Writes one byte, keeping the canonical form: writing 0 removes the entry. -/
def cellWrite (m : List Host.Cell) (k : Nat) (b : Byte) : List Host.Cell := if b = 0 then mdel m k else mset m k b

/-- The canonical form of a memory: addresses strictly rising, no entry equal to what an unlisted address reads as. -/
def Memory.wf : List Host.Cell → Bool
  | [] => true
  | [c] => c.2 != 0
  | c :: d :: t => c.2 != 0 && decide (c.1 < d.1) && Memory.wf (d :: t)

/-- Reads n bytes at a device address. -/
def memRead (s : State) (a n : Nat) : List Byte := (List.range n).map (fun i => cellRead s.mem.cells (canon s (a + i)))

/-- Writes bytes at keys counted up from a device address. -/
def writeCells (s : State) : List Host.Cell → Nat → List Byte → List Host.Cell
  | m, _, [] => m
  | m, a, b :: t => writeCells s (cellWrite m (canon s a) b) (a + 1) t

/-- Whether a write of n bytes at a covers the whole aligned 64-byte unit u. -/
def coversUnit (s : State) (a n u : Nat) : Bool :=
  (unitsOf a n).any (fun v => canon s (64 * v) / 64 == u && decide (a ≤ 64 * v) && decide (64 * v + 64 ≤ a + n))

/-- Writes bytes at a device address; a whole aligned 64-byte unit written loses its DATA_LOST mark, and its uncorrectable
error (12 R309). -/
def memWrite (s : State) (a : Nat) (l : List Byte) : State :=
  s.modMem (fun m => { m with
    cells := writeCells s m.cells a l
    dataLost := m.dataLost.filter (fun u => !coversUnit s a l.length u)
    bad := m.bad.filter (fun u => !coversUnit s a l.length u) })

/-- Fills n bytes with zero. -/
def memZero (s : State) (a n : Nat) : State := memWrite s a (List.replicate n 0)

/-- Drops every cell that a test on its key names: contents lost or zero-filled. -/
def dropCells (p : Nat → Bool) (s : State) : State :=
  s.modMem (fun m => { m with cells := m.cells.filter (fun c => !p c.1) })

/-- Keys of the bytes of a bank, of a row, of a stack or channel. -/
def bankKey (r b k : Nat) : Bool := decide ((40 * r + b) * 2 ^ 21 ≤ k) && decide (k < (40 * r + b + 1) * 2 ^ 21)
def rowKey (r k : Nat) : Bool := decide (40 * r * 2 ^ 21 ≤ k) && decide (k < 40 * (r + 1) * 2 ^ 21)
def memUnitKey (u k : Nat) : Bool :=
  let base := if u < 8 then 2 * 2 ^ 44 + u * 2 ^ 36 else 4 * 2 ^ 44 + (u - 8) * 2 ^ 37
  decide (base ≤ k) && decide (k < base + (if u < 8 then 2 ^ 36 else 2 ^ 37))

/-- Device address of a row's line number (11 R262). -/
def lnAddr (r ln : Nat) : Nat := 64 * (1310720 * r + ln)

/-- The logical pages that the granules g0 to g1 − 1 of a region reach, w units taking turns: each unit's first granule in each 2 MiB of
it (12 R306, R307). -/
def granulePages (s : State) (w g0 g1 : Nat) : List Nat :=
  let k := 8192 * w
  (List.range ((g1 + k - 1) / k - g0 / k)).flatMap (fun i =>
    let lo := max g0 (k * (g0 / k + i))
    (List.range w).filterMap (fun u =>
      let g := lo + (u + w - lo % w) % w
      if g < min g1 (k * (g0 / k + i + 1)) then
        match place s (256 * g) with
        | .mem x loc => some (pageKey x loc)
        | _ => none
      else none))

/-- The logical pages that [a, a + n) reaches, by either address form (16 R603). -/
def pagesOf (s : State) (a n : Nat) : List Nat :=
  [(1, 8, 2 ^ 39), (2, 1, 2 ^ 39), (3, nDdr s, 2 ^ 41), (4, 1, 2 ^ 41)].flatMap (fun r =>
    granulePages s r.2.1 (max a (r.1 * 2 ^ 44) / 256) ((min (a + n) (r.1 * 2 ^ 44 + r.2.2) + 255) / 256))

/-- The pages of a range whose step is a whole number of pages per unit: one probe per 2 MiB of each unit (16 R603). -/
def pagesOfRange (s : State) (a n : Nat) : List Nat :=
  match a / 2 ^ 44 with
  | 1 => ((List.range (n / 2 ^ 24)).flatMap (fun i => (List.range 8).filterMap (fun st =>
      match place s (a + i * 2 ^ 24 + 256 * st) with | .mem u loc => some (pageKey u loc) | _ => none)))
  | 3 => let w := nDdr s
    ((List.range (n / (w * 2 ^ 21))).flatMap (fun i => (List.range w).filterMap (fun st =>
      match place s (a + i * (w * 2 ^ 21) + 256 * st) with | .mem u loc => some (pageKey u loc) | _ => none)))
  | _ => (List.range (n / 2 ^ 21)).filterMap (fun i =>
      match place s (a + i * 2 ^ 21) with | .mem u loc => some (pageKey u loc) | _ => none)

/-- Whether an extent lies in regions 0x1 to 0x4 and touches only claimed pages (16 R445). -/
def extentClaimed (s : State) (a n : Nat) : Bool :=
  decide (1 ≤ a / 2 ^ 44) && decide ((a + n - 1) / 2 ^ 44 ≤ 4) && (pagesOf s a n).all (s.mem.claimed.contains ·)

/-! Mailbox channels (15 R405 to R421). -/

/-- The class of a SENDER_ID. -/
def senderClass (sid : Nat) : Nat := sid / 0x1000

/-- Whether a private channel admits a sender (15 R410). -/
def senderMatches (c : Chan) (sid : Nat) : Bool :=
  if c.classMatch then sid / 0x1000 == c.smatch / 0x1000 else sid == c.smatch

/-- The checks of a write to a channel, in order (15 R408, R409). -/
def mbxCheck (s : State) (n sid : Nat) : Code :=
  let c := s.chan n
  if nChans s ≤ n ∨ c.enabled = false then .mbxNoChannel
  else if n < secureEnd s ∧ ¬ [2, 6, 7].contains (senderClass sid) then .mbxSecure
  else if c.shared = false ∧ senderMatches c sid = false then .senderRefused
  else if c.shared = false ∧ c.full then .mbxFull
  else .ok

/-- The channel after an accepted write (15 R409). -/
def Chan.accept (c : Chan) (msg : List Byte) (sid tb : Nat) : Chan :=
  { c with msg := msg, sender := sid, tb := tb, mseq := (c.mseq + 1) % 256, full := true, ackv := false,
           collision := c.shared && c.full }

/-- Whether J3 carries frames (02 R53, R57): it goes down with TB-W's rails (03, Table 3.9) and in a reset of TB-W (18
R509). -/
def j3Works (s : State) : Bool :=
  s.power.j3Up && s.power.j3Enabled && (nth s.power.rails 8).inReg && (nth s.power.rails 9).inReg && !(s.bridge 0).inReset

/-- MBX_DELIVER for one channel, if the link and the session allow it (15 R414, R404). -/
def deliverHost (n : Nat) (s : State) : State :=
  let c := s.chan n
  if decide (secureEnd s ≤ n) || s.sec.session != 0
  then chaviSend { type := 0x02, arg := n + 0x10000 * c.sender + 2 ^ 32 * c.mseq, data := c.msg } s else s

/-! Fabric injection (14 R370 to R384). -/

/-- Requests that are tracked at their source bridge (14 R383, Table 14.4). -/
def isRequest (t : Nat) : Bool := [1, 2, 5, 6, 7, 8, 9].contains t

/-- Stamps a packet at injection: EPOCH, TTL and, on a request, TAG (14 R372, R379); a response keeps its request's TAG. -/
def stampPkt (br : Bridge) (p : Pkt) : Pkt := { p with epoch := br.act, ttl := 32, tag := if isRequest p.type then br.nextTag else p.tag }

/-- Whether a request waits at injection: FENCE with an earlier request of its source and destination outstanding or
held, or no tracking place free (14 R383, R384). -/
def mustHold (br : Bridge) (p : Pkt) : Bool :=
  isRequest p.type && (decide (8192 ≤ br.tracked.length)
    || (p.fence && (br.tracked.any (fun t => t.src == p.src && t.dst == p.dst)
        || br.fenced.any (fun q => q.1.src == p.src && q.1.dst == p.dst))))

/-- The tracking entry of a request (14 R383). -/
def track (s : State) (q : Pkt) (owner arg : Nat) : Tracked :=
  { tag := q.tag, dst := q.dst, src := q.src, type := q.type, tb := s.tb, limit := s.gw.tmoFab, owner := owner, arg := arg }

/-- Injects a packet at a bridge; a request is tracked for its owner (14 R370, R383). -/
def inject (b : Nat) (p : Pkt) (owner arg : Nat) (s : State) : State :=
  if s.fab.epBase = none then s
  else
    let br := s.bridge b
    if mustHold br p then s.modBridge b (fun br => { br with fenced := br.fenced ++ [(p, owner, arg)] })
    else
      let q := stampPkt br p
      s.modBridge b (fun br => { br with
        injq := br.injq ++ [q]
        nextTag := if isRequest q.type then (br.nextTag + 1) % 65536 else br.nextTag
        tracked := if isRequest q.type then br.tracked ++ [track s q owner arg] else br.tracked })

/-- An endpoint of this module (14, Table 14.2); 0 while EPBASE is not set. -/
def endpoint (s : State) (i : Nat) : Nat := (s.fab.epBase.getD 0) + i

/-- Sends a MSG packet for a fabric-peer channel, from the management core's endpoint through TB-W (15 R414, R416). -/
def sendPeer (n : Nat) (s : State) : State :=
  let c := s.chan n
  inject 0 { dst := c.rdest, src := endpoint s 14, type := 7, len := 64, win := 0xFFFF, offset := c.rchan, data := c.msg } 1 (n + 1024 * c.mseq) (s.setChan n { c with peerTb := s.tb })

/-- Delivery of an accepted message to the channel's receiver (15 R414). -/
def deliver (n : Nat) (s : State) : State :=
  let c := s.chan n
  match c.rcv with
  | .mgmtCore => s
  | .chaviHost => deliverHost n s
  | .mgmtNet => if j3Works s then s.send (.j3 3 n 0 c.sender c.mseq c.msg 0) else s
  | .fabricPeer => sendPeer n s

/-- A write to a mailbox channel: its code, and the state after it (15 R409). -/
def mbxWrite (n : Nat) (msg : List Byte) (sid : Nat) (s : State) : Code × State :=
  match mbxCheck s n sid with
  | .ok => (.ok, deliver n (s.setChan n ((s.chan n).accept msg sid s.tb)))
  | c => (c, s)

/-- An acknowledgement of the held message in acknowledged mode (15 R411). -/
def mbxAck (n seq code : Nat) (s : State) : State :=
  let c := s.chan n
  if s.boot.mbxMode = false ∧ c.full ∧ seq = c.mseq
  then s.setChan n { c with full := false, ackv := true, ackSeq := seq, ackCode := code } else s

/-- The take of a held message: the ACK in acknowledged mode, the clearing of FULL in streaming mode (15 R411). -/
def mbxTake (n code : Nat) (s : State) : State :=
  if s.boot.mbxMode then s.setChan n { s.chan n with full := false } else mbxAck n (s.chan n).mseq code s

/-! Error records (17 R469 to R475). -/

/-- What a record carries, beside what the logger adds. -/
structure Rec where
  code : Code
  unit : Nat := 0
  op : Nat := 0
  platform : Bool := false
  leaf : Leaf := Leaf.other
  outcome : TestOutcome := .none
  action : Nat := 0
  job : Nat := 0xFFFFFFFF
  addr : Nat := 0
  detail : Nat := 0
  relrec : Nat := 0

/-- The temperature of the sensor nearest a unit, units of 0.25 °C (17, Table 17.4; log 15). -/
def tempOf (s : State) (u : Nat) : Int :=
  let r := u / 0x100 % 16
  let i := u % 0x100
  match u / 0x1000 with
  | 1 | 2 | 3 | 4 | 5 | 0xE => nth (nth s.therm.rows r) 0
  | 6 => (s.memUnit i).temp
  | 7 => (s.memUnit (8 + i)).temp
  | 8 => (s.card i).temp
  | 9 => (s.card (i / 4)).temp
  | 0xA => nth (nth s.therm.bridges (i / 6)) 0
  | 0xB => nth (nth s.therm.bridges (i / 54)) 0
  | 0xC => nth (nth s.therm.bridges i) 0
  | _ => s.therm.spine

/-- The rail feeding a unit, as a domain of Table 3.7 (17, Table 17.4). -/
def railOf (u : Nat) : Nat :=
  let r := u / 0x100 % 16
  let i := u % 0x100
  match u / 0x1000 with
  | 1 | 2 | 3 | 4 | 5 | 0xE => 5 + r
  | 6 => 17 + i / 4
  | 7 => 21 + i
  | 8 => 37 + i
  | 9 => 37 + i / 4
  | 0xA => 19 + i / 6
  | 0xB => 19 + i / 54
  | 0xC => 19 + i
  | 0xF => if r = 0 then 19 + i / 8 else if r = 1 then i else if r = 3 then 19 + i / 4 else if r = 4 then 19 + i / 16 else 2
  | _ => 2

/-- The 64 bytes of a record (17, Table 17.4). -/
def ErrRec.bytes (e : ErrRec) : List Byte :=
  let o : Nat := match e.outcome with | .none => 0 | .transient => 1 | .lasting => 2 | .untestable => 3 | .pass => 4
  let l := leBytes 8 e.recno ++ leBytes 8 e.tb ++ leBytes 2 e.code ++ leBytes 2 e.unit ++ leBytes 1 e.op
    ++ leBytes 1 (b2n e.platform) ++ leBytes 1 o ++ leBytes 1 e.action ++ leBytes 2 (ofSigned 16 e.temp)
    ++ leBytes 2 e.volt ++ leBytes 4 e.job ++ leBytes 8 e.addr ++ leBytes 8 e.detail ++ leBytes 8 e.relrec
    ++ leBytes 4 e.suppr
  l ++ leBytes 4 (crc32 l)

/-- Units with a targeted test that an error record starts (17 R475, Table 17.7); a stack or channel stands for a page, and a flash
channel for a block, in the records of one. -/
def testable (u : Nat) (c : Code) : Bool :=
  [1, 2, 3, 4, 0xB, 0xD, 0xE].contains (u / 0x1000) || u / 0x100 == 0xF0
    || ([6, 7].contains (u / 0x1000) && (c == .memRetired || c == .memUncorrectable))
    || (u / 0x1000 == 9 && (c == .memUncorrectable || c == .flashWriteFail))

/-- The event channel of the mode (17 R472). -/
def eventChan (s : State) : Nat := if s.boot.mbxMode then 130 else 18

/-- The record as the logger writes it (17, Table 17.4). -/
def Rec.entry (x : Rec) (s : State) (suppr : Nat) : ErrRec :=
  { recno := s.err.next, tb := s.tb, code := x.code.val, unit := x.unit, op := x.op, platform := x.platform,
    outcome := x.outcome, action := x.action, temp := tempOf s x.unit, volt := (nth s.power.dom (railOf x.unit)).volt,
    job := x.job, addr := x.addr, detail := x.detail, relrec := x.relrec, suppr := suppr }

/-- Writes an error record: suppression, log, leaf and LASTREC, event channel or J3, and the targeted test it starts
(17 R469 to R475; 22 R583). -/
def errRecord (x : Rec) (s : State) : State :=
  let key := (x.code.val, x.unit)
  match kget s.err.supp key with
  | some (t, n) =>
    if s.tb < t + 50000 then s.modErr (fun e => { e with supp := kset e.supp key (t, n + 1) })
    else go s n
  | none => go s 0
where
  go (s : State) (suppr : Nat) : State :=
    let e := x.entry s suppr
    let s := s.modErr (fun g => { g with next := g.next + 1, log := lastN 4096 (g.log ++ [e]),
                                         supp := kset g.supp (x.code.val, x.unit) (s.tb, 0) })
    let s := s.modAttn (·.record (if x.platform then x.leaf else dataLeaf x.code) e.recno)
    let s := if x.platform then (if j3Works s then s.send (.j3 5 0 0 0 0 e.bytes 0) else s)
      else (mbxWrite (eventChan s) e.bytes 0x7000 s).2
    let s := if testable x.unit x.code && x.relrec == 0 && x.outcome == .none && s.gw.tests.all (·.unit != x.unit)
      then s.modGw (fun g => { g with tests := g.tests ++ [{ unit := x.unit, recNo := e.recno, since := s.tb }] }) else s
    attnSettle s

/-! Uncorrectable errors and the retirement of pages (12 R308). -/

/-- The OP code of an access to a unit (17, Table 17.5). -/
def memOp (u : Nat) : Nat := if u < 8 then 0x0C else 0x0D
/-- The third-level bit of a unit (22, Table 22.3). -/
def memLeaf (u : Nat) : Leaf := .mem (if u < 8 then 16 + u else u - 8)

/-- A page's retirement starts: its copy to a spare runs, and it is recorded (12 R308; 16 R453; 17 R474). -/
def startRetire (k : Nat) (s : State) : State :=
  let e := pageEnt s k
  if e.st ≠ .mapped then s
  else
    let s := s.modMem (fun m => { m with remap := mset m.remap k { e with st := .retired, copying := true } })
    errRecord { code := .memRetired, unit := uMem e.unit, op := memOp e.unit, platform := true, action := 4
                detail := (s.memUnit e.unit).retired + 1 } s

/-- The 64-byte unit at a device address has an uncorrectable error: it is marked and its page's retirement starts (12 R308,
R309). -/
def memMark (a : Nat) (s : State) : State :=
  match place s a with
  | .mem u loc =>
    let v := (pageEnt s (pageKey u loc)).unit
    startRetire (pageKey u loc)
      ((s.modMem (fun m => { m with bad := addNew m.bad (canon s (64 * (a / 64)) / 64) })).modMemUnit v (fun x => { x with uncorr := true }))
  | _ => s

/-- The 64-byte unit at place i among those of some extents. -/
def pickUnit : List (Nat × Nat) → Nat → Option Nat
  | [], _ => none
  | g :: t, i => let l := unitsOf g.1 g.2; if i < l.length then some (64 * (g.1 / 64 + i)) else pickUnit t (i - l.length)

/-- A read of extents of HBM4 or DDR5 meets an uncorrectable error in one of their 64-byte units, a free value (12 R308; log
82): recorded under the reader's OP, and the unit marked. -/
def memMeets (op : Nat) (gs : List (Nat × Nat)) (s : State) : State :=
  let l := gs.filter (fun g => match place s g.1 with | .mem _ _ => true | _ => false)
  let d := s.draw
  match pickUnit l (d.1 % (l.map (fun g => (unitsOf g.1 g.2).length)).sum) with
  | some a =>
    let v := match place s a with | .mem u loc => (pageEnt s (pageKey u loc)).unit | _ => 0
    memMark a (errRecord { code := .memUncorrectable, unit := uMem v, op := op, addr := a } d.2)
  | none => d.2

/-! The scoreboard (11 R268 to R271). -/

/-- Two ranges of 512-byte units overlap when they share a unit (11 R268). -/
def rangesOverlap (l1 n1 l2 n2 : Nat) : Bool := decide (l1 < l2 + 8 * n2) && decide (l2 < l1 + 8 * n1)

/-- Compatible: no overlap, or both read (11 R269). -/
def rangeOk (a b : Nat × Nat × Bool) : Bool := !(rangesOverlap a.1 a.2.1 b.1 b.2.1) || (!a.2.2 && !b.2.2)

def ScbEntry.range (e : ScbEntry) : Nat × Nat × Bool := (e.line, e.len, e.wr)

/-- The banks a range touches (07 R199: 32,768 lines a bank). -/
def banksOf (l n : Nat) : List Nat :=
  if n = 0 then [] else (List.range ((l + 8 * n - 1) / 32768 - l / 32768 + 1)).map (· + l / 32768)

/-- What the scoreboard makes of a request (11 R269). -/
inductive ScbVerdict where
  | refuse (c : Code) | wait | grant
  deriving DecidableEq, Repr

/-- Aster and Primrose owners wait on a bank in OFF; DMA engines and ingress agents are refused (11 R269). -/
def ownerWaits (o : Nat) : Bool := decide (o < 0x10) || o == 0xFF

/-- The scoreboard's rule for one pending request, given the older ones (11 R269). -/
def scbVerdict (w : Row) (older : List ScbReq) (q : ScbReq) : ScbVerdict :=
  let bs := (q.ranges.flatMap (fun g => banksOf g.1 g.2.1)).map (nth w.banks)
  if w.scb.any (fun e => e.owner == q.owner && q.ranges.any (fun g => rangesOverlap e.line e.len g.1 g.2.1))
      || older.any (fun o => o.owner == q.owner && o.ranges.any (fun h => q.ranges.any (fun g => rangesOverlap h.1 h.2.1 g.1 g.2.1)))
    then .refuse .resvOverlap
  else if bs.any (fun b => b.st == .off || (b.st == .entering && b.toOff)) then
    (if ownerWaits q.owner then .wait else .refuse .bankAsleep)
  else if bs.any (fun b => b.st != .on || b.inTest) then .wait
  else if 256 < w.scb.length + q.ranges.length then .wait
  else if q.ranges.all (fun g => w.scb.all (fun e => rangeOk g e.range)
      && older.all (fun o => o.ranges.all (rangeOk g ·))) then .grant
  else .wait

/-- Banks in RET, or entering it, that a waiting request touches are woken (11 R269, R287). -/
def wakeBanks (bs : List Nat) (w : Row) : Row :=
  { w with banks := w.banks.mapIdx (fun i b =>
      if bs.contains i && b.st == .ret then { b with st := .waking }
      else if bs.contains i && b.st == .entering && !b.toOff then { b with wakeAfter := true } else b) }

/-- Adds the entries of a granted request (11 R268, R273); a send whose range it covers may start (14 R391). -/
def scbEnter (tb : Nat) (q : ScbReq) (w : Row) : Row :=
  let scb := w.scb ++ q.ranges.map (fun g => { line := g.1, len := g.2.1, wr := g.2.2, owner := q.owner, tb := tb })
  { w with scb := scb, hiwat := max w.hiwat scb.length,
           watch := w.watch.map (fun x => if q.ranges.any (fun g => g.2.2 && decide (g.1 ≤ x.line) && decide (x.line + 8 * x.len ≤ g.1 + 8 * g.2.1))
             then { x with seen := true } else x)
           scbPend := w.scbPend.filter (fun p => !(p == q)) }

/-- Places a request: refused, granted at once, or pending (11 R269). -/
def scbRequest (tb : Nat) (q : ScbReq) (w : Row) : ScbVerdict × Row :=
  match scbVerdict w w.scbPend q with
  | .refuse c => (.refuse c, w)
  | .grant => (.grant, scbEnter tb q w)
  | .wait => (.wait, wakeBanks (q.ranges.flatMap (fun g => banksOf g.1 g.2.1))
      { w with scbPend := w.scbPend ++ [q], fullSeen := w.fullSeen || decide (256 < w.scb.length + q.ranges.length) })

/-- Banks last touched at a tick (11 R287). -/
def stampBanks (tb : Nat) (bs : List Nat) (w : Row) : Row :=
  { w with banks := w.banks.mapIdx (fun i b => if bs.contains i then { b with idleSince := tb, tIdle := w.tBank } else b) }

/-- Frees the entries that a test names (11 R269, R287). -/
def scbFreeIf (tb : Nat) (p : ScbEntry → Bool) (w : Row) : Row :=
  stampBanks tb ((w.scb.filter p).flatMap (fun e => banksOf e.line e.len)) { w with scb := w.scb.filter (fun e => !p e) }

/-- Frees every entry of an owner. -/
def scbFreeOwner (tb o : Nat) (w : Row) : Row := scbFreeIf tb (·.owner == o) w

/-- Owner codes (11, Table 11.1). -/
def ownAst (t : Nat) : Nat := t
def ownPrm (c : Nat) : Nat := 8 + c
def ownIng (a : Nat) : Nat := 0x10 + a
def ownDma (r e : Nat) : Nat := 0x40 + 4 * r + e

/-! Provisional output and poison (17 R458 to R463). -/

/-- The tag of a pair's sequence (17 R458). -/
def provTag (s : State) (r pair seq : Nat) : Nat :=
  0x100000 * (s.fab.epBase.getD 0 / 16) + 0x10000 * r + 0x8000 * pair + seq

/-- The origin of a tag: everything above the sequence. -/
def originOf (tag : Nat) : Nat := tag / 0x8000
def seqOf (tag : Nat) : Nat := tag % 0x8000

/-- Sequence a at or below b, modulo 2^15 (17 R458). -/
def seqLe (a b : Nat) : Bool := decide ((b + 0x8000 - a) % 0x8000 < 0x4000)

/-- Removes an origin confirmed up to a sequence (17 R461). -/
def confirmTaint (o q : Nat) (t : List (Nat × Nat)) : List (Nat × Nat) := t.filter (fun p => !(p.1 == o && seqLe p.2 q))

/-- Whether a taint or entry carries an origin at or above a sequence (17 R462). -/
def taintHit (o q : Nat) (t : List (Nat × Nat)) : Bool := t.any (fun p => p.1 == o && seqLe q p.2)

/-- Adds an origin with its greatest sequence (17 R460). -/
def addTaint (t : List (Nat × Nat)) (p : Nat × Nat) : List (Nat × Nat) :=
  match t.find? (·.1 == p.1) with
  | none => t ++ [p]
  | some q => t.map (fun x => if x.1 = p.1 then (x.1, if seqLe q.2 p.2 then p.2 else q.2) else x)

/-- The provisional entries of a row over a range of lines. -/
def provOver (w : Row) (l n : Nat) : List ProvEntry :=
  w.prov.filter (fun e => decide (e.line < l + n) && decide (l < e.line + 8 * e.len))

/-- A POISONED entry over a reservation, carrying no origin (18 R493). -/
def poisonRange (l n : Nat) (w : Row) : Row :=
  { w with prov := w.prov ++ [{ line := l, len := n, poisoned := true }] }

/-- A POISONED entry is removed when a write reservation over its whole range is granted (17 R463). -/
def clearPoisoned (g : Nat × Nat × Bool) (w : Row) : Row :=
  if g.2.2 then { w with prov := w.prov.filter (fun e =>
    !(e.poisoned && decide (g.1 ≤ e.line) && decide (e.line + 8 * e.len ≤ g.1 + 8 * g.2.1))) } else w

/-- Reservations of an owner freed with its write ranges marked POISONED (18 R493). -/
def freeMarked (tb o : Nat) (w : Row) : Row :=
  scbFreeOwner tb o ((w.scb.filter (fun e => e.owner == o && e.wr)).foldl (fun w e => poisonRange e.line e.len w) w)

/-- The provisional table has room for n more entries, or none of its entries can free itself any more (18 R493; log 61). -/
def markRoom (w : Row) (n : Nat) : Bool := decide (w.prov.length + n ≤ 64) || w.prov.all (·.poisoned)

/-- The write reservations of an owner. -/
def writesOf (w : Row) (o : Nat) : Nat := countIf (fun e => e.owner == o && e.wr) w.scb

end Sys2Proof.Machine
end

