-- ==== Sys2Proof/Machine/RingOps.lean ====
section
/-! DEFINITION. The ring engine's operations: completions, error completions and what ends a request (15 R423 to R435;
17 R482, R483; 18 R488, R489). -/

namespace Sys2Proof.Machine

def RqRing.size (g : RqRing) : Nat := 2 ^ g.log2size
/-- Entries not yet popped (15 R424). -/
def RqRing.count (g : RqRing) : Nat := (g.pi + 65536 - g.ci) % 65536
/-- Completion places in use (15 R428). -/
def RqRing.cplUsed (g : RqRing) : Nat := (g.cpi + 65536 - g.cci) % 65536
/-- The address of request entry i (15 R424). -/
def RqRing.rqAddr (g : RqRing) (i : Nat) : Nat := g.rqBase + 64 * (i % g.size)
def RqRing.cqAddr (g : RqRing) (i : Nat) : Nat := g.cqBase + 64 * (i % g.size)

/-- The fields of a completion entry that the engine writes itself: PHASE, CI and TB (15 R426). -/
def stampCpl (g : RqRing) (tb : Nat) (e : List Byte) : List Byte :=
  let fl := (field e 0x0E 1) / 2 * 2 + b2n g.cphase
  e.take 0x0E ++ leBytes 1 fl ++ (e.drop 0x0F).take 1 ++ leBytes 2 g.ci ++ (e.drop 0x12).take 6 ++ leBytes 8 tb
    ++ (e.drop 0x20).take 32

/-- An error completion's bytes (15 R426). -/
def errCpl (tag job : Nat) (c : Code) : List Byte :=
  leBytes 8 tag ++ leBytes 4 job ++ leBytes 2 c.val ++ List.replicate 50 0

/-- Writes a completion entry to memory, then advances CPI, flips CPHASE at a wrap, and sends the EVENT (15 R424,
R428, R435). -/
def writeCpl (n : Nat) (e : List Byte) (s : State) : State :=
  match s.ring n with
  | none => s
  | some g =>
    let s := if accessCode s true (g.cqAddr g.cpi) 64 = .ok then memWrite s (g.cqAddr g.cpi) (stampCpl g s.tb e) else s
    let cpi := (g.cpi + 1) % 65536
    let s := s.modRing n (fun g => { g with cpi := cpi, cphase := if cpi % g.size = 0 then !g.cphase else g.cphase })
    if g.notify then chaviSend { type := 0x08, arg := n + 0x10000 * cpi } s else s

/-- Completions of a ring that the Witness unit holds; each keeps its place (20 R541). -/
def witCount (s : State) (n : Nat) : Nat := countIf (fun p => p.ring == n) s.rings.witHeld
  + (s.wit.rings.map (fun g => countIf (fun x => x.cpl.ring == n) g.heldRecs)).sum

/-- Whether the completion ring has no place (15 R428; 20 R541). -/
def cplFull (s : State) (n : Nat) (g : RqRing) : Bool := decide (g.size ≤ g.cplUsed + witCount s n)

/-- Delivers a completion entry to the ring's target: its memory, or the mailbox channel, stamped class 0x5 with the core's
index (15 R424, R426, R429). -/
def deliverCpl (n : Nat) (g : RqRing) (e : List Byte) (stamp : Nat) (s : State) : Code × State :=
  match g.cqChan with
  | some ch => match mbxWrite ch (stampCpl g s.tb e) (0x5000 + stamp) s with
    | (.mbxFull, _) => (.ringFull, s)
    | r => r
  | none => if g.size ≤ g.cplUsed then (.ringFull, s) else (.ok, writeCpl n e s)

/-- Posts a completion written by the device, or holds it in order; nothing is written on a FAILED ring (15 R429; 17 R483;
18 R488). -/
def postDevice (n : Nat) (e : List Byte) (stamp : Nat) (s : State) : State :=
  match s.ring n with
  | none => s
  | some g =>
    let hold := s.modRing n (fun g => { g with held := g.held ++ [(e, stamp)] })
    if g.failed then s
    else if !g.held.isEmpty || (g.cqChan.isNone && cplFull s n g) then hold
    else match deliverCpl n g e stamp s with
      | (.ok, t) => t
      | (.ringFull, _) => hold
      | (c, _) => errRecord { code := c, unit := uSpine 3, op := 0x09, job := field e 8 4 } s

/-- Held error completions are posted, in the order they were made, while there is place (18 R488). -/
def drainHeld : Nat → Nat → State → State
  | 0, _, s => s
  | k + 1, n, s =>
    match s.ring n with
    | none => s
    | some g =>
      match g.held with
      | [] => s
      | (e, st) :: rest =>
        let free := s.modRing n (fun g => { g with held := rest })
        if g.failed || (g.cqChan.isNone && cplFull s n g) then s
        else match deliverCpl n { g with held := rest } e st free with
          | (.ok, t) => drainHeld k n t
          | (.ringFull, _) => s
          | (c, _) => drainHeld k n (errRecord { code := c, unit := uSpine 3, op := 0x09, job := field e 8 4 } free)

/-- The stamp index of a request's core (15 R407, R429). -/
def reqStamp (g : RqRing) (q : Req) : Nat := 8 * g.owner + q.slot

/-- The lowest Primrose slot of a ring (15 R429). -/
def lowSlot (g : RqRing) : Nat := ((List.range 8).find? (fun i => g.slots.getLsbD i)).getD 0

/-- Ends the outstanding requests of a ring that a test names, oldest first, with one error completion each. -/
def endRequests (n : Nat) (p : Req → Bool) (c : Code) (s : State) : State :=
  match s.ring n with
  | none => s
  | some g =>
    let gone := g.out.filter p
    let s := s.modRing n (fun g => { g with out := g.out.filter (fun q => !p q) })
    each gone (fun q => postDevice n (errCpl q.tag q.job c) (reqStamp g q)) s

/-- Ends the entries of a ring that no core has popped (17 R482; 18 R489): CI advances past each. -/
def endUnpopped : Nat → Nat → Code → State → State
  | 0, _, _, s => s
  | k + 1, n, c, s =>
    match s.ring n with
    | none => s
    | some g =>
      if g.count = 0 ∨ g.failed then s
      else
        let e := memRead s (g.rqAddr g.ci) 64
        let s := s.modRing n (fun g => { g with ci := (g.ci + 1) % 65536 })
        endUnpopped k n c (postDevice n (errCpl (field e 0 8) (field e 8 4) c) (8 * g.owner + lowSlot g) s)

/-- Ends every request popped by a slot and not yet posted (10 R261). -/
def endSlotRequests (r c : Nat) (code : Code) (s : State) : State :=
  each (s.rings.rings.filter (fun p => p.2.owner == r)) (fun p => endRequests p.1 (·.slot == c) code) s

/-- Why the engine ends an entry at the head of its ring instead of delivering it: its job has expired (18 R489), or it
names a unit the module does not have (00 R8). -/
def entryEnds (s : State) (e : List Byte) : Option Code :=
  if s.gw.jobExpired.contains (field e 8 4) then some .jobTimeout
  else if bit (field e 0x0E 1) 0 && !hasWitness s then some .unitAbsent
  else none

/-- Ends the entries at the head of a ring that are not to be delivered (18 R489; 00 R8). -/
def purgeHead : Nat → Nat → State → State
  | 0, _, s => s
  | k + 1, n, s =>
    match s.ring n with
    | none => s
    | some g =>
      if g.count = 0 ∨ g.failed then s
      else
        let e := memRead s (g.rqAddr g.ci) 64
        match entryEnds s e with
        | some c =>
          purgeHead k n (postDevice n (errCpl (field e 0 8) (field e 8 4) c) (8 * g.owner + lowSlot g)
            (s.modRing n (fun g => { g with ci := (g.ci + 1) % 65536 })))
        | none => s

/-! RPOP and RPUSH at the engine (10 R247 to R249; 15 R427 to R429). -/

/-- Whether a core may pop and push a ring: its row owns it and its slot is assigned (10 R247). -/
def ringAssigned (g : RqRing) (r c : Nat) : Bool := g.owner == r && g.slots.getLsbD c

/-- A ring from which a pop can take an entry: the engine serves, and the entry can be read. -/
def ringHolds (s : State) (g : RqRing) : Bool :=
  s.rings.up && !g.failed && g.count != 0 && accessCode s false (g.rqAddr g.ci) 64 == .ok

/-- Whether a ring of the core's assigned set holds an entry (10 R252). -/
def ringReady (s : State) (r c : Nat) : Bool := s.rings.rings.any (fun p => ringAssigned p.2 r c && ringHolds s p.2)

/-- The ring a selecting pop takes: the next in order of number after the last popped (10 R247). -/
def nextRing (s : State) (r c last : Nat) : Option Nat :=
  let l := (s.rings.rings.filter (fun p => ringAssigned p.2 r c && ringHolds s p.2)).map (·.1)
  match l.filter (fun n => decide (last < n)) with
  | n :: _ => some n
  | [] => l.head?

/-- The entry at CI is taken: it enters the outstanding table and, with the first of its JOB, the job timer starts (15
R427; 18 R489). -/
def popEntry (n c : Nat) (g : RqRing) (s : State) : List Byte × State :=
  let e := memRead s (g.rqAddr g.ci) 64
  let job := field e 8 4
  let q : Req := { tag := field e 0 8, job := job, popTb := s.tb, slot := c, tmo := g.tmo, witness := bit (field e 0x0E 1) 0, prog := field e 0x0C 2 }
  let s := s.modRing n (fun g => { g with ci := (g.ci + 1) % 65536, out := g.out ++ [q] })
  match mget s.gw.jobTmo job, mget s.gw.jobAt job with
  | some l, none => (e, s.modGw (fun w => { w with jobAt := mset w.jobAt job (s.tb + l) }))
  | _, _ => (e, s)

/-- A post that matches an outstanding request and is not held for taint: refused, handed to the Witness unit, or posted
(15 R428, R429; 20 R539). -/
def pushMatched (n r c : Nat) (g : RqRing) (q : Req) (e : List Byte) (s : State) : Code × State :=
  let done (s : State) : State := s.modRing n (fun g => { g with out := g.out.erase q })
  if g.failed ∨ !g.held.isEmpty ∨ (g.cqChan.isNone ∧ cplFull s n g = true) then (.ringFull, s)
  else if q.witness then
    match g.cqChan.map (fun ch => mbxCheck s ch (0x5000 + 8 * r + c)) with
    | some .mbxFull => (.ringFull, s)
    | some .ok | none => (.ok, (done s).modRings (fun m => { m with witHeld := m.witHeld ++ [{ ring := n, slot := c, entry := e, req := q, tb := s.tb }] }))
    | some k => (k, s)
  else match deliverCpl n g e (8 * r + c) s with
    | (.ok, t) => (.ok, done t)
    | (k, _) => (k, s)

/-- The oldest outstanding request with a TAG (15 R428). -/
def matchReq (g : RqRing) (e : List Byte) : Option Req := g.out.find? (fun q => q.tag == field e 0 8)

/-- An RPUSH that matches no outstanding request: LATE, counted and recorded (15 R428; 18 R490). -/
def pushLate (e : List Byte) (s : State) : Code × State :=
  (.late, errRecord { code := .late, unit := uSpine 3, op := 0x09, job := field e 8 4 } (s.modRings (fun m => { m with late := m.late + 1 })))

/-- An RPUSH at the ring engine, of a core without taint: its status (10 R249; 15 R428, R429; 18 R509). -/
def enginePush (n r c : Nat) (e : List Byte) (s : State) : Code × State :=
  match s.ring n with
  | none => (.ringNotOwned, s)
  | some g =>
    if ringAssigned g r c = false then (.ringNotOwned, s)
    else if s.rings.up = false then (.ringFull, s)
    else match matchReq g e with
      | none => pushLate e s
      | some q => pushMatched n r c g q e s

/-- An RPUSH whose core's taint is POISONED: an error completion in its place (17 R467). -/
def enginePushBad (n r c : Nat) (e : List Byte) (s : State) : Code × State :=
  match s.ring n with
  | none => (.ringNotOwned, s)
  | some g =>
    match matchReq g e with
    | none => pushLate e s
    | some q =>
      if g.failed ∨ !g.held.isEmpty ∨ (g.cqChan.isNone ∧ cplFull s n g = true) ∨ s.rings.up = false then (.ringFull, s)
      else match deliverCpl n g (errCpl q.tag q.job .poisoned) (8 * r + c) s with
        | (.ok, t) => (.ok, t.modRing n (fun g => { g with out := g.out.erase q }))
        | (k, _) => (k, s)

/-- What a row that goes DARK or OUT, or loses its programs, leaves on its rings (17 R482): an error completion with
ROW_DARK for every request, popped or not. -/
def endRowRings (r : Nat) (s : State) : State :=
  each (s.rings.rings.filter (fun p => p.2.owner == r))
    (fun p s => endUnpopped p.2.count p.1 .rowDark (endRequests p.1 (fun _ => true) .rowDark s)) s

/-- Whether the ring engine ends every entry that reaches a row's rings (17 R482; 04 R108). -/
def rowEnds (s : State) (r : Nat) : Bool := rowIsDark s r || rowIsOut s r || (s.row r).endsWork

end Sys2Proof.Machine
end

