-- ==== Sys2Proof/Machine/RowOps.lean ====
section
/-! DEFINITION. What happens to rows and rails whatever the cause: waking, staging, OFF, DARK, PWR_OK, memory units
going out of service (03, 04, 12, 17). -/

namespace Sys2Proof.Machine

/-! Rails and PWR_OK. -/

/-- Index of a shared rail in Power.rails. -/
def railIdx : SharedRail → Nat
  | .bc0 => 0 | .bc1 => 1 | .vbus12 => 2 | .vnocN => 3 | .vnocS => 4 | .vhbmN => 5 | .vhbmS => 6
  | .vbrE => 7 | .vbrW => 8 | .v3p3 => 9 | .vspine => 10

def State.rail (s : State) (x : SharedRail) : Rail := nth s.power.rails (railIdx x)
def State.modRail (s : State) (x : SharedRail) (f : Rail → Rail) : State :=
  s.modPower (fun p => { p with rails := p.rails.modify (railIdx x) f })

/-- Every counted rail is in regulation (03 R63): the shared rails but the bus converters, and the VCORE rails of the
rows neither DARK nor in RETRY_WAIT. -/
def countedOk (s : State) : Bool :=
  (s.power.rails.drop 2).all (·.inReg)
    && (List.range 12).all (fun r => rowIsDark s r || (s.conv r).on)

/-- PWR_OK after any change of a rail (02 R39): low before BU2 completes, then high exactly while every counted rail
is in regulation. -/
def pwrOkUpdate (s : State) : State :=
  s.modPower (fun p => { p with pwrOk := p.bu2Done && countedOk s })

/-- Rating and trip threshold in mA for the phases that have failed (03, Table 3.2). -/
def ratingOf (ph : BitVec 7) : Nat :=
  let n := 7 - countIf id ((List.range 7).map ph.getLsbD)
  if 6 ≤ n then 84000 else if n = 5 then 70000 else if n = 4 then 56000 else 0
def tripOf (c : Conv) : Nat := ratingOf c.phFail * 3 / 2 / (if c.halfThr then 2 else 1)

/-- The state of a converter that runs: ON, or CAPPED with five or four phases (03, Table 3.2). -/
def convOnSt (ph : BitVec 7) : PwrState := if ratingOf ph = 84000 then .on else if ratingOf ph = 0 then .dark else .capped

/-- Sets a converter's state in its register and in its domain (03 R79, R80). -/
def setConv (r : Nat) (st : PwrState) (on : Bool) (s : State) : State :=
  (s.modConv r (fun c => { c with st := st, on := on })).modDom (5 + r) (fun d => { d with st := st })

/-! Staging (03 R67 to R72). -/

/-- Joins the staging queue of the row's half, unless the row is queued or staging (03 R68, R71). -/
def joinQueue (r : Nat) (s : State) : State :=
  if s.therm.halt then s
  else s.modHalf (halfOf r) (fun h =>
    if h.queue.contains r || h.staging.any (·.row == r) then h
    else { h with queue := h.queue ++ [r], headSince := if h.queue.isEmpty then s.tb else h.headSince })

/-- Takes a row out of its half's queue and staging (03 R84). -/
def leaveQueue (r : Nat) (s : State) : State :=
  s.modHalf (halfOf r) (fun h => { h with
    queue := h.queue.filter (· != r)
    headSince := if h.queue.head? = some r then s.tb else h.headSince
    staging := h.staging.filter (·.row != r) })

/-- VNOC of a half is in regulation (03, Tables 3.1 and 3.9). -/
def nocUp (s : State) (h : Nat) : Bool := (s.rail (if h = 0 then .vnocN else .vnocS)).inReg

/-- A half that is parked unparks 100 tb after a transfer arrives for it (04 R111). -/
def touchHalf (h : Nat) (s : State) : State :=
  s.modHalf h (fun x => if x.parked && x.unparkAt.isNone then { x with unparkAt := some (s.tb + 100) }
    else { x with quietSince := s.tb })

/-- The wake itself: IDLE and NAP run again, SLEEP and OFF join the staging queue; refused for a DARK or OUT row (04
R105, R106; 03 R71). -/
def startWake (r : Nat) (s : State) : State :=
  if rowIsDark s r || rowIsOut s r || s.therm.halt then s
  else match (s.row r).st with
    | .idle | .nap => s.modRow r (fun w => { w with st := .active, idleSince := s.tb })
    | .sleep | .off => joinQueue r (s.modRow r (fun w => { w with st := .waking, fromSleep := w.st == .sleep }))
    | _ => s

/-- A wake trigger that arrives over the network: the half unparks and the row's wake starts (04 R105, R111). -/
def wakeRow (r : Nat) (s : State) : State :=
  if rowIsDark s r || rowIsOut s r then s else startWake r (touchHalf (halfOf r) s)

/-- A row that takes work: fitted, in service and running (04 R103). -/
def rowRuns (s : State) (r : Nat) : Bool :=
  decide (r < 12) && !rowIsOut s r && !rowIsDark s r && ((s.row r).st == .active || (s.row r).st == .idle || (s.row r).st == .nap)

/-- An access that reaches a row: it is performed where the row runs, and otherwise only wakes it (04 R105; log 20). -/
def atRow (r : Nat) (f : State → State) (s : State) : Res :=
  if rowRuns s r then .next (f (startWake r s)) else .next (if r < 12 then wakeRow r s else s)

/-! Timers of core accesses (18 R486). -/

/-- The path of a device access is usable: the row runs, the half of the stack is not parked, the bridge is not in reset. -/
def pathUsable (s : State) (a : Nat) : Bool :=
  match place s a with
  | .scratch r _ => rowRuns s r || rowIsOut s r || rowIsDark s r
  | .mem u _ => if u < 8 then !(s.half (u / 4)).parked else !(s.bridge ((u - 8) / 8)).inReset
  | _ => true

/-- The device address of a core address outside local memory and the row registers (10 R243). -/
def coreDev (r a : Nat) : Nat := if 2 ^ 63 ≤ a then a - 2 ^ 63 else 64 * 1310720 * r + (a - 0x10000000)

/-- The timers of outstanding core accesses whose paths have become usable start (18 R486). -/
def startTimers (s : State) : State :=
  s.modRows (·.mapIdx (fun r w => { w with cores := w.cores.map (fun c => { c with
    mem := c.mem.map (fun m => if m.startTb.isNone && pathUsable s (coreDev r m.addr) then { m with startTb := some s.tb } else m) }) }))

/-! What leaves a row when its power does. -/

/-- A core after reset (10 R257): RESET state, watchdog period kept by the caller. -/
def coreLost (c : Core) : Core := { period := c.period }

/-- The contents that OFF loses (04 R103, Table 4.3): planes, queues, local memories, scoreboard entries and banks. A bridge
transaction that an agent held waits at the router again, where it is answered (11 R293). -/
def loseRow (r : Nat) (s : State) : State :=
  dropCells (rowKey r) (s.modRow r (fun w => { w with
    tiles := w.tiles.map (fun t => { paired := t.paired })
    cores := w.cores.map coreLost
    dma := w.dma.map (fun _ => {})
    banks := w.banks.map (fun b => if b.st == .retired then b else { st := .off })
    scb := [], scbPend := [], prov := [], arrivals := w.ingress.filterMap id ++ w.arrivals, ingress := List.replicate 16 none }))

/-- The programs of a row are lost with its contents and count as unloaded (04 R108). -/
def unloadAll (r : Nat) (s : State) : State :=
  s.modRow r (fun w => { w with progs := [], tiles := w.tiles.map (fun t => { t with paired := false }), pairs := [{}, {}] })

/-- Taints and provisional entries of a row's units are POISONED (17 R482). -/
def poisonRow (r : Nat) (s : State) : State :=
  s.modRow r (fun w => { w with
    prov := w.prov.map (fun e => { e with poisoned := true })
    tiles := w.tiles.map (fun t => if t.taint.isEmpty then t else { t with taintBad := true })
    cores := w.cores.map (fun c => if c.taint.isEmpty then c else { c with taintBad := true })
    dma := w.dma.map (fun d => if d.taint.isEmpty then d else { d with taintBad := true }) })

/-- The row goes to OFF by command: contents lost (04 R108, R601). -/
def rowToOff (r : Nat) (s : State) : State :=
  (loseRow r (leaveQueue r s)).modRow r (fun w => { w with st := .off, target := none })

/-- The device itself puts a row in OFF (04 R108): its programs count as unloaded and its rings' work ends. A DARK row
stays DARK. -/
def forceOff (r : Nat) (s : State) : State :=
  let dark := (s.row r).st == .dark
  let s := endRowRings r (poisonRow r s)
  let s := (unloadAll r (rowToOff r s)).modRow r (fun w => { w with endsWork := true })
  if dark then s.modRow r (fun w => { w with st := .dark }) else s

/-- Every row of the module to OFF (05 R118; 19 R523). -/
def allOff (s : State) : State := each (List.range 12) forceOff s

/-- The row class in the defect map follows (05 R131). -/
def classUpdate (r : Nat) (s : State) : State :=
  if (s.drow r).cls == classOf s r (s.drow r) then s
  else s.modDRow r (fun d => { d with cls := classOf s r d })

/-- A row loses its converter and headers: staging abandoned, contents and work lost, programs unloaded (03 R81, R84;
17 R482). -/
def darken (r : Nat) (st : PwrState) (s : State) : State :=
  let s := setConv r st false s
  let s := endRowRings r (poisonRow r s)
  let s := unloadAll r (loseRow r (leaveQueue r s))
  let s := s.modRow r (fun w => { w with st := .dark, target := none })
  classUpdate r s

/-! Memory units and cards leaving service. -/

/-- Working maps of flash tables that lost a part: it is being reloaded from flash (13 R338). -/
def mapCheck (s : State) : State :=
  let bad := s.mem.dataLost.filterMap (fun x => match place s (64 * x) with | .mem u loc => some (pageKey u loc) | _ => none)
  let hit := s.fetch.tables.filter (fun t => t.2.mapPages.any (fun k => (pageEnt s k).st == .lost || bad.contains k))
  s.modFlash (fun f => { f with reloading := (hit.map (fun t => (t.2.bridge, t.1))).foldl addNew f.reloading })

/-- The stack or channel leaves service (12 R331, R602): its own mapped pages become LOST; pages it had borrowed out
stay good; the defect map changes and UNIT_OUT is recorded with the reason. -/
def memUnitFail (u reason : Nat) (s : State) : State :=
  let s := s.modMem (fun m => { m with
    lostUnits := addNew m.lostUnits u
    remap := m.remap.filter (fun p => p.1 / 65536 != u || (decide (8 ≤ u) && p.2.unit != u))
    units := m.units.modify u (fun x => { x with st := .failed, outReason := reason, moving := [] }) })
  let s := mapCheck (mapUnits [u] s)
  errRecord { code := .unitOut, unit := uMem u, op := if u < 8 then 0x0C else 0x0D, platform := true,
              leaf := .mem (if u < 8 then 16 + u else u - 8), detail := reason, action := 5 } s

/-! Doorbells (15 R430 to R432, R434). -/

/-- Where a doorbell comes from: the Chavi host, or an endpoint of the fabric. -/
inductive DbFrom where
  | chavi | fabric (src : Nat)
  deriving DecidableEq, Repr

/-- DBCHAVI and DBSRC (15, Table 15.7). -/
def dbAllowed (g : RqRing) : DbFrom → Bool
  | .chavi => g.dbChavi
  | .fabric x => g.dbSrc.any (fun p => x &&& p.2 == p.1)

/-- Whether the index a doorbell names is in range (15 R431). -/
def dbInRange (g : RqRing) (kind value : Nat) : Bool :=
  match kind with
  | 0 => decide ((value + 65536 - g.ci) % 65536 ≤ g.size) && decide (g.count ≤ (value + 65536 - g.ci) % 65536)
  | 1 => decide (1 ≤ value) && decide (value ≤ 4096) && decide (g.count + value ≤ g.size)
  | 2 => decide ((value + 65536 - g.cci) % 65536 ≤ g.cplUsed)
  | _ => false

/-- The engine's answer to a doorbell word (15 R431; 17 R483). -/
def dbCheck (s : State) (frm : DbFrom) (word : Nat) : Code :=
  if s.boot.st ≠ .ready then .notReady
  else match s.ring (word % 65536) with
    | none => .ringUnknown
    | some g =>
      if g.failed then .dataLost
      else if dbAllowed g frm = false then .doorbellDenied
      else if bits word 16 14 ≠ 0 ∨ bits word 48 16 ≠ 0 ∨ dbInRange g (bits word 30 2) (bits word 32 16) = false then .doorbellRange
      else .ok

/-- New request entries: ended where the row's work ends, otherwise announced to the row (15 R432; 17 R482; 18 R489). -/
def newEntries (n : Nat) (g : RqRing) (s : State) : State :=
  match s.ring n with
  | none => s
  | some h =>
    if rowEnds s g.owner then endUnpopped h.count n .rowDark s
    else
      let s := if g.count = 0 ∧ h.count ≠ 0 then wakeRow g.owner s else s
      purgeHead h.count n s

/-- A doorbell at the ring engine: its code and what it does (15 R430 to R432, 18 R488). A doorbell before BU10 is counted
(05 R119). -/
def doorbell (frm : DbFrom) (word : Nat) (s : State) : Code × State :=
  match dbCheck s frm word, s.ring (word % 65536) with
  | .ok, some g =>
    let n := word % 65536
    let v := bits word 32 16
    (.ok, match bits word 30 2 with
      | 0 => newEntries n g (s.modRing n (fun g => { g with pi := v }))
      | 1 => newEntries n g (s.modRing n (fun g => { g with pi := (g.pi + v) % 65536 }))
      | _ => drainHeld (g.held.length + 1) n (s.modRing n (fun g => { g with cci := v })))
  | .notReady, _ => (.notReady, s.modBoot (fun b => { b with dbDiscarded := b.dbDiscarded + 1 }))
  | c, _ => (c, s)

end Sys2Proof.Machine
end

