-- ==== Sys2Proof/Machine/FabOps.lean ====
section
/-! DEFINITION. Routing, answers and link loss on the fabric (14 R374 to R378, R396). -/

namespace Sys2Proof.Machine

/-- A port carries traffic. -/
def portLive (p : PortState) : Bool := p == .up || p == .upSpare

/-- The bridge of a port. -/
def portBridge (p : Nat) : Nat := p / 6

/-- The candidates of a routing entry, or none where VALID is 0 (14 R375). -/
def routeCands (e : BitVec 32) : List Nat :=
  if bit e.toNat 19 then (List.range (bits e.toNat 16 2 + 1)).map (fun i => bits e.toNat (4 * i) 4) else []

/-- Entries a route-stage may write: port codes 0-5 and 0xD, reserved bits 0 (14 R375, 16 Table 16.8). -/
def routeLegal (e : BitVec 32) : Bool :=
  bits e.toNat 20 4 == 0 && !bit e.toNat 18 && (routeCands e).all (fun c => decide (c < 6) || c == 0xD)

/-- The routing entry of a packet in the version its EPOCH bit names (14 R376, R379). -/
def routeEntry (br : Bridge) (p : Pkt) : BitVec 32 := (mget (if p.epoch then br.v1 else br.v0) p.dst).getD 0

/-- Whether a port code of bridge b is taken: a live port, or the other bridge (14 R376). -/
def codeLive (s : State) (b c : Nat) : Bool := c == 0xD || portLive (s.port (6 * b + c)).st

/-- A bridge that works. -/
def bridgeUp (s : State) (b : Nat) : Bool := !(s.bridge b).inReset && !(s.bridge b).out

/-- The port code a packet takes: candidate ⌊h × NC / 2^64⌋, then the next live one in cyclic order (14 R376). -/
def routeOf (s : State) (b : Nat) (p : Pkt) : Option Nat :=
  let e := routeEntry (s.bridge b) p
  let cs := routeCands e
  let h := fh0h (p.src * 2 ^ 24 + p.dst * 2 ^ 8 + p.flow) (bits e.toNat 24 8)
  let i := h * cs.length / 2 ^ 64
  ((List.range cs.length).map (fun j => nth cs ((i + j) % cs.length))).find? (codeLive s b)

/-- The answer to a request: ACK, or READ_RSP for a READ_REQ (14, Table 14.4). -/
def answerOf (p : Pkt) (c : Code) (data : List Byte) : Pkt :=
  { dst := p.src, src := p.dst, type := if p.type = 2 then 3 else 4, tag := p.tag, status := c.val, flow := p.flow,
    len := data.length, data := data }

/-- Answers a request; any other packet gets no answer (14 R383). -/
def answer (b : Nat) (p : Pkt) (c : Code) (data : List Byte) (s : State) : State :=
  if isRequest p.type then inject b (answerOf p c data) 0 0 s else s

/-- A record of a discarded packet, at most one per port per 1 ms (14 R374); fab is the port, or 12 + bridge for a
packet that came from no port. -/
def discardRecord (port b : Nat) (c : Code) (p : Pkt) (s : State) : State :=
  if port < 12 then
    if (s.port port).lastDiscardTb.any (fun t => s.tb < t + 50000) then s
    else errRecord { code := c, unit := uPort port, op := 0x0A, detail := p.dst + 0x10000 * p.src + 2 ^ 32 * p.tag }
      (s.modPort port (fun q => { q with lastDiscardTb := some s.tb }))
  else errRecord { code := c, unit := uBridge b, op := 0x0A, detail := p.dst + 0x10000 * p.src + 2 ^ 32 * p.tag } s

/-- The virtual channel of a packet type: 0 RSP, 1 REQ, 2 WIT, 3 BULK (14, Table 14.4). -/
def vcOf (t : Nat) : Nat := if t = 1 then 3 else if t = 3 ∨ t = 4 then 0 else if t = 0xA then 2 else 1

/-- Credits a packet uses (14 R385). -/
def pktCredits (p : Pkt) : Nat := if p.type = 2 then 1 else (36 + p.len + 63) / 64

/-- Bytes a packet takes in an output queue. -/
def pktBytes (p : Pkt) : Nat := 36 + (if p.type = 2 then 0 else p.len)

/-- Flits a packet takes: it starts in a new one (14 R363; log 56). -/
def pktFlits (p : Pkt) : Nat := (pktBytes p + 254) / 255

/-- The in-flight count of a bridge's DRAINING version, and since when it is 0 (14 R381, R382). -/
def draining (s : State) (b : Nat) : Nat :=
  let br := s.bridge b
  countIf (fun p => p.epoch != br.act) (br.injq ++ ((List.range 6).flatMap (fun i => let q := s.port (6 * b + i); q.txq ++ q.replay.map (·.2))))
def syncInflight (b : Nat) (s : State) : State :=
  let n := draining s b
  s.modBridge b (fun br =>
    if br.other = .draining then { br with inflight := sat 16 n, zeroSince := if n = 0 then some (br.zeroSince.getD s.tb) else none }
    else { br with inflight := 0, zeroSince := none })

/-- What a port keeps for replay: packets with a flit after the last acknowledged one, among its last 512 data flits (14 R365; log 56). -/
def keepReplay (q : Port) : Port :=
  { q with replay := q.replay.filter (fun x => decide (0 < (x.1 + 1024 - q.txAcked) % 1024) && decide ((q.txSeq + 1024 - x.1) % 1024 ≤ 512)) }

/-- Starts queued packets while the port holds their credits, and keeps them for replay (14 R365, R385). -/
def drainGo : Nat → Nat → State → State
  | 0, _, s => s
  | k + 1, port, s =>
    let q := s.port port
    match q.txq with
    | [] => s
    | p :: rest =>
      if portLive q.st && decide (pktCredits p ≤ nth q.credTx (vcOf p.type)) then
        let s := s.modPort port (fun q => keepReplay { q with
          txq := rest, headSince := s.tb, depth := q.depth - pktBytes p
          replay := q.replay ++ [((q.txSeq + pktFlits p + 1023) % 1024, p)]
          credTx := q.credTx.modify (vcOf p.type) (· - pktCredits p), txSeq := (q.txSeq + pktFlits p) % 1024 })
        drainGo k port (s.send (.forward port p))
      else s
def drainPort (port : Nat) (s : State) : State :=
  syncInflight (portBridge port) (drainGo ((s.port port).txq.length + 1) port s)

/-- Puts a packet on an output port's queue (14 R386). -/
def enqueue (port : Nat) (p : Pkt) (s : State) : State :=
  drainPort port (s.modPort port (fun q => { q with
    txq := q.txq ++ [p], headSince := if q.txq.isEmpty then s.tb else q.headSince, depth := q.depth + pktBytes p }))

/-- A packet leaves a port's receive buffer: its credits are freed (14 R364, R385). -/
def freeCredit (port : Nat) (p : Pkt) (s : State) : State :=
  if port < 12 then s.modPort port (fun q => { q with
    credFreed := q.credFreed.modify (vcOf p.type) (fun c => (c + pktCredits p) % 2 ^ 24) }) else s

/-- Looks a packet up at a bridge and forwards it, or discards it (14 R376 to R378, R397). A packet for the other bridge
crosses the main die: it is looked up there as one that arrives from a UCIe module. -/
def forwardPkt : Nat → Nat → Nat → Pkt → State → State
  | 0, _, _, _, s => s
  | k + 1, inPort, b, p, s =>
    match routeOf s b p with
    | none => answer b p .noRoute [] (discardRecord inPort b .noRoute p s)
    | some 0xD =>
      if bridgeUp s (1 - b) then forwardPkt k inPort (1 - b) p s
      else answer b p .linkDown [] (discardRecord inPort b .linkDown p s)
    | some c =>
      if p.ttl ≤ 1 then answer b p .ttlExpired [] (discardRecord inPort b .ttlExpired p s)
      else enqueue (6 * b + c) { p with ttl := p.ttl - 1 } s

/-- The port after qualification (05 R138): state, the lanes in service, and the lane whose traffic lane 8 carries. -/
def portResult (lanes : BitVec 9) : PortState × Option Nat :=
  match (List.range 8).filter (fun l => !lanes.getLsbD l) with
  | [] => (.up, none)
  | [l] => if lanes.getLsbD 8 then (.upSpare, some l) else (.down, none)
  | _ => (.down, none)

/-- A port's qualification takes effect: fresh link, lane map, defect map (05 R136 to R138; 14 R369). -/
def qualify (p : Nat) (st : PortState) (lanes : BitVec 9) (spared : Option Nat) (s : State) : State :=
  (s.modPort p (fun _ => { st := st, laneOk := lanes, spared := spared, winTb := s.tb })).modDmap (fun d => { d with
    fab := d.fab.set p { laneOk := lanes, spareInUse := spared.isSome, st := if st = .retraining then .downRuntime else st } })

/-- A port leaves service at run time (14 R396): state and defect map, the packets queued for it looked up again, and
those that find no candidate discarded, requests among them answered LINK_DOWN. -/
def portLoss (port : Nat) (s : State) : State :=
  let q := s.port port
  let b := portBridge port
  let s := s.modPort port (fun q => { q with
    st := .downRuntime, downAt := some (s.tb + 50000000), txq := [], replay := [], depth := 0, swapTx := none, swapRx := none,
    outLane := none, spared := none, replayRow := 0, rxDiscarding := false })
  let s := s.modDmapE (fun d => { d with fab := d.fab.modify port (fun f => { f with st := .downRuntime }) })
  let s := each q.txq (fun p s =>
    match routeOf s b p with
    | some 0xD => if bridgeUp s (1 - b) then forwardPkt 2 12 (1 - b) p s else answer b p .linkDown [] s
    | some c => enqueue (6 * b + c) p s
    | none => answer b p .linkDown [] s) s
  errRecord { code := .linkDown, unit := uPort port, op := 0x0A, platform := true, leaf := .port port, action := 5 } s

end Sys2Proof.Machine
end

