-- ==== Sys2Proof/Machine/FlashOps.lean ====
section
/-! DEFINITION. Flash channels, cards, row groups and batches leaving service (13 R344, R350, R353 to R358). -/

namespace Sys2Proof.Machine

/-- Stored bytes of a row (06 R158), by format code and dimension. -/
def rowBytesOf (t : Table) : Nat := t.rowBytes

/-- Rows of a row group: G = 4 × ⌊4,080 / ROWBYTES⌋ (13 R336). -/
def groupRows (rowBytes : Nat) : Nat := 4 * (4080 / rowBytes)

/-- A channel takes programs and erases (13, Table 13.6). -/
def chanWritable (c : FChanState) : Bool := c == .inService || c == .lowSpare
def chanReadable (c : FChanState) : Bool := c == .inService || c == .lowSpare || c == .readOnly

/-- The state of a card that follows from its channels: a card EMPTY on every channel is READ_ONLY (13, Table 13.7; 13 R355; log 84). -/
def cardStOf (chs : List FChan) : CardState :=
  if chs.all (fun c => c.st == .retired) then .failed
  else if chs.all (fun c => c.st == .inService || c.st == .lowSpare) then .inService
  else if chs.any (chanWritable ·.st) then .degraded
  else .readOnly

/-- A card takes programs: in service, latch closed, not throttled (13 R358; 19 R521). -/
def cardWritable (c : Card) : Bool :=
  [CardState.inService, .degraded, .draining, .rebalancing].contains c.st && !c.noWrites && !c.throttled
    && c.chans.any (chanWritable ·.st)

/-- Cards of a bridge: FC0-FC3 on TB-W, FC4-FC7 on TB-E. -/
def cardBridge (c : Nat) : Nat := c / 4

/-- Row groups a test names become LOST (13 R350, R355). -/
def loseGroups (p : (Nat × Nat) → RowGroup → Bool) (s : State) : State :=
  s.modFlash (fun f => { f with groups := f.groups.map (fun g => if p g.1 g.2 then (g.1, { g.2 with lost := true }) else g) })

/-- Records a card's change of state, which is a platform fault (13 R353; 16 R453). -/
def cardRecord (c : Nat) (code : Code) (detail : Nat) (s : State) : State :=
  errRecord { code := code, unit := uCard c, op := 0x0E, platform := true, leaf := .card c, detail := detail } s

/-- Moves a card to a state; READ_ONLY and FAILED raise the card-service cause (13 R355). -/
def cardSet (c : Nat) (st : CardState) (s : State) : State :=
  if (s.card c).st == st then s
  else
    let s := mapCards (s.modCard c (fun x => { x with st := st }))
    if st == .readOnly then cardRecord c .flashState 0 s else s

/-- A table's EPOCH after a batch that did not commit: the next even value (13 R344; 12 R317). -/
def evenUp (e : Nat) : Nat := if e % 2 = 0 then e else (e + 1) % 2 ^ 32

/-- Rolls back the batches of the tables that a test names (13 R344). -/
def rollBack (p : Nat → Bool) (s : State) : State :=
  let gone := (s.flash.batches.filter (fun b => p b.table)).map (·.table)
  (s.modFlash (fun f => { f with batches := f.batches.filter (fun b => !p b.table) })).modFetch (fun f => { f with
    updBusy := f.updBusy.filter (fun t => !gone.contains t)
    tables := f.tables.map (fun t => if gone.contains t.1 then (t.1, { t.2 with epoch := evenUp t.2.epoch }) else t) })

/-- A slot or bay switch latches FAULT (02 R44): open, a platform fault. -/
def switchFault (i : Nat) (s : State) : State :=
  let s := (s.modSw i (fun w => { w with st := .fault, openAt := none })).modDom (21 + i) (fun d => { d with st := .fault })
  errRecord { code := .switchFault, unit := uDom (21 + i), op := 0x10, platform := true, leaf := .ev 2 3, detail := 21 + i } s

/-- A switch opens (02 R44). -/
def switchOff (i : Nat) (s : State) : State :=
  (s.modSw i (fun w => { w with st := .off, openAt := none })).modDom (21 + i) (fun d => { d with st := .off })

/-- A switch starts, if its slot or bay reports a card (02 R44, R45). -/
def switchStart (i : Nat) (s : State) : State :=
  if (s.sw i).present = true ∧ (s.sw i).st = .off then
    (s.modSw i (fun w => { w with st := .starting, startedAt := s.tb, locate := false })).modDom (21 + i)
      (fun d => { d with st := .starting })
  else s

end Sys2Proof.Machine
end

