-- ==== Sys2Proof/Machine/ProgImage.lean ====
section
/-! DEFINITION. The program image and its checks (16 R447, R448). -/

namespace Sys2Proof.Machine

/-- A section entry (16 R447): KIND 1 Aster words, 2 Primrose code, 3 scratchpad data. -/
structure Section where
  kind : Nat
  slot : Nat
  off : Nat
  len : Nat
  dest : Nat

/-- The section entries of an image. -/
def imgSections (l : List Byte) : List Section := (List.range (field l 6 2)).map (fun i =>
  let o := 64 + 16 * i
  { kind := field l o 1, slot := field l (o + 1) 1, off := field l (o + 4) 4, len := field l (o + 8) 4, dest := field l (o + 12) 4 })

/-- The image's CRC is right (16 R447). -/
def imgCrcRight (l : List Byte) : Bool := crc32 (l.take 0x3C ++ leBytes 4 0 ++ l.drop 0x40) == field l 0x3C 4

/-- The bytes of a section. -/
def Section.data (x : Section) (l : List Byte) : List Byte := (l.drop x.off).take x.len

/-- The Aster words of a section. -/
def Section.words (x : Section) (l : List Byte) : List (BitVec 128) :=
  (List.range (x.len / 16)).map (fun i => BitVec.ofNat 128 (field l (x.off + 16 * i) 16))

def astSections (l : List Byte) : List Section := (imgSections l).filter (fun x => x.kind == 1)
def prmSections (l : List Byte) : List Section := (imgSections l).filter (fun x => x.kind == 2)
def dataSections (l : List Byte) : List Section := (imgSections l).filter (fun x => x.kind == 3)
def astSlotsOf (l : List Byte) : List Nat := ((astSections l).map (·.slot)).eraseDups
def prmSlotsOf (l : List Byte) : List Nat := ((prmSections l).map (·.slot)).eraseDups
def imgWords (l : List Byte) : List (BitVec 128) := (astSections l).flatMap (·.words l)

/-- The distinct nonzero PHASE values of the phase markers (16 R447; 08 R206). -/
def phasesOf (l : List Byte) : Nat :=
  ((((imgWords l).map BitVec.toNat).filter (fun w => bits w 0 4 == 0 && bits w 8 1 == 1 && bits w 16 16 != 0)).map (fun w => bits w 16 16)).eraseDups.length

/-- Where a section goes: words of the region, the code of a slot, or lines of the row (first, count). -/
def Section.dst (x : Section) : Nat × Nat × Nat :=
  if x.kind = 1 then (0, x.dest, x.len / 16) else if x.kind = 2 then (1 + x.slot, 0, 1) else (0x1000, x.dest, (x.len + 63) / 64)

/-- Two sections overlap, in the image or where they go (log 60). -/
def Section.meets (x y : Section) : Bool :=
  (decide (x.off < y.off + y.len) && decide (y.off < x.off + x.len))
    || (x.dst.1 == y.dst.1 && decide (x.dst.2.1 < y.dst.2.1 + y.dst.2.2) && decide (y.dst.2.1 < x.dst.2.1 + x.dst.2.2))

/-- No two sections overlap. -/
def sectionsApart : List Section → Bool
  | [] => true
  | x :: t => t.all (fun y => !x.meets y) && sectionsApart t

/-- A section that cannot be placed: an unlisted KIND, data past the image, words or code or lines that do not fit (log 60). -/
def Section.bad (x : Section) (n : Nat) : Bool :=
  !([1, 2, 3].contains x.kind) || decide (n < x.off + x.len)
    || (x.kind == 1 && x.len % 16 != 0) || (x.kind == 2 && decide (0x40000 < x.dest + x.len))
    || (x.kind == 3 && decide (1310720 < x.dest + (x.len + 63) / 64))

/-- PROG_IMAGE_BAD (16 R447, R448). -/
def imageBad (l : List Byte) : Bool :=
  decide (l.length < 64) || field l 0 4 != 0x4950444B || field l 4 2 != 1 || field l 6 2 == 0 || decide (64 < field l 6 2)
    || decide (l.length < 64 + 16 * field l 6 2) || !imgCrcRight l || (imgSections l).any (·.bad l.length)
    || !sectionsApart (imgSections l) || decide (256 < field l 8 2) || field l 8 2 != phasesOf l

/-- The region of UNITS units, which holds 64 × UNITS words: first line and scoreboard units of 512 bytes (log 60). -/
def regionRange (region units : Nat) : Nat × Nat × Bool := (region, 2 * units, false)

/-- The banks a load writes. -/
def loadBanks (region units : Nat) (l : List Byte) : List Nat :=
  ((dataSections l).flatMap (fun x => banksOf x.dest ((x.len + 511) / 512)) ++ (if (astSections l).isEmpty then [] else banksOf region (2 * units))).eraseDups

/-- A load that must wait: one of its banks changes state or scrubs, or its read reservations cannot be granted yet (11
R269, R289). -/
def loadWaits (w : Row) (region units : Nat) (l : List Byte) : Bool :=
  (loadBanks region units l).any (fun b => [BankSt.ret, .waking, .entering, .scrub].contains (nth w.banks b).st)
    || (!(astSections l).isEmpty && scbVerdict w w.scbPend { owner := 0xFF, ranges := List.replicate (astSlotsOf l).length (regionRange region units) } == .wait)

end Sys2Proof.Machine
end

