-- ==== Sys2Proof/Machine/GwOps.lean ====
section
/-! DEFINITION. How Gwynpin takes, checks, completes and answers a command (16 R436 to R445; 18 R502). -/

namespace Sys2Proof.Machine

/-- From a trip until the module is dark, while it is dark and while MRST_N is low, nothing else acts (02 R33, R37). -/
def alive (s : State) : Bool := s.power.trip.isNone && !s.power.dark && !s.power.mrstLow

/-- Gwynpin serves commands: the module is ready and a core runs it (05 R144; 18 R500, R503). -/
def gwServes (s : State) : Bool := alive s && s.boot.st == .ready && s.gw.running.isSome && s.gw.failAt.isNone

/-- Objects of commands (16 R441): kind and index; 0 acts on no object that another command can hold. -/
def obj (kind i : Nat) : Nat := 2 ^ 20 * kind + i
def objRow (r : Nat) : Nat := obj 1 r
def objBank (r b : Nat) : Nat := obj 2 (40 * r + b)
def objTable (t : Nat) : Nat := 2 ^ 40 + t
def objRing (n : Nat) : Nat := obj 4 n
def objWin (n : Nat) : Nat := obj 5 n
def objBind (n : Nat) : Nat := obj 6 n
def objChan (n : Nat) : Nat := obj 7 n
def objCard (n : Nat) : Nat := obj 8 n
def objBridge (n : Nat) : Nat := obj 9 n
def objGroup : Nat := obj 10 0
def objDevice : Nat := obj 11 0
def objMem (n : Nat) : Nat := obj 12 n
def objWit (n : Nat) : Nat := obj 13 n
def objUnit (n : Nat) : Nat := obj 14 n
def objProg (r p : Nat) : Nat := obj 15 (256 * r + p)

/-- How a command's meaning ends: at once with a code, RESULT bytes and bytes for RESPTR, or later, waiting for an
event of the given kind and argument, or not yet begun, until its row has been woken (04 R105); `after` has an effect that
applies only once the command has been answered (16, Table 16.9, CHANNEL_CONFIGURE). -/
inductive Done where
  | now (c : Code) (inline data : List Byte) (s : State)
  | later (wait arg : Nat) (s : State)
  | hold (s : State)
  | after (s : State) (post : State → State)

/-- A reply message (16, Table 16.2). -/
def replyMsg (op ctag status tb reslen : Nat) (inline : List Byte) : List Byte :=
  leBytes 2 op ++ leBytes 2 ctag ++ leBytes 2 status ++ leBytes 2 0 ++ leBytes 8 tb ++ leBytes 4 reslen ++ leBytes 4 0
    ++ (inline ++ List.replicate 40 0).take 40

/-- The core's stamp (15, Table 15.4). -/
def gwStamp (s : State) : Nat := 0x7000 + s.gw.running.getD 0

/-- Writes a reply to its channel; one that finds RCHAN FULL and private is retried (16 R439). -/
def writeReply (rchan : Nat) (msg : List Byte) (s : State) : State :=
  if rchan = 0xFFFF then s
  else match mbxWrite rchan msg (gwStamp s) s with
    | (.mbxFull, _) => s.modGw (fun g => { g with retries := g.retries ++ [{ rchan := rchan, msg := msg, since := s.tb }] })
    | (_, t) => t

/-- The end of a command: result data, then the reply, then in acknowledged mode the ACK (16 R438). -/
def finish (op : Nat) (h : CmdHdr) (mseq : Nat) (c : Code) (inline data : List Byte) (s : State) : State :=
  let s := if data.isEmpty then s else memWrite s h.resptr data
  let msg := replyMsg op h.ctag c.val s.tb data.length inline
  let s := (writeReply h.rchan msg s).modGw (fun g => { g with lastReply := some (h.rchan, msg, s.tb) })
  mbxAck h.chan mseq c.val s

/-- The checks of R440 before a command's own; `need` is how many bytes it writes at RESPTR. -/
def gwCheck (s : State) (h : CmdHdr) (sec : Bool) (need : Nat) : Code :=
  if h.known = false then .cmdUnknown
  else if sec ∧ secureEnd s ≤ h.chan then .cmdDenied
  else if h.layoutOk = false ∨ (h.rchan ≠ 0xFFFF ∧ nChans s ≤ h.rchan)
      ∨ (0 < need ∧ (h.resmax < need ∨ extentClaimed s h.resptr need = false)) then .cmdIllegal
  else .ok

/-- Takes a command (16 R439, R441): one that Gwynpin does not serve yet, that finds eight in progress or its object
busy, waits; in streaming mode the take is made at the start, otherwise by the ACK at completion. -/
def gwCommand (self : Instr) (h : CmdHdr) (op : Nat) (sec : Bool) (need o : Nat) (body : State → Done) (s : State) : Res :=
  if alive s = false then .next s
  else if gwServes s = false ∨ 8 ≤ s.gw.cmds.length ∨ (o ≠ 0 ∧ (s.gw.cmds.any (·.obj == o) ∨ s.gw.waiting.any (·.1 == o))) then
    .next (s.modGw (fun g => { g with waiting := g.waiting ++ [(o, self)] }))
  else
    let mseq := (s.chan h.chan).mseq
    let s := if s.boot.mbxMode then s.setChan h.chan { s.chan h.chan with full := false } else s
    match gwCheck s h sec need with
    | .ok =>
      match body s with
      | .now c inline data t => .next (finish op h mseq c inline data t)
      | .after t post => .next (post (finish op h mseq .ok [] [] t))
      | .hold t => .next (t.modGw (fun g => { g with waiting := g.waiting ++ [(o, self)] }))
      | .later w a t => .next (t.modGw (fun g => { g with
          cmds := g.cmds ++ [{ id := g.nextId, opcode := op, chan := h.chan, mseq := mseq, ctag := h.ctag, rchan := h.rchan,
                               resptr := h.resptr, resmax := h.resmax, wait := w, obj := o, arg := a }]
          journal := g.journal ++ [g.nextId], nextId := g.nextId + 1 }))
    | c => .next (finish op h mseq c [] [] s)

/-- No staging of the row runs (03 R67). -/
def stagedOut (s : State) (r : Nat) : Bool := (s.half (halfOf r)).staging.all (·.row != r)

/-- The staging is over and every bank in service has ended its scrub (04 R601). -/
def banksUp (s : State) (r : Nat) : Bool :=
  stagedOut s r && (s.row r).banks.all (fun b => b.st != .scrub && !(b.st == .waking && b.fromOff))

/-- The row a command waits for while it is being woken (04 R105): one that writes the row's banks, or switches one. -/
def wakingFor (s : State) : Instr → Bool
  | .programLoad _ r _ _ region units src len => s.therm.halt || (s.row r).st == .waking || !banksUp s r
      || (rowRuns s r && !rowIsDark s r && loadWaits (s.row r) region units (memRead s src len))
  | .unitRecover _ u _ => uClass u == 5 && (s.therm.halt || (s.row (uRowOf u)).st == .waking || !banksUp s (uRowOf u)
      || (rowRuns s (uRowOf u) && !rowIsDark s (uRowOf u) && !markRoom (s.row (uRowOf u)) (countIf (·.wr) (s.row (uRowOf u)).scb)))
  | .bankPower _ r _ _ => s.therm.halt || (s.row r).st == .waking || !stagedOut s r
  | _ => false

/-- The first waiting command that can start (16 R441; log 16): Gwynpin serves, a place is free, its row is not being woken,
and its object is held neither by a command in progress nor by an earlier waiting one; with the entries before and after it. -/
def startable (s : State) : Option (List (Nat × Instr) × Instr × List (Nat × Instr)) :=
  if gwServes s && decide (s.gw.cmds.length < 8) then go s [] s.gw.waiting else none
where
  go (s : State) (before : List (Nat × Instr)) : List (Nat × Instr) → Option (List (Nat × Instr) × Instr × List (Nat × Instr))
    | [] => none
    | (o, c) :: rest =>
      if (o = 0 || !(s.gw.cmds.any (·.obj == o) || before.any (·.1 == o))) && !wakingFor s c then some (before, c, rest)
      else go s (before ++ [(o, c)]) rest

/-- An Aster slot is BUSY while it has an instruction queued or issued (08 R221). -/
def tileBusy (t : Tile) : Bool := !t.queue.isEmpty || !t.issued.isEmpty || t.run.isSome

/-- No ring holds an unpopped entry and every Aster slot is EMPTY (19 R531; 08 R221). -/
def slackQuiet (s : State) : Bool :=
  s.rings.rings.all (fun p => p.2.count == 0) && s.rows.all (fun w => w.tiles.all (fun t => !tileBusy t && !t.halted))

/-- A quiet tick joins the runs of quiet ticks. -/
def addRun (tb : Nat) : List (Nat × Nat) → List (Nat × Nat)
  | (a, b) :: rest => if b = tb then (a, tb + 1) :: rest else (tb, tb + 1) :: (a, b) :: rest
  | [] => [(tb, tb + 1)]

/-- The quiet ticks of the last 100 ms (19 R531). -/
def slackTick (s : State) : State :=
  let live := s.cap.slackRuns.filter (fun p => decide (s.tb < p.2 + 5000000))
  let runs := if slackQuiet s then addRun s.tb live else live
  s.modCap (fun c => { c with slackRuns := runs })

/-- One tick of the timebase (04 R86); it stands while VSPINE is down. -/
def tickTimebase (s : State) : State :=
  if s.clk.tbRunning then (slackTick s).modClk (fun c => { c with tb := (c.tb + 1) % 2 ^ 64 }) else s

/-- Completes one command in progress. -/
def completeCmd (k : Cmd) (c : Code) (inline data : List Byte) (s : State) : State :=
  let s := s.modGw (fun g => { g with cmds := g.cmds.filter (·.id != k.id), journal := g.journal.filter (· != k.id) })
  finish k.opcode { chan := k.chan, ctag := k.ctag, rchan := k.rchan, resptr := k.resptr, resmax := k.resmax } k.mseq c inline data s

/-- Completes the commands that wait for an event. -/
def completeWait (w a : Nat) (c : Code) (inline data : List Byte) (s : State) : State :=
  each (s.gw.cmds.filter (fun k => k.wait == w && k.arg == a)) (fun k => completeCmd k c inline data) s

/-- What a command in progress waits for. -/
def wRowPower : Nat := 1
def wRearm : Nat := 2
def wBank : Nat := 3
def wUnload : Nat := 4
def wTest : Nat := 5
def wRecover : Nat := 6
def wBatch : Nat := 7
def wDestroy : Nat := 8
def wCommit : Nat := 9
def wWindow : Nat := 10
def wBind : Nat := 11
def wSeal : Nat := 12
def wQuote : Nat := 13
def wHandoff : Nat := 14
def wClose : Nat := 15
def wBankOff : Nat := 16
def wSwap : Nat := 17
def wOpen : Nat := 18

/-! Bindings (14 R390, R391; 16 R451). -/

/-- What a row watches for a binding: its data range and its side range. -/
def watchOf (n : Nat) (x : Binding) : List Watch :=
  { bind := n, line := x.dline, len := x.dlen } :: (if x.slen = 0 then [] else [{ bind := n, side := true, line := x.sline, len := x.slen }])

/-- A binding is made, replaced or deleted. -/
def bindSet (n : Nat) (o : Option Binding) (s : State) : State :=
  let s := (s.modRows (·.map (fun w => { w with watch := w.watch.filter (·.bind != n) }))).modFab (fun f => { f with bindings := mdel f.bindings n })
  match o with
  | none => s
  | some x => (s.modRow x.row (fun w => { w with watch := w.watch ++ watchOf n x })).modFab (fun f => { f with bindings := mset f.bindings n x })

/-- The end of a send: a BINDING that waited for it takes effect and completes (16 R451). -/
def bindSettle (n : Nat) (s : State) : State :=
  match mget s.fab.bindNext n with
  | some o => completeWait wBind n .ok [] [] (bindSet n o (s.modFab (fun f => { f with bindNext := mdel f.bindNext n })))
  | none => s

/-! Flash batches and cards. -/

/-- The batches of the tables that a test names are rolled back, and their commands fail (13 R344). -/
def failBatches (p : Nat → Bool) (s : State) : State :=
  let gone := (s.flash.batches.filter (fun b => p b.table)).map (·.table)
  each gone (fun t => completeWait wBatch t .flashWriteFail [] []) (rollBack p s)

/-- Tables whose batches write to the cards of a card's bridge (log 55). -/
def cardTable (s : State) (c t : Nat) : Bool := (mget s.fetch.tables t).any (fun d => d.bridge == cardBridge c && d.home == .flash)

/-- A card becomes FAILED (13 R344, R355, R358): its row groups become LOST, batches on its bridge are rolled back, and
UNIT_OUT is recorded. -/
def cardFail (c reason : Nat) (s : State) : State :=
  let s := loseGroups (fun _ g => g.card == c) s
  let s := mapCards (s.modCard c (fun x => { x with st := .failed }))
  cardRecord c .unitOut reason (failBatches (cardTable s c) s)

/-! Rows under command (04 R601). -/

/-- Completes the ROW_POWER commands whose state the row has reached: 256 × row + target (0 SLEEP, 1 OFF, 2 WAKE). -/
def rowPowerCheck (r : Nat) (s : State) : State :=
  let w := s.row r
  let s := if w.st == .sleep then completeWait wRowPower (256 * r) .ok [] [] s else s
  let s := if w.st == .off then each (List.range 40) (fun b s =>
      if (s.bank r b).st == .off then completeWait wBankOff (40 * r + b) .ok [] [] s else s)
    (completeWait wRowPower (256 * r + 1) .ok [] [] s) else s
  if (w.st == .active || w.st == .idle || w.st == .nap) && banksUp s r then completeWait wRowPower (256 * r + 2) .ok [] [] s else s

/-- A row that goes dark or OUT ends the commands that wait on it (04 R601). -/
def rowPowerFail (r : Nat) (c : Code) (s : State) : State :=
  each (List.range 40) (fun b s => completeWait wBankOff (40 * r + b) c [] [] (completeWait wBank (40 * r + b) c [] [] s))
    (each [0, 1, 2] (fun i => completeWait wRowPower (256 * r + i) c [] []) s)

/-- The device itself puts a row in OFF (04 R108), and commands that waited for it complete (04 R601). -/
def offNow (r : Nat) (s : State) : State := rowPowerCheck r (forceOff r s)

end Sys2Proof.Machine
end

