-- ==== Sys2Proof/Machine/CapOps.lean ====
section
/-! DEFINITION. The power-capping controller: limits, prediction, ceiling and arming (19 R511 to R519), and the energy
history (19 R524 to R527). -/

namespace Sys2Proof.Machine

/-- Scaling ratios, in units of 0.0001 (19, Table 19.2). -/
def ratioC : List Nat := [2275, 3039, 3882, 4804, 5882, 7059, 8333, 10000]
def ratioD : List Nat := [1466, 2094, 2847, 3736, 4902, 6275, 7870, 10000]
/-- Nominal VCORE by step in mV (04, Table 4.1). -/
def vcoreMv : List Nat := [580, 620, 660, 700, 750, 800, 850, 900]

/-- Power of a domain over its last window, mW (19 R512; 03 R79). -/
def domMw (s : State) (n : Nat) : Nat := (nth s.power.dom n).avg * (nth s.power.dom n).volt / 50

/-- The MODULE limit in force (19, Table 19.1). -/
def moduleLimit (s : State) : Nat :=
  min (if s.cap.group.isSome then min s.cap.module s.cap.share else s.cap.module) (if s.power.inputCap850 then 850000 else 1400000)

/-- A phase's slot current at a step: learned, or scaled from the greatest learned step, or one quarter of the rating
(19 R518). -/
def phaseCur (e : PhaseEnt) (st : Nat) : Nat :=
  if nth e.learned st then nth e.d st
  else match (List.range 8).reverse.find? (fun k => nth e.learned k) with
    | some k => nth e.d k * nth ratioC st / nth ratioC k
    | none => 2100

def findPhase (s : State) (p : Nat) : Option PhaseEnt := s.cap.phases.find? (·.phase == p)

/-- The current of a row predicted at a step, 10 mA (19 R516, R519): idle plus each BUSY slot's phase where every one is
learned, a slot with no phase giving its share of the last measured busy current; otherwise the measurement scaled. -/
def rowPredict (s : State) (r st : Nat) : Nat :=
  let m := s.clk.cur
  let busy := (s.row r).tiles.filter tileBusy
  let meas := nth s.cap.rowCur r
  let idle := nth (nth s.cap.idle r) st
  let share := (meas - nth (nth s.cap.idle r) m) * nth ratioC st / nth ratioC m / max busy.length 1
  if !busy.isEmpty && busy.any (fun t => (findPhase s t.phase).isSome) then
    idle + busy.foldl (fun a t => a + match findPhase s t.phase with | some e => phaseCur e st | none => share) 0
  else meas * nth ratioC st / nth ratioC m

/-- VCORE power predicted at a step, mW. -/
def vcorePredict (s : State) (st : Nat) : Nat :=
  (List.range 12).foldl (fun a r =>
    let busy := (s.row r).tiles.filter tileBusy
    a + if !busy.isEmpty && busy.any (fun t => (findPhase s t.phase).isSome)
      then rowPredict s r st * nth vcoreMv st / 100
      else domMw s (5 + r) * nth ratioD st / nth ratioD s.clk.cur) 0

/-- A change of power added to a measured one. -/
def addDelta (x new old num den : Nat) : Nat := (x * den + num * new - num * old) / den

/-- Whether limit `code` of Table 19.1 holds at a step; a raise needs 5 % to spare (19 R512, R513, R516). -/
def limitHolds (s : State) (st code : Nat) : Bool :=
  let pad (x : Nat) : Nat := if s.clk.cur < st then x * 105 / 100 else x
  let v := vcorePredict s st
  let v0 := vcorePredict s s.clk.cur
  match code with
  | 1 => decide (pad (addDelta (domMw s 0) v v0 107 100) ≤ moduleLimit s)
  | 2 => decide (pad (addDelta (((List.range 19).map (fun i => domMw s (2 + i))).sum) v v0 1 1) ≤ s.cap.package)
  | 3 => (List.range 2).all (fun h => decide (pad (((List.range 6).map (fun i => rowPredict s (6 * h + i) st)).sum) ≤ 100 * (s.half h).iLim))
  | 4 => (List.range 12).all (fun r => (s.conv r).st != .capped || decide (10 * pad (rowPredict s r st) ≤ (s.conv r).ratingMa))
  | 5 => decide (st ≤ s.cap.thermCeil)
  | _ => decide (st ≤ s.cap.stepMax)

def stepHolds (s : State) (st : Nat) : Bool := [1, 2, 3, 4, 5, 6].all (limitHolds s st)

/-- The ceiling: the highest step at which every limit holds (19 R512); and the code of the limit that set it. -/
def ceilingOf (s : State) : Nat := ((List.range 8).reverse.find? (stepHolds s)).getD 0
def limitOf (s : State) : Nat :=
  if ceilingOf s = 7 then 0 else ([1, 2, 3, 4, 5, 6].find? (fun c => !limitHolds s (ceilingOf s + 1) c)).getD 0

/-- Writes of the controller: NEXT, then the change tick at the shortest lead (04 R98; 19 R514). -/
def armStep (st : Nat) (s : State) : State :=
  s.modClk (fun c => { c with next := st, stepAt := s.tb + (if c.cur < st then 2500 else 50), pend := true, armed := true })

/-- WITHDRAW of an armed change whose tick has not been reached (04 R98). -/
def withdrawStep (s : State) : State :=
  if s.clk.armed = true ∧ s.tb < s.clk.stepAt then s.modClk (fun c => { c with pend := false, armed := false }) else s

/-- Arms a step under R514: a drop withdraws a raise that is armed, and waits for PEND of another drop; no raise within
1 ms of a fast drop. -/
def armCeiling (st : Nat) (s : State) : State :=
  if st = s.clk.cur then s
  else if st < s.clk.cur then
    if s.clk.pend = false then armStep st s
    else if s.clk.armed = true ∧ s.clk.cur < s.clk.next ∧ s.tb < s.clk.stepAt then armStep st (withdrawStep s)
    else s.modCap (fun c => { c with dropDue := true })
  else if s.clk.pend = true ∨ s.cap.lastDrop.any (fun t => s.tb < t + 50000) then s
  else armStep st s

/-- Computes the ceiling and arms it; step 0 breaking a limit is recorded once per second (19 R513, R515). -/
def ceilingEval (s : State) : State :=
  if s.boot.st ≠ .ready ∨ s.therm.halt = true then s
  else
    let short := !(([1, 2, 3, 4] : List Nat).all (limitHolds s 0))
    let c := ceilingOf s
    let s := s.modCap (fun k => { k with ceiling := c, limit := limitOf s })
    let s := if short && !(s.cap.last515.any (fun t => s.tb < t + 50000000)) then
        errRecord { code := .capacityShort, unit := uSpine 4, op := 0x10, platform := true, leaf := .ev 2 4 }
          (s.modCap (fun k => { k with last515 := some s.tb }))
      else s
    armCeiling c s

/-- Signed smoothing: x + (y − x) / 8 (19 R518). -/
def smooth (x : Nat) (y : Int) : Nat := ((x : Int) + (y - x) / 8).toNat

/-- One row's learning at the end of a window (19 R518). -/
def learnRow (w : PowerWindow) (st r : Nat) (c : Cap) : Cap :=
  let i := nth w.avg (5 + r)
  let idle := nth (nth c.idle r) st
  if nth w.empty r then { c with idle := c.idle.modify r (fun l => l.set st (smooth idle i)) }
  else
    let busy := i - idle
    let tt := ((nth w.busy r).map (·.2)).sum
    { c with phases := c.phases.map (fun e =>
        match (nth w.busy r).find? (fun p => p.1 == e.phase && p.1 != 0) with
        | some (_, t) => if 10000 ≤ t then
            { e with d := e.d.set st (smooth (nth e.d st) (busy * 50000 / tt : Nat)), learned := e.learned.set st true } else e
        | none => e) }

/-- Entries an interval takes in the history: up to 8 jobs each (19 R527). -/
def entriesOf (v : Interval) : Nat := max 1 ((v.jobs.length + 7) / 8)

/-- Drops the oldest intervals beyond 16,384 entries (19 R527). -/
def trimIntervals (l : List Interval) : List Interval :=
  (l.foldr (fun v (p : Nat × List Interval) => if p.1 + entriesOf v ≤ 16384 then (p.1 + entriesOf v, v :: p.2) else (16385, p.2)) (0, [])).2

/-- Jobs outstanding now, none for 0xFFFF_FFFF (19 R525). -/
def jobsOut (s : State) : List Nat :=
  ((s.rings.rings.flatMap (fun p => p.2.out.map (·.job))).filter (· != 0xFFFFFFFF)).eraseDups

/-- Records a window's energy against the set of jobs present in it (19 R524 to R527). -/
def recordEnergy (e : Nat) (s : State) : State :=
  let present := (s.cap.winJobs ++ jobsOut s).eraseDups
  let same (v : Interval) : Bool := v.stop == s.tb - 50000 && v.jobs.all present.contains && present.all v.jobs.contains
  s.modCap (fun c => { c with
    meter := (c.meter + e) % 2 ^ 64
    winJobs := jobsOut s
    intervals := match c.intervals.getLast? with
      | some v => if same v then c.intervals.dropLast ++ [{ v with stop := s.tb, energy := v.energy + e }]
          else trimIntervals (c.intervals ++ [{ start := s.tb - 50000, stop := s.tb, energy := e, jobs := present }])
      | none => [{ start := s.tb - 50000, stop := s.tb, energy := e, jobs := present }] })

end Sys2Proof.Machine
end

