-- ==== Sys2Proof/Machine/FetchOps.lean ====
section
/-! DEFINITION. The ends of fetch commands and of a bridge (12 R319, R327; 14 R394, R397; 17 R483; 18 R509, R510). -/

namespace Sys2Proof.Machine

def State.fetchU (s : State) (b : Nat) : FetchUnit := nth s.fetch.bridges b
def State.modFetchU (s : State) (b : Nat) (f : FetchUnit → FetchUnit) : State :=
  s.modFetch (fun m => { m with bridges := m.bridges.modify b f })
def State.table (s : State) (t : Nat) : Option Table := mget s.fetch.tables t
def State.engine (s : State) (b e : Nat) : Option FetchRun := nth (s.fetchU b).engines e
def State.modEngine (s : State) (b e : Nat) (f : FetchRun → FetchRun) : State :=
  s.modFetchU b (fun u => { u with engines := u.engines.modify e (·.map f) })

/-- The completion record of a fetch command (12, Table 12.6). -/
def fetchRecord (r : FetchRun) (tb : Nat) : List Byte :=
  leBytes 2 r.cmd.tag ++ leBytes 2 r.status ++ leBytes 1 1 ++ leBytes 3 0 ++ leBytes 4 r.rows ++ leBytes 4 r.hits
    ++ leBytes 4 r.fromDdr ++ leBytes 4 r.fromFlash ++ leBytes 4 r.fills ++ leBytes 4 r.failed ++ leBytes 4 r.misses
    ++ leBytes 4 (r.epochStart.getD 0) ++ leBytes 4 r.epochEnd ++ leBytes 4 r.bags ++ leBytes 8 tb ++ leBytes 8 0

/-- Writes the record: at CPL for a core of this module, as a WRITE from the bridge's endpoint for another module
(12 R327; 14 R394). -/
def writeFetchRecord (b : Nat) (r : FetchRun) (s : State) : State :=
  let l := fetchRecord r s.tb
  if r.cmd.src = 0 then
    let s := if accessCode s true r.cmd.cpl 64 = .ok then memWrite s r.cmd.cpl l else s
    s.modCore r.cmd.row r.cmd.slot (fun c => { c with fetchOut := c.fetchOut.modify b (· - 1) })
  else
    inject b { dst := r.cmd.src - 1, src := endpoint s (12 + b), type := 1, len := 64, fence := true,
               win := r.cmd.cpl / 2 ^ 48, offset := r.cmd.cpl % 2 ^ 48, data := l } 4 8 s

/-- Whether an accepted fetch command names a table (16, Table 16.7, TABLE_DESTROY). -/
def tableInUse (s : State) (t : Nat) : Bool :=
  s.fetch.bridges.any (fun u => u.queue.any (fun c => c.table == t && !c.unknown)
    || u.engines.any (fun e => e.any (fun r => r.cmd.table == t && !r.cmd.unknown)))

/-- The extent of a table's row cache partition (12 R314). -/
def partExtent (d : Table) : Nat × Nat := (d.partBase, d.part * (64 + 8 * ((d.rowBytes + 63) / 64 * 64)))

/-- Pages that TABLE_CREATE claimed and no other table's partition shares (16 R445). -/
def tablePages (s : State) (t : Nat) (d : Table) : List Nat :=
  let others := (s.fetch.tables.filter (fun x => x.1 != t && x.2.part != 0)).flatMap (fun x => pagesOf s (partExtent x.2).1 (partExtent x.2).2)
  d.mapPages ++ d.partPages.filter (fun k => !others.contains k)

/-- Removes a table that TABLE_DESTROY named, once its accepted commands have completed (16, Table 16.7): its partition
and working map pages and its flash space are freed. -/
def tableGone (t : Nat) (s : State) : State :=
  match s.table t with
  | some d =>
    if d.dying && !tableInUse s t then
      let pages := tablePages s t d
      let s := (s.modFetch (fun f => { f with tables := mdel f.tables t })).modMem (fun m => { m with
        claimed := m.claimed.filter (fun k => !pages.contains k) })
      let s := s.modFlash (fun f => { f with groups := f.groups.filter (·.1.1 != t), rows := f.rows.filter (·.1.1 != t)
                                             reloading := f.reloading.filter (·.2 != t) })
      completeWait wDestroy t .ok [] [] s
    else s
  | none => s

/-- Ends the command an engine runs: the record, and the engine free (12 R327). -/
def fetchEnd (b e : Nat) (s : State) : State :=
  match s.engine b e with
  | none => s
  | some r =>
    let s := writeFetchRecord b r s
    tableGone r.cmd.table (s.modFetchU b (fun u => { u with engines := u.engines.set e none }))

/-- A stack that is lost takes its copy of the ring table with it, and rings on its pages become FAILED (17 R483). -/
def ringsCheck (s : State) : State :=
  let lost (a n : Nat) : Bool := (pagesOf s a n).any (fun k => (pageEnt s k).st == .lost)
  s.modRings (fun m => { m with rings := m.rings.map (fun p =>
    if lost p.2.rqBase (64 * p.2.size) || (p.2.cqChan.isNone && lost p.2.cqBase (64 * p.2.size))
    then (p.1, { p.2 with failed := true }) else p) })

/-- A stack becomes FAILED with its contents lost (12 R331; 17 R483). -/
def stackLost (u reason : Nat) (s : State) : State :=
  let s := ringsCheck (memUnitFail u reason (dropCells (memUnitKey u) s))
  let k := u / 4
  if u % 4 = 0 ∧ nth s.rings.copies k = true then
    errRecord { code := .dataLost, unit := uSpine 3, op := 0x09, platform := true, leaf := Leaf.other, detail := u }
      (s.modRings (fun m => { m with copies := m.copies.set k false }))
  else s

/-- The reads of the sends of some bindings leave a row, with the agents' reservations. -/
def dropSends (tb : Nat) (gone : List Nat) (w : Row) : Row :=
  let hit (g : Ingress) : Bool := g.kind == 3 && gone.contains (g.src - 2 ^ 20)
  let free := (List.range 16).filter (fun a => (nth w.ingress a).any hit)
  let w := { w with arrivals := w.arrivals.filter (!hit ·), ingress := w.ingress.map (·.filter (!hit ·))
                    scbPend := w.scbPend.filter (fun q => !free.any (fun a => ownIng a == q.owner)) }
  free.foldl (fun w a => scbFreeOwner tb (ownIng a) w) w

/-- Ports, packets, tracked requests and the local engines of a bridge that stops (14 R397); a binding whose send was in
progress halts, since its WRITEs are answered no more (log 64), and an armed commit is called off on both bridges (log 67). -/
def bridgeStop (b : Nat) (s : State) : State :=
  let s := each ((List.range 6).map (· + 6 * b)) (fun p s =>
    if portLive (s.port p).st then
      (s.modPort p (fun q => { q with st := .downRuntime, txq := [], replay := [], depth := 0, downAt := some (s.tb + 50000000) })).modDmapE
        (fun d => { d with fab := d.fab.modify p (fun f => { f with st := .downRuntime }) }) else s) s
  let gone := (s.fab.bindings.filter (fun p => p.2.bridge == b && p.2.sending)).map (·.1)
  let s := s.modFab (fun f => { f with bindings := f.bindings.map (fun p => if gone.contains p.1 then
    (p.1, { p.2 with sending := false, halted := true, left := 0, tags := [], tagBad := false }) else p) })
  let s := s.modRows (·.map (dropSends s.tb gone))
  let s := each gone bindSettle s
  let s := if (s.bridge b).armedAt.isSome then
      completeWait wCommit 0 .routeBusy [] [] (s.modFab (fun f => { f with bridges := f.bridges.map (fun x => { x with armedAt := none }) }))
    else s
  s.modBridge b (fun x => { x with
    tracked := [], fenced := [], injq := [], holdBuf := [], pendVerd := [], v0 := [], v1 := [], act := false
    other := .free, armedAt := none, inflight := 0, zeroSince := none })

/-- A request of the Chavi host that stays to be performed after its link went down is answered to nobody (15 R401, R404). -/
def Ingress.orphan (g : Ingress) : Ingress := if g.kind = 1 then { g with kind := 4 } else g

/-- The Chavi link leaves service (15 R404, R598; 21 R562; 22, Table 22.2 LINK.CHAVI): the session ends, and what waited to be
sent or performed is dropped. -/
def chaviDown (s : State) : State :=
  if s.chavi.up then
    let s := s.modRows (·.map (fun w => { w with arrivals := w.arrivals.map Ingress.orphan, ingress := w.ingress.map (·.map Ingress.orphan) }))
    errRecord { code := .linkDown, unit := uBridge 0, op := 0x0B, platform := true, leaf := .ev 5 2 }
      (endSession (s.modChavi (fun c => { rxSeq := c.rxSeq, txSeq := c.txSeq, hwSeq := c.hwSeq })))
  else s

/-- Every accepted fetch command of a bridge ends with STATUS LINK_DOWN; with `local_` only those of this module do
(18 R509, R510). -/
def fetchesDown (b : Nat) (local_ : Bool) (s : State) : State :=
  let u := s.fetchU b
  let runs := (u.engines.filterMap id) ++ (u.queue.map (fun c => ({ cmd := c } : FetchRun)))
  let s := s.modFetchU b (fun _ => {})
  let s := each (runs.filter (fun r => !local_ || r.cmd.src == 0)) (fun r => writeFetchRecord b { r with status := Code.linkDown.val }) s
  each (runs.map (·.cmd.table)) tableGone s

/-- Tables whose batches a bridge serves. -/
def bridgeTable (s : State) (b t : Nat) : Bool := (s.table t).any (fun d => d.bridge == b)

/-- A bridge is lost through its rail, writing nothing (18 R510; 03, Table 3.9): its ports, channels, cards and engines
leave service; the main die ends the local fetch commands it tracks; DDR5 not in self-refresh loses its contents and
its channels return through TESTING. -/
def bridgeLost (b : Nat) (s : State) : State :=
  let s := fetchesDown b true s
  let s := failBatches (bridgeTable s b) (bridgeStop b s)
  let s := each ((List.range 8).map (fun i => 8 + 8 * b + i)) (fun u s =>
    if (s.memUnit u).st == .absent || (s.memUnit u).selfRefresh then s
    else (dropCells (memUnitKey u) s).modMemUnit u (fun x => { x with st := if unitIsOut x.st then x.st else .testing })) s
  let s := mapUnits ((List.range 8).map (fun i => 8 + 8 * b + i)) (s.modBridge b (fun x => { x with out := true }))
  if b = 0 then chaviDown (s.modRings (fun m => { m with up := false })) else s

end Sys2Proof.Machine
end

