-- ==== Sys2Proof/Machine/AsterMath.lean ====
section
/-! DEFINITION. Number formats, exact arithmetic and rounding (06), the accumulator (07 R188) and vector bounds. Exact
reals of the spec are rationals here: every one it names is a quotient of integers. -/

namespace Sys2Proof.Machine

/-! Rounding. -/

/-- 2^e. -/
def p2 (e : Int) : Rat := if 0 ≤ e then ((2 ^ e.toNat : Nat) : Rat) else mkRat 1 (2 ^ (-e).toNat)

/-- |x|. -/
def rabs (x : Rat) : Rat := if x < 0 then -x else x
def rmax (x y : Rat) : Rat := if x < y then y else x
def rmin (x y : Rat) : Rat := if y < x then y else x

/-- The exponent e with 2^e ≤ |x| < 2^(e+1), for x other than 0. -/
def ilog2 (x : Rat) : Int :=
  let e : Int := (Nat.log2 x.num.natAbs : Int) - (Nat.log2 x.den : Int)
  if p2 e ≤ rabs x then e else e - 1

/-- Nearest integer, ties to even. -/
def rneInt (q : Rat) : Int :=
  let f := q.floor
  let r := q - f
  if r < mkRat 1 2 then f else if mkRat 1 2 < r then f + 1 else if f % 2 = 0 then f else f + 1

inductive Rnd where
  | near | up | down
  deriving DecidableEq, Repr

def rndInt : Rnd → Rat → Int
  | .near, q => rneInt q
  | .up, q => -((-q).floor)
  | .down, q => q.floor

/-- The step of a binary format at x: f fraction bits, least exponent emin. -/
def stepOf (f : Nat) (emin : Int) (x : Rat) : Int := (if x = 0 then emin else max (ilog2 x) emin) - f

/-- x rounded to a binary format with an unbounded top. -/
def roundTo (f : Nat) (emin : Int) (m : Rnd) (x : Rat) : Rat :=
  if x = 0 then 0 else let st := stepOf f emin x; (rndInt m (x / p2 st) : Rat) * p2 st

def f32Max : Rat := ((2 ^ 24 - 1 : Nat) : Rat) * p2 104
def f32Min : Rat := p2 (-126)
def bf16Max : Rat := ((2 ^ 8 - 1 : Nat) : Rat) * p2 120

/-- A float as the units hold it: finite with the sign a zero keeps, or not finite. -/
inductive FV where
  | fin (neg : Bool) (x : Rat)
  | inf (neg : Bool)
  | nan
  deriving DecidableEq, Repr

/-- The value of float bits: f fraction bits, w exponent bits, bias b; topFinite says that only the all-ones pattern is a
NaN (06 R145, R146). -/
def floatVal (f w : Nat) (b : Int) (topFinite : Bool) (v : Nat) : FV :=
  let m := v % 2 ^ f
  let e := v / 2 ^ f % 2 ^ w
  let neg := v / 2 ^ (f + w) % 2 = 1
  let sg (x : Rat) : FV := .fin neg (if neg then -x else x)
  if e = 2 ^ w - 1 ∧ topFinite = false then (if m = 0 then .inf neg else .nan)
  else if e = 2 ^ w - 1 ∧ m = 2 ^ f - 1 then .nan
  else if e = 0 then sg ((m : Rat) * p2 (1 - b - f))
  else sg (((2 ^ f + m : Nat) : Rat) * p2 ((e : Int) - b - f))

def f32Val (v : Nat) : FV := floatVal 23 8 127 false v
def bf16Val (v : Nat) : FV := floatVal 7 8 127 false v
def e4m3Val (v : Nat) : FV := floatVal 3 4 7 true v
def e5m2Val (v : Nat) : FV := floatVal 2 5 15 false v

/-- Float bits of a value that the format holds exactly. -/
def floatBits (f w : Nat) (b : Int) (neg : Bool) (x : Rat) : Nat :=
  let s := if neg then 2 ^ (f + w) else 0
  let a := rabs x
  if a = 0 then s
  else if a < p2 (1 - b) then s + (a / p2 (1 - b - f)).floor.toNat
  else let e := ilog2 a; s + (e + b).toNat * 2 ^ f + ((a / p2 (e - f)).floor.toNat - 2 ^ f)

def f32Bits : FV → Nat
  | .fin n x => floatBits 23 8 127 n x
  | .inf n => if n then 0xFF800000 else 0x7F800000
  | .nan => 0x7FC00000

/-- FP32 rounded toward −Inf or +Inf, its end out of range as 09 R227 says. -/
def f32Edge (up : Bool) (x : Rat) : Nat :=
  let r := roundTo 23 (-126) (if up then .up else .down) x
  if f32Max < r then (if up then 0x7F800000 else 0x7F7FFFFF)
  else if r < -f32Max then (if up then 0xFF7FFFFF else 0xFF800000)
  else f32Bits (.fin (decide (r < 0)) r)

/-- FP32 bits as an extended value: none is an infinity, with its sign. -/
def f32Ext (v : Nat) : Bool × Option Rat := match f32Val v with
  | .fin n x => (n, some x)
  | .inf n => (n, none)
  | .nan => (false, none)

/-- Whether FP32 a is greater than FP32 b; infinities included. -/
def f32Gt (a b : Nat) : Bool :=
  match f32Ext a, f32Ext b with
  | (_, some x), (_, some y) => decide (y < x)
  | (na, none), (nb, none) => !na && nb
  | (na, none), _ => !na
  | _, (nb, none) => nb

/-! Vector bounds: BF16, rounded toward +Inf; none is +Inf (06 R161). -/

abbrev Bnd := Option Rat

def bUp (x : Rat) : Bnd := let r := roundTo 7 (-126) .up x; if bf16Max < r then none else some r
def bAdd (a b : Bnd) : Bnd := match a, b with
  | some x, some y => bUp (x + y)
  | _, _ => none
def bMul (a b : Bnd) : Bnd := match a, b with
  | some x, some y => bUp (x * y)
  | _, _ => none
def bMax (a b : Bnd) : Bnd := match a, b with
  | some x, some y => some (rmax x y)
  | _, _ => none

/-- A BF16 bound as read: a negative value other than zero, a NaN or an infinity is +Inf (06 R161). -/
def bndOf (v : Nat) : Bnd := match bf16Val v with
  | .fin n x => if n ∧ x ≠ 0 then none else some x
  | _ => none

/-- The bits of a bound; 0x8000 is never written. -/
def bndBits : Bnd → Nat
  | some x => floatBits 7 8 127 false x
  | none => 0x7F80

/-! FP32 steps of the epilogue: nearest even, subnormal results flushed keeping their sign, none on overflow (07 R189). -/

def f32Step (neg : Bool) (x : Rat) : Option (Bool × Rat) :=
  let r := roundTo 23 (-126) .near x
  if f32Max < rabs r then none
  else if rabs r < f32Min then some ((if x = 0 then neg else decide (x < 0)), 0)
  else some (decide (r < 0), r)

/-! Formats (06, Tables 6.1 to 6.3). -/

/-- Planes a weight format fixes; 0 where PW1 chooses. -/
def fixedPlanes : Nat → Nat
  | 0 => 1 | 1 => 2 | 2 => 2 | 3 => 4 | 4 => 8 | 5 => 4 | 6 => 8 | _ => 0

/-- Weight formats with a block scale: BQ4, BQ8 and the floats (07 R176). -/
def wScaled (f : Nat) : Bool := decide (5 ≤ f) && decide (f ≤ 9)

/-- Activation passes a plane takes (06, Table 6.3). -/
def passesOf (af : Nat) : Nat := if af = 9 then 2 else 1

/-- The sign and position of plane p (06, Table 6.2). -/
def planeNeg (p : Nat) : Bool := p == 0
def planePos (wf pw p : Nat) : Int := if wf = 0 ∨ wf = 1 then 0 else (pw : Int) - 1 - p

/-- Sign, exponent and significand of a float element, or none where it is not finite (06, Block alignment). -/
def sigExp (af v : Nat) : Option (Bool × Int × Nat) :=
  let f := if af = 7 then 3 else if af = 8 then 2 else 7
  let w := if af = 7 then 4 else if af = 8 then 5 else 8
  let b : Int := if af = 7 then 7 else if af = 8 then 15 else 127
  match floatVal f w b (af == 7) v with
  | .fin n _ =>
    let e := v / 2 ^ f % 2 ^ w
    some (n, (if e = 0 then 1 - b else (e : Int) - b), (if e = 0 then 0 else 2 ^ f) + v % 2 ^ f)
  | _ => none

/-- Alignment of a block of floats: integers, E8, and the largest truncation (06 R151); an element that is not finite
enters as 0. -/
def alignBlock (af : Nat) (l : List Nat) : List Int × Nat × Rat :=
  let f := if af = 7 then 3 else if af = 8 then 2 else 7
  let m : Int := if af = 9 then 15 else 7
  let el := l.map (fun v => (sigExp af v).getD (false, 0, 0))
  let nz := el.filter (fun x => x.2.2 != 0)
  if nz.isEmpty then (l.map (fun _ => 0), 0, 0)
  else
    let emax := (nz.map (·.2.1)).foldl max (-1000)
    let t := max (emax + 1 - m) (-126)
    let mag (x : Bool × Int × Nat) : Int := ((x.2.2 : Rat) * p2 (x.2.1 - f - t)).floor
    (el.map (fun x => if x.1 then -mag x else mag x), (t + 127).toNat,
      (el.map (fun x => (x.2.2 : Rat) * p2 (x.2.1 - f) - (mag x : Rat) * p2 t)).foldl rmax 0)

/-! The accumulator (07 R188). -/

/-- trunc(x / 2^k) fits in 48 bits. -/
def fits48 (w : Int) (k : Nat) : Bool :=
  let q := w.tdiv (2 ^ k : Nat)
  decide (-(2 ^ 47 : Nat) ≤ q) && decide (q ≤ (2 ^ 47 - 1 : Nat))

/-- The least k with trunc(w / 2^k) in 48 bits. -/
def leastShift (w : Int) : Nat :=
  if fits48 w 0 then 0
  else let d := Nat.log2 w.natAbs - 47; if fits48 w d then d else d + 1

/-- One call of add(s, e) (07 R188). -/
def accAdd (s e : Int) (c : Acc) : Acc :=
  if s = 0 then c
  else
    let d := (c.t - e).toNat
    let low := decide (e < c.t)
    let q := if low then s.tdiv (2 ^ d : Nat) else s
    let nq := if low && decide (q * (2 ^ d : Nat) ≠ s) then min (c.nq + 1) 255 else c.nq
    let e := if low then c.t else e
    let w := c.a + q * (2 ^ (e - c.t).toNat : Nat)
    let k := leastShift w
    let r := w.tdiv (2 ^ k : Nat)
    { a := r, t := c.t + k, nq := if 0 < k && decide (r * (2 ^ k : Nat) ≠ w) then min (nq + 1) 255 else nq }

/-- a × 2^t. -/
def Acc.val (c : Acc) : Rat := (c.a : Rat) * p2 c.t

/-! Epilogue functions (06, Table 6.5); the approximations are free within what log 13 says. -/

/-- The value of the approximated part. -/
def epiFree (func z : Nat) : FV := match f32Val (Config.epiFn func z % 2 ^ 32) with
  | .fin n x => if rabs x < f32Min then .fin n 0 else .fin n x
  | _ => .fin false 0

/-- The function applied to ẑ: its result, ε and L (06, Table 6.5). -/
def epiApply (func : Nat) (neg : Bool) (z : Rat) (rz : Bnd) : FV × Bnd × Bnd :=
  let zb := f32Bits (.fin neg z)
  let y := epiFree func zb
  let mag (v : FV) : Rat := match v with | .fin _ x => rabs x | _ => 0
  match func with
  | 0 => (.fin neg z, some 0, some 1)
  | 1 => (if z < 0 ∨ neg then .fin false 0 else .fin false z, some 0, some 1)
  | 2 => (if z < -8 then .fin false 0 else if 8 < z then .fin false z else y, some (p2 (-16)), some (mkRat 145 128))
  | 3 => (if z < -16 then .fin false 0 else if 16 < z then .fin false 1 else y, some (p2 (-18)), some (mkRat 1 4))
  | 4 => (if z < -8 then .fin true (-1) else if 8 < z then .fin false 1 else y, some (p2 (-17)), some 1)
  | 5 =>
    if mkRat 8872 100 ≤ z then (.inf false, none, none)
    else
      let y := if z < -(mkRat 8733 100) then .fin false 0 else y
      (y, bAdd (bMul (some (p2 (-17))) (some (mag y))) (some (p2 (-126))),
        match rz with
        | some r => bndOf (Config.epiFn 16 (zb + 2 ^ 32 * bndBits (some r)) % 0x8000)
        | none => none)
  | _ =>
    if z = 0 then (.inf neg, none, none)
    else
      let l : Bnd := match rz with
        | some r => if rabs z ≤ r then none else bUp (1 / ((rabs z - r) * (rabs z - r)))
        | none => none
      (y, bMul (some (p2 (-19))) (some (mag y)), l)

/-! Output conversions (06, Table 6.6, R157). -/

/-- Rounds to a float target that saturates: bits, error. -/
def satFloat (f w : Nat) (b : Int) (lim : Rat) (neg : Bool) (y : Rat) : Nat × Bnd :=
  if lim < rabs y then (floatBits f w b neg lim, some (rabs y - lim))
  else
    let r := roundTo f (1 - b) .near y
    (floatBits f w b (if r = 0 then neg else decide (r < 0)) r, some (p2 (stepOf f (1 - b) r - 1)))

/-- One element in a format other than BQ8: its bits, and its error, none where the bound becomes +Inf (06 R156). -/
def convOut (ofmt : Nat) (oscale : Rat) (y : FV) : Nat × Bnd :=
  match ofmt, y with
  | 0xA, .fin n x => (f32Bits (.fin n x), some 0)
  | 0xA, v => (f32Bits v, none)
  | 0x9, .fin n x =>
    let r := roundTo 7 (-126) .near x
    if bf16Max < rabs r then ((if n then 0xFF80 else 0x7F80), none)
    else (floatBits 7 8 127 (if r = 0 then n else decide (r < 0)) r, some (p2 (stepOf 7 (-126) r - 1)))
  | 0x9, .inf n => ((if n then 0xFF80 else 0x7F80), none)
  | 0x7, .fin n x => satFloat 3 4 7 448 n x
  | 0x7, .inf n => (floatBits 3 4 7 n 448, none)
  | 0x8, .fin n x => satFloat 2 5 15 57344 n x
  | 0x8, .inf n => (floatBits 2 5 15 n 57344, none)
  | 0x4, .fin n x =>
    if 127 * oscale < rabs x then (ofSigned 8 (if n then -127 else 127), some (rabs x - 127 * oscale))
    else (ofSigned 8 (rneInt (x / oscale)), some (oscale / 2))
  | 0x4, .inf n => (ofSigned 8 (if n then -127 else 127), none)
  | _, _ => (0, none)

/-- The smallest E of a BQ8 block (06 R157). -/
def bq8E (l : List Rat) : Nat :=
  let mx := (l.map rabs).foldl rmax 0
  if mx ≤ 127 * p2 (-127) then 0
  else
    let e := (ilog2 (mx / 127) + 127).toNat
    if mx ≤ 127 * p2 ((e : Int) - 127) then min e 254 else min (e + 1) 254

/-- A block of outputs in BQ8: E8, elements, error (06 R156, R157). -/
def bq8Block (l : List FV) : Nat × List Nat × Bnd :=
  let x := l.map (fun v => match v with | .fin _ r => r | _ => 0)
  let e := bq8E x
  (e, x.map (fun r => ofSigned 8 (rneInt (r / p2 ((e : Int) - 127)))),
    if l.any (fun v => match v with | .fin _ _ => false | _ => true) then none else some (p2 ((e : Int) - 128)))

end Sys2Proof.Machine
end

