-- ==== Sys2Proof/Machine/SecOps.lean ====
section
/-! DEFINITION. The measurement log (21 R558) and the identity area's bytes (02 R56). -/

namespace Sys2Proof.Machine

/-- The 96 bytes of a measurement entry (21, Table 21.4). -/
def MeasEnt.bytes (e : MeasEnt) : List Byte :=
  leBytes 8 e.index ++ leBytes 8 e.tb ++ leBytes 2 e.event ++ leBytes 2 e.arg ++ leBytes 4 0 ++ leBytes 8 e.detail ++ e.digest

/-- A measured event (21 R558): one entry, then MR; a full log drops its oldest entry into BASE_MR first. -/
def measure (event arg detail : Nat) (digest : List Byte) (s : State) : State :=
  let e : MeasEnt := { index := s.sec.nmeas, tb := s.tb, event := event, arg := arg, detail := detail, digest := digest }
  s.modSec (fun c =>
    let c := match c.log with
      | o :: rest => if c.log.length = 4096 then { c with baseMr := Config.shake256 (c.baseMr ++ o.bytes), log := rest } else c
      | [] => c
    { c with mr := Config.shake256 (c.mr ++ e.bytes), log := c.log ++ [e], nmeas := sat 32 (c.nmeas + 1) })

/-- A tamper event (21 R563). -/
def tamper (c : Code) (s : State) : State :=
  errRecord { code := c, unit := uSpine 2, op := 0x0B, platform := true, leaf := .ev 7 0 } (s.modSec (fun x => { x with tamper := true }))

/-- The 508 bytes of the identity area that its CRC covers, and the CRC (02, Table 2.13). -/
def identBytes (i : Identity) : List Byte :=
  let l := leBytes 4 i.magic ++ leBytes 2 i.format ++ leBytes 1 i.variant ++ leBytes 1 i.boardRev ++ leBytes 16 i.partNo
    ++ leBytes 16 i.serial ++ leBytes 2 i.mfgYear ++ leBytes 1 i.mfgWeek ++ leBytes 1 0 ++ leBytes 6 i.mac
    ++ leBytes 2 i.ddrSlots ++ leBytes 1 i.flashBays ++ leBytes 1 0 ++ leBytes 2 i.fabConn ++ leBytes 452 0
  l ++ leBytes 4 (crc32 l)

/-- The fused keys as measured (21, Table 21.5). -/
def fuseKeyBytes (f : Fuse) : List Byte :=
  (f.fwkeys.flatMap (leBytes 64)) ++ leBytes 1 f.keyProg.toNat ++ leBytes 1 f.keyRev.toNat

/-- First spare and number of spares of a unit (12, Pages). -/
def spareBase (u : Nat) : Nat := if u < 8 then 22800 else 60000
def spareCount (u : Nat) : Nat := if u < 8 then 88 else 1035

/-- A physical page that some logical page is mapped to, or that has been retired. -/
def physTaken (s : State) (u p : Nat) : Bool :=
  (s.memUnit u).badPhys.contains p || s.mem.remap.any (fun e => e.2.unit == u && e.2.phys == p && e.2.st != .borrowed)

/-- The lowest free spare of a unit. -/
def freeSpare (s : State) (u : Nat) : Option Nat :=
  ((List.range (spareCount u)).map (· + spareBase u)).find? (fun p => !physTaken s u p)

/-- The spare a logical page on unit u moves to: of its own unit, or of another channel in service of its bridge (12 R307). -/
def spareFor (s : State) (u : Nat) : Option (Nat × Nat) :=
  match freeSpare s u with
  | some p => some (u, p)
  | none =>
    if u < 8 then none
    else ((List.range 8).map (fun i => 8 + 8 * ((u - 8) / 8) + i)).findSome? (fun v =>
      if (s.memUnit v).st == .inService || (s.memUnit v).st == .degraded then (freeSpare s v).map (fun p => (v, p)) else none)

/-- A retired page's logical page is switched to a spare, and the retirement counted (12 R307, R308). -/
def retirePage (k : Nat) (s : State) : State :=
  let e := pageEnt s k
  let s := s.modMemUnit e.unit (fun x => { x with retired := x.retired + 1, badPhys := addNew x.badPhys e.phys })
  match spareFor s e.unit with
  | some (v, p) => s.modMem (fun m => { m with remap := mset m.remap k { st := .mapped, unit := v, phys := p } })
  | none => s

/-- The retirement limit of a unit: 48 for a stack, 64 for a channel (05 R134; 12 R308). -/
def retireLimit (u : Nat) : Nat := if u < 8 then 48 else 64

end Sys2Proof.Machine
end

