-- ==== Sys2Proof/Machine/ProvOps.lean ====
section
/-! DEFINITION. How the verdict on a pair's sequence reaches entries, taints, Witness items and pending verdicts (17 R458
to R465). -/

namespace Sys2Proof.Machine

/-- Confirms an origin up to a sequence in a row's provisional table; an entry with no unresolved origin goes (17 R461). -/
def confirmProv (o q : Nat) (l : List ProvEntry) : List ProvEntry :=
  (l.map (fun e => { e with origins := confirmTaint o q e.origins })).filter (fun e => e.poisoned || !e.origins.isEmpty)

/-- Poisons the entries that carry an origin at or above a sequence (17 R462). -/
def poisonProv (o q : Nat) (l : List ProvEntry) : List ProvEntry :=
  l.map (fun e => if taintHit o q e.origins then { e with poisoned := true } else e)

/-- Every row's entries and taints confirmed for an origin up to a sequence (17 R461). -/
def confirmRows (o q : Nat) (w : Row) : Row := { w with
  prov := confirmProv o q w.prov
  tiles := w.tiles.map (fun t => { t with taint := confirmTaint o q t.taint })
  cores := w.cores.map (fun t => { t with taint := confirmTaint o q t.taint })
  dma := w.dma.map (fun t => { t with taint := confirmTaint o q t.taint }) }

/-- Every row's entries and taints of an origin at or above a sequence poisoned (17 R462). -/
def poisonRows (o q : Nat) (w : Row) : Row := { w with
  prov := poisonProv o q w.prov
  tiles := w.tiles.map (fun t => if taintHit o q t.taint then { t with taintBad := true } else t)
  cores := w.cores.map (fun t => if taintHit o q t.taint then { t with taintBad := true } else t)
  dma := w.dma.map (fun t => if taintHit o q t.taint then { t with taintBad := true } else t) }

/-- The taints of the row-fetch engines under a verdict (17 R460 to R462). -/
def fetchTaints (f : FetchRun → FetchRun) (s : State) : State :=
  s.modFetch (fun m => { m with bridges := m.bridges.map (fun u => { u with engines := u.engines.map (·.map f) }) })

/-- The payload of a POISON packet (17, Table 17.3). -/
def verdictBytes (tag : Nat) (v : Verdict) : List Byte :=
  leBytes 4 tag ++ leBytes 1 (match v with | .confirmed => 0 | .poisoned => 1) ++ leBytes 11 0

/-- Whether a verdict up to (CONFIRMED) or from (POISONED) a sequence covers a tag (17, Table 17.3). -/
def verdictCovers (o q : Nat) (v : Verdict) (tag : Nat) : Bool :=
  originOf tag == o && (match v with | .confirmed => seqLe (seqOf tag) q | .poisoned => seqLe q (seqOf tag))

/-- The pending verdicts that a sequence's resolution decides leave as POISON packets, one for each send (17 R464). -/
def sendVerdicts (o q : Nat) (v : Verdict) (s : State) : State :=
  each (List.range 2) (fun b s =>
    let due := (s.bridge b).pendVerd.filter (fun p => verdictCovers o q v p.1)
    let s := s.modBridge b (fun x => { x with pendVerd := x.pendVerd.filter (fun p => !verdictCovers o q v p.1) })
    each due (fun p => inject b { dst := p.2, src := endpoint s (12 + b), type := 9, len := 16, data := verdictBytes p.1 v } 5 p.1) s) s

/-- Bindings whose sends carry a resolved tag (17 R464): a confirmed tag no longer holds the NOTIFY back, a poisoned one
does so for good. -/
def resolveBindings (o q : Nat) (v : Verdict) (s : State) : State :=
  s.modFab (fun f => { f with bindings := f.bindings.map (fun p => (p.1, { p.2 with
    tags := p.2.tags.filter (fun t => !verdictCovers o q v t)
    tagBad := p.2.tagBad || (v == .poisoned && p.2.tags.any (verdictCovers o q v)) })) })

/-- Items of a paired leader under the verdict (20 R537): a confirmed one is free, a poisoned one is discarded. -/
def resolveItems (o q : Nat) (v : Verdict) (s : State) : State :=
  let hit (x : ItemHeld) : Bool := x.tag != 0 && verdictCovers o q v x.tag
  s.modWit (fun w => match v with
    | .confirmed => { w with items := w.items.map (fun x => if hit x then { x with tag := 0 } else x),
                             inbox := w.inbox.map (fun x => if hit x then { x with tag := 0 } else x) }
    | .poisoned => { w with items := w.items.filter (fun x => !hit x), inbox := w.inbox.filter (fun x => !hit x) })

/-- A verdict applied to everything the module holds (17 R461, R462, R465). -/
def applyVerdict (o q : Nat) (v : Verdict) (s : State) : State :=
  let s := match v with
    | .confirmed => fetchTaints (fun r => { r with taint := confirmTaint o q r.taint }) (s.modRows (·.map (confirmRows o q)))
    | .poisoned => fetchTaints (fun r => if taintHit o q r.taint then { r with taintBad := true } else r)
        (s.modRows (·.map (poisonRows o q)))
  resolveItems o q v (resolveBindings o q v s)

/-- Origins of the PROVISIONAL entries over a range of lines, and whether a POISONED entry lies over it (17 R460, R463). -/
def provOrigins (w : Row) (l n : Nat) : List (Nat × Nat) := ((provOver w l n).filter (fun e => !e.poisoned)).flatMap (·.origins)
def poisonedOver (w : Row) (l n : Nat) : Bool := (provOver w l n).any (·.poisoned)

/-- A taint after a read of ranges of lines (17 R460). -/
def taintRead (w : Row) (t : List (Nat × Nat)) (rs : List (Nat × Nat)) : List (Nat × Nat) :=
  (rs.flatMap (fun g => provOrigins w g.1 g.2)).foldl addTaint t

/-- The units of 512 bytes over a range of lines: first line and count. -/
def unitsOver (l n : Nat) : Nat × Nat := (l / 8 * 8, (l + n + 7) / 8 - l / 8)

/-- Lines a tainted unit writes become provisional under its taint, POISONED where the taint is (17 R460, R462). -/
def provWrite (taint : List (Nat × Nat)) (bad : Bool) (l n : Nat) (w : Row) : Row :=
  if (taint.isEmpty && !bad) || n = 0 then w
  else { w with prov := w.prov ++ [{ line := (unitsOver l n).1, len := (unitsOver l n).2, origins := taint, poisoned := bad }] }

end Sys2Proof.Machine
end

