-- ==== Sys2Proof/Machine/AsterOps.lean ====
section
/-! DEFINITION. The Aster instruction word, its static and issue checks, extents, halting and pairs (08, 07 R185 to R187,
R194; 17 R458 to R463). -/

namespace Sys2Proof.Machine

/-! The instruction word (08 R198 to R215). -/

/-- Field of n bits from bit lo of an instruction word. -/
def wf (w : BitVec 128) (lo n : Nat) : Nat := bits w.toNat lo n
def opcOf (w : BitVec 128) : Nat := wf w 0 4
def paneOf (w : BitVec 128) : Nat := wf w 4 4
/-- Classes of pane scope (08, Table 8.1). -/
def paneScope (o : Nat) : Bool := decide (1 ≤ o) && decide (o ≤ 5)
/-- Pane size, panes, segments and scale units of a mode (07, Table 7.1; 08, Table 8.5). -/
def paneSize (m : Nat) : Nat := 512 / 2 ^ m
def paneCount (m : Nat) : Nat := 4 ^ m
def segCount (m : Nat) : Nat := 16 / 2 ^ m
def unitsPerPane (m : Nat) : Nat := 64 / 4 ^ m
def unitsPerSet (m : Nat) : Nat := 16 / 4 ^ m
/-- The last legal row line number (08 R199). -/
def lnMax : Nat := 1310719
def lnNone : Nat := 0x1FFFFF

/-- Fields of MATV (08, Table 8.7). -/
def mSlot (w : BitVec 128) : Nat := wf w 8 4
def mAf (w : BitVec 128) : Nat := wf w 12 4
def mV (w : BitVec 128) : Nat := wf w 16 12
def mK (w : BitVec 128) : Nat := 32 * (wf w 28 4 + 1)
def mM (w : BitVec 128) : Nat := wf w 32 9 + 1
def mHold (w : BitVec 128) : Bool := wf w 41 1 == 1
def mAccum (w : BitVec 128) : Bool := wf w 42 1 == 1
def mOpnd (w : BitVec 128) : Nat := wf w 44 21
def mOside (w : BitVec 128) : Nat := wf w 65 21
def mDst (w : BitVec 128) : Nat := wf w 86 21
def mDside (w : BitVec 128) : Nat := wf w 107 21
/-- Fields of WLOAD (08 R210), RESV and RELS. -/
def wlSlot (w : BitVec 128) : Nat := wf w 8 4
def wlFmt (w : BitVec 128) : Nat := wf w 12 4
def wlPw (w : BitVec 128) : Nat := wf w 16 4 + 1
def wlUnit (w : BitVec 128) : Nat := wf w 20 6
def wlSrc (w : BitVec 128) : Nat := wf w 32 21
def rvLine (w : BitVec 128) : Nat := wf w 16 21
def rvLen (w : BitVec 128) : Nat := wf w 37 13
def rvWr (w : BitVec 128) : Bool := wf w 8 1 == 1

/-- Lines of an operand, of a side area, of an output (08, Table 8.2; 11 R266, R267). -/
def opndLines (w : BitVec 128) : Nat := (mK w + 63) / 64 * ((if mAf w = 9 then 2 else 1) * (mV w + 63))
def sideLines (fmt v : Nat) : Nat := (v + 31) / 32 + (if fmt = 6 then (v + 3) / 4 else 0)
def elemBytes (f : Nat) : Nat := if f = 0xA then 4 else if f = 9 then 2 else 1
def dstLines (ofmt : Nat) (lay : Bool) (v m : Nat) : Nat :=
  if lay then (m + 63) / 64 * ((if ofmt = 9 then 2 else 1) * (v + 63)) else v * ((m * elemBytes ofmt + 63) / 64)
/-- Lines of a decision record (09, Table 9.2). -/
def recLines (d : DecMode) (n : Nat) : Nat := match d with
  | .off => 0 | .tol => 1 | .topk => 4 | _ => 1 + (n + 255) / 256
/-- Lines of a WLOAD source (08, Table 8.2). -/
def wlLines (mode : Nat) (w : BitVec 128) : Nat :=
  wlPw w * paneSize mode ^ 2 / 512 + (if wScaled (wlFmt w) then 8 * unitsPerSet mode else 0)

/-! Static rules (08, Table 8.3). -/

/-- The reserved bits of a class: a mask (08 R206 to R217). -/
def rsvMask : Nat → Nat
  | 0 => (2 ^ 128 - 2 ^ 32) + 0xFE00 + 0xF0
  | 1 => (2 ^ 128 - 2 ^ 53) + (2 ^ 32 - 2 ^ 26)
  | 2 => 2 ^ 43
  | 3 => 2 ^ 96 - 2 ^ 69
  | 4 => (2 ^ 128 - 2 ^ 97) + 2 ^ 11
  | 5 => (2 ^ 64 - 2 ^ 40) + 3 * 2 ^ 22
  | 6 | 7 => (2 ^ 128 - 2 ^ 50) + 0xFE00 + 0xF0
  | 8 => (2 ^ 128 - 2 ^ 11) + 0xF0
  | _ => 0

/-- A positive normal FP32 value; a finite one; a positive finite BF16 value. -/
def posNormal32 (v : Nat) : Bool := decide (0x800000 ≤ v) && decide (v < 0x7F800000)
def finite32 (v : Nat) : Bool := v / 2 ^ 23 % 256 != 255
def posFinite16 (v : Nat) : Bool := decide (0 < v) && decide (v < 0x7F80)

/-- Segment nibbles of GROUP. -/
def seggOf (w : BitVec 128) : List Nat := (List.range 16).map (fun i => wf w (64 + 4 * i) 4)

/-- A field outside the legal values of its class; a rule that a reserved format code would decide is not applied. -/
def fieldIllegal (w : BitVec 128) : Bool :=
  match opcOf w with
  | 0 => wf w 8 1 == 0 && wf w 16 16 != 0
  | 1 =>
    let fixed := fixedPlanes (wlFmt w)
    decide (16 < wlSlot w + wlPw w) || (decide (wlFmt w ≤ 9)
      && ((if fixed = 0 then decide (wlPw w < 2) else wlPw w != fixed) || (!wScaled (wlFmt w) && wlUnit w != 0)))
  | 2 => mV w == 0 || ((mHold w || mAccum w) && decide (96 < mV w)) || (mAf w == 6 && mOside w == lnNone)
      || (mHold w && (mDst w != 0 || mDside w != 0))
  | 3 => wf w 8 3 == 7 || (if wf w 12 4 = 4 then !posNormal32 (wf w 96 32) else wf w 96 32 != 0)
  | 4 =>
    let m := wf w 8 3
    decide (4 < m) || (m != 2 && wf w 12 4 != 0) || (if m = 1 then !finite32 (wf w 16 32) else wf w 16 32 != 0)
      || (if m = 4 then !posFinite16 (wf w 48 16) else wf w 48 16 != 0)
      || (if m = 0 then wf w 64 21 != 0 || wf w 85 12 != 0 else wf w 85 12 == 0)
  | 5 => decide (16 < wf w 17 5) || (seggOf w).any (fun g => decide (8 ≤ g) && g != 15)
  | 6 | 7 => rvLen w == 0 || rvLine w % 8 != 0
  | 8 => wf w 9 2 == 3 || (wf w 8 1 == 0 && wf w 9 2 != 0)
  | _ => true

/-- A format code that its field does not allow. -/
def formatIllegal (w : BitVec 128) : Bool :=
  match opcOf w with
  | 1 => decide (9 < wlFmt w)
  | 2 => !([4, 6, 7, 8, 9].contains (mAf w))
  | 3 => !([4, 6, 7, 8, 9, 0xA].contains (wf w 12 4)) || (wf w 12 4 == 0xA && wf w 11 1 == 1)
  | _ => false

/-- Line numbers that must be legal, and the extents computable from the word alone: first line and lines. -/
def staticLines (w : BitVec 128) : List Nat :=
  match opcOf w with
  | 1 => [wlSrc w]
  | 2 => [mOpnd w] ++ (if mOside w = lnNone then [] else [mOside w]) ++ (if mHold w then [] else [mDst w])
      ++ (if mHold w || mDside w == lnNone then [] else [mDside w])
  | 3 => [wf w 48 21]
  | 4 => if wf w 8 3 = 0 then [] else [wf w 64 21]
  | 6 | 7 => [rvLine w]
  | _ => []
def staticExtents (w : BitVec 128) : List (Nat × Nat) :=
  match opcOf w with
  | 2 => (mOpnd w, opndLines w) :: (if mOside w = lnNone then [] else [(mOside w, sideLines (mAf w) (mV w))])
  | 6 | 7 => [(rvLine w, 8 * rvLen w)]
  | _ => []

/-- An extent past the last line; one that touches a bank retired in the defect map. -/
def pastEnd (g : Nat × Nat) : Bool := decide (lnMax + 1 < g.1 + g.2)
def onRetired (s : State) (r : Nat) (g : Nat × Nat) : Bool :=
  g.2 != 0 && (List.range ((g.1 + g.2 - 1) / 32768 - g.1 / 32768 + 1)).any
    (fun i => !((s.drow r).bankOk.getD (g.1 / 32768 + i) true))

/-- The static rules, in the order of Table 8.3 (08 R201). -/
def astStatic (s : State) (r : Nat) (w : BitVec 128) : Code :=
  if 8 < opcOf w ∨ w.toNat &&& rsvMask (opcOf w) ≠ 0 then .astIllegal
  else if fieldIllegal w then .astIllegal
  else if formatIllegal w then .formatUnsupported
  else if (staticLines w).any (fun l => decide (lnMax < l)) ∨ (staticExtents w).any pastEnd then .astRange
  else if (staticExtents w).any (onRetired s r) then .unitRetired
  else if opcOf w = 5 ∧ wf w 17 5 ≠ 0 ∧ ¬ hasWitness s then .unitAbsent
  else .ok

/-! Extents at issue. -/

/-- What an instruction's extents depend on in its pane: OFMT, LAY, and the Decider's mode and record pointer. -/
structure PaneView where
  ofmt : Nat
  lay : Bool
  mode : DecMode
  ptr : Nat

def decModeOf : Nat → DecMode
  | 1 => .thresh | 2 => .topk | 3 => .sign | 4 => .tol | _ => .off

def Pane.view (p : Pane) : PaneView :=
  { ofmt := (p.epi.map (·.ofmt)).getD 0xA, lay := (p.epi.map (·.skewed)).getD false, mode := p.dec.mode, ptr := p.dec.ptr }

/-- The view after an instruction of the pane has issued. -/
def PaneView.after (n : Nat) (v : PaneView) (w : BitVec 128) : PaneView :=
  match opcOf w with
  | 3 => { v with ofmt := wf w 12 4, lay := wf w 11 1 == 1 }
  | 4 => { v with mode := decModeOf (wf w 8 3), ptr := wf w 64 21 }
  | 2 => if mHold w then v else { v with ptr := v.ptr + mV w * recLines v.mode n }
  | _ => v

/-- Extents of an instruction: first line, lines, written (08, Table 8.2). -/
def extents (mode : Nat) (v : PaneView) (w : BitVec 128) : List (Nat × Nat × Bool) :=
  match opcOf w with
  | 1 => [(wlSrc w, wlLines mode w, false)]
  | 2 => (staticExtents w).map (fun g => (g.1, g.2, false)) ++
      (if mHold w then [] else
        [(mDst w, dstLines v.ofmt v.lay (mV w) (mM w), true)]
          ++ (if mDside w = lnNone then [] else [(mDside w, sideLines v.ofmt (mV w), true)])
          ++ (if v.mode = .off then [] else [(v.ptr, mV w * recLines v.mode (paneSize mode), true)]))
  | 3 => [(wf w 48 21, paneSize mode / 8, false)]
  | _ => []

/-- The view an entry of the queue will find: settings still on their way included. -/
def viewAt (t : Tile) (before : List (BitVec 128)) (p : Nat) : PaneView :=
  ((t.issued.map (·.word)).filter (fun w => opcOf w == 3) ++ before).foldl
    (fun v w => if paneScope (opcOf w) && paneOf w == p then v.after (paneSize t.mode) w else v) (nth t.panes p).view

/-- Extents of an instruction that already runs: its settings are those at its issue. -/
def issuedExtents (t : Tile) (x : Issued) : List (Nat × Nat × Bool) :=
  extents t.mode { (nth t.panes x.pane).view with ptr := x.dptr } x.word

/-! Order and waits (07 R185, R186; 08 R203). -/

/-- Two ranges of lines meet. -/
def linesMeet (a n b m : Nat) : Bool := decide (a < b + m) && decide (b < a + n)

/-- Whether an instruction's extents meet a RELS range. -/
def touches (es : List (Nat × Nat × Bool)) (w : BitVec 128) : Bool :=
  es.any (fun e => linesMeet e.1 e.2.1 (rvLine w) (8 * rvLen w))

/-- Extents of entry i of the queue, given the words before it. -/
def queuedExtents (t : Tile) (i : Nat) : List (Nat × Nat × Bool) :=
  let ws := t.queue.map (·.word)
  let w := nth ws i
  extents t.mode (viewAt t (ws.take i) (paneOf w)) w

/-- Every order condition of R185 and R203 holds for entry i: it is its turn. Earlier MATVs of a pane are held to their
completion (log 40). -/
def isTurn (t : Tile) (i : Nat) : Bool :=
  let ws := t.queue.map (·.word)
  let w := nth ws i
  let before := ws.take i
  let o := opcOf w
  let es := queuedExtents t i
  before.all (fun x => opcOf x != 0 && opcOf x != 8)
    && before.all (fun x => opcOf x != 7 || !touches es x)
    && (if paneScope o then
          before.all (fun x => !(paneScope (opcOf x) && paneOf x == paneOf w))
            && t.issued.all (fun x => !(x.pane == paneOf w && (opcOf x.word == 2 && o != 1 || o == 2)))
        else true)
    && (match o with
        | 0 => before.isEmpty
        | 8 => before.isEmpty && t.issued.isEmpty
        | 6 => before.all (fun x => opcOf x != 6 && opcOf x != 7)
        | 7 => before.all (fun x => opcOf x != 6 && opcOf x != 7)
            && (List.range i).all (fun k => !touches (queuedExtents t k) w)
            && t.issued.all (fun x => !touches (issuedExtents t x) w)
        | _ => true)

/-- Every unit of a range lies under an entry of an owner with the given WR (07 R186; log 41). -/
def covered (w : Row) (owner : Nat) (g : Nat × Nat × Bool) : Bool :=
  let own := w.scb.filter (fun e => e.owner == owner && e.wr == g.2.2)
  (List.range (unitsOver g.1 g.2.1).2).all (fun i =>
    own.any (fun e => decide (e.line ≤ (unitsOver g.1 g.2.1).1 + 8 * i) && decide ((unitsOver g.1 g.2.1).1 + 8 * i < e.line + 8 * e.len)))

/-- The scale units of a set, numbered over the tile; its plane slots. -/
def absUnit (mode pane u : Nat) : Nat := pane * unitsPerPane mode + u
def setsMeet (mode slotA pwA fA uA slotB pwB fB uB : Nat) : Bool :=
  (decide (slotA < slotB + pwB) && decide (slotB < slotA + pwA))
    || (wScaled fA && wScaled fB && decide (uA < uB + unitsPerSet mode) && decide (uB < uA + unitsPerSet mode))
def wsetMeets (mode : Nat) (w : BitVec 128) (x : WSet) : Bool :=
  x.pane == paneOf w && setsMeet mode (wlSlot w) (wlPw w) (wlFmt w) (wlUnit w) x.slot x.pw x.wfmt x.unit

/-- The weight set a MATV names. -/
def wsetOf (t : Tile) (w : BitVec 128) : Option WSet := t.wsets.find? (fun x => x.pane == paneOf w && x.slot == mSlot w)

/-- WLOAD and EPI of the tile use the loader. -/
def loaderBusy (t : Tile) : Bool := t.issued.any (fun x => opcOf x.word == 1 || opcOf x.word == 3)

/-! Pairs (07 R194; 08 R205; 17 R458). -/

def isLeader (t : Tile) (i : Nat) : Bool := t.paired && i % 2 == 0
def isFollower (t : Tile) (i : Nat) : Bool := t.paired && i % 2 == 1
def State.pair (s : State) (r p : Nat) : Pair := nth (s.row r).pairs p

/-- The sequence after one (17 R458). -/
def nextSeq (q : Nat) : Nat := if q = 0x7FFF then 1 else q + 1

/-- Every comparison of a pair is over. -/
def pairSettled (s : State) (r pair : Nat) : Bool := !(s.pair r pair).formed || nextSeq (s.pair r pair).done == (s.pair r pair).seq

/-- Every unresolved sequence of a pair is POISONED (17 R462). -/
def pairFails (r pair : Nat) (s : State) : State :=
  let sq := nextSeq (s.pair r pair).done
  let o := originOf (provTag s r pair sq)
  let s := s.modRow r (fun w => { w with pairs := w.pairs.modify pair (fun q => { q with done := (q.seq + 0x7FFF - 2) % 0x7FFF + 1 }) })
  sendVerdicts o sq .poisoned (applyVerdict o sq .poisoned s)

/-- A pair whose members are reset or lost leaves nothing to be compared: what is unresolved is POISONED (log 61). -/
def pairAbandon (r pair : Nat) (s : State) : State := if pairSettled s r pair then s else pairFails r pair s

/-- The follower executes its leader's stream (08 R205): its state follows, but for the registers of its own port. -/
def mirror (r t : Nat) (s : State) : State :=
  let l := s.tile r t
  if isLeader l t then s.modTile r (t + 1) (fun f => { l with
    pcode := f.pcode, pushRefused := f.pushRefused, runRefused := f.runRefused, pushLow := f.pushLow,
    planesRun := f.planesRun, planesSkip := f.planesSkip, taint := f.taint, taintBad := f.taintBad })
  else s

/-! Halting (08 R220). -/

/-- Error record OP of a class (17, Table 17.5). -/
def astOp (o : Nat) : Nat := if o = 2 then 2 else if o = 1 ∨ o = 3 then 1 else 0

/-- One tile enters HALTED: the run ends, and the record is written (08 R220; 17 R469). A RESV at the scoreboard does not
issue any more: its request is withdrawn. -/
def haltOne (r t : Nat) (c : Code) (fword op detail : Nat) (s : State) : State :=
  let s := s.modRow r (fun w => { w with scbPend := w.scbPend.filter (fun q => q.owner != ownAst t) })
  let s := s.modTile r t (fun x => { x with halted := true, fault := c.val, fwordF := fword, run := none })
  errRecord { code := c, unit := uAst r ((astPos s r t).getD t), op := op, detail := detail } s

/-- A tile enters HALTED; the members of a pair run one stream and halt together. -/
def haltTile (r t : Nat) (c : Code) (fword op detail : Nat) (s : State) : State :=
  if (s.tile r t).paired then haltOne r (t / 2 * 2 + 1) c fword op detail (haltOne r (t / 2 * 2) c fword op detail s)
  else haltOne r t c fword op detail s

/-- A data-path record for failing bytes, naming the bank that supplied them (17 R456). -/
def parityRecords (r op : Nat) (c : Code) (bad : List Nat) (s : State) : State :=
  each ((bad.map (fun a => a / 2 ^ 21)).eraseDups) (fun b => errRecord { code := c, unit := uBank r b, op := op }) s

/-! Issue checks (08, Table 8.8). -/

/-- The issue fault of entry i at its turn, or OK. -/
def issueFault (s : State) (r t i : Nat) : Code :=
  let x := s.tile r t
  let w := (nth x.queue i).word
  let p := nth x.panes (paneOf w)
  let n := paneSize x.mode
  let o := opcOf w
  let es := queuedExtents x i
  let own := (s.row r).scb.filter (fun e => e.owner == ownAst t)
  let armed := o == 2 && !mHold w && p.dec.mode != .off
  if paneScope o && decide (paneCount x.mode ≤ paneOf w) then .astPane
  else if o == 2 && (wsetOf x w).isNone then .astWset
  else if (o == 2 && (decide (n < mK w) || decide (n < mM w) || (armed && p.dec.mode == .topk && decide (mM w < p.dec.k))))
      || (o == 1 && wScaled (wlFmt w) && (wlUnit w % unitsPerSet x.mode != 0 || decide (unitsPerPane x.mode ≤ wlUnit w)))
      || (o == 5 && (((seggOf w).drop (segCount x.mode)).any (· != 15) || decide (n < wf w 8 9 + wf w 17 5)))
    then .astGeometry
  else if (o == 2 && (match p.chain with
        | none => mAccum w
        | some c => !mAccum w || mV w != c.v || mAf w != c.afmt))
      || ((o == 3 || o == 4 || o == 5) && p.chain.isSome)
      || (o == 8 && wf w 8 1 == 1 && x.panes.any (·.chain.isSome)) then .astChain
  else if o == 2 && p.epi.isNone then .astNoepi
  else if armed && decide (p.dec.cap < mV w) then .drecFull
  else if o == 6 && own.any (fun e => rangesOverlap e.line e.len (rvLine w) (rvLen w)) then .resvOverlap
  else if o == 7 && !own.any (fun e => e.line == rvLine w && e.len == rvLen w && e.wr == rvWr w) then .relsNomatch
  else if es.any (fun g => pastEnd (g.1, g.2.1)) then .astRange
  else if (es.map (fun g => (g.1, g.2.1)) ++ staticExtents w).any (onRetired s r) then .unitRetired
  else if o == 2 && !mHold w && (p.epi.any (·.ofmt == 6)) && mDside w == lnNone then .astIllegal
  else .ok

/-- Entries the provisional table must have free for an instruction to issue: three in paired mode (17 R459), else one
for each range a tainted tile writes (17 R460; log 42). -/
def provNeed (t : Tile) (taint : List (Nat × Nat)) (bad : Bool) (es : List (Nat × Nat × Bool)) : Nat :=
  if t.paired then 3 else if taint.isEmpty && !bad then 0 else countIf (·.2.2) es

/-- The taint of a tile once entry i has read its operands. -/
def taintAfter (s : State) (r t : Nat) (es : List (Nat × Nat × Bool)) : List (Nat × Nat) :=
  taintRead (s.row r) (s.tile r t).taint ((es.filter (fun g => !g.2.2)).map (fun g => (g.1, g.2.1)))

/-- Whether an instruction reads a POISONED line. -/
def readsPoison (s : State) (r : Nat) (es : List (Nat × Nat × Bool)) : Bool :=
  es.any (fun g => !g.2.2 && poisonedOver (s.row r) g.1 g.2.1)

/-- The waits of R186, of the loader and of the provisional table, none of which is a fault. -/
def mayIssue (s : State) (r t i : Nat) : Bool :=
  let x := s.tile r t
  let w := (nth x.queue i).word
  let o := opcOf w
  let es := queuedExtents x i
  let taint := taintAfter s r t es
  es.all (covered (s.row r) (ownAst t))
    && decide (taint.length ≤ 4)
    && (o != 2 || decide ((s.row r).prov.length + provNeed x taint (readsPoison s r es || x.taintBad || (nth x.panes (paneOf w)).chain.any (·.poisoned)) es ≤ 64))
    && (!(o == 1 || o == 3) || !loaderBusy x)
    && (o != 1 || x.issued.all (fun y => !(opcOf y.word == 2 && (wsetOf x y.word).any (wsetMeets x.mode w))))

/-- Pushes that wait enter a queue that has room (07 R185), behind what is queued. -/
def drainPush (tb tmo : Nat) (x : Tile) : Tile :=
  let n := 64 - x.queue.length
  { x with queue := x.queue ++ (x.pushWait.take n).map (fun w => { word := w, since := tb, limit := tmo }), pushWait := x.pushWait.drop n }

/-- Whether entry i is the oldest unissued instruction of its pane, or of the tile for a tile-scope class (18 R487). -/
def oldest (q : List QEntry) (i : Nat) : Bool :=
  let w := (nth q i).word
  if paneScope (opcOf w) then (q.take i).all (fun x => !(paneScope (opcOf x.word) && paneOf x.word == paneOf w)) else i == 0

/-- An entry leaves the queue at issue; entries that become the oldest of their pane start their wait limit. -/
def dequeue (tb tmo i : Nat) (x : Tile) : Tile :=
  let old := x.queue
  let q := old.eraseIdx i
  drainPush tb tmo { x with queue := q.mapIdx (fun k e =>
    if oldest q k && !(oldest old (if k < i then k else k + 1)) then { e with since := tb, limit := tmo } else e) }

/-- Cycles of Table 8.4, with every vector taking all its planes. -/
def cyclesOf (t : Tile) (w : BitVec 128) : Nat :=
  let n := paneSize t.mode
  match opcOf w with
  | 0 | 8 => 1
  | 1 => 4 + wlPw w * n * n / 4096 + (if wScaled (wlFmt w) then unitsPerSet t.mode else 0)
  | 3 => 4 + n / 64
  | 2 =>
    let pw := ((wsetOf t w).map (·.pw)).getD 1
    let v := mV w
    135 + passesOf (mAf w) * pw * ((List.range ((v + 95) / 96)).map (fun g => max (min (v - 96 * g) 96) 96)).sum
  | _ => 2

/-- The run limit in tb: four times the cycles, at least 50 (18 R487). -/
def runLimit (t : Tile) (w : BitVec 128) : Nat := max 50 (4 * cyclesOf t w)

/-- What an attempt to issue an entry of a class finds. -/
inductive Turn where
  | notYet | fault (c : Code) | wait | go
  deriving DecidableEq, Repr

/-- The attempt (08 R219, R220; 18 R497): nothing on an empty place, another class, a halted or stopped tile or a follower. -/
def turnOf (s : State) (r t i o : Nat) : Turn :=
  let x := s.tile r t
  if x.queue.length ≤ i ∨ opcOf (nth x.queue i).word ≠ o ∨ x.halted ∨ x.stopped ∨ isFollower x t ∨ isTurn x i = false then .notYet
  else match issueFault s r t i with
    | .ok => if mayIssue s r t i then .go else .wait
    | c => .fault c

/-- Tries to issue entry i of class o: its fault halts the tile, its wait leaves the state as it is. -/
def tryIssue (r t i o : Nat) (go : BitVec 128 → Nat → State → State) (s : State) : Res :=
  let e := nth (s.tile r t).queue i
  match turnOf s r t i o with
  | .fault c => .next (mirror r t (haltTile r t c e.fword (astOp o) 0 s))
  | .go => .next (mirror r t (go e.word e.fword s))
  | _ => .next s

end Sys2Proof.Machine
end

