-- ==== Sys2Proof/Machine/AsterRun.lean ====
section
/-! DEFINITION. What a MATV computes: operands, planes, accumulators, the Decider and the epilogue (06, 07, 09). -/

namespace Sys2Proof.Machine

/-! Operands (06 R151, R161; 07 R170, R179, R180; 11 R266). -/

/-- What the feeder sees of the scratchpad of a row: bytes by 64 × LN + offset; a failing byte, or one of a POISONED
line, enters as 0 (17 R456, R463). -/
structure Feed where
  s : State
  r : Nat
  bad : List Nat
  poisoned : List (Nat × Nat)

def Feed.isBad (f : Feed) (a : Nat) : Bool :=
  f.bad.contains a || f.poisoned.any (fun g => decide (g.1 ≤ a / 64) && decide (a / 64 < g.1 + g.2))
def Feed.byte (f : Feed) (a : Nat) : Nat :=
  if f.isBad a then 0 else (cellRead f.s.mem.cells (lnAddr f.r 0 + a)).toNat

/-- The byte position of element (i, v) of an operand. -/
def opndPos (w : BitVec 128) (i v : Nat) : Nat :=
  let b := mV w + 63
  if mAf w = 9 then 64 * (mOpnd w + i / 64 * (2 * b) + i % 64 / 32 * b + v + i % 64) + 2 * (i % 32)
  else 64 * (mOpnd w + i / 64 * b + v + i % 64) + i % 64

/-- One block of an operand as it enters the lanes. -/
structure Block where
  q : List Int
  e : Int
  err : Rat
  ok : Bool

/-- Segment s of vector v (06 R150 to R152). -/
def opndBlock (f : Feed) (w : BitVec 128) (s v : Nat) : Block :=
  let pos := (List.range 32).map (fun k => opndPos w (32 * s + k) v)
  let fails := pos.any (fun a => f.isBad a || (mAf w == 9 && f.isBad (a + 1)))
  let raw := pos.map (fun a => if mAf w = 9 then f.byte a + 256 * f.byte (a + 1) else f.byte a)
  match mAf w with
  | 4 => { q := raw.map (toSigned 8), e := 0, err := 0, ok := !fails }
  | 6 =>
    let sp := 64 * (mOside w + (mV w + 31) / 32) + 16 * v + s
    let e8 := f.byte sp
    if e8 = 0xFF then { q := raw.map (fun _ => 0), e := 0, err := 0, ok := false }
    else { q := raw.map (toSigned 8), e := (e8 : Int) - 127, err := 0, ok := !fails && !f.isBad sp }
  | af =>
    let (q, e8, err) := alignBlock af raw
    { q := q, e := (e8 : Int) - 127, err := err, ok := !fails && raw.all (fun x => (sigExp af x).isSome) }

/-- The operand blocks of a vector: segments 0 to K/32 − 1. -/
def opndBlocks (f : Feed) (w : BitVec 128) (v : Nat) : List Block := (List.range (mK w / 32)).map (fun s => opndBlock f w s v)

/-- The vector's VB as the feeder reads it (08 R216; 17 R456). -/
def vbIn (f : Feed) (w : BitVec 128) (v : Nat) : Bnd :=
  let a := 64 * mOside w + 2 * v
  if mOside w = lnNone then none
  else if f.isBad a || f.isBad (a + 1) then none
  else bndOf (f.byte a + 256 * f.byte (a + 1))

/-- P_s, N_s (07 R170). -/
def posSum (q : List Int) : Int := (q.map (fun x => max x 0)).sum
def negSum (q : List Int) : Int := (q.map (fun x => max (-x) 0)).sum

/-! Weights (07 R168, R176, R177). -/

/-- The weight bit of plane p, pane row i, column j. -/
def wbit (t : Tile) (x : WSet) (p i j : Nat) : Bool :=
  let n := paneSize t.mode
  ((nth ((mget t.planes (16 * x.pane + x.slot + p)).getD []) (i * (n / 8) + j / 8)).toNat / 2 ^ (j % 8)) % 2 = 1

/-- The E8 of weight block (s, j), none for an unscaled format. -/
def wE8 (t : Tile) (x : WSet) (s j : Nat) : Option Nat :=
  if wScaled x.wfmt then
    let o := s * paneSize t.mode + j
    some (nth ((mget t.scales (absUnit t.mode x.pane x.unit + o / 512)).getD []) (o % 512)).toNat
  else none

/-- A weight block whose E8 is 0xFF holds no value (06 R148). -/
def wBad (t : Tile) (x : WSet) (s j : Nat) : Bool := wE8 t x s j == some 0xFF

/-- c_{s,j} of a block (06 R154). -/
def segExp (t : Tile) (x : WSet) (b : Block) (s j : Nat) : Int := b.e + ((wE8 t x s j).map (fun e => (e : Int) - 127)).getD 0

/-- The lanes of a pass: the value, or for BF16 the high and then the low part (06 R150). -/
def lanes (af : Nat) (hi : Bool) (q : List Int) : List Int :=
  if af = 9 then (if hi then q.map (fun x => Int.fdiv x 256) else q.map (fun x => x - 256 * Int.fdiv x 256)) else q

/-- The term of one pass for segment s and column j: sum and exponent (07 R169). -/
def passTerm (t : Tile) (x : WSet) (af p : Nat) (hi : Bool) (b : Block) (s j : Nat) : Int × Int :=
  let ln := lanes af hi b.q
  let sum := ((ln.zipIdx).map (fun z => if wbit t x p (32 * s + z.2) j then z.1 else 0)).sum
  let v := if x.wfmt = 0 then 2 * sum - ln.sum else if planeNeg p then -sum else sum
  (if wBad t x s j then 0 else v, segExp t x b s j + planePos x.wfmt x.pw p + (if hi then 8 else 0))

/-- The passes of a plane: for BF16 the high one, then the low one. -/
def planePasses (af : Nat) : List Bool := if af = 9 then [true, false] else [false]

/-- Adds one plane to an accumulator over the segments a test names, in order (07 R169, R188, R192). -/
def addPlane (t : Tile) (x : WSet) (af p : Nat) (bs : List Block) (j : Nat) (seg : Nat → Bool) (a : Acc) : Acc :=
  (planePasses af).foldl (fun a hi => (bs.zipIdx).foldl (fun a z =>
    if seg z.2 then let m := passTerm t x af p hi z.1 z.2 j; accAdd m.1 m.2 a else a) a) a

/-- The centring terms of a stop after plane k (09 R230). -/
def addCentre (t : Tile) (x : WSet) (rho : Nat) (bs : List Block) (j : Nat) (seg : Nat → Bool) (a : Acc) : Acc :=
  (bs.zipIdx).foldl (fun a z => if seg z.2 && !wBad t x z.2 j
    then accAdd ((posSum z.1.q - negSum z.1.q) * rho) (segExp t x z.1 z.2 j - 1) a else a) a

/-- The accumulator before a first pass (07 R188). -/
def accInit (t : Tile) (x : WSet) (bs : List Block) (j : Nat) : Acc :=
  let es := ((bs.zipIdx).filter (fun z => !wBad t x z.2 j)).map (fun z => segExp t x z.1 z.2 j)
  { a := 0, nq := 0, t := match es with | [] => 0 | e :: r => r.foldl min e }

/-- Columns with group accumulators: column and group in use (07 R192; 08 R215). -/
def groupKeys (g : GrpSet) (m : Nat) : List (Nat × Nat) :=
  ((List.range g.ncol).map (· + g.col0)).filter (fun j => decide (j < m)) |>.flatMap (fun j =>
    ((g.segg.filter (fun x => decide (x < 8))).eraseDups).map (fun k => (j, k)))
def inGroup (g : GrpSet) (k s : Nat) : Bool := nth g.segg s == k

/-- A vector's accumulators at the issue of a link: new, or those of the chain, with r_x and a1 moved on (06 R164; 07
R174, R188). -/
def initVec (f : Feed) (t : Tile) (x : WSet) (w : BitVec 128) (v : Nat) : VecAcc :=
  let p := nth t.panes (paneOf w)
  let bs := opndBlocks f w v
  let rx : Bnd :=
    if bs.all (·.ok) && (List.range (mK w / 32)).all (fun s => (List.range (mM w)).all (fun j => !wBad t x s j))
    then bAdd (vbIn f w v) (bUp ((bs.map (·.err)).foldl rmax 0)) else none
  let a1 : Rat := (bs.map (fun b => ((posSum b.q + negSum b.q : Int) : Rat) * p2 b.e)).foldl (· + ·) 0
  match (if mAccum w then p.chain else none) with
  | some c =>
    let o := nth c.vecs v
    { o with rx := bMax o.rx rx, a1 := o.a1 + a1 }
  | none =>
    let n := if mHold w then paneSize t.mode else mM w
    { cols := (List.range n).map (accInit t x bs), rx := rx, a1 := a1
      grps := (groupKeys p.grp n).map (fun k => (8 * k.1 + k.2, accInit t x bs k.1)) }

/-- A vector's accumulators after one more plane. -/
def planeVec (f : Feed) (t : Tile) (x : WSet) (w : BitVec 128) (p v : Nat) (a : VecAcc) : VecAcc :=
  let bs := opndBlocks f w v
  let g := (nth t.panes (paneOf w)).grp
  { a with cols := a.cols.mapIdx (fun j c => addPlane t x (mAf w) p bs j (fun _ => true) c)
           grps := a.grps.map (fun k => (k.1, addPlane t x (mAf w) p bs (k.1 / 8) (inGroup g (k.1 % 8)) k.2)) }

/-- The centring terms added to every column and group (09 R230, R232). -/
def centreVec (f : Feed) (t : Tile) (x : WSet) (w : BitVec 128) (k v : Nat) (a : VecAcc) : VecAcc :=
  let bs := opndBlocks f w v
  let g := (nth t.panes (paneOf w)).grp
  let rho := 2 ^ (x.pw - k) - 1
  { a with cols := a.cols.mapIdx (fun j c => addCentre t x rho bs j (fun _ => true) c)
           grps := a.grps.map (fun y => (y.1, addCentre t x rho bs (y.1 / 8) (inGroup g (y.1 % 8)) y.2)) }

/-! The Decider (09 R224 to R236). -/

/-- W⁺_j and W⁻_j over the segments a test names. -/
def wPlus (t : Tile) (x : WSet) (bs : List Block) (j : Nat) (seg : Nat → Bool) : Rat × Rat :=
  (bs.zipIdx).foldl (fun a z => if seg z.2 && !wBad t x z.2 j then
    let c := p2 (segExp t x z.1 z.2 j)
    (a.1 + (posSum z.1.q : Rat) * c, a.2 + (negSum z.1.q : Rat) * c) else a) (0, 0)

/-- scale_j and bias_j: a non-finite entry is taken as 0 (08 R212). -/
def scaleFv (e : EpiSet) (j : Nat) : FV := match f32Val (nth e.table j).1 with | .fin n x => .fin n x | _ => .fin false 0
def biasOf (e : EpiSet) (j : Nat) : FV := match f32Val (nth e.table j).2 with | .fin n x => .fin n x | _ => .fin false 0
def fvRat : FV → Rat | .fin _ x => x | _ => 0
def fvNeg : FV → Bool | .fin n _ => n | _ => false
def scaleOf (e : EpiSet) (j : Nat) : Rat := fvRat (scaleFv e j)

/-- What the Decider forms for one column: ℓ, h, β, L, U. -/
structure Col where
  beta : Bnd
  lo : Nat
  up : Nat
  rem : Rat

/-- The certified column interval after plane k (09 R227). -/
def colOf (t : Tile) (x : WSet) (e : EpiSet) (bs : List Block) (k : Nat) (a : VecAcc) (j : Nat) : Col :=
  let rho : Rat := ((2 ^ (x.pw - k) - 1 : Nat) : Rat)
  let (wp, wn) := wPlus t x bs j (fun _ => true)
  let c := nth a.cols j
  let sc := scaleOf e j
  let bi := fvRat (biasOf e j)
  let y1 := sc * (c.val - rho * wn)
  let y2 := sc * (c.val + rho * wp)
  let l := bi + rmin y1 y2
  let h := bi + rmax y1 y2
  let rem := rabs sc * rho * (wp + wn) / 2
  match bndOf e.g, bndOf e.werr, a.rx, decide (c.nq = 255) || e.nonFinite with
  | some g, some we, some rx, false =>
    let beta := g * rx + we * a.a1 + rabs sc * c.nq * p2 c.t + p2 (-22) * rmax (rabs l) (rabs h) + p2 (-126)
    { beta := some beta, lo := f32Edge false (l - beta), up := f32Edge true (h + beta), rem := rem }
  | _, _, _, _ => { beta := none, lo := 0xFF800000, up := 0x7F800000, rem := rem }

/-- Where column a comes before column b for T: greater L, ties to the lower column. -/
def loBefore (cs : List Col) (a b : Nat) : Bool :=
  f32Gt (nth' cs a) (nth' cs b) || (!f32Gt (nth' cs b) (nth' cs a) && decide (a < b))
where nth' (cs : List Col) (i : Nat) : Nat := ((cs[i]?).map (·.lo)).getD 0

/-- Insertion of a column into T's order. -/
def insCol (cs : List Col) (a : Nat) : List Nat → List Nat
  | [] => [a]
  | b :: r => if loBefore cs a b then a :: b :: r else b :: insCol cs a r

/-- The k columns of greatest L, in order (09, Table 9.1). -/
def topCols (cs : List Col) (k : Nat) : List Nat := ((List.range cs.length).foldl (fun o a => insCol cs a o) []).take k

def colAt (cs : List Col) (i : Nat) : Col := (cs[i]?).getD { beta := none, lo := 0xFF800000, up := 0x7F800000, rem := 0 }

/-- CEIL: the greatest U outside T, or −Inf. -/
def ceilOf (cs : List Col) (T : List Nat) : Nat :=
  ((List.range cs.length).filter (fun j => !T.contains j)).foldl (fun m j => if f32Gt (colAt cs j).up m then (colAt cs j).up else m) 0xFF800000

/-- The exact difference of two FP32 values rounded toward −Inf; an infinite end decides. -/
def f32Diff (a b : Nat) : Nat :=
  match f32Ext a, f32Ext b with
  | (_, some x), (_, some y) => f32Edge false (x - y)
  | (n, none), _ => if n then 0xFF800000 else 0x7F800000
  | _, (n, none) => if n then 0x7F800000 else 0xFF800000

/-- The smaller of two FP32 values. -/
def f32Lesser (a b : Nat) : Nat := if f32Gt a b then b else a

/-- RREM: the smallest FP32 value at or above the largest r_rem (09, Table 9.1). -/
def rremOf (cs : List Col) : Nat := f32Edge true ((cs.map (·.rem)).foldl rmax 0)

/-- The latches of one plane in THRESH and SIGN: states and d of the columns (09 R228). -/
def latchCols (c : Nat) (cs : List Col) (v : Nat) (st : List (Nat × Nat)) (d : List (Nat × Nat)) : List (Nat × Nat) × List (Nat × Nat) :=
  (List.range cs.length).foldl (fun a j =>
    let k := 512 * v + j
    let x := colAt cs j
    if (mget a.1 k).isSome then a
    else if f32Gt x.lo c then (mset a.1 k 1, mset a.2 k (f32Diff x.lo c))
    else if f32Gt c x.up then (mset a.1 k 2, mset a.2 k (f32Diff c x.up))
    else a) (st, d)

/-- Whether a vector is settled (09, Table 9.1). -/
def settled (d : DecSet) (cs : List Col) (v : Nat) (st : List (Nat × Nat)) : Bool :=
  match d.mode with
  | .off => false
  | .thresh | .sign => (List.range cs.length).all (fun j => (mget st (512 * v + j)).isSome)
  | .topk =>
    let T := topCols cs d.k
    T.all (fun j => f32Gt (colAt cs j).lo (ceilOf cs T))
  | .tol => !f32Gt (rremOf cs) (d.tol * 65536)

/-- The parameter of THRESH as FP32; 0 in SIGN. -/
def decC (d : DecSet) : Nat := if d.mode = .thresh then d.thr else 0

/-- The decision record of a stopped vector (09, Tables 9.3 and 9.4, R236). -/
def decRecord (d : DecSet) (n a pw : Nat) (chain : Bool) (v k : Nat) (cs : List Col) (acc : VecAcc)
    (st dv : List (Nat × Nat)) : List Byte :=
  let ok := settled d cs v st
  let unb := d.mode != .tol && cs.any (fun c => c.beta.isNone)
  let status := if ok then 0 else if unb then 2 else 1
  let T := topCols cs d.k
  let c := decC d
  let key (j : Nat) : Nat := 512 * v + j
  let margin : Nat :=
    if status = 2 then 0xFF800000
    else match d.mode with
      | .thresh | .sign => ((List.range cs.length).map (fun j => match mget dv (key j) with
          | some x => x
          | none => let y := colAt cs j
            let p := f32Diff y.lo c
            let q := f32Diff c y.up
            if f32Gt p q then p else q)).foldl f32Lesser 0x7F800000
      | .topk => (T.map (fun j => f32Diff (colAt cs j).lo (ceilOf cs T))).foldl f32Lesser 0x7F800000
      | _ => f32Diff (d.tol * 65536) (rremOf cs)
  let base := if cs.any (fun c => c.beta.isNone) then 0x7F800000 else f32Edge true ((cs.map (fun c => c.beta.getD 0)).foldl rmax 0)
  let isTh := d.mode == .thresh || d.mode == .sign
  let cnt (x : Nat) : Nat := countIf (fun j => mget st (key j) == some x) (List.range cs.length)
  let m : Nat := match d.mode with | .thresh => 1 | .topk => 2 | .sign => 3 | .tol => 4 | .off => 0
  let head := leBytes 2 v ++ leBytes 1 m ++ leBytes 1 status ++ leBytes 1 k ++ leBytes 1 pw ++ leBytes 1 (a * k)
    ++ leBytes 1 (b2n (decide (k < pw)) + 2 * b2n chain + 4 * b2n ((acc.cols.take cs.length).any (·.nq == 255))) ++ leBytes 4 margin
    ++ leBytes 4 (if k = pw then 0 else rremOf cs) ++ leBytes 4 base
    ++ leBytes 4 (match d.mode with | .thresh => d.thr | .topk => d.k | .tol => d.tol * 65536 | _ => 0)
    ++ leBytes 2 (if isTh then cnt 1 else if d.mode == .topk then d.k else 0) ++ leBytes 2 (if isTh then cnt 2 else 0)
    ++ leBytes 2 cs.length ++ leBytes 2 0 ++ leBytes 4 (if d.mode == .topk then ceilOf cs T else 0) ++ leBytes 28 0
  match d.mode with
  | .topk => head ++ ((List.range 16).flatMap (fun i => match T[i]? with
      | some j => leBytes 2 j ++ leBytes 2 0 ++ leBytes 4 (colAt cs j).lo ++ leBytes 4 (colAt cs j).up
      | none => leBytes 2 0xFFFF ++ leBytes 10 0))
  | .tol => head
  | _ => head ++ (List.range ((n + 255) / 256 * 64)).map (fun y =>
      BitVec.ofNat 8 (((List.range 4).map (fun z => (mget st (key (4 * y + z))).getD 0 * 4 ^ z)).sum))

/-! The epilogue (06 R155 to R157, R164; 07 R189, R190, R193). -/

/-- ẑ_j and whether a step overflowed (07 R189). -/
def zHat (e : EpiSet) (a : Acc) (j : Nat) : (Bool × Rat) × Bool :=
  match f32Step false a.val with
  | none => ((false, 0), true)
  | some (n1, z1) =>
    match f32Step (n1 != fvNeg (scaleFv e j)) (z1 * scaleOf e j) with
    | none => ((false, 0), true)
    | some (n2, z2) =>
      match f32Step (n2 && fvNeg (biasOf e j)) (z2 + fvRat (biasOf e j)) with
      | none => ((false, 0), true)
      | some z => (z, false)

/-- A finished vector: elements by column, E8s of its BQ8 blocks, vb_out. -/
structure VecOut where
  elems : List Nat
  scales : List Nat
  vb : Nat

/-- The epilogue of one vector: columns 0 to M − 1, and vb_out (06 R164; 07 R189). -/
def epilogue (e : EpiSet) (m : Nat) (a : VecAcc) (rtol : Bnd) : VecOut :=
  let zs := (List.range m).map (fun j => zHat e (nth a.cols j) j)
  let steps : Bnd := (zs.map (fun z => match bUp (p2 (-22) * rabs z.1.2) with
    | some x => bUp (x + p2 (-126)) | none => none)).foldl bMax (some 0)
  let nqs : Bnd := ((List.range m).map (fun j => let c := nth a.cols j
    if c.nq = 255 then none else bUp (rabs (scaleOf e j) * c.nq * p2 c.t))).foldl bMax (some 0)
  let rz := bAdd (bAdd (bAdd (bAdd (bMul (bndOf e.g) a.rx) (bMul (bndOf e.werr) (some a.a1))) nqs) steps) rtol
  let ys := zs.map (fun z => epiApply e.func z.1.1 z.1.2 rz)
  let osc := fvRat (f32Val e.oscale)
  let blocks := (List.range ((m + 31) / 32)).map (fun b => bq8Block (((ys.map (·.1)).drop (32 * b)).take 32))
  let conv := ys.map (fun y => convOut e.ofmt osc y.1)
  let rout : Bnd := if e.ofmt = 6 then (blocks.map (·.2.2)).foldl bMax (some 0) else (conv.map (·.2)).foldl bMax (some 0)
  let prop : Bnd := (ys.map (fun y => bAdd (bMul y.2.2 rz) y.2.1)).foldl bMax (some 0)
  let ovf := zs.any (·.2) || e.nonFinite
  { elems := if e.ofmt = 6 then blocks.flatMap (·.2.1) else conv.map (·.1)
    scales := if e.ofmt = 6 then blocks.map (·.1) else []
    vb := bndBits (if ovf then none else bAdd prop (match rout with | some x => bUp x | none => none)) }

/-- The bytes of a finished vector, with their row positions 64 × LN + offset (07 R190; 11 R266). -/
def vecBytes (ofmt : Nat) (lay : Bool) (w : BitVec 128) (v : Nat) (o : VecOut) : List (Nat × List Byte) :=
  let b := mV w + 63
  let eb := elemBytes ofmt
  let pos (j : Nat) : Nat :=
    if lay = false then 64 * (mDst w + v * ((mM w * eb + 63) / 64)) + eb * j
    else if ofmt = 9 then 64 * (mDst w + j / 64 * (2 * b) + j % 64 / 32 * b + v + j % 64) + 2 * (j % 32)
    else 64 * (mDst w + j / 64 * b + v + j % 64) + j % 64
  (o.elems.mapIdx (fun j x => (pos j, leBytes eb x)))
    ++ (if mDside w = lnNone then [] else
      (64 * mDside w + 2 * v, leBytes 2 o.vb)
        :: (if ofmt = 6 then [(64 * (mDside w + (mV w + 31) / 32) + 16 * v, leBytesOf o.scales)] else []))
where leBytesOf (l : List Nat) : List Byte := (l ++ List.replicate 16 0).take 16 |>.map (BitVec.ofNat 8)

/-- Writes a vector's bytes into the row's scratchpad. -/
def writeVec (r : Nat) (l : List (Nat × List Byte)) (s : State) : State := each l (fun p s => memWrite s (lnAddr r 0 + p.1) p.2) s

/-- FP32 bits rounded upward of a value. -/
def f32UpBits (x : Rat) : Nat := f32Edge true x

/-- The group items of a vector (07 R193; 09 R232; 20, Table 20.6). -/
def groupItems (t : Tile) (x : WSet) (e : EpiSet) (g : GrpSet) (bs : List Block) (r tl : Nat) (w : BitVec 128) (v k : Nat)
    (a : VecAcc) : List GItem :=
  (a.grps.filter (fun y => decide (y.1 / 8 < mM w))).map (fun y =>
    let j := y.1 / 8
    let c := y.2
    let sum := match f32Step false c.val with
      | none => 0
      | some (n1, z1) => match f32Step (n1 != fvNeg (scaleFv e j)) (z1 * scaleOf e j) with
        | none => 0
        | some (n2, z2) => f32Bits (.fin n2 z2)
    let (wp, wn) := wPlus t x bs j (inGroup g (y.1 % 8))
    { col := j, group := y.1 % 8, pane := paneOf w, sum := sum
      trunc := if c.nq = 255 then 0x7F800000 else f32UpBits (rabs (scaleOf e j) * c.nq * p2 c.t)
      rem := if k = x.pw then 0 else f32UpBits (rabs (scaleOf e j) * ((2 ^ (x.pw - k) - 1 : Nat) : Rat) * (wp + wn) / 2)
      wtag := g.wtag, vidx := v, row := r, slot := tl })

end Sys2Proof.Machine
end

