-- ==== Sys2Proof/Machine/Aster.lean ====
section
/-! DEFINITION. Rows 57 to 75: runs and pushes, the classes at issue, completions, the Decider, pair comparison and the
Aster timeouts (08, 09; 17 R456 to R463; 18 R487). -/

namespace Sys2Proof.Machine

/-- The words of a run lie in one program region loaded for the tile (08 R222). -/
def runInRegion (w : Row) (t line word count : Nat) : Bool :=
  w.progs.any (fun p => p.aster.contains t && decide (p.region ≤ line)
    && decide (4 * line + word + count ≤ 4 * (p.region + 16 * p.units)))

/-- A write of AST_RUN (08 R222; 17 R480). -/
def runWrite (r t line word count : Nat) (s : State) : State :=
  let x := s.tile r t
  if (astPos s r t).isNone ∨ isFollower x t ∨ x.run.isSome ∨ x.halted ∨ count = 0 ∨ runInRegion (s.row r) t line word count = false
  then s.modTile r t (fun x => { x with runRefused := true })
  else mirror r t (s.modTile r t (fun x => { x with
    run := some { line := line, word := word, count := count }, fault := 0, fwordF := 0 }))

/-- AST_RUN_WRITE (08 R205, R222; 18 R494): a run starts, or RUN_REFUSED is set. -/
def execAstRunWrite (r t v : Nat) (s : State) : Res :=
  atRow r (runWrite r t (bits v 0 21) (bits v 21 2) (bits v 24 16)) s

/-- The words of the run's next line: position, and how many of them the run still wants. -/
def fetchSpan (c : RunCtl) : Nat × Nat :=
  let g := c.word + c.done
  (4 * c.line + g, min (4 - g % 4) (c.count - c.done))

/-- The words the fetcher read enter the queue; the run ends with its last word (08 R202). -/
def fetchWords (r t : Nat) (c : RunCtl) (k : Nat) (s : State) : State :=
  let g := (fetchSpan c).1
  let ws := (List.range k).map (fun i => BitVec.ofNat 128 (leNat (memRead s (lnAddr r 0 + 16 * (g + i)) 16)))
  s.modTile r t (fun x => { x with
    queue := x.queue ++ (ws.mapIdx (fun i w => { word := w, fword := c.done + i, since := s.tb, limit := s.gw.tmoAst }))
    run := if c.done + k = c.count then none else some { c with done := c.done + k } })

/-- AST_RUN_FETCH (08 R202; 17 R456, R463): the next line's words enter the queue once it has room; a word with a failing
byte, or on a POISONED line, halts the tile instead. `bad` is the first word of the line that fails parity. -/
def execAstRunFetch (r t : Nat) (bad : Option Nat) (s : State) : Res :=
  let x := s.tile r t
  match x.run with
  | none => .next s
  | some c =>
    let (g, n) := fetchSpan c
    if rowRuns s r = false ∨ x.halted ∨ x.stopped ∨ isFollower x t ∨ 64 < x.queue.length + n then .next s
    else if poisonedOver (s.row r) (g / 4) 1 then
      .next (mirror r t (haltTile r t .poisoned c.done 0 0 s))
    else match bad with
      | some k =>
        if k < n then
          .next (mirror r t (haltTile r t .parityError (c.done + k) 0 0 (parityRecords r 0 .parityError [16 * g] (fetchWords r t c k s))))
        else .next (mirror r t (fetchWords r t c n s))
      | none => .next (mirror r t (fetchWords r t c n s))

/-- A push of one instruction (08 R201, R205, R223; 17 R480). -/
def push (r t : Nat) (w : BitVec 128) (s : State) : State :=
  let x := s.tile r t
  let refuse (c : Code) : State := s.modTile r t (fun x => { x with pushRefused := true, pcode := c.val })
  if (astPos s r t).isNone then refuse .unitRetired
  else if isFollower x t ∨ x.run.isSome then refuse .astBusy
  else if x.halted then refuse .astHalted
  else match astStatic s r w with
    | .ok => mirror r t (s.modTile r t (fun x =>
        if x.queue.length < 64 ∧ x.pushWait.isEmpty then
          { x with queue := x.queue ++ [{ word := w, since := s.tb, limit := s.gw.tmoAst }], fault := 0, fwordF := 0 }
        else { x with pushWait := x.pushWait ++ [w], fault := 0, fwordF := 0 }))
    | c => refuse c

/-- AST_QPUSH_WRITE (08 R223): part 0 the whole word, 1 its low half, which is kept, 2 its high half, which pushes. -/
def execAstQpushWrite (r t w part : Nat) (s : State) : Res :=
  atRow r (fun s =>
    match part with
    | 0 => push r t (BitVec.ofNat 128 w) s
    | 1 => s.modTile r t (fun x => { x with pushLow := BitVec.ofNat 64 w })
    | _ => push r t (BitVec.ofNat 128 ((s.tile r t).pushLow.toNat + 2 ^ 64 * (w % 2 ^ 64))) s) s

/-! The classes at issue. -/

/-- NOP (08 R206): it leaves the queue and, with MARK, sends a phase marker. -/
def goNop (r t i : Nat) (w : BitVec 128) (_ : Nat) (s : State) : State :=
  let s := s.modTile r t (dequeue s.tb s.gw.tmoAst i)
  if wf w 8 1 = 1 then s.modCap (fun c => { c with markers := c.markers ++ [(r, t, wf w 16 16, s.tb)] }) else s
def execNopMark (r t i : Nat) (s : State) : Res := tryIssue r t i 0 (goNop r t i) s

/-- FENCE (08 R207; 07 R173): with SET, the mode changes, weight sets are invalid and pane settings are reset. -/
def goFence (r t i : Nat) (w : BitVec 128) (_ : Nat) (s : State) : State :=
  s.modTile r t (fun x =>
    let x := dequeue s.tb s.gw.tmoAst i x
    if wf w 8 1 = 1 then { x with mode := wf w 9 2, wsets := [], panes := List.replicate 16 {} } else x)
def execFence (r t i : Nat) (s : State) : Res := tryIssue r t i 8 (goFence r t i) s

/-- The request of a RESV. -/
def resvReq (t : Nat) (w : BitVec 128) (tb : Nat) : ScbReq :=
  { owner := ownAst t, ranges := [(rvLine w, rvLen w, rvWr w)], tb := tb }

/-- RESV (08 R208; 11 R269): it issues when the scoreboard grants its entry; until then its request is pending there. -/
def goResv (r t i : Nat) (w : BitVec 128) (_ : Nat) (s : State) : State :=
  if (s.row r).scbPend.any (·.owner == ownAst t) then s
  else match scbRequest s.tb (resvReq t w s.tb) (s.row r) with
    | (.grant, row) =>
      (s.modRow r (fun _ => clearPoisoned (rvLine w, rvLen w, rvWr w) row)).modTile r t (dequeue s.tb s.gw.tmoAst i)
    | (.wait, row) => s.modRow r (fun _ => row)
    | (.refuse c, _) => haltTile r t c (nth (s.tile r t).queue i).fword 0 0 s
def execResv (r t i : Nat) (s : State) : Res := tryIssue r t i 6 (goResv r t i) s

/-- RELS (08 R209): the matching reservation is freed. -/
def goRels (r t i : Nat) (w : BitVec 128) (_ : Nat) (s : State) : State :=
  (s.modRow r (scbFreeIf s.tb (fun e =>
    e.owner == ownAst t && e.line == rvLine w && e.len == rvLen w && e.wr == rvWr w))).modTile r t (dequeue s.tb s.gw.tmoAst i)
def execRels (r t i : Nat) (s : State) : Res := tryIssue r t i 7 (goRels r t i) s

/-- Bytes among `bad` that an instruction reads. -/
def badRead (es : List (Nat × Nat × Bool)) (bad : List Nat) : List Nat :=
  bad.filter (fun a => es.any (fun g => !g.2.2 && decide (g.1 ≤ a / 64) && decide (a / 64 < g.1 + g.2.1)))

/-- What every instruction that reads the scratchpad does at issue: the taint grows, failing bytes are recorded (17 R456,
R460), and the entry leaves the queue. -/
def issueRead (r t i op : Nat) (bad : List Nat) (s : State) : State :=
  let es := queuedExtents (s.tile r t) i
  let taint := taintAfter s r t es
  let s := parityRecords r op .parityError (badRead es bad) s
  s.modTile r t (fun x => { dequeue s.tb s.gw.tmoAst i x with taint := taint })

/-- WLOAD (08 R211): the overlapping weight sets of its pane are invalid from its issue. -/
def goWload (r t i : Nat) (bad : List Nat) (w : BitVec 128) (fw : Nat) (s : State) : State :=
  let x := s.tile r t
  let es := queuedExtents x i
  let poi := readsPoison s r es
  let s := issueRead r t i 1 bad s
  s.modTile r t (fun y => { y with
    wsets := y.wsets.filter (fun z => !wsetMeets y.mode w z)
    issued := y.issued ++ [{ word := w, fword := fw, issuedAt := s.tb, limit := runLimit x w, pane := paneOf w,
                             bad := badRead es bad, poisoned := poi }] })
def execWload (r t i : Nat) (bad : List Nat) (s : State) : Res := tryIssue r t i 1 (goWload r t i bad) s

/-- EPI (08 R212): the loader starts on the pane's settings and table. -/
def goEpi (r t i : Nat) (bad : List Nat) (w : BitVec 128) (fw : Nat) (s : State) : State :=
  let x := s.tile r t
  let es := queuedExtents x i
  let poi := readsPoison s r es
  let s := issueRead r t i 1 bad s
  s.modTile r t (fun y => { y with
    issued := y.issued ++ [{ word := w, fword := fw, issuedAt := s.tb, limit := runLimit x w, pane := paneOf w,
                             bad := badRead es bad, poisoned := poi }] })
def execEpi (r t i : Nat) (bad : List Nat) (s : State) : Res := tryIssue r t i 3 (goEpi r t i bad) s

/-- DECIDE (08 R213, R214): the pane's Decider settings, pointer and capacity. -/
def goDecide (r t i : Nat) (w : BitVec 128) (_ : Nat) (s : State) : State :=
  s.modTile r t (fun x =>
    let x := dequeue s.tb s.gw.tmoAst i x
    { x with panes := x.panes.modify (paneOf w) (fun p => { p with dec :=
        { mode := decModeOf (wf w 8 3), k := if wf w 8 3 = 2 then wf w 12 4 + 1 else 0, thr := wf w 16 32, tol := wf w 48 16,
          ptr := wf w 64 21, cap := wf w 85 12 } }) })
def execDecideSet (r t i : Nat) (s : State) : Res := tryIssue r t i 4 (goDecide r t i) s

/-- GROUP (08 R215): the pane's feature-group split. -/
def goGroup (r t i : Nat) (w : BitVec 128) (_ : Nat) (s : State) : State :=
  s.modTile r t (fun x =>
    let x := dequeue s.tb s.gw.tmoAst i x
    { x with panes := x.panes.modify (paneOf w) (fun p => { p with grp :=
        { segg := seggOf w, col0 := wf w 8 9, ncol := wf w 17 5, wtag := wf w 24 16 } }) })
def execGroup (r t i : Nat) (s : State) : Res := tryIssue r t i 5 (goGroup r t i) s

/-- The MATV's provisional entries: under its pair's tag, or under the tile's taint (17 R459, R460, R463). -/
def matvProv (r t seq : Nat) (es : List (Nat × Nat × Bool)) (taint : List (Nat × Nat)) (bad : Bool) (s : State) : State :=
  let x := s.tile r t
  let tag := provTag s r (t / 2) seq
  let o := if x.paired then addTaint taint (originOf tag, seq) else taint
  s.modRow r (fun w => (es.filter (·.2.2)).foldl (fun w g => provWrite o bad g.1 g.2.1 w) w)

/-- MATV (08 R214, R217; 07 R174, R188; 17 R458, R459): the vectors enter with their first accumulators, the record
pointer moves on, the chain opens, goes on or closes. -/
def goMatv (r t i : Nat) (bad : List Nat) (w : BitVec 128) (fw : Nat) (s : State) : State :=
  let x := s.tile r t
  let es := queuedExtents x i
  let p := nth x.panes (paneOf w)
  let n := paneSize x.mode
  let armed := !mHold w && p.dec.mode != .off
  let poi := readsPoison s r es
  let chainPoi := (mAccum w && p.chain.any (·.poisoned)) || poi
  let feed : Feed := { s := s, r := r, bad := badRead es bad, poisoned := ((s.row r).prov.filter (·.poisoned)).map (fun e => (e.line, 8 * e.len)) }
  match wsetOf x w with
  | none => s
  | some ws =>
    let vecs := (List.range (mV w)).map (initVec feed x ws w)
    let seq := if x.paired then (s.pair r (t / 2)).seq else 0
    let taint := taintAfter s r t es
    let s := issueRead r t i 2 bad s
    let s := if x.paired then s.modRow r (fun z => { z with pairs := z.pairs.modify (t / 2) (fun q =>
        { q with seq := if q.seq = 0x7FFF then 1 else q.seq + 1 }) }) else s
    let s := matvProv r t seq es taint (chainPoi || x.taintBad) s
    s.modTile r t (fun y => { y with
      issued := y.issued ++ [{ word := w, fword := fw, issuedAt := s.tb, limit := runLimit x w, pane := paneOf w, vecs := vecs,
                               poisoned := poi, bad := badRead es bad, dptr := p.dec.ptr, seq := seq,
                               planes := List.replicate ((mV w + 31) / 32) 0 }]
      panes := y.panes.modify (paneOf w) (fun q => { q with
        chain := if mHold w then some { v := mV w, afmt := mAf w, vecs := [], poisoned := chainPoi } else none
        dec := if armed then { q.dec with ptr := q.dec.ptr + mV w * recLines q.dec.mode n, cap := q.dec.cap - mV w } else q.dec }) })
def execMatv (r t i : Nat) (bad : List Nat) (s : State) : Res := tryIssue r t i 2 (goMatv r t i bad) s

/-! Completions. -/

/-- An issued instruction of class o of a tile, the first of them. -/
def issuedOf (x : Tile) (o i : Nat) : Option Issued := (x.issued[i]?).filter (fun y => opcOf y.word == o)

def dropIssued (i : Nat) (x : Tile) : Tile := { x with issued := x.issued.eraseIdx i }

/-- The planes and scale units a WLOAD stores (07 R177). -/
def storeSet (s : State) (r : Nat) (w : BitVec 128) (x : Tile) : Tile :=
  let n := paneSize x.mode
  let src (o k : Nat) : List Byte := memRead s (lnAddr r (wlSrc w) + o) k
  let pl := (List.range (wlPw w)).foldl (fun m p => mset m (16 * paneOf w + wlSlot w + p) (src (p * (n * n / 8)) (n * n / 8))) x.planes
  let sc := if wScaled (wlFmt w) then (List.range (unitsPerSet x.mode)).foldl (fun m u =>
      mset m (absUnit x.mode (paneOf w) (wlUnit w + u)) (src (wlPw w * (n * n / 8) + 512 * u) 512)) x.scales else x.scales
  { x with planes := pl, scales := sc }

/-- WLOAD_COMPLETE (08 R211; 17 R456, R463): the set becomes valid; a failing or POISONED source leaves it invalid and
halts the tile. -/
def execWloadComplete (r t i : Nat) (s : State) : Res :=
  let x := s.tile r t
  match issuedOf x 1 i with
  | none => .next s
  | some y =>
    let w := y.word
    if isFollower x t then .next s
    else
      let s1 := s.modTile r t (fun x => dropIssued i (storeSet s r w x))
      if y.poisoned then .next (mirror r t (haltTile r t .poisoned y.fword 1 0 s1))
      else if y.bad.isEmpty = false then .next (mirror r t (haltTile r t .parityError y.fword 1 0 s1))
      else .next (mirror r t (s1.modTile r t (fun x => { x with wsets := x.wsets ++
        [{ pane := paneOf w, slot := wlSlot w, wfmt := wlFmt w, pw := wlPw w, unit := wlUnit w }] })))

/-- The settings and table an EPI loads (08, Table 8.6, R212). -/
def epiSet (s : State) (r n : Nat) (w : BitVec 128) : EpiSet :=
  let l := memRead s (lnAddr r (wf w 48 21)) (8 * n)
  let tab := (List.range n).map (fun j => (field l (8 * j) 4, field l (8 * j + 4) 4))
  { func := wf w 8 3, skewed := wf w 11 1 == 1, ofmt := wf w 12 4, g := wf w 16 16, werr := wf w 32 16, oscale := wf w 96 32
    table := tab, nonFinite := tab.any (fun p => !finite32 p.1 || !finite32 p.2) }

/-- EPI_COMPLETE (08 R212; 17 R456, R463). -/
def execEpiComplete (r t i : Nat) (s : State) : Res :=
  let x := s.tile r t
  match issuedOf x 3 i with
  | none => .next s
  | some y =>
    let w := y.word
    if isFollower x t then .next s
    else
      let s1 := s.modTile r t (dropIssued i)
      let set (e : Option EpiSet) (s : State) : State :=
        s.modTile r t (fun x => { x with panes := x.panes.modify (paneOf w) (fun p => { p with epi := e }) })
      if y.poisoned then .next (mirror r t (haltTile r t .poisoned y.fword 1 0 (set none s1)))
      else if y.bad.isEmpty = false then .next (mirror r t (haltTile r t .parityError y.fword 1 0 (set none s1)))
      else .next (mirror r t (set (some (epiSet s r (paneSize x.mode) w)) s1))

/-- What the feeder of an issued MATV sees. -/
def feedOf (s : State) (r : Nat) (y : Issued) : Feed :=
  { s := s, r := r, bad := y.bad
    poisoned := if y.poisoned then ((s.row r).prov.filter (·.poisoned)).map (fun e => (e.line, 8 * e.len)) else [] }

/-- What one finished vector leaves: its output bytes, its record and its Witness items (07 R189, R193; 09 R230 to R233;
20 R534). -/
def finishVec (f : Feed) (r t : Nat) (x : Tile) (y : Issued) (ws : WSet) (v k : Nat) (cs : List Col) (a : VecAcc) (s : State) : State :=
  let w := y.word
  let p := nth x.panes y.pane
  match p.epi with
  | none => s
  | some e =>
    let a := if k < ws.pw then centreVec f x ws w k v a else a
    let rtol : Bnd := if k < ws.pw then (match f32Val (rremOf cs) with | .fin _ z => bUp z | _ => none) else some 0
    let o := epilogue e (mM w) a rtol
    let armed := p.dec.mode != .off
    let n := paneSize x.mode
    let drec := if armed then decRecord p.dec n (passesOf (mAf w)) ws.pw (mAccum w) v k cs a y.latch y.dvals else []
    let s := writeVec r (vecBytes e.ofmt e.skewed w v o) s
    let s := if armed then memWrite s (lnAddr r (y.dptr + v * recLines p.dec.mode n)) drec else s
    let tag := if x.paired then provTag s r (t / 2) y.seq else 0
    let gi := groupItems x ws e p.grp (opndBlocks f w v) r t w v k a
    let di : List DItem := if armed && p.grp.wtag != 0 then
      [{ wtag := p.grp.wtag, vidx := v, row := r, slot := t, pane := y.pane, rlen := recLines p.dec.mode n, drec := drec }] else []
    let its : List ItemHeld := gi.map (fun g => { grp := some g, tag := tag }) ++ di.map (fun d => { dec := some d, tag := tag })
    if hasWitness s then s.modWit (fun u => { u with inbox := u.inbox ++ its }) else s

/-- The planes of a vector of an unarmed MATV, all of them. -/
def allPlanes (f : Feed) (x : Tile) (ws : WSet) (w : BitVec 128) (v : Nat) (a : VecAcc) : VecAcc :=
  (List.range ws.pw).foldl (fun a p => planeVec f x ws w p v a) a

/-- One vector of a wave at a plane boundary (09 R225, R228, R230): its plane is added, its interval formed, its columns
latched; it stops when settled or after the last plane. -/
def evalVec (f : Feed) (r t i : Nat) (x : Tile) (ws : WSet) (k v : Nat) (s : State) : State :=
  match issuedOf (s.tile r t) 2 i with
  | none => s
  | some y =>
    if y.stops.any (·.1 == v) then s
    else
      let p := nth x.panes y.pane
      let a := planeVec f x ws y.word (k - 1) v (nth y.vecs v)
      let e := p.epi.getD {}
      let cs := (List.range (mM y.word)).map (colOf x ws e (opndBlocks f y.word v) k a)
      let isTh := p.dec.mode == .thresh || p.dec.mode == .sign
      let (st, dv) := if isTh then latchCols (decC p.dec) cs v y.latch y.dvals else (y.latch, y.dvals)
      let stop := settled p.dec cs v st || k == ws.pw
      let upd (z : Issued) : Issued := { z with vecs := z.vecs.set v a, latch := st, dvals := dv
                                                stops := if stop then z.stops ++ [(v, k)] else z.stops }
      let cnt (z : Tile) : Tile := { z with planesRun := sat 32 (z.planesRun + 1)
                                            planesSkip := if stop then sat 32 (z.planesSkip + (ws.pw - k)) else z.planesSkip }
      let s := s.modTile r t (fun z => cnt { z with issued := z.issued.modify i upd })
      let s := if x.paired then s.modTile r (t + 1) cnt else s
      if stop then finishVec f r t x (upd y) ws v k cs a s else s

/-- DECIDER_EVALUATION (09 R225 to R241): the evaluation of wave w of the armed MATV at place i of the tile's issued list,
after its next plane. -/
def execDeciderEvaluation (r t i w : Nat) (s : State) : Res :=
  let x := s.tile r t
  match issuedOf x 2 i with
  | none => .next s
  | some y =>
    match wsetOf x y.word with
    | none => .next s
    | some ws =>
      let k := nth y.planes w + 1
      if isFollower x t ∨ mHold y.word ∨ (nth x.panes y.pane).dec.mode = .off ∨ mV y.word ≤ 32 * w ∨ ws.pw < k then .next s
      else
        let f := feedOf s r y
        let s := s.modTile r t (fun z => { z with issued := z.issued.modify i (fun q => { q with planes := q.planes.set w k }) })
        .next (mirror r t (each (((List.range 32).map (· + 32 * w)).filter (fun v => decide (v < mV y.word)))
          (evalVec f r t i x ws k) s))

/-- Items of a MATV still on their way to the Witness unit (20 R535). -/
def itemsWait (s : State) (r t pane : Nat) : Bool :=
  s.wit.inbox.any (fun h => h.grp.any (fun g => g.row == r && g.slot == t && g.pane == pane)
    || h.dec.any (fun d => d.row == r && d.slot == t && d.pane == pane))

/-- MATV_COMPLETE (08 R204, R217; 07 R174, R189; 20 R535): an unarmed MATV's vectors take all their planes and are
written, a held link's accumulators stay in the pane, and an armed one needs every vector stopped; the MATV completes once
each of its items has been accepted or discarded. -/
def execMatvComplete (r t i : Nat) (s : State) : Res :=
  let x := s.tile r t
  match issuedOf x 2 i with
  | none => .next s
  | some y =>
    match wsetOf x y.word with
    | none => .next s
    | some ws =>
      let p := nth x.panes y.pane
      let vs := List.range (mV y.word)
      let f := feedOf s r y
      if isFollower x t then .next s
      else if mHold y.word then
        .next (mirror r t (s.modTile r t (fun z => { dropIssued i z with panes := z.panes.modify y.pane (fun q => { q with
          chain := q.chain.map (fun c => { c with vecs := vs.map (fun v => allPlanes f x ws y.word v (nth y.vecs v)) }) }) })))
      else if p.dec.mode ≠ .off ∧ vs.any (fun v => !y.stops.any (·.1 == v)) then .next s
      else
        let s := if p.dec.mode ≠ .off ∨ y.written then s
          else each vs (fun v => finishVec f r t x y ws v ws.pw [] (allPlanes f x ws y.word v (nth y.vecs v))) s
        let s := s.modTile r t (fun z => { z with issued := z.issued.modify i (fun q => { q with written := true }) })
        if itemsWait s r t y.pane then .next (mirror r t s) else .next (mirror r t (s.modTile r t (dropIssued i)))

/-! Pair comparison. -/

/-- PAIR_COMPARE (07 R195; 17 R461, R462): the comparisons of the pair's next unresolved sequence pass, once its MATV has
written everything, or one of them fails. -/
def execPairCompare (r pair : Nat) (pass : Bool) (s : State) : Res :=
  let q := s.pair r pair
  let sq := nextSeq q.done
  let lead := s.tile r (2 * pair)
  let runs := lead.issued.any (fun y => y.seq == sq && !y.written)
  if q.formed = false ∨ lead.paired = false ∨ sq = q.seq then .next s
  else
    let o := originOf (provTag s r pair sq)
    if pass then
      if runs then .next s
      else
        let s := s.modRow r (fun w => { w with pairs := w.pairs.modify pair (fun q => { q with done := sq }) })
        .next (sendVerdicts o sq .confirmed (applyVerdict o sq .confirmed s))
    else
      .next (haltTile r (2 * pair) .poisoned 0xFFFF 3 0 (pairFails r pair s))

/-! Timeouts (18 R487). -/

/-- AST_WAIT_TIMEOUT: the oldest unissued instruction of a pane, or of the tile for a tile-scope class, has waited for the
limit. -/
def execAstWaitTimeout (r t i : Nat) (s : State) : Res :=
  let x := s.tile r t
  let e := nth x.queue i
  if x.queue.length ≤ i ∨ x.halted ∨ isFollower x t ∨ oldest x.queue i = false ∨ s.tb < e.since + e.limit then .next s
  else .next (mirror r t (haltTile r t .astTimeout e.fword (astOp (opcOf e.word)) 0 s))

/-- AST_RUN_TIMEOUT: an issued instruction has outrun its limit and is abandoned; lines it wrote keep their contents. -/
def execAstRunTimeout (r t i : Nat) (s : State) : Res :=
  let x := s.tile r t
  match x.issued[i]? with
  | none => .next s
  | some y =>
    if isFollower x t ∨ s.tb < y.issuedAt + y.limit then .next s
    else .next (mirror r t (haltTile r t .astTimeout y.fword (astOp (opcOf y.word)) 0 (s.modTile r t (dropIssued i))))

end Sys2Proof.Machine
end

