-- ==== Sys2Proof/Machine/Input.lean ====
section
/-! DEFINITION. The 72 V input, the sideband pins, the slot and bay switches, J3 and the identity EEPROM (02; 15 R415,
R600). -/

namespace Sys2Proof.Machine

/-- What no reset of the module touches: the contacts, pins and cables, and the part of the flash tier that its cards
hold through any loss of power (02 R34, R45, R50; 13 R345). -/
def keepPins (p : Power) : Power :=
  { switches := p.switches.map (fun w => { present := w.present, latchOpen := w.latchOpen })
    j4Ok := p.j4Ok, j3Up := p.j3Up, j3Enabled := p.j3Enabled, presentN := p.presentN
    straps := p.straps, mbxModePin := p.mbxModePin, vspineLosses := p.vspineLosses, rails := p.rails }

def keepCards (f : Flash) : Flash :=
  { cards := f.cards.map (fun c => { c with st := .absent, throttled := false, noWrites := false })
    groups := f.groups, rows := f.rows, nextBatch := f.nextBatch }

/-- SPN_BOOT and SPN_STRAPS return to their reset values; the boot log and the carried defects outlive MRST_N (05 R120,
R141; 22 R574, R575). -/
def bootDown (b : Boot) : Boot :=
  { b with stage := 0, st := .running, warm := false, capsLoaded := false, sampled := false, unstable := false,
           dbDiscarded := 0, pendFinds := [] }

/-- Everything but the Moon-domain stores that outlive MRST_N is lost: the state of a module whose rails have gone
down, with the fuses, the EEPROM, the cards and the pins as they were (02 R31, R37; 15 R405; 22 R594). -/
def railsDown (s : State) : State :=
  { State.reset with
    power := { keepPins s.power with rails := s.power.rails.mapIdx (fun i x => if i = 10 then x else {}) }
    clk := { tb := s.clk.tb, tbRunning := s.clk.tbRunning, refLost := s.clk.refLost }
    fuse := s.fuse, eeprom := { s.eeprom with recordDue := none, arbLost := none }, flash := keepCards s.flash
    boot := bootDown s.boot
    dmap := s.dmap, err := s.err, out := s.out, fresh := s.fresh, pending := s.pending }

/-- What VSPINE holds is lost as well (05 R120, R141; 17 R471). -/
def vspineDown (s : State) : State :=
  let t := railsDown s
  { t with boot := {}, dmap := {}, err := {}, clk := { tbRunning := false },
           power := { t.power with rails := List.replicate 11 {} } }

/-- INPUT_TRIP (02 R29, R30, Table 2.6): the switch opens, PWR_OK falls, every rail but VSPINE and TB-W's goes down,
contents are lost, one report leaves and one event record is due. -/
def execInputTrip (cause vin iin : Nat) (s : State) : Res :=
  if s.power.trip.isSome ∨ s.power.dark = true then .next s
  else
    let i : TripInfo := { cause := cause, tb := s.tb, vin := vin, iin := iin }
    let s := errRecord { code := .inputTrip, unit := uDom 0, op := 0x10, platform := true, detail := cause } s
    let t := railsDown s
    .next { t with
      power := { t.power with inputSw := .opened, trip := some i, mrstLow := s.power.mrstLow,
                              rails := s.power.rails.mapIdx (fun k x => if 8 ≤ k then x else {}) }
      eeprom := { t.eeprom with recordDue := some i }
      boot := { t.boot with slotId := s.boot.slotId }
      attn := { t.attn with hiZ := true } }

/-- INPUT_RANGE_EXCURSION (02 R28): outside the operating range, within the trip levels; the module keeps running. -/
def execInputRangeExcursion (vin : Nat) (s : State) : Res :=
  if alive s = true ∧ s.power.inputSw = .closed ∧ ((620 ≤ vin ∧ vin < 660) ∨ (780 < vin ∧ vin ≤ 820)) then
    .next (errRecord { code := .inputRange, unit := uDom 0, op := 0x10, platform := true, leaf := .ev 2 0, detail := vin } s)
  else .next s

/-- HOLD_UP_END (02 R30, Table 2.6): 20 ms after the trip the module is dark. -/
def execHoldUpEnd (s : State) : Res :=
  match s.power.trip with
  | some i =>
    if i.tb + 1000000 ≤ s.tb then
      let t := vspineDown s
      .next { t with power := { t.power with inputSw := .opened, dark := true, vspineLosses := 0 }
                     attn := { t.attn with hiZ := true } }
    else .next s
  | none => .next s

/-- Writes the due event record, then the header (02 R58 to R60). -/
def writeEvent (i : TripInfo) (s : State) : State :=
  s.modEeprom (fun e => { e with
    records := mset e.records e.hdrIndex { info := i, slot := s.boot.slotId, crcOk := true }
    hdrIndex := (e.hdrIndex + 1) % 127, hdrTotal := (e.hdrTotal + 1) % 2 ^ 32, recordDue := none, arbLost := none })

/-- PLATFORM_EVENT_RECORD_WRITE (02 R58 to R61): the record of a trip, unless the bus arbitration is lost. -/
def execPlatformEventRecordWrite (arbLost : Bool) (s : State) : Res :=
  match s.eeprom.recordDue with
  | none => .next s
  | some i =>
    if s.eeprom.arbLost.isSome then .next s
    else if arbLost then .next (s.modEeprom (fun e => { e with arbLost := some (0, s.tb) }))
    else .next (writeEvent i s)

/-- EEPROM_ARBITRATION_RETRY (02 R61): 1 ms after a loss, at most five retries; an abandoned event write leaves no
record, an abandoned BU0 read counts as a wrong MAGIC. -/
def execEepromArbitrationRetry (lost : Bool) (s : State) : Res :=
  match s.eeprom.arbLost with
  | none => .next s
  | some (k, t) =>
    if s.tb < t + 50000 then .next s
    else if lost then
      if k + 1 < 5 then .next (s.modEeprom (fun e => { e with arbLost := some (k + 1, s.tb) }))
      else .next (s.modEeprom (fun e => { e with
        arbLost := none, recordDue := none, readAbandoned := e.readAbandoned || e.recordDue.isNone }))
    else match s.eeprom.recordDue with
      | some i => .next (writeEvent i s)
      | none => .next (s.modEeprom (fun e => { e with arbLost := none }))

/-- INPUT_SWITCH_CLOSE (02 R27, R32): the input has stayed in the start window for 100 ms; soft start begins. -/
def execInputSwitchClose (s : State) : Res :=
  if s.power.dark = true ∧ s.power.inputSw = .opened then .next (s.modPower (fun p => { p with inputSw := .softStart }))
  else .next s

/-- SOFT_START_COMPLETE (02 R27, R32; 03 R75): AUXC brings up VSPINE, and a cold bring-up begins at BU0. -/
def execSoftStartComplete (s : State) : Res :=
  if s.power.inputSw = .softStart then
    .next ((s.modPower (fun p => { p with
        inputSw := .closed, dark := false, trip := none
        rails := p.rails.modify 10 (fun x => { x with inReg := true }) })).modClk (fun c => { c with tb := 0, tbRunning := true }))
  else .next s

/-- MRST_N_ASSERT (02 R33, R36, R37; 03 R77): a low of 1 µs or more resets the module, one below 0.5 µs never does, and
between them either outcome occurs (a free value). -/
def execMrstNAssert (ns : Nat) (s : State) : Res :=
  if alive s = false then .next s
  else
    let d := s.draw
    let s := if 500 ≤ ns ∧ ns < 1000 then d.2 else s
    if 1000 ≤ ns ∨ (500 ≤ ns ∧ d.1 % 2 = 1) then
      let t := railsDown s
      .next { t with power := { t.power with mrstLow := true, inputSw := s.power.inputSw }
                     attn := { t.attn with hiZ := true } }
    else .next s

/-- MRST_N_RELEASE (02 R38; 22 R596): a cold bring-up is due 1 ms later. -/
def execMrstNRelease (s : State) : Res :=
  if s.power.mrstLow = true ∧ s.power.trip = none then
    .next ((s.modPower (fun p => { p with mrstLow := false, bringUpAt := some (s.tb + 50000) })).modAttn
      (fun a => { a with hiZ := false }))
  else .next s

/-- COLD_BRING_UP_START (02 R38; 04 R86; 22 R574, R596): BU0 begins and the timebase restarts at 0. -/
def execColdBringUpStart (s : State) : Res :=
  match s.power.bringUpAt with
  | some t =>
    if t ≤ s.tb ∧ s.power.mrstLow = false ∧ s.power.trip = none then
      .next (((s.modPower (fun p => { p with bringUpAt := none })).modClk (fun c => { c with tb := 0, refLost := false })).modBoot
        (fun b => { b with stage := 0, st := .running, warm := false, stageTb := 0 }))
    else .next s
  | none => .next s

/-- SWITCH_SOFT_START_DONE (02 R44, R46; 12 R311, R332; 13 R357): both outputs are in regulation in time. After a
channel-return or card-return the SPD or card is then read and trained: the unit enters TESTING, or FAILED with its
switch off. -/
def execSwitchSoftStartDone (i : Nat) (spdOk trainOk : Bool) (s : State) : Res :=
  if (s.sw i).st = .starting ∧ s.tb ≤ (s.sw i).startedAt + (if i < 16 then 250000 else 500000) then
    let s := (s.modSw i (fun w => { w with st := .on })).modDom (21 + i) (fun d => { d with st := .on })
    if s.boot.st ≠ .ready then .next s
    else if i < 16 then
      if spdOk && trainOk then .next (mapUnits [8 + i] (s.modMemUnit (8 + i) (fun u => { u with st := .testing })))
      else .next (memUnitFail (8 + i) (if spdOk then 1 else 3) (switchOff i s))
    else if spdOk && trainOk then .next (cardSet (i - 16) .testing s)
    else .next (cardFail (i - 16) (if spdOk then 3 else 1) (switchOff i s))
  else .next s

/-- SWITCH_SOFT_START_TIMEOUT (02 R43, R44): regulation was not reached in time. -/
def execSwitchSoftStartTimeout (i : Nat) (s : State) : Res :=
  if (s.sw i).st = .starting ∧ (s.sw i).startedAt + (if i < 16 then 250000 else 500000) < s.tb then
    let s := switchFault i s
    if s.boot.st ≠ .ready then .next s
    else if i < 16 then .next (memUnitFail (8 + i) 5 s) else .next (cardFail (i - 16) 5 s)
  else .next s

/-- SWITCH_CURRENT_LIMIT_LATCH (02 R43, R44; 12 R331; 13 R355): above the limit for 100 µs; the channel or card fails. -/
def execSwitchCurrentLimitLatch (i : Nat) (s : State) : Res :=
  if (s.sw i).st = .starting ∨ (s.sw i).st = .on then
    let s := switchFault i s
    if i < 16 then .next (memUnitFail (8 + i) 5 s) else .next (cardFail (i - 16) 5 s)
  else .next s

/-- DIMM_REMOVED_WHILE_ON (02 R48; 12 R331). -/
def execDimmRemovedWhileOn (d : Nat) (s : State) : Res :=
  if d < 16 ∧ (s.sw d).st = .on then
    let s := s.modSw d (fun w => { w with present := false })
    .next (memUnitFail (8 + d) 5 (switchFault d s))
  else .next s

/-- BAY_LATCH_OPEN (02 R49; 13 R344, R358; 22 R583): the card-removal cause, no new program or erase, batches that write
to the card rolled back, and the switch opens 100 ms later; closing the latch again does not cancel it. -/
def execBayLatchOpen (c : Nat) (s : State) : Res :=
  let s := s.modSw (16 + c) (fun w => { w with latchOpen := true })
  if (s.sw (16 + c)).st = .on ∧ (s.sw (16 + c)).openAt = none then
    let s := (s.modSw (16 + c) (fun w => { w with openAt := some (s.tb + 5000000) })).modCard c (fun x => { x with noWrites := true })
    let s := failBatches (cardTable s c) s
    .next (errRecord { code := .unitRetired, unit := uCard c, op := 0x0E, platform := true, leaf := .ev 6 3 } s)
  else .next s

/-- BAY_SWITCH_DELAYED_OPEN (02 R49; 13 R355, R358). -/
def execBaySwitchDelayedOpen (c : Nat) (s : State) : Res :=
  match (s.sw (16 + c)).openAt with
  | some t => if t ≤ s.tb then .next (cardFail c 0 (switchOff (16 + c) s)) else .next s
  | none => .next s

/-- PRESENT_N_CHANGE (02 R50, R51; 14 R396): a contact that rises takes its port DOWN_RUNTIME. -/
def execPresentNChange (p : Nat) (high : Bool) (s : State) : Res :=
  let s := s.modPower (fun w => { w with presentN := w.presentN.set p high })
  if high ∧ (portLive (s.port p).st = true ∨ (s.port p).st = .retraining) then .next (portLoss p s) else .next s

/-- MGMT_PORT_LINK_CHANGE (02 R53): the link comes up only as 1000BASE-T full duplex. -/
def execMgmtPortLinkChange (up fullDuplex1000 : Bool) (s : State) : Res :=
  .next (s.modPower (fun p => { p with j3Up := up && fullDuplex1000 }))

/-- J3_SEND (15 R407 to R409, R415): the message is written for the station and answered with RSP to its MAC address. -/
def execJ3Send (mac ch : Nat) (msg : List Byte) (s : State) : Res :=
  if j3Works s = true ∧ alive s = true then
    let r := mbxWrite ch msg (0x3000 + mac % 0x1000) s
    .next (r.2.send (.j3 2 ch r.1.val 0 (if r.1 = .ok then (r.2.chan ch).mseq else 0) [] mac))
  else .next s

/-- The checks of an MBX_DONE or a J3 DONE, in order (15 R600); none means that it takes the message. -/
def doneCheck (s : State) (ch mseq : Nat) (path : Rcv) (auth : Bool) : Option Code :=
  let c := s.chan ch
  if nChans s ≤ ch ∨ c.enabled = false then some .mbxNoChannel
  else if ch < secureEnd s ∧ auth = false then some .mbxSecure
  else if c.rcv ≠ path then some .senderRefused
  else if c.full = false ∨ mseq ≠ c.mseq then some .ok
  else none

/-- A DONE: its code, and the state with the message taken if every check passes (15 R414, R600). -/
def doneTake (ch mseq code : Nat) (path : Rcv) (auth : Bool) (s : State) : Code × State :=
  match doneCheck s ch mseq path auth with
  | some c => (c, s)
  | none => (.ok, if s.boot.mbxMode then s.setChan ch { s.chan ch with full := false } else mbxAck ch mseq code s)

/-- J3_DONE (15 R415, R600). -/
def execJ3Done (mac ch mseq code : Nat) (s : State) : Res :=
  if j3Works s = true ∧ alive s = true then
    let r := doneTake ch mseq code .mgmtNet false s
    .next (r.2.send (.j3 2 ch r.1.val 0 mseq [] mac))
  else .next s

end Sys2Proof.Machine
end

