-- ==== Sys2Proof/Machine/ThermOps.lean ====
section
/-! DEFINITION. Temperature sensors: filters and thresholds (19 R520, R521, Table 19.3; 18 R506). -/

namespace Sys2Proof.Machine

/-- Sensor numbers: 4 × row + i, 48 the spine, 49 + 2 × bridge + i, 53 + stack, 61 + channel, 77 + card. -/
def senRow (r i : Nat) : Nat := 4 * r + i
def senSpine : Nat := 48
def senBridge (b i : Nat) : Nat := 49 + 2 * b + i
def senHbm (u : Nat) : Nat := 53 + u
def senDdr (d : Nat) : Nat := 61 + d
def senCard (c : Nat) : Nat := 77 + c
def nSensors : Nat := 85

/-- The unit of a sensor. -/
def senUnit (k : Nat) : Nat :=
  if k < 48 then uRow (k / 4) else if k = 48 then uSpine 0 else if k < 53 then uBridge ((k - 49) / 2)
  else if k < 61 then uMem (k - 53) else if k < 77 then uMem (8 + (k - 61)) else uCard (k - 77)

/-- Readings in the filter, and in that of the critical threshold (19, Table 19.3: 1 µs, 1 ms and 100 ms a reading). -/
def filtLen (k : Nat) : Nat := if k = 48 then 100 else if k < 53 then 1000 else 4
def critLen (k : Nat) : Nat := if k < 53 then 100 else 4

/-- Throttle, release and critical thresholds, 0.25 °C (19, Table 19.3). -/
def thrAt (k : Nat) : Int := if k < 53 then 400 else if k < 61 then 380 else if k < 77 then 360 else 280
def relAt (k : Nat) : Int := if k < 53 then 380 else if k < 61 then 360 else if k < 77 then 340 else 260
def critAt (k : Nat) : Int := if k < 53 then 440 else if k < 61 then 420 else if k < 77 then 400 else 320

/-- PRESUMED (log 70): above 85 °C a memory refreshes at twice the rate (12, Tables 12.2 and 12.3 name the standards only). -/
def fastRefreshAt : Int := 340

/-- The readings of a sensor that a filter of n holds, newest first. -/
def readings (s : State) (k n : Nat) : List Int := ((mget s.therm.samples k).getD []).take n

/-- The mean of readings is at or above, or below, a threshold; no reading is neither. -/
def atLeast (l : List Int) (t : Int) : Bool := !l.isEmpty && decide (t * (l.length : Int) ≤ l.sum)
def below (l : List Int) (t : Int) : Bool := decide (l.sum < t * (l.length : Int)) || l.isEmpty
def meanOf (l : List Int) : Int := l.sum / (max l.length 1 : Nat)

/-- Sensors that bear on the thermal ceiling: rows, bridges and stacks (19 R521). -/
def ceilSensors : List Nat := (List.range 61).filter (· != 48)
def isHot (s : State) (k : Nat) : Bool := atLeast (readings s k (filtLen k)) (thrAt k)
def anyHot (s : State) : Bool := ceilSensors.any (isHot s)
def allCool (s : State) : Bool := ceilSensors.all (fun k => below (readings s k (filtLen k)) (relAt k))
/-- The unit whose value is at its threshold. -/
def hotUnit (s : State) : Nat := senUnit ((ceilSensors.find? (isHot s)).getD 48)

/-- The sensor of each row that is being calibrated: 20 ms each, in order (18 R506). -/
def calSensor (s : State) : Option Nat := s.clk.recalSensors.map (fun t => (s.tb - t) / 1000000)

/-- The reading a filter takes: the mean of the row's other three sensors while this one is calibrated (18 R506). -/
def taken (s : State) (k : Nat) (v : Int) : Int :=
  if k < 48 ∧ calSensor s = some (k % 4) then
    meanOf (((List.range 4).filter (· != k % 4)).filterMap (fun i => (readings s (k / 4 * 4 + i) 1).head?))
  else v

/-- A reading enters the filter of its sensor, and the filtered value its unit (19 R520). -/
def senseIn (k : Nat) (v : Int) (s : State) : State :=
  let s := s.modTherm (fun t => { t with samples := mset t.samples k ((taken s k v :: (mget t.samples k).getD []).take (filtLen k)) })
  let m := meanOf (readings s k (filtLen k))
  if k < 48 then s.modTherm (fun t => { t with rows := t.rows.modify (k / 4) (fun l => l.set (k % 4) m) })
  else if k = 48 then s.modTherm (fun t => { t with spine := m })
  else if k < 53 then s.modTherm (fun t => { t with bridges := t.bridges.modify ((k - 49) / 2) (fun l => l.set ((k - 49) % 2) m) })
  else if k < 61 then s.modMemUnit (k - 53) (fun x => { x with temp := m, refreshFast := decide (fastRefreshAt ≤ m) })
  else if k < 77 then s.modMemUnit (8 + (k - 61)) (fun x => { x with temp := m, refreshFast := decide (fastRefreshAt ≤ m) })
  else s.modCard (k - 77) (fun x => { x with temp := m })

end Sys2Proof.Machine
end

