-- ==== Sys2Proof/Machine/Power.lean ====
section
/-! DEFINITION. Row converters, header staging, shared rails and the measurement window (03; 04 R89, R92). -/

namespace Sys2Proof.Machine

/-- A record of a row power event (22, Table 22.3). -/
def rowRecord (r : Nat) (code : Code) (detail action : Nat) (s : State) : State :=
  errRecord { code := code, unit := uDom (5 + r), op := 0x10, platform := true, leaf := .row r, detail := detail, action := action } s

/-- PHASE_LOSS (03 R64, Table 3.2): the phase leaves service; with five or four phases the row is CAPPED, with three or
fewer it is DARK without an automatic retry. -/
def execPhaseLoss (r p : Nat) (s : State) : Res :=
  if r < 12 ∧ p < 7 ∧ (s.conv r).phFail.getLsbD p = false then
    let ph := (s.conv r).phFail ||| BitVec.ofNat 7 (2 ^ p)
    let s := s.modConv r (fun c => { c with phFail := ph, ratingMa := ratingOf ph })
    if ratingOf ph = 0 then
      .next (rowRecord r .phaseLost p 5 (pwrOkUpdate (rowPowerFail r .rowDark (completeWait wRearm r .rowDark [] [] <| darken r .dark (s.modConv r (fun c => { c with retryAt := none }))))))
    else
      let st := (s.conv r).st
      .next (rowRecord r .phaseLost p 0 (if st = .on ∨ st = .capped then setConv r (convOnSt ph) (s.conv r).on s else s))
  else .next s

/-- ROW_SHORT (03 R81 to R84): RETRY_WAIT, or DARK if the row's automatic retry is spent. -/
def execRowShort (r : Nat) (s : State) : Res :=
  if r < 12 ∧ (s.conv r).on = true then
    let spent := (s.conv r).retryUsed
    let s := darken r (if spent then .dark else .retryWait) s
    let s := s.modConv r (fun c => { c with retryAt := if spent then none else some (s.tb + 50000000), stagedAt := none, halfThr := false })
    let s := if spent then completeWait wRearm r .rowDark [] [] s else s
    .next (rowRecord r .rowShort 0 (if spent then 5 else 0) (pwrOkUpdate (rowPowerFail r .rowDark s)))
  else .next s

/-- The start of a retry: converter at step 0 with half its threshold, row in its half's queue (03 R82, R83). -/
def retryBegin (r : Nat) (s : State) : State :=
  let s := setConv r .retryWait true (s.modConv r (fun c => { c with retryAt := none, retryUsed := true, halfThr := true, stagedAt := none }))
  joinQueue r (s.modRow r (fun w => { w with st := .waking, fromSleep := false }))

/-- ROW_RETRY_BEGIN (03 R81, R82): one second after the short, once the converter has its supply. -/
def execRowRetryBegin (r : Nat) (s : State) : Res :=
  match (s.conv r).retryAt with
  | some t => if (s.conv r).st = .retryWait ∧ t ≤ s.tb ∧ (s.rail .vbus12).inReg = true then .next (retryBegin r s) else .next s
  | none => .next s

/-- ROW_RETRY_SUCCESS (03 R82): staged and 100 ms at step 0 without a trip; the thresholds return, the row leaves
RETRY_WAIT and its targeted test is due. -/
def execRowRetrySuccess (r : Nat) (s : State) : Res :=
  match (s.conv r).stagedAt with
  | some t =>
    if (s.conv r).st = .retryWait ∧ t + 5000000 ≤ s.tb ∧ ratingOf (s.conv r).phFail ≠ 0 then
      let s := setConv r (convOnSt (s.conv r).phFail) true (s.modConv r (fun c => { c with halfThr := false, stagedAt := none }))
      let s := s.modRow r (fun w => { w with st := .active, idleSince := s.tb })
      let s := s.modGw (fun g => { g with tests := g.tests ++ [{ unit := uRow r, since := s.tb }] })
      .next (completeWait wRearm r .ok [] [] (pwrOkUpdate (classUpdate r s)))
    else .next s
  | none => .next s

/-- The head row of a half starts staging; a retry stages at half rate whichever rule starts it (03 R69, R70, R72, R82). -/
def startStaging (h : Nat) (half : Bool) (s : State) : State :=
  match (s.half h).queue with
  | [] => s
  | r :: rest =>
    let hr := half || (s.conv r).st == .retryWait
    (s.modHalf h (fun x => { x with
      queue := rest, headSince := s.tb
      staging := some { row := r, fromSleep := (s.row r).fromSleep, half := hr, next := 0, startTb := s.tb } })).modConv r
        (fun c => { c with halfRate := hr })

/-- STAGING_START (03 R68, R69, Table 3.9): VNOC up and I_HALF below I_HALF_LIM − 48 A at a refresh. -/
def execStagingStart (h iHalf : Nat) (s : State) : Res :=
  let s := s.modHalf h (fun x => { x with iHalf := iHalf })
  if (s.half h).staging = none ∧ (s.half h).queue ≠ [] ∧ nocUp s h = true ∧ iHalf + 48000 < 1000 * (s.half h).iLim then
    .next (startStaging h false s)
  else .next s

/-- STAGING_HALF_RATE_START (03 R70, Table 3.9): VNOC up and 2 ms at the head of the queue without the condition. -/
def execStagingHalfRateStart (h iHalf : Nat) (s : State) : Res :=
  let s := s.modHalf h (fun x => { x with iHalf := iHalf })
  if (s.half h).staging = none ∧ (s.half h).queue ≠ [] ∧ nocUp s h = true ∧ (s.half h).headSince + 100000 ≤ s.tb then
    .next (startStaging h true s)
  else .next s

/-- Banks of a header stage (03, Table 3.3). -/
def stageBanks (n : Nat) : List Nat :=
  if n < 3 then [] else if n = 3 then [0, 1, 2, 3] else [3 * n - 8, 3 * n - 7, 3 * n - 6]

/-- When a stage closes, in ticks after the start of staging (03, Table 3.4): 20 µs a stage, twice that at half rate. -/
def stageTick (g : Staging) : Nat := 1000 * g.next * (if g.half then 2 else 1)

/-- HEADER_STAGE_CLOSE (03 R66, R67, Table 3.4; 11 R289): the next stage in order; in a wake from SLEEP stage 1 and the
main segment of stage 2 close together and stages 3 to 15 are closed already; the banks of a bank stage begin scrub. -/
def execHeaderStageClose (h : Nat) (s : State) : Res :=
  match (s.half h).staging with
  | none => .next s
  | some g =>
    if stageTick g ≤ s.tb - g.startTb ∧ g.next < (if g.fromSleep then 2 else 16) then
      let s := s.modRow g.row (fun w => { w with banks := w.banks.mapIdx (fun i b =>
        if (stageBanks g.next).contains i && b.st != .retired then { b with st := .scrub } else b) })
      let done := !g.fromSleep && g.next == 15
      let s := s.modHalf h (fun x => { x with
        staging := if done then none else some { g with next := g.next + 1 }
        headSince := if done then s.tb else x.headSince })
      .next (if done then
          if (s.conv g.row).st = .retryWait then s.modConv g.row (fun c => { c with stagedAt := some s.tb }) else rowPowerCheck g.row s
        else s)
    else .next s

/-- ROW_USABLE (03, Table 3.4; 04 R103, R107, R601): the oscillator runs and logic reset is released; the transactions
held at the router are delivered. A row in its retry stays WAKING until the retry succeeds. -/
def execRowUsable (r : Nat) (s : State) : Res :=
  match (s.half (halfOf r)).staging with
  | none => .next s
  | some g =>
    let due := (if g.fromSleep then 2000 else 3000) * (if g.half then 2 else 1)
    if g.row = r ∧ (s.row r).st = .waking ∧ (if g.fromSleep then 2 else 3) ≤ g.next ∧ g.startTb + due ≤ s.tb then
      let s := if g.fromSleep then s.modHalf (halfOf r) (fun x => { x with staging := none, headSince := s.tb }) else s
      if (s.conv r).st = .retryWait then .next s
      else
        .next (startTimers (rowPowerCheck r (s.modRow r (fun w => { w with st := .active, idleSince := s.tb, fromSleep := false }))))
    else .next s

/-- Domains that are fitted on a variant: the rest read ABSENT (03 R79). -/
def domFitted (s : State) (n : Nat) : Bool :=
  if n < 21 then true else if n < 37 then decide (n - 21 < nDdr s) else hasFlash s

/-- The thermal ceiling at the end of a window (19 R521): it falls by one step where a value was at its threshold, and the
start of the throttle is recorded. -/
def thermWindow (s : State) : State :=
  let s := if s.therm.hot then
      let t := s.modCap (fun c => { c with thermCeil := c.thermCeil - 1 })
      if s.cap.thermCeil = 7 then
        errRecord { code := .thermalThrottle, unit := hotUnit s, op := 0x11, platform := true, leaf := .ev 4 0 } t
      else attnSettle t
    else s
  s.modTherm (fun t => { t with hot := anyHot s })

/-- POWER_WINDOW_END (03 R78; 19 R513, R518, R521, R524 to R527): the PWR_DOM entries are replaced together, the phase
table and the energy history follow, the thermal ceiling falls while a value is at its threshold, and the slow ceiling
is computed. -/
def execPowerWindowEnd (w : PowerWindow) (s : State) : Res :=
  if alive s = true ∧ s.tb % 50000 = 0 ∧ 0 < s.tb then
    let s := s.modPower (fun p => { p with dom := p.dom.mapIdx (fun n d =>
      let d := { d with seq := (d.seq + 1) % 256 }
      if domFitted s n then { d with avg := sat 16 (nth w.avg n), peak := sat 16 (nth w.peak n), volt := sat 16 (nth w.volt n) }
      else { d with st := .absent }) })
    let s := s.modCap (fun c => { c with rowCur := (List.range 12).map (fun r => nth w.avg (5 + r)) })
    let s := if s.tb < s.cap.lastStepTb + 50000 ∧ s.cap.lastStepTb ≠ 0 then s
      else s.modCap (fun c => (List.range 12).foldl (fun c r => learnRow w s.clk.cur r c) c)
    let s := recordEnergy w.energy s
    let s := thermWindow s
    let s := ceilingEval s
    .next (s.modCap (fun c => { c with
      win := lastN 100 (c.win ++ [(domMw s 0, c.limit == 1)]) }))
  else .next s

/-- A record of a shared rail event (03 R85; 22, Table 22.2 POWER.RAIL). -/
def railRecord (n : Nat) (s : State) : State :=
  errRecord { code := .railLost, unit := uDom n, op := 0x10, platform := true, leaf := .ev 2 2, detail := n } s

/-- The domain of a shared rail (03, Table 3.7). -/
def railDom : SharedRail → Nat
  | .bc0 | .bc1 | .vbus12 => 1 | .vspine => 2 | .vnocN => 3 | .vnocS => 4 | .vhbmN => 17 | .vhbmS => 18
  | .vbrW => 19 | .v3p3 => 19 | .vbrE => 20

/-- A row loses its converter through its supply (03, Table 3.9). -/
def rowSupplyLost (r : Nat) (s : State) : State :=
  setConv r (if rowIsDark s r then (s.conv r).st else .off) false (offNow r s)

/-- The stacks of an edge leave service with their contents (03, Table 3.9; 12 R331). -/
def edgeLost (e : Nat) (s : State) : State := each ((List.range 4).map (· + 4 * e)) (fun u => stackLost u 4) s

/-- The rows of a half go to OFF and the centre seam parks; a retry that has begun stages anew (03, Table 3.9; 04 R108). -/
def nocLost (h : Nat) (s : State) : State :=
  (each ((List.range 6).map (· + 6 * h)) (fun r s => (offNow r s).modConv r (fun c => { c with stagedAt := none })) s).modHalf h (fun x => { x with parked := true, unparkAt := none, queue := [], staging := none })

/-- What the loss of a shared rail does (03, Table 3.9). -/
def railEffect (x : SharedRail) (s : State) : State :=
  match x with
  | .bc0 | .bc1 => s.modPower (fun p => { p with inputCap850 := true })
  | .vnocN => nocLost 0 s
  | .vnocS => nocLost 1 s
  | .vhbmN => edgeLost 0 s
  | .vhbmS => edgeLost 1 s
  | .vbrE => bridgeLost 1 s
  | .vbrW | .v3p3 => bridgeLost 0 s
  | .vspine => s
  | .vbus12 =>
    let s := each (List.range 12) rowSupplyLost s
    let s := bridgeLost 1 (edgeLost 1 (edgeLost 0 (nocLost 1 (nocLost 0 s))))
    let s := each ((List.range 24).filter (fun i => (s.sw i).st == .on || (s.sw i).st == .starting)) (fun i s =>
      let s := switchOff i s
      if i < 16 then memUnitFail (8 + i) 5 s else cardFail (i - 16) 5 s) s
    [SharedRail.vnocN, .vnocS, .vhbmN, .vhbmS, .vbrE].foldl (fun s y => s.modRail y (fun q => { q with inReg := false })) s

/-- SHARED_RAIL_LOST (03 R85, Table 3.9; 02 R39). A bus converter has no retry; the others have one, after 1 s. -/
def execSharedRailLost (x : SharedRail) (s : State) : Res :=
  if (s.rail x).inReg = true ∧ x ≠ .vspine then
    let retry := x ≠ .bc0 ∧ x ≠ .bc1 ∧ (s.rail x).retryUsed = false
    let s := s.modRail x (fun q => { q with inReg := false, retryAt := if retry then some (s.tb + 50000000) else none })
    .next (railRecord (railDom x) (pwrOkUpdate (railEffect x s)))
  else .next s

/-- A row whose automatic retry has begun (03 R82). -/
def retryBegun (s : State) (r : Nat) : Bool := (s.conv r).st == .retryWait && (s.conv r).retryAt.isNone

/-- What the return of a shared rail brings back (03, Table 3.9; 04 R108; 18 R510). -/
def railReturn (x : SharedRail) (s : State) : State :=
  let rows (h : Nat) (s : State) : State := each ((List.range 6).map (· + 6 * h)) (fun r s =>
    if (rowIsDark s r && !retryBegun s r) || rowIsOut s r then s else joinQueue r (s.modRow r (fun w => { w with st := .waking, fromSleep := false }))) s
  match x with
  | .vnocN => rows 0 (s.modHalf 0 (fun h => { h with parked := false, unparkAt := none }))
  | .vnocS => rows 1 (s.modHalf 1 (fun h => { h with parked := false, unparkAt := none }))
  | .vbus12 =>
    let s := [SharedRail.vnocN, .vnocS, .vhbmN, .vhbmS, .vbrE].foldl (fun s y => s.modRail y (fun q => { q with inReg := true })) s
    let s := (s.modHalf 0 (fun h => { h with parked := false, unparkAt := none })).modHalf 1 (fun h => { h with parked := false, unparkAt := none })
    let s := each (List.range 12) (fun r s => if retryBegun s r then setConv r .retryWait true s else if rowIsDark s r then s else setConv r (convOnSt (s.conv r).phFail) true s) s
    let s := rows 1 (rows 0 s)
    each ((List.range 24).filter (fun i => (s.sw i).st == .off && (s.sw i).present)) switchStart s
  | _ => s

/-- SHARED_RAIL_RETRY (03 R85): the single retry; a second trip ends further retries. -/
def execSharedRailRetry (x : SharedRail) (ok : Bool) (s : State) : Res :=
  match (s.rail x).retryAt with
  | none => .next s
  | some t =>
    if t ≤ s.tb then
      let s := s.modRail x (fun q => { q with retryUsed := true, retryAt := none, inReg := ok })
      if ok then .next (pwrOkUpdate (railReturn x s)) else .next (railRecord (railDom x) s)
    else .next s

/-- VSPINE_LOST (03 R85; 02 R39; 15 R405): every other rail goes down and every Moon-domain store is lost; AUXC restarts
once after 1 s, and on a second loss the module stays dark until the input is removed and restored. -/
def execVspineLost (s : State) : Res :=
  if (s.rail .vspine).inReg = true ∧ s.power.trip = none then
    let n := s.power.vspineLosses
    let t := railsDown s
    let rails := List.replicate 11 ({} : Rail)
    if n = 0 then
      -- AUXC restarts: VSPINE returns and a cold bring-up from BU0 is due, whose report records the loss
      .next { t with
        power := { t.power with inputSw := s.power.inputSw, vspineLosses := 1, bringUpAt := some 50000000
                                rails := rails.set 10 { inReg := true } }
        clk := {}, boot := { vspineLost := true }, dmap := {}, err := {} }
    else
      .next { t with
        power := { t.power with inputSw := .opened, dark := true, vspineLosses := n + 1, rails := rails }
        clk := { tbRunning := false }, boot := {}, dmap := {}, err := {}, attn := { t.attn with hiZ := true } }
  else .next s

/-- REF_LOSS (04 R89): the timebase continues from the internal oscillator until the next cold bring-up. -/
def execRefLoss (s : State) : Res :=
  if alive s = true ∧ s.clk.refLost = false then
    .next (errRecord { code := .refLoss, unit := uSpine 0, op := 0x12, platform := true, leaf := .ev 3 0 }
      (s.modClk (fun c => { c with refLost := true })))
  else .next s

/-- CLOCK_HOLD (04 R92, R109): a hold counts; one longer than 50 tb raises the clock-hold cause with its record. -/
def execClockHold (r ticks volt : Nat) (s : State) : Res :=
  if r < 12 ∧ ((s.row r).st = .active ∨ (s.row r).st = .idle) then
    let s := s.modClkRow r (fun c => { c with chold := sat 8 (c.chold + 1) })
    if 50 < ticks then
      .next (errRecord { code := .clockHold, unit := uRow r, op := 0x12, platform := true, leaf := .ev 3 1,
                         detail := ticks + 2 ^ 32 * volt } s)
    else .next s
  else .next s

end Sys2Proof.Machine
end

