-- ==== Sys2Proof/Machine/Clocks.lean ====
section
/-! DEFINITION. V/F step changes, row states, halves and the centre seam (04). -/

namespace Sys2Proof.Machine

/-- A write of CLK_STEP NEXT by the controller: ignored while PEND is 1 (04 R101). -/
def writeNext (n : Nat) (s : State) : State :=
  if s.clk.pend then s else s.modClk (fun c => { c with next := n % 8 })

/-- An arming write of CLK_STEP_AT (04 R98): refused with BUSY while PEND is 1, with LATE inside the lead time. -/
def armWrite (tick : Nat) (s : State) : State :=
  if s.clk.pend then s.modClk (fun c => { c with busy := true })
  else if tick < s.tb + (if s.clk.cur < s.clk.next then 2500 else 50) then s.modClk (fun c => { c with late := true })
  else s.modClk (fun c => { c with stepAt := tick, pend := true, armed := true })

/-- CLK_STEP_AT_WRITE (04 R98, R102; 19 R511): the controller writes NEXT and then CLK_STEP_AT, at 64 bits (part 0), or
its low word (1), which is held, or its high word (2), which arms. -/
def execClkStepAtWrite (next part tick : Nat) (s : State) : Res :=
  if alive s = false then .next s
  else
    let s := writeNext next s
    if part = 1 then .next (s.modClk (fun c => { c with atLow := tick % 2 ^ 32 }))
    else if part = 2 then .next (armWrite (s.clk.atLow + 2 ^ 32 * (tick % 2 ^ 32)) s)
    else .next (armWrite tick s)

/-- A drop that waited for PEND is armed when PEND clears (19 R514). -/
def dropIfDue (s : State) : State :=
  if s.cap.dropDue then
    let s := s.modCap (fun c => { c with dropDue := false })
    armCeiling (min s.cap.ceiling (s.clk.cur - 1)) s
  else s

/-- STEP_WITHDRAW (04 R98): clears PEND at once; without effect when no change is armed, or after the tick. -/
def execStepWithdraw (s : State) : Res :=
  if s.clk.armed = true ∧ s.tb < s.clk.stepAt then .next (dropIfDue (withdrawStep s)) else .next s

/-- STEP_CHANGE_TICK (04 R99): the step in force becomes NEXT; PEND stays until the converters have settled. -/
def execStepChangeTick (s : State) : Res :=
  if s.clk.armed = true ∧ s.clk.stepAt ≤ s.tb then
    .next ((s.modClk (fun c => { c with cur := c.next, armed := false })).modCap (fun c => { c with lastStepTb := s.tb }))
  else .next s

/-- STEP_SETTLED (04 R99): PEND clears. -/
def execStepSettled (s : State) : Res :=
  if s.clk.pend = true ∧ s.clk.armed = false then .next (dropIfDue (s.modClk (fun c => { c with pend := false })))
  else .next s

/-- A core that keeps no row awake: waiting on a ring or a timebase event, HALTED or RESET (04 R104). -/
def coreQuiet (c : Core) : Bool :=
  match c.st with
  | .running => false
  | .waiting => c.wait.any (·.isTb)
  | .halted | .reset => true

/-- A row is idle (04 R104). -/
def rowIdle (w : Row) : Bool :=
  w.tiles.all (fun t => t.queue.isEmpty && t.issued.isEmpty) && w.cores.all coreQuiet
    && w.dma.all (fun d => d.queue.isEmpty && !d.active) && w.cores.all (·.mem.isNone)

/-- IDLE_ENTRY (04 R103): 32 idle cycles; the clock is gated. -/
def execIdleEntry (r : Nat) (s : State) : Res :=
  if r < 12 ∧ (s.row r).st = .active ∧ rowIdle (s.row r) = true then
    .next (s.modRow r (fun w => { w with st := .idle, idleSince := s.tb, napNow := w.tNap, sleepNow := w.tSleep }))
  else .next s

/-- NAP_ENTRY (04 R104): T_NAP of continuous idling; 0 disables. -/
def execNapEntry (r : Nat) (s : State) : Res :=
  let w := s.row r
  if r < 12 ∧ w.st = .idle ∧ rowIdle w = true ∧ w.napNow ≠ 0 ∧ w.idleSince + w.napNow ≤ s.tb then
    .next (s.modRow r (fun w => { w with st := .nap }))
  else .next s

/-- SLEEP_ENTRY (04 R104, R601): T_SLEEP of continuous idling, or the first idle moment after ROW_POWER, which takes the
row to OFF instead where OFF was asked for. -/
def execSleepEntry (r : Nat) (s : State) : Res :=
  let w := s.row r
  if r < 12 ∧ (w.st = .active ∨ w.st = .idle ∨ w.st = .nap) ∧ rowIdle w = true ∧ stagedOut s r = true then
    match w.target with
    | some .off => .next (rowPowerCheck r (rowToOff r s))
    | some .sleep => .next (if banksUp s r then rowPowerCheck r (s.modRow r (fun w => { w with st := .sleep, target := none })) else s)
    | _ =>
      if w.st ≠ .active ∧ w.sleepNow ≠ 0 ∧ w.idleSince + w.sleepNow ≤ s.tb then
        .next (rowPowerCheck r (s.modRow r (fun w => { w with st := .sleep })))
      else .next s
  else .next s

/-- TIMEBASE_EVENT_WAKE (04 R105): the row controller starts a wake for a core's timebase wait. -/
def execTimebaseEventWake (r : Nat) (s : State) : Res :=
  if r < 12 ∧ (s.row r).cores.any (fun c => c.wait.any (·.isTb)) = true then .next (startWake r s) else .next s

/-- A row state that lets its half park (04 R110). -/
def rowParks (w : RowSt) : Bool := w == .sleep || w == .off || w == .dark

/-- HALF_PARK (04 R110, R112): all six rows in SLEEP, OFF or DARK, 500 tb without a transaction, nothing queued at the
seam. -/
def execHalfPark (h : Nat) (s : State) : Res :=
  if h < 2 ∧ (s.half h).parked = false ∧ (s.half h).quietSince + 500 ≤ s.tb
      ∧ (List.range 6).all (fun i => rowParks (s.row (6 * h + i)).st) = true then
    .next (s.modHalf h (fun x => { x with parked := true, unparkAt := none }))
  else .next s

/-- SEAM_UNPARK_COMPLETE (04 R111; 03, Table 3.9): 100 tb after a transfer arrived for the parked half, whose VNOC is up. -/
def execSeamUnparkComplete (h : Nat) (s : State) : Res :=
  match (s.half h).unparkAt with
  | some t =>
    if h < 2 ∧ (s.half h).parked = true ∧ t ≤ s.tb ∧ nocUp s h = true then
      .next (startTimers (s.modHalf h (fun x => { x with parked := false, unparkAt := none, quietSince := s.tb })))
    else .next s
  | none => .next s

end Sys2Proof.Machine
end

