-- ==== Sys2Proof/Machine/BringUp.lean ====
section
/-! DEFINITION. The stages of bring-up, the boot log and the neighbour test (05; 03 R75, R76; 13 R360; 21 R552, R557). -/

namespace Sys2Proof.Machine

/-! Stage records. -/

/-- Limits of the stages in ms (05, Table 5.1). -/
def stageLimitMs (k : Nat) : Nat := nth [1000, 500, 2000, 5000, 10000, 180000, 200000, 120000, 20000, 60000, 1000] k

/-- Whether stage k is the one that runs, within its limit (05 R117). -/
def stageRuns (k : Nat) (s : State) : Bool :=
  alive s && s.power.bringUpAt.isNone && (s.power.inputSw == .closed) && s.boot.st == .running && s.boot.stage == k
    && decide (s.tb ≤ s.boot.stageTb + 50000 * stageLimitMs k)

/-- A finding of now. -/
def finding (s : State) (c : Code) (u d : Nat) : Finding := { code := c.val, unit := u, detail := d % 2 ^ 32, tb := s.tb }

/-- The findings that a record holds: 254, or 253 and LOG_TRUNCATED (05 R121). -/
def recFinds (s : State) (l : List Finding) : List Finding :=
  if l.length ≤ 254 then l else l.take 253 ++ [finding s .logTruncated 0 (l.length - 253)]

/-- The running stage's record is written: to the current half, and on J3 (05 R121, R124). -/
def stageRecord (st : StageStatus) (fs : List Finding) (s : State) : State :=
  let b := s.boot
  let r : BootRec := { stage := b.stage, status := st, warm := b.warm, bootCore := b.bootCore, tbStart := b.stageTb,
                       tbEnd := s.tb, bootNo := b.bootNo, finds := recFinds s (b.pendFinds ++ fs) }
  let s := s.modBoot (fun b => { b with halves := b.halves.modify b.curHalf (· ++ [r]), pendFinds := [] })
  if j3Works s then each (bootFrames r) (fun f s => s.send (.j3Boot f)) s else s

/-- A stage ends and the next begins (05 R117). -/
def stageNext (st : StageStatus) (fs : List Finding) (s : State) : State :=
  (stageRecord st fs s).modBoot (fun b => { b with stage := b.stage + 1, stageTb := s.tb })

/-- A stage that did its work: PASS, or PASS_FINDINGS. -/
def stagePass (fs : List Finding) (s : State) : State :=
  stageNext (if (s.boot.pendFinds ++ fs).isEmpty then .pass else .passFindings) fs s

/-- A stage ends STOPPED (05 R117, R118): every row in OFF and the bring-up cause. -/
def stageStop (fs : List Finding) (s : State) : State :=
  setBootLeaf 1 ((allOff (stageRecord .stopped fs s)).modBoot (fun b => { b with st := .stopped }))

/-- Every bring-up starts by clearing the older half (05 R120). -/
def bootLogStart (s : State) : State :=
  s.modBoot (fun b =>
    let h := if b.bootNo = 0 then 0 else 1 - b.curHalf
    { b with bootNo := b.bootNo + 1, curHalf := h, halves := b.halves.set h [], pendFinds := [], dbDiscarded := 0 })

/-! BU0 to BU2. -/

/-- Supply of TB-W and of the straps' settling in a cold bring-up (03 R75; 02 R40; 21 R558, R565). -/
def coldStart (slotUnst mbxUnst : Bool) (s : State) : State :=
  let s := (s.modRail .vbrW (fun x => { x with inReg := true })).modRail .v3p3 (fun x => { x with inReg := true })
  let s := s.modBoot (fun b => { b with
    slotId := s.power.straps % 64, mbxMode := s.power.mbxModePin, sampled := true, unstable := slotUnst || mbxUnst })
  let d := s.draw
  d.2.modSec (fun c => { c with chal := (Config.noise d.1).take 16, mr := List.replicate 64 0,
                                baseMr := List.replicate 64 0, log := [], nmeas := 0 })

/-- The management cores after their self-checks: the boot core, and the other in reset or failed (05 R116). -/
def mcAfter (fail0 fail1 : Nat) (g : Gw) : Gw :=
  { g with running := none, mc := [if fail0 ≠ 0 then .failed else .reset, if fail1 ≠ 0 then .failed else .reset] }

/-- The management cores in the defect map (05, Table 5.6). -/
def mapMc (ok0 ok1 : Bool) (s : State) : State := s.modDmapE (fun d => { d with mc0 := ok0, mc1 := ok1 })

/-- What BU0 does once the identity EEPROM has been read: the boot log's half, the rails and straps of a cold bring-up, the
management cores, and the first measurement (05 R116, R120; 21, Table 21.5). -/
def bu0Begin (fail0 fail1 : Nat) (slotUnst mbxUnst : Bool) (s : State) : State :=
  let s := bootLogStart s
  let s := if s.boot.warm then s else coldStart slotUnst mbxUnst s
  let core := if fail0 = 0 then 0 else if fail1 = 0 then 1 else 0
  let s := mapMc (fail0 == 0) (fail1 == 0) ((s.modBoot (fun b => { b with bootCore := core })).modGw (mcAfter fail0 fail1))
  if fail0 ≠ 0 ∧ fail1 ≠ 0 then s else measure 0x01 core 0 (Config.shake256 Config.bootRom) s

/-- The findings of BU0 (05, Table 5.5). -/
def bu0Finds (fail0 fail1 : Nat) (slotUnst mbxUnst : Bool) (s : State) : List Finding :=
  (if fail0 ≠ 0 then [finding s .mcSelftestFail (uMc 0) fail0] else [])
    ++ (if fail1 ≠ 0 then [finding s .mcSelftestFail (uMc 1) fail1] else [])
    ++ (if s.boot.warm = false ∧ (slotUnst || mbxUnst) then [finding s .strapUnstable (uSpine 0) (b2n slotUnst + 2 * b2n mbxUnst)] else [])
    ++ (if s.boot.warm = false ∧ s.eeprom.readAbandoned = true then [finding s .eepromBad (uSpine 0) 2] else [])
    ++ (if s.boot.vspineLost then [finding s .railFault (uDom 2) 2] else [])

/-- BU0 (05 R116, Table 5.10; 02 R40, R57, R61; 21, Table 21.5): fail0 and fail1 are the failing checks of the two
cores, 0 for none; a warm restart first closes every Witness ring (20 R545); a read of the identity EEPROM that loses arbitration leaves the stage running until the read ends. -/
def execBu0 (fail0 fail1 : Nat) (slotUnst mbxUnst arbLost : Bool) (s : State) : Res :=
  if stageRuns 0 s = false ∨ s.eeprom.arbLost.isSome = true ∨ (s.boot.warm && s.wit.rings.any (·.st == .closing)) = true then .next s
  else if arbLost = true ∧ s.boot.warm = false then .next (s.modEeprom (fun e => { e with arbLost := some (0, s.tb) }))
  else
    let s := bu0Begin fail0 fail1 slotUnst mbxUnst s
    let fs := bu0Finds fail0 fail1 slotUnst mbxUnst s
    let s := s.modBoot (fun b => { b with vspineLost := false })
    if fail0 ≠ 0 ∧ fail1 ≠ 0 then .next (stageStop fs (s.modBoot (fun b => { b with bootCore := 0 })))
    else .next (stagePass fs s)

/-- The identity fields that BU1 compares with the fuses (02 R57, Table 2.13; 00, Table 0.1). -/
def identMismatch (s : State) : List Nat :=
  let i := s.eeprom.ident
  let w : Nat × Nat × Nat × Nat := match s.fuse.variant with
    | .m8 => (8, 0xFFFF, 0xFF, 0x0FFF) | .m6 => (6, 0xFFFF, 0, 0x0FFF) | .m4 => (4, 0x00FF, 0, 0x03CF)
  (if i.variant = w.1 then [] else [0]) ++ (if i.ddrSlots = w.2.1 then [] else [1])
    ++ (if i.flashBays = w.2.2.1 then [] else [2]) ++ (if i.fabConn = w.2.2.2 then [] else [3])

/-- What BU1 measures (21, Table 21.5). -/
def bu1Measure (s : State) : State :=
  let s := measure 0x02 0 (spnCaps s) (Config.shake256 (fuseKeyBytes s.fuse)) s
  let s := measure 0x03 0 0 (Config.shake256 (identBytes s.eeprom.ident)) s
  measure 0x04 0 0 (Config.shake256 (leBytes 1 s.boot.slotId ++ leBytes 1 (b2n s.boot.mbxMode))) s

/-- BU1 (05 R125; 00 R2; 04 R93; 02 R57; 21 R553): badWord is a fuse word of which no two copies pass. -/
def execBu1 (badWord : Option Nat) (s : State) : Res :=
  if stageRuns 1 s = false then .next s
  else match badWord with
  | some w => .next (stageStop [finding s .fuseWordBad (uSpine 0) w] s)
  | none =>
    let s := ((s.modBoot (fun b => { b with capsLoaded := true })).modClk (fun c => { c with trims := s.fuse.trims })).modSec
      (fun c => { c with keysDerived := true })
    let s := bu1Measure s
    let bad := s.eeprom.readAbandoned || s.eeprom.ident.magic != 0x4D36444B
    if bad || !s.eeprom.ident.crcOk then
      .next (stagePass (if s.eeprom.readAbandoned then [] else [finding s .eepromBad (uSpine 0) (if bad then 0 else 1)])
        (s.modPower (fun p => { p with j3Enabled := false })))
    else
      let s := s.modPower (fun p => { p with j3Enabled := true })
      let l := identMismatch s
      if l.isEmpty then .next (stagePass [] s)
      else .next (stageStop (l.map (fun d => finding s .eepromMismatch (uSpine 0) d)) s)

/-- A shared rail in BU2: in regulation, or lost after its trips; a bus converter has no retry; each trip is recorded (03 R76,
R85). -/
def bu2Rail (trips : List SharedRail) (x : SharedRail) (s : State) : State :=
  let n := trips.count x
  each (List.range n) (fun _ => railRecord (railDom x)) (
    if n = 0 then s.modRail x (fun q => { q with inReg := true })
    else if x = .bc0 ∨ x = .bc1 then (railEffect x s).modRail x (fun q => { q with inReg := false })
    else if n = 1 then s.modRail x (fun q => { q with inReg := true, retryUsed := true })
    else (railEffect x s).modRail x (fun q => { q with inReg := false, retryUsed := true }))

/-- A row that BU2 stages at step 0 with its banks scrubbed (03 R76; 11 R289); OFF where its half has no VNOC (03, Table 3.9). -/
def bu2Stage (r : Nat) (s : State) : State :=
  let s := setConv r (convOnSt (s.conv r).phFail) true (loseRow r s)
  let s := s.modRow r (fun w => { w with
    st := .active, idleSince := s.tb, rowOut := false
    banks := w.banks.map (fun _ => { st := .on, idleSince := s.tb }) })
  if nocUp s (halfOf r) then s else forceOff r s

/-- A row in BU2: staged, or DARK after two trips, each of them recorded (03 R76, R81, R82). -/
def bu2Row (trips : List Nat) (r : Nat) (s : State) : State :=
  let n := trips.count r
  let s := s.modConv r (fun c => { c with retryUsed := decide (0 < n), retryAt := none, stagedAt := none })
  if (s.rail .vbus12).inReg = false then s
  else each (List.range n) (fun i => rowRecord r .rowShort 0 (if i = 1 then 5 else 0))
    (if 2 ≤ n ∨ ratingOf (s.conv r).phFail = 0 then darken r .dark s else bu2Stage r s)

/-- A switch that BU2 closes: ON, FAULT, or OFF where no card is reported (03 R76; 02 R44). -/
def bu2Switch (present faults : List Nat) (i : Nat) (s : State) : State :=
  let s := s.modSw i (fun w => { w with present := present.contains i })
  if present.contains i = false then s
  else if faults.contains i then (s.modSw i (fun w => { w with st := .fault })).modDom (21 + i) (fun d => { d with st := .fault })
  else (s.modSw i (fun w => { w with st := .on })).modDom (21 + i) (fun d => { d with st := .on })

/-- The switches a variant has. -/
def fittedSwitches (s : State) : List Nat := List.range (nDdr s) ++ (if hasFlash s then (List.range 8).map (· + 16) else [])

/-- BU2 (03 R75, R76, Table 3.5; 02 R39): trips of rails and rows in order, the presence contacts read, and the switches
that fault. In a warm restart the rails and switches stay as they are (05 R142). -/
def execBu2 (trips : List SharedRail) (rowTrips present swFaults : List Nat) (s : State) : Res :=
  if stageRuns 2 s = false then .next s
  else
    let fs := (trips.map (fun x => finding s .railFault (uDom (railDom x)) (railDom x)))
      ++ (rowTrips.map (fun r => finding s .railFault (uDom (5 + r)) (5 + r)))
    let s := if s.boot.warm then s else
      each [SharedRail.bc0, .bc1, .vbus12, .vnocN, .vnocS, .vbrE, .vhbmN, .vhbmS] (bu2Rail trips) s
    if (s.rail .vbus12).inReg = false then .next (stageStop fs s)
    else
      let s := each (List.range 12) (bu2Row rowTrips) s
      let sw := fittedSwitches s
      let s := if s.boot.warm then s else each sw (bu2Switch present swFaults) s
      let fs := fs ++ (if s.boot.warm then [] else
        (sw.filter (fun i => present.contains i && swFaults.contains i)).map (fun i => finding s .switchFault (uDom (21 + i)) (21 + i)))
      let s := s.modHalf 0 (fun h => { h with queue := [], staging := none, parked := !nocUp s 0, unparkAt := none, quietSince := s.tb })
      let s := s.modHalf 1 (fun h => { h with queue := [], staging := none, parked := !nocUp s 1, unparkAt := none, quietSince := s.tb })
      .next (stagePass fs (pwrOkUpdate (s.modPower (fun p => { p with bu2Done := true }))))

/-! BU3: the neighbour test. -/

/-- Unit identifier of a unit of a row as RowTest numbers them. -/
def rtUnit (r u : Nat) : Nat :=
  if u < 5 then uAst r u else if u < 15 then uPrm r (u - 5) else if u < 20 then unitId 0xE r (u - 15)
  else unitId 0xE r (16 + (u - 20))

/-- The fuses call a unit bad. -/
def rtFuseBad (f : RowFuse) (u : Nat) : Bool :=
  if u < 5 then f.ast.contains u else if u < 15 then f.prm.contains (u - 5) else f.skips.contains (u - 15)

/-- The Primrose positions that test a unit (05 R127). -/
def rtTesters (u : Nat) : List Nat :=
  if u < 5 then [2 * u, 2 * u + 1]
  else if 15 ≤ u ∧ u < 20 then [2 * (u - 15), 2 * (u - 15) + 1]
  else
    let i := if u < 15 then u - 5 else u - 20
    (if 0 < i then [i - 1] else []) ++ (if i < 9 then [i + 1] else [])

/-- Positions bad before any vote: fused, carried, or failed in their self-test (05 R126, R128, R141). -/
def rtBadFirst (f : RowFuse) (carried : Nat → Bool) (t : RowTest) (u : Nat) : Bool :=
  rtFuseBad f u || carried u || (decide (u < 15) && t.selfFail.contains u)

/-- Testers whose votes on a unit count (05 R128). -/
def rtVoters (f : RowFuse) (carried : Nat → Bool) (t : RowTest) (u : Nat) : List Nat :=
  (rtTesters u).filter (fun c => !rtBadFirst f carried t (5 + c))

/-- Units under the arbiter: no counted vote, or a FAIL among them; then every tester that disagrees with it, as often
as it takes (05 R128). -/
def rtDisputed (f : RowFuse) (carried : Nat → Bool) (t : RowTest) : List Nat :=
  let us := (List.range 30).filter (fun u => !rtBadFirst f carried t u)
  let first := us.filter (fun u =>
    let v := rtVoters f carried t u
    v.isEmpty || v.any (fun c => t.failVotes.contains (c, u)))
  let more (l : List Nat) : List Nat := us.filter (fun x => l.contains x || (decide (5 ≤ x) && decide (x < 15)
    && l.any (fun u => (rtVoters f carried t u).contains (x - 5) && (t.failVotes.contains (x - 5, u) != t.arbFail.contains u))))
  (List.range 10).foldl (fun l _ => more l) first

/-- The verdicts of a row's 30 units: bad or good (05 R128). -/
def rtBad (f : RowFuse) (carried : Nat → Bool) (t : RowTest) (dark : Bool) : List Bool :=
  let disp := rtDisputed f carried t
  (List.range 30).map (fun u => if dark then rtFuseBad f u || carried u
    else rtBadFirst f carried t u || (disp.contains u && t.arbFail.contains u))

/-- The first LOST position of a chain of n positions, by its bad positions and bad skip links (05 R129). -/
def chainCut (n : Nat) (bad skip : Nat → Bool) : Option Nat :=
  ((List.range n).filterMap (fun i =>
    if bad i && skip i then some (i + 1) else if bad i && decide (i + 1 < n) && bad (i + 1) then some (i + 2) else none)).head?

/-- States of a chain's positions before binding (05 R129, Table 5.8). -/
def chainStates (n : Nat) (fuse bad skip : Nat → Bool) (gone : Bool) : List PosState :=
  (List.range n).map (fun i =>
    if fuse i then .badFuse else if bad i then .badTest
    else if gone || (chainCut n bad skip).any (fun c => decide (c ≤ i)) then .lost else .spare)

/-- Binds slots to the good positions west to east (05 R130). -/
def bindSlots (n : Nat) (l : List PosState) : List (Option Nat) × List PosState :=
  let good := (List.range l.length).filter (fun i => nth l i == .spare)
  ((List.range n).map (fun i => good[i]?), l.mapIdx (fun i p => if (good.take n).contains i then .active else p))

/-- One row of BU3: its record of the defect map, its findings, and whether it is OUT. -/
def bu3Row (s : State) (r : Nat) (t : RowTest) : DRow × List Finding × Bool :=
  let f := nth s.fuse.rows r
  let carried (u : Nat) : Bool := s.boot.carried.any (·.1 == rtUnit r u)
  let dark := rowIsDark s r
  let bad := rtBad f carried t dark
  let dmaOk := (List.range 4).map (fun e => !(f.dma.contains e || t.dmaBad.contains e))
  let a0 := chainStates 5 (rtFuseBad f) (nth bad ·) (fun i => nth bad (15 + i)) dark
  let p0 := chainStates 10 (fun i => rtFuseBad f (5 + i)) (fun i => nth bad (5 + i)) (fun i => nth bad (20 + i)) dark
  let (ps, p1) := bindSlots 8 p0
  let why := b2n (ps.all (· == none)) + 2 * b2n (dmaOk.all (· == false)) + t.ctl / 4 % 8 * 4
  let out := !dark && why != 0
  let (as_, a1) := bindSlots 4 a0
  let lost (l : List PosState) : List PosState := l.map (fun p => if p == .active || p == .spare then .lost else p)
  let bankOk := (List.range 40).map (fun b => !(f.banks.contains b || s.boot.carried.any (·.1 == uBank r b)))
  let d : DRow := { ast := if out then lost a1 else a1, prm := if out then lost p1 else p1, bankOk := bankOk, dmaOk := dmaOk,
                    astSlots := if out || dark then List.replicate 4 none else as_,
                    prmSlots := if out || dark then List.replicate 8 none else ps,
                    skipOk := (List.range 15).map (fun i => !nth bad (15 + i)), cls := .full }
  let full := as_.all (·.isSome) && ps.all (·.isSome) && bankOk.all id && dmaOk.all id
  let d := { d with cls := if dark then .dark else if out then .out else if full then .full else .degraded }
  let fs := ((List.range 15).filter (fun u => !rtFuseBad f u && nth bad u)).map (fun u =>
      if carried u then finding s .defectCarried (rtUnit r u) (((s.boot.carried.find? (·.1 == rtUnit r u)).map (·.2)).getD 0)
      else finding s .defectNew (rtUnit r u) (Config.freeNat (s.fresh + 64 * r + u)))
  let cut (cls n : Nat) (o : Nat) : List Finding := match chainCut n (fun i => nth bad (o + i)) (fun i => nth bad (if cls = 1 then 15 + i else 20 + i)) with
    | some c => (((List.range n).filter (fun i => decide (c ≤ i) && !nth bad (o + i))).take 1).map
        (fun i => finding s .chainCut (unitId cls r i) i)
    | none => []
  let fs := if dark then fs.filter (·.code == Code.defectCarried.val) else fs ++ cut 1 5 0 ++ cut 2 10 5
    ++ (if out then [finding s .rowOut (uRow r) why] else [])
    ++ (if d.cls = .degraded then [finding s .rowDegraded (uRow r)
        (countIf Option.isSome as_ + 0x100 * countIf Option.isSome ps + 0x10000 * countIf id bankOk)] else [])
  (d, fs, out)

/-- Platform records of the runtime defects a stage found (05 R126). -/
def defectRecords (fs : List Finding) (s : State) : State :=
  each (fs.filter (fun f => f.code == Code.defectNew.val)) (fun f => errRecord
    { code := .defectNew, unit := f.unit, op := 0x13, platform := true, leaf := .ev 6 0, detail := f.detail, relrec := 0, outcome := .lasting }) s

/-- Tests queued or running start over once a management core runs (17 R475); slots to be restored are as the bring-up leaves
them. -/
def restartTests (s : State) : State :=
  each s.gw.recovering (fun x => completeWait wRecover x.unit .ok [] [])
    (s.modGw (fun g => { g with tests := g.tests.map (fun t => { t with running := false, placed := none }), recovering := [] }))

/-- BU3 (05 R127 to R131): one RowTest a row. -/
def execBu3 (tests : List RowTest) (s : State) : Res :=
  if stageRuns 3 s = false then .next s
  else
    let s := s.modBoot (fun b => { b with carried := b.carried.filter (fun c => !b.clearReq.contains 0 && !b.clearReq.contains c.1), clearReq := [] })
    let res := (List.range 12).map (fun r => bu3Row s r (nth tests r))
    let s := (s.modDmapE (fun d => { d with rows := res.map (·.1) })).modFresh (· + 768)
    let fs := res.flatMap (·.2.1)
    let s := each (List.range 12) (fun r s =>
      let s := s.modRow r (fun w => { w with
        rowOut := (nth res r).2.2, progs := [], prov := [], scb := [], scbPend := []
        banks := w.banks.mapIdx (fun b x => if nth (nth res r).1.bankOk b then x else { st := .retired })
        tiles := w.tiles.map (fun _ => {}), pairs := [{}, {}], cores := w.cores.map coreLost })
      if (nth res r).2.2 then forceOff r s else s) s
    let s := restartTests s
    let s := defectRecords fs s
    if res.any (fun x => x.1.cls == .full || x.1.cls == .degraded) then .next (stagePass fs s) else .next (stageStop fs s)

/-! BU4 to BU10. -/

/-- BU4 (05 R133): the banks that fail, as 40 × row + bank; every bank in service ends filled with zero. -/
def execBu4 (badBanks : List Nat) (s : State) : Res :=
  if stageRuns 4 s = false then .next s
  else
    let bad := badBanks.filter (fun g => decide (g < 480) && !rowIsDark s (g / 40) && !rowIsOut s (g / 40)
      && nth (s.drow (g / 40)).bankOk (g % 40))
    let carr := (List.range 480).filter (fun g => s.boot.carried.any (·.1 == uBank (g / 40) (g % 40)))
    let d := s.draw
    let s := if bad.isEmpty then s else d.2
    let s := each bad (fun g s => s.modBank (g / 40) (g % 40) (fun _ => { st := .retired })) s
    let s := dropCells (fun k => decide (k < 480 * 2 ^ 21)) s
    let s := if bad.isEmpty then s else s.modDmapE (fun m => { m with rows := m.rows.mapIdx (fun r x =>
      let x := { x with bankOk := x.bankOk.mapIdx (fun b ok => ok && !bad.contains (40 * r + b)) }
      { x with cls := if x.cls == .full && !x.bankOk.all id then .degraded else x.cls }) })
    let fs := carr.map (fun g => finding s .defectCarried (uBank (g / 40) (g % 40))
          (((s.boot.carried.find? (·.1 == uBank (g / 40) (g % 40))).map (·.2)).getD 0))
      ++ bad.map (fun g => finding s .defectNew (uBank (g / 40) (g % 40)) d.1)
      ++ ((List.range 12).filter (fun r => bad.any (· / 40 == r) && (s.drow r).cls == .degraded)).map (fun r =>
          finding s .rowDegraded (uRow r) (countIf Option.isSome (s.drow r).astSlots
            + 0x100 * countIf Option.isSome (s.drow r).prmSlots + 0x10000 * countIf id (s.drow r).bankOk))
    .next (stagePass fs (defectRecords fs s))

/-- A stack or channel that a warm restart trusts (05 R143). -/
def memTrusted (s : State) (u : Nat) : Bool :=
  s.boot.warm && (s.memUnit u).selfRefresh && !(s.memUnit u).uncorr && !unitIsOut (s.memUnit u).st

/-- Whether a unit can be tested at all, or else the reason it is out: its rail or switch (12, Table 12.9). -/
def memSupply (s : State) (u : Nat) : Option Nat :=
  if u < 8 then (if (s.rail (if u < 4 then .vhbmN else .vhbmS)).inReg then none else some 4)
  else if (s.sw (u - 8)).st = .fault ∨ (s.bridge ((u - 8) / 8)).out = true then some 5 else none

/-- Tests one stack or channel: contents overwritten with zeros, repairs, retirements, state (05 R134; 12 R308, R331). -/
def testMem (t : MemTest) (s : State) : State × List Finding :=
  let u := t.unit
  let s := dropCells (memUnitKey u) (s.modMem (fun m => { m with
    lostUnits := m.lostUnits.filter (· != u), remap := m.remap.filter (fun p => p.1 / 65536 != u && p.2.unit != u)
    dataLost := m.dataLost.filter (fun k => !memUnitKey u (64 * k)), bad := m.bad.filter (fun k => !memUnitKey u (64 * k)) }))
  let s := s.modMemUnit u (fun x => { temp := x.temp, rate := x.rate })
  let reason := if t.reason ≠ 0 then t.reason else if retireLimit u < t.pages.length then 2 else 0
  let fs := (if t.repaired ≠ 0 then [finding s .memRepaired (uMem u) t.repaired] else [])
    ++ (if t.pages ≠ [] then [finding s .memRetired (uMem u) t.pages.length] else [])
  let s := each t.pages (fun p => retirePage (65536 * u + p)) s
  if reason ≠ 0 then
    let s := s.modMem (fun m => { m with lostUnits := addNew m.lostUnits u
                                         units := m.units.modify u (fun x => { x with st := .failed, outReason := reason }) })
    let s := if 8 ≤ u then switchOff (u - 8) s else s
    (s, fs ++ [finding s .unitOut (uMem u) reason])
  else (s.modMemUnit u (fun x => { x with st := if t.pages.isEmpty then .inService else .degraded }), fs)

/-- A memory stage over some units: SKIPPED where every one present is trusted. -/
def memStage (us : List Nat) (res : List MemTest) (s : State) : State :=
  let here := us.filter (fun u => decide (u < 8) || (s.sw (u - 8)).st == .on || (s.sw (u - 8)).st == .fault)
  let todo := here.filter (fun u => !memTrusted s u)
  let s := each (us.filter (fun u => !here.contains u)) (fun u s => s.modMemUnit u (fun x => { x with st := .absent })) s
  let s := each (here.filter (memTrusted s ·)) (fun u s => s.modMemUnit u (fun x => { x with selfRefresh := false })) s
  if todo.isEmpty then stageNext .skipped [] (mapUnits us s)
  else
    let p := todo.foldl (fun (p : State × List Finding) u =>
      let t := (res.find? (·.unit == u)).getD { unit := u }
      let q := testMem { t with reason := (memSupply p.1 u).getD t.reason } p.1
      (q.1, p.2 ++ q.2)) (s, [])
    stagePass p.2 (mapUnits us p.1)

/-- BU5 (05 R134, R135, R143): the stacks, with what each test found. -/
def execBu5 (res : List MemTest) (s : State) : Res :=
  if stageRuns 5 s = false then .next s else .next (memStage (List.range 8) res s)

/-- BU6 (05 R134, R135, R143): the channels with a card present. -/
def execBu6 (res : List MemTest) (s : State) : Res :=
  if stageRuns 6 s = false then .next s else .next (memStage ((List.range (nDdr s)).map (· + 8)) res s)

/-- What a scan of one card finds (13 R360; 13, Table 13.8). -/
def scanCard (t : CardTest) (s : State) : State × List Finding :=
  let c := t.card
  let s := s.modCard c (fun x => { x with uncorr := false, chans := x.chans.mapIdx (fun k y =>
    { y with st := (t.chans[k]?).getD .inService, atRisk := nth t.atRisk k }) })
  let s := loseGroups (fun g _ => t.lost.contains g) s
  let s := loseGroups (fun _ g => g.card == c && ((s.fchan c g.chan).st == .retired || t.reason != 0)) s
  let st := if t.reason ≠ 0 then .failed else cardStOf (s.card c).chans
  (s.modCard c (fun x => { x with st := st }),
    (if t.reason ≠ 0 then [finding s .unitOut (uCard c) t.reason] else [])
      ++ ((List.range 4).filter (fun k => (s.fchan c k).st == .retired)).map (fun k => finding s .unitOut (uFChan c k) (nth t.chReason k)))

/-- A card that a warm restart trusts (05 R143). -/
def cardTrusted (s : State) (c : Nat) : Bool :=
  s.boot.warm && (s.sw (16 + c)).st == .on && !(s.card c).uncorr && !([CardState.drained, .testing, .failed, .absent].contains (s.card c).st)

/-- BU7 (13 R360; 05 R135, R143): the metadata scan; ABSENT without a flash tier. -/
def execBu7 (res : List CardTest) (s : State) : Res :=
  if stageRuns 7 s = false then .next s
  else if hasFlash s = false then .next (stageNext .absent [] s)
  else
    let here := (List.range 8).filter (fun c => (s.sw (16 + c)).st == .on || (s.sw (16 + c)).st == .fault)
    let todo := here.filter (fun c => !cardTrusted s c)
    let s := each ((List.range 8).filter (fun c => !here.contains c)) (fun c s => s.modCard c (fun x => { x with st := .absent })) s
    let s := rollBack (fun _ => true) s
    if todo.isEmpty then .next (stageNext .skipped [] (mapCards s))
    else
      let p := todo.foldl (fun (p : State × List Finding) c =>
        let t := (res.find? (·.card == c)).getD { card := c }
        let q := scanCard { t with reason := if (s.sw (16 + c)).st = .fault then 5 else t.reason } p.1
        (q.1, p.2 ++ q.2)) (s, [])
      .next (stagePass p.2 (mapCards p.1))

/-- One port in BU8 (05 R136 to R138). -/
def bu8Port (res : List PortTest) (p : Nat) (s : State) : State × List Finding :=
  if portFitted s p = false then (qualify p .absent 0 none s, [])
  else if nth s.power.presentN p then (qualify p .absent 0 none s, [finding s .portDown (uPort p) 0])
  else
    let t := (res.find? (·.port == p)).getD { port := p }
    if t.partner = false then (qualify p .down 0 none s, [finding s .portDown (uPort p) 1])
    else
      let q := portResult t.lanes
      (qualify p q.1 t.lanes q.2 s, match q with
        | (.down, _) => [finding s .portDown (uPort p) 2]
        | (_, some l) => [finding s .laneSpared (uPort p) l]
        | _ => [])

/-- BU8 (05 R136 to R138). -/
def execBu8 (res : List PortTest) (s : State) : Res :=
  if stageRuns 8 s = false then .next s
  else
    let p := (List.range 12).foldl (fun (p : State × List Finding) i =>
      let q := bu8Port res i p.1
      (q.1, p.2 ++ q.2)) (s, [])
    .next (stagePass p.2 (epochSince s.dmap p.1))

/-- Sends IMG_REQ for an image at an offset (21 R557); one is outstanding at a time. -/
def imgRequest (idx off resends : Nat) (s : State) : State :=
  (chaviSend { type := 0x18, arg := idx, arg2 := off } s).modGw (fun g => { g with imgReqs := [(idx, off, s.tb, resends)] })

/-- BU9 (21 R557): the fetch begins once Chavi is up; it fails after 10 s without it. -/
def execBu9 (s : State) : Res :=
  if stageRuns 9 s = false ∨ s.gw.imgReqs ≠ [] then .next s
  else if s.chavi.up = true then .next (imgRequest 0 0 0 (s.modGw (fun g => { g with imgBuf := [] })))
  else if s.power.j4Ok = false then .next (stageStop [finding s .imageFetchFail (uSpine 0) 1] s)
  else if s.boot.stageTb + 500000000 ≤ s.tb then .next (stageStop [finding s .imageFetchFail (uSpine 0) 0] s)
  else .next s

/-- The channels enabled at BU10 (15, Table 15.6); every other one is disabled. A held message stays. -/
def bu10Chans (s : State) : State :=
  let cfg (n : Nat) (rcv : Rcv) (shared : Bool) (m : List (Nat × Chan)) : List (Nat × Chan) :=
    mset m n { ((mget m n).getD {}) with rcv := rcv, shared := shared, classMatch := !shared, enabled := true,
                                         smatch := if shared then 0 else 0x7000, rdest := 0, rchan := 0 }
  let n := if s.boot.mbxMode then 128 else 16
  let off (p : Nat × Chan) : Nat × Chan :=
    (p.1, { p.2 with enabled := false, rcv := .mgmtCore, shared := false, classMatch := false, smatch := 0, rdest := 0, rchan := 0 })
  s.modMbx (fun m => { chans := cfg (n + 1) .chaviHost false (cfg n .mgmtCore true
    (cfg 1 .chaviHost false (cfg 0 .mgmtCore true (m.chans.map off)))) })

/-- BU10 (05 R144; 15, Table 15.6): Gwynpin starts on the boot core, the other good core stands by, and the bring-up
cause is raised. -/
def execBu10 (s : State) : Res :=
  if stageRuns 10 s = false then .next s
  else
    let c := s.boot.bootCore
    let s := bu10Chans s
    let s := s.modGw (fun g => { g with
      running := some c, mc := (g.mc.set c .running).modify (1 - c) (fun m => if m == .failed then .failed else .standby)
      wdAt := s.tb + g.tmoMgmt, failAt := none })
    let s := stageRecord (if s.boot.pendFinds.isEmpty then .pass else .passFindings) [] s
    .next (setBootLeaf 0 (s.modBoot (fun b => { b with st := .ready })))

/-- STAGE_TIMEOUT (05 R117, R118). -/
def execStageTimeout (s : State) : Res :=
  let k := s.boot.stage
  if alive s = true ∧ s.power.bringUpAt = none ∧ s.power.inputSw = .closed ∧ s.boot.st = .running
      ∧ s.boot.stageTb + 50000 * stageLimitMs k < s.tb then
    .next (stageStop [finding s .stageTimeout (uSpine 0) (stageLimitMs k)] (s.modGw (fun g => { g with imgReqs := [] })))
  else .next s

end Sys2Proof.Machine
end

