-- ==== Sys2Proof/Machine/DmaOps.lean ====
section
/-! DEFINITION. DMA descriptors: checks, extents, reservations, data and ends (11 R275 to R284), and what ingress agents
do (11 R291 to R293; 17 R465). -/

namespace Sys2Proof.Machine

/-- The side address that means none (11 R276). -/
def sideNone : Nat := 2 ^ 64 - 1

/-! Extents. -/

/-- Bytes of a linear vector (11 R277). -/
def linearBytes (fmt k : Nat) : Nat := if fmt = 9 then 2 * k else if fmt = 6 then 16 + k else k
/-- Lines of a block of the skewed layout, and of all blocks (07 R179, R180). -/
def skewLines (fmt v k : Nat) : Nat := (k + 63) / 64 * ((if fmt = 9 then 2 else 1) * (v + 63))

/-- Extents of a descriptor: address, bytes, written (11 R277). -/
def dmaExtents (d : DmaDesc) : List (Nat × Nat × Bool) :=
  let side (a n : Nat) (wr : Bool) : List (Nat × Nat × Bool) := if a = sideNone then [] else [(a, n, wr)]
  let lin := (d.v - 1) * d.stride + linearBytes d.fmt d.k
  match d.op with
  | .copy => [(d.src, d.len, false), (d.dst, d.len, true)]
  | .fill => [(d.dst, d.len, true)]
  | .skew => [(d.src, lin, false)] ++ side d.srcSide (2 * d.v) false ++ [(d.dst, 64 * skewLines d.fmt d.v d.k, true)]
      ++ side d.dstSide (64 * sideLines d.fmt d.v) true
  | .unskew => [(d.src, 64 * skewLines d.fmt d.v d.k, false)] ++ side d.srcSide (64 * sideLines d.fmt d.v) false
      ++ [(d.dst, lin, true)] ++ side d.dstSide (2 * d.v) true

/-- Cuts a range of units into ranges of at most 8,191. -/
def cutUnits : Nat → Nat → Nat → Bool → List (Nat × Nat × Bool)
  | 0, _, _, _ => []
  | f + 1, u, n, wr => if n = 0 then [] else (8 * u, min n 8191, wr) :: cutUnits f (u + min n 8191) (n - min n 8191) wr

/-- The ranges of one extent in row r, rounded out to whole units (11 R278). -/
def extentRanges (r : Nat) (g : Nat × Nat × Bool) : List (Nat × Nat × Bool) :=
  if 2 ^ 44 ≤ g.1 ∨ g.2.1 = 0 then []
  else
    let lo := max (g.1 / 512) (163840 * r)
    let hi := min ((g.1 + g.2.1 - 1) / 512 + 1) (163840 * (r + 1))
    cutUnits 21 (lo - 163840 * r) (hi - lo) g.2.2
def rowRanges (d : DmaDesc) (r : Nat) : List (Nat × Nat × Bool) := (dmaExtents d).flatMap (extentRanges r)

/-- The lines of an extent in row r: first LN, lines. -/
def extentLines (r : Nat) (g : Nat × Nat × Bool) : Nat × Nat :=
  if 2 ^ 44 ≤ g.1 ∨ g.2.1 = 0 then (0, 0)
  else
    let lo := max (g.1 / 64) (1310720 * r)
    let hi := min ((g.1 + g.2.1 - 1) / 64 + 1) (1310720 * (r + 1))
    (lo - 1310720 * r, hi - lo)

/-! Submission (11, Table 11.3). -/

/-- Every address of an extent is mapped: its ends are, in one region and one unit where the region has gaps. -/
def extentMapped (s : State) (a n : Nat) : Bool :=
  let ok (a : Nat) : Bool := match place s a with | .scratch _ _ => true | .mem _ _ => true | _ => false
  n == 0 || (ok a && ok (a + n - 1) && a / 2 ^ 44 == (a + n - 1) / 2 ^ 44
    && (a / 2 ^ 44 != 2 || a / 2 ^ 36 == (a + n - 1) / 2 ^ 36) && (a / 2 ^ 44 != 4 || a / 2 ^ 37 == (a + n - 1) / 2 ^ 37))

/-- An extent in a channel that the variant does not have. -/
def extentAbsent (s : State) (a : Nat) : Bool :=
  match place s a with | .mem u _ => decide (8 + nDdr s ≤ u) | _ => false

/-- A scratchpad extent that touches a retired bank or an OUT row. -/
def extentRetired (s : State) (g : Nat × Nat × Bool) : Bool :=
  (List.range 12).any (fun r =>
    let (l, n) := extentLines r g
    n != 0 && (rowIsOut s r || (banksOf l ((n + 7) / 8)).any (fun b => (s.bank r b).st == .retired)))

/-- An alignment or field rule of Table 11.2 or R277 that a descriptor breaks. -/
def dmaIllegal (d : DmaDesc) : Bool :=
  !d.rsvOk
    || (match d.op with
        | .copy | .fill => d.fmt != 0 || d.v != 0 || d.k != 0 || d.stride != 0 || d.srcSide != sideNone || d.dstSide != sideNone
            || d.len == 0 || (d.op == .fill && (d.len % 8 != 0 || d.src != 0)) || (d.op == .copy && d.pattern != 0)
        | .skew | .unskew => d.len != 0 || d.pattern != 0 || d.v == 0 || decide (4095 < d.v) || d.k % 32 != 0 || d.k == 0
            || decide (512 < d.k) || d.stride % 16 != 0 || decide (d.stride < linearBytes d.fmt d.k)
            || (d.fmt == 6 && (if d.op == .skew then d.dstSide else d.srcSide) == sideNone)
            || (let skewed := if d.op == .skew then [d.dst, d.dstSide] else [d.src, d.srcSide]
                skewed.any (fun a => a != sideNone && (decide (2 ^ 44 ≤ a) || a % 64 != 0))))

/-- The submission checks, in the order of Table 11.3 (11 R279; 05 R132). -/
def dmaCheck (s : State) (r e : Nat) (d : DmaDesc) : Code :=
  if dmaIllegal d then .dmaIllegal
  else if (d.op = .skew ∨ d.op = .unskew) ∧ ¬ [4, 6, 7, 8, 9].contains d.fmt then .formatUnsupported
  else if (dmaExtents d).any (fun g => !extentMapped s g.1 g.2.1) then .dmaRange
  else if (dmaExtents d).any (fun g => extentAbsent s g.1) then .unitAbsent
  else if (dmaExtents d).any (extentRetired s) ∨ (s.drow r).dmaOk.getD e true = false then .unitRetired
  else .ok

/-- A submission: refused, queued, or waiting for the full queue (11 R279, R282). -/
def dmaSubmit (r e : Nat) (d : DmaDesc) (s : State) : State :=
  match dmaCheck s r e d with
  | .ok => s.modDma r e (fun x =>
      if x.queue.length + x.held.length < 32 ∧ x.subWait.isEmpty then { x with queue := x.queue ++ [d] }
      else { x with subWait := x.subWait ++ [d] })
  | c => s.modDma r e (fun x => { x with subRefused := true, scode := c.val })

/-- Waiting submissions enter a queue that has room; a write of word 7 that waits holds later ones of the engine. -/
def drainSub (x : Dma) : Dma :=
  let n := 32 - (x.queue.length + x.held.length)
  { x with queue := x.queue ++ x.subWait.take n, subWait := x.subWait.drop n }

/-! Ends. -/

/-- Frees every reservation and pending request of an owner in every row. -/
def freeEverywhere (o : Nat) (s : State) : State :=
  s.modRows (·.map (fun w =>
    let w := { w with scbPend := w.scbPend.filter (·.owner != o) }
    if w.scb.any (·.owner == o) then scbFreeOwner s.tb o w else w))

/-- A completion record enters the FIFO, or waits in its queue place (11 R281). -/
def Dma.finish (x : Dma) (c : DmaCpl) : Dma :=
  if x.cpl.length < 64 ∧ x.held.isEmpty then { x with cpl := x.cpl ++ [c] } else { x with held := x.held ++ [c] }

/-- The descriptor at the head ends (11 R280, R281): its ranges released, exactly one record made. -/
def dmaEnd (r e : Nat) (c : Code) (done : Nat) (s : State) : State :=
  match (s.dmaE r e).queue with
  | [] => s
  | d :: rest =>
    (freeEverywhere (ownDma r e) s).modDma r e (fun x => drainSub (Dma.finish
      { x with queue := rest, active := false, waitResv := false } { tag := d.tag, status := c.val, done := done, tb := s.tb, byCore := d.byCore }))

/-- A data-path record of a DMA engine. -/
def dmaRecord (r e : Nat) (c : Code) (s : State) : State := errRecord { code := c, unit := uDma r e, op := 5 } s

/-- Places the requests of the running descriptor, row by row, holding the grants it has (11 R278); a refusal ends it. -/
def dmaRequest : Nat → Nat → Nat → State → State
  | 0, _, _, s => s
  | f + 1, r, e, s =>
    let o := ownDma r e
    match (s.dmaE r e).queue with
    | [] => s
    | d :: _ =>
      match (List.range 12).find? (fun q => !(rowRanges d q).isEmpty && !(s.row q).scb.any (·.owner == o)) with
      | none => s.modDma r e (fun x => { x with waitResv := false })
      | some q =>
        if (s.row q).scbPend.any (·.owner == o) then s
        else if rowIsOut s q then dmaRecord r e .unitRetired (dmaEnd r e .unitRetired 0 s)
        else if rowIsDark s q then dmaRecord r e .rowDark (dmaEnd r e .rowDark 0 s)
        else
          let g := rowRanges d q
          match scbRequest s.tb { owner := o, ranges := g, tb := s.tb } (s.row q) with
          | (.grant, w) => dmaRequest f r e (s.modRow q (fun _ => g.foldl (fun w x => clearPoisoned x w) w))
          | (.wait, w) => (s.modRow q (fun _ => w)).modDma r e (fun x => { x with waitResv := true })
          | (.refuse c, _) => dmaRecord r e c (dmaEnd r e c 0 s)

/-! Data (11 R277). -/

/-- Cuts bytes into the lines they fall in. -/
def chunkLines : Nat → Nat → List Byte → List (Nat × List Byte)
  | 0, _, _ => []
  | f + 1, a, l =>
    if l.isEmpty then []
    else let n := 64 - a % 64; (a, l.take n) :: chunkLines f (a + n) (l.drop n)
def chunks (a : Nat) (l : List Byte) : List (Nat × List Byte) := chunkLines (l.length / 64 + 2) a l

/-- Whether raw element bits of a format are finite (06 R148). -/
def elemFinite (fmt v : Nat) : Bool :=
  match fmt with | 7 | 8 | 9 => (sigExp fmt v).isSome | _ => true

/-- Raw element i of a linear vector at a, with a value that is not finite entering as 0 (06 R148; log 43). -/
def linElem (s : State) (fmt a i : Nat) : Nat :=
  let off := if fmt = 6 then 16 + i else if fmt = 9 then 2 * i else i
  let v := leNat (memRead s (a + off) (elemBytes fmt))
  let bad := fmt == 6 && leNat (memRead s (a + i / 32) 1) == 0xFF
  if elemFinite fmt v && !bad then v else 0

/-- Whether a vector holds a value that is not finite. -/
def linBad (s : State) (fmt a k : Nat) : Bool :=
  if fmt = 6 then (memRead s a (k / 32)).any (· == 0xFF)
  else (List.range k).any (fun i => !elemFinite fmt (leNat (memRead s (a + elemBytes fmt * i) (elemBytes fmt))))

/-- One line of the skewed layout: block-line L of slab b, half h. -/
def skewLine (s : State) (d : DmaDesc) (b h L : Nat) : List Byte :=
  let w := if d.fmt = 9 then 32 else 64
  (List.range w).flatMap (fun lane =>
    let k := if d.fmt = 9 then 32 * h + lane else lane
    let i := 64 * b + k
    leBytes (if d.fmt = 9 then 2 else 1)
      (if k ≤ L ∧ L - k < d.v ∧ i < d.k then linElem s d.fmt (d.src + (L - k) * d.stride) i else 0))

/-- The VB a SKEW writes for vector v. -/
def skewVb (s : State) (d : DmaDesc) (v : Nat) : Nat :=
  if d.srcSide = sideNone ∨ linBad s d.fmt (d.src + v * d.stride) d.k then 0x7F80
  else leNat (memRead s (d.srcSide + 2 * v) 2)

def padTo (n : Nat) (l : List Byte) : List Byte := l ++ List.replicate (n - l.length) 0

/-- What SKEW writes, by line. -/
def skewData (s : State) (d : DmaDesc) : List (Nat × List Byte) :=
  let per := d.v + 63
  let hs := if d.fmt = 9 then 2 else 1
  let body := (List.range ((d.k + 63) / 64)).flatMap (fun b => (List.range hs).flatMap (fun h => (List.range per).map (fun L =>
    (d.dst + 64 * ((b * hs + h) * per + L), skewLine s d b h L))))
  let vbs := padTo (64 * ((d.v + 31) / 32)) ((List.range d.v).flatMap (fun v => leBytes 2 (skewVb s d v)))
  let sc (v : Nat) : List Byte := padTo 16 ((memRead s (d.src + v * d.stride) (d.k / 32)).map (fun b => if b = 0xFF then 0 else b))
  let scs := if d.fmt = 6 then padTo (64 * ((d.v + 3) / 4)) ((List.range d.v).flatMap sc) else []
  body ++ (if d.dstSide = sideNone then [] else chunks d.dstSide (vbs ++ scs))

/-- Raw element (i, v) of a skewed operand at a. -/
def skewElem (s : State) (d : DmaDesc) (i v : Nat) : Nat :=
  let per := d.v + 63
  let k := i % 64
  let bad := d.fmt == 6 && leNat (memRead s (d.srcSide + 64 * ((d.v + 31) / 32) + 16 * v + i / 32) 1) == 0xFF
  let x := if d.fmt = 9 then leNat (memRead s (d.src + 64 * ((i / 64 * 2 + k / 32) * per + v + k) + 2 * (k % 32)) 2)
    else leNat (memRead s (d.src + 64 * (i / 64 * per + v + k) + k) 1)
  if elemFinite d.fmt x && !bad then x else 0

/-- What UNSKEW writes, by line. -/
def unskewData (s : State) (d : DmaDesc) : List (Nat × List Byte) :=
  let vec (v : Nat) : List Byte :=
    (if d.fmt = 6 then padTo 16 ((memRead s (d.srcSide + 64 * ((d.v + 31) / 32) + 16 * v) (d.k / 32)).map (fun b => if b = 0xFF then 0 else b)) else [])
      ++ (List.range d.k).flatMap (fun i => leBytes (elemBytes d.fmt) (skewElem s d i v))
  let nonFin (v : Nat) : Bool :=
    if d.fmt = 6 then (memRead s (d.srcSide + 64 * ((d.v + 31) / 32) + 16 * v) (d.k / 32)).any (· == 0xFF)
    else (List.range d.k).any (fun i => !elemFinite d.fmt (leNat (
      let k := i % 64
      if d.fmt = 9 then memRead s (d.src + 64 * ((i / 64 * 2 + k / 32) * (d.v + 63) + v + k) + 2 * (k % 32)) 2
      else memRead s (d.src + 64 * (i / 64 * (d.v + 63) + v + k) + k) 1)))
  let vb (v : Nat) : Nat := if d.srcSide = sideNone ∨ nonFin v then 0x7F80 else leNat (memRead s (d.srcSide + 2 * v) 2)
  ((List.range d.v).flatMap (fun v => chunks (d.dst + v * d.stride) (vec v)))
    ++ (if d.dstSide = sideNone then [] else chunks d.dstSide ((List.range d.v).flatMap (fun v => leBytes 2 (vb v))))

/-- What a descriptor writes, by destination line. -/
def dmaData (s : State) (d : DmaDesc) : List (Nat × List Byte) :=
  match d.op with
  | .copy => chunks d.dst (memRead s d.src d.len)
  | .fill => chunks d.dst ((List.range (d.len / 8)).flatMap (fun _ => leBytes 8 d.pattern))
  | .skew => skewData s d
  | .unskew => unskewData s d

/-- Of each destination extent in row r, the lines from the first to the last that were written (17 R459; log 42). -/
def dmaMarks (d : DmaDesc) (l : List (Nat × List Byte)) (r : Nat) : List (Nat × Nat) :=
  ((dmaExtents d).filter (·.2.2)).filterMap (fun g =>
    let (a, n) := extentLines r g
    match (l.map (fun p => p.1 / 64)).filter (fun x => decide (1310720 * r + a ≤ x) && decide (x < 1310720 * r + a + n)) with
    | [] => none
    | x :: xs => some (xs.foldl min x - 1310720 * r, xs.foldl max x + 1 - xs.foldl min x))

/-- Lines written, provisional under the engine's taint where they lie in scratchpad (17 R460). -/
def dmaWrite (d : DmaDesc) (taint : List (Nat × Nat)) (bad : Bool) (l : List (Nat × List Byte)) (s : State) : State :=
  each l (fun p s => memWrite s p.1 p.2) s |> fun s =>
    if taint.isEmpty && !bad then s
    else each (List.range 12) (fun r s => s.modRow r (fun w => (dmaMarks d l r).foldl (fun w g => provWrite taint bad g.1 g.2 w) w)) s

/-- Room in a row's provisional table for n entries (17 R459). -/
def provRoom (s : State) (r n : Nat) : Bool := decide ((s.row r).prov.length + n ≤ 64)

/-- Room for the entry of one write, which a unit without taint does not need (17 R459, R460). -/
def markFits (s : State) (r : Nat) (taint : List (Nat × Nat)) (bad : Bool) : Bool := (taint.isEmpty && !bad) || provRoom s r 1

/-- Room in the tables of the destination rows for what a tainted engine writes (17 R459, R460). -/
def dmaRoom (s : State) (d : DmaDesc) (taint : List (Nat × Nat)) (bad : Bool) : Bool :=
  (taint.isEmpty && !bad) || (List.range 12).all (fun r => provRoom s r (dmaMarks d (dmaData s d) r).length)

/-! Provisional sources. -/

/-- Origins of the provisional lines a descriptor reads, and whether a line is POISONED. -/
def dmaTaint (s : State) (d : DmaDesc) (t : List (Nat × Nat)) : List (Nat × Nat) :=
  (List.range 12).foldl (fun t r => taintRead (s.row r) t (((dmaExtents d).filter (fun g => !g.2.2)).map (extentLines r))) t
def dmaPoisoned (s : State) (d : DmaDesc) : Bool :=
  (List.range 12).any (fun r => ((dmaExtents d).filter (fun g => !g.2.2)).any (fun g =>
    let (l, n) := extentLines r g; n != 0 && poisonedOver (s.row r) l n))

/-- An origin of another module (17 R458, R466). -/
def foreign (s : State) (o : Nat) : Bool := o / 32 != s.fab.epBase.getD 0 / 16

/-- Whether a descriptor waits for provisional lines: a fifth origin (17 R460), or a line of another module bound for
memory outside scratchpad (17 R466). -/
def dmaHolds (s : State) (d : DmaDesc) (t : List (Nat × Nat)) : Bool :=
  let t' := dmaTaint s d t
  decide (4 < t'.length) || (t'.any (fun p => foreign s p.1) && (dmaExtents d).any (fun g => g.2.2 && decide (2 ^ 44 ≤ g.1)))

/-- The answer of the extents' places to a descriptor (11 R280). -/
def dmaCode (s : State) (d : DmaDesc) : Code :=
  ((dmaExtents d).map (fun g => accessCode s g.2.2 g.1 g.2.1)).find? (· != .ok) |>.getD .ok

/-! Ingress agents (11 R291 to R293; 17 R465). -/

/-- The 512-byte units an ingress transaction touches, as a request. -/
def ingReq (tb a : Nat) (g : Ingress) : ScbReq :=
  let ln := g.addr / 64 % 1310720
  let n := (g.addr % 64 + g.bytes + 63) / 64
  { owner := ownIng a, ranges := ((unitsOver ln n).1, (unitsOver ln n).2, g.isWrite) :: (g.side.map (fun x => (x.1, x.2, false))).toList, tb := tb }

/-- The RSP of the Chavi link (15 R400): to the request with TAG, its ARG echoed. -/
def chaviRsp (tag arg : Nat) (c : Code) (data : List Byte) (s : State) : State :=
  chaviSend { type := 0x09, tag := tag, status := c.val, arg := arg, data := data } s

/-! Sends (14 R390 to R393; 17 R463, R464). -/

/-- Lines a send reads: first LN, lines. -/
def sendLines (x : Binding) : List (Nat × Nat) := (x.dline, 8 * x.dlen) :: (if x.slen = 0 then [] else [(x.sline, 8 * x.slen)])

/-- Origins of the provisional lines a send reads, and whether one is POISONED. -/
def sendOrigins (s : State) (x : Binding) : List (Nat × Nat) := taintRead (s.row x.row) [] (sendLines x)
def sendPoisoned (s : State) (x : Binding) : Bool := (sendLines x).any (fun g => poisonedOver (s.row x.row) g.1 g.2)

/-- A send that must wait before it carries its lines: more than one origin, no room for a pending verdict, or lines of
another module (17 R464, R466). -/
def sendHolds (s : State) (x : Binding) : Bool :=
  let t := sendOrigins s x
  !sendPoisoned s x && !t.isEmpty && (decide (1 < t.length) || decide (64 ≤ (s.bridge x.bridge).pendVerd.length) || t.any (fun p => foreign s p.1))

/-- Cuts bytes into WRITE payloads of n. -/
def payloads (n : Nat) : Nat → Nat → List Byte → List (Nat × List Byte)
  | 0, _, _ => []
  | f + 1, o, l => if l.isEmpty then [] else (o, l.take n) :: payloads n f (o + n) (l.drop n)

/-- Vector v of a compressed send in BQ8 form, and its bound (06 R147, R157; 14 R392). -/
def sendVec (s : State) (x : Binding) (v : Nat) : List Byte × Nat :=
  let base := lnAddr x.row x.dline + v * x.stride
  let es := (List.range x.k).map (fun i =>
    if x.fmt = 9 then bf16Val (leNat (memRead s (base + 2 * i) 2)) else f32Val (leNat (memRead s (base + 4 * i) 4)))
  let bs := (List.range ((x.k + 31) / 32)).map (fun b => bq8Block ((es.drop (32 * b)).take 32))
  let vb := if x.slen = 0 then none else bndOf (leNat (memRead s (lnAddr x.row x.sline + 2 * v) 2))
  let rnd := (bs.map (·.2.2)).foldl bMax (some 0)
  (padTo 16 (bs.map (fun b => BitVec.ofNat 8 b.1)) ++ (bs.flatMap (·.2.1)).map (BitVec.ofNat 8),
    bndBits (match rnd with | some r => bAdd vb (some r) | none => none))

/-- The WRITEs of a send: offset and payload (14 R392). -/
def sendWrites (s : State) (x : Binding) : List (Nat × List Byte) :=
  let cut (o : Nat) (l : List Byte) : List (Nat × List Byte) := payloads 4096 (l.length / 4096 + 1) o l
  if x.comp then
    let vs := (List.range x.v).map (sendVec s x)
    let per := 4096 / (16 + x.k) * (16 + x.k)
    let body := vs.flatMap (·.1)
    payloads per (body.length / per + 1) x.doff body ++ cut x.soff (vs.flatMap (fun v => leBytes 2 v.2))
  else
    cut x.doff (memRead s (lnAddr x.row x.dline) (512 * x.dlen))
      ++ (if x.slen = 0 then [] else cut x.soff (memRead s (lnAddr x.row x.sline) (512 * x.slen)))

def State.binding (s : State) (n : Nat) : Option Binding := mget s.fab.bindings n
def State.modBinding (s : State) (n : Nat) (f : Binding → Binding) : State := s.modFab (fun m => { m with bindings := mmod m.bindings n f })

/-- A send ends badly: the code its binding will halt with (14 R393). -/
def sendFails (n : Nat) (c : Code) (s : State) : State :=
  s.modBinding n (fun x => { x with badCode := if x.badCode = 0 then c.val else x.badCode })

/-- The send engine reads its source lines and injects its WRITEs (14 R370, R391, R392; 17 R463, R464). -/
def sendGo (n : Nat) (s : State) : State :=
  match s.binding n with
  | none => s
  | some x =>
    if sendPoisoned s x then sendFails n .poisoned s
    else if s.fab.epBase = none then sendFails n .fabNoEndpoint s
    else
      let tag := (sendOrigins s x).head?.map (fun p => p.1 * 0x8000 + p.2)
      let ws := sendWrites s x
      let s := s.modBinding n (fun x => { x with left := ws.length, tags := tag.toList, tagBad := false })
      let s := match tag with
        | some t => s.modBridge x.bridge (fun b => { b with pendVerd := b.pendVerd ++ [(t, x.dst)] })
        | none => s
      each ws (fun w => inject x.bridge { dst := x.dst, src := endpoint s x.row, type := 1, prov := tag.isSome, comp := x.comp, flow := x.flow
                                          len := w.2.length, win := x.win, offset := w.1, wepoch := x.wepoch, pseq := tag.getD 0, data := w.2 } 0 n) s

/-- Answers an ingress transaction to its source (11 R293). -/
def ingAnswer (g : Ingress) (c : Code) (data : List Byte) (s : State) : State :=
  match g.kind with
  | 0 => answer g.bridge g.pkt c data s
  | 1 => chaviRsp g.pkt.tag g.pkt.offset c data s
  | 4 => s
  | 3 => if c = .ok then s else sendFails (g.src - 2 ^ 20) c s
  | _ => if c = .ok then s else s.modFetchU ((g.src - 2 ^ 16) / 4) (fun u => { u with
      engines := u.engines.modify ((g.src - 2 ^ 16) % 4) (·.map (fun x => { x with status := if x.status = 0 then c.val else x.status, ended := true })) })

/-- A refused ingress transaction: a record on the data path, and its code to the source (11 R293; 17, Table 17.6). -/
def ingRefuse (r : Nat) (g : Ingress) (c : Code) (s : State) : State :=
  ingAnswer g c [] (errRecord { code := c, unit := uRow r, op := 6, addr := g.addr } s)

/-- The verdict a bridge holds on a tag's origin (17 R465). -/
def verdictOn (s : State) (b tag : Nat) : Option Verdict :=
  ((s.bridge b).verdicts.find? (fun v => decide (s.tb < v.2.2 + 50000) && verdictCovers (originOf v.1) (seqOf v.1) v.2.1 tag)).map (·.2.1)

/-- The lines of a PROV WRITE into scratchpad (17 R465): plain, POISONED, or provisional until a deadline. -/
def provLines (r : Nat) (g : Ingress) (s : State) : State :=
  let l := g.addr / 64 % 1310720
  let n := (g.addr % 64 + g.bytes + 63) / 64
  match g.tag with
  | none => s.modRow r (provWrite g.origins g.poisoned l n)
  | some t =>
    match verdictOn s g.bridge t with
    | some .confirmed => s
    | some .poisoned => s.modRow r (provWrite [] true l n)
    | none => s.modRow r (fun w => { w with prov := w.prov ++ [{ line := (unitsOver l n).1, len := (unitsOver l n).2
                                                                 origins := [(originOf t, seqOf t)], deadline := some (g.since + 50000) }] })

/-- An agent performs its transaction and releases its range (11 R291; 17 R456, R463, R466). -/
def ingPerform (r a : Nat) (g : Ingress) (bad : Bool) (s : State) : State :=
  let l := g.addr / 64 % 1310720
  let n := (g.addr % 64 + g.bytes + 63) / 64
  let free (s : State) : State := s.modRow r (fun w => scbFreeOwner s.tb (ownIng a) { w with ingress := w.ingress.set a none })
  let c := match accessCode s g.isWrite g.addr g.bytes, g.side with
    | .ok, some x => accessCode s false (lnAddr r x.1) (512 * x.2)
    | c, _ => c
  if bad then
    free (ingAnswer g .parityError [] (errRecord { code := .parityError, unit := if g.isWrite then uBridge g.bridge else uBank r (l / 32768), op := 6, addr := g.addr } s))
  else if c ≠ .ok then free (ingRefuse r g c s)
  else if g.kind = 3 then free (sendGo (g.src - 2 ^ 20) s)
  else if g.isWrite then free (ingAnswer g .ok [] (provLines r g (memWrite s g.addr g.data)))
  else if poisonedOver (s.row r) l n then free (ingAnswer g .poisoned [] s)
  else free (ingAnswer g .ok (memRead s g.addr g.bytes) s)

/-! Windows (14 R387 to R389). -/

/-- The checks of Table 14.7; `home` is DST's endpoint index, none for the Chavi host (15 R402). -/
def winCheck (s : State) (win wepoch : Nat) (home : Option Nat) (src : Nat) (wr : Bool) (off len : Nat) : Code :=
  match mget s.fab.windows win with
  | none => .windowDenied
  | some w =>
    if w.isOpen = false then .windowDenied
    else if wepoch ≠ w.epoch then .windowStale
    else if home.any (· != w.home) then .windowDenied
    else if !w.srcf.any (fun p => src &&& p.2 == p.1) then .windowDenied
    else if (if wr then w.permW else w.permR) = false then .windowDenied
    else if w.length < off + len then .windowRange
    else .ok

/-- A request that passed a window's checks and is not performed yet (14 R389). -/
def winBusy (s : State) (n : Nat) : Bool :=
  let hit (g : Ingress) : Bool := (decide (g.kind ≤ 1) || g.kind == 4) && g.pkt.win == n
  s.rows.any (fun w => w.arrivals.any hit || w.ingress.any (·.any hit)) || s.fab.bridges.any (fun x => x.holdBuf.any (fun h => h.1.win == n))

/-- A window opens, is mapped again, or closes: its EPOCH moves on (14, Table 14.6). -/
def winSet (n : Nat) (w : Window) (s : State) : State :=
  s.modFab (fun f => { f with windows := mset f.windows n { w with epoch := (((mget f.windows n).getD {}).epoch + 1) % 2 ^ 32 } })
def winEpoch (s : State) (n : Nat) : Nat := ((mget s.fab.windows n).getD {}).epoch

/-- MAP_WINDOW and UNMAP_WINDOW take effect and complete when no such request is left (14 R389; 16 R444). -/
def windowsSettle (s : State) : State :=
  each s.fab.winNext (fun p s =>
    if winBusy s p.1 then s
    else
      let s := winSet p.1 p.2 (s.modFab (fun f => { f with winNext := mdel f.winNext p.1 }))
      completeWait wWindow p.1 .ok (leBytes 4 (winEpoch s p.1)) [] s) s

/-- A transaction that must wait: a provisional line reaches no other module and no HREAD (17 R466, R468), a send waits for its
origins, and a write whose lines will be provisional or POISONED for an entry of the table (17 R459). -/
def ingHolds (s : State) (r : Nat) (g : Ingress) : Bool :=
  if g.kind = 3 then (s.binding (g.src - 2 ^ 20)).any (sendHolds s)
  else if g.isWrite then (g.tag.isSome || !g.origins.isEmpty || g.poisoned) && !provRoom s r 1
  else !(provOrigins (s.row r) (g.addr / 64 % 1310720) ((g.addr % 64 + g.bytes + 63) / 64)).isEmpty

end Sys2Proof.Machine
end

