-- ==== Sys2Proof/Machine/RowRegs.lean ====
section
/-! DEFINITION. The row register space (11 R273, R274, R282 to R284, R290, R304; 08 R221 to R223; 09 R241; 10 R257, R258):
what a read returns and clears, and what a write does, by its access codes (00 R10). Offsets not listed read 0 and
ignore writes. -/

namespace Sys2Proof.Machine

def bankCode : BankSt → Nat
  | .on => 0 | .ret => 1 | .off => 2 | .entering => 3 | .waking => 4 | .scrub => 5 | .retired => 6

/-- SCB_STATUS (11 R273). -/
def scbStatus (w : Row) : Nat :=
  w.scb.length + 2 ^ 9 * w.scbPend.length + 2 ^ 16 * w.hiwat + 2 ^ 25 * b2n w.fullSeen

/-- SCB_BANKLO and SCB_BANKHI (11 R290). -/
def scbBanks (w : Row) (lo : Nat) : Nat :=
  (List.range 20).foldl (fun v b => v + 8 ^ b * bankCode (nth w.banks (lo + b)).st) 0

/-- SCB_ENTRYn, 128 bits (11 R274). -/
def scbEntry (w : Row) (n : Nat) : Nat :=
  match w.scb[n]? with
  | some e => e.line + 2 ^ 21 * e.len + 2 ^ 34 * b2n e.wr + 2 ^ 35 + 2 ^ 36 * e.owner + 2 ^ 64 * e.tb
  | none => 0

/-- AST_STATUS (08 R221). -/
def astStatus (t : Tile) : Nat :=
  (if t.halted then 2 else if t.queue.isEmpty && t.issued.isEmpty then 0 else 1) + 4 * t.queue.length + 2 ^ 9 * b2n t.run.isSome
    + 2 ^ 10 * b2n t.pushRefused + 2 ^ 11 * b2n t.runRefused + 2 ^ 12 * t.mode + 2 ^ 16 * t.fault + 2 ^ 32 * t.fwordF + 2 ^ 48 * t.pcode

/-- Ticks left of a core's watchdog (10 R257, R259). -/
def wdTicks (tb : Nat) (c : Core) : Nat :=
  match c.st with
  | .running => c.wdAt - tb
  | .waiting => if c.wait.any (·.isTb) then c.wdLeft else c.wdAt - tb
  | _ => 0

/-- PRM_STATUS (10 R257). -/
def prmStatus (tb : Nat) (c : Core) : Nat :=
  (match c.st with | .running => 0 | .waiting => 1 | .halted => 2 | .reset => 3) + 4 * b2n c.wdog + 8 * b2n c.parity
    + 2 ^ 16 * c.hcode + 2 ^ 32 * (wdTicks tb c / 1000)

/-- DMA_STATUS (11 R283). -/
def dmaStatus (x : Dma) : Nat :=
  (if x.active then (if x.waitResv then 2 else 1) else if 64 ≤ x.cpl.length ∧ x.queue.isEmpty = false then 3 else 0)
    + 4 * (x.queue.length + x.held.length) + 2 ^ 8 * b2n x.subRefused + 2 ^ 9 * x.cpl.length + 2 ^ 16 * x.scode

/-- A record of DMA_CPL (11 R284). -/
def cplWord (c : DmaCpl) : Nat := c.tag + 2 ^ 16 * c.status + 2 ^ 32 + 2 ^ 33 * c.done + 2 ^ 64 * c.tb

/-- The 8-byte word at an offset that is a multiple of 8, as it stands. -/
def rowWord (s : State) (r o : Nat) : Nat :=
  let w := s.row r
  if o = 0 then scbStatus w
  else if o = 0x100 then scbBanks w 0
  else if o = 0x108 then scbBanks w 20
  else if 0x1000 ≤ o ∧ o < 0x2000 then bits (scbEntry w ((o - 0x1000) / 16)) (8 * (o % 16)) 64
  else if 0x2000 ≤ o ∧ o < 0x2400 then
    let t := nth w.tiles ((o - 0x2000) / 0x100)
    if o % 0x100 = 0 then astStatus t else if o % 0x100 = 0x30 then t.planesRun + 2 ^ 32 * t.planesSkip else 0
  else if 0x3000 ≤ o ∧ o < 0x3800 then
    let c := nth w.cores ((o - 0x3000) / 0x100)
    if o % 0x100 = 0 then prmStatus s.tb c else if o % 0x100 = 8 then c.period else 0
  else if 0x4000 ≤ o ∧ o < 0x4400 then
    let x := nth w.dma ((o - 0x4000) / 0x100)
    if o % 0x100 = 0x40 then dmaStatus x
    else if o % 0x100 = 0x50 then bits ((x.cpl.head?.map cplWord).getD 0) 0 64
    else if o % 0x100 = 0x58 then bits ((x.cpl.head?.map cplWord).getD 0) 64 64
    else 0
  else 0

/-- The oldest record leaves the FIFO; a record that waits takes the place, and a submission that waits may enter the
queue (11 R281, R284). -/
def dmaPop (x : Dma) : Dma :=
  match x.cpl with
  | [] => x
  | _ :: rest => drainSub (match x.held with
      | h :: t => { x with cpl := rest ++ [h], held := t }
      | [] => { x with cpl := rest })

/-- What a read of the bytes [o, o + n) clears (00 R10; DMA_CPL by a 128-bit read alone, 11 R284). -/
def rowReadClears (r o n : Nat) (s : State) : State :=
  let hits (a m : Nat) : Bool := decide (o < a + m) && decide (a < o + n)
  let s := if hits 2 2 then s.modRow r (fun w => { w with hiwat := 0, fullSeen := if hits 3 1 then false else w.fullSeen })
    else if hits 3 1 then s.modRow r (fun w => { w with fullSeen := false }) else s
  let t := (o - 0x2000) / 0x100
  let p := o % 0x100
  let s := if 0x2000 ≤ o ∧ o < 0x2400 then s.modTile r t (fun x => { x with
      planesRun := if p < 0x34 ∧ 0x30 < p + n then 0 else x.planesRun
      planesSkip := if p < 0x38 ∧ 0x34 < p + n then 0 else x.planesSkip }) else s
  if 0x4000 ≤ o ∧ o < 0x4400 ∧ p = 0x50 ∧ n = 16 then s.modDma r ((o - 0x4000) / 0x100) dmaPop else s

/-- A read of n bytes of the row register space: the bytes, and the state after it. -/
def rowRegRead (r o n : Nat) (s : State) : List Byte × State :=
  ((List.range n).map (fun i => BitVec.ofNat 8 (bits (rowWord s r ((o + i) / 8 * 8)) (8 * ((o + i) % 8)) 8)), rowReadClears r o n s)

/-- A descriptor from its eight words (11, Table 11.2). -/
def dmaDescOf (ws : List Nat) (byCore : Bool) : DmaDesc :=
  let w (i : Nat) : Nat := nth ws i
  { op := (match bits (w 0) 0 4 with | 1 => .skew | 2 => .unskew | 3 => .fill | _ => .copy)
    fmt := bits (w 0) 8 4, tag := bits (w 0) 16 16, v := bits (w 0) 32 16, k := bits (w 0) 48 16
    src := w 1, dst := w 2, srcSide := w 3, dstSide := w 4, len := bits (w 5) 0 32, stride := bits (w 5) 32 32
    pattern := w 6, rsvOk := decide (bits (w 0) 0 4 < 4) && bits (w 0) 4 4 == 0 && bits (w 0) 12 4 == 0 && w 7 == 0
    byCore := byCore }

/-- A 64-bit write of descriptor word i; word 7 submits (11 R282). -/
def dmaStage (r e i v : Nat) (byCore : Bool) (s : State) : State :=
  let s := s.modDma r e (fun x => { x with stage := (x.stage ++ List.replicate (8 - x.stage.length) 0).set i (BitVec.ofNat 64 v) })
  if i = 7 then dmaSubmit r e (dmaDescOf ((s.dmaE r e).stage.map (·.toNat)) byCore) s else s

/-- A write of n bytes of value v to the row register space. -/
def rowRegWrite (r o n v : Nat) (byCore : Bool) (s : State) : State :=
  let p := o % 0x100
  let one (i : Nat) : Bool := decide (8 * p ≤ i) && bit v (i - 8 * p) && decide (i < 8 * (p + n))
  if 0x2000 ≤ o ∧ o < 0x2400 then
    let t := (o - 0x2000) / 0x100
    if p = 0x10 ∧ n = 8 then runWrite r t (bits v 0 21) (bits v 21 2) (bits v 24 16) s
    else if p = 0x20 ∧ n = 16 then push r t (BitVec.ofNat 128 v) s
    else if p = 0x20 ∧ n = 8 then s.modTile r t (fun x => { x with pushLow := BitVec.ofNat 64 v })
    else if p = 0x28 ∧ n = 8 then push r t (BitVec.ofNat 128 ((s.tile r t).pushLow.toNat + 2 ^ 64 * (v % 2 ^ 64))) s
    else if p < 8 then s.modTile r t (fun x => { x with
      pushRefused := x.pushRefused && !one 10, runRefused := x.runRefused && !one 11 })
    else s
  else if 0x3000 ≤ o ∧ o < 0x3800 ∧ p < 8 then
    s.modCore r ((o - 0x3000) / 0x100) (fun c => { c with wdog := c.wdog && !one 2, parity := c.parity && !one 3 })
  else if 0x4000 ≤ o ∧ o < 0x4400 then
    let e := (o - 0x4000) / 0x100
    if p < 0x40 ∧ p % 8 = 0 ∧ n = 8 then dmaStage r e (p / 8) v byCore s
    else if 0x40 ≤ p ∧ p < 0x48 then s.modDma r e (fun x => { x with
      subRefused := x.subRefused && !(decide (p = 0x41 ∨ (p = 0x40 ∧ 2 ≤ n)) && bit v (if p = 0x41 then 0 else 8)) })
    else s
  else s

end Sys2Proof.Machine
end

