-- ==== Sys2Proof/Machine/Fp.lean ====
section
/-! DEFINITION. The F and D arithmetic of the Primrose cores: IEEE 754, subnormals included, with the RISC-V results and
flags (10 R242, Table 10.1; PRESUMED from the RISC-V specification it names, log 14). Every function answers bits and
fflags (NV 16, DZ 8, OF 4, UF 2, NX 1). -/

namespace Sys2Proof.Machine

/-- A binary format: exponent bits and fraction bits. -/
structure FFmt where
  w : Nat
  f : Nat
  deriving DecidableEq, Repr

def fmtS : FFmt := { w := 8, f := 23 }
def fmtD : FFmt := { w := 11, f := 52 }

def FFmt.bias (m : FFmt) : Int := 2 ^ (m.w - 1) - 1
def FFmt.emin (m : FFmt) : Int := 1 - m.bias
def FFmt.size (m : FFmt) : Nat := 1 + m.w + m.f
def FFmt.inf (m : FFmt) (neg : Bool) : Nat := (if neg then 2 ^ (m.w + m.f) else 0) + (2 ^ m.w - 1) * 2 ^ m.f
def FFmt.cnan (m : FFmt) : Nat := m.inf false + 2 ^ (m.f - 1)
def FFmt.zero (m : FFmt) (neg : Bool) : Nat := if neg then 2 ^ (m.w + m.f) else 0
def FFmt.top (m : FFmt) : Rat := ((2 ^ (m.f + 1) - 1 : Nat) : Rat) * p2 (m.bias - m.f)

def fpVal (m : FFmt) (v : Nat) : FV := floatVal m.f m.w m.bias false v
def fpSNan (m : FFmt) (v : Nat) : Bool := fpVal m v == .nan && !(bit v (m.f - 1))
def fpSign (m : FFmt) (v : Nat) : Bool := bit v (m.w + m.f)

/-- Rounding to an integer: 0 RNE, 1 RTZ, 2 RDN, 3 RUP, 4 RMM; 6 to odd (the vector narrowing that names it). -/
def rvInt (rm : Nat) (q : Rat) : Int :=
  let fl := q.floor
  match rm with
  | 0 => rneInt q
  | 1 => if q < 0 then -((-q).floor) else fl
  | 2 => fl
  | 3 => -((-q).floor)
  | 4 => if q < 0 then -((-q + mkRat 1 2).floor) else (q + mkRat 1 2).floor
  | _ => if q = fl then fl else if fl % 2 = 0 then fl + 1 else fl

/-- What an overflow rounds to. -/
def fpOver (m : FFmt) (rm : Nat) (neg : Bool) : Nat :=
  if rm = 0 ∨ rm = 4 ∨ (rm = 2 ∧ neg) ∨ (rm = 3 ∧ neg = false) then m.inf neg else m.inf neg - 1

/-- An exact value rounded to the format; `neg` is the sign of a zero. Tininess is detected after rounding. -/
def fpRound (m : FFmt) (rm : Nat) (neg : Bool) (x : Rat) : Nat × Nat :=
  if x = 0 then (m.zero neg, 0)
  else
    let q := p2 (stepOf m.f m.emin x)
    let r : Rat := (rvInt rm (x / q) : Rat) * q
    if m.top < rabs r then (fpOver m rm (decide (x < 0)), 5)
    else
      let u := p2 (ilog2 x - m.f)
      let tiny := decide (rabs ((rvInt rm (x / u) : Rat) * u) < p2 m.emin)
      (floatBits m.f m.w m.bias (decide (x < 0)) r, if r = x then 0 else if tiny then 3 else 1)

/-- The NaN an operation answers, NV for a signalling operand. -/
def fpNan (m : FFmt) (l : List Nat) : Nat × Nat := (m.cnan, if l.any (fpSNan m) then 16 else 0)

def fpNeg (m : FFmt) (v : Nat) : Nat := if fpSign m v then v - 2 ^ (m.w + m.f) else v + 2 ^ (m.w + m.f)

def fpAdd (m : FFmt) (rm a b : Nat) : Nat × Nat :=
  match fpVal m a, fpVal m b with
  | .nan, _ => fpNan m [a, b]
  | _, .nan => fpNan m [a, b]
  | .inf s, .inf t => if s = t then (m.inf s, 0) else (m.cnan, 16)
  | .inf s, _ => (m.inf s, 0)
  | _, .inf t => (m.inf t, 0)
  | .fin s x, .fin t y => fpRound m rm (if x = 0 ∧ y = 0 ∧ s = t then s else rm == 2) (x + y)

def fpSub (m : FFmt) (rm a b : Nat) : Nat × Nat :=
  if fpVal m b = .nan then fpNan m [a, b] else fpAdd m rm a (fpNeg m b)

def fpMul (m : FFmt) (rm a b : Nat) : Nat × Nat :=
  let s := fpSign m a != fpSign m b
  match fpVal m a, fpVal m b with
  | .nan, _ => fpNan m [a, b]
  | _, .nan => fpNan m [a, b]
  | .inf _, .fin _ y => if y = 0 then (m.cnan, 16) else (m.inf s, 0)
  | .fin _ x, .inf _ => if x = 0 then (m.cnan, 16) else (m.inf s, 0)
  | .inf _, .inf _ => (m.inf s, 0)
  | .fin _ x, .fin _ y => fpRound m rm s (x * y)

def fpDiv (m : FFmt) (rm a b : Nat) : Nat × Nat :=
  let s := fpSign m a != fpSign m b
  match fpVal m a, fpVal m b with
  | .nan, _ => fpNan m [a, b]
  | _, .nan => fpNan m [a, b]
  | .inf _, .inf _ => (m.cnan, 16)
  | .inf _, _ => (m.inf s, 0)
  | _, .inf _ => (m.zero s, 0)
  | .fin _ x, .fin _ y =>
    if y = 0 then (if x = 0 then (m.cnan, 16) else (m.inf s, 8)) else fpRound m rm s (x / y)

/-- a × b + c with one rounding. -/
def fpFma (m : FFmt) (rm a b c : Nat) : Nat × Nat :=
  let s := fpSign m a != fpSign m b
  let nanOf (bad : Bool) : Nat × Nat := (m.cnan, if bad || [a, b, c].any (fpSNan m) then 16 else 0)
  let addInf : Nat × Nat := match fpVal m c with
    | .nan => nanOf false
    | .inf t => if s = t then (m.inf s, 0) else (m.cnan, 16)
    | .fin _ _ => (m.inf s, 0)
  match fpVal m a, fpVal m b with
  | .nan, _ => nanOf false
  | _, .nan => nanOf false
  | .inf _, .fin _ y => if y = 0 then nanOf true else addInf
  | .fin _ x, .inf _ => if x = 0 then nanOf true else addInf
  | .inf _, .inf _ => addInf
  | .fin _ x, .fin _ y => match fpVal m c with
    | .nan => nanOf false
    | .inf t => (m.inf t, 0)
    | .fin t z => fpRound m rm (if x * y = 0 ∧ z = 0 ∧ s = t then s else rm == 2) (x * y + z)

/-- Integer square root, by bits. -/
def isqrt (n : Nat) : Nat :=
  ((List.range 64).map (63 - ·)).foldl (fun r b => if (r + 2 ^ b) * (r + 2 ^ b) ≤ n then r + 2 ^ b else r) 0

/-- A value that rounds as √x does: the root to f + 3 bits or more, with a last bit that says it was not exact. -/
def sqrtSticky (f : Nat) (x : Rat) : Rat :=
  let k : Int := f + 4 - ilog2 x / 2
  let t := x * p2 (2 * k)
  let r := isqrt t.floor.toNat
  if ((r * r : Nat) : Rat) = t then (r : Rat) * p2 (-k) else ((2 * r + 1 : Nat) : Rat) * p2 (-k - 1)

def fpSqrt (m : FFmt) (rm a : Nat) : Nat × Nat :=
  match fpVal m a with
  | .nan => fpNan m [a]
  | .inf s => if s then (m.cnan, 16) else (m.inf false, 0)
  | .fin s x => if x = 0 then (m.zero s, 0) else if s then (m.cnan, 16) else fpRound m rm false (sqrtSticky m.f x)

/-- a < b and a ≤ b over values that are not NaN, infinities included. -/
def fvLe (strict : Bool) (a b : FV) : Bool :=
  match a, b with
  | .fin _ x, .fin _ y => if strict then decide (x < y) else decide (x ≤ y)
  | .inf s, .inf t => if strict then s && !t else s || !t
  | .inf s, _ => s
  | _, .inf t => !t
  | _, _ => false

/-- Comparisons: 0 FLE, 1 FLT, 2 FEQ. -/
def fpCmp (m : FFmt) (op a b : Nat) : Nat × Nat :=
  if fpVal m a = .nan ∨ fpVal m b = .nan then (0, if op ≠ 2 ∨ fpSNan m a ∨ fpSNan m b then 16 else 0)
  else match op with
    | 0 => (b2n (fvLe false (fpVal m a) (fpVal m b)), 0)
    | 1 => (b2n (fvLe true (fpVal m a) (fpVal m b)), 0)
    | _ => (b2n (fvLe false (fpVal m a) (fpVal m b) && fvLe false (fpVal m b) (fpVal m a)), 0)

/-- FMIN and FMAX: −0 below +0, a NaN gives the other operand. -/
def fpMinMax (m : FFmt) (isMax : Bool) (a b : Nat) : Nat × Nat :=
  let fl := if fpSNan m a ∨ fpSNan m b then 16 else 0
  if fpVal m a = .nan ∧ fpVal m b = .nan then (m.cnan, fl)
  else if fpVal m a = .nan then (b, fl)
  else if fpVal m b = .nan then (a, fl)
  else
    let lt := fvLe true (fpVal m a) (fpVal m b) || (!fvLe true (fpVal m b) (fpVal m a) && fpSign m a)
    (if lt != isMax then a else b, fl)

/-- FCLASS. -/
def fpClass (m : FFmt) (v : Nat) : Nat :=
  match fpVal m v with
  | .nan => if fpSNan m v then 256 else 512
  | .inf s => if s then 1 else 128
  | .fin s x =>
    if x = 0 then (if s then 8 else 16)
    else if rabs x < p2 m.emin then (if s then 4 else 32)
    else (if s then 2 else 64)

/-- Sign injection: 0 SGNJ, 1 SGNJN, 2 SGNJX. -/
def fpSgnj (m : FFmt) (op a b : Nat) : Nat :=
  let s := match op with | 0 => fpSign m b | 1 => !fpSign m b | _ => fpSign m a != fpSign m b
  m.zero s + a % 2 ^ (m.w + m.f)

/-- To an integer of n bits, saturating; the result is its n-bit field. -/
def fpToInt (m : FFmt) (rm n : Nat) (signed : Bool) (v : Nat) : Nat × Nat :=
  let hi : Int := if signed then 2 ^ (n - 1) - 1 else 2 ^ n - 1
  let lo : Int := if signed then -(2 ^ (n - 1)) else 0
  match fpVal m v with
  | .nan => (ofSigned n hi, 16)
  | .inf s => (ofSigned n (if s then lo else hi), 16)
  | .fin _ x =>
    let i := rvInt rm x
    if hi < i then (ofSigned n hi, 16) else if i < lo then (ofSigned n lo, 16)
    else (ofSigned n i, if (i : Rat) = x then 0 else 1)

def fpOfInt (m : FFmt) (rm : Nat) (i : Int) : Nat × Nat := fpRound m rm false (i : Rat)

/-- Between formats. -/
def fpConv (a b : FFmt) (rm v : Nat) : Nat × Nat :=
  match fpVal a v with
  | .nan => (b.cnan, if fpSNan a v then 16 else 0)
  | .inf s => (b.inf s, 0)
  | .fin s x => fpRound b rm s x

end Sys2Proof.Machine
end

