-- ==== Sys2Proof/Machine/Riscv.lean ====
section
/-! DEFINITION. The scalar instructions of a Primrose core, RV64GC with Zicsr and Zifencei (10 R242, Table 10.1;
PRESUMED from the RISC-V specifications it names, log 14): compressed forms, integer and floating-point arithmetic,
CSRs and traps. Loads and stores are in PrmOps. -/

namespace Sys2Proof.Machine

abbrev X64 := BitVec 64

def x64 (i : Int) : X64 := BitVec.ofInt 64 i
/-- Sign extension of the low n bits of a number. -/
def sx (n v : Nat) : X64 := x64 (toSigned n v)

/-! Fields of a 32-bit instruction. -/
def rvOp (w : Nat) : Nat := w % 128
def rvRd (w : Nat) : Nat := bits w 7 5
def rvF3 (w : Nat) : Nat := bits w 12 3
def rvRs1 (w : Nat) : Nat := bits w 15 5
def rvRs2 (w : Nat) : Nat := bits w 20 5
def rvF7 (w : Nat) : Nat := bits w 25 7
def rvRs3 (w : Nat) : Nat := bits w 27 5
def immI (w : Nat) : X64 := sx 12 (bits w 20 12)
def immS (w : Nat) : X64 := sx 12 (bits w 7 5 + 32 * bits w 25 7)
def immB (w : Nat) : X64 := sx 13 (2 * bits w 8 4 + 32 * bits w 25 6 + 2048 * bits w 7 1 + 4096 * bits w 31 1)
def immU (w : Nat) : X64 := sx 32 (4096 * bits w 12 20)
def immJ (w : Nat) : X64 :=
  sx 21 (2 * bits w 21 10 + 2048 * bits w 20 1 + 4096 * bits w 12 8 + 1048576 * bits w 31 1)

/-! Encoders of the 32-bit forms that compressed instructions stand for. -/
def encR (op f3 f7 rd rs1 rs2 : Nat) : Nat := op + 128 * rd + 4096 * f3 + 32768 * rs1 + 1048576 * rs2 + 33554432 * f7
def encI (op f3 rd rs1 imm : Nat) : Nat := op + 128 * rd + 4096 * f3 + 32768 * rs1 + 1048576 * (imm % 4096)
def encS (op f3 rs1 rs2 imm : Nat) : Nat := encR op f3 (imm / 32 % 128) (imm % 32) rs1 rs2
def encB (f3 rs1 rs2 imm : Nat) : Nat :=
  encR 0x63 f3 (bits imm 5 6 + 64 * bits imm 12 1) (bits imm 11 1 + 2 * bits imm 1 4) rs1 rs2
def encJ (rd imm : Nat) : Nat :=
  0x6F + 128 * rd + 4096 * bits imm 12 8 + 1048576 * bits imm 11 1 + 2097152 * bits imm 1 10 + 2147483648 * bits imm 20 1

/-- A sign-extended field, as an unsigned number wide enough for the encoders. -/
def ext (n v : Nat) : Nat := ofSigned 32 (toSigned n v)

/-- The 32-bit instruction a 16-bit one stands for; none where it is illegal or reserved. -/
def expandC (h : Nat) : Option Nat :=
  let rdp := 8 + bits h 2 3
  let rsp := 8 + bits h 7 3
  let rd := bits h 7 5
  let r2 := bits h 2 5
  let i6 := bits h 2 5 + 32 * bits h 12 1
  let wOff := 4 * bits h 6 1 + 8 * bits h 10 3 + 64 * bits h 5 1
  let dOff := 8 * bits h 10 3 + 64 * bits h 5 2
  let jOff := ext 12 (2 * bits h 3 3 + 16 * bits h 11 1 + 32 * bits h 2 1 + 64 * bits h 7 1 + 128 * bits h 6 1
    + 256 * bits h 9 2 + 1024 * bits h 8 1 + 2048 * bits h 12 1)
  let bOff := ext 9 (2 * bits h 3 2 + 8 * bits h 10 2 + 32 * bits h 2 1 + 64 * bits h 5 2 + 256 * bits h 12 1)
  match h % 4, h / 8192 with
  | 0, 0 =>
    let imm := 4 * bits h 6 1 + 8 * bits h 5 1 + 16 * bits h 11 2 + 64 * bits h 7 4
    if imm = 0 then none else some (encI 0x13 0 rdp 2 imm)
  | 0, 1 => some (encI 0x07 3 rdp rsp dOff)
  | 0, 2 => some (encI 0x03 2 rdp rsp wOff)
  | 0, 3 => some (encI 0x03 3 rdp rsp dOff)
  | 0, 5 => some (encS 0x27 3 rsp rdp dOff)
  | 0, 6 => some (encS 0x23 2 rsp rdp wOff)
  | 0, 7 => some (encS 0x23 3 rsp rdp dOff)
  | 1, 0 => some (encI 0x13 0 rd rd (ext 6 i6))
  | 1, 1 => if rd = 0 then none else some (encI 0x1B 0 rd rd (ext 6 i6))
  | 1, 2 => some (encI 0x13 0 rd 0 (ext 6 i6))
  | 1, 3 =>
    if rd = 2 then
      let imm := 16 * bits h 6 1 + 32 * bits h 2 1 + 64 * bits h 5 1 + 128 * bits h 3 2 + 512 * bits h 12 1
      if imm = 0 then none else some (encI 0x13 0 2 2 (ext 10 imm))
    else if i6 = 0 then none else some (0x37 + 128 * rd + 4096 * (ext 6 i6 % 1048576))
  | 1, 4 =>
    match bits h 10 2 with
    | 0 => some (encI 0x13 5 rsp rsp i6)
    | 1 => some (encI 0x13 5 rsp rsp (1024 + i6))
    | 2 => some (encI 0x13 7 rsp rsp (ext 6 i6))
    | _ =>
      match bits h 12 1, bits h 5 2 with
      | 0, 0 => some (encR 0x33 0 0x20 rsp rsp rdp)
      | 0, 1 => some (encR 0x33 4 0 rsp rsp rdp)
      | 0, 2 => some (encR 0x33 6 0 rsp rsp rdp)
      | 0, _ => some (encR 0x33 7 0 rsp rsp rdp)
      | _, 0 => some (encR 0x3B 0 0x20 rsp rsp rdp)
      | _, 1 => some (encR 0x3B 0 0 rsp rsp rdp)
      | _, _ => none
  | 1, 5 => some (encJ 0 jOff)
  | 1, 6 => some (encB 0 rsp 0 bOff)
  | 1, 7 => some (encB 1 rsp 0 bOff)
  | 2, 0 => some (encI 0x13 1 rd rd i6)
  | 2, 1 => some (encI 0x07 3 rd 2 (8 * bits h 5 2 + 32 * bits h 12 1 + 64 * bits h 2 3))
  | 2, 2 => if rd = 0 then none else some (encI 0x03 2 rd 2 (4 * bits h 4 3 + 32 * bits h 12 1 + 64 * bits h 2 2))
  | 2, 3 => if rd = 0 then none else some (encI 0x03 3 rd 2 (8 * bits h 5 2 + 32 * bits h 12 1 + 64 * bits h 2 3))
  | 2, 4 =>
    if bits h 12 1 = 0 then
      (if r2 = 0 then (if rd = 0 then none else some (encI 0x67 0 0 rd 0)) else some (encR 0x33 0 0 rd 0 r2))
    else if r2 = 0 then (if rd = 0 then some 0x00100073 else some (encI 0x67 0 1 rd 0))
    else some (encR 0x33 0 0 rd rd r2)
  | 2, 5 => some (encS 0x27 3 2 r2 (8 * bits h 10 3 + 64 * bits h 7 3))
  | 2, 6 => some (encS 0x23 2 2 r2 (4 * bits h 9 4 + 64 * bits h 7 2))
  | 2, 7 => some (encS 0x23 3 2 r2 (8 * bits h 10 3 + 64 * bits h 7 3))
  | _, _ => none

/-! Registers. -/

def Core.xr (c : Core) (i : Nat) : X64 := if i = 0 then 0 else nth c.x i
/-- Writes an integer register; x0 discards (10 R242). -/
def Core.setX (c : Core) (rd v : Nat) : Core :=
  if rd = 0 then c else { c with x := c.x.set rd (BitVec.ofNat 64 v) }
def Core.fr (c : Core) (i : Nat) : Nat := (nth c.f i).toNat

/-! CSRs. -/

/-- A CSR as held; vtype starts with vill set. -/
def Core.csrv (c : Core) (n : Nat) : Nat := ((mget c.csr n).getD (if n = 0xC21 then 2 ^ 63 else 0)).toNat
def Core.setCsr (c : Core) (n v : Nat) : Core := { c with csr := mset c.csr n (BitVec.ofNat 64 v) }

/-- mstatus.FS and VS. -/
def Core.fs (c : Core) : Nat := bits (c.csrv 0x300) 13 2
def Core.vs (c : Core) : Nat := bits (c.csrv 0x300) 9 2
def Core.dirtyF (c : Core) : Core := c.setCsr 0x300 (c.csrv 0x300 ||| 0x6000)
def Core.dirtyV (c : Core) : Core := c.setCsr 0x300 (c.csrv 0x300 ||| 0x600)

/-- Accrues floating-point exception flags. -/
def Core.flags (c : Core) (fl : Nat) : Core := if fl = 0 then c else (c.setCsr 3 (c.csrv 3 ||| fl)).dirtyF

/-- misa: RV64 with A C D F I M V (PRESUMED, log 14). -/
def misaVal : Nat := 2 ^ 63 + 0x20112D

/-- What CSR n reads as: none where there is no such CSR, or its unit is off. `fv` is the value of a counter whose value
orders nothing, `hid` an identification the spec gives no value. -/
def csrRead (c : Core) (tb fv hid n : Nat) : Option Nat :=
  let fOn (v : Nat) : Option Nat := if c.fs = 0 then none else some v
  let vOn (v : Nat) : Option Nat := if c.vs = 0 then none else some v
  match n with
  | 0x001 => fOn (c.csrv 3 % 32)
  | 0x002 => fOn (c.csrv 3 / 32 % 8)
  | 0x003 => fOn (c.csrv 3 % 256)
  | 0x008 => vOn (c.csrv 8)
  | 0x009 => vOn (c.csrv 9)
  | 0x00A => vOn (c.csrv 0xA)
  | 0x00F => vOn (c.csrv 9 + 2 * c.csrv 0xA)
  | 0xC20 => vOn (c.csrv 0xC20)
  | 0xC21 => vOn (c.csrv 0xC21)
  | 0xC22 => vOn 64
  | 0xC01 => some tb
  | 0xC00 | 0xC02 | 0xB00 | 0xB02 => some fv
  | 0x300 => some (c.csrv 0x300 ||| (if c.fs = 3 ∨ c.vs = 3 then 2 ^ 63 else 0) ||| 0x1800)
  | 0x301 => some misaVal
  | 0x304 | 0x344 | 0x320 => some 0
  | 0x305 => some c.mtvec.toNat
  | 0x340 | 0x341 | 0x342 | 0x343 => some (c.csrv n)
  | 0xF11 | 0xF12 | 0xF13 | 0xF14 | 0xF15 => some hid
  | _ => if (0xC03 ≤ n ∧ n ≤ 0xC1F) ∨ (0xB03 ≤ n ∧ n ≤ 0xB1F) ∨ (0x323 ≤ n ∧ n ≤ 0x33F) then some 0 else none

/-- A write of CSR n that exists and may be written. -/
def csrWrite (c : Core) (n v : Nat) : Core :=
  match n with
  | 0x001 => (c.setCsr 3 (c.csrv 3 / 32 * 32 + v % 32)).dirtyF
  | 0x002 => (c.setCsr 3 (c.csrv 3 % 32 + 32 * (v % 8))).dirtyF
  | 0x003 => (c.setCsr 3 (v % 256)).dirtyF
  | 0x008 => (c.setCsr 8 (v % 512)).dirtyV
  | 0x009 => (c.setCsr 9 (v % 2)).dirtyV
  | 0x00A => (c.setCsr 0xA (v % 4)).dirtyV
  | 0x00F => ((c.setCsr 9 (v % 2)).setCsr 0xA (v / 2 % 4)).dirtyV
  | 0x300 => c.setCsr 0x300 ((v &&& 0x6688) ||| 0x1800)
  | 0x305 => { c with mtvec := BitVec.ofNat 64 (v / 4 * 4 + (if v % 4 < 2 then v % 4 else 0)) }
  | 0x340 | 0x342 | 0x343 => c.setCsr n v
  | 0x341 => c.setCsr n (v / 2 * 2)
  | _ => c

/-- A trap (10 R260; the privileged specification): mepc, mcause, mtval, mstatus, then mtvec. -/
def Core.trap (c : Core) (cause tval : Nat) : Core :=
  let st := c.csrv 0x300
  let st' := st - (if bit st 7 then 128 else 0) - (if bit st 3 then 8 else 0) + (if bit st 3 then 128 else 0)
  let c := (((c.setCsr 0x341 (c.pc.toNat / 2 * 2)).setCsr 0x342 cause).setCsr 0x343 tval).setCsr 0x300 (st' ||| 0x1800)
  { c with pc := BitVec.ofNat 64 (c.mtvec.toNat / 4 * 4) }

/-- MRET. -/
def Core.mret (c : Core) : Core :=
  let st := c.csrv 0x300
  let st' := (st - (if bit st 3 then 8 else 0) + (if bit st 7 then 8 else 0)) ||| 0x1880
  { c.setCsr 0x300 st' with pc := BitVec.ofNat 64 (c.csrv 0x341) }

/-! Integer arithmetic. -/

def aluOp (f3 : Nat) (alt : Bool) (a b : X64) : X64 :=
  match f3 with
  | 0 => if alt then a - b else a + b
  | 1 => a <<< (b.toNat % 64)
  | 2 => if a.slt b then 1 else 0
  | 3 => if a.ult b then 1 else 0
  | 4 => a ^^^ b
  | 5 => if alt then a.sshiftRight (b.toNat % 64) else a >>> (b.toNat % 64)
  | 6 => a ||| b
  | _ => a &&& b

/-- The word forms (ADDW and its kind); none where f3 has no such form. -/
def aluW (f3 : Nat) (alt : Bool) (a b : X64) : Option X64 :=
  let x := a.setWidth 32
  let n := b.toNat % 32
  match f3 with
  | 0 => some ((if alt then x - b.setWidth 32 else x + b.setWidth 32).signExtend 64)
  | 1 => some ((x <<< n).signExtend 64)
  | 5 => some ((if alt then x.sshiftRight n else x >>> n).signExtend 64)
  | _ => none

/-- Quotient and remainder with the RISC-V corners, of n-bit fields. -/
def rvDiv (n : Nat) (signed rem : Bool) (a b : Nat) : Nat :=
  if signed then
    let x := toSigned n a
    let y := toSigned n b
    if rem then (if y = 0 then a % 2 ^ n else ofSigned n (x.tmod y))
    else if y = 0 then 2 ^ n - 1 else ofSigned n (x.tdiv y)
  else
    let x := a % 2 ^ n
    let y := b % 2 ^ n
    if rem then (if y = 0 then x else x % y) else if y = 0 then 2 ^ n - 1 else x / y

/-- The high half of a product of n-bit fields. -/
def rvMulh (n : Nat) (sa sb : Bool) (a b : Nat) : Nat :=
  let x : Int := if sa then toSigned n a else (a % 2 ^ n : Nat)
  let y : Int := if sb then toSigned n b else (b % 2 ^ n : Nat)
  ofSigned n ((x * y) / 2 ^ n)

/-- The M extension. -/
def mulOp (f3 : Nat) (a b : X64) : X64 :=
  let x := a.toNat
  let y := b.toNat
  match f3 with
  | 0 => a * b
  | 1 => BitVec.ofNat 64 (rvMulh 64 true true x y)
  | 2 => BitVec.ofNat 64 (rvMulh 64 true false x y)
  | 3 => BitVec.ofNat 64 (rvMulh 64 false false x y)
  | _ => BitVec.ofNat 64 (rvDiv 64 (f3 % 2 == 0) (decide (6 ≤ f3)) x y)
def mulW (f3 : Nat) (a b : X64) : Option X64 :=
  if f3 = 0 then some ((a.setWidth 32 * b.setWidth 32).signExtend 64)
  else if f3 < 4 then none
  else some (sx 32 (rvDiv 32 (f3 % 2 == 0) (decide (6 ≤ f3)) a.toNat b.toNat))

/-- Branch conditions; none where f3 has no such branch. -/
def branchTaken (f3 : Nat) (a b : X64) : Option Bool :=
  match f3 with
  | 0 => some (a == b) | 1 => some (a != b) | 4 => some (a.slt b) | 5 => some (!a.slt b)
  | 6 => some (a.ult b) | 7 => some (!a.ult b) | _ => none

/-! Floating point. -/

/-- The S or D operand in a register: a single not NaN-boxed reads as the canonical NaN. -/
def Core.fpr (c : Core) (m : FFmt) (i : Nat) : Nat :=
  let v := c.fr i
  if m.f = 52 then v else if v / 2 ^ 32 = 2 ^ 32 - 1 then v % 2 ^ 32 else m.cnan
def Core.setF (c : Core) (m : FFmt) (i v : Nat) : Core :=
  ({ c with f := c.f.set i (BitVec.ofNat 64 (if m.f = 52 then v else v % 2 ^ 32 + (2 ^ 32 - 1) * 2 ^ 32)) }).dirtyF

/-- The rounding mode of an instruction, dynamic or its own; none where it is reserved. -/
def Core.rm (c : Core) (rm : Nat) : Option Nat :=
  let r := if rm = 7 then c.csrv 3 / 32 % 8 else rm
  if 5 ≤ r then none else some r

/-- An OP-FP instruction: none where it is illegal. -/
def opFp (c : Core) (w : Nat) : Option Core :=
  let m := if bits w 25 2 = 0 then fmtS else fmtD
  let o := if bits w 25 2 = 0 then fmtD else fmtS
  let f5 := bits w 27 5
  let f3 := rvF3 w
  let rd := rvRd w
  let r2 := rvRs2 w
  let a := c.fpr m (rvRs1 w)
  let b := c.fpr m r2
  let x := (c.xr (rvRs1 w)).toNat
  let putF (r : Nat × Nat) : Option Core := some ((c.setF m rd r.1).flags r.2)
  let putX (r : Nat × Nat) : Option Core := some ((c.setX rd r.1).flags r.2)
  let iw := if r2 < 2 then 32 else 64
  if 2 ≤ bits w 25 2 then none
  else match f5 with
  | 0x00 => (c.rm f3).bind (fun r => putF (fpAdd m r a b))
  | 0x01 => (c.rm f3).bind (fun r => putF (fpSub m r a b))
  | 0x02 => (c.rm f3).bind (fun r => putF (fpMul m r a b))
  | 0x03 => (c.rm f3).bind (fun r => putF (fpDiv m r a b))
  | 0x0B => if r2 ≠ 0 then none else (c.rm f3).bind (fun r => putF (fpSqrt m r a))
  | 0x04 => if 2 < f3 then none else putF (fpSgnj m f3 a b, 0)
  | 0x05 => if 1 < f3 then none else putF (fpMinMax m (f3 == 1) a b)
  | 0x08 => if r2 ≠ 1 - bits w 25 2 then none else (c.rm f3).bind (fun r => putF (fpConv o m r (c.fpr o (rvRs1 w))))
  | 0x14 => if 2 < f3 then none else putX (fpCmp m f3 a b)
  | 0x18 => if 3 < r2 then none else (c.rm f3).bind (fun r =>
      let (v, fl) := fpToInt m r iw (r2 % 2 == 0) a
      putX (if iw = 32 then (sx 32 v).toNat else v, fl))
  | 0x1A => if 3 < r2 then none else (c.rm f3).bind (fun r =>
      putF (fpOfInt m r (if r2 % 2 = 0 then toSigned iw x else (x % 2 ^ iw : Nat))))
  | 0x1C => if r2 ≠ 0 ∨ 1 < f3 then none
      else if f3 = 1 then putX (fpClass m a, 0)
      else putX (if m.f = 52 then c.fr (rvRs1 w) else (sx 32 (c.fr (rvRs1 w))).toNat, 0)
  | 0x1E => if r2 ≠ 0 ∨ f3 ≠ 0 then none else putF (x, 0)
  | _ => none

/-- The fused multiply-add opcodes 0x43, 0x47, 0x4B, 0x4F. -/
def opFma (c : Core) (w : Nat) : Option Core :=
  let m := if bits w 25 2 = 0 then fmtS else fmtD
  if 2 ≤ bits w 25 2 then none
  else (c.rm (rvF3 w)).bind (fun r =>
    let op := rvOp w
    let a := c.fpr m (rvRs1 w)
    let d := c.fpr m (rvRs3 w)
    let a := if op = 0x4B ∨ op = 0x4F then fpNeg m a else a
    let d := if op = 0x47 ∨ op = 0x4F then fpNeg m d else d
    let v := fpFma m r a (c.fpr m (rvRs2 w)) d
    some ((c.setF m (rvRd w) v.1).flags v.2))

/-! CSR instructions. -/

/-- CSRRW, CSRRS, CSRRC and their immediate forms: none where the access is illegal. -/
def opCsr (c : Core) (w tb fv hid : Nat) : Option Core :=
  let n := w / 2 ^ 20
  let f3 := rvF3 w
  let src := if f3 < 4 then (c.xr (rvRs1 w)).toNat else rvRs1 w
  let writes := f3 % 4 == 1 || rvRs1 w != 0
  match csrRead c tb fv hid n with
  | none => none
  | some old =>
    if f3 % 4 = 0 ∨ (writes ∧ n / 1024 = 3) then none
    else
      let v := match f3 % 4 with | 1 => src | 2 => old ||| src | _ => old - (old &&& src)
      some ((if writes then csrWrite c n v else c).setX (rvRd w) old)

/-! Vector configuration (the V specification; VLEN 512, ELEN 64). -/

/-- VLMAX of a vtype, 0 where it is not supported. -/
def vlmaxOf (vt : Nat) : Nat :=
  let sew := 8 * 2 ^ bits vt 3 3
  let lm := bits vt 0 3
  if 256 ≤ vt ∨ 64 < sew ∨ lm = 4 then 0
  else if lm < 4 then 512 * 2 ^ lm / sew
  else if 64 / 2 ^ (8 - lm) < sew then 0 else 512 / 2 ^ (8 - lm) / sew

/-- VSETVLI, VSETIVLI, VSETVL. -/
def opVset (c : Core) (w : Nat) : Option Core :=
  let imm := bits w 31 1 == 0
  let ivl := bits w 30 2 == 3
  if c.vs = 0 ∨ (imm = false ∧ ivl = false ∧ rvF7 w ≠ 0x40) then none
  else
    let vt := if imm then bits w 20 11 else if ivl then bits w 20 10 else (c.xr (rvRs2 w)).toNat
    let mx := vlmaxOf vt
    let oldVl := c.csrv 0xC20
    let keep := !ivl && rvRs1 w == 0 && rvRd w == 0
    let avl := if ivl then rvRs1 w else if rvRs1 w ≠ 0 then (c.xr (rvRs1 w)).toNat else if rvRd w ≠ 0 then 2 ^ 64 - 1 else oldVl
    let ill := mx == 0 || (keep && vlmaxOf (c.csrv 0xC21) != mx)
    let vl := if ill then 0 else min avl mx
    some ((((c.setCsr 0xC20 vl).setCsr 0xC21 (if ill then 2 ^ 63 else vt)).setCsr 8 0).dirtyV.setX (rvRd w) vl)

/-! One instruction that touches no memory. -/

/-- What an instruction does to its core. -/
inductive RvRes where
  | core (c : Core)
  | trap (cause tval : Nat)
  deriving DecidableEq, Repr

def Core.adv (c : Core) (len : Nat) : Core := { c with pc := c.pc + BitVec.ofNat 64 len }

/-- The scalar instructions but loads, stores and atomics; `bad` is what an illegal one answers. -/
def rvExec (c : Core) (w len tb fv hid : Nat) (bad : RvRes) : RvRes :=
  let a := c.xr (rvRs1 w)
  let b := c.xr (rvRs2 w)
  let f3 := rvF3 w
  let f7 := rvF7 w
  let rd := rvRd w
  let put (v : X64) : RvRes := .core ((c.setX rd v.toNat).adv len)
  let opt (v : Option X64) : RvRes := match v with | some v => put v | none => bad
  let optC (v : Option Core) : RvRes := match v with | some d => .core (d.adv len) | none => bad
  match rvOp w with
  | 0x37 => put (immU w)
  | 0x17 => put (c.pc + immU w)
  | 0x6F => .core { c.setX rd (c.pc.toNat + len) with pc := c.pc + immJ w }
  | 0x67 => if f3 ≠ 0 then bad else .core { c.setX rd (c.pc.toNat + len) with pc := (a + immI w) &&& ~~~1 }
  | 0x63 => match branchTaken f3 a b with
    | some t => .core (if t then { c with pc := c.pc + immB w } else c.adv len)
    | none => bad
  | 0x13 =>
    if f3 = 1 then (if bits w 26 6 = 0 then put (a <<< bits w 20 6) else bad)
    else if f3 = 5 then
      (if bits w 26 6 = 0 then put (a >>> bits w 20 6) else if bits w 26 6 = 16 then put (a.sshiftRight (bits w 20 6)) else bad)
    else put (aluOp f3 false a (immI w))
  | 0x1B =>
    if f3 = 0 then opt (aluW 0 false a (immI w))
    else if (f3 = 1 ∧ f7 = 0) ∨ (f3 = 5 ∧ (f7 = 0 ∨ f7 = 0x20)) then opt (aluW f3 (f7 == 0x20) a (BitVec.ofNat 64 (bits w 20 5)))
    else bad
  | 0x33 =>
    if f7 = 0 ∨ (f7 = 0x20 ∧ (f3 = 0 ∨ f3 = 5)) then put (aluOp f3 (f7 == 0x20) a b)
    else if f7 = 1 then put (mulOp f3 a b) else bad
  | 0x3B =>
    if f7 = 0 ∨ (f7 = 0x20 ∧ (f3 = 0 ∨ f3 = 5)) then opt (aluW f3 (f7 == 0x20) a b)
    else if f7 = 1 then opt (mulW f3 a b) else bad
  | 0x0F => if f3 ≤ 1 then .core (c.adv len) else bad
  | 0x73 =>
    if f3 ≠ 0 then optC (opCsr c w tb fv hid)
    else if w = 0x00000073 then .trap 11 0
    else if w = 0x00100073 then .trap 3 c.pc.toNat
    else if w = 0x30200073 then .core c.mret
    else if w = 0x10500073 then .core (c.adv len)
    else bad
  | 0x53 => if c.fs = 0 then bad else optC (opFp c w)
  | 0x43 | 0x47 | 0x4B | 0x4F => if c.fs = 0 then bad else optC (opFma c w)
  | _ => bad

end Sys2Proof.Machine
end

