-- ==== Sys2Proof/Machine/RvVec.lean ====
section
/-! DEFINITION. The V extension, version 1.0, VLEN 512 and ELEN 64 (10 R242; PRESUMED from the RISC-V specification it
names, log 14): register groups, masks and tails, arithmetic, and the addresses of loads and stores. Where that
specification lets an agnostic element keep its value or become all ones, a free value decides. Two estimates and the
unordered sums are opaque. A reserved form is illegal. -/

namespace Sys2Proof.Machine

/-- What an instruction runs under: SEW, 8 × LMUL, vl, vstart, vm, vta, vma, vxrm, frm and the free value for agnostic
elements. -/
structure VCtx where
  sew : Nat
  l8 : Nat
  vl : Nat
  vstart : Nat
  vm : Bool
  ta : Bool
  ma : Bool
  xrm : Nat
  frm : Nat
  ag : Nat

/-- The context of instruction w; none where vtype is ill or the unit is off. -/
def vctx (c : Core) (w ag : Nat) : Option VCtx :=
  let vt := c.csrv 0xC21
  if c.vs = 0 ∨ vlmaxOf vt = 0 then none
  else some {
    sew := 8 * 2 ^ bits vt 3 3
    l8 := if bits vt 0 3 < 4 then 8 * 2 ^ bits vt 0 3 else 8 / 2 ^ (8 - bits vt 0 3)
    vl := c.csrv 0xC20, vstart := c.csrv 8, vm := bit w 25, ta := bit vt 6, ma := bit vt 7
    xrm := c.csrv 0xA, frm := c.csrv 3 / 32 % 8, ag := ag }

/-! Elements and groups. -/

/-- Element i of the group at register r, of n bits. -/
def vget (c : Core) (r n i : Nat) : Nat := bits (nth c.v (r + i * n / 512)).toNat (i * n % 512) n
def vput (r n i v : Nat) (c : Core) : Core :=
  { c with v := c.v.modify (r + i * n / 512) (fun x =>
      let o := i * n % 512
      BitVec.ofNat 512 (x.toNat - bits x.toNat o n * 2 ^ o + v % 2 ^ n * 2 ^ o)) }
/-- Mask bit i of a register. -/
def vbit (c : Core) (r i : Nat) : Bool := bit (nth c.v r).toNat i
/-- Registers of a group of 8 × EMUL. -/
def vregs (l8 : Nat) : Nat := max 1 (l8 / 8)
/-- A group that exists and is aligned. -/
def vgrp (r l8 : Nat) : Bool := decide (1 ≤ l8) && decide (l8 ≤ 64) && r % vregs l8 == 0 && decide (r + vregs l8 ≤ 32)
def vmeets (a an b bn : Nat) : Bool := decide (a < b + bn) && decide (b < a + an)
/-- The overlap rule of a destination of n bits and a source of m bits. -/
def voverlap (vd n dl vs m sl : Nat) : Bool :=
  n == m || !vmeets vd (vregs dl) vs (vregs sl)
    || (if n < m then vd == vs else decide (8 ≤ sl) && vd + vregs dl == vs + vregs sl)
/-- A masked instruction does not write v0. -/
def vmaskOk (k : VCtx) (vd : Nat) : Bool := k.vm || vd != 0

/-- Whether body element i is active. -/
def vact (k : VCtx) (c : Core) (i : Nat) : Bool := k.vm || vbit c 0 i

/-- Indices from a to below b. -/
def span (a b : Nat) : List Nat := (List.range (b - a)).map (· + a)

/-- An agnostic element: its old value, or all ones. -/
def vagn (k : VCtx) (r n i : Nat) (c : Core) : Core := if bit k.ag i then vput r n i (2 ^ n - 1) c else c

/-- Every vector instruction ends so: vstart 0, the unit dirty, flags accrued (bits 4:0 fflags, bit 5 vxsat). -/
def vdone (fl : Nat) (c : Core) : Core :=
  let c := (c.setCsr 8 0).dirtyV
  let c := if 32 ≤ fl then c.setCsr 9 1 else c
  c.flags (fl % 32)

/-- The elements of a result group: body by f (value, flags), then masked-off and tail elements by policy. -/
def vEach (k : VCtx) (c : Core) (vd n : Nat) (f : Nat → Nat × Nat) : Core :=
  let body := span k.vstart k.vl
  let fl := (body.filter (vact k c)).foldl (fun a i => a ||| (f i).2) 0
  let d := body.foldl (fun d i => if vact k c i then vput vd n i (f i).1 d else if k.ma then vagn k vd n i d else d) c
  let d := if k.ta && decide (k.vstart < k.vl)
    then (span k.vl (vregs (k.l8 * n / k.sew) * 512 / n)).foldl (fun d i => vagn k vd n i d) d else d
  vdone fl d

/-- A mask result: bit i by f; the tail of a mask is always agnostic. -/
def vMask (k : VCtx) (masked : Bool) (c : Core) (vd : Nat) (f : Nat → Bool × Nat) : Core :=
  let body := span k.vstart k.vl
  let on (i : Nat) : Bool := !masked || vact k c i
  let fl := (body.filter on).foldl (fun a i => a ||| (f i).2) 0
  let d := body.foldl (fun d i => if on i then vput vd 1 i (b2n (f i).1) d else if k.ma then vagn k vd 1 i d else d) c
  let d := if k.vstart < k.vl then (span k.vl 512).foldl (fun d i => vagn k vd 1 i d) d else d
  vdone fl d

/-- A scalar result in element 0 of a register. -/
def vScalar (k : VCtx) (c : Core) (vd n v fl : Nat) : Core :=
  if k.vstart < k.vl then
    let d := vput vd n 0 v c
    vdone fl (if k.ta then (span 1 (512 / n)).foldl (fun d i => vagn k vd n i d) d else d)
  else vdone 0 c

/-! Integer and fixed-point element operations. -/

/-- Rounding a right shift by d (vxrm). -/
def vround (rm d : Nat) (v : Int) : Int :=
  let p : Int := 2 ^ d
  let q := v / p
  let r := v % p
  if r = 0 then q
  else match rm with
    | 0 => if p ≤ 2 * r then q + 1 else q
    | 1 => if p < 2 * r ∨ (p = 2 * r ∧ q % 2 = 1) then q + 1 else q
    | 2 => q
    | _ => if q % 2 = 0 then q + 1 else q

/-- An integer saturated to n bits, with vxsat. -/
def vsat (n : Nat) (signed : Bool) (v : Int) : Nat × Nat :=
  let hi : Int := if signed then 2 ^ (n - 1) - 1 else 2 ^ n - 1
  let lo : Int := if signed then -(2 ^ (n - 1)) else 0
  if hi < v then (ofSigned n hi, 32) else if v < lo then (ofSigned n lo, 32) else (ofSigned n v, 0)

/-- Element operations of the OPI group that read vs2 (a) and vs1, x or the immediate (b). -/
def vIop (k : VCtx) (f6 a b : Nat) : Option (Nat × Nat) :=
  let n := k.sew
  let sa := toSigned n a
  let sb := toSigned n b
  let sh := b % n
  let ok (v : Int) : Option (Nat × Nat) := some (ofSigned n v, 0)
  match f6 with
  | 0x00 => ok (a + b) | 0x02 => ok ((a : Int) - b) | 0x03 => ok ((b : Int) - a)
  | 0x04 => ok (min a b : Nat) | 0x05 => ok (min sa sb) | 0x06 => ok (max a b : Nat) | 0x07 => ok (max sa sb)
  | 0x09 => ok (a &&& b : Nat) | 0x0A => ok (a ||| b : Nat) | 0x0B => ok (a ^^^ b : Nat)
  | 0x20 => some (vsat n false ((a : Int) + b)) | 0x21 => some (vsat n true (sa + sb))
  | 0x22 => some (vsat n false ((a : Int) - b)) | 0x23 => some (vsat n true (sa - sb))
  | 0x25 => ok (a * 2 ^ sh : Nat) | 0x27 => some (vsat n true (vround k.xrm (n - 1) (sa * sb)))
  | 0x28 => ok (a / 2 ^ sh : Nat) | 0x29 => ok (sa / 2 ^ sh)
  | 0x2A => ok (vround k.xrm sh (a : Int)) | 0x2B => ok (vround k.xrm sh sa)
  | _ => none

/-- Element operations of the OPM group on vs2 (a), vs1 or x (b) and vd (d). -/
def vMop (k : VCtx) (f6 a b d : Nat) : Option Nat :=
  let n := k.sew
  let sa := toSigned n a
  let sb := toSigned n b
  let ok (v : Int) : Option Nat := some (ofSigned n v)
  match f6 with
  | 0x08 => ok (vround k.xrm 1 ((a : Int) + b)) | 0x09 => ok (vround k.xrm 1 (sa + sb))
  | 0x0A => ok (vround k.xrm 1 ((a : Int) - b)) | 0x0B => ok (vround k.xrm 1 (sa - sb))
  | 0x20 => some (rvDiv n false false a b) | 0x21 => some (rvDiv n true false a b)
  | 0x22 => some (rvDiv n false true a b) | 0x23 => some (rvDiv n true true a b)
  | 0x24 => some (rvMulh n false false a b) | 0x25 => ok (a * b : Nat)
  | 0x26 => some (rvMulh n true false a b) | 0x27 => some (rvMulh n true true a b)
  | 0x29 => ok (b * d + a : Nat) | 0x2B => ok ((a : Int) - b * d)
  | 0x2D => ok (b * a + d : Nat) | 0x2F => ok ((d : Int) - b * a)
  | _ => none

/-- Widening operations: 2 × SEW of vs2 (a), vs1 or x (b), vd (d); `aw` gives vs2 at the wide width. -/
def vWop (k : VCtx) (f6 a aw b d : Nat) : Option Nat :=
  let n := k.sew
  let sa := toSigned n a
  let sb := toSigned n b
  let ok (v : Int) : Option Nat := some (ofSigned (2 * n) v)
  match f6 with
  | 0x30 => ok (a + b : Nat) | 0x31 => ok (sa + sb) | 0x32 => ok ((a : Int) - b) | 0x33 => ok (sa - sb)
  | 0x34 => ok (aw + b : Nat) | 0x35 => ok (aw + sb) | 0x36 => ok ((aw : Int) - b) | 0x37 => ok (aw - sb)
  | 0x38 => ok (a * b : Nat) | 0x3A => ok (sa * b) | 0x3B => ok (sa * sb)
  | 0x3C => ok (a * b + d : Nat) | 0x3D => ok (sa * sb + d) | 0x3E => ok (sa * b + d) | 0x3F => ok ((a : Int) * sb + d)
  | _ => none

/-- The fold of an integer reduction. -/
def vRed (n f6 x y : Nat) : Nat :=
  match f6 with
  | 0 => (x + y) % 2 ^ n | 1 => x &&& y | 2 => x ||| y | 3 => x ^^^ y
  | 4 => min x y | 5 => if toSigned n x ≤ toSigned n y then x else y
  | 6 => max x y | _ => if toSigned n x ≤ toSigned n y then y else x

/-- Integer comparisons 0x18 to 0x1F. -/
def vCmpI (n f6 a b : Nat) : Bool :=
  let sa := toSigned n a
  let sb := toSigned n b
  match f6 with
  | 0x18 => a == b | 0x19 => a != b | 0x1A => decide (a < b) | 0x1B => decide (sa < sb)
  | 0x1C => decide (a ≤ b) | 0x1D => decide (sa ≤ sb) | 0x1E => decide (b < a) | _ => decide (sb < sa)

/-! Instruction groups. -/

/-- A destination and its vs2 (and vs1 where it is a vector) at widths dn, an, bn. -/
def vops (k : VCtx) (vec : Bool) (vd dn vs2 an vs1 bn : Nat) : Bool :=
  let l (n : Nat) : Nat := k.l8 * n / k.sew
  vgrp vd (l dn) && vgrp vs2 (l an) && vmaskOk k vd && voverlap vd dn (l dn) vs2 an (l an)
    && (!vec || (vgrp vs1 (l bn) && voverlap vd dn (l dn) vs1 bn (l bn)))

/-- OPIVV, OPIVX, OPIVI: f3 0, 4, 3. -/
def vecI (k : VCtx) (c : Core) (w : Nat) : Option Core :=
  let f6 := bits w 26 6
  let f3 := rvF3 w
  let vd := rvRd w
  let vs2 := rvRs2 w
  let r1 := rvRs1 w
  let n := k.sew
  let vec := f3 == 0
  let imm := f3 == 3
  let uimm := imm && ([0x25, 0x28, 0x29, 0x2A, 0x2B, 0x2C, 0x2D, 0x2E, 0x2F, 0x0C, 0x0E, 0x0F].contains f6)
  let sc (m : Nat) : Nat := if imm then (if uimm then r1 else ofSigned m (toSigned 5 r1)) else (c.xr r1).toNat % 2 ^ m
  let full : Nat := if imm then r1 else (c.xr r1).toNat
  let b (i : Nat) : Nat := if vec then vget c r1 n i else sc n
  let a (i : Nat) : Nat := vget c vs2 n i
  let same := vops k vec vd n vs2 n r1 n
  let vlmax := 64 * k.l8 / n
  let cin (i : Nat) : Nat := if k.vm then 0 else b2n (vbit c 0 i)
  let maskSrc := vgrp vs2 k.l8 && (!vec || vgrp r1 k.l8) && voverlap vd 1 8 vs2 n k.l8 && (!vec || voverlap vd 1 8 r1 n k.l8)
  let apart (m : Nat) : Bool := !vmeets vd (vregs k.l8) m (vregs k.l8)
  if f6 = 0x0C then
    if same && apart vs2 && (!vec || apart r1) then
      some (vEach k c vd n (fun i => let j := if vec then b i else full; (if j < vlmax then a j else 0, 0))) else none
  else if f6 = 0x0E ∧ vec then
    if vgrp r1 (k.l8 * 16 / n) && vops k false vd n vs2 n 0 n && apart vs2 && !vmeets vd (vregs k.l8) r1 (vregs (k.l8 * 16 / n)) then
      some (vEach k c vd n (fun i => let j := vget c r1 16 i; (if j < vlmax then a j else 0, 0))) else none
  else if f6 = 0x0E then
    if same && apart vs2 then
      some (vEach { k with vstart := max k.vstart (min full k.vl) } c vd n (fun i => (a (i - full), 0))) else none
  else if f6 = 0x0F ∧ vec = false then
    if same then some (vEach k c vd n (fun i => (if i + full < vlmax then a (i + full) else 0, 0))) else none
  else if f6 = 0x10 ∨ (f6 = 0x12 ∧ imm = false) then
    if !k.vm && vgrp vd k.l8 && vgrp vs2 k.l8 && (!vec || vgrp r1 k.l8) && vd != 0 then
      some (vEach { k with vm := true } c vd n (fun i =>
        let m := b2n (vbit c 0 i)
        (ofSigned n (if f6 = 0x10 then (a i + b i + m : Nat) else (a i : Int) - b i - m), 0))) else none
  else if f6 = 0x11 ∨ (f6 = 0x13 ∧ imm = false) then
    if maskSrc then
      some (vMask k false c vd (fun i =>
        (if f6 = 0x11 then decide (2 ^ n ≤ a i + b i + cin i) else decide (a i < b i + cin i), 0))) else none
  else if f6 = 0x17 then
    if k.vm then (if vs2 = 0 ∧ vgrp vd k.l8 ∧ (vec = false ∨ vgrp r1 k.l8) then some (vEach k c vd n (fun i => (b i, 0))) else none)
    else if same then some (vEach { k with vm := true } c vd n (fun i => (if vbit c 0 i then b i else a i, 0))) else none
  else if 0x18 ≤ f6 ∧ f6 ≤ 0x1F then
    if maskSrc && vmaskOk { k with vm := k.vm } 1 && !((f6 == 0x1A || f6 == 0x1B) && imm) && !(decide (0x1E ≤ f6) && vec)
      then some (vMask k true c vd (fun i => (vCmpI n f6 (a i) (b i), 0))) else none
  else if f6 = 0x27 ∧ imm then
    let nr := r1 + 1
    if k.vm && [1, 2, 4, 8].contains nr && vd % nr == 0 && vs2 % nr == 0 && decide (vd + nr ≤ 32) && decide (vs2 + nr ≤ 32)
    then some (vdone 0 { c with v := (List.range nr).foldl (fun v j => v.set (vd + j) (nth c.v (vs2 + j))) c.v }) else none
  else if 0x2C ≤ f6 ∧ f6 ≤ 0x2F then
    if decide (n ≤ 32) && vops k vec vd n vs2 (2 * n) r1 n then
      some (vEach k c vd n (fun i =>
        let x := vget c vs2 (2 * n) i
        let sh := (if vec then vget c r1 n i else full) % (2 * n)
        match f6 with
        | 0x2C => (x / 2 ^ sh % 2 ^ n, 0)
        | 0x2D => (ofSigned n (toSigned (2 * n) x / 2 ^ sh), 0)
        | 0x2E => vsat n false (vround k.xrm sh (x : Int))
        | _ => vsat n true (vround k.xrm sh (toSigned (2 * n) x)))) else none
  else if (f6 = 0x30 ∨ f6 = 0x31) ∧ vec then
    if decide (n ≤ 32) && vgrp vs2 k.l8 && k.vstart == 0 then
      let s := ((span 0 k.vl).filter (vact k c)).foldl (fun (s : Int) i => s + (if f6 = 0x31 then toSigned n (a i) else (a i : Int))) (vget c r1 (2 * n) 0 : Int)
      some (vScalar k c vd (2 * n) (ofSigned (2 * n) s) 0) else none
  else if (vec ∧ f6 = 3) ∨ (imm ∧ (f6 = 2 ∨ (4 ≤ f6 ∧ f6 ≤ 7) ∨ f6 = 0x22 ∨ f6 = 0x23)) then none
  else if same && (vIop k f6 0 0).isSome then some (vEach k c vd n (fun i => (vIop k f6 (a i) (b i)).getD (0, 0))) else none

/-- OPMVV, OPMVX: f3 2, 6. -/
def vecM (k : VCtx) (c : Core) (w : Nat) : Option Core :=
  let f6 := bits w 26 6
  let vec := rvF3 w == 2
  let vd := rvRd w
  let vs2 := rvRs2 w
  let r1 := rvRs1 w
  let n := k.sew
  let a (i : Nat) : Nat := vget c vs2 n i
  let b (i : Nat) : Nat := if vec then vget c r1 n i else (c.xr r1).toNat % 2 ^ n
  let same := vops k vec vd n vs2 n r1 n
  let acts := (span 0 k.vl).filter (vact k c)
  let sx64 (v : Nat) : Nat := (sx n v).toNat
  if f6 ≤ 7 then
    if vec && vgrp vs2 k.l8 && k.vstart == 0 then
      some (vScalar k c vd n (acts.foldl (fun x i => vRed n f6 x (a i)) (vget c r1 n 0)) 0) else none
  else if f6 = 0x0E ∨ f6 = 0x0F then
    if vec || !same || (f6 == 0x0E && vmeets vd (vregs k.l8) vs2 (vregs k.l8)) then none
    else some (vEach k c vd n (fun i =>
      (if f6 = 0x0E then (if i = 0 then b 0 else a (i - 1)) else if i + 1 = k.vl then b 0 else a (i + 1), 0)))
  else if f6 = 0x10 then
    if vec then match r1 with
      | 0 => if k.vm then some (vdone 0 (c.setX vd (sx64 (a 0)))) else none
      | 0x10 => if k.vstart = 0 then some (vdone 0 (c.setX vd (acts.filter (vbit c vs2)).length)) else none
      | 0x11 => if k.vstart = 0 then some (vdone 0 (c.setX vd ((acts.find? (vbit c vs2)).getD (2 ^ 64 - 1)))) else none
      | _ => none
    else if k.vm && vs2 == 0 then some (vScalar k c vd n ((c.xr r1).toNat % 2 ^ n) 0) else none
  else if f6 = 0x12 then
    let d := match r1 with | 2 | 3 => 8 | 4 | 5 => 4 | 6 | 7 => 2 | _ => 0
    if vec && d != 0 && decide (8 * d ≤ n) && decide (d ≤ k.l8) && vops k false vd n vs2 (n / d) 0 n then
      some (vEach k c vd n (fun i => let x := vget c vs2 (n / d) i; (if r1 % 2 = 1 then ofSigned n (toSigned (n / d) x) else x, 0)))
    else none
  else if f6 = 0x14 then
    let first := acts.find? (vbit c vs2)
    match vec, r1 with
    | true, 1 | true, 2 | true, 3 =>
      if k.vstart == 0 && vmaskOk k vd && vd != vs2 then
        some (vMask k true c vd (fun i => (match first with
          | none => r1 != 2
          | some p => if r1 = 1 then decide (i < p) else if r1 = 2 then i == p else decide (i ≤ p), 0))) else none
    | true, 0x10 =>
      if k.vstart == 0 && vmaskOk k vd && vgrp vd k.l8 && !vmeets vd (vregs k.l8) vs2 1 then
        some (vEach k c vd n (fun i => (((acts.filter (fun j => decide (j < i) && vbit c vs2 j)).length) % 2 ^ n, 0))) else none
    | true, 0x11 => if vs2 == 0 && vmaskOk k vd && vgrp vd k.l8 then some (vEach k c vd n (fun i => (i % 2 ^ n, 0))) else none
    | _, _ => none
  else if f6 = 0x17 then
    if vec && k.vm && k.vstart == 0 && vgrp vd k.l8 && vgrp vs2 k.l8 && !vmeets vd (vregs k.l8) vs2 (vregs k.l8) && !vmeets vd (vregs k.l8) r1 1 then
      let l := (span 0 k.vl).filter (vbit c r1)
      some (vEach { k with vl := l.length } c vd n (fun i => (a (nth l i), 0))) else none
  else if 0x18 ≤ f6 ∧ f6 ≤ 0x1F then
    if vec && k.vm then
      some (vMask k false c vd (fun i =>
        let x := vbit c vs2 i
        let y := vbit c r1 i
        (match f6 with
          | 0x18 => x && !y | 0x19 => x && y | 0x1A => x || y | 0x1B => x != y
          | 0x1C => x || !y | 0x1D => !(x && y) | 0x1E => !(x || y) | _ => x == y, 0))) else none
  else if 0x30 ≤ f6 then
    let wide := decide (0x34 ≤ f6) && decide (f6 ≤ 0x37)
    if decide (n ≤ 32) && !(f6 == 0x3E && vec) && vops k vec vd (2 * n) vs2 (if wide then 2 * n else n) r1 n && (vWop k f6 0 0 0 0).isSome then
      some (vEach k c vd (2 * n) (fun i => ((vWop k f6 (a i) (vget c vs2 (2 * n) i) (b i) (vget c vd (2 * n) i)).getD 0, 0))) else none
  else if same && (vMop k f6 0 0 0).isSome then
    some (vEach k c vd n (fun i => ((vMop k f6 (a i) (b i) (vget c vd n i)).getD 0, 0))) else none

/-- The floating-point format of a width. -/
def vfmt : Nat → Option FFmt
  | 32 => some fmtS
  | 64 => some fmtD
  | _ => none

/-- Float element operations on vs2 (a), vs1 or f (b), vd (d). -/
def vFop (m : FFmt) (rm f6 a b d : Nat) : Option (Nat × Nat) :=
  match f6 with
  | 0x00 => some (fpAdd m rm a b) | 0x02 => some (fpSub m rm a b)
  | 0x04 => some (fpMinMax m false a b) | 0x06 => some (fpMinMax m true a b)
  | 0x08 | 0x09 | 0x0A => some (fpSgnj m (f6 - 8) a b, 0)
  | 0x20 => some (fpDiv m rm a b) | 0x21 => some (fpDiv m rm b a) | 0x24 => some (fpMul m rm a b)
  | 0x27 => some (fpSub m rm b a)
  | 0x28 => some (fpFma m rm b d a) | 0x29 => some (fpFma m rm (fpNeg m b) d (fpNeg m a))
  | 0x2A => some (fpFma m rm b d (fpNeg m a)) | 0x2B => some (fpFma m rm (fpNeg m b) d a)
  | 0x2C => some (fpFma m rm b a d) | 0x2D => some (fpFma m rm (fpNeg m b) a (fpNeg m d))
  | 0x2E => some (fpFma m rm b a (fpNeg m d)) | 0x2F => some (fpFma m rm (fpNeg m b) a d)
  | _ => none

/-- Widening float operations on doubles: a and b already widened, aw the wide vs2. -/
def vFwop (rm f6 a aw b d : Nat) : Option (Nat × Nat) :=
  match f6 with
  | 0x30 => some (fpAdd fmtD rm a b) | 0x32 => some (fpSub fmtD rm a b)
  | 0x34 => some (fpAdd fmtD rm aw b) | 0x36 => some (fpSub fmtD rm aw b)
  | 0x38 => some (fpMul fmtD rm a b) | 0x3C => some (fpFma fmtD rm b a d)
  | 0x3D => some (fpFma fmtD rm (fpNeg fmtD b) a (fpNeg fmtD d)) | 0x3E => some (fpFma fmtD rm b a (fpNeg fmtD d))
  | 0x3F => some (fpFma fmtD rm (fpNeg fmtD b) a d)
  | _ => none

/-- An exact single widened to a double, with NV for a signalling NaN. -/
def widen (v : Nat) : Nat × Nat := fpConv fmtS fmtD 0 v

/-- One float conversion of VFUNARY0: source width sn, destination dn. -/
def vFcvt (rm op sn dn x : Nat) : Option (Nat × Nat) :=
  let r := if op = 6 ∨ op = 7 then 1 else rm
  match op with
  | 0 | 1 | 6 | 7 => (vfmt sn).map (fun m => fpToInt m r dn (op % 2 == 1) x)
  | 2 | 3 => (vfmt dn).map (fun m => fpOfInt m rm (if op = 3 then toSigned sn x else (x : Int)))
  | 4 => (vfmt sn).bind (fun m => (vfmt dn).map (fun o => fpConv m o rm x))
  | 5 => if dn < sn then (vfmt sn).bind (fun m => (vfmt dn).map (fun o => fpConv m o 6 x)) else none
  | _ => none

/-- OPFVV, OPFVF: f3 1, 5. -/
def vecF (k : VCtx) (c : Core) (w : Nat) : Option Core :=
  let f6 := bits w 26 6
  let vec := rvF3 w == 1
  let vd := rvRd w
  let vs2 := rvRs2 w
  let r1 := rvRs1 w
  let n := k.sew
  let rm := k.frm
  let a (i : Nat) : Nat := vget c vs2 n i
  let acts := (span 0 k.vl).filter (vact k c)
  if c.fs = 0 ∨ 5 ≤ rm then none
  else if f6 = 0x12 then
    let (sn, dn) := match r1 / 8 with | 0 => (n, n) | 1 => (n, 2 * n) | _ => (2 * n, n)
    if vec && decide (max sn dn ≤ 64) && decide (r1 < 24) && !(decide (r1 < 8) && (r1 == 4 || r1 == 5))
        && (vFcvt rm (r1 % 8) sn dn 0).isSome && vops k false vd dn vs2 sn 0 n then
      some (vEach k c vd dn (fun i => (vFcvt rm (r1 % 8) sn dn (vget c vs2 sn i)).getD (0, 0))) else none
  else match vfmt n with
  | none => none
  | some m =>
    let fs := c.fpr m r1
    let b (i : Nat) : Nat := if vec then vget c r1 n i else fs
    let same := vops k vec vd n vs2 n r1 n
    if f6 = 0x13 then
      let op (x : Nat) : Option (Nat × Nat) := match r1 with
        | 0 => some (fpSqrt m rm x)
        | 4 | 5 => some (Config.rvFloat w [n, rm, x] % 2 ^ n, Config.rvFloat w [n, rm, x] / 2 ^ n % 32)
        | 0x10 => some (fpClass m x, 0)
        | _ => none
      if vec && (op 0).isSome && vops k false vd n vs2 n 0 n then some (vEach k c vd n (fun i => (op (a i)).getD (0, 0))) else none
    else if f6 = 0x10 then
      if vec then (if r1 = 0 ∧ k.vm then some (vdone 0 (c.setF m vd (a 0))) else none)
      else if k.vm && vs2 == 0 then some (vScalar k c vd n fs 0) else none
    else if f6 = 0x0E ∨ f6 = 0x0F then
      if vec || !same || (f6 == 0x0E && vmeets vd (vregs k.l8) vs2 (vregs k.l8)) then none
      else some (vEach k c vd n (fun i =>
        (if f6 = 0x0E then (if i = 0 then fs else a (i - 1)) else if i + 1 = k.vl then fs else a (i + 1), 0)))
    else if f6 = 0x17 then
      if vec then none
      else if k.vm then (if vs2 = 0 ∧ vgrp vd k.l8 then some (vEach k c vd n (fun _ => (fs, 0))) else none)
      else if same then some (vEach { k with vm := true } c vd n (fun i => (if vbit c 0 i then fs else a i, 0))) else none
    else if [0x18, 0x19, 0x1B, 0x1C, 0x1D, 0x1F].contains f6 then
      if (vec && decide (0x1D ≤ f6)) || !vgrp vs2 k.l8 || (vec && !vgrp r1 k.l8) || !voverlap vd 1 8 vs2 n k.l8 || (vec && !voverlap vd 1 8 r1 n k.l8)
      then none
      else some (vMask k true c vd (fun i =>
        let r := match f6 with
          | 0x18 | 0x1C => fpCmp m 2 (a i) (b i)
          | 0x19 => fpCmp m 0 (a i) (b i)
          | 0x1B => fpCmp m 1 (a i) (b i)
          | 0x1D => fpCmp m 1 (b i) (a i)
          | _ => fpCmp m 0 (b i) (a i)
        ((r.1 == 1) != (f6 == 0x1C), r.2)))
    else if [0x01, 0x03, 0x05, 0x07].contains f6 then
      if vec && vgrp vs2 k.l8 && k.vstart == 0 then
        let init := vget c r1 n 0
        let (v, fl) := if f6 = 0x01 then (let z := Config.rvFloat w ([n, rm, init] ++ acts.map a); (z % 2 ^ n, z / 2 ^ n % 32))
          else acts.foldl (fun (p : Nat × Nat) i =>
            let r := if f6 = 0x03 then fpAdd m rm p.1 (a i) else fpMinMax m (f6 == 0x07) p.1 (a i)
            (r.1, p.2 ||| r.2)) (init, 0)
        some (vScalar k c vd n v fl) else none
    else if f6 = 0x31 ∨ f6 = 0x33 then
      if vec && n == 32 && vgrp vs2 k.l8 && k.vstart == 0 then
        let init := vget c r1 64 0
        let (v, fl) := if f6 = 0x31 then (let z := Config.rvFloat w ([n, rm, init] ++ acts.map a); (z % 2 ^ 64, z / 2 ^ 64 % 32))
          else acts.foldl (fun (p : Nat × Nat) i =>
            let x := widen (a i)
            let r := fpAdd fmtD rm p.1 x.1
            (r.1, p.2 ||| r.2 ||| x.2)) (init, 0)
        some (vScalar k c vd 64 v fl) else none
    else if 0x30 ≤ f6 then
      let wide := f6 == 0x34 || f6 == 0x36
      if n == 32 && vops k vec vd 64 vs2 (if wide then 64 else 32) r1 32 && (vFwop rm f6 0 0 0 0).isSome then
        some (vEach k c vd 64 (fun i =>
          let x := if wide then (0, 0) else widen (a i)
          let y := widen (b i)
          let r := (vFwop rm f6 x.1 (vget c vs2 64 i) y.1 (vget c vd 64 i)).getD (0, 0)
          (r.1, r.2 ||| x.2 ||| y.2))) else none
    else if (vec && (f6 == 0x21 || f6 == 0x27)) || !same then none
    else if (vFop m rm f6 0 0 0).isSome then
      some (vEach k c vd n (fun i => (vFop m rm f6 (a i) (b i) (vget c vd n i)).getD (0, 0))) else none

/-- An OP-V instruction: none where it is illegal. -/
def opV (c : Core) (w ag : Nat) : Option Core :=
  if rvF3 w = 7 then opVset c w
  else (vctx c w ag).bind (fun k => match rvF3 w with
    | 0 | 3 | 4 => vecI k c w
    | 2 | 6 => vecM k c w
    | _ => vecF k c w)

/-! Loads and stores. -/

/-- One element access: its number, address, bytes, register group and place in it. -/
structure VAcc where
  i : Nat
  addr : Nat
  n : Nat
  reg : Nat
  idx : Nat
  deriving DecidableEq, Repr

/-- Whether the opcode LOAD-FP or STORE-FP word is a vector one: its EEW. -/
def vWidth (w : Nat) : Option Nat :=
  match rvF3 w with | 0 => some 8 | 5 => some 16 | 6 => some 32 | 7 => some 64 | _ => none

/-- The element accesses of a vector load or store, in order, active ones alone; none where it is illegal. -/
def vAccs (c : Core) (w eew : Nat) : Option (List VAcc) :=
  let nf := bits w 29 3 + 1
  let mop := bits w 26 2
  let vm := bit w 25
  let um := rvRs2 w
  let vd := rvRd w
  let base := (c.xr (rvRs1 w)).toNat
  let store := rvOp w == 0x27
  let vt := c.csrv 0xC21
  let sew := 8 * 2 ^ bits vt 3 3
  let l8 := if bits vt 0 3 < 4 then 8 * 2 ^ bits vt 0 3 else 8 / 2 ^ (8 - bits vt 0 3)
  let vl := c.csrv 0xC20
  let vs := c.csrv 8
  let at64 (a : Nat) : Nat := a % 2 ^ 64
  let on (i : Nat) : Bool := vm || vbit c 0 i
  if bit w 28 ∨ c.vs = 0 then none
  else if mop = 0 ∧ um = 8 then
    if vm && [1, 2, 4, 8].contains nf && vd % nf == 0 && decide (vd + nf ≤ 32) && (!store || eew == 8) then
      some ((span vs (nf * 512 / eew)).map (fun i => { i := i, addr := at64 (base + i * (eew / 8)), n := eew, reg := vd, idx := i }))
    else none
  else if vlmaxOf vt = 0 then none
  else if mop = 0 ∧ um = 0xB then
    if vm && nf == 1 && eew == 8 then
      some ((span vs ((vl + 7) / 8)).map (fun i => { i := i, addr := at64 (base + i), n := 8, reg := vd, idx := i }))
    else none
  else
    let idx := mop == 1 || mop == 3
    let de := if idx then sew else eew
    let dl := if idx then l8 else l8 * eew / sew
    let il := l8 * eew / sew
    let ok := vgrp vd dl && decide (nf * vregs dl ≤ 8) && decide (vd + nf * vregs dl ≤ 32) && (store || vm || vd != 0)
      && (dl != 0) && (!idx || (vgrp um il && (store || (if nf = 1 then voverlap vd de dl um eew il else !vmeets vd (nf * vregs dl) um (vregs il)))))
      && (idx || mop == 2 || um == 0 || (um == 0x10 && !store))
    if ok = false then none
    else
      let addr (i j : Nat) : Nat := match mop with
        | 0 => base + (i * nf + j) * (de / 8)
        | 2 => base + i * (c.xr um).toNat + j * (de / 8)
        | _ => base + vget c um eew i + j * (de / 8)
      some (((span vs vl).filter on).flatMap (fun i => (List.range nf).map (fun j =>
        { i := i, addr := at64 (addr i j), n := de, reg := vd + j * vregs dl, idx := i })))

/-- The tail and masked-off elements of a load, by policy; a whole-register load has none. -/
def vLoadRest (c : Core) (w eew ag : Nat) : Core :=
  match vctx c w ag with
  | none => c
  | some k =>
    let nf := bits w 29 3 + 1
    let idx := bits w 26 1 == 1
    let de := if idx then k.sew else eew
    let dl := if idx then k.l8 else k.l8 * eew / k.sew
    if bits w 26 2 = 0 ∧ rvRs2 w = 8 then c
    else if bits w 26 2 = 0 ∧ rvRs2 w = 0xB then (span ((k.vl + 7) / 8) 64).foldl (fun c i => vagn k (rvRd w) 8 i c) c
    else if k.vl ≤ k.vstart then c
    else (List.range nf).foldl (fun c j =>
      let r := rvRd w + j * vregs dl
      let c := if k.ma then ((span k.vstart k.vl).filter (fun i => !(vact k c i))).foldl (fun c i => vagn k r de i c) c else c
      if k.ta then (span k.vl (vregs dl * 512 / de)).foldl (fun c i => vagn k r de i c) c else c) c

end Sys2Proof.Machine
end

