-- ==== Sys2Proof/Machine/PrmOps.lean ====
section
/-! DEFINITION. What Primrose cores do to the machine: loads and stores by the core address map, halts, waits, the custom
instructions, and one instruction from fetch to its effect (10 R242 to R261; 12 R319; 17 R456, R460, R463, R467). -/

namespace Sys2Proof.Machine

/-! The core address map (10 R243). -/

inductive CorePlace where
  | lmem | scratch (dev : Nat) | reg (off : Nat) | dev (a : Nat) | misaligned | none
  deriving DecidableEq, Repr

/-- Where an access of n bytes at a core address leads. -/
def corePlace (r a n : Nat) : CorePlace :=
  if a + n ≤ 0x40000 then .lmem
  else if 0x10000000 ≤ a ∧ a + n ≤ 0x15000000 then (if 64 < a % 64 + n then .misaligned else .scratch (coreDev r a))
  else if 0x20000000 ≤ a ∧ a + n ≤ 0x20010000 then (if a % n ≠ 0 then .misaligned else .reg (a - 0x20000000))
  else if 2 ^ 63 ≤ a ∧ a < 2 ^ 63 + 2 ^ 48 then (if a % n ≠ 0 then .misaligned else .dev (a - 2 ^ 63))
  else .none

/-- An access that is a network transaction (10 R244). -/
def CorePlace.far : CorePlace → Bool
  | .scratch _ | .dev _ => true
  | _ => false

/-- Bytes of a core's local memory. -/
def lread (c : Core) (a n : Nat) : List Byte := (List.range n).map (fun i => cellRead c.lmem (a + i))
def lwriteCells : List Host.Cell → Nat → List Byte → List Host.Cell
  | m, _, [] => m
  | m, a, b :: t => lwriteCells (cellWrite m a b) (a + 1) t
def Core.lwrite (c : Core) (a : Nat) (l : List Byte) : Core := { c with lmem := lwriteCells c.lmem a l }

/-- Lines of a row's scratchpad that [d, d + n) of the device touches: row, first LN, lines; none elsewhere. -/
def linesAt (s : State) (d n : Nat) : Option (Nat × Nat × Nat) :=
  match place s d with
  | .scratch q _ => some (q, d / 64 % 1310720, (d % 64 + n + 63) / 64)
  | _ => none

/-- The error record of a core's access (17 R456, Table 17.5). -/
def accRecord (r c : Nat) (k : Code) (unit a : Nat) (s : State) : State :=
  errRecord { code := k, unit := unit, op := 4, addr := a, detail := 8 * r + c } s

/-- The unit that supplied a byte. -/
def supplier (s : State) (r c d : Nat) : Nat :=
  match place s d with
  | .scratch q b => uBank q b
  | .mem u _ => uMem u
  | _ => uPrm r ((prmPos s r c).getD c)

/-! Loads and stores. -/

/-- What an access gives: bytes and the state after it, or a trap (with the state after it). -/
inductive Acc1 where
  | ok (l : List Byte) (s : State)
  | trap (cause tval : Nat) (s : State)

/-- What the lines read do to the core's taint (17 R460, R463). -/
def coreTaint (r c d n : Nat) (s : State) : State :=
  match linesAt s d n with
  | some (q, l, k) =>
    let t := taintRead (s.row q) (s.core r c).taint [(l, k)]
    let bad := poisonedOver (s.row q) l k
    (s.modCore r c (fun x => { x with taint := t, taintBad := x.taintBad || bad })).modRow q (stampBanks s.tb (banksOf l k))
  | none => s

/-- A load of n bytes. `err` is what it meets: 1 a failing byte, 2 an uncorrectable memory error. -/
def coreLoad (r c a n err : Nat) (s : State) : Acc1 :=
  match corePlace r a n with
  | .lmem =>
    if err = 1 then
      .trap 5 a (accRecord r c .parityError (uPrm r ((prmPos s r c).getD c)) a (s.modCore r c (fun x => { x with parity := true })))
    else .ok (lread (s.core r c) a n) s
  | .reg o => let (l, s) := rowRegRead r o n s; .ok l s
  | .misaligned => .trap 4 a s
  | .none => .trap 5 a s
  | .scratch d | .dev d =>
    if accessCode s false d n ≠ .ok then .trap 5 a s
    else if err = 1 then .trap 5 a (accRecord r c .parityError (supplier s r c d) a s)
    else if err = 2 then .trap 5 a (memMark d (accRecord r c .memUncorrectable (supplier s r c d) a s))
    else .ok (memRead s d n) (coreTaint r c d n s)

/-- A line lies within a write reservation that the core owns (10 R245). -/
def coreOwns (w : Row) (c l : Nat) : Bool :=
  w.scb.any (fun e => e.owner == ownPrm c && e.wr && decide (e.line ≤ l) && decide (l < e.line + 8 * e.len))

/-- A store of bytes (10 R245; 17 R460). -/
def coreStore (r c a : Nat) (l : List Byte) (s : State) : Acc1 :=
  let n := l.length
  match corePlace r a n with
  | .lmem => .ok [] (s.modCore r c (fun x => x.lwrite a l))
  | .reg o => .ok [] (rowRegWrite r o n (leNat l) true s)
  | .misaligned => .trap 6 a s
  | .none => .trap 7 a s
  | .scratch d | .dev d =>
    match linesAt s d n with
    | some (q, ln, k) =>
      if q ≠ r ∨ coreOwns (s.row r) c ln = false ∨ accessCode s true d n ≠ .ok then .trap 7 a s
      else
        let x := s.core r c
        let u := unitsOver ln k
        let s := memWrite s d l
        .ok [] (if (s.row r).prov.any (fun e => e.line == u.1 && e.len == u.2 && e.origins == x.taint && e.poisoned == x.taintBad) then s
          else s.modRow r (provWrite x.taint x.taintBad ln k))
    | none => if accessCode s true d n ≠ .ok then .trap 7 a s else .ok [] (memWrite s d l)

/-! The accesses of an instruction. -/

/-- Address, bytes and whether it stores, of each access of a load, store or atomic; none where it is illegal. -/
def accsOf (x : Core) (w : Nat) : Option (List (Nat × Nat × Bool)) :=
  let f3 := rvF3 w
  let base := (x.xr (rvRs1 w) + (if rvOp w = 0x23 ∨ rvOp w = 0x27 then immS w else immI w)).toNat
  let vec (eew : Nat) : Option (List (Nat × Nat × Bool)) :=
    (vAccs x w eew).map (·.map (fun e => (e.addr, e.n / 8, rvOp w == 0x27)))
  match rvOp w with
  | 0x03 => if f3 = 7 then none else some [(base, 2 ^ (f3 % 4), false)]
  | 0x23 => if 3 < f3 then none else some [(base, 2 ^ f3, true)]
  | 0x07 => match vWidth w with
    | some e => vec e
    | none => if x.fs = 0 ∨ (f3 ≠ 2 ∧ f3 ≠ 3) then none else some [(base, 2 ^ f3, false)]
  | 0x27 => match vWidth w with
    | some e => vec e
    | none => if x.fs = 0 ∨ (f3 ≠ 2 ∧ f3 ≠ 3) then none else some [(base, 2 ^ f3, true)]
  | 0x2F =>
    if f3 ≠ 2 ∧ f3 ≠ 3 then none
    else if [0, 1, 3, 4, 8, 0xC, 0x10, 0x14, 0x18, 0x1C].contains (bits w 27 5) ∨ (bits w 27 5 = 2 ∧ rvRs2 w = 0)
    then some [((x.xr (rvRs1 w)).toNat, 2 ^ f3, bits w 27 5 != 2)] else none
  | _ => none

/-- What an atomic stores, from what it read and rs2 (n bits). -/
def amoOp (f5 n a b : Nat) : Nat :=
  let sa := toSigned n a
  let sb := toSigned n b
  match f5 with
  | 0 => (a + b) % 2 ^ n | 1 => b | 4 => a ^^^ b | 8 => a ||| b | 0xC => a &&& b
  | 0x10 => if sa ≤ sb then a else b | 0x14 => if sa ≤ sb then b else a
  | 0x18 => min a b | _ => max a b

/-- What an instruction does: the state after it, or a trap. -/
inductive Ran where
  | done (s : State)
  | trap (cause tval : Nat) (s : State)

/-- A trap taken by a core (10 R260). -/
def Ran.finish (r c : Nat) : Ran → State
  | .done s => s
  | .trap cause tval s => s.modCore r c (fun x => x.trap cause tval)

/-- An atomic: local memory alone (10 Table 10.1). -/
def runAmo (r c w len err : Nat) (s : State) : Ran :=
  let x := s.core r c
  let a := (x.xr (rvRs1 w)).toNat
  let n := 2 ^ rvF3 w
  let f5 := bits w 27 5
  let b := (x.xr (rvRs2 w)).toNat % 2 ^ (8 * n)
  let put (x : Core) (v : Nat) : Core := (x.setX (rvRd w) (sx (8 * n) v).toNat).adv len
  if 0x40000 < a + n then .trap 7 a s
  else if a % n ≠ 0 then .trap (if f5 = 2 then 4 else 6) a s
  else if f5 = 3 then
    let ok := x.resv == some a
    .done (s.modCore r c (fun x =>
      let x := if ok then x.lwrite a (leBytes n b) else x
      ({ x with resv := none }.setX (rvRd w) (b2n (!ok))).adv len))
  else match coreLoad r c a n err s with
    | .trap _ tv s => .trap (if f5 = 2 then 5 else 7) tv s
    | .ok l s =>
      if f5 = 2 then .done (s.modCore r c (fun x => put { x with resv := some a } (leNat l)))
      else .done (s.modCore r c (fun x => put (x.lwrite a (leBytes n (amoOp f5 (8 * n) (leNat l) b))) (leNat l)))

/-- The element accesses in order, from the first, until one traps. A trap leaves vstart at its element; a
fault-only-first load instead shortens vl to it, unless it is element 0. -/
def runElems (r c err : Nat) (store fof : Bool) : List VAcc → State → Ran
  | [], s => .done s
  | e :: t, s =>
    let x := s.core r c
    let res := if store then coreStore r c e.addr (leBytes (e.n / 8) (vget x e.reg e.n e.idx)) s
      else coreLoad r c e.addr (e.n / 8) err s
    match res with
    | .trap cause tv s =>
      if fof && decide (0 < e.i) then .done (s.modCore r c (fun x => x.setCsr 0xC20 e.i))
      else .trap cause tv (s.modCore r c (fun x => (x.setCsr 8 e.i).dirtyV))
    | .ok l s => runElems r c err store fof t (if store then s else s.modCore r c (vput e.reg e.n e.idx (leNat l)))

/-- A 128-bit access to the row registers: two elements of 64 bits, side by side and aligned, go as one (11 R274, R284; 08
R223; log 21). -/
def pairAccess (r : Nat) (l : List VAcc) : Option (Nat × VAcc × VAcc) :=
  match l with
  | [e, f] =>
    if e.n = 64 ∧ f.addr = e.addr + 8 ∧ e.addr % 16 = 0 then
      match corePlace r e.addr 16 with | .reg o => some (o, e, f) | _ => none
    else none
  | _ => none

/-- A vector load or store. -/
def runVec (r c w len eew err : Nat) (s : State) : Ran :=
  let x := s.core r c
  let store := rvOp w == 0x27
  let fof := !store && bits w 26 2 == 0 && rvRs2 w == 0x10
  let (ag, s) := s.draw
  let fin (s : State) : State := s.modCore r c (fun x =>
    let x := if store then x else vLoadRest x w eew ag
    ((x.setCsr 8 0).dirtyV).adv len)
  match vAccs x w eew with
  | none => .trap 2 w s
  | some l =>
    match pairAccess r l with
    | some (o, e, f) =>
      if store then .done (fin (rowRegWrite r o 16 (vget x e.reg 64 e.idx + 2 ^ 64 * vget x f.reg 64 f.idx) true s))
      else
        let (b, s) := rowRegRead r o 16 s
        .done (fin (s.modCore r c (fun x => vput f.reg 64 f.idx (leNat (b.drop 8)) (vput e.reg 64 e.idx (leNat (b.take 8)) x))))
    | none =>
      match runElems r c err store fof l s with
      | .done s => .done (fin s)
      | t => t

/-- A scalar load or store. -/
def runScalar (r c w len a n err : Nat) (store : Bool) (s : State) : Ran :=
  let x := s.core r c
  if store then
    let v := if rvOp w = 0x27 then x.fr (rvRs2 w) else (x.xr (rvRs2 w)).toNat
    match coreStore r c a (leBytes n v) s with
    | .ok _ s => .done (s.modCore r c (·.adv len))
    | .trap k tv s => .trap k tv s
  else match coreLoad r c a n err s with
    | .ok l s => .done (s.modCore r c (fun x =>
        (if rvOp w = 0x07 then x.setF (if n = 4 then fmtS else fmtD) (rvRd w) (leNat l)
         else x.setX (rvRd w) (if rvF3 w < 4 then (sx (8 * n) (leNat l)).toNat else leNat l)).adv len))
    | .trap k tv s => .trap k tv s

/-- A load, store or atomic, performed now. -/
def runMem (r c w len err : Nat) (s : State) : Ran :=
  match accsOf (s.core r c) w with
  | none => .trap 2 w s
  | some l =>
    if rvOp w = 0x2F then runAmo r c w len err s
    else match (if rvOp w = 0x07 ∨ rvOp w = 0x27 then vWidth w else none), l with
      | some e, _ => runVec r c w len e err s
      | none, (a, n, st) :: _ => runScalar r c w len a n err st s
      | none, [] => .done s

/-! Whether a far access can be performed now. -/

/-- Everything on the path of one access: the row, the half, the bank, the taint and the provisional table (04 R107, R111; 11
R286 to R289; 17 R459, R460). -/
def accReady (s : State) (r c a n : Nat) (store : Bool) : Bool :=
  match corePlace r a n with
  | .scratch d | .dev d =>
    pathUsable s d && (match place s d with
      | .scratch q b =>
        let k := s.bank q b
        (rowIsOut s q || rowIsDark s q || ((k.st == .on || k.st == .off || k.st == .retired || (k.st == .entering && k.toOff)) && !k.inTest))
          && decide ((taintRead (s.row q) (s.core r c).taint [(d / 64 % 1310720, 1)]).length ≤ 4)
          && (!store || ((s.core r c).taint.isEmpty && !(s.core r c).taintBad) || decide ((s.row q).prov.length < 64))
      | _ => true)
  | _ => true

/-- What a far access wakes on its way: the row, the parked half, the bank in RET (04 R105, R111; 11 R287). -/
def accWake (r a n : Nat) (s : State) : State :=
  match corePlace r a n with
  | .scratch d | .dev d =>
    match place s d with
    | .scratch q b => if rowRuns s q then s.modRow q (wakeBanks [b]) else wakeRow q s
    | .mem u _ => if u < 8 then touchHalf (u / 4) s else s
    | _ => s
  | _ => s

/-- A fetch command: one aligned 64-byte vector store to a fetch port; the bridge and the bytes (12 R319). -/
def fetchStore (s : State) (r c : Nat) : Option (Nat × List Byte) :=
  let x := s.core r c
  match x.mem with
  | none => none
  | some m =>
    match vWidth m.word with
    | none => none
    | some eew =>
      match vAccs x m.word eew with
      | some (e :: t) =>
        let l := e :: t
        let whole := rvOp m.word == 0x27 && decide (l.length * (e.n / 8) = 64)
          && (List.range l.length).all (fun i => (nth (l.map (·.addr)) i) == e.addr + i * (e.n / 8))
        match corePlace r e.addr 64 with
        | .dev d => match place s d with
          | .fetch b => if whole then some (b, l.flatMap (fun y => leBytes (y.n / 8) (vget x y.reg y.n y.idx))) else none
          | _ => none
        | _ => none
      | _ => none

/-! Halts and the watchdog. -/

/-- The watchdog restarts at PERIOD (10 R259). -/
def Core.kick (x : Core) (tb : Nat) : Core := { x with wdAt := tb + 1000 * x.period }

/-- A core halts: HCODE, its pending SRESV withdrawn, the error record (10 R259, R260; 17 R469). -/
def haltCore (r c : Nat) (k : Code) (s : State) : State :=
  let s := s.modRow r (fun w => { w with scbPend := w.scbPend.filter (·.owner != ownPrm c) })
  let s := s.modCore r c (fun x => { x with st := .halted, hcode := k.val, wait := none, mem := none })
  errRecord { code := k, unit := uPrm r ((prmPos s r c).getD c), op := 4 } s

/-- An SRESV ends: its status, and the core runs again (10 R250). -/
def endSresv (r k : Nat) (c : Code) (s : State) : State :=
  s.modCore r k (fun x => match x.wait with
    | some w => if w.isTb then x else ({ x with wait := none, st := .running }).setX w.rd c.val
    | none => x)

/-! The custom instructions. Each answers what an instruction at the core does. -/

/-- A core that may execute: bound, running, with no access and no RPUSH outstanding, on a row that runs (10 R257; 17
R480). -/
def coreRuns (s : State) (r c : Nat) : Bool :=
  let x := s.core r c
  rowRuns s r && decide (c < 8) && (prmPos s r c).isSome && x.st == .running && x.mem.isNone && x.heldPush.isNone

/-- rd written and the pc moved. -/
def retire (r c rd v len : Nat) (s : State) : State := s.modCore r c (fun x => (x.setX rd v).adv len)

/-- RPOP (10 R247, R248; 15 R427; 17 R483; 18 R489, R509). -/
def doRpop (r c rd : Nat) (a b : Nat) (s : State) : Ran :=
  if b % 64 ≠ 0 then .trap 6 b s
  else if 0x40000 < b + 64 then .trap 7 b s
  else
    let out (k : Code) (n left : Nat) (s : State) : Ran := .done (retire r c rd (k.val + 2 ^ 16 * (n % 2 ^ 16) + 2 ^ 32 * (left % 2 ^ 12)) 4 s)
    let take (n : Nat) (s : State) : Ran :=
      match s.ring n with
      | some g =>
        if ringHolds s g then
          let (e, s) := popEntry n c g s
          out .ok n (g.count - 1) (s.modCore r c (fun x => { x.lwrite b e with lastRing := n }))
        else out .ringEmpty n 0 s
      | none => out .ringEmpty n 0 s
    if a = 0xFFFFFFFF then
      let s := each (s.rings.rings.filter (fun p => ringAssigned p.2 r c)) (fun p s => purgeHead p.2.count p.1 s) s
      match nextRing s r c (s.core r c).lastRing with
      | some n => take n s
      | none => let (v, s) := s.draw; out .ringEmpty v 0 s
    else match (if a < 65536 then s.ring a else none) with
      | some g =>
        if ringAssigned g r c then take a (if s.rings.up then purgeHead g.count a s else s)
        else let (v, s) := s.draw; out .ringNotOwned a v s
      | none => let (v, s) := s.draw; out .ringNotOwned a v s

/-- RPUSH (10 R249; 15 R428, R429; 17 R467): a tainted core's post is held. -/
def doRpush (r c rd : Nat) (a b : Nat) (s : State) : Ran :=
  if 0x40000 < b + 64 then .trap 5 b s
  else
    let x := s.core r c
    let e := lread x b 64
    match (if a < 65536 then s.ring a else none) with
    | none => .done (retire r c rd Code.ringNotOwned.val 4 s)
    | some g =>
      if ringAssigned g r c = false then .done (retire r c rd Code.ringNotOwned.val 4 s)
      else if !x.taint.isEmpty || x.taintBad then .done (s.modCore r c (fun x => { x with heldPush := some (a, e, rd) }))
      else
        let (k, s) := enginePush a r c e s
        .done (retire r c rd k.val 4 s)

/-- Fields of the reservation words of SRESV and SRELS (10 R250, R251). -/
def srLine (v : Nat) : Nat := bits v 0 21
def srLen (v : Nat) : Nat := bits v 21 13
def srWr (v : Nat) : Bool := bit v 63
def srIllegal (v : Nat) : Bool :=
  bits v 34 29 != 0 || srLine v % 8 != 0 || srLen v == 0 || decide (1310720 < srLine v + 8 * srLen v)

/-- The status of an SRESV that is not granted by its deadline (10 R250). -/
def sresvLate (w : Row) : Code := if 256 ≤ w.scb.length then .scbFull else .deadlinePassed

/-- SRESV (10 R250; 11 R269): granted or refused at once, a single attempt, or a wait. -/
def doSresv (r c rd a b : Nat) (s : State) : Ran :=
  let fin (k : Code) (s : State) : Ran := .done (retire r c rd k.val 4 s)
  if srIllegal a then fin .scbIllegal s
  else
    let q : ScbReq := { owner := ownPrm c, ranges := [(srLine a, srLen a, srWr a)], tb := s.tb }
    match scbRequest s.tb q (s.row r) with
    | (.grant, w) => fin .ok (s.modRow r (fun _ => clearPoisoned (srLine a, srLen a, srWr a) w))
    | (.refuse k, _) => fin k s
    | (.wait, w) =>
      if b ≤ s.tb then fin (sresvLate (s.row r)) s
      else .done ((s.modRow r (fun _ => w)).modCore r c (fun x =>
        { x with st := .waiting, wait := some { isTb := false, untilTb := b, rd := rd } }.adv 4))

/-- SRELS (10 R251). -/
def doSrels (r c rd a : Nat) (s : State) : Ran :=
  let hit (e : ScbEntry) : Bool := e.owner == ownPrm c && e.line == srLine a && e.len == srLen a && e.wr == srWr a && bits a 34 29 == 0
  if (s.row r).scb.any hit then .done (retire r c rd Code.ok.val 4 (s.modRow r (scbFreeIf s.tb hit)))
  else .done (retire r c rd Code.relsNomatch.val 4 s)

/-- What TBWAIT returns (10 R252). -/
def tbwaitVal (s : State) (r c : Nat) : Nat := s.tb % 2 ^ 63 + 2 ^ 63 * b2n (ringReady s r c)

/-- TBWAIT (10 R252, R259): it ends at once, or the core waits with its watchdog paused. -/
def doTbwait (r c rd a b w : Nat) (s : State) : Ran :=
  if 1 < b then .trap 2 w s
  else if a ≤ s.tb ∨ (b = 1 ∧ ringReady s r c = true) then
    .done ((retire r c rd (tbwaitVal s r c) 4 s).modCore r c (·.kick s.tb))
  else .done (s.modCore r c (fun x =>
    { x with st := .waiting, wdLeft := x.wdAt - s.tb, wait := some { isTb := true, untilTb := a, ring := b == 1, rd := rd } }.adv 4))

/-- Bound arithmetic on the low 16 bits of registers (10 R253). -/
def boundOp (f3 a b d : Nat) : Nat :=
  let x := bndOf (a % 65536)
  let y := bndOf (b % 65536)
  let z := bndOf (d % 65536)
  bndBits (match f3 with
    | 0 => bAdd x y
    | 1 => bMul x y
    | 2 => bMax x y
    | _ => match x, y, z with
      | some x, some y, some z => bUp (x * y + z)
      | _, _, _ => none)

/-- The custom-0 and custom-1 words (10 R246, Table 10.3). -/
def doCustom (r c w : Nat) (s : State) : Ran :=
  let x := s.core r c
  let rd := rvRd w
  let a := (x.xr (rvRs1 w)).toNat
  let b := (x.xr (rvRs2 w)).toNat
  let d := (x.xr (rvRs3 w)).toNat
  let f3 := rvF3 w
  if rvOp w = 0x0B then
    if rvF7 w ≠ 0 then .trap 2 w s
    else match f3 with
      | 0 => doRpop r c rd a b s
      | 1 => doRpush r c rd a b s
      | 2 => doSresv r c rd a b s
      | 3 => doSrels r c rd a s
      | 4 => doTbwait r c rd a b w s
      | 5 => if rd = 0 ∧ rvRs1 w = 0 ∧ rvRs2 w = 0 then .done (s.modCore r c (fun x => (x.kick s.tb).adv 4)) else .trap 2 w s
      | _ => .trap 2 w s
  else if f3 < 3 then
    if rvF7 w ≠ 0 then .trap 2 w s else .done (retire r c rd (boundOp f3 a b 0) 4 s)
  else if f3 = 3 then
    if bits w 25 2 ≠ 0 then .trap 2 w s else .done (retire r c rd (boundOp 3 a b d) 4 s)
  else if f3 = 4 then
    if bits w 25 2 = 3 then .trap 2 w s else .done (retire r c rd (fhash (bits w 25 2) a b d) 4 s)
  else .trap 2 w s

/-- A custom instruction at a core, if the core may execute; otherwise nothing (log 20). -/
def atCore (r c : Nat) (f : State → Ran) (s : State) : Res :=
  if coreRuns s r c then .next ((f (startWake r s)).finish r c) else .next s

/-! One instruction. -/

/-- The instruction at the pc: its bits, the 32-bit form it stands for, and its bytes; or where its fetch faults (10 Table
10.1: local memory alone). -/
inductive Fetched where
  | ok (raw w len : Nat)
  | illegal (raw : Nat)
  | fault (a : Nat)
  deriving DecidableEq, Repr

def fetchInstr (x : Core) : Fetched :=
  let pc := x.pc.toNat
  if 0x40000 < pc + 2 then .fault pc
  else
    let h := leNat (lread x pc 2)
    if h % 4 ≠ 3 then (match expandC h with | some w => .ok h w 2 | none => .illegal h)
    else if 0x40000 < pc + 4 then .fault (pc + 2)
    else let w := leNat (lread x pc 4); .ok w w 4

/-- The effect of one fetched instruction. `err` is what a load of it meets. -/
def runInstr (r c raw w len err : Nat) (s : State) : Ran :=
  let x := s.core r c
  match rvOp w with
  | 0x0B | 0x2B => doCustom r c w s
  | 0x03 | 0x23 | 0x07 | 0x27 | 0x2F =>
    match accsOf x w with
    | none => .trap 2 raw s
    | some l =>
      match (if rvOp w = 0x2F then none else l.find? (fun g => (corePlace r g.1 g.2.1).far)) with
      | some g =>
        let s := accWake r g.1 g.2.1 s
        let start : Option Nat := if pathUsable s (coreDev r g.1) then some s.tb else none
        let m : PendMem := { word := w, len := len, isStore := g.2.2, addr := g.1, startTb := start, limit := s.gw.tmoNet }
        .done (s.modCore r c (fun x => { x with mem := some m }))
      | none => runMem r c w len err s
  | 0x57 =>
    let (ag, s) := s.draw
    match opV x w ag with
    | some y => .done (s.modCore r c (fun _ => y.adv len))
    | none => .trap 2 raw s
  | _ =>
    let (fv, s) := s.draw
    match rvExec x w len s.tb (fv % 2 ^ 64) (Config.hartId (w / 2 ^ 20) r c % 2 ^ 64) (.trap 2 raw) with
    | .core y => .done (s.modCore r c (fun _ => y))
    | .trap k tv => .trap k tv s

end Sys2Proof.Machine
end

