-- ==== Sys2Proof/Machine/PoolOps.lean ====
section
/-! DEFINITION. What a row-fetch engine does: the command's checks, the entry list, the row cache, decoding, sums and
output (06 R156 to R160; 12 R312 to R328). -/

namespace Sys2Proof.Machine

/-! The command. -/

/-- The fields of a stored command (12, Table 12.5). -/
def parseFetch (l : List Byte) (row slot : Nat) : FetchCmd :=
  { op := field l 0 1, ofmt := field l 1 1, flags := field l 2 1, table := field l 4 4, tag := field l 8 2
    nbags := field l 0x0A 2, nids := field l 0x0C 4, list := field l 0x10 8, keys := field l 0x18 8, dst := field l 0x20 8
    dside := field l 0x28 8, cpl := field l 0x30 8, stride := field l 0x38 4
    rsvOk := field l 3 1 == 0 && field l 0x3C 4 == 0, row := row, slot := slot }

end Sys2Proof.Machine

namespace Sys2Proof

def FetchCmd.skewed (c : FetchCmd) : Bool := Machine.bit c.flags 0
def FetchCmd.unweighted (c : FetchCmd) : Bool := Machine.bit c.flags 1
def FetchCmd.witness (c : FetchCmd) : Bool := Machine.bit c.flags 2
/-- A command of this module. -/
def FetchCmd.isLocal (c : FetchCmd) : Bool := c.src == 0

end Sys2Proof

namespace Sys2Proof.Machine

/-- A scratchpad address on a line. -/
def isLine (a : Nat) : Bool := decide (a < 480 * 2 ^ 21) && a % 64 == 0

/-- Bytes of an output vector in scratchpad (11 R266: BQ8 carries no scales inline). -/
def outBytes (ofmt dim : Nat) : Nat := dim * elemBytes ofmt

/-- Bytes of a vector's BQ8 scale record: 16 for every 512 elements (11 R266; log 51). -/
def scaleRec (dim : Nat) : Nat := 16 * ((dim + 511) / 512)

/-- A field of Table 12.5 outside its range, an OP that does not fit the TYPE, or a bad SKEWED (12 R322). -/
def fetchIllegal (c : FetchCmd) (t : Table) : Bool :=
  let pool := c.op == 1
  let ref (a : Nat) : Bool := if c.isLocal then isLine a else a % 64 == 0
  !c.rsvOk || !([1, 2, 3].contains c.op) || decide (7 < c.flags) || (if pool then decide (15 < c.ofmt) else c.ofmt != 0)
    || (if pool then t.type == .kv else t.type != .kv)
    || (pool && c.skewed && (decide (512 < t.dim) || c.ofmt == 0xA))
    || (if pool then c.nbags == 0 || decide (4095 < c.nbags) else c.nbags != 0)
    || c.nids == 0 || decide (65536 < c.nids)
    || (if c.isLocal then decide (2 ^ 48 ≤ c.list) else c.list != 0)
    || (if c.isLocal && t.type == .keyed then decide (2 ^ 48 ≤ c.keys) else c.keys != 0)
    || (if c.op == 3 then c.dst != 0 else !ref c.dst) || (if pool then !ref c.dside else c.dside != 0)
    || (c.isLocal && c.op != 3 && c.dst / 83886080 != c.cpl / 83886080)
    || (!c.isLocal && decide (c.entries.length < c.nids * (if c.op == 2 then 8 else 16) + (if t.type == .keyed then 8 * c.nids else 0)))
    || (if pool && !c.skewed then c.stride % 64 != 0 || decide (c.stride < outBytes c.ofmt t.dim) else c.stride != 0)

/-- Extents a command writes in scratchpad: address, bytes (12 R320, R323). -/
def fetchExtents (c : FetchCmd) (t : Table) : List (Nat × Nat) :=
  let out : List (Nat × Nat) := match c.op with
    | 1 => [(c.dst, if c.skewed then 64 * skewLines c.ofmt c.nbags t.dim else (c.nbags - 1) * c.stride + outBytes c.ofmt t.dim),
            (c.dside, 64 * ((c.nbags + 31) / 32) + (if c.ofmt = 6 then c.nbags * scaleRec t.dim else 0))]
    | 2 => [(c.dst, c.nids * t.bsize)]
    | _ => []
  out ++ [(c.cpl, 64)]

/-- The answer of a row to what a command writes: UNIT_RETIRED or ROW_DARK (12 R322). -/
def fetchPlace (s : State) (g : Nat × Nat) : Code :=
  (List.range 12).foldl (fun k r =>
    let (l, n) := extentLines r (g.1, g.2, true)
    if k != .ok || n = 0 then k
    else if rowIsOut s r then .unitRetired else if rowIsDark s r then .rowDark
    else if (banksOf l ((n + 7) / 8)).any (fun b => (s.bank r b).st == .retired) then .unitRetired else .ok) .ok

/-- The checks before the list is read, in the order of R322; WITNESS without the unit under 00 R8. -/
def fetchCheck (s : State) (b : Nat) (c : FetchCmd) : Code :=
  match s.table c.table with
  | none => .tableUnknown
  | some t =>
    if t.bridge ≠ b ∨ c.unknown then .tableUnknown
    else if fetchIllegal c t then .fetchIllegal
    else if c.op = 1 ∧ ¬ [0xA, 9, 7, 8, 6].contains c.ofmt then .formatUnsupported
    else match (if c.isLocal then (fetchExtents c t).map (fetchPlace s) else []).find? (· != .ok) with
      | some k => k
      | none => if c.witness ∧ hasWitness s = false then .unitAbsent else .ok

/-- A bridge whose engines work. -/
def bridgeServes (s : State) (b : Nat) : Bool := bridgeUp s b

/-! Reading the list. -/

/-- A read that must wait: its row wakes first, and a write reservation over it is released first (11 R291; 04 R105). -/
def readHeld (s : State) (a n : Nat) : Bool :=
  match linesAt s a n with
  | some (q, l, k) => (!rowRuns s q && !rowIsOut s q && !rowIsDark s q)
      || (s.row q).scb.any (fun e => e.wr && decide (e.line < l + k) && decide (l < e.line + 8 * e.len))
  | none => false
def readWake (s : State) (a n : Nat) : State := match linesAt s a n with | some (q, _, _) => wakeRow q s | none => s

/-- Bytes [o, o + n) of the entry list, and of the keys. -/
def listAt (s : State) (c : FetchCmd) (o n : Nat) : List Byte := if c.isLocal then memRead s (c.list + o) n else (c.entries.drop o).take n
def keyAt (s : State) (c : FetchCmd) (i : Nat) : Nat :=
  leNat (if c.isLocal then memRead s (c.keys + 8 * i) 8 else (c.entries.drop (16 * c.nids + 8 * i)).take 8)

/-- The device extents one list entry is read from. -/
def entryReads (c : FetchCmd) (keyed : Bool) (i n : Nat) : List (Nat × Nat) :=
  if c.isLocal then (c.list + n * i, n) :: (if keyed then [(c.keys + 8 * i, 8)] else []) else []

/-- The engine's taint after reads of extents (17 R460); a POISONED line poisons it (log 52). -/
def fetchTaint (s : State) (gs : List (Nat × Nat)) (r : FetchRun) : FetchRun :=
  gs.foldl (fun r g => match linesAt s g.1 g.2 with
    | some (q, l, k) => { r with taint := taintRead (s.row q) r.taint [(l, k)], taintBad := r.taintBad || poisonedOver (s.row q) l k }
    | none => r) r

/-- The command ends with a code (12 R326). -/
def runFails (c : Code) (r : FetchRun) : FetchRun := { r with status := if r.status = 0 then c.val else r.status, ended := true, pendRow := none }

/-! The row cache (12 R314 to R316). -/

def slotBytes (t : Table) : Nat := (t.rowBytes + 63) / 64 * 64
def setBytes (t : Table) : Nat := 64 + 8 * slotBytes t
def setAddr (t : Table) (x : Nat) : Nat := t.partBase + x % t.part * setBytes t
def wayAddr (t : Table) (x w : Nat) : Nat := setAddr t x + 64 + w * slotBytes t

/-- A tag: VALID, AGE, ROW. -/
structure Tag where
  valid : Bool
  age : Nat
  row : Nat
  deriving DecidableEq, Repr, Inhabited

def tagsOf (s : State) (t : Table) (x : Nat) : List Tag :=
  let l := memRead s (setAddr t x) 64
  (List.range 8).map (fun w => let v := field l (8 * w) 8; { valid := bit v 43, age := bits v 40 3, row := v % 2 ^ 40 })
def tagBytes (l : List Tag) : List Byte := l.flatMap (fun g => leBytes 8 (g.row + g.age * 2 ^ 40 + b2n g.valid * 2 ^ 43))

/-- A set is in use: a partition exists, and none of its memory is out (12 R316). -/
def setOn (s : State) (t : Table) (x : Nat) : Bool := t.part != 0 && accessCode s true (setAddr t x) (setBytes t) == .ok

/-- The way that holds row x. -/
def wayOf (s : State) (t : Table) (x : Nat) : Option Nat :=
  if setOn s t x then (tagsOf s t x).findIdx? (fun g => g.valid && g.row == x) else none

/-- touch(w, a) (12 R315). -/
def touch (w a : Nat) (l : List Tag) : List Tag :=
  l.mapIdx (fun u g => if u = w then { g with age := 0 } else if g.valid && decide (g.age < a) then { g with age := g.age + 1 } else g)

/-- A hit: the way becomes the youngest. -/
def cacheTouch (t : Table) (x w : Nat) (s : State) : State :=
  let l := tagsOf s t x
  memWrite s (setAddr t x) (tagBytes (touch w (nth l w).age l))

/-- A fill: the lowest invalid way, else the oldest, takes the row (12 R315). -/
def cacheFill (t : Table) (x : Nat) (bytes : List Byte) (s : State) : State :=
  let l := tagsOf s t x
  let (w, a) := match l.findIdx? (fun g => !g.valid) with
    | some w => (w, 8)
    | none => ((l.findIdx? (·.age == 7)).getD 0, 7)
  let s := memWrite s (wayAddr t x w) (padTo (slotBytes t) bytes)
  memWrite s (setAddr t x) (tagBytes (touch w a (l.set w { valid := true, age := 0, row := x })))

/-- A cached copy is rewritten by an update (12 R317). -/
def cacheUpdate (t : Table) (x : Nat) (bytes : List Byte) (s : State) : State :=
  match wayOf s t x with
  | some w => memWrite s (wayAddr t x w) (padTo (slotBytes t) bytes)
  | none => s

/-! Rows (06 R158, R159). -/

/-- A decoded row: its elements, its error, and whether a scale of it was not finite. -/
structure DRowVal where
  elems : List Rat
  eps : Bnd
  nonFin : Bool

/-- Decodes a stored row of dimension d; none where its format byte is wrong (12 R323). -/
def decodeRow (d : Nat) (l : List Byte) : Option DRowVal :=
  let fmt := field l 3 1
  if fmt ≠ 5 ∧ fmt ≠ 6 then none
  else
    let (sc, fin) := match bf16Val (field l 0 2) with | .fin _ x => (x, true) | _ => (0, false)
    let q (i : Nat) : Int := if fmt = 6 then toSigned 8 (field l (4 + d / 32 + i) 1) else toSigned 4 (bits (field l (4 + d / 32 + i / 2) 1) (4 * (i % 2)) 4)
    let e (i : Nat) : Nat := field l (4 + i / 32) 1
    let ree := field l 2 1
    some { elems := (List.range d).map (fun i => if e i = 0xFF then 0 else sc * p2 ((e i : Int) - 127) * (q i : Rat))
           eps := if ree = 0 then some 0 else if ree = 0xFF then none else some (p2 ((ree : Int) - 127))
           nonFin := !fin || (List.range (d / 32)).any (fun b => field l (4 + b) 1 == 0xFF) }

/-- FP32 sum of an accumulator and W × element, rounded once to nearest even; none beyond the format (06 R160; log 50). -/
def poolAdd (acc : Nat) (w x : Rat) : Option Nat :=
  let r := roundTo 23 (-126) .near (fvRat (f32Val acc) + w * x)
  if f32Max < rabs r then none else some (f32Bits (.fin (decide (r < 0)) r))

/-- An empty bag. -/
def emptyBag (dim : Nat) (r : FetchRun) : FetchRun :=
  { r with acc := List.replicate dim 0, absAcc := List.replicate dim 0, errAcc := 0, bagRows := 0, bagBad := false, bagSeen := false }

/-- A row added to its bag (06 R160); a sum beyond FP32 is a free value and its bag has no bound (log 50). -/
def addRow (w : Nat) (v : DRowVal) (free : Nat) (r : FetchRun) : FetchRun :=
  let (wv, fin) := match f32Val w with | .fin _ x => (x, true) | _ => (0, false)
  let sums := (List.range v.elems.length).map (fun i => poolAdd (nth r.acc i) wv (v.elems.getD i 0))
  { r with
    acc := sums.mapIdx (fun i o => o.getD ((free / 2 ^ (32 * i)) % 2 ^ 32))
    absAcc := (List.range v.elems.length).map (fun i => r.absAcc.getD i 0 + rabs (wv * v.elems.getD i 0))
    errAcc := r.errAcc + rabs wv * v.eps.getD 0
    bagRows := r.bagRows + 1
    bagBad := r.bagBad || v.nonFin || !fin || v.eps.isNone || sums.any (·.isNone) }

/-- A bag's elements, BQ8 scales and VB (06 R156, R157, R160). -/
def bagOut (ofmt : Nat) (r : FetchRun) : VecOut :=
  let ys := r.acc.map f32Val
  let blocks := (List.range ((ys.length + 31) / 32)).map (fun b => bq8Block ((ys.drop (32 * b)).take 32))
  let conv := ys.map (convOut ofmt 1)
  let rout : Bnd := if ofmt = 6 then (blocks.map (·.2.2)).foldl bMax (some 0) else (conv.map (·.2)).foldl bMax (some 0)
  let b : Bnd := if r.bagBad then none else bUp (r.errAcc + (r.bagRows : Rat) * p2 (-24) * r.absAcc.foldl rmax 0)
  -- a bag that has no entries is a zero vector with bound 0 (12 R321)
  let rout := if r.bagSeen then rout else some 0
  { elems := if ofmt = 6 then blocks.flatMap (·.2.1) else conv.map (·.1)
    scales := if ofmt = 6 then blocks.map (·.1) else []
    vb := bndBits (bAdd b (match rout with | some x => bUp x | none => none)) }

/-- What vector v writes: address, bytes (07 R179, R180; 11 R266; 12 R323). -/
def bagWrites (c : FetchCmd) (dim v : Nat) (o : VecOut) : List (Nat × List Byte) :=
  let eb := elemBytes c.ofmt
  let per := c.nbags + 63
  let pos (j : Nat) : Nat :=
    if c.ofmt = 9 then 64 * (j / 64 * (2 * per) + j % 64 / 32 * per + v + j % 64) + 2 * (j % 32)
    else 64 * (j / 64 * per + v + j % 64) + j % 64
  (if c.skewed then o.elems.mapIdx (fun j x => (c.dst + pos j, leBytes eb x))
    else [(c.dst + v * c.stride, o.elems.flatMap (leBytes eb))])
    ++ [(c.dside + 2 * v, leBytes 2 o.vb)]
    ++ (if c.ofmt = 6 then [(c.dside + 64 * ((c.nbags + 31) / 32) + scaleRec dim * v, padTo (scaleRec dim) (o.scales.map (BitVec.ofNat 8)))] else [])

/-! Output on its way (11 R291, R294; 14 R394). -/

/-- The source number of an engine's ingress transactions. -/
def fetchSrc (b e : Nat) : Nat := 2 ^ 16 + 4 * b + e

/-- Cuts bytes at multiples of n. -/
def cutAt (n : Nat) : Nat → Nat → List Byte → List (Nat × List Byte)
  | 0, _, _ => []
  | f + 1, a, l => if l.isEmpty then [] else let k := n - a % n; (a, l.take k) :: cutAt n f (a + k) (l.drop k)

/-- Sends one write of an engine: an ingress transaction of at most 256 bytes a time, or a WRITE packet. -/
def fetchWrite (b e : Nat) (p : Nat × List Byte) (s : State) : State :=
  match s.engine b e with
  | none => s
  | some r =>
    if r.cmd.isLocal then
      each (cutAt 256 (p.2.length / 256 + 2) p.1 p.2) (fun q s =>
        if 480 * 2 ^ 21 ≤ q.1 then s.modEngine b e (runFails .dmaRange)
        else s.modRow (q.1 / 83886080) (fun w => { w with arrivals := w.arrivals ++ [{
          isWrite := true, addr := q.1, bytes := q.2.length, data := q.2, src := fetchSrc b e, kind := 2, bridge := b
          since := s.tb, origins := r.taint, poisoned := r.taintBad }] })) s
    else
      each (cutAt 4096 (p.2.length / 4096 + 2) p.1 p.2) (fun q s =>
        inject b { dst := r.cmd.src - 1, src := endpoint s (12 + b), type := 1, len := q.2.length, win := p.1 / 2 ^ 48
                   offset := q.1 % 2 ^ 48, data := q.2 } 4 (4 * b + e) s) s

/-- The 24 bytes of a fetch item (20, Table 20.5). -/
def fitemBytes (i : FItem) : List Byte :=
  leBytes 4 i.table ++ leBytes 5 i.rowIdx ++ leBytes 1 i.tier ++ leBytes 2 i.bag ++ leBytes 2 i.ftag ++ leBytes 1 i.drow
    ++ leBytes 1 i.src ++ leBytes 4 i.w ++ leBytes 4 i.epoch

/-- Gives the Witness unit the item of a list entry: of this module, or of the requester in a WITREC packet, whose DROW the
serving module cannot know and is a free value (12 R324; 14 R394; 20, Table 20.5; log 53). -/
def witItem (b e row tier bag w : Nat) (s : State) : State :=
  match s.engine b e with
  | none => s
  | some r =>
    if r.cmd.witness = false then s
    else
      let it : FItem := { table := r.cmd.table, rowIdx := row % 2 ^ 40, tier := tier, bag := bag, ftag := r.cmd.tag
                          drow := r.cmd.cpl / 83886080, src := if r.cmd.isLocal then b else 2, w := w
                          epoch := ((s.table r.cmd.table).map (·.epoch)).getD 0 }
      if r.cmd.isLocal then s.modWit (fun x => { x with inbox := x.inbox ++ [{ fetch := some it, tb := s.tb }] })
      else
        let (v, s) := s.draw
        inject b { dst := (r.cmd.src - 1) / 16 * 16 + 15, src := endpoint s (12 + b), type := 0xA, len := 24
                   data := fitemBytes { it with drow := v % 12 } } 0 0 s

/-- The tier a device address counts under. -/
def tierHits (s : State) (a : Nat) : Bool := match place s a with | .mem u _ => decide (u < 8) | _ => false

/-- A row or block read: counted by where it came from, with the epochs (12 R318, Table 12.6). -/
def countRow (hit flash : Bool) (epoch : Nat) (r : FetchRun) : FetchRun :=
  { r with rows := r.rows + 1, hits := r.hits + b2n hit, fromFlash := r.fromFlash + b2n flash
           fromDdr := r.fromDdr + b2n (!hit && !flash), epochStart := some (r.epochStart.getD epoch), epochEnd := epoch }

end Sys2Proof.Machine
end

