-- ==== Sys2Proof/Machine/FabPkt.lean ====
section
/-! DEFINITION. Rows 136 to 145, 147, 151 and 152: packets of the fabric, tracked requests and sends (14 R370 to R395; 15 R416,
R430; 17 R464 to R466; 18 R490; 19 R530 to R533; 20 R534). -/

namespace Sys2Proof.Machine

/-! Faults of a packet (14 R374). -/

/-- LEN within the limit of the packet's type (14, Table 14.4). -/
def lenOk (p : Pkt) : Bool :=
  match p.type with
  | 1 => decide (1 ≤ p.len) && decide (p.len ≤ 4096)
  | 2 | 3 | 0xA => decide (p.len ≤ 4096)
  | 4 => p.len == 0
  | 5 => p.len == 8
  | 6 => decide (64 ≤ p.len) && decide (p.len ≤ 4096)
  | 7 => p.len == 64
  | 8 => p.len == 32
  | 9 => p.len == 16
  | _ => false

/-- A reserved type, a reserved field that is not 0, or a LEN beyond the type's limit (14 R374). -/
def malformed (p : Pkt) : Bool := !p.wellFormed || !lenOk p || (p.type != 2 && p.data.length != p.len)

/-- The fault a destination finds (14 R372, R374). -/
def pktFault (p : Pkt) : Option Code :=
  if malformed p then some .fabMalformed else if p.ecrcOk = false then some .ecrcError else none

/-- The packet is discarded with a record; a request is answered (14 R374). -/
def refusePkt (port b : Nat) (c : Code) (p : Pkt) (s : State) : State := answer b p c [] (discardRecord port b c p s)

/-- Index of one of this module's endpoints (14 R370). -/
def epIndex (s : State) (dst : Nat) : Option Nat :=
  match s.fab.epBase with
  | some e => if e ≤ dst ∧ dst < e + 16 then some (dst - e) else none
  | none => none

/-- The bridge that performs a packet for endpoint i which arrived at bridge b (14 R371). -/
def performer (b i : Nat) : Nat := if i = 12 then 0 else if i = 13 then 1 else b

/-! WRITE and READ_REQ (14 R387, R388; 17 R465). -/

/-- A transfer for a stack arrives at its half (04 R111). -/
def touchMem (a : Nat) (s : State) : State :=
  match place s a with
  | .mem u _ => if u < 8 then touchHalf (u / 4) s else s
  | _ => s

/-- A WRITE or READ_REQ that passed its window's checks, performed in HBM4 or DDR5 and answered (12 R309). -/
def memPerform (b : Nat) (p : Pkt) (a : Nat) (s : State) : State :=
  let wr := p.type == 1
  let s := touchMem a s
  match accessCode s wr a p.len with
  | .ok => if wr then answer b p .ok [] (memWrite s a p.data) else answer b p .ok (memRead s a p.len) s
  | c => answer b p c [] s

/-- Bytes held for want of a verdict (17 R465). -/
def heldBytes (s : State) (b : Nat) : Nat := ((s.bridge b).holdBuf.map (fun h => h.1.len)).sum

/-- Device address of a packet's access. -/
def pktAddr (s : State) (p : Pkt) : Nat := ((mget s.fab.windows p.win).getD {}).base + p.offset

/-- A request that passed its checks: to the row's ingress agents, held for a verdict, or performed (11 R291; 17 R465). -/
def windowGo (b i : Nat) (p : Pkt) (s : State) : State :=
  let a := pktAddr s p
  let wr := p.type == 1
  if i < 12 then
    s.modRow i (fun w => { w with arrivals := w.arrivals ++ [{
      isWrite := wr, addr := a, bytes := p.len, data := p.data, src := p.src, fence := p.fence
      tag := if p.prov && wr then some p.pseq else none, kind := 0, pkt := p, bridge := b, since := s.tb }] })
  else if p.prov && wr then
    match verdictOn s b p.pseq with
    | some .confirmed => memPerform b p a s
    | some .poisoned => answer b p .poisoned [] s
    | none => s.modBridge b (fun x => { x with holdBuf := x.holdBuf ++ [(p, s.tb + 50000)] })
  else memPerform b p a s

/-- A WRITE or READ_REQ at its destination (14 R388). -/
def windowReq (b i : Nat) (p : Pkt) (s : State) : State :=
  match winCheck s p.win p.wepoch (some i) p.src (p.type == 1) p.offset p.len with
  | .ok => windowGo b i p s
  | c => answer b p c [] s

/-- A PROV WRITE that finds the hold buffer full stays in the port's receive buffer: its BULK credits are withheld (17
R465). -/
def mustStay (s : State) (b i : Nat) (p : Pkt) : Bool :=
  p.type == 1 && p.prov && decide (12 ≤ i) && (pktFault p).isNone
    && winCheck s p.win p.wepoch (some i) p.src true p.offset p.len == .ok
    && (verdictOn s b p.pseq).isNone && decide (262144 < heldBytes s b + p.len)

/-! Responses (14 R383, R384, R395; 18 R490). -/

/-- Requests held at injection leave when nothing holds them any more (14 R383, R384). -/
def releaseFenced (b : Nat) (s : State) : State :=
  let l := (s.bridge b).fenced
  each l (fun q => inject b q.1 q.2.1 q.2.2) (s.modBridge b (fun x => { x with fenced := [] }))

/-- The answers by which a sender restores a grant (14 R395). -/
def restores (c : Nat) : Bool :=
  [Code.capacityShort, .unitBusy, .unitAbsent, .noRoute, .ttlExpired, .fabStall, .linkDown, .fabMalformed, .ecrcError].any (·.val == c)

/-- A TOKEN is answered or times out (14 R395; 19 R530, R532). -/
def tokenAnswered (dst tseq status : Nat) (s : State) : State :=
  let ep := dst / 16 * 16
  let s := if status ≠ 0 then s else s.modCap (fun c => { c with
    roster := if c.roster.any (·.ep == ep) then c.roster.map (fun x => if x.ep = ep then { x with missed := 0 } else x)
      else if c.roster.length < 63 then c.roster ++ [{ ep := ep }] else c.roster })
  match s.cap.grants.find? (·.1 == tseq) with
  | none => s
  | some (_, mw, n) =>
    let s := s.modCap (fun c => { c with grants := c.grants.filter (·.1 != tseq) })
    if restores status && n == s.cap.reconCount && s.cap.group.isSome then
      ceilingEval (s.modCap (fun c => { c with share := c.share + mw })) else s

/-- A send is over; a BINDING command that waited for its end completes (16 R451). -/
def sendOver (n : Nat) (s : State) : State :=
  bindSettle n (s.modBinding n (fun x => { x with sending := false }))

/-- What the answer to a request, or its timeout, means to its originator (14 R383, R393 to R395; 15 R414). -/
def requestDone (t : Tracked) (status : Nat) (s : State) : State :=
  match t.owner with
  | 0 => s.modBinding t.arg (fun x => { x with left := x.left - 1, badCode := if x.badCode = 0 then status else x.badCode })
  | 1 => if status = 0 ∧ (s.chan (t.arg % 1024)).full ∧ (s.chan (t.arg % 1024)).mseq = t.arg / 1024 then mbxTake (t.arg % 1024) 0 s else s
  | 2 => tokenAnswered t.dst t.arg status s
  | 4 => if status = 0 ∨ 8 ≤ t.arg then s else s.modEngine (t.arg / 4) (t.arg % 4) (fun r => { r with
      status := if r.status = 0 then status else r.status, ended := true, pendRow := none })
  | 6 => sendOver t.arg s
  | _ => s

/-- The tracked request a response completes, at the bridge that injected it. -/
def findTracked (s : State) (b : Nat) (p : Pkt) : Option (Nat × Tracked) :=
  [b, 1 - b].findSome? (fun c => ((s.bridge c).tracked.find? (fun t => t.tag == p.tag && t.dst == p.src && t.src == p.dst)).map (fun t => (c, t)))

/-- READ_RSP and ACK: the tracked request completes, or the response is LATE (14 R383; 18 R490). -/
def responseIn (b : Nat) (p : Pkt) (s : State) : State :=
  match findTracked s b p with
  | some (c, t) => releaseFenced c (requestDone t p.status (s.modBridge c (fun x => { x with tracked := x.tracked.erase t })))
  | none => errRecord { code := .late, unit := uBridge b, op := 0x0A, detail := p.dst + 0x10000 * p.src + 2 ^ 32 * p.tag }
      (s.modBridge b (fun x => { x with lateCount := x.lateCount + 1 }))

/-! The other requests. -/

/-- DOORBELL: only at endpoint index 12 (15 R430). -/
def doorbellPkt (b i : Nat) (p : Pkt) (s : State) : State :=
  if i ≠ 12 then answer b p .doorbellDenied [] s
  else
    let (c, t) := doorbell (.fabric p.src) (leNat p.data) s
    answer b p c [] t

/-- FETCH: one of the 64 queue places kept for the fabric (14 R394). -/
def fetchPkt (port b i : Nat) (p : Pkt) (s : State) : State :=
  if i ≠ 12 ∧ i ≠ 13 then refusePkt port b .fabMalformed p s
  else if 64 ≤ countIf (fun c => !c.isLocal) (s.fetchU b).queue then answer b p .fabQueueFull [] s
  else
    let f := { parseFetch (p.data.take 64) 0 0 with src := p.src + 1, entries := p.data.drop 64 }
    answer b p .ok [] (s.modFetchU b (fun u => { u with queue := u.queue ++ [{ f with unknown := (s.table f.table).any (·.dying) }] }))

/-- MSG (15 R416). -/
def msgPkt (port b : Nat) (p : Pkt) (s : State) : State :=
  if p.win ≠ 0xFFFF ∨ p.wepoch ≠ 0 ∨ 1024 ≤ p.offset then refusePkt port b .fabMalformed p s
  else
    let (c, t) := mbxWrite p.offset p.data (0x4000 + p.src / 16 % 4096) s
    answer b p c [] t

/-- A member takes a TOKEN that is not a repetition: what it does, or the code it refuses with (14 R395; 19 R530 to R533). -/
def tokenTake (p : Pkt) (s : State) : Code × State :=
  let grant := field p.data 8 4
  if grant ≠ 0 ∧ s.cap.reconTb.any (fun t => decide (s.tb < t + 2 * s.gw.tmoFab)) = true then (.unitBusy, s)
  else if 1400000 < s.cap.share + grant then (.capacityShort, s)
  else
    let s := s.modCap (fun c => { c with
      share := c.share + grant
      seenTseq := mset c.seenTseq p.src (field p.data 4 4)
      roster := c.roster.map (fun x => if x.ep = p.src / 16 * 16 then { x with ask := bit (field p.data 2 2) 0, slack := field p.data 0x0C 4 } else x) })
    (.ok, if grant = 0 then s else ceilingEval s)

/-- TOKEN (14 R395; 19 R530 to R533). -/
def tokenPkt (port b i : Nat) (p : Pkt) (s : State) : State :=
  if i ≠ 14 ∨ 2 ≤ field p.data 2 2 ∨ field p.data 0x14 12 ≠ 0 then refusePkt port b .fabMalformed p s
  else if s.cap.group ≠ some (field p.data 0 2) then answer b p .unitAbsent [] s
  else if mget s.cap.seenTseq p.src = some (field p.data 4 4) then answer b p .ok [] s
  else
    let (c, t) := tokenTake p s
    answer b p c [] t

/-- Held WRITEs that a verdict decides: performed, or discarded and answered POISONED (17 R465). -/
def verdictHeld (b tag : Nat) (v : Verdict) (s : State) : State :=
  let hit (h : Pkt × Nat) : Bool := verdictCovers (originOf tag) (seqOf tag) v h.1.pseq
  let due := (s.bridge b).holdBuf.filter hit
  let s := s.modBridge b (fun x => { x with holdBuf := x.holdBuf.filter (fun h => !hit h) })
  each due (fun h s => match v with
    | .confirmed => memPerform b h.1 (pktAddr s h.1) s
    | .poisoned => answer b h.1 .poisoned [] s) s

/-- POISON: the verdict is kept and applied (17 R465, Table 17.3). -/
def poisonPkt (port b : Nat) (p : Pkt) (s : State) : State :=
  let tag := field p.data 0 4
  if 1 < field p.data 4 1 ∨ field p.data 5 11 ≠ 0 then refusePkt port b .fabMalformed p s
  else
    let v : Verdict := if field p.data 4 1 = 0 then .confirmed else .poisoned
    let s := s.modBridge b (fun x => { x with verdicts := lastN 256 (x.verdicts ++ [(tag, v, s.tb)]) })
    windowsSettle (answer b p .ok [] (applyVerdict (originOf tag) (seqOf tag) v (verdictHeld b tag v s)))

/-- A fetch item of 24 bytes (20, Table 20.5). -/
def parseItem (l : List Byte) : FItem :=
  { table := field l 0 4, rowIdx := field l 4 5, tier := field l 9 1, bag := field l 0x0A 2, ftag := field l 0x0C 2
    drow := field l 0x0E 1, src := field l 0x0F 1, w := field l 0x10 4, epoch := field l 0x14 4 }

/-- WITREC: the items reach the Witness unit (14 R394; 20 R534). -/
def witrecPkt (port b i : Nat) (p : Pkt) (s : State) : State :=
  if i ≠ 15 ∨ p.len % 24 ≠ 0 then discardRecord port b .fabMalformed p s
  else s.modWit (fun w => { w with inbox := w.inbox ++ (List.range (p.len / 24)).map (fun k =>
    { fetch := some (parseItem ((p.data.drop (24 * k)).take 24)), tb := s.tb }) })

/-! Delivery and forwarding. -/

/-- A packet whose DST is endpoint i of this module (14 R370, R371, R374, R397). `port` is the port it came from, or 12 +
bridge. -/
def deliverPkt (port b i : Nat) (p : Pkt) (s : State) : State :=
  let b' := performer b i
  match pktFault p with
  | some c => refusePkt port b c p s
  | none =>
    if i = 15 ∧ hasWitness s = false then answer b p .unitAbsent [] s
    else if bridgeUp s b' = false then refusePkt port b .linkDown p s
    else match p.type with
      | 1 | 2 => windowReq b' i p s
      | 3 | 4 => responseIn b p s
      | 5 => doorbellPkt b' i p s
      | 6 => fetchPkt port b' i p s
      | 7 => msgPkt port b p s
      | 8 => tokenPkt port b i p s
      | 9 => poisonPkt port b' p s
      | _ => witrecPkt port b i p s

/-- A packet that has arrived at a port (14 R370, R371, R374, R376): discarded before EPBASE is set, delivered on this
module, or forwarded. -/
def arrive (port : Nat) (p : Pkt) (s : State) : Res :=
  let b := portBridge port
  if portLive (s.port port).st = false then .next s
  else
    let t := freeCredit port p s
    match epIndex s p.dst with
    | some i => if mustStay s (performer b i) i p then .next s else .next (deliverPkt port b i p t)
    | none =>
      if s.fab.epBase = none then .next t
      else if malformed p then .next (discardRecord port b .fabMalformed p t)
      else .next (forwardPkt 3 port b p t)

/-- Whether a packet of a local endpoint waits at its engine: step 4 of Table 14.5 (14 R386). -/
def throttled (s : State) (b : Nat) (p : Pkt) : Bool :=
  !(p.type == 3 || p.type == 4) && (epIndex s p.dst).isNone
    && (match routeOf s b p with | some c => decide (c < 6) && (s.port (6 * b + c)).throt == 4 | none => false)

/-- The oldest packet of a bridge's local endpoints that may leave is delivered here or looked up (14 R371, R376, R386). -/
def injectOut (b : Nat) (s : State) : State :=
  match (s.bridge b).injq.find? (fun p => !throttled s b p) with
  | none => s
  | some p =>
    let t := s.modBridge b (fun x => { x with injq := x.injq.erase p })
    syncInflight b (match epIndex s p.dst with
      | some i => if mustStay s (performer b i) i p then s else deliverPkt (12 + b) b i p t
      | none => forwardPkt 3 (12 + b) b p t)

/-- FABRIC_PACKET_FORWARD (14 R370 to R378): a packet that arrives at a port (0-11), or the next of the local endpoints of a
bridge (12 + bridge). -/
def execFabricPacketForward (inPort : Nat) (p : Pkt) (s : State) : Res :=
  if inPort < 12 then arrive inPort p s
  else if bridgeUp s (inPort - 12) then .next (injectOut (inPort - 12) s) else .next s

/-- FABRIC_WRITE (14 R388; 11 R291 to R293; 17 R465). -/
def execFabricWrite (port : Nat) (p : Pkt) (s : State) : Res := arrive port { p with type := 1 } s
/-- FABRIC_READ_REQ (14 R388). -/
def execFabricReadReq (port : Nat) (p : Pkt) (s : State) : Res := arrive port { p with type := 2 } s
/-- FABRIC_READ_RSP (14 R383). -/
def execFabricReadRsp (port : Nat) (p : Pkt) (s : State) : Res := arrive port { p with type := 3 } s
/-- FABRIC_ACK (14 R383, R384, R393, R395; 15 R414). -/
def execFabricAck (port : Nat) (p : Pkt) (s : State) : Res := arrive port { p with type := 4 } s
/-- FABRIC_FETCH (14 R394). -/
def execFabricFetch (port : Nat) (p : Pkt) (s : State) : Res := arrive port { p with type := 6 } s
/-- FABRIC_MSG (15 R416). -/
def execFabricMsg (port : Nat) (p : Pkt) (s : State) : Res := arrive port { p with type := 7 } s
/-- FABRIC_TOKEN (14 R395). -/
def execFabricToken (port : Nat) (p : Pkt) (s : State) : Res := arrive port { p with type := 8 } s
/-- FABRIC_POISON (17 R465). -/
def execFabricPoison (port : Nat) (p : Pkt) (s : State) : Res := arrive port { p with type := 9 } s
/-- FABRIC_WITREC (20 R534). -/
def execFabricWitrec (port : Nat) (p : Pkt) (s : State) : Res := arrive port { p with type := 0xA } s

/-- FAB_REQUEST_TIMEOUT (14 R383, R395; 18 R484, R490). -/
def execFabRequestTimeout (b tag : Nat) (s : State) : Res :=
  match (s.bridge b).tracked.find? (fun t => t.tag == tag && decide (t.tb + t.limit ≤ s.tb)) with
  | none => .next s
  | some t =>
    let s := errRecord { code := .fabTimeout, unit := uBridge b, op := 0x0A, detail := t.dst + 0x10000 * t.src + 2 ^ 32 * t.tag }
      (s.modBridge b (fun x => { x with tracked := x.tracked.erase t }))
    .next (releaseFenced b (requestDone t Code.fabTimeout.val s))

/-! Sends (14 R391 to R393). -/

/-- Whether a send's read waits at the row or at an agent. -/
def sendReads (s : State) (n : Nat) : Bool :=
  s.rows.any (fun w => w.arrivals.any (fun g => g.kind == 3 && g.src == 2 ^ 20 + n) || w.ingress.any (·.any (fun g => g.kind == 3 && g.src == 2 ^ 20 + n)))

/-- BINDING_SEND_START (14 R391): the write reservations over both ranges have been granted since the last send. -/
def execBindingSendStart (n : Nat) (s : State) : Res :=
  match s.binding n with
  | none => .next s
  | some x =>
    let ws := (s.row x.row).watch.filter (·.bind == n)
    if x.halted ∨ x.sending ∨ ws.isEmpty ∨ ws.any (fun w => !w.seen) = true ∨ bridgeUp s x.bridge = false
        ∨ 16 ≤ countIf (fun p => p.2.sending && p.2.bridge == x.bridge) s.fab.bindings then .next s
    else
      let s := s.modBinding n (fun x => { x with sending := true, left := 0, badCode := 0, tags := [], tagBad := false })
      .next (s.modRow x.row (fun w => { w with
        watch := w.watch.map (fun v => if v.bind = n then { v with seen := false } else v)
        arrivals := w.arrivals ++ [{ addr := lnAddr x.row x.dline, bytes := 512 * x.dlen, src := 2 ^ 20 + n, kind := 3, bridge := x.bridge
                                     since := s.tb, side := if x.slen = 0 then none else some (x.sline, x.slen) }] }))

/-- Whether the NOTIFY of a send has left and is not answered. -/
def notifyOut (s : State) (n : Nat) : Bool :=
  s.fab.bridges.any (fun b => b.tracked.any (fun t => t.owner == 6 && t.arg == n) || b.fenced.any (fun q => q.2.1 == 6 && q.2.2 == n))

/-- BINDING_SEND_COMPLETE (14 R393; 17 R464): every WRITE has been answered; the binding halts, or NOTIFY leaves once every
tag is confirmed. -/
def execBindingSendComplete (n : Nat) (s : State) : Res :=
  match s.binding n with
  | none => .next s
  | some x =>
    if x.sending = false ∨ x.left ≠ 0 ∨ sendReads s n = true ∨ notifyOut s n = true then .next s
    else if x.badCode ≠ 0 then
      .next (sendOver n (errRecord { code := Code.ofVal x.badCode, unit := uBridge x.bridge, op := 0x0A, detail := n }
        (s.modBinding n (fun x => { x with halted := true }))))
    else if x.tagBad then .next (sendOver n s)
    else if !x.tags.isEmpty then .next s
    else match x.notify with
      | none => .next (sendOver n s)
      | some (d, w) => .next (inject x.bridge { dst := d, src := endpoint s x.row, type := 5, fence := true, flow := x.flow, len := 8, data := leBytes 8 w } 6 n s)

end Sys2Proof.Machine
end

