-- ==== Sys2Proof/Machine/SpineRegs.lean ====
section
/-! DEFINITION. The management address space (22 R570 to R580): the spine register block, the power, clock and fabric blocks,
the row register spaces, the defect map and boot log as bytes; what a read clears, and what a write does. -/

namespace Sys2Proof.Machine

/-- A word of 8 bytes from a block of bytes. -/
def wordAt (l : List Byte) (o : Nat) : Nat := field l o 8

/-! The boot log and the defect map (05, Tables 5.2, 5.3, 5.6, 5.7). -/

/-- One half of the boot log: its records in order (22 R578). -/
def bootHalf (s : State) (h : Nat) : List Byte := (nth s.boot.halves h).flatMap BootRec.toBytes

def posCode : PosState → Nat
  | .active => 0 | .spare => 1 | .badFuse => 2 | .badTest => 3 | .badRuntime => 4 | .lost => 5 | .inTest => 6

/-- A list of small fields of w bits packed from bit 0. -/
def pack (w : Nat) (l : List Nat) : Nat := l.foldr (fun x v => x + 2 ^ w * v) 0

/-- A row record (05, Table 5.7). -/
def DRow.toBytes (d : DRow) : List Byte :=
  let slots (w un : Nat) (l : List (Option Nat)) : Nat := pack w (l.map (·.getD un))
  leBytes 4 (pack 4 (d.ast.map posCode)) ++ leBytes 8 (pack 4 (d.prm.map posCode)) ++ leBytes 8 (pack 1 (d.bankOk.map b2n))
    ++ leBytes 1 (pack 1 (d.dmaOk.map b2n)) ++ leBytes 1 (match d.cls with | .full => 0 | .degraded => 1 | .out => 2 | .dark => 3)
    ++ leBytes 1 (countIf (·.isSome) d.astSlots) ++ leBytes 1 (countIf (·.isSome) d.prmSlots)
    ++ leBytes 2 (slots 3 7 d.astSlots) ++ leBytes 4 (slots 4 15 d.prmSlots) ++ leBytes 2 (pack 1 (d.skipOk.map b2n))

/-- State codes of a stack or channel in DEVICE_INFO (16, Table 16.3). -/
def fineCode : UnitFine → Nat
  | .inService => 0 | .degraded => 1 | .draining => 2 | .returning => 3 | .drained => 4 | .testing => 5 | .failed => 6 | .absent => 7

/-- State codes of a card (13, Table 13.7). -/
def cardCode : CardState → Nat
  | .inService => 0 | .degraded => 1 | .readOnly => 2 | .draining => 3 | .rebalancing => 4 | .drained => 5 | .testing => 6
  | .failed => 7 | .absent => 8

def portCode : PortState → Nat
  | .up => 0 | .upSpare => 1 | .down => 2 | .absent => 3 | .downRuntime => 4 | .retraining => 5

/-- The 512 bytes of the defect map (05, Table 5.6). -/
def dmapBytes (s : State) : List Byte :=
  let d := s.dmap
  let l := leBytes 4 d.epoch ++ leBytes 4 0 ++ leBytes 8 d.tbChanged ++ d.rows.flatMap DRow.toBytes
    ++ d.units.flatMap (leBytes 1) ++ d.cards.flatMap (leBytes 1)
    ++ (d.fab.flatMap (fun f => leBytes 2 (f.laneOk.toNat + 2 ^ 9 * b2n f.spareInUse + 2 ^ 12 * portCode f.st)))
    ++ leBytes 1 (b2n d.mc0 + 2 * b2n d.mc1) ++ leBytes 51 0
  l ++ leBytes 4 (crc32 l)

/-! The spine register block (22, Table 22.1). -/

/-- SPN_BOOT (22 R574). -/
def spnBoot (s : State) : Nat :=
  let b := s.boot
  b.stage + 2 ^ 4 * (match b.st with | .running => 0 | .ready => 1 | .stopped => 2) + 2 ^ 8 * b2n b.warm + 2 ^ 9 * b.bootCore
    + 2 ^ 10 * b.curHalf + 2 ^ 11 * b2n s.power.pwrOk + 2 ^ 32 * b.bootNo

/-- SPN_STRAPS (22 R575). -/
def spnStraps (s : State) : Nat :=
  let b := s.boot
  b.slotId + 2 ^ 6 * b2n b.mbxMode + 2 ^ 7 * b2n b.sampled + 2 ^ 8 * b2n b.unstable

/-- The attention registers (22, Table 22.4): CLEARBELOW is WO and reads 0. -/
def attnWord (s : State) (o : Nat) : Nat :=
  let a := s.attn
  if o = 0x100 then summary s
  else if o = 0x110 then a.rows.toNat else if o = 0x118 then a.ports.toNat
  else if o = 0x120 then a.mem.toNat else if o = 0x128 then a.cards.toNat
  else if o = 0x130 then a.rowsEn.toNat else if o = 0x138 then a.portsEn.toNat
  else if o = 0x140 then a.memEn.toNat else if o = 0x148 then a.cardsEn.toNat
  else if 0x150 ≤ o ∧ o < 0x198 then (causeWord s ((o - 0x150) / 8)).toNat
  else if 0x1A0 ≤ o ∧ o < 0x1E8 then (nth a.en ((o - 0x1A0) / 8)).toNat
  else if 0x200 ≤ o ∧ o < 0x248 then nth a.lastRec ((o - 0x200) / 8)
  else 0

def rcvCode : Rcv → Nat
  | .mgmtCore => 0 | .chaviHost => 1 | .mgmtNet => 2 | .fabricPeer => 3

/-- MBX_STATn, MBX_TAKEn and MBX_CFGn (15 R418, R419, R421). -/
def mbxStat (c : Chan) : Nat :=
  b2n c.full + 2 * b2n c.ackv + 4 * b2n c.collision + 2 ^ 8 * c.mseq + 2 ^ 16 * c.ackSeq + 2 ^ 32 * c.sender + 2 ^ 48 * c.ackCode
def mbxTakeWord (c : Chan) : Nat := c.sender + 2 ^ 16 * c.mseq + 2 ^ 24 * b2n c.full + 2 ^ 25 * b2n c.collision
def mbxCfg (c : Chan) : Nat :=
  rcvCode c.rcv + 4 * b2n c.shared + 8 * b2n c.classMatch + 16 * b2n c.enabled + 2 ^ 16 * c.smatch
    + (if c.rcv = .fabricPeer then 2 ^ 32 * c.rdest + 2 ^ 48 * c.rchan else 0)

/-- A word of channel n's block; `clear` says that its message may be seen (15 R403, R417 to R422). -/
def mbxWord (s : State) (clear : Bool) (n o : Nat) : Nat :=
  let c := s.chan n
  if nChans s ≤ n then 0
  else if o < 0x40 then (if clear then wordAt c.msg o else 0)
  else if o = 0x40 then mbxStat c
  else if o = 0x48 then (if clear then mbxTakeWord c else 0)
  else if o = 0x58 then mbxCfg c
  else if o = 0x60 then (if clear then c.tb else 0)
  else 0

def witCode : WitSt → Nat
  | .closed => 0 | .opened => 1 | .closing => 2 | .failed => 3

/-- WIT_RINGn and WIT_CNTn (20 R550, R551). -/
def witWord (s : State) (n o : Nat) : Nat :=
  let g := s.wring n
  if hasWitness s = false then 0
  else if o = 0 then witCode g.st + 4 * b2n (!g.heldRecs.isEmpty) + 8 * b2n (s.wit.sealQueue.contains n || s.wit.signing.any (·.ring == n))
    + 2 ^ 32 * (if g.st = .closed then 0 else sat 32 (witFree g / 65536))
  else if o = 8 then sat 32 g.captured + 2 ^ 32 * sat 16 g.dropped + 2 ^ 48 * sat 16 g.itemsLost
  else 0

/-- SEC_STATUS (21 R567). -/
def secStatus (s : State) : Nat :=
  let x := s.sec
  x.session + 2 ^ 12 * (if x.keysDerived then s.fuse.keyProg.toNat else 0) + 2 ^ 16 * (if x.keysDerived then s.fuse.keyRev.toNat else 0)
    + 2 ^ 20 * x.scope.toNat + 2 ^ 23 * b2n x.tamper + 2 ^ 24 * sat 3 x.failRun + 2 ^ 27 * b2n x.noiseFail + 2 ^ 32 * sat 32 x.nmeas

/-- The 8-byte word of the spine register block at an offset that is a multiple of 8, without side effects (22 R570 to
R572). -/
def spineWord (s : State) (clear : Nat → Bool) (o : Nat) : Nat :=
  if o = 0 then 0x0001_5053_444B
  else if o = 8 then spnBoot s
  else if o = 0x10 then spnCaps s
  else if o = 0x18 then spnStraps s
  else if o = 0x20 then s.tb
  else if o = 0x28 then s.err.next
  else if o < 0x248 then attnWord s o
  else if 0x10000 ≤ o ∧ o < 0x30000 then mbxWord s (clear ((o - 0x10000) / 128)) ((o - 0x10000) / 128) (o % 128)
  else if 0x40000 ≤ o ∧ o < 0x40200 then witWord s ((o - 0x40000) / 32) (o % 32)
  else if o = 0x50000 then secStatus s
  else if 0x50040 ≤ o ∧ o < 0x50080 then wordAt s.sec.mr (o - 0x50040)
  else if 0x50080 ≤ o ∧ o < 0x50090 then wordAt s.sec.chal (o - 0x50080)
  else if 0x60000 ≤ o ∧ o < 0x80000 then wordAt (bootHalf s ((o - 0x60000) / 65536)) (o % 65536)
  else if 0x80000 ≤ o ∧ o < 0xC0000 then
    match s.err.log.find? (fun e => (e.recno + 4095) % 4096 == (o - 0x80000) / 64) with
    | some e => wordAt e.bytes (o % 64)
    | none => 0
  else 0

/-! The power, clock and fabric blocks. -/

def pwrCode : PwrState → Nat
  | .absent => 0 | .off => 1 | .starting => 2 | .on => 3 | .capped => 4 | .retryWait => 5 | .dark => 6 | .fault => 7

/-- PWR_DOMn (03 R79) and PWR_ROWr (03 R80). -/
def pwrDom (s : State) (n : Nat) : Nat :=
  let d := nth s.power.dom n
  (if d.st = .absent then 0 else d.avg + 2 ^ 16 * d.peak + 2 ^ 32 * d.volt) + 2 ^ 48 * d.seq + 2 ^ 56 * pwrCode d.st
def pwrRow (s : State) (r : Nat) : Nat :=
  let c := s.conv r
  c.phFail.toNat + 2 ^ 8 * (if c.st = .dark then 0 else c.ratingMa / 1000) + 2 ^ 16 * pwrCode c.st + 2 ^ 20 * b2n c.retryUsed
    + 2 ^ 21 * b2n c.halfRate
def powerWord (s : State) (o : Nat) : Nat :=
  if 0x40 ≤ o ∧ o < 0x70 then pwrRow s ((o - 0x40) / 4) + 2 ^ 32 * pwrRow s ((o - 0x40) / 4 + 1)
  else if 0x100 ≤ o ∧ o < 0x268 then pwrDom s ((o - 0x100) / 8) else 0

def rowStCode : RowSt → Nat
  | .active => 0 | .idle => 1 | .nap => 2 | .sleep => 3 | .off => 4 | .waking => 5 | .dark => 6

/-- CLK_STEP (04 R101) and CLK_ROWr (04 R109). -/
def clkStep (s : State) : Nat :=
  let c := s.clk
  c.cur + 2 ^ 4 * c.next + 2 ^ 8 * b2n c.pend + 2 ^ 9 * b2n c.late + 2 ^ 10 * b2n c.busy
def clkRowWord (s : State) (r : Nat) : Nat :=
  let k := s.clkRow r
  rowStCode (s.row r).st + 2 ^ 4 * ofSigned 6 (nth (nth s.clk.trims r) s.clk.cur) + 2 ^ 16 * k.stretch + 2 ^ 32 * k.xhold + 2 ^ 48 * k.chold
def clockWord (s : State) (o : Nat) : Nat :=
  if o = 0 then clkStep s else if o = 8 then s.clk.stepAt
  else if 0x40 ≤ o ∧ o < 0xA0 then clkRowWord s ((o - 0x40) / 8) else 0

/-- FAB_ROUTE (14 R382) and FAB_PORTn (14 R369). -/
def fabRoute (s : State) (b : Nat) : Nat :=
  let x := s.bridge b
  b2n x.act + 2 * (match x.other with | .free => 0 | .staged => 1 | .draining => 2) + 8 * b2n x.armedAt.isSome + 16 * b2n x.drainExpired
    + 2 ^ 16 * x.inflight
def fabPort (s : State) (p : Nat) : Nat :=
  let q := s.port p
  portCode q.st + 2 ^ 4 * q.laneOk.toNat + 2 ^ 13 * q.spared.getD 15 + 2 ^ 17 * q.throt + 2 ^ 24 * q.replays + 2 ^ 32 * q.csym
def fabricWord (s : State) (b o : Nat) : Nat :=
  if o = 0 then fabRoute s b
  else if 0x100 ≤ o ∧ o < 0x160 ∧ o % 16 = 0 then fabPort s (6 * b + (o - 0x100) / 16) else 0

/-! The management address space (22 R580). -/

/-- Where a management address leads. -/
inductive MgmtPlace where
  | device (a : Nat) | spine (o : Nat) | power (o : Nat) | clock (o : Nat) | fabric (b o : Nat) | row (r o : Nat) | none
  deriving DecidableEq, Repr

def mgmtPlace (a : Nat) : MgmtPlace :=
  let o := a - 0x1000000000
  if 2 ^ 63 ≤ a then .device (a - 2 ^ 63)
  else if a < 0x1000000000 then .none
  else if o < 2 ^ 24 then .spine o
  else if o < 0x1010000 then .power (o % 65536)
  else if o < 0x1020000 then .clock (o % 65536)
  else if o < 0x1040000 then .fabric ((o - 0x1020000) / 65536) (o % 65536)
  else if 2 ^ 28 ≤ o ∧ o < 2 ^ 28 + 12 * 65536 then .row ((o - 2 ^ 28) / 65536) (o % 65536)
  else .none

/-- The 8-byte word at a management address of a register block. -/
def mgmtWord (s : State) (a : Nat) : Nat :=
  match mgmtPlace a with
  | .spine o => spineWord s (fun _ => true) o
  | .power o => powerWord s o
  | .clock o => clockWord s o
  | .fabric b o => fabricWord s b o
  | .row r o => rowWord s r o
  | _ => 0

/-- The take of a read of MBX_TAKE in streaming mode (15 R411). -/
def takeRead (n : Nat) (s : State) : State :=
  if s.boot.mbxMode ∧ n < nChans s then s.setChan n { s.chan n with full := false } else s

/-- What a read of the word at a management address clears (00 R10, Table 0.4): RC fields, and the take of MBX_TAKE. -/
def mgmtClears (a : Nat) (s : State) : State :=
  match mgmtPlace a with
  | .spine o =>
    if 0x10000 ≤ o ∧ o < 0x30000 ∧ o % 128 = 0x48 then takeRead ((o - 0x10000) / 128) s
    else if 0x40000 ≤ o ∧ o < 0x40200 ∧ o % 32 = 8 then
      s.modWring ((o - 0x40000) / 32) (fun g => { g with captured := 0, dropped := 0, itemsLost := 0 })
    else s
  | .clock o => if 0x40 ≤ o ∧ o < 0xA0 then s.modClkRow ((o - 0x40) / 8) (fun _ => {}) else s
  | .row r o => rowReadClears r o 8 s
  | _ => s

/-- The answer of a register block: a row's space answers only while its row is neither OUT nor DARK (22 R580; 11 R263). -/
def mgmtCode (s : State) (wr : Bool) (a n : Nat) : Code :=
  match mgmtPlace a with
  | .row r _ => if rowIsOut s r then .unitRetired else if rowIsDark s r then .rowDark else .ok
  | .device d => accessCode s wr d n
  | _ => .ok

/-- A W1C write: the bits of v that are 1 are cleared. -/
def w1c {w : Nat} (x : BitVec w) (v : Nat) : BitVec w := x &&& ~~~(BitVec.ofNat w v)

/-- The leaves of each branch: 2, 6, 5, 2, 4, 3, 5, 2, 2 (22, Table 22.2). -/
def leafMask : List (BitVec 6) := [0x03, 0x3F, 0x1F, 0x03, 0x0F, 0x07, 0x1F, 0x03, 0x03]

/-- A write to the attention registers (22 R584 to R591): W1C leaves, RW enables, CLEARBELOW. -/
def attnWrite (o v : Nat) (s : State) : State :=
  let a := s.attn
  let set (a : Attn) : State := attnSettle { s with attn := a }
  if o = 0x108 then clearBelow v s
  else if o = 0x110 then set { a with rows := w1c a.rows v } else if o = 0x118 then set { a with ports := w1c a.ports v }
  else if o = 0x120 then set { a with mem := w1c a.mem v } else if o = 0x128 then set { a with cards := w1c a.cards v }
  else if o = 0x130 then set { a with rowsEn := BitVec.ofNat 12 v } else if o = 0x138 then set { a with portsEn := BitVec.ofNat 12 v }
  else if o = 0x140 then set { a with memEn := BitVec.ofNat 24 v } else if o = 0x148 then set { a with cardsEn := BitVec.ofNat 8 v }
  else if 0x150 ≤ o ∧ o < 0x198 then set { a with cause := a.cause.modify ((o - 0x150) / 8) (w1c · v) }
  else if 0x1A0 ≤ o ∧ o < 0x1E8 then
    let b := (o - 0x1A0) / 8
    set { a with en := a.en.set b (BitVec.ofNat 6 v &&& nth leafMask b) }
  else s

/-- A write of 8 bytes to a register of the management address space, by its access codes (00 R10). CLK_ registers take only
the controller's writes (04 R98). -/
def mgmtWrite (a v : Nat) (s : State) : State :=
  match mgmtPlace a with
  | .spine o =>
    if 0x100 ≤ o ∧ o < 0x1E8 then attnWrite o v s
    else if 0x10000 ≤ o ∧ o < 0x30000 ∧ o % 128 = 0x50 then mbxAck ((o - 0x10000) / 128) (bits v 16 8) (bits v 0 16) s
    else if o = 0x50000 then s.modSec (fun x => { x with tamper := x.tamper && !bit v 23 })
    else s
  | .fabric b o => if o = 0 then s.modBridge b (fun x => { x with drainExpired := x.drainExpired && !bit v 4 }) else s
  | .row r o => rowRegWrite r o 8 v false s
  | _ => s

end Sys2Proof.Machine
end

