-- ==== Sys2Proof/Machine/Chavi.lean ====
section
/-! DEFINITION. Rows 156 to 167: the Chavi link, mailbox messages over it, the direct window, host reads and writes (15 R398 to
R422, R433; 21 R562, R563; 22 R571). -/

namespace Sys2Proof.Machine

/-! Requests of the host. -/

/-- SENDER_ID of what arrives on the Chavi link (15, Table 15.4). -/
def hostSender (s : State) : Nat := if s.sec.session = 0 then 0x1000 else 0x2000 + s.sec.session

/-- TB-W and the optical cage are powered and TB-W is not in reset (15 R598; 18 R509). -/
def cageOn (s : State) : Bool :=
  alive s && (nth s.power.rails 8).inReg && (nth s.power.rails 9).inReg && bridgeUp s 0

/-- The link carries packets. -/
def linkUp (s : State) : Bool := s.chavi.up && alive s

/-- What a received packet goes through: its code, none where it is accepted (15 R400; 21 R562, R563). -/
def chaviFront (h : ChaviHdr) (s : State) : Option Code × State :=
  if h.crcOk = false then (some .ecrcError, s)
  else if h.layoutOk = false then (some .fabMalformed, s)
  else if s.sec.session = 0 then (if h.enc then some .fabMalformed else none, s)
  else if h.enc = false then (some .fabMalformed, tamper .fabMalformed (endSession s))
  else if h.authOk = false then (some .fabMalformed, tamper .sigInvalid (endSession s))
  else if 2 ^ 48 ≤ h.ctr then (some .fabMalformed, endSession s)
  else if s.sec.ctrRx.any (fun c => decide (h.ctr ≤ c)) then (some .fabMalformed, tamper .fabMalformed (endSession s))
  else (none, s.modSec (fun x => { x with ctrRx := some h.ctr }))

/-- The receive buffer of a packet of n payload bytes is free again (15 R401). -/
def chaviFreed (n : Nat) (s : State) : State :=
  let f := (s.chavi.credFreed + chaviCredits n) % 2 ^ 32
  chaviSend { type := 0x0A, arg := f } (s.modChavi (fun c => { c with credFreed := f }))

/-- A request of n payload bytes: discarded and answered, or performed (15 R400, R401). -/
def chaviReq (h : ChaviHdr) (arg n : Nat) (go : State → State) (s : State) : Res :=
  if linkUp s = false then .next s
  else match chaviFront h s with
    | (some c, t) => .next (chaviFreed (n + if h.enc then 24 else 0) (chaviRsp h.tag arg c [] t))
    | (none, t) => .next (chaviFreed (n + if h.enc then 24 else 0) (go t))

/-! Requests ordered behind HWRITEs (15 R433). -/

/-- Whether an HWRITE among the first n is not performed yet. -/
def hostWrites (s : State) (n : Nat) : Bool :=
  let hit (g : Ingress) : Bool := g.kind == 1 && g.isWrite && decide (g.pkt.pseq < n)
  s.rows.any (fun w => w.arrivals.any hit || w.ingress.any (·.any hit))

/-- MBX_SEND: the message is written, and the RSP carries its MSEQ (15 R407 to R409, Table 15.2). -/
def hostSend (q : HostReq) (s : State) : State :=
  let (c, t) := mbxWrite q.ch q.msg q.sender s
  chaviRsp q.tag (if c = .ok then (t.chan q.ch).mseq else q.ch) c [] t

/-- MBX_DONE: the checks of R600, then the take (15 R414, R600). -/
def hostDone (q : HostReq) (s : State) : State :=
  let (c, t) := doneTake q.ch q.mseq q.code .chaviHost (senderClass q.sender == 2) s
  chaviRsp q.tag (q.ch + 2 ^ 32 * q.mseq) c [] t

/-- DOORBELL (15 R430, R431). -/
def hostBell (q : HostReq) (s : State) : State :=
  let (c, t) := doorbell .chavi q.word s
  chaviRsp q.tag 0 c [] t

/-- Performs a request. -/
def hostPerform (q : HostReq) (s : State) : State :=
  match q.kind with
  | 0 => hostSend q s
  | 1 => hostDone q s
  | _ => hostBell q s

/-- A request arrives: performed, or waiting for the earlier HWRITEs. -/
def hostArrive (q : HostReq) (s : State) : State :=
  let q := { q with seq := s.chavi.hwSeq, sender := hostSender s }
  if hostWrites s q.seq || !s.chavi.waiting.isEmpty then s.modChavi (fun c => { c with waiting := c.waiting ++ [q] })
  else hostPerform q s

/-- The first request that waits is performed once the HWRITEs before it have been (15 R433; log 16). -/
def hostIdle (s : State) : Option State :=
  match s.chavi.waiting with
  | [] => none
  | q :: rest =>
    if linkUp s = false ∨ hostWrites s q.seq = true then none
    else some (hostPerform q (s.modChavi (fun c => { c with waiting := rest })))

/-- MBX_SEND (15 R407 to R409, R433). -/
def execMbxSend (h : ChaviHdr) (ch : Nat) (msg : List Byte) (s : State) : Res :=
  chaviReq h ch 64 (hostArrive { kind := 0, tag := h.tag, ch := ch, msg := msg }) s

/-- MBX_DONE (15 R414, R433, R600). -/
def execMbxDone (h : ChaviHdr) (ch mseq code : Nat) (s : State) : Res :=
  chaviReq h (ch + 2 ^ 32 * mseq) 0 (hostArrive { kind := 1, tag := h.tag, ch := ch, mseq := mseq, code := code }) s

/-! The link (15 R398 to R401, R404, R598). -/

/-- An ACK for the frames up to a SEQ: their packets are no longer kept (15 R399). -/
def chaviAcked (ack : Nat) (c : Chavi) : Chavi :=
  { c with replay := c.replay.filter (fun x => decide (0 < (x.1 + 4096 - ack) % 4096) && decide ((x.1 + 4096 - ack) % 4096 ≤ 2048)) }

/-- CHAVI_FRAME_RECEIVE (15 R399): a frame, `ok` while both codewords could be corrected; on NAK the packets kept are sent
again. Its packets are commands of their own. -/
def execChaviFrameReceive (ok idle : Bool) (seq : Nat) (nak : Bool) (ack : Nat) (s : State) : Res :=
  let c := s.chavi
  if cageOn s = false then .next s
  else if ok = false then
    if 8 < c.replays + 1 then .next (chaviDown s)
    else .next ((s.modChavi (fun c => { c with discarding := true, replays := c.replays + 1 })).send (.chaviNak ((c.rxSeq + 4095) % 4096)))
  else
    let n := if nak then (if ack = c.nakAck then c.txReplays + 1 else 1) else 0
    if 8 < n then .next (chaviDown s)
    else
      let s := s.modChavi (fun c => chaviAcked ack { c with txReplays := n, nakAck := if nak then ack else c.nakAck })
      let s := if nak then each s.chavi.replay (fun x s => s.send (.chavi x.2)) s else s
      if idle ∨ seq ≠ c.rxSeq then .next s
      else .next (s.modChavi (fun c => { c with rxSeq := (c.rxSeq + 1) % 4096, discarding := false, replays := 0 }))

/-- Channels held FULL for the Chavi host, from channel `lo` on (15 R404). -/
def hostHeld (s : State) (lo : Nat) : List Nat :=
  (s.mbx.chans.filter (fun p => p.2.full && p.2.rcv == .chaviHost && decide (lo ≤ p.1))).map (·.1)

/-- CHAVI_LINK_UP (15 R404, R598; 22 R597): alignment holds and a CREDIT has arrived. -/
def execChaviLinkUp (s : State) : Res :=
  if s.chavi.up ∨ s.chavi.credSeen = false ∨ cageOn s = false then .next s
  else
    let s := (s.modChavi (fun c => { c with up := true })).modPower (fun p => { p with j4Ok := true })
    .next (attnOwed (each (hostHeld s (secureEnd s)) deliverHost s))

/-- CHAVI_LINK_DOWN (15 R404, R598): 0 alignment lost for 1 µs, 1 no CREDIT for 10 µs, 2 the optical module is lost. -/
def execChaviLinkDown (cause : Nat) (s : State) : Res :=
  if alive s = false then .next s
  else if cause = 1 then (if s.chavi.creditTb + 500 ≤ s.tb then .next (chaviDown s) else .next s)
  else if cause = 2 then .next (chaviDown (s.modPower (fun p => { p with j4Ok := false })))
  else .next (chaviDown s)

/-- CREDIT (15 R401, R598): not a request, so that a bad one is only discarded. -/
def execCredit (h : ChaviHdr) (freed : Nat) (s : State) : Res :=
  if cageOn s = false ∨ h.crcOk = false ∨ h.layoutOk = false then .next s
  else
    let s := s.modChavi (fun c => { c with creditRx := freed % 2 ^ 32, creditTb := s.tb, credSeen := true })
    .next (if s.chavi.up then chaviDrain (s.chavi.txq.length + 1) s else s)

/-! The direct window and windows (15 R402, R403; 22 R571). -/

/-- The words that a DW_READ returns: a word that fails its SEC-DED check reads zero, and those of the secure bank do without
a session. -/
def dwData (s : State) (off n : Nat) (bad : List Nat) : List Byte :=
  let clear (ch : Nat) : Bool := decide (secureEnd s ≤ ch) || s.sec.session != 0
  (List.range (n / 8)).flatMap (fun i => leBytes 8 (if bad.contains i then 0 else spineWord s clear (off + 8 * i)))

/-- DW_READ (15 R403; 22 R571): no side effect. -/
def execDwRead (h : ChaviHdr) (off n : Nat) (bad : List Nat) (s : State) : Res :=
  chaviReq h off 0 (fun s =>
    if off % 8 ≠ 0 ∨ n % 8 ≠ 0 ∨ n < 8 ∨ 256 < n then chaviRsp h.tag off .fabMalformed [] s
    else chaviRsp h.tag off .ok (dwData s off n bad) s) s

/-- A host access that passed its window's checks (15 R402; 11 R291; 12 R309): forwarded to the window's HOME. -/
def hostAccess (h : ChaviHdr) (wr : Bool) (win off len arg : Nat) (data : List Byte) (s : State) : State :=
  let w := (mget s.fab.windows win).getD {}
  let a := w.base + off
  if w.home < 12 then
    let n := s.chavi.hwSeq
    (s.modRow w.home (fun x => { x with arrivals := x.arrivals ++ [{
      isWrite := wr, addr := a, bytes := len, data := data, src := 0xFFFF, kind := 1, bridge := 0, since := s.tb
      pkt := { tag := h.tag, offset := arg, win := win, pseq := n } }] })).modChavi (fun c => { c with hwSeq := if wr then n + 1 else n })
  else if bridgeUp s (w.home - 12) = false then chaviRsp h.tag arg .linkDown [] s
  else
    let s := touchMem a s
    match accessCode s wr a len with
    | .ok => if wr then chaviRsp h.tag arg .ok [] (memWrite s a data) else chaviRsp h.tag arg .ok (memRead s a len) s
    | c => chaviRsp h.tag arg c [] s

/-- A host request on a window (15 R402). -/
def hostWindow (h : ChaviHdr) (wr : Bool) (win off wepoch len arg : Nat) (data : List Byte) (s : State) : State :=
  if 4096 < len ∨ len = 0 then chaviRsp h.tag arg .fabMalformed [] s
  else match winCheck s win wepoch none 0xFFFF wr off len with
    | .ok => hostAccess h wr win off len arg data s
    | c => chaviRsp h.tag arg c [] s

/-- HWRITE (15 R402, R433). -/
def execHwrite (h : ChaviHdr) (win off wepoch : Nat) (data : List Byte) (s : State) : Res :=
  let arg := off + 2 ^ 40 * win
  chaviReq h arg data.length (hostWindow h true win off wepoch data.length arg data) s

/-- HREAD (15 R402; 17 R466): n × 256 bytes. -/
def execHread (h : ChaviHdr) (win off wepoch n : Nat) (s : State) : Res :=
  let arg := off + 2 ^ 40 * win + 2 ^ 52 * n
  chaviReq h arg 0 (hostWindow h false win off wepoch (256 * n) arg []) s

/-! Registers of a channel. -/

/-- MBX_ACK_WRITE (15 R411, R420). -/
def execMbxAckWrite (n seq code : Nat) (s : State) : Res := .next (if alive s then mbxAck n seq code s else s)

/-- MBX_TAKE_READ (15 R411, R419): the fields at the moment of the read, and in streaming mode the take. -/
def execMbxTakeRead (n : Nat) (s : State) : Res :=
  if alive s then .next ((takeRead n s).send (.value (mbxWord s true n 0x48))) else .next s

/-- MBX_PEER_RESEND (15 R414): every 1 ms while the message is not acknowledged. -/
def execMbxPeerResend (n : Nat) (s : State) : Res :=
  let c := s.chan n
  if alive s ∧ c.full ∧ c.rcv = .fabricPeer ∧ c.peerTb + 50000 ≤ s.tb then .next (sendPeer n s) else .next s

end Sys2Proof.Machine
end

