-- ==== Sys2Proof/Machine/Fabric.lean ====
section
/-! DEFINITION. Rows 129 to 134, 146, 148 to 150 and 153 to 155: frames, control flits, lanes, stalls, injection steps,
route versions and port qualification (14 R362 to R369, R376 to R386, R396; 18 R507). -/

namespace Sys2Proof.Machine

/-! Frames and control flits (14 R362 to R365). -/

/-- The control flit a port sends: cumulative ACK or NAK, and the credits freed (14 R364). -/
def sendFlit (port : Nat) (nak : Bool) (s : State) : State :=
  s.send (.flit port nak ((((s.port port).rxSeq) + 1023) % 1024) (s.port port).credFreed)

/-- One data flit of a good frame: the next in order is taken; until the replay arrives every other is discarded (14 R365). -/
def takeFlit (q : Port) (seq : Nat) : Port :=
  if seq = q.rxSeq then { q with rxSeq := (q.rxSeq + 1) % 1024, rxDiscarding := false } else q

/-- FABRIC_FRAME_RECEIVE (14 R362 to R365): `ok` says that all four codewords decode, `csym` counts the symbols corrected,
`seqs` are the SEQs of the frame's data flits. -/
def execFabricFrameReceive (port : Nat) (ok : Bool) (csym : Nat) (seqs : List Nat) (s : State) : Res :=
  if portLive (s.port port).st = false then .next s
  else if ok then
    .next (sendFlit port false (s.modPort port (fun q => seqs.foldl takeFlit { q with winCsym := q.winCsym + csym })))
  else .next (sendFlit port true (s.modPort port (fun q => { q with rxDiscarding := true })))

/-- Credits a cumulative count adds to what a port holds (14 R364, R385). -/
def addCredits (creds : List Nat) (q : Port) : Port :=
  if creds.length = 4 then { q with
    credTx := q.credTx.mapIdx (fun i c => c + (nth creds i + 2 ^ 24 - nth q.credSeen i) % 2 ^ 24)
    credSeen := creds.map (· % 2 ^ 24) } else q

/-- What ACK or NAK does to the replay count: the flits replayed in the window, and how often the same flit in a row (14
R365, R369). -/
def ackFlits (ack : Nat) (nak : Bool) (q : Port) : Port :=
  let same := ack == q.txAcked
  if nak then { q with winReplays := q.winReplays + (q.txSeq + 2047 - ack) % 1024, txAcked := ack,
                       replayRow := if same then q.replayRow + 1 else 1 }
  else { q with txAcked := ack, replayRow := if same then q.replayRow else 0 }

/-- A lane command of the partner (14 R366, R367): the same one goes back, and both directions are scheduled. -/
def laneCommand (port lane : Nat) (swap : Bool) (s : State) : State :=
  let q := s.port port
  let due := some (lane, swap)
  if q.swapTx = due then s.modPort port (fun q => { q with swapRx := due })
  else (s.modPort port (fun q => { q with swapRx := due, swapTx := due })).send (.lane port lane swap)

/-- The lane command that this end decides on (14 R366, R367). -/
def laneDecide (port lane : Nat) (swap : Bool) (s : State) : State :=
  (s.modPort port (fun q => { q with swapTx := some (lane, swap) })).send (.lane port lane swap)

/-- Whether a lane command fits the port: SWAP while lane 8 carries no traffic, RETURN of the lane it carries (14 R366,
R367). -/
def laneFits (q : Port) (lane : Nat) (swap : Bool) : Bool :=
  decide (lane < 8) && (if swap then q.st == .up && q.laneOk.getLsbD 8 else q.st == .upSpare && q.spared == some lane)

/-- FABRIC_CONTROL_FLIT (14 R364, R365, R385): cumulative ACK and credits, NAK, on which the packets kept are sent again, and any
lane command (1 SWAP, 2 RETURN). -/
def execFabricControlFlit (port ack : Nat) (nak : Bool) (creds : List Nat) (lcmd larg : Nat) (s : State) : Res :=
  if portLive (s.port port).st = false then .next s
  else
    let s := s.modPort port (fun q => keepReplay (ackFlits ack nak (addCredits creds q)))
    if 8 < (s.port port).replayRow then .next (portLoss port s)
    else
      let s := drainPort port (if nak then each (s.port port).replay (fun x s => s.send (.forward port x.2)) s else s)
      if lcmd ≠ 0 ∧ laneFits (s.port port) larg (lcmd == 1) then .next (laneCommand port larg (lcmd == 1) s) else .next s

/-! Lanes (14 R366 to R368). -/

/-- LANE_SWAP (14 R366): a SWAP command for a lane, received or decided here. -/
def execLaneSwap (port lane : Nat) (received : Bool) (s : State) : Res :=
  if laneFits (s.port port) lane true = false then .next s
  else if received then .next (laneCommand port lane true s)
  else if (s.port port).swapTx.isSome then .next s else .next (laneDecide port lane true s)

/-- LANE_RETURN (14 R367): a RETURN command for the swapped-out lane, received or decided here. -/
def execLaneReturn (port lane : Nat) (received : Bool) (s : State) : Res :=
  if laneFits (s.port port) lane false = false then .next s
  else if received then .next (laneCommand port lane false s)
  else if (s.port port).swapTx.isSome then .next s else .next (laneDecide port lane false s)

/-- The port's entry in the defect map follows the port (05, Table 5.6; 14 R369). -/
def mapPort (port : Nat) (s : State) : State :=
  let q := s.port port
  s.modDmapE (fun d => { d with fab := d.fab.set port { laneOk := q.laneOk, spareInUse := q.spared.isSome, st := if q.st = .retraining then .downRuntime else q.st } })

/-- A lane change in force in both directions (14 R366, R367): the port's state, and a LANE_SPARED record. -/
def laneDone (port lane : Nat) (swap : Bool) (s : State) : State :=
  let s := s.modPort port (fun q => if swap then { q with st := .upSpare, spared := some lane, outLane := some lane, outAt := s.tb }
    else { q with st := .up, spared := none, outLane := none })
  errRecord { code := .laneSpared, unit := uLane port lane, op := 0x0A, platform := true, leaf := .port port, detail := b2n swap, outcome := if swap then .none else .pass }
    (mapPort port s)

/-- LANE_SWAP_EFFECTIVE (14 R366, R367): the 64th frame boundary after the command, in the sending or the receiving
direction; the change is complete when neither direction waits for it. -/
def execLaneSwapEffective (port : Nat) (tx : Bool) (s : State) : Res :=
  let q := s.port port
  match (if tx then q.swapTx else q.swapRx) with
  | none => .next s
  | some (lane, swap) =>
    let s := s.modPort port (fun q => if tx then { q with swapTx := none } else { q with swapRx := none })
    if (if tx then q.swapRx else q.swapTx).isSome || !laneFits q lane swap then .next s else .next (laneDone port lane swap s)

/-- LANE_BER_WINDOW_END (14 R366, R368, R369): `above` lists the active lanes whose estimate is above 1e-6, `spareBad` says
that lane 8's own is above 1e-7. -/
def execLaneBerWindowEnd (port : Nat) (above : List Nat) (spareBad : Bool) (s : State) : Res :=
  let q := s.port port
  if portLive q.st = false ∨ s.tb < q.winTb + 50000000 then .next s
  else
    let s := s.modPort port (fun q => { q with
      replays := sat 8 q.winReplays, csym := sat 32 q.winCsym, winReplays := 0, winCsym := 0, winTb := s.tb })
    match above with
    | [] => .next s
    | l :: more =>
      if q.st = .upSpare ∨ q.swapTx.isSome ∨ !more.isEmpty ∨ spareBad ∨ laneFits q l true = false then .next (portLoss port s)
      else .next (laneDecide port l true s)

/-! Queues and route versions (14 R378 to R386). -/

/-- FAB_STALL_EXPIRY (14 R378): the packet at the head of an output queue has waited 2 ms for credit. -/
def execFabStallExpiry (port : Nat) (s : State) : Res :=
  let q := s.port port
  match q.txq with
  | [] => .next s
  | p :: rest =>
    if s.tb < q.headSince + 100000 then .next s
    else
      let s := s.modPort port (fun q => { q with txq := rest, headSince := s.tb, depth := q.depth - pktBytes p })
      .next (drainPort port (answer (portBridge port) p .fabStall [] (discardRecord port (portBridge port) .fabStall p s)))

/-- The injection step of a queue depth (14, Table 14.5). -/
def throtOf (q : List Nat) (depth : Nat) : Nat := countIf (fun k => decide (1024 * k ≤ depth)) q

/-- INJECTION_STEP_EVAL (14 R386). -/
def execInjectionStepEval (s : State) : Res :=
  .next (s.modFab (fun f => { f with ports := f.ports.mapIdx (fun i p => { p with throt := throtOf (nth f.bridges (portBridge i)).q p.depth }) }))

/-- The commit in one bridge (14 R379 to R382). -/
def commitBridge (tb : Nat) (x : Bridge) : Bridge :=
  if x.armedAt.isSome then { x with
    act := !x.act, other := .draining, armedAt := none, commitTb := tb, committed := if x.act then x.v0 else x.v1, zeroSince := none }
  else x

/-- ROUTE_COMMIT_TICK (14 R380): at the tick, on both bridges. -/
def execRouteCommitTick (s : State) : Res :=
  if s.fab.bridges.any (fun x => x.armedAt.any (fun t => decide (t ≤ s.tb))) then
    let s := s.modFab (fun f => { f with bridges := f.bridges.map (commitBridge s.tb), routeGen := (f.routeGen + 1) % 2 ^ 32 })
    .next (completeWait wCommit 0 .ok (leBytes 1 (b2n (s.bridge 0).act)) [] (syncInflight 1 (syncInflight 0 s)))
  else .next s

/-- ROUTE_VERSION_FREE (14 R381): nothing in flight for 10 µs, or the drain limit. -/
def execRouteVersionFree (b : Nat) (s : State) : Res :=
  let x := s.bridge b
  let free (s : State) : State := s.modBridge b (fun x => { x with other := .free, inflight := 0, zeroSince := none })
  if x.other ≠ .draining then .next s
  else if x.zeroSince.any (fun t => decide (t + 500 ≤ s.tb)) then .next (free s)
  else if x.commitTb + x.drainLim ≤ s.tb then
    .next (errRecord { code := .routeBusy, unit := uBridge b, op := 0x0A, detail := x.inflight }
      (s.modBridge b (fun x => { x with other := .free, drainExpired := true, inflight := 0, zeroSince := none })))
  else .next s

/-! Link loss and qualification (14 R396; 05 R136 to R138; 18 R507). -/

/-- PORT_LINK_LOSS (14 R396). -/
def execPortLinkLoss (port : Nat) (s : State) : Res :=
  if portLive (s.port port).st || (s.port port).st == .retraining then .next (portLoss port s) else .next s

/-- PORT_RETRAIN_START (14 R396): 1 s after the loss, or 10 s after a failed attempt. -/
def execPortRetrainStart (port : Nat) (s : State) : Res :=
  let q := s.port port
  let x := s.bridge (portBridge port)
  if (q.st = .downRuntime ∨ q.st = .down) ∧ q.downAt.any (fun t => decide (t ≤ s.tb)) = true ∧ nth s.power.presentN port = false
      ∧ x.inReset = false ∧ x.out = false
  then .next (s.modPort port (fun q => { q with st := .retraining, downAt := none }))
  else .next s

/-- PORT_QUALIFICATION_END (05 R136 to R138; 14 R396; 18 R507): `partner` says that the link partner answered, `lanes` which
lanes passed at both ends. -/
def execPortQualificationEnd (port : Nat) (lanes : BitVec 9) (partner : Bool) (s : State) : Res :=
  if (s.port port).st ≠ .retraining then .next s
  else
    let record (c : Code) (detail : Nat) : State → State :=
      errRecord { code := c, unit := uPort port, op := 0x0A, platform := true, leaf := .port port, detail := detail }
    let fail (why : Nat) (s : State) : State :=
      record .portDown why ((qualify port .down (if partner then lanes else 0) none s).modPort port (fun q => { q with downAt := some (s.tb + 500000000) }))
    let t := if partner = false then fail 1 s
      else match portResult lanes with
        | (.up, _) => qualify port .up lanes none s
        | (.upSpare, some l) => record .laneSpared l (qualify port .upSpare lanes (some l) s)
        | _ => fail 2 s
    .next (completeWait wRecover (uPort port) .ok [] [] (epochSince s.dmap t))

end Sys2Proof.Machine
end

