-- ==== Sys2Proof/Machine/Rings.lean ====
section
/-! DEFINITION. Rows 168 to 172: doorbells and the timeouts of requests and jobs (15 R430 to R435; 18 R488 to R490). -/

namespace Sys2Proof.Machine

/-- The doorbell word; `rsv` holds its reserved bits, [13:0] and then [29:14] (15 R430). -/
def bellWord (kind ring value rsv : Nat) : Nat :=
  ring + 2 ^ 16 * (rsv % 2 ^ 14) + 2 ^ 30 * kind + 2 ^ 32 * value + 2 ^ 48 * (rsv / 2 ^ 14)

/-- A doorbell by its path: behind the session's HWRITEs on Chavi (R433), as a DOORBELL packet on the fabric. -/
def ringBell (path : BellPath) (word : Nat) (s : State) : Res :=
  match path with
  | .chavi h => chaviReq h 0 8 (hostArrive { kind := 2, tag := h.tag, word := word }) s
  | .fabric port p =>
    if s.power.trip.isSome then .next s else arrive port { p with type := 5, len := 8, data := leBytes 8 word } s

/-- REQ_TAIL (15 R430 to R432). -/
def execReqTail (path : BellPath) (ring value rsv : Nat) (s : State) : Res := ringBell path (bellWord 0 ring value rsv) s
/-- REQ_ADD (15 R430 to R432). -/
def execReqAdd (path : BellPath) (ring value rsv : Nat) (s : State) : Res := ringBell path (bellWord 1 ring value rsv) s
/-- CPL_HEAD (15 R430, R431; 18 R488). -/
def execCplHead (path : BellPath) (ring value rsv : Nat) (s : State) : Res := ringBell path (bellWord 2 ring value rsv) s

/-- REQ_TIMEOUT (18 R488): the request at place i of a ring's outstanding table has outlived its TMO. -/
def execReqTimeout (n i : Nat) (s : State) : Res :=
  match s.ring n with
  | none => .next s
  | some g =>
    match g.out[i]? with
    | none => .next s
    | some q =>
      if s.rings.up = false ∨ q.tmo = 0 ∨ s.tb < q.popTb + q.tmo then .next s
      else
        let s := errRecord { code := .reqTimeout, unit := uSpine 3, op := 0x09, job := q.job } s
        .next (postDevice n (errCpl q.tag q.job .reqTimeout) (reqStamp g q) (s.modRing n (fun g => { g with out := g.out.eraseIdx i })))

/-- JOB_TIMEOUT (18 R489): the job's outstanding requests end, and its entries at the head of a ring. -/
def execJobTimeout (job : Nat) (s : State) : Res :=
  if (mget s.gw.jobAt job).any (fun t => decide (t ≤ s.tb)) = false ∨ s.rings.up = false then .next s
  else
    let s := errRecord { code := .jobTimeout, unit := uSpine 3, op := 0x09, job := job } (s.modGw (fun g => { g with
      jobAt := mdel g.jobAt job, jobTmo := mdel g.jobTmo job, jobExpired := addNew g.jobExpired job }))
    let s := each s.rings.rings (fun p => endRequests p.1 (·.job == job) .jobTimeout) s
    .next (each s.rings.rings (fun p => purgeHead p.2.count p.1) s)

/-- A ring whose held error completions can go on because its channel or a place has become free (18 R488; log 16). -/
def ringIdle (s : State) : Option State :=
  if s.rings.up = false then none
  else (s.rings.rings.find? (fun p => !p.2.held.isEmpty && !p.2.failed
    && (match p.2.cqChan, p.2.held with
        | some ch, (_, st) :: _ => mbxCheck s ch (0x5000 + st) != .mbxFull
        | _, _ => !cplFull s p.1 p.2))).map (fun p => drainHeld (p.2.held.length + 1) p.1 s)

end Sys2Proof.Machine
end

