-- ==== Sys2Proof/Machine/GwInfo.lean ====
section
/-! DEFINITION. Rows 173 to 180: the status and information commands (16, Tables 16.3 and 16.4; 13 R361; 17 R469; 22 R592,
R593). -/

namespace Sys2Proof.Machine

def swCode : SwState → Nat
  | .off => 0 | .starting => 1 | .on => 2 | .fault => 3

/-- The 1,024 bytes of DEVICE_INFO (16, Table 16.3). -/
def deviceInfo (s : State) : List Byte :=
  padTo 0x200 (leBytes 4 (spnCaps s) ++ leBytes 1 s.boot.slotId ++ leBytes 1 (b2n s.boot.mbxMode) ++ leBytes 1 (s.gw.running.getD 0)
    ++ leBytes 1 (b2n s.boot.warm) ++ leBytes 4 s.gw.version ++ leBytes 2 (s.fab.epBase.getD 0xFFFF) ++ leBytes 2 s.clk.cur
    ++ leBytes 16 s.eeprom.ident.serial ++ leBytes 8 s.tb ++ leBytes 4 s.boot.bootNo ++ leBytes 4 0
    ++ s.mem.units.flatMap (fun u => leBytes 1 (fineCode u.st)) ++ s.flash.cards.flatMap (fun c => leBytes 1 (cardCode c.st))
    ++ s.power.switches.flatMap (fun w => leBytes 1 (swCode w.st)) ++ s.rows.flatMap (fun w => leBytes 1 (rowStCode w.st)))
    ++ dmapBytes s

/-- DEVICE_INFO (16 R446, Table 16.3; 05 R140). -/
def execDeviceInfo (h : CmdHdr) (s : State) : Res :=
  gwCommand (.deviceInfo h) h 0x0101 false 1024 objDevice
    (fun s => .now .ok (leBytes 4 (spnCaps s) ++ leBytes 4 s.dmap.epoch) (deviceInfo s) s) s

/-- DEFECT_MAP (05 R139). -/
def execDefectMap (h : CmdHdr) (s : State) : Res :=
  gwCommand (.defectMap h) h 0x0102 false 512 objDevice (fun s => .now .ok (leBytes 4 s.dmap.epoch) (dmapBytes s) s) s

/-- The half a BOOT_LOG names: 0 the current bring-up, 1 the previous one. -/
def bootLogHalf (s : State) (half : Nat) : List Byte := bootHalf s ((s.boot.curHalf + half) % 2)

/-- BOOT_LOG (05 R124; 22 R593): BOOT_NO cannot change while the command runs. -/
def execBootLog (h : CmdHdr) (half : Nat) (s : State) : Res :=
  gwCommand (.bootLog h half) h 0x0103 false (bootLogHalf s half).length objDevice (fun s =>
    if 1 < half then .now .cmdIllegal [] [] s
    else
      let l := bootLogHalf s half
      .now .ok [] l (if half = 0 then attnSettle (s.modAttn (fun a => { a with cause := a.cause.modify 0 (w1c · 1) })) else s)) s

/-- POWER_STATUS (16 R446): 12 words of PWR_ROW, 45 of PWR_DOM, all of one window. -/
def execPowerStatus (h : CmdHdr) (s : State) : Res :=
  gwCommand (.powerStatus h) h 0x0104 false 408 objDevice (fun s =>
    .now .ok [] ((List.range 12).flatMap (fun r => leBytes 4 (pwrRow s r)) ++ (List.range 45).flatMap (fun n => leBytes 8 (pwrDom s n))) s) s

/-- CLOCK_STATUS (16 R446; 04 R109): the RC fields clear. -/
def execClockStatus (h : CmdHdr) (s : State) : Res :=
  gwCommand (.clockStatus h) h 0x0105 false 112 objDevice (fun s =>
    .now .ok [] (leBytes 4 (clkStep s) ++ leBytes 4 0 ++ leBytes 8 s.clk.stepAt ++ (List.range 12).flatMap (fun r => leBytes 8 (clkRowWord s r)))
      (s.modClk (fun c => { c with rowCnt := c.rowCnt.map (fun _ => {}) }))) s

/-- FABRIC_STATUS (16 R446; 14 R369, R382). -/
def execFabricStatus (h : CmdHdr) (b : Nat) (s : State) : Res :=
  gwCommand (.fabricStatus h b) h 0x0106 false 56 (objBridge b) (fun s =>
    if 1 < b then .now .cmdIllegal [] [] s
    else .now .ok [] (leBytes 8 (fabRoute s b) ++ (List.range 6).flatMap (fun p => leBytes 8 (fabPort s (6 * b + p)))) s) s

def fchanCode : FChanState → Nat
  | .inService => 0 | .lowSpare => 1 | .readOnly => 2 | .empty => 3 | .retired => 4 | .absent => 5

/-- LIFE: the share of the write budget of 11,250 TB, in units of 0.01 % (13, Table 13.9). -/
def cardLife (c : Card) : Nat := sat 16 (c.written * 10000 / (11250 * 10 ^ 12))

/-- Age in days of the oldest row group of a channel (13, Table 13.10). -/
def oldestDays (s : State) (c k : Nat) : Nat :=
  ((s.flash.groups.filter (fun g => g.2.card == c && g.2.chan == k && !g.2.lost)).map (fun g => s.tb - g.2.since)).foldl max 0
    / (50000000 * 86400)

/-- A card record (13, Table 13.9); `free` is its FREE. -/
def cardRec (s : State) (c free : Nat) : List Byte :=
  let x := s.card c
  leBytes 1 c ++ leBytes 1 (cardCode x.st) ++ leBytes 1 (swCode (s.sw (16 + c)).st) ++ leBytes 1 (ofSigned 8 (x.temp / 4)) ++ leBytes 4 x.cap
    ++ leBytes 4 free ++ leBytes 4 (x.written / 10 ^ 9) ++ leBytes 2 x.wa ++ leBytes 2 (cardLife x)
    ++ leBytes 4 (countIf (fun g => g.2.card == c && g.2.lost) s.flash.groups) ++ leBytes 8 x.serial

/-- A channel record (13, Table 13.10). -/
def fchanRec (s : State) (c k : Nat) : List Byte :=
  let x := s.fchan c k
  leBytes 1 (fchanCode x.st) ++ leBytes 1 0 ++ leBytes 2 x.diesOk.toNat ++ leBytes 4 x.spareLeft ++ leBytes 4 x.spareInit ++ leBytes 2 x.peAvg
    ++ leBytes 2 x.peMax ++ leBytes 4 x.retry ++ leBytes 4 x.recon ++ leBytes 2 (sat 16 x.failed) ++ leBytes 2 x.atRisk
    ++ leBytes 2 (sat 16 (oldestDays s c k)) ++ leBytes 2 0

/-- FLASH_HEALTH (13 R361): FREE is a free value for each card (log 11); the since-last-read counts restart at 0. -/
def execFlashHealth (h : CmdHdr) (s : State) : Res :=
  gwCommand (.flashHealth h) h 0x0107 false 1280 objDevice (fun s =>
    if hasFlash s = false then .now .unitAbsent [] [] s
    else
      let l := (List.range 8).flatMap (fun c => cardRec s c (Config.freeNat (s.fresh + c)) ++ (List.range 4).flatMap (fchanRec s c))
      .now .ok [] l ((s.modFresh (· + 8)).modFlash (fun f => { f with cards := f.cards.map (fun c => { c with
        chans := c.chans.map (fun k => { k with retry := 0, recon := 0, failed := 0 }) }) }))) s

/-- The records an ERROR_LOG_READ returns: from FROM on, oldest first, at most MAX (16, Table 16.4). -/
def logFrom (s : State) (start max : Nat) : List ErrRec := (s.err.log.filter (fun e => decide (start ≤ e.recno))).take max

/-- NEXT: the record number to go on from; FROM where no record was returned. -/
def logNext (s : State) (start max : Nat) : Nat :=
  match (logFrom s start max).getLast? with
  | some e => e.recno + 1
  | none => start

/-- ERROR_LOG_READ (16, Table 16.4; 17 R469, R471; 22 R592). -/
def execErrorLogRead (h : CmdHdr) (start max : Nat) (s : State) : Res :=
  gwCommand (.errorLogRead h start max) h 0x0108 false (64 * (logFrom s start max).length) objDevice (fun s =>
    .now .ok (leBytes 8 (logNext s start max)) ((logFrom s start max).flatMap ErrRec.bytes)
      (clearBelow (min (logNext s start max) s.err.next) s)) s

end Sys2Proof.Machine
end

