-- ==== Sys2Proof/Machine/Scratch.lean ====
section
/-! DEFINITION. Rows 93 to 107: grants, DMA descriptors, ingress, network timeouts, bank power and UCIe flits (11; 18
R484 to R486). -/

namespace Sys2Proof.Machine

/-- What a grant or a refusal does for its owner. -/
def grantOwner (r : Nat) (q : ScbReq) (bad : Bool) (s : State) : State :=
  let o := q.owner
  if o < 4 then
    match (s.tile r o).queue.findIdx? (fun e => opcOf e.word == 6) with
    | some i => mirror r o (s.modTile r o (dequeue s.tb s.gw.tmoAst i))
    | none => s
  else if o < 0x10 then endSresv r (o - 8) .ok s
  else if o < 0x20 then
    match nth (s.row r).ingress (o - 0x10) with
    | some g => if ingHolds s r g then s else ingPerform r (o - 0x10) g bad s
    | none => s
  else if o < 0x70 then dmaRequest 12 ((o - 0x40) / 4) ((o - 0x40) % 4) s
  else s

def refuseOwner (r : Nat) (q : ScbReq) (c : Code) (s : State) : State :=
  let o := q.owner
  if o < 4 then s
  else if o < 0x10 then endSresv r (o - 8) c s
  else if o < 0x20 then
    match nth (s.row r).ingress (o - 0x10) with
    | some g => ingRefuse r g c (s.modRow r (fun w => { w with ingress := w.ingress.set (o - 0x10) none }))
    | none => s
  else
    let e := (o - 0x40) % 4
    let b := (o - 0x40) / 4
    dmaRecord b e c (dmaEnd b e c 0 s)

/-- SCOREBOARD_GRANT (11 R269; 08 R208; 10 R250): the pending request at place i of the row is granted, refused, or keeps
waiting. `bad` says that a granted ingress transaction's byte fails parity. -/
def execScoreboardGrant (r i : Nat) (bad : Bool) (s : State) : Res :=
  let w := s.row r
  match w.scbPend[i]? with
  | none => .next s
  | some q =>
    if rowRuns s r = false then .next s
    else match scbVerdict w (w.scbPend.take i) q with
      | .wait => .next (s.modRow r (wakeBanks (q.ranges.flatMap (fun g => banksOf g.1 g.2.1))))
      | .refuse c =>
        .next (refuseOwner r q c (s.modRow r (fun w => { w with scbPend := w.scbPend.eraseIdx i })))
      | .grant =>
        let w := scbEnter s.tb q { w with scbPend := w.scbPend.eraseIdx i }
        .next (grantOwner r q bad (s.modRow r (fun _ => q.ranges.foldl (fun w g => clearPoisoned g w) w)))

/-! DMA. -/

/-- DMA_COPY, DMA_SKEW, DMA_UNSKEW and DMA_FILL (11 R277, R279, R282): a submission. -/
def execDmaCopy (r e : Nat) (d : DmaDesc) (s : State) : Res := atRow r (dmaSubmit r e { d with op := .copy }) s
def execDmaSkew (r e : Nat) (d : DmaDesc) (s : State) : Res := atRow r (dmaSubmit r e { d with op := .skew }) s
def execDmaUnskew (r e : Nat) (d : DmaDesc) (s : State) : Res := atRow r (dmaSubmit r e { d with op := .unskew }) s
def execDmaFill (r e : Nat) (d : DmaDesc) (s : State) : Res := atRow r (dmaSubmit r e { d with op := .fill }) s

/-- The rows a descriptor reaches that do not run yet; each is woken (04 R105, R107). -/
def dmaAsleep (s : State) (d : DmaDesc) : List Nat :=
  (List.range 12).filter (fun q => !(rowRanges d q).isEmpty && !rowRuns s q && !rowIsOut s q && !rowIsDark s q)

/-- DMA_DESCRIPTOR_START (11 R278, R281): the head is taken up once the FIFO has room, and its reservations requested. -/
def execDmaDescriptorStart (r e : Nat) (s : State) : Res :=
  let x := s.dmaE r e
  match x.queue with
  | [] => .next s
  | d :: _ =>
    if rowRuns s r = false ∨ x.active ∨ 64 ≤ x.cpl.length ∨ x.held.isEmpty = false then .next s
    else if (dmaAsleep s d).isEmpty = false then .next (each (dmaAsleep s d) wakeRow s)
    else .next (dmaRequest 13 r e (s.modDma r e (fun x => { x with active := true, waitResv := true, startTb := s.tb, limit := s.gw.tmoDma })))

/-- Whether the engine runs a descriptor that holds every grant. -/
def dmaReady (s : State) (r e : Nat) : Bool :=
  let x := s.dmaE r e
  x.active && !x.waitResv && !x.queue.isEmpty

/-- DMA_COMPLETE (11 R280, R281; 17 R460, R463, R466): the descriptor ends with one status. `err` is what a read met: 1 a
failing source byte, 2 an uncorrectable error; `lines` is how many destination lines were written when it ends early. -/
def execDmaComplete (r e err lines : Nat) (s : State) : Res :=
  let x := s.dmaE r e
  match x.queue with
  | [] => .next s
  | d :: _ =>
    if dmaReady s r e = false ∨ dmaHolds s d x.taint ∨ dmaRoom s d (dmaTaint s d x.taint) x.taintBad = false then .next s
    else
      let c0 := dmaCode s d
      let poi := dmaPoisoned s d
      let c := if c0 ≠ .ok then c0 else if poi ∨ err = 1 then .parityError else if err = 2 then .memUncorrectable else .ok
      let taint := dmaTaint s d x.taint
      let l := dmaData s d
      let l := if c = .ok then l else l.take (min lines (l.length - 1))
      let s := dmaWrite d taint x.taintBad l (s.modDma r e (fun x => { x with taint := taint }))
      let s := if c = .ok then s
        else if poi then errRecord { code := .poisoned, unit := uDma r e, op := 5 } s
        else if c = .parityError then
          errRecord { code := c, unit := (match place s d.src with | .scratch q b => uBank q b | .mem u _ => uMem u | _ => uDma r e), op := 5, addr := d.src } s
        else if c0 = .ok then memMeets 5 (((dmaExtents d).filter (fun g => !g.2.2)).map (fun g => (g.1, g.2.1))) s
        else dmaRecord r e c s
      .next (dmaEnd r e c l.length s)

/-- DMA_CPL_POP (11 R281, R284): the oldest record, or 0. -/
def execDmaCplPop (r e : Nat) (s : State) : Res :=
  .next ((s.modDma r e dmaPop).send (.value (((s.dmaE r e).cpl.head?.map cplWord).getD 0)))

/-- DMA_DESCRIPTOR_TIMEOUT (18 R484, R491): lines already written keep their contents. -/
def execDmaDescriptorTimeout (r e lines : Nat) (s : State) : Res :=
  let x := s.dmaE r e
  match x.queue with
  | [] => .next s
  | d :: _ =>
    if x.active = false ∨ s.tb < x.startTb + x.limit then .next s
    else
      let l := if dmaReady s r e ∧ dmaCode s d = .ok ∧ dmaRoom s d x.taint x.taintBad = true then let l := dmaData s d; l.take (min lines (l.length - 1)) else []
      .next (dmaRecord r e .dmaTimeout (dmaEnd r e .dmaTimeout l.length (dmaWrite d x.taint x.taintBad l s)))

/-! Ingress. -/

/-- The transaction that an agent holds with its grant, where it may now be performed (17 R464, R466). -/
def ingHeld (s : State) (r a : Nat) : Option Ingress :=
  match nth (s.row r).ingress a with
  | some g => if (s.row r).scb.any (·.owner == ownIng a) && !ingHolds s r g && rowRuns s r then some g else none
  | none => none

/-- Agent a performs the transaction it holds granted, or takes the one at place i of the row's router (11 R291 to R293). -/
def ingressStep (r a i : Nat) (bad : Bool) (s : State) : Res :=
  let w := s.row r
  match ingHeld s r a, w.arrivals[i]? with
  | some g, _ => .next (ingPerform r a g bad s)
  | none, none => .next s
  | none, some g =>
    let gone := s.modRow r (fun w => { w with arrivals := w.arrivals.eraseIdx i })
    if rowIsOut s r then .next (ingRefuse r g .unitRetired gone)
    else if rowIsDark s r then .next (ingRefuse r g .rowDark gone)
    else if rowRuns s r = false then .next (wakeRow r s)
    else if 16 ≤ a ∨ (nth w.ingress a).isSome
        ∨ (g.fence ∧ ((w.arrivals.take i).any (·.src == g.src) ∨ w.ingress.any (·.any (·.src == g.src)))) then .next s
    else
      let c := accessCode s g.isWrite g.addr g.bytes
      if c ≠ .ok then .next (ingRefuse r g c gone)
      else
        let q := ingReq s.tb a g
        match scbRequest s.tb q ((wakeRow r gone).row r) with
        | (.grant, w) =>
          let s := (wakeRow r gone).modRow r (fun _ => q.ranges.foldl (fun w x => clearPoisoned x w) { w with ingress := w.ingress.set a (some g) })
          .next (if ingHolds s r g then s else ingPerform r a g bad s)
        | (.wait, w) => .next ((wakeRow r gone).modRow r (fun _ => { w with ingress := w.ingress.set a (some g) }))
        | (.refuse c, _) => .next (ingRefuse r g c gone)

/-- INGRESS_TRANSACTION (11 R263, R291 to R293); a window command that waited for the request completes (14 R389). -/
def execIngressTransaction (r a i : Nat) (bad : Bool) (s : State) : Res :=
  match ingressStep r a i bad s with
  | .next t => .next (windowsSettle t)
  | x => x

/-! Network timeouts (18 R486). -/

/-- NET_TIMEOUT_EXPIRY: kind 0 a core's access, 1 a DMA engine's, 2 a ring engine's, 3 an ingress agent's, 4 a binding's
send, 5 a row-fetch engine's; a and b name the unit. The operation ends with its timeout outcome. -/
def execNetTimeoutExpiry (kind a b : Nat) (s : State) : Res :=
  match kind with
  | 0 =>
    match (s.core a b).mem with
    | some m =>
      if m.startTb.any (fun t => decide (t + m.limit ≤ s.tb)) then
        .next (errRecord { code := .netTimeout, unit := uPrm a ((prmPos s a b).getD b), op := 7, addr := m.addr }
          (s.modCore a b (fun c => { (c.trap (if m.isStore then 7 else 5) m.addr) with mem := none })))
      else .next s
    | none => .next s
  | 1 =>
    if dmaReady s a b ∧ (s.dmaE a b).startTb + s.gw.tmoNet ≤ s.tb then .next (dmaRecord a b .netTimeout (dmaEnd a b .dmaTimeout 0 s)) else .next s
  | 2 => if (s.ring a).isSome then .next (errRecord { code := .netTimeout, unit := uSpine 3, op := 7 } s) else .next s
  | 3 =>
    match nth (s.row a).ingress b with
    | some g =>
      if g.since + s.gw.tmoNet ≤ s.tb then
        .next (windowsSettle (ingAnswer g .netTimeout [] (errRecord { code := .netTimeout, unit := uRow a, op := 7, addr := g.addr }
          (s.modRow a (fun w => scbFreeOwner s.tb (ownIng b) { w with
            ingress := w.ingress.set b none, scbPend := w.scbPend.filter (·.owner != ownIng b) })))))
      else .next s
    | none => .next s
  | 4 =>
    match mget s.fab.bindings a with
    | some x =>
      if x.sending then
        .next (errRecord { code := .netTimeout, unit := uBridge x.bridge, op := 7, detail := a }
          (s.modFab (fun f => { f with bindings := mmod f.bindings a (fun x => { x with badCode := if x.badCode = 0 then Code.netTimeout.val else x.badCode }) })))
      else .next s
    | none => .next s
  | _ =>
    if (s.engine a b).isSome then
      .next (errRecord { code := .netTimeout, unit := uBridge a, op := 7 } (s.modEngine a b (fun x => { x with
        status := if x.status = 0 then Code.netTimeout.val else x.status, ended := true, pendRow := none })))
    else .next s

/-! Bank power (11 R286 to R289). -/

/-- Whether a bank holds an entry or a pending request touches it. -/
def bankUsed (w : Row) (b : Nat) : Bool :=
  w.scb.any (fun e => (banksOf e.line e.len).contains b) || w.scbPend.any (fun q => q.ranges.any (fun g => (banksOf g.1 g.2.1).contains b))

/-- BANK_RET_ENTRY (11 R287): T_BANK ticks with no entry, no pending request and no access. -/
def execBankRetEntry (r b : Nat) (s : State) : Res :=
  let w := s.row r
  let k := s.bank r b
  if rowRuns s r = true ∧ b < 40 ∧ k.st = .on ∧ k.inTest = false ∧ k.tIdle ≠ 0 ∧ bankUsed w b = false ∧ k.idleSince + k.tIdle ≤ s.tb then
    .next (s.modBank r b (fun k => { k with st := .entering, toOff := false }))
  else .next s

/-- A bank with a BANK_POWER OFF waiting that has come to ON (11 R288): the BANK_BUSY check, then the entry. -/
def bankOffGo (r b : Nat) (s : State) : State :=
  let k := s.bank r b
  if k.st = .on ∧ k.cmdOff then
    if bankUsed (s.row r) b ∨ k.inTest then
      completeWait wBankOff (40 * r + b) .bankBusy [] [] (s.modBank r b (fun k => { k with cmdOff := false }))
    else s.modBank r b (fun k => { k with st := .entering, toOff := true, cmdOff := false })
  else s

/-- A bank that has come to ON: commands that wait for it (11 R288; 04 R601). -/
def bankIsOn (r b : Nat) (s : State) : State :=
  let s := s.modBank r b (fun k => { k with st := .on, idleSince := s.tb, tIdle := (s.row r).tBank, fromOff := false, wakeAfter := false })
  bankOffGo r b (rowPowerCheck r (completeWait wBank (40 * r + b) .ok [] [] s))

/-- BANK_TRANSITION_COMPLETE (11 R286 to R288). -/
def execBankTransitionComplete (r b : Nat) (s : State) : Res :=
  let k := s.bank r b
  if 12 ≤ r ∨ 40 ≤ b then .next s
  else if k.st = .entering ∧ k.toOff then
    .next (completeWait wBankOff (40 * r + b) .ok [] []
      (dropCells (bankKey r b) (s.modBank r b (fun k => { k with st := .off, toOff := false, wakeAfter := false }))))
  else if k.st = .entering then
    .next (s.modBank r b (fun k => { k with st := if k.wakeAfter || k.cmdOff then .waking else .ret, wakeAfter := false }))
  else if k.st = .waking ∧ k.fromOff then .next (s.modBank r b (fun k => { k with st := .scrub }))
  else if k.st = .waking then .next (bankIsOn r b s)
  else .next s

/-- BANK_SCRUB_END (11 R289): every line zero, and traffic from the next cycle. -/
def execBankScrubEnd (r b : Nat) (s : State) : Res :=
  if r < 12 ∧ b < 40 ∧ (s.bank r b).st = .scrub then .next (bankIsOn r b (dropCells (bankKey r b) s)) else .next s

/-! UCIe (11 R302, R303). -/

/-- UCIE_FLIT_RECEIVE: a flit at module m, from the other end. An idle flit carries ACK, NAK and credit only. -/
def execUcieFlitReceive (m seq : Nat) (idle crcOk : Bool) (cvc ccnt : Nat) (s : State) : Res :=
  let u := nth s.fab.ucie m
  let upd (f : Ucie → Ucie) (s : State) : State := s.modFab (fun x => { x with ucie := x.ucie.modify m f })
  if u.up = false ∨ 16 ≤ m then .next s
  else if crcOk = false then
    if 8 < u.replays + 1 then
      .next (errRecord { code := .ucieDown, unit := uUcie m, op := 8, platform := true, leaf := .ev 5 1, action := 5 }
        (upd (fun u => { u with up := false }) s))
    else .next ((upd (fun u => { u with nakSent := true, replays := u.replays + 1 }) s).send (.ucie m true u.rxSeq))
  else
    let s := upd (fun u => { u with credits := u.credits.modify cvc (· + ccnt) }) s
    if idle then .next s
    else if seq = u.rxSeq then
      .next ((upd (fun u => { u with rxSeq := (u.rxSeq + 1) % 1024, nakSent := false, replays := 0 }) s).send (.ucie m false seq))
    else if u.nakSent then .next s
    else .next ((upd (fun u => { u with nakSent := true }) s).send (.ucie m true u.rxSeq))

end Sys2Proof.Machine
end

