-- ==== Sys2Proof/Machine/GwRows.lean ====
section
/-! DEFINITION. Rows 181 to 189: the commands for rows, banks, power limits, energy reports and power groups (16, Table 16.5;
04 R104, R601; 03 R83; 11 R287, R288; 19 R512, R528, R529, R533; 10 R258). -/

namespace Sys2Proof.Machine

/-- A policy value: 0 disables, 2^32 − 1 keeps, otherwise within its range (04 R104; 11 R287). -/
def policyOk (v lo hi : Nat) : Bool := v == 0 || v == 0xFFFFFFFF || (decide (lo ≤ v) && decide (v ≤ hi))
def keepOr (v old : Nat) : Nat := if v = 0xFFFFFFFF then old else v

/-- ROW_POWER_POLICY (04 R104; 11 R287): the values of one row or all, in force from the next idle interval. -/
def execRowPowerPolicy (h : CmdHdr) (r tNap tSleep tBank : Nat) (s : State) : Res :=
  gwCommand (.rowPowerPolicy h r tNap tSleep tBank) h 0x0201 false 0 (objRow r) (fun s =>
    if (12 ≤ r ∧ r ≠ 0xFF) ∨ policyOk tNap 50 50000 = false ∨ policyOk tSleep 2500 (2 ^ 32 - 2) = false
        ∨ policyOk tBank 500 (2 ^ 32 - 2) = false then .now .cmdIllegal [] [] s
    else
      .now .ok [] [] (s.modRows (·.mapIdx (fun i w => if r = 0xFF ∨ i = r then
        { w with tNap := keepOr tNap w.tNap, tSleep := keepOr tSleep w.tSleep, tBank := keepOr tBank w.tBank } else w)))) s

/-- A row owns a ring or holds a loaded program (04 R108). -/
def rowInUse (s : State) (r : Nat) : Bool := !(s.row r).progs.isEmpty || s.rings.rings.any (fun p => p.2.owner == r)

/-- ROW_POWER on a row that is neither dark nor out (04 R601): 0 SLEEP, 1 OFF, 2 WAKE. -/
def rowPowerGo (r st : Nat) (s : State) : Done :=
  let go (t : RowTarget) (s : State) : Done := .later wRowPower (256 * r + st) (s.modRow r (fun w => { w with target := some t }))
  match st, (s.row r).st with
  | 0, .sleep => .now .ok [] [] s
  | 0, .off => go .sleep (wakeRow r s)
  | 0, _ => go .sleep s
  | 1, .off => .now .ok [] [] s
  | 1, .sleep => .now .ok [] [] (rowPowerCheck r (rowToOff r s))
  | 1, _ => go .off s
  | _, .sleep | _, .off => .later wRowPower (256 * r + 2) (wakeRow r s)
  | _, .waking => .later wRowPower (256 * r + 2) s
  | _, _ => .now .ok [] [] (wakeRow r s)

/-- ROW_POWER (04 R108, R601). -/
def execRowPower (h : CmdHdr) (r st : Nat) (s : State) : Res :=
  gwCommand (.rowPower h r st) h 0x0202 false 0 (objRow r) (fun s =>
    if 12 ≤ r ∨ 2 < st then .now .cmdIllegal [] [] s
    else if rowIsOut s r then .now .unitRetired [] [] s
    else if rowIsDark s r ∨ (s.conv r).st = .retryWait then .now .rowDark [] [] s
    else if st = 1 ∧ rowInUse s r = true then .now .rowInUse [] [] s
    else rowPowerGo r st s) s

/-- ROW_REARM (03 R83): the retry starts at once; the command completes when it ends. -/
def execRowRearm (h : CmdHdr) (r : Nat) (s : State) : Res :=
  gwCommand (.rowRearm h r) h 0x0203 false 0 (objRow r) (fun s =>
    if 12 ≤ r then .now .cmdIllegal [] [] s
    else if (s.conv r).st ≠ .dark then .now .unitBusy [] [] s
    else .later wRearm r (retryBegin r (s.modConv r (fun c => { c with retryUsed := false })))) s

/-- BANK_POWER OFF for a bank in service of a row that runs (11 R288). -/
def bankOff (r b : Nat) (s : State) : Done :=
  let wait (f : Bank → Bank) (s : State) : Done := .later wBankOff (40 * r + b) (s.modBank r b (fun k => f { k with cmdOff := true }))
  match (s.bank r b).st with
  | .off => .now .ok [] [] s
  | .on => if bankUsed (s.row r) b ∨ (s.bank r b).inTest then .now .bankBusy [] [] s
    else .later wBankOff (40 * r + b) (s.modBank r b (fun k => { k with st := .entering, toOff := true }))
  | .ret => wait (fun k => { k with st := .waking }) s
  | _ => wait id s

/-- BANK_POWER ON (11 R288, R289). -/
def bankOn (r b : Nat) (s : State) : Done :=
  let wait (f : Bank → Bank) (s : State) : Done := .later wBank (40 * r + b) (s.modBank r b f)
  match (s.bank r b).st with
  | .on => .now .ok [] [] s
  | .ret => wait (fun k => { k with st := .waking }) s
  | .off => wait (fun k => { k with st := .waking, fromOff := true }) s
  | .entering => wait (fun k => { k with wakeAfter := true }) s
  | _ => wait id s

/-- BANK_POWER (11 R288, R289): 0 OFF, 1 ON; the command wakes its row (04 R105). -/
def execBankPower (h : CmdHdr) (r b st : Nat) (s : State) : Res :=
  gwCommand (.bankPower h r b st) h 0x0204 false 0 (objBank r b) (fun s =>
    if 12 ≤ r ∨ 40 ≤ b ∨ 1 < st then .now .cmdIllegal [] [] s
    else if rowIsOut s r ∨ (s.bank r b).st = .retired then .now .unitRetired [] [] s
    else if rowIsDark s r ∨ (s.conv r).st = .retryWait then .now .rowDark [] [] s
    else if rowRuns s r = false ∨ stagedOut s r = false then .hold (wakeRow r s)
    else if st = 0 then bankOff r b s else bankOn r b s) s

/-- POWER_CAP (19 R512; 16, Table 16.5): 0 keeps a value. -/
def execPowerCap (h : CmdHdr) (module package halfN halfS : Nat) (s : State) : Res :=
  let ok (v lo hi : Nat) : Bool := v == 0 || (decide (lo ≤ v) && decide (v ≤ hi))
  let pick (v old : Nat) : Nat := if v = 0 then old else v
  gwCommand (.powerCap h module package halfN halfS) h 0x0205 false 0 objDevice (fun s =>
    if ok module 200000 1400000 && ok package 150000 1000000 && ok halfN 60 504 && ok halfS 60 504 then
      .now .ok [] [] (((s.modCap (fun c => { c with module := pick module c.module, package := pick package c.package })).modHalf 0
        (fun x => { x with iLim := pick halfN x.iLim })).modHalf 1 (fun x => { x with iLim := pick halfS x.iLim }))
    else .now .cmdIllegal [] [] s) s

/-- STEP_LIMIT (19 R512). -/
def execStepLimit (h : CmdHdr) (min max : Nat) (s : State) : Res :=
  gwCommand (.stepLimit h min max) h 0x0206 false 0 objDevice (fun s =>
    if min ≤ max ∧ max ≤ 7 then .now .ok [] [] (s.modCap (fun c => { c with stepMin := min, stepMax := max }))
    else .now .cmdIllegal [] [] s) s

/-! ENERGY_REPORT (19 R524 to R528). -/

/-- A record of an interval: `k` is its place in the interval's job list, in eights (19, Table 19.5). -/
def energyRec (v : Interval) (k : Nat) : List Byte :=
  let here := (v.jobs.drop (8 * k)).take 8
  leBytes 8 v.start ++ leBytes 8 v.stop ++ leBytes 8 (if k = 0 then v.energy else 0) ++ leBytes 2 (sat 16 v.jobs.length)
    ++ leBytes 1 here.length ++ leBytes 1 (if k = 0 then 0 else 1) ++ leBytes 4 0
    ++ (here ++ List.replicate (8 - here.length) 0xFFFFFFFF).flatMap (leBytes 4)

/-- The intervals a report lists: those that end after FROM; for a named job, the shared ones that include it (19 R528). -/
def energyPick (s : State) (job start : Nat) : List Interval :=
  s.cap.intervals.filter (fun v => decide (start < v.stop)
    && (job == 0xFFFFFFFF || (decide (2 ≤ v.jobs.length) && v.jobs.contains job)))

/-- The records of the report: end tick of the interval, bytes. -/
def energyRecs (s : State) (job start : Nat) : List (Nat × List Byte) :=
  (energyPick s job start).flatMap (fun v => (List.range (entriesOf v)).map (fun k => (v.stop, energyRec v k)))

/-- Records that RESMAX holds beside the header (19 R528). -/
def energyFit (s : State) (job start resmax : Nat) : List (Nat × List Byte) := (energyRecs s job start).take ((resmax - 64) / 64)

/-- The header (19, Table 19.4). TOTAL has no stated value when FROM falls inside an interval: a free value (log 11). -/
def energyHeader (s : State) (job start resmax : Nat) : List Byte :=
  let fit := energyFit s job start resmax
  let more := decide (fit.length < (energyRecs s job start).length)
  let trunc := s.cap.intervals.head?.any (fun v => decide (start < v.start))
  let frm := if trunc then ((s.cap.intervals.head?).map (·.start)).getD start else start
  let till := if more then ((fit.getLast?).map (·.1)).getD frm else s.tb / 50000 * 50000
  let inside := s.cap.intervals.filter (fun v => decide (frm ≤ v.start) && decide (v.stop ≤ till))
  let cut := s.cap.intervals.any (fun v => decide (v.start < frm) && decide (frm < v.stop))
  let sum (l : List Interval) : Nat := (l.map (·.energy)).sum
  leBytes 8 frm ++ leBytes 8 till ++ leBytes 4 job ++ leBytes 2 fit.length ++ leBytes 1 (b2n trunc + 2 * b2n more)
    ++ leBytes 1 (s.clk.cur + 16 * s.cap.ceiling) ++ leBytes 8 (if job = 0xFFFFFFFF then 0 else sum (inside.filter (fun v => v.jobs == [job])))
    ++ leBytes 8 (if cut then Config.freeNat s.fresh else sum inside) ++ leBytes 8 s.cap.meter ++ leBytes 4 (moduleLimit s)
    ++ leBytes 4 s.cap.package ++ leBytes 1 s.cap.limit ++ leBytes 7 0

/-- ENERGY_REPORT (19 R528). -/
def execEnergyReport (h : CmdHdr) (job start : Nat) (s : State) : Res :=
  gwCommand (.energyReport h job start) h 0x0207 false (max 128 (64 + 64 * (energyFit s job start h.resmax).length)) objDevice (fun s =>
    .now .ok [] (energyHeader s job start h.resmax ++ (energyFit s job start h.resmax).flatMap (·.2)) (s.modFresh (· + 1))) s

/-! Power groups (19 R529, R533). -/

/-- POWER_GROUP join (19 R529). -/
def groupJoin (group budget : Nat) (s : State) : Done :=
  if budget < 200000 ∨ 1400000 < budget then .now .cmdIllegal [] [] s
  else if s.cap.group.isSome then .now .unitBusy [] [] s
  else if s.fab.epBase = none then .now .fabNoEndpoint [] [] s
  else .now .ok [] [] (s.modCap (fun c => { c with group := some group, share := budget, roster := [], seenTseq := [], grants := [] }))

/-- POWER_GROUP leave and reconcile (19 R529, R532, R533). -/
def groupLeave (group budget : Nat) (s : State) : Done :=
  if budget ≠ 0 then .now .cmdIllegal [] [] s
  else if s.cap.group ≠ some group then .now .unitBusy [] [] s
  else .now .ok [] [] (s.modCap (fun c => { c with group := none, share := 0, roster := [], grants := [] }))
def groupReconcile (group budget : Nat) (s : State) : Done :=
  if s.cap.group ≠ some group then .now .unitBusy [] [] s
  else .now .ok [] [] (s.modCap (fun c => { c with share := budget, reconTb := some s.tb, reconCount := c.reconCount + 1 }))

/-- POWER_GROUP (19 R529): 0 join, 1 leave, 2 reconcile. -/
def execPowerGroup (h : CmdHdr) (op group budget : Nat) (s : State) : Res :=
  gwCommand (.powerGroup h op group budget) h 0x0208 true 0 objGroup (fun s =>
    match op with
    | 0 => groupJoin group budget s
    | 1 => groupLeave group budget s
    | 2 => groupReconcile group budget s
    | _ => .now .cmdIllegal [] [] s) s

/-- WATCHDOG (10 R258): the period of a bound Primrose slot; the command reaches the row, which it wakes (04 R105). -/
def execWatchdog (h : CmdHdr) (r slot period : Nat) (s : State) : Res :=
  gwCommand (.watchdog h r slot period) h 0x0209 false 0 (objRow r) (fun s =>
    if 12 ≤ r ∨ 8 ≤ slot ∨ period < 50 ∨ 500000 < period then .now .cmdIllegal [] [] s
    else if rowIsOut s r ∨ prmPos s r slot = none then .now .unitRetired [] [] s
    else if rowIsDark s r then .now .rowDark [] [] s
    else .now .ok [] [] ((wakeRow r s).modCore r slot (fun c => { c with period := period }))) s

end Sys2Proof.Machine
end

