-- ==== Sys2Proof/Machine/RecovOps.lean ====
section
/-! DEFINITION. Positions and slots at run time: rebinding, halting by Gwynpin, reset and restore, pairs (17 R475 to R481; 18
R492 to R498). -/

namespace Sys2Proof.Machine

/-! Chains of positions: the Aster one (true) and the Primrose one of a row. -/

def chainLen (ast : Bool) : Nat := if ast then 5 else 10
/-- The place of a chain's first position among the SKIP_OK bits (05, Table 5.7). -/
def chainOff (ast : Bool) : Nat := if ast then 0 else 5
def DRow.chain (d : DRow) (ast : Bool) : List PosState := if ast then d.ast else d.prm
def DRow.slots (d : DRow) (ast : Bool) : List (Option Nat) := if ast then d.astSlots else d.prmSlots
def DRow.setChain (d : DRow) (ast : Bool) (l : List PosState) (sl : List (Option Nat)) : DRow :=
  if ast then { d with ast := l, astSlots := sl } else { d with prm := l, prmSlots := sl }

def uAster (u : Nat) : Bool := uClass u == 1
def posUnit (ast : Bool) (r p : Nat) : Nat := if ast then uAst r p else uPrm r p

/-- The state of a position; the slot bound to it. -/
def posState (s : State) (ast : Bool) (r p : Nat) : PosState := ((s.drow r).chain ast).getD p .lost
def posSlot (s : State) (ast : Bool) (r p : Nat) : Option Nat :=
  (List.range ((s.drow r).slots ast).length).find? (fun t => nth ((s.drow r).slots ast) t == some p)
def slotPos (s : State) (ast : Bool) (r t : Nat) : Option Nat := nth ((s.drow r).slots ast) t

/-- A position's state changes, and with it the map (05 R139). -/
def setPos (ast : Bool) (r p : Nat) (x : PosState) (s : State) : State :=
  s.modDRow r (fun d => d.setChain ast ((d.chain ast).set p x) (d.slots ast))

def posBad (x : PosState) : Bool := [PosState.badFuse, .badTest, .badRuntime].contains x

/-- The positions after R129: from a cut on, those that would be good are LOST. -/
def cutChain (d : DRow) (ast : Bool) : List PosState :=
  let l := d.chain ast
  let cut := chainCut (chainLen ast) (fun i => posBad (nth l i)) (fun i => !nth d.skipOk (chainOff ast + i))
  l.mapIdx (fun i x => if cut.any (fun c => decide (c ≤ i)) && [PosState.active, .spare, .inTest].contains x then .lost else x)

/-- The binding after a loss (17 R479, R480): a slot whose position is gone moves to the westmost SPARE position, or is
unbound; every other one keeps its position. -/
def rebindSlots (l : List PosState) (sl : List (Option Nat)) : List (Option Nat) × List PosState :=
  sl.foldl (fun (p : List (Option Nat) × List PosState) o =>
    match o with
    | none => (p.1 ++ [none], p.2)
    | some i =>
      if [PosState.active, .inTest].contains (nth p.2 i) then (p.1 ++ [o], p.2)
      else match (List.range l.length).find? (fun k => nth p.2 k == .spare) with
        | some k => (p.1 ++ [some k], p.2.set k .active)
        | none => (p.1 ++ [none], p.2)) ([], l)

/-- A chain after a position or skip link went bad (05 R129, R131; 17 R479, R480). -/
def fixChain (ast : Bool) (r : Nat) (s : State) : State :=
  let d := s.drow r
  let p := rebindSlots (cutChain d ast) (d.slots ast)
  if p.2 = d.chain ast ∧ p.1 = d.slots ast then s else s.modDRow r (fun d => d.setChain ast p.2 p.1)

/-- A row that has become OUT at run time is held in OFF (05 R131; 04 R108; 17 R482). -/
def rowOutCheck (r : Nat) (s : State) : State :=
  let d := s.drow r
  if !rowIsDark s r && !rowIsOut s r && (d.prmSlots.all (· == none) || d.dmaOk.all (· == false)) then
    let gone (l : List PosState) : List PosState := l.map (fun x => if [PosState.active, .spare, .inTest].contains x then .lost else x)
    let s := s.modRow r (fun w => { w with rowOut := true })
    let s := s.modDRow r (fun d => { d with ast := gone d.ast, prm := gone d.prm, astSlots := List.replicate 4 none, prmSlots := List.replicate 8 none })
    errRecord { code := .rowOut, unit := uRow r, op := 0x13, platform := true, leaf := .ev 6 0, action := 5 }
      (classUpdate r (rowPowerFail r .unitRetired (offNow r s)))
  else classUpdate r s

/-! Halting by Gwynpin, without a record of its own (17 R476; 18 R495). -/

/-- A tile that works enters HALTED; an EMPTY or halted one stays as it is. -/
def stopTile (r t : Nat) (s : State) : State :=
  if (s.tile r t).halted || !tileBusy (s.tile r t) then s
  else (s.modRow r (fun w => { w with scbPend := w.scbPend.filter (fun q => q.owner != ownAst t) })).modTile r t
    (fun x => { x with halted := true, fault := Code.unitRetired.val, fwordF := 0xFFFF, run := none })

/-- A core that runs or waits halts. -/
def stopCore (r c : Nat) (s : State) : State :=
  if (s.core r c).st = .halted ∨ (s.core r c).st = .reset then s
  else (s.modRow r (fun w => { w with scbPend := w.scbPend.filter (·.owner != ownPrm c) })).modCore r c
    (fun x => { x with st := .halted, hcode := Code.unitRetired.val, wait := none, mem := none })

/-- A halted slot is to be restored (18 R492). -/
def addRecovery (x : Recovery) (s : State) : State :=
  s.modGw (fun g => { g with recovering := g.recovering.filter (fun y => !(y.ast == x.ast && y.row == x.row && y.slot == x.slot)) ++ [x] })

/-- The other slot of a pair. -/
def partner (t : Nat) : Nat := if t % 2 = 0 then t + 1 else t - 1

/-- A slot stops for a test; the members of a pair run one stream and stop together, the other one being restored with it. -/
def stopSlot (ast : Bool) (r t : Nat) (s : State) : State :=
  if ast = false then stopCore r t s
  else if (s.tile r t).paired = false then stopTile r t s
  else
    let p := partner t
    let was := (s.tile r p).halted
    let s := stopTile r p (stopTile r t s)
    if was = false ∧ (s.tile r p).halted = true then
      addRecovery { ast := true, row := r, slot := p, unit := uAst r ((astPos s r p).getD p), outcome := .none, recNo := 0 } s
    else s

/-- A slot's unit is HALTED. -/
def slotHalted (s : State) (ast : Bool) (r t : Nat) : Bool := if ast then (s.tile r t).halted else (s.core r t).st == .halted

/-- HALTED, or EMPTY or RESET (17, Table 17.7). -/
def slotQuiet (s : State) (ast : Bool) (r t : Nat) : Bool :=
  if ast then (s.tile r t).halted || !tileBusy (s.tile r t) else (s.core r t).st == .halted || (s.core r t).st == .reset

/-! Programs of a row. -/

/-- The program that a slot belongs to. -/
def progOfCore (s : State) (r c : Nat) : Option Prog := (s.row r).progs.find? (fun p => p.prm.contains c)

/-- Grants a slot the read reservation over its programs' regions (08 R200; 16 R448). -/
def regionResv (r t : Nat) (s : State) : State :=
  s.modRow r (fun w => (w.progs.filter (fun p => p.aster.contains t)).foldl (fun w p =>
    scbEnter s.tb { owner := ownAst t, ranges := [regionRange p.region p.units], tb := s.tb } w) w)

/-- A core starts at DEST: the state of a hart reset, its code in local memory, its watchdog at PERIOD (10 Table 10.1, R258;
16 R448). -/
def startCore (r c entry prog : Nat) (code : List Byte) (s : State) : State :=
  s.modCore r c (fun x => { coreLost x with lmem := x.lmem, st := .running, pc := BitVec.ofNat 64 entry, prog := some prog,
                                            wdAt := s.tb + 1000 * x.period, fetchOut := x.fetchOut }.lwrite entry code)

/-- The image of a loaded program can be read and is unchanged (18 R495, R496). -/
def imageWhole (s : State) (p : Prog) : Bool :=
  accessCode s false p.src p.len == .ok && imgCrcRight (memRead s p.src p.len) && field (memRead s p.src p.len) 0x3C 4 == p.crc

/-- A Primrose slot restored (18 R495): reset, and started from its program's image; with a wrong CRC it stays in RESET. -/
def restoreCore (r c relrec : Nat) (s : State) : State :=
  let s := s.modCore r c (fun x => { coreLost x with lmem := x.lmem, fetchOut := x.fetchOut })
  match progOfCore s r c with
  | none => s
  | some p =>
    let img := memRead s p.src p.len
    if imageWhole s p then
      match (prmSections img).find? (fun x => x.slot == c) with
      | some x => startCore r c x.dest p.num (x.data img) s
      | none => s
    else errRecord { code := .progImageBad, unit := uPrm r ((prmPos s r c).getD c), op := 0x13, relrec := relrec } s

/-- A tile reset (18 R494): EMPTY, pane mode 0, no weight sets, panes in their reset state; FAULT stays. -/
def resetTile (x : Tile) : Tile :=
  { fault := x.fault, fwordF := x.fwordF, pcode := x.pcode, pushRefused := x.pushRefused, runRefused := x.runRefused,
    pushLow := x.pushLow, planesRun := x.planesRun, planesSkip := x.planesSkip, taint := x.taint, taintBad := x.taintBad }

/-- A member of a pair restored from the survivor (18 R494): weight sets, stores and pane settings stay. -/
def pairTile (x : Tile) : Tile :=
  { resetTile x with mode := x.mode, wsets := x.wsets, planes := x.planes, scales := x.scales, paired := true
                     panes := x.panes.map (fun p => { p with chain := none }) }

/-- A pair stops being one (17 R481): its slots halt with FAULT UNIT_RETIRED, a halt of its own being recorded. -/
def dissolvePair (r pair : Nat) (s : State) : State :=
  let s := (pairAbandon r pair s).modRow r (fun w => { w with pairs := w.pairs.set pair {} })
  each [2 * pair, 2 * pair + 1] (fun t s =>
    let was := (s.tile r t).halted
    let s := s.modTile r t (fun x => { x with paired := false, fault := Code.unitRetired.val })
    if was || (astPos s r t).isNone then s.modTile r t (fun x => { x with halted := true, run := none })
    else haltOne r t .unitRetired 0xFFFF 3 0 s) s

/-- A pair forms, its sequence from 1 (17 R458). -/
def formPair (r pair : Nat) (s : State) : State :=
  let s := s.modRow r (fun w => { w with pairs := w.pairs.set pair { formed := true, seq := 1, done := 0 } })
  mirror r (2 * pair) ((s.modTile r (2 * pair) (fun x => { x with paired := true })).modTile r (2 * pair + 1) (fun x => { x with paired := true }))

end Sys2Proof.Machine
end

