-- ==== Sys2Proof/Machine/TestOps.lean ====
section
/-! DEFINITION. Targeted tests: placing a unit, its needs, the outcome and what follows (17 R475 to R481; 18 R499). -/

namespace Sys2Proof.Machine

def outcomeCode : TestOutcome → Nat
  | .none => 0 | .transient => 1 | .lasting => 2 | .untestable => 3 | .pass => 4

def State.test (s : State) (u : Nat) : Option Test := s.gw.tests.find? (·.unit == u)
def State.modTest (s : State) (u : Nat) (f : Test → Test) : State :=
  s.modGw (fun g => { g with tests := g.tests.map (fun t => if t.unit = u then f t else t) })

/-- Queues a test of a unit, unless one is queued or running (17 R475). -/
def queueTest (u recNo : Nat) (was : PosState) (s : State) : State :=
  if (s.test u).isSome then s
  else s.modGw (fun g => { g with tests := g.tests ++ [{ unit := u, recNo := recNo, since := s.tb, wasSt := was }] })

/-- The SKIP_OK place of a skip link, and its chain (05, Tables 5.4 and 5.7). -/
def skipIdx (u : Nat) : Nat := if uIdx u < 16 then uIdx u else uIdx u - 11
def skipAst (u : Nat) : Bool := decide (uIdx u < 16)
/-- The positions beside the one that a skip link passes round. -/
def skipSides (u : Nat) : List Nat :=
  let i := if skipAst u then uIdx u else uIdx u - 16
  (if 0 < i then [i - 1] else []) ++ (if i + 1 < chainLen (skipAst u) then [i + 1] else [])

/-- Classes whose unit lies in a row. -/
def inRow (u : Nat) : Bool := [1, 2, 3, 4, 5, 0xE].contains (uClass u) && decide (uRowOf u < 12)

/-- Gwynpin places the unit in the state its test needs (17 R476). -/
def placeUnit (u : Nat) (s : State) : State :=
  let r := uRowOf u
  let i := uIdx u
  let s := if inRow u then wakeRow r s else s
  match uClass u with
  | 1 | 2 => match posSlot s (uAster u) r i with
    | some t => stopSlot (uAster u) r t s
    | none => s
  | 3 => s.modBank r i (fun b => { b with inTest := true })
  | 0xE => each (skipSides u) (fun p s => match posSlot s (skipAst u) r p with
    | some t => stopSlot (skipAst u) r t s
    | none => s) s
  | 0xD => s.modGw (fun g => { g with mc := g.mc.modify i (fun m => if m == .standby then .reset else m) })
  | 0xF => s.modFab (fun f => { f with ucie := f.ucie.modify i (fun m => { m with up := false }) })
  | _ => s

/-- A row with no work (17, Table 17.7). -/
def rowQuiet (s : State) (r : Nat) : Bool :=
  let w := s.row r
  rowRuns s r && banksUp s r && w.tiles.all (fun t => !tileBusy t) && w.cores.all (fun c => c.st == .reset || c.st == .halted)
    && w.dma.all (·.queue.isEmpty) && w.scbPend.isEmpty

/-- The needs of a unit's test are met (17, Table 17.7). -/
def testNeeds (s : State) (u : Nat) : Bool :=
  let r := uRowOf u
  let i := uIdx u
  match uClass u with
  | 1 | 2 => rowRuns s r && (match posSlot s (uAster u) r i with | some t => slotQuiet s (uAster u) r t | none => true)
  | 3 => rowRuns s r && !bankUsed (s.row r) i
  | 4 => rowRuns s r && (s.dmaE r i).queue.isEmpty
  | 5 => rowQuiet s r
  | 6 | 7 => true
  | 9 => !(s.card (i / 4)).noWrites && ((s.card (i / 4)).st == .inService || (s.card (i / 4)).st == .degraded)
  | 0xB => (s.port (i / 9)).outLane == some (i % 9)
  | 0xD => s.gw.running != some i && (nth s.gw.mc i == .reset || nth s.gw.mc i == .failed)
  | 0xE => rowRuns s r && (skipSides u).all (fun p => match posSlot s (skipAst u) r p with
      | some t => slotQuiet s (skipAst u) r t | none => true)
  | 0xF => !(nth s.fab.ucie i).up
  | _ => false

/-- The test of an EMPTY tile leaves open values in its stores; that of a core loses the local memory (17, Table 17.7; log 11). -/
def spoilSlot (ast : Bool) (r t : Nat) (s : State) : State :=
  if ast then
    let x := s.tile r t
    if x.halted then s
    else
      let open_ (k : Nat) (l : List (Nat × List Byte)) : List (Nat × List Byte) :=
        l.mapIdx (fun i p => (p.1, leBytes p.2.length (Config.freeNat (k + i))))
      (s.modTile r t (fun x => { x with planes := open_ s.fresh x.planes, scales := open_ (s.fresh + x.planes.length) x.scales })).modFresh
        (· + x.planes.length + x.scales.length)
  else s.modCore r t (fun x => { x with lmem := [] })

/-- The test begins; a position's state is IN_TEST while it runs (17 R475). -/
def beginTest (u : Nat) (s : State) : State :=
  let r := uRowOf u
  let p := uIdx u
  let was := posState s (uAster u) r p
  let s := s.modTest u (fun t => { t with running := true, wasSt := if (uClass u = 1 ∨ uClass u = 2) ∧ was ≠ .inTest then was else t.wasSt })
  if uClass u = 1 ∨ uClass u = 2 then
    let s := setPos (uAster u) r p .inTest s
    match posSlot s (uAster u) r p with
    | some t => spoilSlot (uAster u) r t s
    | none => s
  else s

/-- Places a unit and, where its needs are met, starts its test. -/
def tryTest (u : Nat) (s : State) : State :=
  let s := placeUnit u (s.modTest u (fun t => { t with placed := some (t.placed.getD s.tb) }))
  if testNeeds s u then beginTest u s else s

/-! Outcomes. -/

/-- The passes of a unit within 2^32 ticks (17 R477). -/
def passTicks (s : State) (u : Nat) : List Nat := ((mget s.gw.passes u).getD []).filter (fun t => decide (s.tb < t + 2 ^ 32))

/-- The outcome of a test that ended, and the passes counted (17 R477, R478): PASS where no record was pending on the unit. -/
def testOutcome (x : Test) (pass : Bool) (s : State) : TestOutcome × State :=
  if pass = false then (.lasting, s)
  else
    let l := passTicks s x.unit ++ [s.tb]
    (if x.recNo = 0 then .pass else if 3 ≤ l.length then .lasting else .transient, s.modGw (fun g => { g with passes := mset g.passes x.unit l }))

/-- The record of a test (17 R474, R475, R477): a runtime defect on the platform path, otherwise code OK; a slot's own follows
at the end of its recovery (18 R492). -/
def testRecord (x : Test) (o : TestOutcome) (action : Nat) (defect recovers : Bool) (s : State) : State :=
  let lasting := o == .lasting
  if defect then
    let d := s.draw
    errRecord { code := .defectNew, unit := x.unit, op := 0x13, platform := true, leaf := .ev 6 0, outcome := o, action := action
                detail := d.1 % 2 ^ 32, relrec := x.recNo } d.2
  else if recovers then s
  else errRecord { code := .ok, unit := x.unit, op := 0x13, platform := lasting, leaf := .ev 6 0, outcome := o, action := action, relrec := x.recNo } s

/-- A unit that stays bad at the next bring-up (05 R141). -/
def carry (u : Nat) (s : State) : State := s.modBoot (fun b => { b with carried := b.carried.filter (·.1 != u) ++ [(u, s.tb % 2 ^ 32)] })

/-- The test ends: it leaves the list, and SELF_TEST completes with its OUTCOME (17 R478). -/
def testGone (u : Nat) (o : TestOutcome) (s : State) : State :=
  completeWait wTest u .ok (leBytes 1 (outcomeCode o)) [] (s.modGw (fun g => { g with tests := g.tests.filter (·.unit != u) }))

/-- Slots of a chain, other than one, whose position was lost: each halts, and is restored where it has a new one (17 R479,
R480). -/
def movedSlots (ast : Bool) (r : Nat) (old : List (Option Nat)) (but : Option Nat) (s : State) : State :=
  each ((List.range old.length).filter (fun t => some t != but && nth old t != slotPos s ast r t)) (fun t s =>
    addRecovery { ast := ast, row := r, slot := t, unit := posUnit ast r ((nth old t).getD 0), outcome := .lasting
                  action := if (slotPos s ast r t).isSome then 2 else 3, recNo := 0 }
      (if ast then s.modTile r t (fun x => { x with halted := true, run := none, fault := if x.halted then x.fault else Code.unitRetired.val })
       else stopCore r t s)) s

/-- A pair of which a member has no position any more stops being one (17 R481). -/
def pairCheck (r : Nat) (s : State) : State :=
  each [0, 1] (fun k s =>
    if (s.tile r (2 * k)).paired && ((astPos s r (2 * k)).isNone || (astPos s r (2 * k + 1)).isNone) then dissolvePair r k s else s) s

/-- The end of a position's test (17 R477, R479 to R481; 18 R499). -/
def endPos (x : Test) (o : TestOutcome) (s : State) : State :=
  let ast := uAster x.unit
  let r := uRowOf x.unit
  let p := uIdx x.unit
  let slot := posSlot s ast r p
  let old := (s.drow r).slots ast
  let halted := slot.any (slotHalted s ast r)
  let bad := o == .lasting
  let defect := bad && [PosState.active, .spare, .lost].contains x.wasSt
  let s := setPos ast r p (if defect then .badRuntime else x.wasSt) s
  let s := if defect then carry x.unit s else s
  let s := fixChain ast r s
  let now := slot.bind (slotPos s ast r)
  let action := if bad = false then 0 else match slot with
    | some _ => if now.isSome then 2 else 3
    | none => 5
  let s := movedSlots ast r old slot s
  let s := match slot with
    | some t => if halted || bad then
        addRecovery { ast := ast, row := r, slot := t, unit := x.unit, outcome := o, action := action, recNo := x.recNo }
          (if bad && !halted then (if ast then s.modTile r t (fun y => { y with halted := true, fault := Code.unitRetired.val })
                                   else stopCore r t s) else s)
      else completeWait wRecover x.unit .ok [] [] s
    | none => completeWait wRecover x.unit .unitRetired [] [] s
  rowOutCheck r (pairCheck r (testRecord x o action defect (slot.isSome && (halted || bad)) s))

/-- The end of a bank's test (17 R477): back in service, or RETIRED; a binding whose range touches it halts (17 R483). -/
def endBank (x : Test) (o : TestOutcome) (s : State) : State :=
  let r := uRowOf x.unit
  let b := uIdx x.unit
  let s := s.modBank r b (fun k => { k with inTest := false, idleSince := s.tb, tIdle := (s.row r).tBank })
  if o = .lasting ∧ (s.bank r b).st ≠ .retired then
    let s := (dropCells (bankKey r b) (s.modBank r b (fun _ => { st := .retired }))).modDRow r (fun d => { d with bankOk := d.bankOk.set b false })
    let s := s.modFab (fun f => { f with bindings := f.bindings.map (fun p =>
      if p.2.row = r ∧ (sendLines p.2).any (fun g => (banksOf g.1 (g.2 / 8)).contains b) = true then (p.1, { p.2 with halted := true }) else p) })
    classUpdate r (testRecord x o 4 true false (carry x.unit s))
  else testRecord x o (if o = .lasting then 4 else 0) false false s

/-- The end of a skip link's test (17 R477; 05 R129); the neighbours halted for it are restored. -/
def endSkip (x : Test) (o : TestOutcome) (s : State) : State :=
  let ast := skipAst x.unit
  let r := uRowOf x.unit
  let old := (s.drow r).slots ast
  let bad := o == .lasting && nth (s.drow r).skipOk (skipIdx x.unit)
  let s := if bad then (s.modDRow r (fun d => { d with skipOk := d.skipOk.set (skipIdx x.unit) false })) else s
  let s := movedSlots ast r old none (if bad then fixChain ast r s else s)
  let s := each (skipSides x.unit) (fun p s => match posSlot s ast r p with
    | some t => if slotHalted s ast r t && (s.test (posUnit ast r p)).isNone then
        addRecovery { ast := ast, row := r, slot := t, unit := posUnit ast r p, outcome := .none, recNo := 0 } s else s
    | none => s) s
  rowOutCheck r (pairCheck r (testRecord x o (if o = .lasting then 5 else 0) bad false s))

/-- The end of a DMA engine's test: a LASTING one leaves service (05 R131; log 62). -/
def endDma (x : Test) (o : TestOutcome) (s : State) : State :=
  let r := uRowOf x.unit
  let bad := o == .lasting && nth (s.drow r).dmaOk (uIdx x.unit)
  let s := if bad then (s.modDRow r (fun d => { d with dmaOk := d.dmaOk.set (uIdx x.unit) false })) else s
  rowOutCheck r (testRecord x o (if o = .lasting then 5 else 0) bad false s)

/-- The end of a row's test after a retry (03 R82; 17, Table 17.7): BU3 and BU4 on the row. -/
def endRow (x : Test) (rt : RowTest) (badBanks : List Nat) (s : State) : TestOutcome × State :=
  let r := uRowOf x.unit
  let (d, fs, out) := bu3Row s r rt
  let bad := badBanks.filter (fun b => decide (b < 40) && nth d.bankOk b)
  let s := (s.modDRow r (fun _ => { d with bankOk := d.bankOk.mapIdx (fun b ok => ok && !bad.contains b) })).modFresh (· + 768)
  let s := s.modRow r (fun w => { w with
    progs := [], prov := [], scb := [], scbPend := [], pairs := [{}, {}], tiles := w.tiles.map (fun _ => {}), cores := w.cores.map coreLost
    banks := w.banks.mapIdx (fun b k => if nth d.bankOk b && !bad.contains b then k else { st := .retired }) })
  let s := classUpdate r (dropCells (rowKey r) s)
  let s := defectRecords (fs ++ bad.map (fun b => finding s .defectNew (uBank r b) (Config.freeNat s.fresh))) (s.modFresh (· + 1))
  let o : TestOutcome := if out then .lasting else if x.recNo = 0 then .pass else .transient
  let s := if out then offNow r (s.modRow r (fun w => { w with rowOut := true })) else s
  (o, testRecord x o (if out then 5 else if d.cls = .degraded ∨ bad ≠ [] then 3 else 0) false false s)

/-- The end of the test of a UCIe module, lane or management core (17 R477; 18 R503). -/
def endOther (x : Test) (o : TestOutcome) (s : State) : State :=
  let i := uIdx x.unit
  let bad := o == .lasting
  let s := match uClass x.unit with
    | 0xF => if bad then s else s.modFab (fun f => { f with ucie := f.ucie.modify i (fun _ => { up := true }) })
    | 0xB => if bad then mapPort (i / 9) (s.modPort (i / 9) (fun q => { q with outLane := none, laneOk := q.laneOk &&& ~~~(BitVec.ofNat 9 (2 ^ (i % 9))) })) else s
    | 0xD =>
      if bad then (s.modGw (fun g => { g with mc := g.mc.set i .failed })).modDmapE (fun d => if i = 0 then { d with mc0 := false } else { d with mc1 := false })
      else s.modGw (fun g => { g with mc := g.mc.set i .standby })
    | _ => s
  testRecord x o (if bad then (if uClass x.unit = 6 ∨ uClass x.unit = 7 ∨ uClass x.unit = 9 then 0 else 5) else 0)
    (bad && [0xB, 0xD, 0xF].contains (uClass x.unit)) false s

/-- A test ends with an outcome (17 R477 to R481). -/
def endTest (x : Test) (o : TestOutcome) (s : State) : State :=
  testGone x.unit o (match uClass x.unit with
    | 1 | 2 => endPos x o s
    | 3 => endBank x o s
    | 4 => endDma x o s
    | 0xE => endSkip x o s
    | _ => endOther x o s)

end Sys2Proof.Machine
end

