-- ==== Sys2Proof/Machine/GwProg.lean ====
section
/-! DEFINITION. Rows 190 to 192: the commands for programs and self-test (16, Table 16.6, R447, R448; 08 R201; 17 R478). -/

namespace Sys2Proof.Machine

/-! PROGRAM_LOAD (16 R448). -/

/-- A section names an unbound slot or a retired bank. -/
def loadRetired (s : State) (r region units : Nat) (img : List Byte) : Bool :=
  rowIsOut s r || (astSlotsOf img).any (fun t => (astPos s r t).isNone) || (prmSlotsOf img).any (fun c => (prmPos s r c).isNone)
    || (loadBanks region units img).any (fun b => (s.bank r b).st == .retired)

/-- A GROUP word with NCOL > 0 on a variant without a Witness unit (00 R8). -/
def loadAbsent (s : State) (img : List Byte) : Bool :=
  !hasWitness s && (imgWords img).any (fun w => opcOf w == 5 && wf w 17 5 != 0)

/-- The code of Table 8.3 for the first Aster word that breaks it. -/
def loadStatic (s : State) (r : Nat) (img : List Byte) : Code :=
  ((imgWords img).map (astStatic s r)).find? (· != .ok) |>.getD .ok

/-- The Aster slots that run: with PAIRED each leader brings its follower. -/
def loadSlots (paired : Bool) (img : List Byte) : List Nat :=
  if paired then ((astSlotsOf img).flatMap (fun t => [t / 2 * 2, t / 2 * 2 + 1])).eraseDups else astSlotsOf img

/-- The words do not fit the region, or a pair lacks a bound member (07 R194). -/
def loadShort (s : State) (r units : Nat) (paired : Bool) (img : List Byte) : Bool :=
  (astSections img).any (fun x => decide (64 * units < x.dest + x.len / 16))
    || (paired && (loadSlots true img).any (fun t => (astPos s r t).isNone))

/-- PROG is loaded, a Primrose slot belongs to another program, or an Aster slot is not EMPTY. -/
def loadBusy (s : State) (r prog : Nat) (paired : Bool) (img : List Byte) : Bool :=
  (s.row r).progs.any (·.num == prog) || (prmSlotsOf img).any (fun c => (progOfCore s r c).isSome)
    || (loadSlots paired img).any (fun t => (s.tile r t).halted || tileBusy (s.tile r t))

/-- The refusal of a load whose header fields are legal (log 60). -/
def loadCode (s : State) (r prog : Nat) (paired : Bool) (region units src len : Nat) : Code :=
  let img := memRead s src len
  if extentClaimed s src (max len 1) = false then .memUnclaimed
  else if accessCode s false src len ≠ .ok then accessCode s false src len
  else if imageBad img then .progImageBad
  else if loadRetired s r region units img then .unitRetired
  else if rowIsDark s r then .rowDark
  else if loadAbsent s img then .unitAbsent
  else if loadStatic s r img ≠ .ok then loadStatic s r img
  else if loadShort s r units paired img then .capacityShort
  else if loadBusy s r prog paired img then .unitBusy
  else if paired && (astSlotsOf img).any (fun t => t % 2 == 1) then .cmdIllegal
  else .ok

/-- What the state of the region's and the data's banks and reservations refuses. -/
def loadBankCode (s : State) (r region units : Nat) (img : List Byte) : Code :=
  let w := s.row r
  if (loadBanks region units img).any (fun b => (nth w.banks b).st == .off || ((nth w.banks b).st == .entering && (nth w.banks b).toOff)) then .bankAsleep
  else if (astSlotsOf img).any (fun t => scbVerdict w w.scbPend { owner := ownAst t, ranges := [regionRange region units] } == .refuse .resvOverlap)
    then .resvOverlap
  else .ok

/-- The sections are written: data lines, and Aster words from DEST of the region. -/
def loadWrite (r region : Nat) (img : List Byte) (s : State) : State :=
  each (dataSections img) (fun x s => memWrite s (lnAddr r x.dest) (x.data img))
    (each (astSections img) (fun x s => memWrite s (lnAddr r region + 16 * x.dest) (x.data img)) s)

/-- The effect of an accepted load: sections, reservations, pairs, and the Primrose slots reset and started (16 R448; 21,
Table 21.5). -/
def loadGo (r prog : Nat) (paired : Bool) (region units src len : Nat) (s : State) : State :=
  let img := memRead s src len
  let s := loadWrite r region img s
  let p : Prog := { num := prog, region := region, units := units, aster := astSlotsOf img, prm := prmSlotsOf img, paired := paired
                    words := (imgWords img).length, crc := field img 0x3C 4, gen := (s.row r).progGen + 1, src := src, len := len }
  let s := s.modRow r (fun w => { w with progs := w.progs ++ [p], progGen := w.progGen + 1, endsWork := false })
  let s := each (astSlotsOf img) (fun t s => s.modRow r (scbEnter s.tb { owner := ownAst t, ranges := [regionRange region units], tb := s.tb })) s
  let s := if paired then each (astSlotsOf img) (fun t => formPair r (t / 2)) s else s
  let s := each (prmSections img) (fun x => startCore r x.slot x.dest prog (x.data img)) s
  measure 0x06 (r + 256 * prog) (field img 0x3C 4) (Config.shake256 img) s

/-- PROGRAM_LOAD (16 R447, R448). -/
def execProgramLoad (h : CmdHdr) (r prog flags region units src len : Nat) (s : State) : Res :=
  gwCommand (.programLoad h r prog flags region units src len) h 0x0301 false 0 (objProg r prog) (fun s =>
    if 12 ≤ r ∨ 1 < flags ∨ region % 8 ≠ 0 ∨ units = 0 ∨ 4095 < units ∨ 1310720 < region + 16 * units then .now .cmdIllegal [] [] s
    else match loadCode s r prog (flags == 1) region units src len with
      | .ok =>
        if rowRuns s r = false ∨ banksUp s r = false then .hold (wakeRow r s)
        else match loadBankCode s r region units (memRead s src len) with
          | .ok =>
            if loadWaits (s.row r) region units (memRead s src len) then
              .hold ((wakeRow r s).modRow r (wakeBanks (loadBanks region units (memRead s src len))))
            else .now .ok [] [] (loadGo r prog (flags == 1) region units src len (wakeRow r s))
          | c => .now c [] [] s
      | c => .now c [] [] s) s

/-! PROGRAM_UNLOAD (16, Table 16.6; log 63). -/

/-- A core put in RESET, the requests it had popped ended (10 R257, R261). -/
def resetCore (r c : Nat) (code : Code) (s : State) : State :=
  ((endSlotRequests r c code s).modRow r (fun w => { w with scbPend := w.scbPend.filter (·.owner != ownPrm c) })).modCore r c
    (fun x => { coreLost x with lmem := x.lmem, fetchOut := x.fetchOut })

/-- A tile has nothing issued, and as a member of a pair nothing to compare. -/
def tileDrained (s : State) (r t : Nat) : Bool := (s.tile r t).issued.isEmpty && (!(s.tile r t).paired || pairSettled s r (t / 2))

/-- A ring of the row names a Primrose slot of the program (04 R108). -/
def progInUse (s : State) (r : Nat) (p : Prog) : Bool :=
  s.rings.rings.any (fun g => g.2.owner == r && p.prm.any (fun c => g.2.slots.getLsbD c))

/-- The tiles a program runs on. -/
def progTiles (p : Prog) : List Nat := if p.paired then p.aster.flatMap (fun t => [t, t + 1]) else p.aster

/-- The unload ends: tiles EMPTY, pairs dissolved, reservations of its slots freed, the region with them. -/
def unloadEnd (r : Nat) (p : Prog) (s : State) : State :=
  let s := s.modRow r (fun w => { w with progs := w.progs.filter (·.num != p.num) })
  let s := each (progTiles p) (fun t s =>
    regionResv r t ((s.modRow r (scbFreeOwner s.tb (ownAst t))).modTile r t (fun x => { (if x.halted then resetTile x else x) with paired := false }))) s
  let s := if p.paired then s.modRow r (fun w => { w with pairs := p.aster.foldl (fun l t => l.set (t / 2) {}) w.pairs }) else s
  each p.prm (fun c s => s.modRow r (scbFreeOwner s.tb (ownPrm c))) s

/-- An unload whose tiles have drained. -/
def unloadReady (s : State) (r prog : Nat) : Bool :=
  (s.row r).progs.all (fun p => p.num != prog || (progTiles p).all (tileDrained s r))

/-- Ends the unload of a program and completes its command. -/
def unloadDone (r prog : Nat) (s : State) : State :=
  completeWait wUnload (256 * r + prog) .ok [] [] (match (s.row r).progs.find? (·.num == prog) with
    | some p => unloadEnd r p s
    | none => s)

/-- PROGRAM_UNLOAD (16, Table 16.6). -/
def execProgramUnload (h : CmdHdr) (r prog : Nat) (s : State) : Res :=
  gwCommand (.programUnload h r prog) h 0x0302 false 0 (objProg r prog) (fun s =>
    if 12 ≤ r then .now .cmdIllegal [] [] s
    else match (s.row r).progs.find? (·.num == prog) with
      | none => .now .unitBusy [] [] s
      | some p =>
        if progInUse s r p then .now .rowInUse [] [] s
        else
          let s := each (progTiles p) (stopTile r) (each p.prm (fun c => resetCore r c .unitRetired) (wakeRow r s))
          if (progTiles p).all (tileDrained s r) then .now .ok [] [] (unloadEnd r p s)
          else .later wUnload (256 * r + prog)
            (s.modRow r (fun w => { w with progs := w.progs.map (fun q => if q.num = prog then { q with dying := true } else q) }))) s

/-! SELF_TEST (17 R478). -/

/-- Indices of the units of Table 17.7 that a command may name (05, Table 5.4). -/
def testUnitOk (u : Nat) : Bool :=
  let r := uRowOf u
  let i := uIdx u
  match uClass u with
  | 1 => decide (r < 12 ∧ i < 5)
  | 2 => decide (r < 12 ∧ i < 10)
  | 3 => decide (r < 12 ∧ i < 40)
  | 4 => decide (r < 12 ∧ i < 4)
  | 5 => decide (r < 12 ∧ i = 0)
  | 6 => decide (r = 0 ∧ i < 8)
  | 7 => decide (r = 0 ∧ i < 16)
  | 9 => decide (r = 0 ∧ i < 32)
  | 0xB => decide (r = 0 ∧ i < 108)
  | 0xD => decide (r = 0 ∧ i < 2)
  | 0xE => decide (r < 12 ∧ (i < 5 ∨ (16 ≤ i ∧ i < 26)))
  | 0xF => decide (r = 0 ∧ i < 16)
  | _ => false

/-- The named unit is not fitted (00 R1). -/
def testAbsent (s : State) (u : Nat) : Bool :=
  match uClass u with
  | 7 => decide (nDdr s ≤ uIdx u)
  | 9 => !hasFlash s
  | 0xB => !portFitted s (uIdx u / 9)
  | _ => false

/-- SELF_TEST (17 R478): the test joins the queue; the command completes when it ends. -/
def execSelfTest (h : CmdHdr) (u : Nat) (s : State) : Res :=
  gwCommand (.selfTest h u) h 0x0303 false 0 (objUnit u) (fun s =>
    if testUnitOk u = false then .now .cmdIllegal [] [] s
    else if testAbsent s u then .now .unitAbsent [] [] s
    else if inRow u && rowIsOut s (uRowOf u) then .now .unitRetired [] [] s
    else if inRow u && rowIsDark s (uRowOf u) then .now .rowDark [] [] s
    else .later wTest u (queueTest u 0 .active s)) s

end Sys2Proof.Machine
end

