-- ==== Sys2Proof/Machine/GwUnit.lean ====
section
/-! DEFINITION. Row 193, UNIT_RECOVER: recovery and live swap of a slot, lanes and ports, the resets of a row and of a bridge
(18 R492 to R499, R507 to R509); and the commands in progress that a step of their own completes. -/

namespace Sys2Proof.Machine

/-! Live swap (18 R497 to R499; log 65). -/

/-- The westmost SPARE position of a chain. -/
def spareOf (s : State) (ast : Bool) (r : Nat) : Option Nat :=
  (List.range (chainLen ast)).find? (fun k => posState s ast r k == .spare)

/-- The fetcher and issue of a tile, and of its pair partner, stop or go on (18 R497). -/
def setStopped (r t : Nat) (b : Bool) (s : State) : State :=
  each (if (s.tile r t).paired then [t / 2 * 2, t / 2 * 2 + 1] else [t]) (fun k s => s.modTile r k (fun x => { x with stopped := b })) s

/-- The slot's unit has come to the boundary at which it moves: every issued instruction complete; no access and no RPUSH of
the core outstanding. -/
def swapReady (s : State) (ast : Bool) (r t : Nat) : Bool :=
  if ast then (s.tile r t).issued.isEmpty else (s.core r t).mem.isNone && (s.core r t).heldPush.isNone

/-- The slot moves from position p to spare k: the map changes, the old position awaits its test, a pending SRESV is placed
again (18 R497 to R499). -/
def swapMove (ast : Bool) (r t p k : Nat) (s : State) : State :=
  let s := s.modDRow r (fun d => d.setChain ast (((d.chain ast).set p .inTest).set k .active) ((d.slots ast).set t (some k)))
  let s := if ast then setStopped r t false s
    else s.modRow r (fun w => { w with scbPend := w.scbPend.filter (·.owner != ownPrm t) ++ w.scbPend.filter (·.owner == ownPrm t) })
  queueTest (posUnit ast r p) 0 .spare s

/-- A parity error in the copy of a core: the swap is abandoned, the core halts and is recovered (18 R498). -/
def swapFails (r t u : Nat) (s : State) : State :=
  let s := haltCore r t .prmParity (s.modCore r t (fun x => { x with parity := true }))
  s.modGw (fun g => { g with cmds := g.cmds.map (fun k => if k.wait = wSwap ∧ k.arg % 65536 = u then { k with wait := wRecover, arg := u } else k) })

/-- A swap in progress goes on: it ends with its row, becomes a recovery if the slot has halted, or moves the slot. -/
def swapStep (arg : Nat) (s : State) : Option State :=
  let u := arg % 65536
  let ast := uAster u
  let r := uRowOf u
  let p := uIdx u
  let fin (c : Code) (s : State) : State := completeWait wSwap arg c [] [] s
  if rowIsDark s r then some (fin .rowDark s)
  else match posSlot s ast r p with
  | none => some (fin .unitRetired s)
  | some t =>
    if slotHalted s ast r t then
      some (setStopped r t false (s.modGw (fun g => { g with cmds := g.cmds.map (fun k => if k.wait = wSwap ∧ k.arg = arg then { k with wait := wRecover, arg := u } else k) })))
    else if swapReady s ast r t = false then none
    else if !ast && decide (65536 ≤ arg) then some (swapFails r t u s)
    else match spareOf s ast r with
      | none => some (fin .capacityShort (if ast then setStopped r t false s else s))
      | some k => some (fin .ok (swapMove ast r t p k s))

/-- UNIT_RECOVER on a position (18 R492, R497 to R499). -/
def recoverPos (u : Nat) (copyBad : Bool) (s : State) : Done :=
  let ast := uAster u
  let r := uRowOf u
  let p := uIdx u
  let test (s : State) : Done := .later wRecover u (queueTest u ((((s.err.log.filter (·.unit == u)).getLast?).map (·.recno)).getD 0) .active s)
  if rowIsOut s r then .now .unitRetired [] [] s
  else if rowIsDark s r then .now .rowDark [] [] s
  else if posBad (posState s ast r p) || posState s ast r p == .lost then .now .unitRetired [] [] s
  else match posSlot s ast r p with
    | none => .now .unitBusy [] [] s
    | some t =>
      if slotHalted s ast r t || posState s ast r p == .inTest then
        if s.gw.recovering.any (fun x => x.ast == ast && x.row == r && x.slot == t) then .later wRecover u s else test s
      else if (spareOf s ast r).isNone then .now .capacityShort [] [] s
      else .later wSwap (u + if copyBad then 65536 else 0) (if ast then setStopped r t true (wakeRow r s) else wakeRow r s)

/-! Row reset (18 R508). -/

/-- A DMA engine in a row reset: its descriptors end with DMA_TIMEOUT; records and submissions of the row's cores go. -/
def resetDma (tb : Nat) (x : Dma) : Dma :=
  let ended := (x.queue.filter (fun d => !d.byCore)).map (fun d => ({ tag := d.tag, status := Code.dmaTimeout.val, tb := tb, byCore := false } : DmaCpl))
  let all := x.cpl.filter (fun c => !c.byCore) ++ x.held.filter (fun c => !c.byCore) ++ ended
  drainSub { cpl := all.take 64, held := all.drop 64, subWait := x.subWait.filter (fun d => !d.byCore), taint := x.taint, taintBad := x.taintBad }

/-- Every reservation in the row is marked and the scoreboard cleared; transactions that agents held wait at the router. -/
def clearScb (w : Row) : Row :=
  let w' := (w.scb.filter (·.wr)).foldl (fun w e => poisonRange e.line e.len w) w
  { w' with scb := [], scbPend := w.scbPend.filter (fun q => decide (0x40 ≤ q.owner ∧ q.owner ≠ 0xFF))
            arrivals := w.ingress.filterMap id ++ w.arrivals, ingress := List.replicate 16 none }

/-- ROW_RESET (18 R508). -/
def rowReset (r : Nat) (s : State) : State :=
  let s := each (s.rings.rings.filter (fun p => p.2.owner == r)) (fun p => endRequests p.1 (fun _ => true) .poisoned) s
  let s := each [0, 1] (pairAbandon r) s
  let s := each (List.range 4) (fun e => freeEverywhere (ownDma r e)) (s.modRow r (fun w => { w with dma := w.dma.map (resetDma s.tb) }))
  let s := s.modRow r (fun w => { clearScb w with tiles := w.tiles.map (fun x => { resetTile x with paired := false }), pairs := [{}, {}] })
  let s := each (List.range 4) (regionResv r) s
  each (List.range 8) (fun c s => restoreCore r c 0 s) s

/-- UNIT_RECOVER on a row: it waits while the row is woken and the marks find room (18 R493). -/
def recoverRow (r : Nat) (s : State) : Done :=
  if rowIsOut s r then .now .unitRetired [] [] s
  else if rowIsDark s r then .now .rowDark [] [] s
  else if rowRuns s r = false ∨ banksUp s r = false then .hold (wakeRow r s)
  else if markRoom (s.row r) (countIf (·.wr) (s.row r).scb) = false then .hold s
  else .now .ok [] [] (rowReset r (wakeRow r s))

/-! Bridge reset (18 R509). -/

/-- BRIDGE_RESET, up to the reset itself: fetches end, batches are rolled back, DDR5 enters self-refresh, ports stop. -/
def bridgeReset (b : Nat) (s : State) : State :=
  let s := failBatches (bridgeTable s b) (fetchesDown b false s)
  let s := each ((List.range 8).map (fun i => 8 + 8 * b + i)) (fun u s => s.modMemUnit u (fun x => { x with selfRefresh := x.st != .absent })) s
  let s := (bridgeStop b s).modBridge b (fun x => { x with inReset := true })
  let s := if b = 0 then chaviDown (s.modRings (fun m => { m with up := false })) else s
  windowsSettle s

/-! The command. -/

/-- UNIT_RECOVER on a port or a lane (18 R507). -/
def recoverPort (p : Nat) (s : State) : Done :=
  if portFitted s p = false then .now .unitAbsent [] [] s
  else if (s.port p).st = .downRuntime ∧ bridgeUp s (portBridge p) = true ∧ nth s.power.presentN p = false then
    .later wRecover (uPort p) (s.modPort p (fun q => { q with st := .retraining, downAt := none }))
  else .now .unitBusy [] [] s
def recoverLane (i : Nat) (s : State) : Done :=
  if portFitted s (i / 9) = false then .now .unitAbsent [] [] s
  else if (s.port (i / 9)).outLane = some (i % 9) then
    .later wRecover (uLane (i / 9) (i % 9)) (s.modPort (i / 9) (fun q => { q with outAt := s.tb }))
  else .now .unitBusy [] [] s
def recoverBridge (b : Nat) (s : State) : Done :=
  if (s.bridge b).out then .now .unitRetired [] [] s
  else if (s.bridge b).inReset then .now .unitBusy [] [] s
  else .later wRecover (uBridge b) (bridgeReset b s)

/-- The object of a UNIT_RECOVER (16 R441). -/
def recoverObj (u : Nat) : Nat := if uClass u = 5 then objRow (uRowOf u) else if uClass u = 0xC then objBridge (uIdx u) else objUnit u

/-- UNIT_RECOVER (18). `copyBad` says that the copy of a core's state meets a parity error. -/
def execUnitRecover (h : CmdHdr) (u : Nat) (copyBad : Bool) (s : State) : Res :=
  gwCommand (.unitRecover h u copyBad) h 0x0304 false 0 (recoverObj u) (fun s =>
    let one (ok : Bool) (d : Done) : Done := if ok then d else .now .cmdIllegal [] [] s
    match uClass u with
    | 1 => one (testUnitOk u) (recoverPos u copyBad s)
    | 2 => one (testUnitOk u) (recoverPos u copyBad s)
    | 5 => one (testUnitOk u) (recoverRow (uRowOf u) s)
    | 0xA => one (decide (uRowOf u = 0 ∧ uIdx u < 12)) (recoverPort (uIdx u) s)
    | 0xB => one (testUnitOk u) (recoverLane (uIdx u) s)
    | 0xC => one (decide (uRowOf u = 0 ∧ uIdx u < 2)) (recoverBridge (uIdx u) s)
    | _ => .now .cmdIllegal [] [] s) s

/-! Commands in progress that complete on a step of their own (log 16). -/

/-- What one command in progress has come to. -/
def cmdStep (s : State) (k : Cmd) : Option State :=
  if k.wait = wUnload then
    if unloadReady s (k.arg / 256) (k.arg % 256) then some (unloadDone (k.arg / 256) (k.arg % 256) s) else none
  else if k.wait = wSwap then swapStep k.arg s
  else if k.wait = wRecover ∧ (uClass k.arg = 1 ∨ uClass k.arg = 2) then
    if rowIsDark s (uRowOf k.arg) then some (completeWait wRecover k.arg .rowDark [] [] s)
    else if rowIsOut s (uRowOf k.arg) then some (completeWait wRecover k.arg .unitRetired [] [] s)
    else none
  else none

/-- The first such command. -/
def cmdIdle (s : State) : Option State := s.gw.cmds.findSome? (cmdStep s)

end Sys2Proof.Machine
end

