-- ==== Sys2Proof/Machine/Primrose.lean ====
section
/-! DEFINITION. Rows 76 to 92: Primrose instructions, their memory accesses, waits, the watchdog and what follows a halt
(10; 17 R467). -/

namespace Sys2Proof.Machine

/-- PRIMROSE_EXECUTE (10 R242, R260): one instruction at the core's pc. `bad`: 1 a fetched byte fails parity, 2 a byte its
local load reads does. -/
def execPrimroseExecute (r c bad : Nat) (s : State) : Res :=
  if coreRuns s r c = false then .next s
  else
    let x := s.core r c
    match fetchInstr x with
    | .fault a =>
      if x.pc.toNat = x.mtvec.toNat / 4 * 4 then .next (haltCore r c .prmDoubleTrap s)
      else .next (s.modCore r c (fun x => x.trap 1 a))
    | f =>
      if bad = 1 then .next (haltCore r c .prmParity (s.modCore r c (fun x => { x with parity := true })))
      else match f with
        | .ok raw w len => .next ((runInstr r c raw w len (if bad = 2 then 1 else 0) s).finish r c)
        | .illegal raw => .next (s.modCore r c (fun x => x.trap 2 raw))
        | .fault _ => .next s

/-- PRIMROSE_MEMORY_ACCESS (10 R244, R245; 11 R263; 12 R305, R309): the outstanding access is performed, takes its fault, or
still waits. `err`: 1 a failing byte, 2 an uncorrectable error. -/
def execPrimroseMemoryAccess (r c err : Nat) (s : State) : Res :=
  let x := s.core r c
  match x.mem with
  | none => .next s
  | some m =>
    if rowRuns s r = false ∨ (fetchStore s r c).isSome then .next s
    else match (accsOf x m.word).getD [] with
      | l =>
        match l.find? (fun g => !accReady s r c g.1 g.2.1 g.2.2) with
        | some g => .next (accWake r g.1 g.2.1 s)
        | none => .next ((runMem r c m.word m.len err (s.modCore r c (fun x => { x with mem := none }))).finish r c)

/-- RPOP, RPUSH, SRESV, SRELS, TBWAIT and WDKICK as instructions of core c with registers rd, rs1, rs2. -/
def execRpop (r c rd rs1 rs2 : Nat) (s : State) : Res :=
  atCore r c (doRpop r c rd ((s.core r c).xr rs1).toNat ((s.core r c).xr rs2).toNat) s
def execRpush (r c rd rs1 rs2 : Nat) (s : State) : Res :=
  atCore r c (doRpush r c rd ((s.core r c).xr rs1).toNat ((s.core r c).xr rs2).toNat) s
def execSresv (r c rd rs1 rs2 : Nat) (s : State) : Res :=
  atCore r c (doSresv r c rd ((s.core r c).xr rs1).toNat ((s.core r c).xr rs2).toNat) s
def execSrels (r c rd rs1 : Nat) (s : State) : Res := atCore r c (doSrels r c rd ((s.core r c).xr rs1).toNat) s
def execTbwait (r c rd rs1 rs2 : Nat) (s : State) : Res :=
  atCore r c (doTbwait r c rd ((s.core r c).xr rs1).toNat ((s.core r c).xr rs2).toNat (encR 0x0B 4 0 rd rs1 rs2)) s
def execWdkick (r c : Nat) (s : State) : Res := atCore r c (doCustom r c 0x500B) s

/-- SRESV_DEADLINE (10 R250): a waiting SRESV whose deadline has come is withdrawn. -/
def execSresvDeadline (r c : Nat) (s : State) : Res :=
  match (s.core r c).wait with
  | some w =>
    if w.isTb = false ∧ w.untilTb ≤ s.tb then
      .next (endSresv r c (sresvLate (s.row r))
        (s.modRow r (fun w => { w with scbPend := w.scbPend.filter (·.owner != ownPrm c) })))
    else .next s
  | none => .next s

/-- TBWAIT_END (10 R252, R259): the tick is reached, or with rs2 = 1 an assigned ring holds an entry; the row must run. -/
def execTbwaitEnd (r c : Nat) (s : State) : Res :=
  match (s.core r c).wait with
  | some w =>
    if w.isTb = true ∧ rowRuns s r = true ∧ (w.untilTb ≤ s.tb ∨ (w.ring = true ∧ ringReady s r c = true)) then
      let v := tbwaitVal s r c
      .next ((startWake r s).modCore r c (fun x => ({ x with wait := none, st := .running }.setX w.rd v).kick s.tb))
    else .next s
  | none => .next s

/-- Bound arithmetic and FHASH (10 R253, R254). -/
def execBadd (r c rd rs1 rs2 : Nat) (s : State) : Res := atCore r c (doCustom r c (encR 0x2B 0 0 rd rs1 rs2)) s
def execBscl (r c rd rs1 rs2 : Nat) (s : State) : Res := atCore r c (doCustom r c (encR 0x2B 1 0 rd rs1 rs2)) s
def execBmax (r c rd rs1 rs2 : Nat) (s : State) : Res := atCore r c (doCustom r c (encR 0x2B 2 0 rd rs1 rs2)) s
def execBlin (r c rd rs1 rs2 rs3 : Nat) (s : State) : Res := atCore r c (doCustom r c (encR 0x2B 3 (4 * rs3) rd rs1 rs2)) s
def execFhash (r c rd rs1 rs2 rs3 fn : Nat) (s : State) : Res := atCore r c (doCustom r c (encR 0x2B 4 (4 * rs3 + fn) rd rs1 rs2)) s

/-- PRM_WATCHDOG_EXPIRY (10 R259): it counts while the core runs or waits in SRESV. -/
def execPrmWatchdogExpiry (r c : Nat) (s : State) : Res :=
  let x := s.core r c
  if (x.st = .running ∨ (x.st = .waiting ∧ x.wait.any (·.isTb) = false)) ∧ x.wdAt ≤ s.tb then
    .next (haltCore r c .prmWatchdog (s.modCore r c (fun x => { x with wdog := true })))
  else .next s

/-- The code of a core's halt (10 R257; 18 R495). -/
def hcodeOf (v : Nat) : Code :=
  if v = Code.prmWatchdog.val then .prmWatchdog else if v = Code.prmParity.val then .prmParity
  else if v = Code.prmDoubleTrap.val then .prmDoubleTrap else .unitRetired

/-- HALTED_CORE_REQUESTS_END (10 R261): every request popped and not posted receives an error completion. A post that had
reached the engine before the halt keeps its request. -/
def execHaltedCoreRequestsEnd (r c : Nat) (s : State) : Res :=
  let x := s.core r c
  if x.st = .halted ∧ s.rings.up = true then
    .next (each (s.rings.rings.filter (fun p => p.2.owner == r)) (fun p =>
      let keep := x.heldPush.bind (fun h => if h.1 = p.1 then matchReq p.2 h.2.1 else none)
      endRequests p.1 (fun q => q.slot == c && some q != keep) (hcodeOf x.hcode)) s)
  else .next s

end Sys2Proof.Machine
end

