-- ==== Sys2Proof/Machine/Faults.lean ====
section
/-! DEFINITION. Rows 135 and 229 to 235: poison deadlines, held RPUSHes, targeted tests and slot recovery (14 R367; 17 R465, R467,
R475 to R481; 18 R492 to R495). -/

namespace Sys2Proof.Machine

/-! Poison (17 R465, R467). -/

/-- The record of a poison deadline (17 R465, Table 17.6). -/
def deadlineRecord (b addr : Nat) (s : State) : State :=
  errRecord { code := .poisoned, unit := uBridge b, op := 0x0A, addr := addr } s

/-- A remote entry whose deadline has come. -/
def entryDue (tb : Nat) (e : ProvEntry) : Bool := !e.poisoned && e.deadline.any (fun d => decide (d ≤ tb))

/-- POISON_DEADLINE (17 R465): entries and held WRITEs without a verdict at their deadline become POISONED. -/
def execPoisonDeadline (s : State) : Res :=
  let s := each (List.range 12) (fun r s =>
    let due := (s.row r).prov.filter (entryDue s.tb)
    let s := s.modRow r (fun w => { w with prov := w.prov.map (fun e => if entryDue s.tb e then { e with poisoned := true, deadline := none } else e) })
    each due (fun e => deadlineRecord (r / 6) (lnAddr r e.line)) s) s
  let s := each [0, 1] (fun b s =>
    let due := (s.bridge b).holdBuf.filter (fun h => decide (h.2 ≤ s.tb))
    let s := s.modBridge b (fun x => { x with holdBuf := x.holdBuf.filter (fun h => !decide (h.2 ≤ s.tb)) })
    each due (fun h s => deadlineRecord b (pktAddr s h.1) (answer b h.1 .poisoned [] s)) s) s
  .next (windowsSettle s)

/-- HELD_RPUSH_RESOLVE (17 R467): the taint of a core whose RPUSH is held is confirmed or poisoned; the taint is cleared when the
entry is posted. A core that has halted meanwhile takes no status. -/
def execHeldRpushResolve (r c : Nat) (s : State) : Res :=
  let x := s.core r c
  match x.heldPush with
  | none => .next s
  | some (n, e, rd) =>
    if x.taintBad = false ∧ x.taint ≠ [] then .next s
    else
      let (k, s) := if x.taintBad then enginePushBad n r c e s else enginePush n r c e s
      let s := s.modCore r c (fun x => { x with heldPush := none })
      let s := if k = .ok then s.modCore r c (fun x => { x with taint := [], taintBad := false }) else s
      .next (if x.st = .running then retire r c rd (if x.taintBad ∧ k = .ok then Code.ok.val else k.val) 4 s else s)

/-! Targeted tests (17 R475 to R478). -/

/-- TARGETED_TEST_START (17 R475, R476): Gwynpin places the unit and starts its test as soon as the needs are met. -/
def execTargetedTestStart (u : Nat) (s : State) : Res :=
  match s.test u with
  | some x => if gwServes s = true ∧ x.running = false ∧ x.retryAt = none then .next (tryTest u s) else .next s
  | none => .next s

/-- TEST_NEEDS_TIMEOUT (17 R476): the needs were not met within 10 ms; the third such outcome in a row counts as LASTING. -/
def execTestNeedsTimeout (u : Nat) (s : State) : Res :=
  match s.test u with
  | none => .next s
  | some x =>
    if gwServes s = false ∨ x.running = true ∨ x.placed.all (fun t => decide (s.tb < t + 500000)) = true then .next s
    else if 2 ≤ x.untest then .next (endTest x .lasting s)
    else
      let s := s.modTest u (fun t => { t with untest := t.untest + 1, placed := none, retryAt := some (s.tb + 50000000) })
      let s := if uClass u = 3 then s.modBank (uRowOf u) (uIdx u) (fun b => { b with inTest := false }) else s
      let s := errRecord { code := .ok, unit := u, op := 0x13, outcome := .untestable, relrec := x.recNo } s
      .next (completeWait wTest u .ok (leBytes 1 (outcomeCode .untestable)) [] s)

/-- TARGETED_TEST_RETRY (17 R476): one second after an UNTESTABLE outcome. -/
def execTargetedTestRetry (u : Nat) (s : State) : Res :=
  match s.test u with
  | none => .next s
  | some x =>
    if gwServes s = true ∧ x.running = false ∧ x.retryAt.any (fun t => decide (t ≤ s.tb)) = true then
      .next (tryTest u (s.modTest u (fun t => { t with retryAt := none, placed := none })))
    else .next s

/-- TARGETED_TEST_END (17 R477): the test of a unit passes or fails; that of a row is BU3 and BU4 on the row, with what they
found. A lane's test ends with its qualification. -/
def execTargetedTestEnd (u : Nat) (pass : Bool) (rt : RowTest) (badBanks : List Nat) (s : State) : Res :=
  match s.test u with
  | none => .next s
  | some x =>
    if x.running = false ∨ uClass u = 0xB then .next s
    else if uClass u = 5 then
      let (o, s) := endRow x rt badBanks s
      .next (testGone u o s)
    else
      let (o, s) := testOutcome x pass s
      .next (endTest x o s)

/-- LANE_QUALIFICATION_END (14 R367; 17, Table 17.7; 18 R507): 15.6 s of measurement end; RETURN is sent for a lane that passed and
goes back to service, otherwise its LANE_OK bit is cleared. -/
def execLaneQualificationEnd (port : Nat) (pass : Bool) (s : State) : Res :=
  let q := s.port port
  match q.outLane with
  | none => .next s
  | some l =>
    if s.tb < q.outAt + 780000000 ∨ portLive q.st = false ∨ q.swapTx.isSome then .next s
    else
      let u := uLane port l
      let x := (s.test u).getD { unit := u, recNo := 0, since := s.tb }
      let (o, s) := testOutcome x pass s
      let s := if o = .lasting then s else laneDecide port l false s
      .next (completeWait wRecover u .ok [] [] (endTest x o s))

/-! Slot recovery (18 R492 to R495). -/

/-- The entry of a slot that is to be restored. -/
def recoveryOf (s : State) (ast : Bool) (r t : Nat) : Option Recovery :=
  s.gw.recovering.find? (fun x => x.ast == ast && x.row == r && x.slot == t)
def dropRecovery (ast : Bool) (r t : Nat) (s : State) : State :=
  s.modGw (fun g => { g with recovering := g.recovering.filter (fun x => !(x.ast == ast && x.row == r && x.slot == t)) })

/-- Owner code of a slot (11, Table 11.1). -/
def slotOwner (ast : Bool) (t : Nat) : Nat := if ast then ownAst t else ownPrm t

/-- The slots that a recovery restores together: a pair's members (18 R494). -/
def recoverSet (s : State) (ast : Bool) (r t : Nat) : List Nat :=
  if ast && (s.tile r t).paired then [t / 2 * 2, t / 2 * 2 + 1] else [t]

/-- What the recovery of a slot still waits for: the partner's test, issued instructions, a held RPUSH, the ring engine, room
for the marks (18 R493; log 61). -/
def recoverWaits (s : State) (ast : Bool) (r t : Nat) : Bool :=
  let set := recoverSet s ast r t
  set.any (fun k => (slotPos s ast r k).any (fun p => (s.test (posUnit ast r p)).isSome))
    || (if ast then set.any (fun k => (slotPos s ast r k).isSome && !(s.tile r k).issued.isEmpty)
        else (s.core r t).heldPush.isSome || !s.rings.up)
    || !markRoom (s.row r) ((set.map (fun k => writesOf (s.row r) (slotOwner ast k))).sum)

/-- An unpaired Aster slot comes back EMPTY (18 R494). -/
def restoreTile (r t : Nat) (s : State) : State :=
  if (s.tile r t).halted then regionResv r t (s.modTile r t (fun x => { resetTile x with paired := false })) else s

/-- A pair comes back from its surviving member, `bad` telling which members the tests found LASTING; with none, as unpaired
slots (18 R494). -/
def restorePair (r pair : Nat) (badLead badFollow : Bool) (s : State) : State :=
  let s := pairAbandon r pair s
  let l := s.tile r (2 * pair)
  let f := s.tile r (2 * pair + 1)
  if badLead && badFollow then
    restoreTile r (2 * pair + 1) (restoreTile r (2 * pair) (s.modRow r (fun w => { w with pairs := w.pairs.set pair {} })))
  else
    let from_ := if badLead then f else l
    let copy (x : Tile) : Tile := pairTile { x with mode := from_.mode, wsets := from_.wsets, planes := from_.planes, scales := from_.scales, panes := from_.panes }
    regionResv r (2 * pair) (formPair r pair ((s.modTile r (2 * pair) copy).modTile r (2 * pair + 1) copy))

/-- A halted core comes back from its program's image; that of an unbound slot stays in RESET (18 R495; 17 R480). -/
def restoreSlotCore (r c relrec : Nat) (s : State) : State :=
  let x := s.core r c
  if x.st ≠ .halted then s
  else
    let s := endSlotRequests r c (hcodeOf x.hcode) s
    if (prmPos s r c).isSome then restoreCore r c relrec s
    else s.modCore r c (fun x => { coreLost x with fetchOut := x.fetchOut })

/-- The record of a recovery, and the command that waited for it (18 R492). -/
def recoveryDone (x : Recovery) (s : State) : State :=
  let s := if x.outcome = .none then s
    else errRecord { code := .ok, unit := x.unit, op := 0x13, platform := x.outcome == .lasting, leaf := .ev 6 0, outcome := x.outcome
                     action := x.action, relrec := x.recNo } s
  completeWait wRecover x.unit .ok [] [] (dropRecovery x.ast x.row x.slot s)

/-- The write reservations of slots marked, and all of them freed (18 R492, R493). -/
def recoverFree (ast : Bool) (r : Nat) (set : List Nat) (s : State) : State :=
  s.modRow r (fun w => set.foldl (fun w k => freeMarked s.tb (slotOwner ast k) w) w)

/-- SLOT_RECOVERY (18 R492 to R495). -/
def execSlotRecovery (ast : Bool) (r t : Nat) (s : State) : Res :=
  match recoveryOf s ast r t with
  | none => .next s
  | some x =>
    if gwServes s = false then .next s
    else if rowIsDark s r || rowIsOut s r then .next (dropRecovery ast r t s)
    else if rowRuns s r = false then .next (wakeRow r s)
    else if recoverWaits s ast r t then .next s
    else
      let set := recoverSet s ast r t
      let done := set.filterMap (recoveryOf s ast r)
      let bad (k : Nat) : Bool := (recoveryOf s ast r k).any (·.outcome == .lasting)
      let s := recoverFree ast r set s
      let s := if ast = false then restoreSlotCore r t x.recNo s
        else if (s.tile r t).paired then restorePair r (t / 2) (bad (t / 2 * 2)) (bad (t / 2 * 2 + 1)) s
        else if (astPos s r t).isSome then restoreTile r t s
        else s.modTile r t (fun y => { resetTile y with halted := true })
      .next (each done recoveryDone s)

end Sys2Proof.Machine
end

