-- ==== Sys2Proof/Machine/Memory.lean ====
section
/-! DEFINITION. Rows 108 to 111, 119 and 120: accesses, retirement, migration and return of HBM4 stacks and DDR5 channels
(12 R307 to R311, R330 to R333, R602). -/

namespace Sys2Proof.Machine

/-- An access meets an uncorrectable error in the 64-byte unit at device address a (12 R308, R309): recorded, the unit
marked, its page's retirement started. -/
def memUncorr (a : Nat) (s : State) : State :=
  match place s a with
  | .mem u loc =>
    let v := (pageEnt s (pageKey u loc)).unit
    memMark a (errRecord { code := .memUncorrectable, unit := uMem v, op := memOp v, addr := a } s)
  | _ => s

/-- A corrected error in a page; more than 16 within 2^32 tb retire it (12 R308). -/
def memCorr (k : Nat) (s : State) : State :=
  let e := pageEnt s k
  let key := 65536 * e.unit + e.phys
  let l := (((mget s.mem.corrected key).getD []).filter (fun t => decide (s.tb < t + 2 ^ 32))) ++ [s.tb]
  let s := s.modMem (fun m => { m with corrected := mset m.corrected key l })
  if 16 < l.length then startRetire k s else s

/-- MEMORY_ACCESS (12 R306, R307, R309): a read of n bytes or a write of `data` at an HBM4 or DDR5 address. `bad` is the
place, among the 64-byte units touched, of one that meets an uncorrectable error; `corr` says a corrected one was flagged. -/
def execMemoryAccess (a n : Nat) (wr : Bool) (data : List Byte) (corr : Bool) (bad : Option Nat) (s : State) : Res :=
  let n := if wr then data.length else n
  match place s a with
  | .mem u loc =>
    let us := unitsOf a n
    let hit := bad.bind (fun i => (us[i]?).filter (fun v => !(wr && decide (a ≤ 64 * v) && decide (64 * v + 64 ≤ a + n))))
    match accessCode s wr a n, hit with
    | .ok, some v => .next ((memUncorr (64 * v) s).send (.answer Code.memUncorrectable.val []))
    | .ok, none =>
      let s := if corr then memCorr (pageKey u loc) s else s
      .next (if wr then (memWrite s a data).send (.answer 0 []) else s.send (.answer 0 (memRead s a n)))
    | .memUncorrectable, _ => .next (s.send (.answer Code.memUncorrectable.val []))
    | c, _ => .next (s.send (.answer c.val []))
  | _ => .next s

/-- PAGE_REMAP_COMPLETE (12 R308, R331, R602; 17 R483): the copy of retired page k ends; units that had an uncorrectable
error read as DATA_LOST. Past its limit the stack or channel goes OUT. -/
def execPageRemapComplete (k : Nat) (s : State) : Res :=
  let e := pageEnt s k
  if e.copying = false ∨ e.st ≠ .retired then .next s
  else
    let u := k / 65536
    let base := (if u < 8 then 2 * 2 ^ 44 + u * 2 ^ 36 else 4 * 2 ^ 44 + (u - 8) * 2 ^ 37) + k % 65536 * 2 ^ 21
    let inPage (x : Nat) : Bool := decide (base ≤ 64 * x) && decide (64 * x < base + 2 ^ 21)
    let s := s.modMem (fun m => { m with
      dataLost := (m.bad.filter inPage).foldl addNew m.dataLost, bad := m.bad.filter (fun x => !inPage x)
      remap := mset m.remap k { e with st := .mapped, copying := false } })
    let s := mapCheck (retirePage k s)
    if retireLimit e.unit < (s.memUnit e.unit).retired then
      .next (if e.unit < 8 then stackLost e.unit 2 s else memUnitFail e.unit 2 s)
    else .next (mapUnits [e.unit] (s.modMemUnit e.unit (fun x => { x with st := if x.st = .inService then .degraded else x.st })))

/-- DDR_SCRUB_COUNT_READ (12 R308, R311): channel d's scrub count, and the logical pages whose errors it reports. -/
def execDdrScrubCountRead (d count : Nat) (errs : List Nat) (s : State) : Res :=
  if d < 16 ∧ unitIsOut (s.memUnit (8 + d)).st = false then
    .next (each errs (fun p => memCorr (65536 * (8 + d) + p)) (s.modMemUnit (8 + d) (fun x => { x with scrubCount := count })))
  else .next s

/-! Drain and return (12 R332, R333). -/

/-- Channels of the same bridge that take drained pages. -/
def drainTargets (s : State) (u : Nat) : List Nat :=
  ((List.range 8).map (fun i => 8 + 8 * ((u - 8) / 8) + i)).filter (fun v =>
    v != u && ((s.memUnit v).st == .inService || (s.memUnit v).st == .degraded))

/-- An unallocated logical page of a channel that stands at its own place: its physical page can be lent. -/
def lendable (s : State) (v p : Nat) : Bool :=
  let k := 65536 * v + p
  !s.mem.claimed.contains k && (pageEnt s k).st == .mapped && (pageEnt s k).unit == v && (pageEnt s k).copying == false

/-- How many logical pages of the other channels can be lent or are spare, up to a need (12 R332). -/
def roomFor (s : State) (u need : Nat) : Bool :=
  let (_, n) := (drainTargets s u).foldl (fun (p : Nat × Nat) v =>
    if need ≤ p.2 then p
    else (v, p.2 + countIf (fun i => !physTaken s v (spareBase v + i)) (List.range 1035) + countIf (lendable s v) (List.range 60000))) (0, 0)
  decide (need ≤ n)

/-- The place a page moves to: a spare, or the page behind an unallocated logical page (12 R332): unit, physical page, and
the lender. -/
def moveTarget (s : State) (u : Nat) : Option (Nat × Nat × Option Nat) :=
  match (drainTargets s u).findSome? (fun v => (freeSpare s v).map (fun p => (v, p, none))) with
  | some x => some x
  | none => (drainTargets s u).findSome? (fun v =>
      ((List.range 60000).find? (lendable s v)).map (fun p => (v, (pageEnt s (65536 * v + p)).phys, some (65536 * v + p))))

/-- A logical page is switched to another place; a lender becomes BORROWED. -/
def movePage (k : Nat) (t : Nat × Nat × Option Nat) (s : State) : State :=
  let (v, p, lender) := t
  s.modMem (fun m =>
    let m := { m with remap := mset m.remap k { st := .mapped, unit := v, phys := p } }
    match lender with
    | some l => { m with remap := mset m.remap l { st := .borrowed, unit := v, phys := p } }
    | none => m)

/-- The lender of a place is released (12 R332): the page behind it is its own again. -/
def releaseLender (e : PageEnt) (s : State) : State :=
  s.modMem (fun m => match m.remap.find? (fun x => x.2.st == .borrowed && x.2.unit == e.unit && x.2.phys == e.phys) with
    | some x => { m with remap := if x.1 = 65536 * e.unit + e.phys then mdel m.remap x.1
                                   else mset m.remap x.1 { st := .mapped, unit := e.unit, phys := e.phys } }
    | none => m)

/-- A moved page returns to its channel, and its lender is released (12 R332). -/
def returnPage (k : Nat) (s : State) : State :=
  let e := pageEnt s k
  let s := releaseLender e (s.modMem (fun m => { m with remap := mdel m.remap k }))
  if (s.memUnit (k / 65536)).badPhys.contains (k % 65536) then
    match freeSpare s (k / 65536) with
    | some p => s.modMem (fun m => { m with remap := mset m.remap k { st := .mapped, unit := k / 65536, phys := p } })
    | none => s
  else s

/-- A channel whose pages are all back. -/
def returned (u : Nat) (s : State) : State :=
  mapUnits [u] (s.modMemUnit u (fun x => { x with st := if x.retired = 0 then .inService else .degraded, moving := [] }))

/-- The last page of a drain is away: DRAINED, the switch opened, and the channel OUT (12 R332, R602). -/
def drained (u : Nat) (s : State) : State :=
  let s := mapUnits [u] (s.modMemUnit u (fun x => { x with st := .drained, outReason := 8, moving := [] }))
  errRecord { code := .unitOut, unit := uMem u, op := 0x0D, platform := true, leaf := memLeaf u, detail := 8, action := 5 } (switchOff (u - 8) s)

/-- MIGRATION_PAGE_COPY_COMPLETE (12 R332): the page being moved is switched to its new place in one step; after the last
one the channel's state advances. -/
def execMigrationPageCopyComplete (d : Nat) (s : State) : Res :=
  let u := 8 + d
  let x := s.memUnit u
  if 16 ≤ d then .next s
  else match x.st, x.moving with
  | .draining, k :: rest =>
    match moveTarget s u with
    | some t =>
      let s := (movePage k t (releaseLender (pageEnt s k) s)).modMemUnit u (fun x => { x with moving := rest })
      .next (if rest.isEmpty then drained u s else s)
    | none => .next s
  | .draining, [] => .next (drained u s)
  | .returning, k :: rest =>
    let s := (returnPage k s).modMemUnit u (fun x => { x with moving := rest })
    .next (if rest.isEmpty then returned u s else s)
  | .returning, [] => .next (returned u s)
  | _, _ => .next s

/-- CHANNEL_TEST_COMPLETE (12 R332, R333, R602): TESTING of channel d ends; `pages` are the logical pages it retires. -/
def execChannelTestComplete (d reason : Nat) (pages : List Nat) (s : State) : Res :=
  let u := 8 + d
  if 16 ≤ d ∨ (s.memUnit u).st ≠ .testing then .next s
  else if reason ≠ 0 ∨ 64 < pages.length then
    .next (switchOff d (memUnitFail u (if reason = 3 then 3 else 7) s))
  else
    let moved := (s.mem.remap.filter (fun e => e.1 / 65536 == u && e.2.unit != u)).map (·.1)
    let s := dropCells (fun c => memUnitKey u c && !moved.contains (65536 * u + c % 2 ^ 37 / 2 ^ 21)) s
    let s := s.modMem (fun m => { m with lostUnits := m.lostUnits.filter (· != u)
                                         remap := m.remap.filter (fun e => e.1 / 65536 != u || e.2.unit != u)
                                         dataLost := m.dataLost.filter (fun x => !memUnitKey u (64 * x) || moved.contains (65536 * u + 64 * x % 2 ^ 37 / 2 ^ 21)) })
    let s := s.modMemUnit u (fun x => { x with retired := pages.length, badPhys := pages, uncorr := false, outReason := 0 })
    let s := each (pages.filter (fun p => !moved.contains (65536 * u + p))) (fun p s =>
      match freeSpare s u with
      | some q => s.modMem (fun m => { m with remap := mset m.remap (65536 * u + p) { st := .mapped, unit := u, phys := q } })
      | none => s) s
    if moved.isEmpty then .next (returned u s)
    else .next (mapUnits [u] (s.modMemUnit u (fun x => { x with st := .returning, moving := moved })))

end Sys2Proof.Machine
end

