-- ==== Sys2Proof/Machine/Flash.lean ====
section
/-! DEFINITION. Rows 121 to 128: flash reads, batches, programs and erases, relocation, refresh, training, the working map
and returned cards (13 R335 to R358). -/

namespace Sys2Proof.Machine

/-- Records a channel's change of state or loss, a platform fault on its card's bit (13 R353; 22, Table 22.3). -/
def fchanRecord (c k : Nat) (code : Code) (detail : Nat) (s : State) : State :=
  errRecord { code := code, unit := uFChan c k, op := 0x0E, platform := true, leaf := .card c, detail := detail
              action := if code = .unitOut then 5 else 0 } s

/-- The writable capacity of a bridge's cards, bytes: a quarter of a card's for each writable channel (13 R339). -/
def writableCap (s : State) (b : Nat) : Nat :=
  ((List.range 4).map (fun i =>
    let c := s.card (4 * b + i)
    if cardWritable c then c.cap * 1000000000 / 4 * countIf (fun k => chanWritable k.st) c.chans else 0)).sum

/-- Row groups of a flash table. -/
def tableGroups (t : Table) : Nat := (t.nrows + groupRows t.rowBytes - 1) / groupRows t.rowBytes

/-- Bytes reserved for the tables of a bridge (13 R339). -/
def reservedCap (s : State) (b : Nat) : Nat :=
  ((s.fetch.tables.filter (fun t => t.2.home == .flash && t.2.bridge == b)).map (fun t => 16384 * tableGroups t.2)).sum

/-- Row groups that lie on a channel. -/
def groupsOn (s : State) (c k : Nat) : List (Nat × Nat) :=
  (s.flash.groups.filter (fun g => g.2.card == c && g.2.chan == k && !g.2.lost)).map (·.1)

/-- A card's state follows its channels while no drain, return or loss runs on it (13 R354, R355). -/
def cardFollow (c : Nat) (s : State) : State :=
  if [CardState.inService, .degraded, .readOnly].contains (s.card c).st then
    match cardStOf (s.card c).chans with
    | .failed => cardFail c 4 s
    | st => cardSet c st s
  else s

/-- Entry of a channel to a state (13 R350, R351, R353): its record; evacuation of a READ_ONLY one; the row groups of a
RETIRED one LOST; batches that no longer fit rolled back. -/
def fchanSet (c k : Nat) (st : FChanState) (reason : Nat) (s : State) : State :=
  if (s.fchan c k).st == st then s
  else
    let s := s.modFChan c k (fun x => { x with st := st })
    let s := match st with
      | .lowSpare => errRecord { code := .lowSpare, unit := uFChan c k, op := 0x0E } s
      | .retired => fchanRecord c k .unitOut reason (loseGroups (fun _ g => g.card == c && g.chan == k) s)
      | .readOnly => fchanRecord c k .flashState 2 (s.modFChan c k (fun x => { x with toMove := groupsOn s c k }))
      | .empty => fchanRecord c k .flashState 3 s
      | _ => s
    let s := if !chanWritable st && decide (writableCap s (cardBridge c) < reservedCap s (cardBridge c)) then failBatches (cardTable s c) s else s
    cardFollow c s

/-- A row group queued for relocation on its channel (13 R341, R349). -/
def queueMove (g : Nat × Nat) (c k : Nat) (s : State) : State := s.modFChan c k (fun x => { x with toMove := addNew x.toMove g })

/-- Whether a fetch of a table waits for its working map (13 R338). -/
def mapWaits (s : State) (b t : Nat) : Bool := s.flash.reloading.contains (b, t)

/-- FLASH_READ_COMPLETE (13 R340, R341, R349; 12 R325): the codeword read for engine e's row ends at a step of Table 13.3; 5:
unreadable. -/
def execFlashReadComplete (b e step : Nat) (s : State) : Res :=
  match s.engine b e with
  | none => .next s
  | some r =>
    match r.pendRow, s.table r.cmd.table with
    | some x, some t =>
      if t.home ≠ .flash ∨ r.flashRead.isSome ∨ mapWaits s b r.cmd.table ∨ (wayOf s t x).isSome ∨ bridgeServes s b = false then .next s
      else
        let gk := (r.cmd.table, x / groupRows t.rowBytes)
        let answer (ok : Bool) (s : State) : State := s.modEngine b e (fun r => { r with flashRead := some ok })
        match kget s.flash.groups gk with
        | none => .next (answer false s)
        | some g =>
          if g.lost ∨ chanReadable (s.fchan g.card g.chan).st = false then .next (answer false s)
          else
            let s := s.modFChan g.card g.chan (fun c =>
              if step = 2 ∨ step = 3 then { c with retry := sat 32 (c.retry + 1) }
              else if step = 4 then { c with recon := sat 32 (c.recon + 1) }
              else if 5 ≤ step then { c with failed := sat 16 (c.failed + 1) } else c)
            let s := s.modFlash (fun f => { f with groups := kset f.groups gk { g with reads := g.reads + 1 } })
            let s := if 2 ≤ step ∨ g.bad ∨ 50000 ≤ g.reads + 1 then queueMove gk g.card g.chan s else s
            if 5 ≤ step then
              .next (answer false (errRecord { code := .memUncorrectable, unit := uFChan g.card g.chan, op := 0x0E }
                (s.modCard g.card (fun c => { c with uncorr := true }))))
            else .next (answer (!g.bad) s)
    | _, _ => .next s

/-- The row group a committed batch wrote, placed on channel 4 × card + channel. -/
def batchGroup (place n tb : Nat) : RowGroup := { lost := false, card := place / 4, chan := place % 4, batch := n, since := tb }

/-- A batch's rows and keys become those of the table: home or map entry, cached ways, key array (12 R317; 13 R343; 16 R450). -/
def applyRows (t : Nat) (d : Table) (rows : List (Nat × List Byte)) (keys : List (Nat × Nat)) (s : State) : State :=
  let s := each rows (fun p s =>
    let s := if d.home = .flash then s.modFlash (fun f => { f with rows := kset f.rows (t, p.1) p.2 })
      else memWrite s (d.rowBase + p.1 * d.rowBytes) p.2
    cacheUpdate d p.1 p.2 s) s
  let s := each keys (fun p s => memWrite s (d.keyBase + 8 * p.1) (leBytes 8 p.2)) s
  s.modFetch (fun f => { f with bridges := f.bridges.map (fun u => { u with engines := u.engines.map (·.map (fun r =>
    if r.cmd.table = t ∧ r.pendRow.any (fun x => rows.any (·.1 == x)) then { r with noFill := true } else r)) }) })

/-- The end of a batch: EPOCH even, the table free for the next, the command answered (12 R317; 16, Table 16.7). -/
def batchDone (t : Nat) (s : State) : State :=
  let s := s.modFetch (fun f => { f with updBusy := f.updBusy.filter (· != t), tables := mmod f.tables t (fun d => { d with epoch := (d.epoch + 1) % 2 ^ 32 }) })
  completeWait wBatch t .ok (leBytes 4 (((s.table t).map (·.epoch)).getD 0)) [] s

/-- FLASH_BATCH_COMMIT (13 R343, R344): the stripes and journal record of table t's batch are programmed; `toL` are the
channels (4 × card + channel) that its row groups, in rising order, were written to, taken in turn. Without a writable
channel of its bridge there the batch rolls back. -/
def execFlashBatchCommit (t : Nat) (toL : List Nat) (s : State) : Res :=
  match s.flash.batches.find? (·.table == t), s.table t with
  | some k, some d =>
    let ok := !toL.isEmpty && toL.all (fun p => cardBridge (p / 4) == d.bridge && cardWritable (s.card (p / 4)) && (s.card (p / 4)).st != .draining
      && chanWritable (s.fchan (p / 4) (p % 4)).st)
    if s.therm.halt then .next s
    else if ok = false then .next (if writableCap s d.bridge < reservedCap s d.bridge then failBatches (· == t) s else s)
    else
      let gs := (k.rows.map (fun p => p.1 / groupRows d.rowBytes)).foldl addNew []
      let n := s.flash.nextBatch
      let s := s.modFlash (fun f => { f with
        nextBatch := (n + 1) % 2 ^ 32
        batches := f.batches.filter (·.table != t)
        groups := (gs.zip (List.range gs.length)).foldl (fun m g => kset m (t, g.1) (batchGroup (nth toL (g.2 % toL.length)) n s.tb)) f.groups })
      let s := each (gs.zip (List.range gs.length)) (fun g s => s.modCard (nth toL (g.2 % toL.length) / 4) (fun c => { c with
        written := c.written + ((k.rows.filter (fun p => p.1 / groupRows d.rowBytes == g.1)).map (fun p => p.2.length)).sum })) s
      .next (batchDone t (applyRows t d k.rows k.keys s))
  | _, _ => .next s

/-- FLASH_PROGRAM_ERASE_COMPLETE (13 R344, R350, R351): a program or erase at die `die` of channel k of card c ends; fail 1:
the block fails and is retired, 2: the die. The operands give the spare blocks left, erase counts and write amplification
it leaves; `lost` are the row groups whose stripes a second failed die loses. -/
def execFlashProgramEraseComplete (c k die fail spareLeft peAvg peMax wa : Nat) (lost : List (Nat × Nat)) (s : State) : Res :=
  if 8 ≤ c ∨ 4 ≤ k ∨ cardWritable (s.card c) = false ∨ chanWritable (s.fchan c k).st = false then .next s
  else
    let s := (s.modFChan c k (fun x => { x with peAvg := peAvg, peMax := peMax, spareLeft := if fail = 1 then spareLeft else x.spareLeft })).modCard c
      (fun x => { x with wa := wa })
    let rebuilding := (s.card c).failedDies.any (fun d => s.flash.groups.any (fun g => g.2.card == c && g.2.chan == d / 16 && g.2.die == d % 16 && !g.2.lost))
    let s := if fail ≠ 2 then s
      else
        let s := (s.modFChan c k (fun x => { x with diesOk := x.diesOk &&& ~~~(BitVec.ofNat 16 (2 ^ (die % 16))) })).modCard c
          (fun x => { x with failedDies := addNew (if rebuilding then x.failedDies else []) (16 * k + die % 16) })
        let s := each ((s.flash.groups.filter (fun g => g.2.card == c && g.2.chan == k && g.2.die == die)).map (·.1)) (fun g => queueMove g c k) s
        if rebuilding && !lost.isEmpty then
          fchanSet c k .retired 4 (loseGroups (fun g _ => lost.contains g) s)
        else s
    let x := s.fchan c k
    if x.st = .retired then .next s
    else if x.spareLeft = 0 ∨ 3300 ≤ x.peAvg then .next (fchanSet c k .readOnly 0 s)
    else if 4 * x.spareLeft < x.spareInit then .next (fchanSet c k .lowSpare 0 s)
    else .next s

/-- A drained card: DRAINED, its bay switch open (13 R356; 17, Table 17.6). -/
def cardDrained (c : Nat) (s : State) : State :=
  let s := switchOff (16 + c) (cardSet c .drained s)
  errRecord { code := .unitOut, unit := uCard c, op := 0x0E, platform := true, action := 5 } s

/-- FLASH_RELOCATION_COMPLETE (13 R346, R350, R351, R356, R357): row group g of table t is in new stripes on die `die` of
channel k of card c, and its map entry switches. `balanced` says that every card of the bridge then holds its share. -/
def execFlashRelocationComplete (t g c k die : Nat) (balanced : Bool) (s : State) : Res :=
  match kget s.flash.groups (t, g) with
  | none => .next s
  | some x =>
    if x.lost ∨ 8 ≤ c ∨ 4 ≤ k ∨ cardBridge c ≠ cardBridge x.card ∨ cardWritable (s.card c) = false ∨ (s.card c).st = .draining
        ∨ chanWritable (s.fchan c k).st = false ∨ chanReadable (s.fchan x.card x.chan).st = false then .next s
    else
      let s := s.modFlash (fun f => { f with groups := kset f.groups (t, g) { x with card := c, chan := k, die := die, since := s.tb, bad := false, reads := 0 } })
      let s := s.modFChan x.card x.chan (fun y => { y with toMove := y.toMove.filter (· != (t, g)) })
      let s := if (s.fchan x.card x.chan).st = .readOnly ∧ (groupsOn s x.card x.chan).isEmpty then fchanSet x.card x.chan .empty 0 s else s
      let s := if (s.card x.card).st = .draining ∧ (s.flash.groups.all (fun y => y.2.card != x.card || y.2.lost)) then cardDrained x.card s else s
      .next (if balanced then each ((List.range 4).map (· + 4 * cardBridge c)) (fun i s =>
          if (s.card i).st = .rebalancing then cardSet i (cardStOf (s.card i).chans) s else s) s
        else s)

/-- FLASH_RETENTION_EXPIRY (13 R349, R352): the data of a block, row groups gs of channel k of card c, passes T_RET: queued for
relocation, or AT_RISK where a READ_ONLY channel cannot be evacuated for want of space. -/
def execFlashRetentionExpiry (c k : Nat) (gs : List (Nat × Nat)) (s : State) : Res :=
  let here := gs.filter (fun g => (groupsOn s c k).contains g)
  if here.isEmpty then .next s
  else if (s.fchan c k).st = .readOnly ∧ writableCap s (cardBridge c) ≤ reservedCap s (cardBridge c) then
    .next (s.modFChan c k (fun x => { x with atRisk := sat 16 (x.atRisk + 1) }))
  else .next (each here (fun g => queueMove g c k) s)

/-- FLASH_INTERFACE_TRAINING (13 R335, R353): every second a channel trains; one that fails is RETIRED. -/
def execFlashInterfaceTraining (c k : Nat) (ok : Bool) (s : State) : Res :=
  let x := s.fchan c k
  if 8 ≤ c ∨ 4 ≤ k ∨ x.st = .retired ∨ x.st = .absent ∨ (s.sw (16 + c)).st ≠ .on ∨ s.tb < x.lastTrain + 50000000 then .next s
  else
    let s := s.modFChan c k (fun x => { x with lastTrain := s.tb })
    .next (if ok then s else fchanSet c k .retired 3 s)

/-! LOST pages freed (12 R309). -/

/-- A good page for a LOST logical page: of its own unit where that is in service, else a spare or an unallocated page of
another channel (12 R309): unit, physical page, lender. -/
def goodPage (s : State) (k : Nat) : Option (Nat × Nat × Option Nat) :=
  let u := k / 65536
  if u < 8 then (freeSpare s u).map (fun p => (u, p, none))
  else match (if unitIsOut (s.memUnit u).st then none else freeSpare s u) with
    | some p => some (u, p, none)
    | none => moveTarget s u

/-- A LOST page is remapped and zero-filled (12 R309); none where no good page exists. -/
def freeLost (k : Nat) (s : State) : Option State :=
  match goodPage s k with
  | none => none
  | some t =>
    let u := k / 65536
    let base := (if u < 8 then 2 * 2 ^ 44 + u * 2 ^ 36 else 4 * 2 ^ 44 + (u - 8) * 2 ^ 37) + k % 65536 * 2 ^ 21
    let here (x : Nat) : Bool := decide (base ≤ x) && decide (x < base + 2 ^ 21)
    some (dropCells here ((movePage k t s).modMem (fun m => { m with dataLost := m.dataLost.filter (fun x => !here (64 * x)) })))

/-- FLASH_MAP_RELOAD_COMPLETE (13 R338): the lost part of table t's working map is back, its DDR5 pages freed, and the fetches
that waited proceed. -/
def execFlashMapReloadComplete (b t : Nat) (s : State) : Res :=
  if mapWaits s b t = false then .next s
  else
    let pages := ((s.table t).map (·.mapPages)).getD []
    let s := each (pages.filter (fun k => (pageEnt s k).st == .lost)) (fun k s => (freeLost k s).getD s) s
    let s := s.modMem (fun m => { m with dataLost := m.dataLost.filter (fun x => match place s (64 * x) with
      | .mem u loc => !pages.contains (pageKey u loc) | _ => true) })
    .next (s.modFlash (fun f => { f with reloading := f.reloading.filter (· != (b, t)) }))

/-- CARD_TEST_COMPLETE (13 R357): TESTING of card c ends. `hdr` is the module serial in the card's header (0 blank), `serial`
the card's own, `reason` why it failed (0: it did not), `balanced` whether every card of the bridge already holds its
share. -/
def execCardTestComplete (c hdr serial reason : Nat) (balanced : Bool) (s : State) : Res :=
  if 8 ≤ c ∨ (s.card c).st ≠ .testing then .next s
  else if reason ≠ 0 then .next (cardFail c reason (switchOff (16 + c) s))
  else
    let mine := s.eeprom.ident.serial
    let blank := hdr = 0 ∨ (s.card c).format = true
    if ¬ blank ∧ hdr ≠ mine then
      let s := switchOff (16 + c) (s.modCard c (fun x => { x with mapSerial := hdr, serial := serial }))
      .next (cardRecord c .cardForeign 0 (cardSet c .failed s))
    else
      let s := s.modCard c (fun x => { x with mapSerial := mine, serial := serial, format := false, uncorr := false })
      let s := if blank then s.modCard c (fun x => { x with written := 0, failedDies := [], chans := x.chans.map (fun y =>
            { y with st := .inService, diesOk := 0xFFFF, spareLeft := y.spareInit, atRisk := 0, toMove := [] }) })
        else s.modFlash (fun f => { f with groups := f.groups.map (fun g =>
            if g.2.card = c then (g.1, { g.2 with lost := (s.fchan c g.2.chan).st == .retired }) else g) })
      let s := if blank then s.modFlash (fun f => { f with groups := f.groups.map (fun g => if g.2.card = c then (g.1, { g.2 with card := 8 }) else g) }) else s
      .next (cardSet c (if balanced then cardStOf (s.card c).chans else .rebalancing) s)

end Sys2Proof.Machine
end

