-- ==== Sys2Proof/Machine/GwMem.lean ====
section
/-! DEFINITION. Rows 200 to 211: the commands for memory, tables, channels and cards (16, Table 16.7, R445 to R450, R603; 12 R309,
R312 to R318, R332, R333; 13 R339, R343, R344, R356 to R359). -/

namespace Sys2Proof.Machine

/-! Claims (16 R445, R603). -/

/-- The step of a range by region: 16 MiB, 32 MiB (16 MiB on the SV6-M4), or 2 MiB (16 R603). -/
def claimStep (s : State) (a : Nat) : Option Nat :=
  match a / 2 ^ 44 with
  | 1 => some (8 * 2 ^ 21)
  | 3 => some (nDdr s * 2 ^ 21)
  | 2 | 4 => some (2 ^ 21)
  | _ => none

/-- The stack or channel of a local form; 0 for the interleaved ones. -/
def localUnit (a : Nat) : Nat :=
  match a / 2 ^ 44 with
  | 2 => a % 2 ^ 44 / 2 ^ 36
  | 4 => a % 2 ^ 44 / 2 ^ 37
  | _ => 0

/-- A range that MEM_CLAIM, MEM_RELEASE and PAGE_FREE take (16 R603). -/
def rangeLegal (s : State) (a n : Nat) : Bool :=
  match claimStep s a with
  | none => false
  | some k => decide (0 < n) && a % k == 0 && n % k == 0 && a / 2 ^ 44 == (a + n - 1) / 2 ^ 44
      && localUnit a == localUnit (a + n - 1) && place s a != .unmapped && place s (a + n - 1) != .unmapped

/-- A range that names a channel which is not fitted (00 R7). -/
def rangeAbsent (s : State) (a : Nat) : Bool := a / 2 ^ 44 == 4 && decide (nDdr s ≤ localUnit a)

/-- Pages claimed join the drain that runs on their channel (12 R332). -/
def joinDrains (ks : List Nat) (s : State) : State :=
  each ks (fun k s =>
    let u := (pageEnt s k).unit
    if (s.memUnit u).st = .draining then s.modMemUnit u (fun x => { x with moving := addNew x.moving k }) else s) s

/-- Claims pages. -/
def claimPages (ks : List Nat) (s : State) : State :=
  joinDrains ks (s.modMem (fun m => { m with claimed := m.claimed ++ ks.filter (fun k => !m.claimed.contains k) }))

/-- MEM_CLAIM (16 R603, Table 16.7). -/
def execMemClaim (h : CmdHdr) (base len : Nat) (s : State) : Res :=
  gwCommand (.memClaim h base len) h 0x0401 false 0 objDevice (fun s =>
    if rangeLegal s base len = false then .now .cmdIllegal [] [] s
    else if rangeAbsent s base then .now .unitAbsent [] [] s
    else
      let ks := pagesOfRange s base len
      if ks.any (fun k => s.mem.claimed.contains k || (pageEnt s k).st == .borrowed) then .now .unitBusy [] [] s
      else if ks.any (fun k => (pageEnt s k).st == .lost) then .now .dataLost [] [] s
      else .now .ok [] [] (claimPages ks s)) s

/-- Extents that a table uses beside the pages Gwynpin claimed for it. -/
def tableExtents (s : State) (t : Table) : List (Nat × Nat) :=
  let rows := if t.rowBase = 0 then [] else [(t.rowBase, t.nrows * t.rowBytes)]
  let keys := if t.type = .keyed then [(t.keyBase, 8 * t.nrows)] else []
  let part := if t.part = 0 then [] else [partExtent t]
  let kv := if t.type = .kv then (t.mapBase, 8 * t.nrows) :: (List.range t.nrows).map (fun x => (leNat (memRead s (t.mapBase + 8 * x) 8), t.bsize)) else []
  rows ++ keys ++ part ++ kv

/-- Extents in use by windows, rings, loaded programs, tables and Witness rings (16 R445). -/
def usedExtents (s : State) : List (Nat × Nat) :=
  (s.fab.windows.filter (·.2.isOpen)).map (fun w => (w.2.base, w.2.length))
    ++ s.rings.rings.flatMap (fun p => (p.2.rqBase, 64 * p.2.size) :: (if p.2.cqChan.isNone then [(p.2.cqBase, 64 * p.2.size)] else []))
    ++ s.rows.flatMap (fun w => w.progs.map (fun p => (p.src, p.len)))
    ++ s.fetch.tables.flatMap (fun t => tableExtents s t.2)
    ++ (s.wit.rings.filter (fun g => g.st != .closed || !g.buf.isEmpty)).map (fun g => (g.base, g.len))

/-- Pages in use. -/
def usedPages (s : State) : List Nat :=
  (usedExtents s).flatMap (fun g => pagesOf s g.1 g.2) ++ s.fetch.tables.flatMap (fun t => t.2.mapPages ++ t.2.partPages)

/-- MEM_RELEASE (16 R445, R603). -/
def execMemRelease (h : CmdHdr) (base len : Nat) (s : State) : Res :=
  gwCommand (.memRelease h base len) h 0x0402 false 0 objDevice (fun s =>
    if rangeLegal s base len = false then .now .cmdIllegal [] [] s
    else if rangeAbsent s base then .now .unitAbsent [] [] s
    else
      let ks := pagesOfRange s base len
      let used := usedPages s
      if ks.any (fun k => !s.mem.claimed.contains k) then .now .memUnclaimed [] [] s
      else if ks.any used.contains then .now .unitBusy [] [] s
      else .now .ok [] [] (s.modMem (fun m => { m with claimed := m.claimed.filter (fun k => !ks.contains k) }))) s

/-- Frees LOST pages one after another; none where a good page is wanting. -/
def freeAll : List Nat → State → Option State
  | [], s => some s
  | k :: t, s => match freeLost k s with
    | some s => freeAll t s
    | none => none

/-- PAGE_FREE (12 R309): every LOST page in range becomes a good page of zeros, or nothing is freed. -/
def execPageFree (h : CmdHdr) (base len : Nat) (s : State) : Res :=
  gwCommand (.pageFree h base len) h 0x0403 false 0 objDevice (fun s =>
    if rangeLegal s base len = false then .now .cmdIllegal [] [] s
    else if rangeAbsent s base then .now .unitAbsent [] [] s
    else
      let ks := (pagesOfRange s base len).filter (fun k => (pageEnt s k).st == .lost)
      if ks.any (fun k => decide (k / 65536 < 8) && (s.memUnit (k / 65536)).st == .failed) then .now .unitRetired [] [] s
      else match freeAll ks s with
        | some t => .now .ok [] [] t
        | none => .now .capacityShort [] [] s) s

/-! Tables (12 R312, Table 12.4; 16 R449). -/

def homeOf (n : Nat) : HomeTier := if n = 0 then .hbm else if n = 1 then .ddr else .flash
def typeOf (n : Nat) : TableType := if n = 0 then .direct else if n = 1 then .shared else if n = 2 then .keyed else .kv

/-- Bytes of a stored row (06 R158). -/
def storedBytes (dim fmt : Nat) : Nat := (4 + dim / 32 + (if fmt = 6 then dim else dim / 2) + 7) / 8 * 8

/-- The descriptor that TABLE_CREATE's arguments give. -/
def tableArgs (bridge home type hash seed nrows dim fmt fill part rowBase keyBase partBase bsize mapBase : Nat) : Table :=
  { bridge := bridge, home := homeOf home, type := typeOf type, hash := hash, seed := seed, nrows := nrows, dim := dim, fmt := fmt
    rowBytes := if type = 3 then 0 else storedBytes dim fmt, part := part, fill := fill, rowBase := rowBase, keyBase := keyBase
    partBase := partBase, bsize := bsize, mapBase := mapBase }

/-- The fields that Table 12.4 allows for each TYPE, and R449's zeros. -/
def tableLegal (t : Table) (mapInit : Nat) : Bool :=
  let kv := t.type == .kv
  let hashed := t.type == .shared || t.type == .keyed
  decide (t.bridge ≤ 1) && decide (t.fill ≤ 2) && decide (t.seed < 2 ^ 64)
    && (if hashed then decide (t.hash ≤ 2) else t.hash == 0xFF && t.seed == 0)
    && decide (1 ≤ t.nrows) && decide (t.nrows ≤ if t.hash = 2 then 2 ^ 32 else 2 ^ 40) && (t.type != .keyed || t.nrows % 4 == 0)
    && (if kv then t.dim == 0 && t.fmt == 0 && t.home != .flash
        else t.dim % 32 == 0 && decide (32 ≤ t.dim) && decide (t.dim ≤ 2048) && (t.fmt == 5 || t.fmt == 6))
    && decide (t.part ≤ 2 ^ 20) && (if t.part = 0 then t.partBase == 0 else !kv && t.home != .hbm && t.partBase / 2 ^ 44 == 1)
    && (t.type == .keyed || t.keyBase == 0) && (!(t.home == .flash || kv) || t.rowBase == 0)
    && (if kv then [4096, 8192, 16384, 32768, 65536].contains t.bsize else t.bsize == 0 && t.mapBase == 0 && mapInit == 0)

/-- An extent whose every page lies on units that a test accepts. -/
def extentOn (s : State) (g : Nat × Nat) (p : Nat → Bool) : Bool :=
  place s g.1 != .unmapped && place s (g.1 + g.2 - 1) != .unmapped && (pagesOf s g.1 g.2).all (fun k => p (k / 65536))

/-- Rows lie in the home tier, DDR5 rows on the serving bridge's channels; the partition and the block map in HBM4 (12, Table
12.4; 16 R449). -/
def tablePlaced (s : State) (t : Table) : Bool :=
  (match t.type, t.home with
    | .kv, _ => extentOn s (t.mapBase, 8 * t.nrows) (fun u => decide (u < 8))
    | _, .hbm => extentOn s (t.rowBase, t.nrows * t.rowBytes) (fun u => decide (u < 8))
    | _, .ddr => extentOn s (t.rowBase, t.nrows * t.rowBytes) (fun u => decide (8 ≤ u) && (u - 8) / 8 == t.bridge)
    | _, .flash => true)
    && (t.part == 0 || extentOn s (partExtent t) (fun u => decide (u < 8)))

/-- Extents that must be claimed: rows, keys, block map, and the initial map where it lies in regions 0x1 to 0x4 (16 R445). -/
def createClaims (t : Table) (mapInit : Nat) : List (Nat × Nat) :=
  (if t.rowBase = 0 then [] else [(t.rowBase, t.nrows * t.rowBytes)]) ++ (if t.type = .keyed then [(t.keyBase, 8 * t.nrows)] else [])
    ++ (if t.type = .kv then (t.mapBase, 8 * t.nrows) :: (if mapInit / 2 ^ 44 = 0 then [] else [(mapInit, 8 * t.nrows)]) else [])

/-- Free DDR5 logical pages of a bridge that a working map can take (13 R338): the lowest ones. -/
def mapRoom (s : State) (b n : Nat) : List Nat :=
  (List.range 8).foldl (fun l i =>
    let u := 8 + 8 * b + i
    if n ≤ l.length ∨ ((s.memUnit u).st ≠ .inService ∧ (s.memUnit u).st ≠ .degraded) then l
    else l ++ (((List.range 60000).map (65536 * u + ·)).filter (fun k => !s.mem.claimed.contains k && (pageEnt s k).st == .mapped)).take (n - l.length)) []

/-- Pages of a flash table's working map: 8 bytes a row group (13 R338). -/
def mapNeed (t : Table) : Nat := if t.home = .flash then (8 * tableGroups t + 2 ^ 21 - 1) / 2 ^ 21 else 0

/-- Zeroes the partition's tag lines (16 R449). -/
def zeroTags (t : Table) (s : State) : State :=
  each (List.range t.part) (fun x s => if accessCode s true (setAddr t x) 64 = .ok then memZero s (setAddr t x) 64 else s) s

/-- The effect of an accepted TABLE_CREATE: partition and working map claimed, tags zeroed, the block map written, the
descriptor held. -/
def tablePlace (n : Nat) (t : Table) (mapInit : Nat) (s : State) : State :=
  let part := if t.part = 0 then [] else (pagesOf s (partExtent t).1 (partExtent t).2).filter (fun k => !s.mem.claimed.contains k)
  let maps := mapRoom s t.bridge (mapNeed t)
  let s := claimPages (part ++ maps) s
  let s := zeroTags t s
  let s := if t.type = .kv then memWrite s t.mapBase (memRead s mapInit (8 * t.nrows)) else s
  s.modFetch (fun f => { f with tables := mset f.tables n { t with mapPages := maps, partPages := part } })

/-- TABLE_CREATE (12 R312; 13 R339; 16 R445, R449). -/
def execTableCreate (h : CmdHdr) (table bridge home type hash seed nrows dim fmt fill part rowBase keyBase partBase bsize mapBase mapInit : Nat)
    (s : State) : Res :=
  gwCommand (.tableCreate h table bridge home type hash seed nrows dim fmt fill part rowBase keyBase partBase bsize mapBase mapInit)
    h 0x0404 false 0 (objTable table) (fun s =>
    let t := tableArgs bridge home type hash seed nrows dim fmt fill part rowBase keyBase partBase bsize mapBase
    let absent : Bool := (t.home == .flash && !hasFlash s) || (t.home == .ddr && t.type != .kv && (pagesOf s rowBase 1).any (fun k => decide (8 + nDdr s ≤ k / 65536)))
    if 2 < home ∨ 3 < type ∨ tableLegal t mapInit = false then .now .cmdIllegal [] [] s
    else if t.home = .flash ∧ hasFlash s = false then .now .unitAbsent [] [] s
    else if tablePlaced s t = false then .now .cmdIllegal [] [] s
    else if absent then .now .unitAbsent [] [] s
    else if (createClaims t mapInit ++ (h.argPtr.toList.filter (fun a => decide (1 ≤ a / 2 ^ 44) && decide (a / 2 ^ 44 ≤ 4))).map (·, 76)).any
        (fun g => !extentClaimed s g.1 g.2) then .now .memUnclaimed [] [] s
    else if (s.bridge bridge).out then .now .unitRetired [] [] s
    else if (s.table table).isSome then .now .unitBusy [] [] s
    else if 4096 ≤ s.fetch.tables.length ∨ (t.home = .flash ∧ (writableCap s bridge < reservedCap s bridge + 16384 * tableGroups t
        ∨ (mapRoom s bridge (mapNeed t)).length < mapNeed t)) then .now .capacityShort [] [] s
    else
      let pages := if t.part = 0 then [] else pagesOf s (partExtent t).1 (partExtent t).2
      let codes := if t.type = .kv then [accessCode s false mapInit (8 * nrows), accessCode s true mapBase (8 * nrows)] else []
      if pages.any (fun k => (pageEnt s k).st == .borrowed) then .now .unitBusy [] [] s
      else match codes.find? (· != .ok) with
        | some c => .now c [] [] s
        | none => .now .ok (leBytes 4 0) [] (tablePlace table t mapInit s)) s

/-- The entries of a batch at SRC: row, key, stored row (16 R450). -/
def batchEntry (t : Table) (l : List Byte) : Nat × Nat × List Byte :=
  if t.type = .keyed then (field l 0 8, field l 8 8, (l.drop 16).take t.rowBytes) else (field l 0 8, 0, (l.drop 8).take t.rowBytes)
def entryBytes (t : Table) : Nat := t.rowBytes + (if t.type = .keyed then 16 else 8)

/-- The stored row's format code (06 R158). -/
def rowFmt (l : List Byte) : Nat := field l 3 1

/-- The last entry for each row (16 R450). -/
def lastEntries (l : List (Nat × Nat × List Byte)) : List (Nat × Nat × List Byte) :=
  l.foldl (fun m e => m.filter (fun x => x.1 != e.1) ++ [e]) []

/-- A LOST group, or one never written, that a batch does not supply whole (13 R344; 16 R449). -/
def groupShort (s : State) (n : Nat) (t : Table) (rows : List Nat) : Bool :=
  let g := groupRows t.rowBytes
  ((rows.map (· / g)).eraseDups).any (fun k => (match kget s.flash.groups (n, k) with | some x => x.lost | none => true)
    && ((List.range (min g (t.nrows - g * k))).any (fun i => !rows.contains (g * k + i))))

/-- Where a batch for a memory home cannot be written: the first answer that is not OK. -/
def batchCode (s : State) (t : Table) (es : List (Nat × Nat × List Byte)) : Code :=
  ((es.flatMap (fun e => accessCode s true (t.rowBase + e.1 * t.rowBytes) t.rowBytes
      :: (if t.type = .keyed then [accessCode s true (t.keyBase + 8 * e.1) 8] else []))).find? (· != .ok)).getD .ok

/-- Step 1 of an update: EPOCH odd (12 R317). -/
def epochStep (n : Nat) (s : State) : State :=
  s.modFetch (fun f => { f with tables := mmod f.tables n (fun d => { d with epoch := (d.epoch + 1) % 2 ^ 32 }) })

/-- A batch that passed its checks: applied at once at a memory home; at a flash home it waits for its commit (12 R317; 13
R343). -/
def batchGo (n : Nat) (t : Table) (es : List (Nat × Nat × List Byte)) (s : State) : Done :=
  let rows := es.map (fun e => (e.1, e.2.2))
  let keys := if t.type = .keyed then es.map (fun e => (e.1, e.2.1)) else []
  let s := epochStep n s
  if t.home = .flash then
    .later wBatch n ((s.modFlash (fun f => { f with batches := f.batches ++ [{ table := n, rows := rows, keys := keys }] })).modFetch
      (fun f => { f with updBusy := addNew f.updBusy n }))
  else
    let s := epochStep n (applyRows n t rows keys s)
    .now .ok (leBytes 4 (((s.table n).map (·.epoch)).getD 0)) [] s

/-- TABLE_UPDATE (12 R317; 13 R343, R344; 16 R450). -/
def execTableUpdate (h : CmdHdr) (table count src : Nat) (s : State) : Res :=
  gwCommand (.tableUpdate h table count src) h 0x0405 false 0 (objTable table) (fun s =>
    match s.table table with
    | none => .now .tableUnknown [] [] s
    | some t =>
      let n := entryBytes t
      let code := accessCode s false src (count * n)
      if t.type = .kv then .now .cmdIllegal [] [] s
      else if (s.bridge t.bridge).out then .now .unitRetired [] [] s
      else if code ≠ .ok then .now code [] [] s
      else
        let es := (List.range count).map (fun i => batchEntry t (memRead s (src + i * n) n))
        let last := lastEntries es
        if es.any (fun e => decide (t.nrows ≤ e.1) || rowFmt e.2.2 != t.fmt) then .now .cmdIllegal [] [] s
        else if t.home = .flash then
          (if groupShort s table t (last.map (·.1)) then .now .dataLost [] [] s else batchGo table t last s)
        else match batchCode s t last with
          | .ok => batchGo table t last s
          | c => .now c [] [] s) s

/-- TABLE_DESTROY (16, Table 16.7). -/
def execTableDestroy (h : CmdHdr) (table : Nat) (s : State) : Res :=
  gwCommand (.tableDestroy h table) h 0x0406 false 0 (objTable table) (fun s =>
    match s.table table with
    | none => .now .tableUnknown [] [] s
    | some _ =>
      let s := s.modFetch (fun f => { f with tables := mmod f.tables table (fun d => { d with dying := true }) })
      if tableInUse s table then .later wDestroy table s else .now .ok [] [] (tableGone table s)) s

/-! Channels (12 R332, R333). -/

/-- A migration rate: 0 takes the default (12 R332). -/
def rateOk (rate : Nat) : Bool := rate == 0 || (decide (1000 ≤ rate) && decide (rate ≤ 25600))
def rateOf (rate : Nat) : Nat := if rate = 0 then 12800 else rate

/-- Logical pages that a drain of unit u must move: the allocated ones that stand on it, its own and others' (12 R332). -/
def drainPages (s : State) (u : Nat) : List Nat :=
  s.mem.claimed.filter (fun k => (pageEnt s k).unit == u && (pageEnt s k).st == .mapped)

/-- CHANNEL_DRAIN (12 R332). -/
def execChannelDrain (h : CmdHdr) (d rate : Nat) (s : State) : Res :=
  gwCommand (.channelDrain h d rate) h 0x0407 false 0 (objMem d) (fun s =>
    let u := 8 + d
    if 16 ≤ d ∨ rateOk rate = false then .now .cmdIllegal [] [] s
    else if nDdr s ≤ d then .now .unitAbsent [] [] s
    else if (s.memUnit u).st ≠ .inService ∧ (s.memUnit u).st ≠ .degraded then .now .unitBusy [] [] s
    else if roomFor s u (drainPages s u).length = false then .now .capacityShort [] [] s
    else .now .ok [] [] (mapUnits [u] (s.modMemUnit u (fun x => { x with st := .draining, moving := drainPages s u, rate := rateOf rate })))) s

/-- A FAILED channel still has LOST pages (12 R333). -/
def lostPages (s : State) (u : Nat) : Bool :=
  (s.mem.lostUnits.contains u && (List.range 60000).any (fun p => (pageEnt s (65536 * u + p)).st == .lost))
    || s.mem.remap.any (fun e => e.1 / 65536 == u && e.2.st == .lost)

/-- A switch goes through OFF to STARTING (02 R44, R45). -/
def switchCycle (i : Nat) (s : State) : State := switchStart i (switchOff i (s.modSw i (fun w => { w with present := true })))

/-- CHANNEL_RETURN (12 R332, R333): the slot switch starts; SPD, training and TESTING follow. `present` is the slot's contact. -/
def execChannelReturn (h : CmdHdr) (d rate : Nat) (present : Bool) (s : State) : Res :=
  gwCommand (.channelReturn h d rate present) h 0x0408 false 0 (objMem d) (fun s =>
    let u := 8 + d
    if 16 ≤ d ∨ rateOk rate = false then .now .cmdIllegal [] [] s
    else if nDdr s ≤ d then .now .unitAbsent [] [] s
    else if ((s.memUnit u).st ≠ .drained ∧ (s.memUnit u).st ≠ .failed) ∨ lostPages s u ∨ present = false ∨ (s.sw d).st = .starting then
      .now .unitBusy [] [] (s.modSw d (fun w => { w with present := present }))
    else .now .ok [] [] ((switchCycle d s).modMemUnit u (fun x => { x with rate := rateOf rate }))) s

/-- LOCATE (02 R46): 0 slot, 1 bay. -/
def execLocate (h : CmdHdr) (kind index on : Nat) (s : State) : Res :=
  gwCommand (.locate h kind index on) h 0x0409 false 0 objDevice (fun s =>
    let i := if kind = 0 then index else 16 + index
    if 1 < kind ∨ (if kind = 0 then 16 else 8) ≤ index ∨ 1 < on then .now .cmdIllegal [] [] s
    else if (kind = 0 ∧ nDdr s ≤ index) ∨ (kind = 1 ∧ hasFlash s = false) then .now .unitAbsent [] [] s
    else if (s.sw i).st ≠ .off then .now .unitBusy [] [] s
    else .now .ok [] [] (s.modSw i (fun w => { w with locate := on == 1 }))) s

/-! Cards (13 R356 to R359). -/

/-- FLASH_POLICY (13, Table 13.4). -/
def execFlashPolicy (h : CmdHdr) (b rate : Nat) (s : State) : Res :=
  gwCommand (.flashPolicy h b rate) h 0x0501 false 0 (objBridge b) (fun s =>
    if 2 ≤ b ∨ rate < 500 ∨ 4000 < rate then .now .cmdIllegal [] [] s
    else if hasFlash s = false then .now .unitAbsent [] [] s
    else .now .ok [] [] (s.modFlash (fun f => { f with rate := f.rate.set b rate }))) s

/-- Writable capacity of the other cards of a card's bridge, bytes (13 R356). -/
def otherCap (s : State) (c : Nat) : Nat :=
  writableCap (s.modCard c (fun x => { x with noWrites := true })) (cardBridge c)

/-- Bytes of the row groups a card holds. -/
def heldOn (s : State) (c : Nat) : Nat := 16384 * countIf (fun g => g.2.card == c && !g.2.lost) s.flash.groups

/-- CARD_DRAIN (13 R356, R359). -/
def execCardDrain (h : CmdHdr) (c : Nat) (s : State) : Res :=
  gwCommand (.cardDrain h c) h 0x0502 false 0 (objCard c) (fun s =>
    if 8 ≤ c then .now .cmdIllegal [] [] s
    else if hasFlash s = false then .now .unitAbsent [] [] s
    else if [CardState.inService, .degraded, .readOnly].contains (s.card c).st = false then .now .unitBusy [] [] s
    else if otherCap s c < reservedCap s (cardBridge c) + heldOn s c then .now .capacityShort [] [] s
    else if heldOn s c = 0 then .now .ok [] [] (cardDrained c s)
    else .now .ok [] [] (cardSet c .draining s)) s

/-- CARD_RETURN (13 R357, R359): the bay switch starts; identification, training and TESTING follow. `present` is the bay's
contact, its latch closed. -/
def execCardReturn (h : CmdHdr) (c flags : Nat) (present : Bool) (s : State) : Res :=
  gwCommand (.cardReturn h c flags present) h 0x0503 false 0 (objCard c) (fun s =>
    if 8 ≤ c ∨ 1 < flags then .now .cmdIllegal [] [] s
    else if hasFlash s = false then .now .unitAbsent [] [] s
    else if [CardState.drained, .failed, .absent].contains (s.card c).st = false ∨ present = false ∨ (s.sw (16 + c)).st = .starting then
      .now .unitBusy [] [] (s.modSw (16 + c) (fun w => { w with present := present }))
    else
      let s := s.modCard c (fun x => { x with format := flags == 1, noWrites := false })
      .now .ok [] [] (switchCycle (16 + c) (s.modSw (16 + c) (fun w => { w with latchOpen := false })))) s

end Sys2Proof.Machine
end

