-- ==== Sys2Proof/Machine/GwFab.lean ====
section
/-! DEFINITION. Rows 212 to 218: the fabric commands (16, Table 16.8, R451; 14 R370, R375, R380, R386 to R391). -/

namespace Sys2Proof.Machine

/-- ENDPOINT_ASSIGN (14 R370; 16, Table 16.8). -/
def execEndpointAssign (h : CmdHdr) (ep : Nat) (s : State) : Res :=
  gwCommand (.endpointAssign h ep) h 0x0601 true 0 objDevice (fun s =>
    if ep % 16 ≠ 0 ∨ 0xFFF0 ≤ ep then .now .cmdIllegal [] [] s
    else if s.fab.epBase.any (· != ep) then .now .unitBusy [] [] s
    else .now .ok [] [] (s.modFab (fun f => { f with epBase := some ep }))) s

/-! Routes (14 R375, R380). -/

/-- The object of the route commands: both bridges (log 68). -/
def objRoutes : Nat := objBridge 2

/-- Bridges that a BRIDGE field names: 2 both. -/
def bridgesOf (b : Nat) : List Nat := if b = 2 then [0, 1] else [b]

/-- Writes entries into the version that is not active and leaves it STAGED (14 R380). -/
def stageBridge (first : Nat) (es : List (BitVec 32)) (x : Bridge) : Bridge :=
  let put (m : List (Nat × BitVec 32)) : List (Nat × BitVec 32) := (es.mapIdx (fun i e => (first + i, e))).foldl (fun m p => mset m p.1 p.2) m
  if x.act then { x with v0 := put x.v0, other := .staged } else { x with v1 := put x.v1, other := .staged }

/-- ROUTE_STAGE (14 R375, R380). -/
def execRouteStage (h : CmdHdr) (b first count src : Nat) (s : State) : Res :=
  gwCommand (.routeStage h b first count src) h 0x0602 true 0 objRoutes (fun s =>
    let code := accessCode s false src (4 * count)
    let es : List (BitVec 32) := (List.range count).map (fun i => BitVec.ofNat 32 (leNat (memRead s (src + 4 * i) 4)))
    if 2 < b ∨ 65536 < first + count then .now .cmdIllegal [] [] s
    else if code ≠ .ok then .now code [] [] s
    else if es.any (fun e => !routeLegal e) then .now .cmdIllegal [] [] s
    else if (bridgesOf b).any (fun i => (s.bridge i).other == .draining) then .now .routeBusy [] [] s
    else .now .ok [] [] (each (bridgesOf b) (fun i t => t.modBridge i (stageBridge first es)) s)) s

/-- ROUTE_COMMIT (14 R380): armed on both bridges; it completes at its tick, with ACT. -/
def execRouteCommit (h : CmdHdr) (tick drain : Nat) (s : State) : Res :=
  gwCommand (.routeCommit h tick drain) h 0x0603 true 0 objRoutes (fun s =>
    if drain ≠ 0 ∧ (drain < 100 ∨ 100000 < drain) then .now .cmdIllegal [] [] s
    else if tick < s.tb + 50 then .now .deadlinePassed [] [] s
    else if s.fab.bridges.any (fun x => x.other != .staged) then .now .routeBusy [] [] s
    else .later wCommit 0 (s.modFab (fun f => { f with bridges := f.bridges.map (fun x => { x with
      armedAt := some tick, drainLim := if drain = 0 then 50000 else 50 * drain }) }))) s

/-! Windows (14 R387, R389). -/

/-- A window's fields within Table 14.6. -/
def windowLegal (s : State) (perm home base len : Nat) (srcf : List (Nat × Nat)) : Bool :=
  decide (perm < 4) && decide (srcf.length ≤ 4) && srcf.all (fun p => decide (p.1 < 65536) && decide (p.2 < 65536))
    && base % 64 == 0 && len % 64 == 0 && decide (64 ≤ len) && decide (len ≤ 2 ^ 40) && decide (base / 2 ^ 44 ≤ 4)
    && base / 2 ^ 44 == (base + len - 1) / 2 ^ 44 && localUnit base == localUnit (base + len - 1)
    && place s base != .unmapped && place s (base + len - 1) != .unmapped
    && (match base / 2 ^ 44 with
      | 0 => home == base / 83886080 && home == (base + len - 1) / 83886080
      | 4 => home == 12 + localUnit base / 8
      | _ => home == 12 || home == 13)

/-- A change of a window: at once, or when the requests that passed under the old EPOCH have been performed (14 R389). -/
def winChange (n : Nat) (w : Window) (s : State) : Done :=
  if winBusy s n then .later wWindow n (s.modFab (fun f => { f with winNext := mset f.winNext n w }))
  else
    let s := winSet n w s
    .now .ok (leBytes 4 (winEpoch s n)) [] s

/-- MAP_WINDOW (14 R387, R389; 16 R445). -/
def execMapWindow (h : CmdHdr) (win perm home base len : Nat) (srcf : List (Nat × Nat)) (s : State) : Res :=
  gwCommand (.mapWindow h win perm home base len srcf) h 0x0604 false 0 (objWin win) (fun s =>
    if 4096 ≤ win ∨ windowLegal s perm home base len srcf = false then .now .cmdIllegal [] [] s
    else if rangeAbsent s base then .now .unitAbsent [] [] s
    else if base / 2 ^ 44 ≠ 0 ∧ extentClaimed s base len = false then .now .memUnclaimed [] [] s
    else winChange win { isOpen := true, base := base, length := len, home := home, permR := bit perm 0, permW := bit perm 1, srcf := srcf } s) s

/-- UNMAP_WINDOW (14 R389, Table 14.6). -/
def execUnmapWindow (h : CmdHdr) (win : Nat) (s : State) : Res :=
  gwCommand (.unmapWindow h win) h 0x0605 false 0 (objWin win) (fun s =>
    if 4096 ≤ win then .now .cmdIllegal [] [] s
    else match mget s.fab.windows win with
      | some w => if w.isOpen then winChange win { w with isOpen := false } s else .now .unitBusy (leBytes 4 w.epoch) [] s
      | none => .now .unitBusy (leBytes 4 0) [] s) s

/-! Bindings (14 R390, R391; 16 R451). -/

/-- A range of a row in units of 512 bytes (11 R268). -/
def unitRange (l n : Nat) : Bool := l % 8 == 0 && decide (1 ≤ n) && decide (l + 8 * n ≤ 1310720)

/-- A binding's fields within R390. -/
def bindLegal (x : Binding) (notify ndst nword : Nat) : Bool :=
  decide (x.row < 12) && decide (x.bridge ≤ 1) && decide (x.flow < 256) && unitRange x.dline x.dlen
    && (if x.slen = 0 then x.sline == 0 && x.soff == 0 || x.comp else unitRange x.sline x.slen)
    && decide (x.win < 4096) && decide (x.wepoch < 2 ^ 32) && decide (x.doff < 2 ^ 40) && decide (x.soff < 2 ^ 40)
    && (if x.comp then (x.fmt == 9 || x.fmt == 0xA) && decide (1 ≤ x.v) && decide (x.v ≤ 4095) && x.k % 32 == 0 && decide (32 ≤ x.k)
          && decide (x.k ≤ 512) && x.stride % 64 == 0 && decide (x.stride < 2 ^ 32)
        else x.fmt == 0 && x.v == 0 && x.k == 0 && x.stride == 0)
    && decide (notify ≤ 1) && decide (nword < 2 ^ 64) && (if notify = 1 then ndst % 16 == 12 else ndst == 0 && nword == 0)

/-- A range that touches a retired bank (17 R483). -/
def touchesRetired (s : State) (x : Binding) : Bool :=
  (sendLines x).any (fun g => (banksOf g.1 (g.2 / 8)).any (fun b => (s.bank x.row b).st == .retired))

/-- Replace and delete wait for a send in progress (16 R451). -/
def bindChange (n : Nat) (o : Option Binding) (s : State) : Done :=
  if (s.binding n).any (·.sending) then .later wBind n (s.modFab (fun f => { f with bindNext := mset f.bindNext n o }))
  else .now .ok [] [] (bindSet n o s)

/-- BINDING (14 R390; 16 R445, R451): 0 create or replace, 1 resume, 2 delete. -/
def execBinding (h : CmdHdr) (bind op r b comp fmt flow dline dlen sline slen dst win wepoch doff soff v k stride notify ndst nword : Nat)
    (s : State) : Res :=
  gwCommand (.binding h bind op r b comp fmt flow dline dlen sline slen dst win wepoch doff soff v k stride notify ndst nword)
    h 0x0606 false 0 (objBind bind) (fun s =>
    let x : Binding := { row := r, bridge := b, dline := dline, dlen := dlen, sline := sline, slen := slen, dst := dst, win := win
                         wepoch := wepoch, doff := doff, soff := soff, flow := flow, comp := comp == 1, fmt := fmt, v := v, k := k
                         stride := stride, notify := if notify = 1 then some (ndst, nword) else none }
    if 2 < op ∨ (op = 0 ∧ (1 < comp ∨ bindLegal x notify ndst nword = false)) then .now .cmdIllegal [] [] s
    else if h.argPtr.any (fun a => decide (1 ≤ a / 2 ^ 44) && decide (a / 2 ^ 44 ≤ 4) && !extentClaimed s a 64) then .now .memUnclaimed [] [] s
    else match op, s.binding bind with
      | 0, none => if 1024 ≤ s.fab.bindings.length then .now .capacityShort [] [] s
        else bindChange bind (some { x with halted := touchesRetired s x }) s
      | 0, some _ => bindChange bind (some { x with halted := touchesRetired s x }) s
      | 1, some y => if y.halted then .now .ok [] [] (s.modBinding bind (fun z => { z with halted := touchesRetired s z })) else .now .unitBusy [] [] s
      | _, some _ => bindChange bind none s
      | _, none => .now .unitBusy [] [] s) s

/-- FABRIC_POLICY (14 R386). -/
def execFabricPolicy (h : CmdHdr) (b q1 q2 q3 q4 : Nat) (s : State) : Res :=
  gwCommand (.fabricPolicy h b q1 q2 q3 q4) h 0x0607 false 0 (objBridge b) (fun s =>
    if b < 2 ∧ q1 < q2 ∧ q2 < q3 ∧ q3 < q4 ∧ q4 ≤ 512 then .now .ok [] [] (s.modBridge b (fun x => { x with q := [q1, q2, q3, q4] }))
    else .now .cmdIllegal [] [] s) s

end Sys2Proof.Machine
end

