-- ==== Sys2Proof/Machine/WitOps.lean ====
section
/-! DEFINITION. The Witness unit's operations: linking, predicates, records, the chain, and seals (20). -/

namespace Sys2Proof.Machine

/-! Items and the record buffer (20 R534 to R538). -/

/-- Bytes of an item (20, Table 20.1). -/
def itemSize (x : ItemHeld) : Nat := match x.dec with | some d => 8 + 64 * d.rlen | none => 24
/-- Bytes of the item area in use, at most 6 MiB; bytes of an entry, and of the records that wait to be written, at most the
other 2 MiB (20 R536; log 66). -/
def itemBytes (s : State) : Nat := (s.wit.items.map itemSize).sum
def WitEntry.elen (e : WitEntry) : Nat := (0x60 + e.body.length + 63) / 64 * 64
def recBytes (s : State) : Nat := (s.wit.rings.map (fun g => (g.buf.map WitEntry.elen).sum)).sum
def bufRoom (s : State) (n : Nat) : Bool := decide (recBytes s + n ≤ 0x200000)

/-- The trailer of a completion entry (20, Table 20.2). -/
structure Trailer where
  subject : Nat
  score : Nat
  bound : Nat
  wtag : Nat
  vidx : Nat
  ftag : Nat
  bag0 : Nat
  nbag : Nat
  nfetch : Nat
  wring : Nat

def trailerOf (e : List Byte) : Trailer :=
  { subject := field e 0x28 4, score := field e 0x2C 4, bound := field e 0x30 2, wtag := field e 0x32 2, vidx := field e 0x34 2
    ftag := field e 0x36 2, bag0 := field e 0x38 2, nbag := field e 0x3A 2, nfetch := field e 0x3C 2, wring := field e 0x3E 1 }

/-- Whether a completion of a row links an item (20 R538). -/
def linksFetch (t : Trailer) (row : Nat) (f : FItem) : Bool :=
  f.drow == row && f.ftag == t.ftag && decide (t.bag0 ≤ f.bag) && decide (f.bag < t.bag0 + t.nbag)
def links (t : Trailer) (row : Nat) (x : ItemHeld) : Bool :=
  x.tag == 0 && (x.fetch.any (linksFetch t row)
    || (t.wtag != 0 && (x.grp.any (fun g => g.row == row && g.wtag == t.wtag && g.vidx == t.vidx)
        || x.dec.any (fun d => d.row == row && d.wtag == t.wtag && d.vidx == t.vidx))))

/-- Every linked fetch item has come (20 R540). -/
def itemsHere (s : State) (t : Trailer) (row : Nat) : Bool :=
  decide (t.nfetch ≤ countIf (fun x => x.fetch.any (linksFetch t row)) s.wit.items)

/-! Predicates (20, Table 20.3). -/

/-- SCORE > THR, or with CERT SCORE − BOUND rounded toward −Inf > THR. -/
def predScore (g : WitRing) (t : Trailer) : Bool :=
  match f32Val t.score, bf16Val t.bound with
  | .nan, _ => false
  | .fin _ x, .fin _ b => if g.cert then f32Gt (f32Edge false (x - b)) g.thr else f32Gt t.score g.thr
  | .inf n, .fin _ _ => !n && f32Gt t.score g.thr
  | _, _ => !g.cert && f32Gt t.score g.thr

/-- STATUS and MODE of a decision record; the 48-bit values of a TOPK record's set (09, Table 9.3, R236). -/
def decStatus (d : DItem) : Nat := field d.drec 3 1
def decTopk (d : DItem) : Bool := field d.drec 2 1 == 2
def topkVals (d : DItem) : List Nat := (List.range (field d.drec 0x14 4)).map (fun i =>
  d.row + 2 ^ 8 * d.slot + 2 ^ 16 * d.pane + 2 ^ 32 * field d.drec (64 + 12 * i) 2)

/-- Inserts into a rising list. -/
def insNat (x : Nat) : List Nat → List Nat
  | [] => [x]
  | y :: t => if x ≤ y then x :: y :: t else y :: insNat x t

/-- The digest of the linked top-k sets (20 R539). -/
def topkDigest (ds : List DItem) : List Byte :=
  (Config.shake256 ((((ds.filter decTopk).flatMap topkVals).foldr insNat []).flatMap (leBytes 6))).take 8

/-- The evaluation: the ring's counters and subject table afterwards, and CAUSE (20 R539). -/
def evalPreds (g : WitRing) (t : Trailer) (ds : List DItem) : Nat × WitRing :=
  let p (i : Nat) : Bool := g.pred.getLsbD i
  let c0 := b2n (p 0 && predScore g t)
  let c1 := 2 * b2n (p 1 && ds.any (fun d => decStatus d != 0))
  let use := p 2 && t.subject != 0xFFFFFFFF && ds.any decTopk
  let k := t.subject % 4096
  let now := (t.subject, topkDigest ds)
  let c2 := 4 * b2n (use && (mget g.subj k).getD (0, List.replicate 8 0) != now)
  let cnt := (g.cnt + 1) % 2 ^ 32
  let c3 := 8 * b2n (p 3 && cnt % g.n == 0)
  (c0 + c1 + c2 + c3, { g with subj := if use then mset g.subj k now else g.subj, cnt := if p 3 then cnt else g.cnt })

/-! Records (20, Tables 20.6 to 20.8). -/

def gitemBytes (i : GItem) : List Byte :=
  leBytes 2 i.col ++ leBytes 1 i.group ++ leBytes 1 i.pane ++ leBytes 4 i.sum ++ leBytes 4 i.trunc ++ leBytes 4 i.rem
    ++ leBytes 2 i.wtag ++ leBytes 2 i.vidx ++ leBytes 1 i.row ++ leBytes 1 i.slot ++ leBytes 2 0
def ditemBytes (i : DItem) : List Byte :=
  leBytes 2 i.wtag ++ leBytes 2 i.vidx ++ leBytes 1 i.row ++ leBytes 1 i.slot ++ leBytes 1 i.pane ++ leBytes 1 i.rlen ++ i.drec

/-- A record assembled from a completion and its items (20 R547; 00 R18). A program that is no longer loaded leaves PROG_CRC and
PROG_GEN open, and no linked item leaves TB_FIRST open: free values (log 11). -/
def assemble (s : State) (c : WitCpl) (owner cause : Nat) (short : Bool) (lost : Nat) (g : WitRing) (items : List ItemHeld) : WitEntry :=
  let t := trailerOf c.entry
  let fs := items.filterMap (·.fetch)
  let gs := items.filterMap (·.grp)
  let ds := items.filterMap (·.dec)
  let p := (s.row owner).progs.find? (·.num == c.req.prog)
  let free (i : Nat) : Nat := Config.freeNat (s.fresh + i)
  let first := (items.map (·.tb)).foldl (fun a x => some (match a with | some y => min x y | none => x)) (none : Option Nat)
  let body := leBytes 8 c.req.tag ++ leBytes 4 c.req.job ++ leBytes 2 c.ring ++ leBytes 2 (field c.entry 0x0C 2) ++ leBytes 4 t.score
    ++ leBytes 2 t.bound ++ leBytes 1 cause ++ leBytes 1 owner ++ leBytes 4 t.subject ++ leBytes 4 g.thr
    ++ leBytes 4 ((p.map (·.crc)).getD (free 0)) ++ leBytes 4 ((p.map (·.gen)).getD (free 1)) ++ leBytes 4 s.fab.routeGen
    ++ leBytes 2 (min fs.length 4096) ++ leBytes 2 (min gs.length 1024) ++ leBytes 1 (min ds.length 16) ++ leBytes 1 c.slot
    ++ leBytes 2 t.nfetch ++ leBytes 4 0 ++ leBytes 8 (first.getD (free 2)) ++ leBytes 8 c.tb ++ leBytes 24 0
  { kind := 1, tb := s.tb
    flags := b2n short + 2 * b2n (decide (4096 < fs.length) || decide (1024 < gs.length) || decide (16 < ds.length)) + 4 * b2n (decide (0 < lost))
      + 8 * b2n (fs.any (·.src == 2))
    body := body ++ (fs.take 4096).flatMap fitemBytes ++ (gs.take 1024).flatMap gitemBytes ++ (ds.take 16).flatMap ditemBytes }

/-- A GAP entry (20 R541, R547). -/
def gapEntry (tb : Nat) (p : Nat × Nat × Nat) : WitEntry :=
  { kind := 3, tb := tb, body := leBytes 4 p.1 ++ leBytes 4 0 ++ leBytes 8 p.2.1 ++ leBytes 8 p.2.2 }

/-- A record enters the buffer, behind the GAP entry of the run before it. -/
def acceptRec (w : Nat) (e : WitEntry) (s : State) : State :=
  s.modWring w (fun g => { g with buf := g.buf ++ (match g.gap with | some p => [gapEntry s.tb p] | none => []) ++ [e], gap := none })

/-- A record is given up and counted in DROPPED (20 R541). -/
def giveUp (w : Nat) (s : State) : State :=
  s.modWring w (fun g => { g with dropped := g.dropped + 1, gap := some (match g.gap with
    | some p => (p.1 + 1, p.2.1, s.tb) | none => (1, s.tb, s.tb)) })

/-- The completion posts (20 R541). -/
def witPost (c : WitCpl) (s : State) : State :=
  match s.ring c.ring with
  | some g => postDevice c.ring c.entry (8 * g.owner + c.slot) s
  | none => s

/-- A captured completion: its record accepted, held under STALL, or given up (20 R541). -/
def capture (w : Nat) (e : WitEntry) (c : WitCpl) (s : State) : State :=
  let g := s.wring w
  if g.heldRecs.isEmpty && bufRoom s e.elen then witPost c (acceptRec w e s)
  else if g.stall then s.modWring w (fun g => { g with heldRecs := g.heldRecs ++ [{ entry := e, since := s.tb, cpl := c }] })
  else witPost c (giveUp w s)

/-- The evaluation of a completion of a ring's owner row (20 R539, R540): linked items are consumed; what is still missing is
remembered while it could come. -/
def evalOn (w owner : Nat) (c : WitCpl) (s : State) : State :=
  let t := trailerOf c.entry
  let items := s.wit.items.filter (links t owner)
  let gone := s.wit.lost.filter (fun x => links t owner { x with tag := 0 })
  let short := !itemsHere s t owner
  let r := evalPreds (s.wring w) t (items.filterMap (·.dec))
  let e := assemble s c owner r.1 short gone.length r.2 items
  let here := countIf (fun x => x.fetch.any (linksFetch t owner)) s.wit.items
  let s := s.modWit (fun u => { u with
    items := u.items.filter (fun x => !links t owner x)
    lost := u.lost.filter (fun x => !links t owner { x with tag := 0 })
    late := if short then u.late ++ [{ wring := w, drow := owner, ftag := t.ftag, bag0 := t.bag0, nbag := t.nbag, missing := t.nfetch - here, tb := s.tb }] else u.late
    rings := u.rings.set w { r.2 with itemsLost := r.2.itemsLost + gone.length } })
  if r.1 = 0 then witPost c s else capture w e c (s.modFresh (· + 3))

/-- A completion that the unit takes up (20 R539): on a ring that is not OPEN it posts at once, counted in DROPPED. -/
def evalCpl (c : WitCpl) (s : State) : State :=
  let w := (trailerOf c.entry).wring
  let s := s.modRings (fun m => { m with witHeld := m.witHeld.erase c })
  if w < 16 ∧ (s.wring w).st = .opened then
    match s.ring c.ring with
    | some g => evalOn w g.owner c s
    | none => s
  else witPost c (s.modWring w (fun g => { g with dropped := g.dropped + 1 }))

/-- A completion that need not wait for items (20 R539, R540). -/
def cplReady (s : State) (c : WitCpl) : Bool :=
  let t := trailerOf c.entry
  !(decide (t.wring < 16) && (s.wring t.wring).st == .opened) || itemsHere s t (((s.ring c.ring).map (·.owner)).getD 0)

/-- The unit takes completions in order of arrival, those of one tick in ascending ring number (20 R539; log 66). -/
def cplBefore (a b : WitCpl) : Bool := decide (a.tb < b.tb) || (a.tb == b.tb && decide (a.ring < b.ring))

/-! Seals (20 R549). -/

/-- A ring that is CLOSING has nothing left to write but its final seal (20 R545). -/
def closingDone (g : WitRing) : Bool := g.st == .closing && g.buf.isEmpty && g.gap.isNone && g.heldRecs.isEmpty

/-- The engine starts on the next trigger: LAST is fixed. -/
def sealStart (s : State) : State :=
  match s.wit.signing, s.wit.sealQueue with
  | none, w :: rest =>
    let g := s.wring w
    (s.modWit (fun u => { u with
      sealQueue := rest
      signing := some { ring := w, last := g.lastChained, hLast := g.prev, closed := closingDone g, forced := g.sealCmd.isSome } })).modWring w
      (fun g => { g with sinceSeal := 0, sealCmd := g.sealCmd.map (fun _ => true) })
  | _, _ => s

/-- A trigger: it merges with one of its ring that waits. -/
def sealTrigger (w : Nat) (s : State) : State :=
  sealStart (s.modWit (fun u => { u with sealQueue := addNew u.sealQueue w }))

/-- The final seal of a ring that has nothing left to write is triggered. -/
def closeGo (w : Nat) (s : State) : State :=
  if closingDone (s.wring w) && !(s.wit.signing.any (fun x => x.ring == w && x.closed)) then sealTrigger w s else s

/-- WITNESS_RING with LEN 0, and a warm restart, close a ring (20 R545). -/
def witClose (w : Nat) (s : State) : State := closeGo w (s.modWring w (fun g => { g with st := .closing }))

/-- A ring FAILED: its completions post without records, its commands end, a platform record is written (20 R545). -/
def witFail (w : Nat) (c : Code) (s : State) : State :=
  let g := s.wring w
  let s := s.modWring w (fun g => { g with st := if g.st == .closing then .closed else .failed, buf := [], gap := none, heldRecs := [], sealCmd := none, failCode := c.val })
  let s := s.modWit (fun u => { u with sealQueue := u.sealQueue.filter (· != w), signing := u.signing.filter (·.ring != w) })
  let s := errRecord { code := c, unit := uSpine 1, op := 0, platform := true, detail := w } s
  let s := each g.heldRecs (fun x => witPost x.cpl) s
  sealStart (completeWait wOpen w c [] [] (completeWait wSeal w c [] [] (completeWait wClose w .ok [] [] s)))

/-! The chain (20 R543, R544, R546, R548). -/

/-- The unit reads CONSUMED again; a value that is no entry boundary at or below PRODUCED is ignored and recorded (20 R543). -/
def readConsumed (w : Nat) (s : State) : State :=
  let g := s.wring w
  let v := field (memRead s (g.base + 8) 8) 0 8
  if v = g.consumed then s
  else if g.bounds.contains v then s.modWring w (fun g => { g with consumed := v, bounds := g.bounds.filter (fun b => decide (v < b)) })
  else errRecord { code := .cmdIllegal, unit := uSpine 1, op := 0, detail := v } s

/-- Bytes that an entry of n bytes needs at PRODUCED: itself, and the PAD that fills the end of the area. -/
def padOf (g : WitRing) (n : Nat) : Nat :=
  let o := g.produced % (g.len - 64)
  if g.len - 64 < o + n then g.len - 64 - o else 0
def entryFits (g : WitRing) (n reserve : Nat) : Bool := decide (padOf g n + n + reserve ≤ witFree g)

/-- Writes an entry of whole bytes at PRODUCED, with its PAD, then PRODUCED; the code of the answer (20 R543). -/
def putEntry (w : Nat) (l : List Byte) (s : State) : Code × State :=
  let g := s.wring w
  let o := g.produced % (g.len - 64)
  let pad := padOf g l.length
  let a := g.base + 64 + (if pad = 0 then o else 0)
  match accessCode s true a l.length with
  | .ok =>
    let s := if pad = 0 then s else memWrite s (g.base + 64 + o) (leBytes 4 0xFF ++ leBytes 4 pad)
    let s := memWrite s a l
    let p := g.produced + pad + l.length
    (.ok, (memWrite s g.base (leBytes 8 p)).modWring w (fun g => { g with
      produced := p, eseq := g.eseq + 1, bounds := g.bounds ++ (if pad = 0 then [] else [g.produced + pad]) ++ [p] }))
  | c => (c, s)

/-- The bytes of a chained entry (20, Table 20.4). -/
def WitEntry.bytes (e : WitEntry) (w : Nat) (g : WitRing) : List Byte :=
  let l := leBytes 1 e.kind ++ leBytes 1 w ++ leBytes 2 e.flags ++ leBytes 4 e.elen ++ leBytes 8 g.eseq ++ leBytes 8 e.tb
    ++ (if e.kind = 4 then List.replicate 64 0 else g.prev) ++ leBytes 8 0 ++ e.body
  l ++ List.replicate (e.elen - l.length) 0

/-- What an entry's writing leaves: the chain goes on, 4,096 entries trigger a seal, the OPEN entry opens the ring (20 R542, R548,
R549). -/
def chained (w : Nat) (e : WitEntry) (l : List Byte) (n : Nat) (s : State) : State :=
  let h := Config.shake256 l
  let s := s.modWring w (fun g => { g with
    prev := h, lastChained := some n, sinceSeal := g.sinceSeal + 1, captured := g.captured + (if e.kind = 1 then 1 else 0)
    prevSeal := if e.kind = 4 then h else g.prevSeal, st := if e.kind = 4 then .opened else g.st })
  let s := if e.kind = 4 then completeWait wOpen w .ok [] [] s else s
  if 4096 ≤ (s.wring w).sinceSeal then sealTrigger w s else s

/-- Records held under STALL enter the buffer as there is room, and their completions post (20 R541). -/
def stallDrain : Nat → Nat → State → State
  | 0, _, s => s
  | k + 1, w, s =>
    match (s.wring w).heldRecs with
    | x :: rest =>
      if bufRoom s x.entry.elen then stallDrain k w (witPost x.cpl (acceptRec w x.entry (s.modWring w (fun g => { g with heldRecs := rest })))) else s
    | [] => s

/-- The seal's first 192 bytes (20, Table 20.9). -/
def sealHead (s : State) (x : WitSign) : List Byte :=
  let g := s.wring x.ring
  leBytes 1 2 ++ leBytes 1 x.ring ++ leBytes 2 (b2n x.closed + 2 * b2n x.forced) ++ leBytes 4 50048 ++ leBytes 8 g.eseq ++ leBytes 8 s.tb
    ++ leBytes 8 ((g.sealedTo.map (· + 1)).getD 0) ++ leBytes 8 (x.last.getD 0) ++ x.hLast ++ g.prevSeal
    ++ leBytes 16 s.eeprom.ident.serial ++ leBytes 4 s.boot.bootNo ++ leBytes 4 0

end Sys2Proof.Machine
end

