-- ==== Sys2Proof/Machine/GwSys.lean ====
section
/-! DEFINITION. Rows 194 to 199: timeouts, calibration, defects, restart and firmware handoff (16, Table 16.6; 18 R484, R489, R500,
R501, R505, R506; 05 R141, R142; 20 R545). -/

namespace Sys2Proof.Machine

/-- The range of a level (18, Table 18.1). -/
def timeoutOk (level v : Nat) : Bool :=
  match level with
  | 0 => decide (500 ≤ v ∧ v ≤ 500000)
  | 1 | 2 => decide (5000 ≤ v ∧ v < 2 ^ 32)
  | 3 => decide (5000000 ≤ v ∧ v ≤ 500000000)
  | 4 => decide (50000 ≤ v ∧ v ≤ 500000000)
  | 5 => decide (v ≤ 2 ^ 40)
  | _ => false

/-- The new value of a level; for a job it clears the expiry and arms a new timer, 0 removes it (18 R484, R489). -/
def setTimeout (level job v : Nat) (g : Gw) : Gw :=
  match level with
  | 0 => { g with tmoNet := v }
  | 1 => { g with tmoDma := v }
  | 2 => { g with tmoAst := v }
  | 3 => { g with tmoMgmt := v }
  | 4 => { g with tmoFab := v }
  | _ => { g with jobTmo := if v = 0 then mdel g.jobTmo job else mset g.jobTmo job v, jobAt := mdel g.jobAt job
                  jobExpired := g.jobExpired.filter (· != job) }

/-- TIMEOUT_SET (18 R484, R489). -/
def execTimeoutSet (h : CmdHdr) (level job value : Nat) (s : State) : Res :=
  gwCommand (.timeoutSet h level job value) h 0x0305 true 0 objDevice (fun s =>
    if timeoutOk level value then .now .ok [] [] (s.modGw (setTimeout level job value)) else .now .cmdIllegal [] [] s) s

/-- RECALIBRATE (18 R505, R506): the searches start, or wait for a row's wake; a DARK or OUT row is skipped. -/
def execRecalibrate (h : CmdHdr) (r what : Nat) (s : State) : Res :=
  gwCommand (.recalibrate h r what) h 0x0306 false 0 objDevice (fun s =>
    if (12 ≤ r ∧ r ≠ 0xFF) ∨ 1 < what then .now .cmdIllegal [] [] s
    else if what = 1 then .now .ok [] [] (s.modClk (fun c => { c with recalSensors := some (c.recalSensors.getD s.tb) }))
    else
      let rows := (List.range 12).filter (fun k => (r == 0xFF || k == r) && !rowIsDark s k && !rowIsOut s k)
      .now .ok [] [] (s.modClk (fun c => { c with recalRows := rows.foldl addNew c.recalRows }))) s

/-- DEFECT_CLEAR (05 R141). -/
def execDefectClear (h : CmdHdr) (u : Nat) (s : State) : Res :=
  gwCommand (.defectClear h u) h 0x0307 true 0 objDevice (fun s =>
    if u ≠ 0 ∧ uClass u = 0 then .now .cmdIllegal [] [] s
    else .now .ok [] [] (s.modBoot (fun b => { b with clearReq := addNew b.clearReq u }))) s

/-- The warm restart begins (05 R142; 20 R545; 21, Table 21.5): Witness rings close, the memories enter self-refresh, BU0 is next. -/
def warmRestart (s : State) : State :=
  let s := each ((List.range 16).filter (fun w => (s.wring w).st == .opened)) witClose s
  let s := measure 0x09 0 s.boot.bootNo (Config.shake256 (List.replicate 64 0)) s
  let s := s.modMem (fun m => { m with units := m.units.map (fun x => { x with selfRefresh := x.st != .absent }) })
  s.modBoot (fun b => { b with stage := 0, st := .running, warm := true, stageTb := s.tb })

/-- RESTART (05 R142): the reply and the ACK are written, then the warm restart begins. -/
def execRestart (h : CmdHdr) (kind : Nat) (s : State) : Res :=
  gwCommand (.restart h kind) h 0x0308 true 0 objDevice (fun s =>
    if kind ≠ 0 then .now .cmdIllegal [] [] s else .after s warmRestart) s

/-- The core that stands by. -/
def standbyCore (s : State) : Option Nat := (List.range 2).find? (fun m => nth s.gw.mc m == .standby)

/-- HANDOFF (18 R500; 21 R557): the standby core fetches the image, or the running one is restarted. -/
def execHandoff (h : CmdHdr) (image : Nat) (s : State) : Res :=
  gwCommand (.handoff h image) h 0x0309 true 0 (objUnit (uMc 0)) (fun s =>
    if 8 ≤ image ∧ image ≠ 0xFF then .now .cmdIllegal [] [] s
    else if standbyCore s = none then .now .unitBusy [] [] s
    else if image = 0xFF then .later wHandoff 0 (s.modGw (fun g => { g with handoff := some (0xFF, 1) }))
    else .later wHandoff 0 (imgRequest image 0 0 (s.modGw (fun g => { g with handoff := some (image, 0), imgBuf := [] })))) s

/-- The new image is the one that runs (21 R555, R558). -/
def runImage (index : Nat) (s : State) : State :=
  let hd := s.gw.imgHdr
  measure 0x05 index (field hd 8 4 + 2 ^ 32 * field hd 0x0C 4) (Config.shake256 hd)
    (s.modGw (fun g => { g with imageIdx := index, version := field hd 8 4, nhkey := field hd 7 1 }))

/-- HANDOFF_IMAGE_VERIFIED (18 R500, R501; Table 18.3): the running core stops and carries its commands in the handoff record, the
boot role moves in one step, the new core replies to HANDOFF and the old one becomes the standby. -/
def execHandoffImageVerified (s : State) : Res :=
  match s.gw.handoff, s.gw.running with
  | some (image, 1), some c =>
    if gwServes s = false then .next s
    else if nth s.gw.mc (1 - c) ≠ .standby then
      .next (completeWait wHandoff 0 .unitBusy [] [] (s.modGw (fun g => { g with handoff := none })))
    else
      let s := if image = 0xFF then runImage s.gw.imageIdx s
        else runImage image (s.modGw (fun g => { g with imgHdr := g.imgBuf.take 768, imgBuf := [] }))
      let s := s.modGw (fun g => { g with
        handoff := none, handoffRec := (g.cmds.filter (·.wait != wHandoff)).map (·.id), running := some (1 - c)
        mc := (g.mc.set (1 - c) .running).set c .standby, wdAt := s.tb + g.tmoMgmt })
      .next (completeWait wHandoff 0 .ok [] [] (s.modBoot (fun b => { b with bootCore := 1 - c })))
  | _, _ => .next s

end Sys2Proof.Machine
end

