-- ==== Sys2Proof/Machine/GwMbx.lean ====
section
/-! DEFINITION. Rows 219 to 228: the commands for mailbox channels, rings, the Witness unit and security, and replies that are
retried (16, Table 16.9, R439; 15 R421, R423, R434, R599; 20 R542, R545, R549; 21 R559, R564, R565). -/

namespace Sys2Proof.Machine

/-- The receiver a code names (15 R421). -/
def rcvOf (n : Nat) : Rcv := if n = 0 then .mgmtCore else if n = 1 then .chaviHost else if n = 2 then .mgmtNet else .fabricPeer

/-- CHANNEL_CONFIGURE (15 R421, R599): a held message stays; it applies to writes after completion. -/
def execChannelConfigure (h : CmdHdr) (ch rcv flags smatch rdest rchan : Nat) (s : State) : Res :=
  gwCommand (.channelConfigure h ch rcv flags smatch rdest rchan) h 0x0701 true 0 (objChan ch) (fun s =>
    if nChans s ≤ ch ∨ 3 < rcv ∨ 7 < flags ∨ 1024 ≤ rchan ∨ (rcv ≠ 3 ∧ (rdest ≠ 0 ∨ rchan ≠ 0)) ∨ (2 ≤ rcv ∧ ch < secureEnd s) then
      .now .cmdIllegal [] [] s
    else .after s (fun s => s.setChan ch { s.chan ch with
      rcv := rcvOf rcv, shared := bit flags 0, classMatch := bit flags 1, enabled := bit flags 2, smatch := smatch
      rdest := rdest, rchan := rchan })) s

/-! Rings (15 R423, R434). -/

/-- SLOTS, NOTIFY, DBCHAVI, DBSRC and TMO within Table 15.7. -/
def ringFields (slots notify dbchavi : Nat) (dbsrc : List (Nat × Nat)) (tmo : Nat) : Bool :=
  decide (slots < 256) && decide (notify ≤ 1) && decide (dbchavi ≤ 1) && dbsrc.length == 2
    && dbsrc.all (fun p => decide (p.1 < 65536) && decide (p.2 < 65536)) && decide (tmo < 2 ^ 40)

/-- A ring's base: aligned to its size, in regions 0x1 to 0x4, mapped (15 R423). -/
def ringBase (s : State) (a n : Nat) : Bool :=
  a % n == 0 && decide (1 ≤ a / 2 ^ 44) && decide (a / 2 ^ 44 ≤ 4) && place s a != .unmapped && place s (a + n - 1) != .unmapped

/-- The extents of a ring in memory. -/
def ringExtents (mem : Bool) (rq cq n : Nat) : List (Nat × Nat) := (rq, n) :: (if mem then [(cq, n)] else [])

/-- RING_CREATE (15 R423, R434; 16 R445; 17 R483). -/
def execRingCreate (h : CmdHdr) (ring owner slots log2 cqtarget cqchan notify dbchavi rq cq : Nat) (dbsrc : List (Nat × Nat)) (tmo : Nat)
    (s : State) : Res :=
  gwCommand (.ringCreate h ring owner slots log2 cqtarget cqchan notify dbchavi rq cq dbsrc tmo) h 0x0702 false 0 (objRing ring) (fun s =>
    let n := 64 * 2 ^ log2
    let mem := cqtarget == 0
    let gs := ringExtents mem rq cq n
    if 65536 ≤ ring ∨ 12 ≤ owner ∨ 12 < log2 ∨ 1 < cqtarget ∨ ringFields slots notify dbchavi dbsrc tmo = false
        ∨ (mem = true ∧ cqchan ≠ 0) ∨ (mem = false ∧ (cq ≠ 0 ∨ nChans s ≤ cqchan)) ∨ gs.any (fun g => !ringBase s g.1 g.2) then
      .now .cmdIllegal [] [] s
    else if gs.any (fun g => rangeAbsent s g.1) then .now .unitAbsent [] [] s
    else if gs.any (fun g => !extentClaimed s g.1 g.2) then .now .memUnclaimed [] [] s
    else if (s.ring ring).isSome then .now .unitBusy [] [] s
    else if 8192 ≤ countIf (fun p => p.2.owner == owner) s.rings.rings then .now .capacityShort [] [] s
    else if rowIsOut s owner ∨ (List.range 8).any (fun c => bit slots c && (prmPos s owner c).isNone) then .now .unitRetired [] [] s
    else if rowIsDark s owner then .now .rowDark [] [] s
    else
      let s := if mem ∧ accessCode s true cq n = .ok then memZero s cq n else s
      let g : RqRing := { owner := owner, slots := BitVec.ofNat 8 slots, log2size := log2, rqBase := rq, cqBase := cq
                          cqChan := if mem then none else some cqchan, notify := notify == 1, dbChavi := dbchavi == 1, dbSrc := dbsrc, tmo := tmo }
      .now .ok [] [] (ringsCheck (s.modRings (fun m => { m with rings := mset m.rings ring g })))) s

/-- A ring that still holds something: entries, requests, or completions (15 R434; 18 R488; 20 R541). -/
def ringBusy (s : State) (n : Nat) (g : RqRing) : Bool :=
  !g.failed && (g.count != 0 || !g.out.isEmpty || !g.held.isEmpty || witCount s n != 0)

/-- RING_DESTROY (15 R434; 17 R483; 18 R488). -/
def execRingDestroy (h : CmdHdr) (ring : Nat) (s : State) : Res :=
  gwCommand (.ringDestroy h ring) h 0x0703 false 0 (objRing ring) (fun s =>
    match s.ring ring with
    | none => .now .ringUnknown [] [] s
    | some g =>
      if ringBusy s ring g then .now .unitBusy [] [] s
      else .now .ok [] [] (s.modRings (fun m => { m with rings := mdel m.rings ring }))) s

/-- RING_MODIFY (15 R434). -/
def execRingModify (h : CmdHdr) (ring slots notify dbchavi : Nat) (dbsrc : List (Nat × Nat)) (tmo : Nat) (s : State) : Res :=
  gwCommand (.ringModify h ring slots notify dbchavi dbsrc tmo) h 0x0704 false 0 (objRing ring) (fun s =>
    if ringFields slots notify dbchavi dbsrc tmo = false then .now .cmdIllegal [] [] s
    else if (s.ring ring).isNone then .now .ringUnknown [] [] s
    else .now .ok [] [] (s.modRing ring (fun g => { g with
      slots := BitVec.ofNat 8 slots, notify := notify == 1, dbChavi := dbchavi == 1, dbSrc := dbsrc, tmo := tmo }))) s

/-! The Witness unit (20 R542, R545, R549). -/

/-- WITNESS_RING's fields when it opens a ring (20 R542). -/
def witLegal (s : State) (pred flags n thr base len : Nat) : Bool :=
  let fin : Bool := match f32Val thr with | .fin _ _ => true | _ => false
  (base / 2 ^ 44 == 3 || base / 2 ^ 44 == 4) && base % 2 ^ 21 == 0 && len % 2 ^ 21 == 0 && decide (2 ^ 22 ≤ len) && decide (len ≤ 2 ^ 38)
    && base / 2 ^ 44 == (base + len - 1) / 2 ^ 44 && localUnit base == localUnit (base + len - 1)
    && place s base != .unmapped && place s (base + len - 1) != .unmapped
    && decide (1 ≤ pred) && decide (pred < 16) && decide (flags < 4)
    && (if bit pred 0 then fin else thr == 0) && (if bit pred 3 then n != 0 else n == 0) && decide (n < 2 ^ 32)

/-- The body of the OPEN entry (20, Table 20.10). -/
def openBody (s : State) (pred flags n thr base len : Nat) : List Byte :=
  leBytes 16 s.eeprom.ident.serial ++ leBytes 4 s.boot.bootNo ++ leBytes 1 pred ++ leBytes 1 flags ++ leBytes 2 0 ++ leBytes 4 n
    ++ leBytes 4 thr ++ leBytes 8 base ++ leBytes 8 len ++ Config.attestKey s.fuse.seed

/-- The ring as it is opened, its OPEN entry waiting to be written. -/
def witOpened (s : State) (pred flags n thr base len : Nat) : WitRing :=
  { pred := BitVec.ofNat 4 pred, stall := bit flags 0, cert := bit flags 1, n := n, thr := thr, base := base, len := len
    sealTb := s.tb, buf := [{ kind := 4, tb := s.tb, body := openBody s pred flags n thr base len }] }

/-- Opening a ring (20 R542, R545): pages claimed, the control line zero, the OPEN entry next. -/
def witOpenGo (w pred flags n thr base len : Nat) (s : State) : Done :=
  let s := claimPages (pagesOf s base len) s
  let s := s.modWring w (fun _ => witOpened s pred flags n thr base len)
  match accessCode s true base 64 with
  | .ok => .later wOpen w (memZero s base 64)
  | c => .now c [] [] (witFail w c s)

/-- WITNESS_RING (20 R542, R545). -/
def execWitnessRing (h : CmdHdr) (w pred flags n thr base len : Nat) (s : State) : Res :=
  gwCommand (.witnessRing h w pred flags n thr base len) h 0x0901 false 0 (objWit w) (fun s =>
    if 16 ≤ w ∨ (len ≠ 0 ∧ witLegal s pred flags n thr base len = false) then .now .cmdIllegal [] [] s
    else if hasWitness s = false ∨ (len ≠ 0 ∧ rangeAbsent s base = true) then .now .unitAbsent [] [] s
    else if len = 0 then
      match (s.wring w).st with
      | .opened => .later wClose w (witClose w s)
      | .failed => .now .ok [] [] (s.modWring w (fun g => { g with st := .closed }))
      | _ => .now .unitBusy [] [] s
    else if (s.wring w).st ≠ .closed ∨ (pagesOf s base len).any (fun k => s.mem.claimed.contains k || (pageEnt s k).st == .borrowed) then
      .now .unitBusy [] [] s
    else witOpenGo w pred flags n thr base len s) s

/-- WITNESS_SEAL (20 R549). -/
def execWitnessSeal (h : CmdHdr) (w : Nat) (s : State) : Res :=
  gwCommand (.witnessSeal h w) h 0x0902 false 0 (objWit w) (fun s =>
    if 16 ≤ w then .now .cmdIllegal [] [] s
    else if hasWitness s = false then .now .unitAbsent [] [] s
    else if (s.wring w).st ≠ .opened then .now .unitBusy [] [] s
    else .later wSeal w (sealTrigger w (s.modWring w (fun g => { g with sealCmd := some false })))) s

/-! Security (21 R559, R564, R565). -/

/-- The header of a quote (21, Table 21.6). -/
def quoteHeader (s : State) (nonce : List Byte) : List Byte :=
  leBytes 4 0x5141444B ++ leBytes 2 1 ++ leBytes 1 s.sec.scope.toNat ++ leBytes 1 0 ++ leBytes 16 s.eeprom.ident.serial
    ++ leBytes 4 s.boot.bootNo ++ leBytes 4 (spnCaps s) ++ leBytes 8 s.tb ++ nonce ++ s.sec.mr ++ s.sec.baseMr
    ++ leBytes 8 ((s.sec.log.head?.map (·.index)).getD 0) ++ leBytes 4 s.sec.log.length
    ++ leBytes 1 (s.fuse.keyProg.toNat + 16 * s.fuse.keyRev.toNat) ++ List.replicate 11 0
    ++ Config.identKey s.fuse.seed ++ Config.attestKey s.fuse.seed ++ List.replicate 32 0

/-- ATTEST_QUOTE (21 R559): header and entries are taken as one copy, and the quote waits for its signature. -/
def execAttestQuote (h : CmdHdr) (nonce : List Byte) (s : State) : Res :=
  gwCommand (.attestQuote h nonce) h 0x0A01 false (384 + 96 * s.sec.log.length + 49856) 0 (fun s =>
    let body := quoteHeader s nonce ++ s.sec.log.flatMap MeasEnt.bytes
    .later wQuote s.gw.nextId (s.modSec (fun x => { x with quotes := x.quotes ++ [{ cmd := s.gw.nextId, resptr := h.resptr, body := body }] }))) s

/-- A fused key that images, tokens and records may use: programmed and not revoked (21 R556). -/
def keyUsable (s : State) (k : Nat) : Bool := s.fuse.keyProg.getLsbD k && !s.fuse.keyRev.getLsbD k

/-- The signature of bytes under FWKEYk. -/
def keySigned (s : State) (k : Nat) (l sig : List Byte) : Bool := Config.slhVerify (leBytes 64 (nth s.fuse.fwkeys k)) l sig

/-- The checks of a debug token, in order (21 R565, Table 21.8). -/
def tokenCheck (s : State) (t sig : List Byte) : Code :=
  let k := field t 6 1
  if t.length ≠ 128 ∨ sig.length ≠ 29792 ∨ field t 0 4 ≠ 0x5544444B ∨ field t 4 2 ≠ 1 ∨ 3 < k ∨ 7 < field t 7 1 ∨ (t.drop 0x48).any (· != 0) then .cmdIllegal
  else if field t 8 16 ≠ s.eeprom.ident.serial ∨ (t.drop 0x18).take 32 ≠ (Config.shake256 (Config.identKey s.fuse.seed)).take 32
      ∨ (t.drop 0x38).take 16 ≠ s.sec.chal then .tokenInvalid
  else if keyUsable s k = false then .keyRevoked
  else if keySigned s k t sig = false then .sigInvalid
  else .ok

/-- DEBUG_UNLOCK (21 R565): the token's scope joins the scope in force, and the token is measured. -/
def execDebugUnlock (h : CmdHdr) (token sig : List Byte) (s : State) : Res :=
  gwCommand (.debugUnlock h token sig) h 0x0A02 false 0 objDevice (fun s =>
    match tokenCheck s token sig with
    | .ok =>
      let sc := s.sec.scope ||| BitVec.ofNat 3 (field token 7 1)
      .now .ok [] [] (measure 0x07 (field token 7 1) 0 (Config.shake256 token) (s.modSec (fun x => { x with scope := sc })))
    | c => .now c [] [] s) s

/-- SLOT is the last unrevoked programmed key (21 R564). -/
def lastKey (s : State) (k : Nat) : Bool :=
  keyUsable s k && (List.range 4).all (fun j => j == k || !keyUsable s j)

/-- The checks of a revocation record, in order (21 R564). -/
def revokeCheck (s : State) (r sig : List Byte) : Code :=
  let slot := field r 6 1
  let k := field r 7 1
  if r.length ≠ 64 ∨ sig.length ≠ 29792 ∨ field r 0 4 ≠ 0x524B444B ∨ field r 4 2 ≠ 1 ∨ 3 < slot ∨ 3 < k
      ∨ (field r 8 16 ≠ 0 ∧ field r 8 16 ≠ s.eeprom.ident.serial) ∨ (r.drop 0x18).any (· != 0) then .cmdIllegal
  else if keyUsable s k = false then .keyRevoked
  else if keySigned s k r sig = false then .sigInvalid
  else if lastKey s slot then .cmdIllegal
  else .ok

/-- KEY_REVOKE (21 R564): the bit is blown, unless it already is, and the record measured. -/
def execKeyRevoke (h : CmdHdr) (record sig : List Byte) (s : State) : Res :=
  gwCommand (.keyRevoke h record sig) h 0x0A03 true 0 objDevice (fun s =>
    let slot := field record 6 1
    match revokeCheck s record sig with
    | .ok =>
      .now .ok [] [] (measure 0x08 slot 0 (Config.shake256 record) (s.modFuse (fun f => { f with keyRev := setBit f.keyRev slot })))
    | c => .now c [] [] s) s

/-- REPLY_RETRY (16 R439): reply i of those being retried, every 1 ms; after 1 s it is abandoned with a record. -/
def execReplyRetry (i : Nat) (s : State) : Res :=
  match s.gw.retries[i]? with
  | none => .next s
  | some x =>
    if gwServes s = false ∨ s.tb < x.since + 50000 * (x.tries + 1) then .next s
    else
      let drop (s : State) : State := s.modGw (fun g => { g with retries := g.retries.eraseIdx i })
      match mbxWrite x.rchan x.msg (gwStamp s) s with
      | (.mbxFull, _) =>
        if 999 ≤ x.tries then .next (errRecord { code := .mbxFull, unit := uMc (s.gw.running.getD 0), op := 0, detail := x.rchan } (drop s))
        else .next (s.modGw (fun g => { g with retries := g.retries.set i { x with tries := x.tries + 1 } }))
      | (_, t) => .next (drop t)

end Sys2Proof.Machine
end

