-- ==== Sys2Proof/Machine/Mgmt.lean ====
section
/-! DEFINITION. Rows 236 to 239: the management watchdog, failover and what resumes after it (18 R484, R502 to R504). -/

namespace Sys2Proof.Machine

/-- MGMT_WATCHDOG_RESTART (18 R484): the restart write of Gwynpin. -/
def execMgmtWatchdogRestart (s : State) : Res :=
  if gwServes s then .next (s.modGw (fun g => { g with wdAt := s.tb + g.tmoMgmt })) else .next s

/-- A core that the defect map calls good (05, Table 5.7). -/
def mcGood (s : State) (m : Nat) : Bool := if m = 0 then s.dmap.mc0 else s.dmap.mc1

/-- Failover from core c (18 R503, R504): the boot role moves to the standby; with one good core, that core is restarted; with
none, commands wait. `dup` says that c failed after writing the reply of this tick and before its completion mark. -/
def failover (c : Nat) (dup : Bool) (s : State) : State :=
  let s := s.modGw (fun g => { g with
    failAt := some s.tb, dupReply := if dup then (g.lastReply.filter (fun p => p.2.2 == s.tb)).map (fun p => (p.1, p.2.1)) else g.dupReply })
  let rec_ (k : Code) : Rec := { code := k, unit := uMc c, op := 0x13, platform := true, leaf := .ev 8 0 }
  let dropTest (s : State) : State := s.modGw (fun g => { g with tests := g.tests.filter (·.unit != uMc c) })
  if nth s.gw.mc (1 - c) = .standby then
    errRecord (rec_ .failover) ((s.modGw (fun g => { g with mc := (g.mc.set c .reset).set (1 - c) .running, running := some (1 - c) })).modBoot
      (fun b => { b with bootCore := 1 - c }))
  else if mcGood s c then dropTest (errRecord (rec_ .failover) s)
  else dropTest (errRecord (rec_ .noCore) (s.modGw (fun g => { g with mc := [.failed, .failed], running := none })))

/-- MGMT_WATCHDOG_EXPIRY (18 R484, R503). -/
def execMgmtWatchdogExpiry (dup : Bool) (s : State) : Res :=
  match s.gw.running with
  | some c =>
    if alive s = true ∧ s.boot.st = .ready ∧ s.gw.failAt = none ∧ s.gw.wdAt ≤ s.tb then
      .next (failover c dup (errRecord { code := .mcWatchdog, unit := uMc c, op := 0x13, platform := true, leaf := Leaf.other } s))
    else .next s
  | none => .next s

/-- MC_HALT (18 R503): a double trap or a parity error of the running core. -/
def execMcHalt (dup : Bool) (s : State) : Res :=
  match s.gw.running with
  | some c => if alive s = true ∧ s.boot.st = .ready ∧ s.gw.failAt = none then .next (failover c dup s) else .next s
  | none => .next s

/-- FAILOVER_RESUME (18 R502, R503): the new core has its state from the journal; a reply without its completion mark is written a
second time, and commands go on. -/
def execFailoverResume (s : State) : Res :=
  if s.gw.failAt = none ∨ s.gw.running = none ∨ alive s = false then .next s
  else
    let s := match s.gw.dupReply with
      | some (ch, msg) => writeReply ch msg s
      | none => s
    .next (s.modGw (fun g => { g with failAt := none, dupReply := none, wdAt := s.tb + g.tmoMgmt }))

end Sys2Proof.Machine
end

