-- ==== Sys2Proof/Machine/PwrCtl.lean ====
section
/-! DEFINITION. Rows 110 and 240 to 245: fast check, phase markers, temperatures, thermal halt, and the power group (19 R513 to R523,
R529 to R533; 12 R310). -/

namespace Sys2Proof.Machine

/-! The controller (19 R513, R519). -/

/-- A fast check of Table 19.1 fails on 10 µs means. -/
def fastFails (m : FastMeans) (s : State) : Bool :=
  decide (105 * moduleLimit s < 100 * m.input) || decide (105 * s.cap.package < 100 * m.package)
    || (List.range 2).any (fun h => decide (1000 * (s.half h).iLim < nth m.halves h))
    || (List.range 12).any (fun r => (s.conv r).st == .capped && decide ((s.conv r).ratingMa < nth m.rows r))

/-- POWER_FAST_CHECK (19 R513, R514): one step lower. -/
def execPowerFastCheck (m : FastMeans) (s : State) : Res :=
  if alive s = true ∧ s.boot.st = .ready ∧ s.clk.cur ≠ 0 ∧ fastFails m s = true then
    .next ((armCeiling (s.clk.cur - 1) s).modCap (fun c => { c with lastDrop := some s.tb }))
  else .next s

/-- The phase table after a marker (19 R517): the entry is stamped, or takes a free place, or that of the oldest marker. -/
def phaseSeen (p tb : Nat) (l : List PhaseEnt) : List PhaseEnt :=
  if l.any (·.phase == p) then l.map (fun e => if e.phase = p then { e with tb := tb } else e)
  else if l.length < 256 then l ++ [{ phase := p, tb := tb }]
  else
    let old := l.foldl (fun a e => min a e.tb) tb
    match l.find? (·.tb == old) with
    | some e => l.erase e ++ [{ phase := p, tb := tb }]
    | none => l

/-- PHASE_MARKER (19 R517, R519): the oldest marker on its way arrives; it is taken into account at once unless a change is
armed. -/
def execPhaseMarker (s : State) : Res :=
  match s.cap.markers with
  | [] => .next s
  | (r, t, p, tb) :: rest =>
    let s := (s.modTile r t (fun x => { x with phase := p })).modCap (fun c => { c with
      markers := rest, phases := if p = 0 then c.phases else phaseSeen p tb c.phases })
    .next (if s.clk.armed then s else ceilingEval s)

/-! Temperatures (19 R520 to R523). -/

/-- Thermal halt (19 R523). -/
def thermalHalt (k : Nat) (s : State) : State :=
  let s := s.modTherm (fun t => { t with halt := true })
  let s := each (List.range 12) offNow s
  let s := s.modClk (fun c => { c with cur := 0, next := 0, pend := false, armed := false })
  let s := s.modMem (fun m => { m with units := m.units.map (fun x => { x with selfRefresh := x.st != .absent }) })
  errRecord { code := .thermalHalt, unit := senUnit k, op := 0x11, platform := true, leaf := .ev 4 2 } s

/-- A DDR5 or flash unit at its critical threshold: its switch opens and it fails (19 R522). -/
def switchCritical (k : Nat) (s : State) : State :=
  let s := errRecord { code := .thermalCritical, unit := senUnit k, op := 0x11, platform := true, leaf := .ev 4 2 } (switchOff (k - 61) s)
  if k < 77 then memUnitFail (8 + (k - 61)) 5 s else cardFail (k - 77) 5 s

/-- The throttle of a DDR5 channel or a card (19 R521). -/
def unitThrottle (k : Nat) (s : State) : State :=
  let was := if k < 77 then (s.memUnit (8 + (k - 61))).throttled else (s.card (k - 77)).throttled
  let now := isHot s k || (was && !below (readings s k (filtLen k)) (relAt k))
  let s := if k < 77 then s.modMemUnit (8 + (k - 61)) (fun x => { x with throttled := now }) else s.modCard (k - 77) (fun x => { x with throttled := now })
  if now && !was then errRecord { code := .thermalThrottle, unit := senUnit k, op := 0x11, platform := true, leaf := .ev 4 0 } s else attnSettle s

/-- What a reading does. -/
def sense (k : Nat) (v : Int) (s : State) : State :=
  if alive s = false ∨ nSensors ≤ k ∨ (61 ≤ k ∧ (s.sw (k - 61)).st ≠ .on) then s
  else
    let s := senseIn k v s
    let crit := atLeast (readings s k (critLen k)) (critAt k)
    if k < 61 then
      let s := s.modTherm (fun t => { t with
        hot := t.hot || (k != 48 && isHot s k)
        coolSince := if allCool s then some (t.coolSince.getD s.tb) else none })
      if crit && !s.therm.halt then thermalHalt k s else s
    else
      let s := unitThrottle k s
      if crit then switchCritical k s else s

/-- THERMAL_SENSOR_READ (19 R520 to R523): a reading v, units of 0.25 °C, of sensor k. -/
def execThermalSensorRead (k : Nat) (v : Int) (s : State) : Res := .next (sense k v s)

/-- HBM_TEMP_READ (12 R310; 19 R520): a stack's readout, for refresh rate and thermal control. -/
def execHbmTempRead (u : Nat) (v : Int) (s : State) : Res :=
  if u < 8 ∧ unitIsOut (s.memUnit u).st = false then .next (sense (senHbm u) v s) else .next s

/-- THERMAL_CEILING_RAISE (19 R521): 10 ms with every value below release. -/
def execThermalCeilingRaise (s : State) : Res :=
  match s.therm.coolSince with
  | some t =>
    if t + 500000 ≤ s.tb ∧ s.cap.thermCeil < 7 then
      .next (attnSettle ((s.modCap (fun c => { c with thermCeil := c.thermCeil + 1 })).modTherm (fun x => { x with coolSince := some s.tb })))
    else .next s
  | none => .next s

/-! The power group (19 R529 to R533; 14 R395). -/

/-- SLACK: the quiet ticks of the last 100 ms (19 R531). -/
def slackOf (s : State) : Nat :=
  (s.cap.slackRuns.map (fun p => p.2 - max p.1 (s.tb - 5000000))).sum

/-- ASK: MODULE set the ceiling in at least 50 of the last 100 windows (19 R531). -/
def asks (s : State) : Bool := decide (50 ≤ countIf (·.2) s.cap.win)

/-- Mean input power over the last 100 ms, mW. -/
def meanInput (s : State) : Nat := (s.cap.win.map (·.1)).sum / max s.cap.win.length 1

/-- The payload of a TOKEN (14, Table 14.8). -/
def tokenBytes (s : State) (grant : Nat) : List Byte :=
  leBytes 2 (s.cap.group.getD 0) ++ leBytes 2 (b2n (asks s)) ++ leBytes 4 s.cap.tseq ++ leBytes 4 grant
    ++ leBytes 4 (slackOf s) ++ leBytes 4 (moduleLimit s) ++ leBytes 12 0

/-- Sends a TOKEN to a module block; TSEQ moves on. -/
def sendToken (ep grant : Nat) (s : State) : State :=
  let q := s.cap.tseq
  (inject 0 { dst := ep + 14, src := endpoint s 14, type := 8, len := 32, data := tokenBytes s grant } 2 q s).modCap
    (fun c => { c with tseq := (c.tseq + 1) % 2 ^ 32 })

/-- A member whose management core can send. -/
def groupServes (s : State) : Bool := gwServes s && s.cap.group.isSome && s.fab.epBase.isSome

/-- Module blocks with a VALID entry in the active version of TB-W, this module's own apart (19 R530). -/
def peerBlocks (s : State) : List Nat :=
  let br := s.bridge 0
  (((if br.act then br.v1 else br.v0).filter (fun e => bit e.2.toNat 19)).map (fun e => e.1 / 16 * 16)).eraseDups.filter (fun e => some e != s.fab.epBase)

/-- PEER_DISCOVERY (19 R530): once per second; a peer that left two rounds in a row unanswered leaves the roster. -/
def execPeerDiscovery (s : State) : Res :=
  if groupServes s = false ∨ s.cap.discTb.any (fun t => decide (s.tb < t + 50000000)) = true then .next s
  else
    let s := s.modCap (fun c => { c with
      discTb := some s.tb
      roster := (c.roster.filter (fun p => decide (p.missed < 2))).map (fun p => { p with missed := p.missed + 1 }) })
    .next (each (peerBlocks s) (fun e => sendToken e 0) s)

/-- The peer a grant goes to: ASK, the least SLACK, then the lowest EPBASE (19 R532). -/
def grantPeer (s : State) : Option Peer :=
  (s.cap.roster.filter (·.ask)).foldl (fun b p => match b with
    | none => some p
    | some q => if p.slack < q.slack ∨ (p.slack = q.slack ∧ p.ep < q.ep) then some p else b) none

/-- The one grant a member may send (19 R532): GRANT leaves its own share at once. -/
def grantGo (s : State) : State :=
  let h := s.cap.share - meanInput s
  if s.cap.lastGrantTb.any (fun t => decide (s.tb < t + 500000)) ∨ slackOf s < 2500000 ∨ h < 20000 then s
  else match grantPeer s with
    | none => s
    | some p =>
      let g := min (min (h - 10000) 50000) (s.cap.share - 200000)
      if g = 0 then s
      else
        let q := s.cap.tseq
        ceilingEval ((sendToken p.ep g s).modCap (fun c => { c with
          share := c.share - g, grants := c.grants ++ [(q, g, c.reconCount)], lastGrantTb := some s.tb }))

/-- TOKEN_REPORT_PERIOD (19 R531, R532): every 10 ms. -/
def execTokenReportPeriod (s : State) : Res :=
  if groupServes s = false ∨ s.cap.reportTb.any (fun t => decide (s.tb < t + 500000)) = true then .next s
  else
    let s := s.modCap (fun c => { c with reportTb := some s.tb })
    .next (grantGo (each s.cap.roster (fun p => sendToken p.ep 0) s))

end Sys2Proof.Machine
end

