-- ==== Sys2Proof/Machine/Security.lean ====
section
/-! DEFINITION. Rows 254 to 262 and 274: image fetch and verification, Chavi sessions, the noise source, debug access, and the
signing of quotes (21). -/

namespace Sys2Proof.Machine

/-! Images (21 R555 to R557). -/

/-- Step 1 of the verification: the header's format. -/
def imgFormat (h : List Byte) : Bool :=
  let body := field h 0x10 4
  field h 0 4 == 0x5746444B && field h 4 2 == 1 && body % 64 == 0 && decide (64 ≤ body) && decide (body ≤ 3145728)
    && decide (field h 0x14 4 < body) && decide (field h 7 1 ≤ 8) && field h 0x18 8 == 0 && field h 0x260 160 == 0

/-- The whole length of an image. -/
def imgLen (h : List Byte) : Nat := 768 + field h 0x10 4 + 29792

/-- What the bytes received so far come to: rejected with a DETAIL, verified, or more to fetch (21 R556). -/
inductive ImgVerdict where
  | rejected (detail : Nat) | verified | more
  deriving DecidableEq, Repr

/-- The four steps of the verification, in order; the first two need the header alone. -/
def imgVerdict (s : State) (b : List Byte) : ImgVerdict :=
  let h := b.take 768
  let k := field h 6 1
  if b.length < 768 then .more
  else if imgFormat h = false then .rejected 2
  else if keyUsable s k = false then .rejected 1
  else if b.length < imgLen h then .more
  else
    let n := field h 0x10 4
    if keySigned s k h ((b.drop (768 + n)).take 29792) = false then .rejected 0
    else if (h.drop 0x220).take 64 ≠ Config.shake256 ((b.drop 768).take n) then .rejected 0
    else .verified

/-- A handoff whose image cannot be had or does not verify ends, and nothing changes (18 R500). -/
def handoffFails (c : Code) (s : State) : State :=
  completeWait wHandoff 0 c [] [] (s.modGw (fun g => { g with handoff := none, imgReqs := [], imgBuf := [] }))

/-- An image is rejected: HANDOFF fails; in BU9 the next index is tried, and after index 7 the stage ends STOPPED (21 R557). -/
def imgRejected (idx detail : Nat) (s : State) : State :=
  if s.gw.handoff.isSome then handoffFails (if detail = 1 then .keyRevoked else .sigInvalid) s
  else
    let s := s.modBoot (fun b => { b with pendFinds := b.pendFinds ++ [finding s .imageRejected (uSpine 0) detail] })
    let s := s.modGw (fun g => { g with imgReqs := [], imgBuf := [] })
    if idx < 7 then imgRequest (idx + 1) 0 0 s else stageStop [] s

/-- An image has verified: HANDOFF goes on to its next step, BU9 runs the image (18 R500; 21 R557, R558). -/
def imgAccepted (idx : Nat) (s : State) : State :=
  let s := s.modGw (fun g => { g with imgReqs := [] })
  if s.gw.handoff.isSome then s.modGw (fun g => { g with handoff := some (idx, 1) })
  else
    let s := s.modGw (fun g => { g with imgHdr := g.imgBuf.take 768, imgBuf := [] })
    stagePass [] (runImage idx s)

/-- A fetch is under way: for BU9, or for a handoff. -/
def imgWanted (s : State) : Bool := stageRuns 9 s || (gwServes s && s.gw.handoff.any (·.2 == 0))

/-- IMG_REQ_RESPONSE (21 R556, R557): the answer to the outstanding request for bytes at `off` of image `idx`. -/
def execImgReqResponse (idx off : Nat) (absent : Bool) (data : List Byte) (s : State) : Res :=
  if linkUp s = false ∨ imgWanted s = false ∨ s.gw.imgReqs.any (fun q => q.1 == idx && q.2.1 == off) = false then .next s
  else if absent then
    if s.gw.handoff.isSome then .next (handoffFails .unitAbsent s)
    else .next (stageStop [] (s.modGw (fun g => { g with imgReqs := [], imgBuf := [] })))
  else if data = [] ∨ 4096 < data.length then .next s
  else
    let s := s.modGw (fun g => { g with imgBuf := g.imgBuf ++ data, imgReqs := [] })
    match imgVerdict s s.gw.imgBuf with
    | .rejected d => .next (imgRejected idx d s)
    | .verified => .next (imgAccepted idx s)
    | .more => .next (imgRequest idx s.gw.imgBuf.length 0 s)

/-- IMG_REQ_RESEND (21 R557): no RSP for 1 s; after three resends the fetch fails. -/
def execImgReqResend (s : State) : Res :=
  match s.gw.imgReqs with
  | [] => .next s
  | (i, o, t, n) :: _ =>
    if imgWanted s = false ∨ s.tb < t + 50000000 then .next s
    else if n < 3 then .next (imgRequest i o (n + 1) s)
    else if s.gw.handoff.isSome then .next (handoffFails .sigInvalid s)
    else .next (stageStop [finding s .imageFetchFail (uSpine 0) 2] (s.modGw (fun g => { g with imgReqs := [], imgBuf := [] })))

/-! Sessions (21 R560 to R563). -/

/-- The checks of a packet that never carries ENC. -/
def clearFront (h : ChaviHdr) : Code :=
  if h.crcOk = false then .ecrcError else if h.layoutOk = false ∨ h.enc then .fabMalformed else .ok

/-- A fragment of a message of n bytes fits it. -/
def fragFits (n total off : Nat) (frag : List Byte) : Bool :=
  total == n && frag != [] && decide (frag.length ≤ 4096) && decide (off + frag.length ≤ n)

/-- The message, once its fragments lie end to end and cover it. -/
def assembled (n : Nat) (l : List (Nat × List Byte)) : Option (List Byte) :=
  let m := l.foldl (fun (a : Option (List Byte)) p => a.bind (fun b => if p.1 = b.length then some (b ++ p.2) else none)) (some [])
  m.filter (fun b => b.length == n)

/-- HELLO is refused: the lockout runs, or the noise source fails its health test (21 R554, R563). -/
def helloShut (s : State) : Bool := s.sec.noiseFail || s.sec.lockUntil.isSome

/-- A whole HELLO (21 R560, R561): a new session's set-up begins, or the HELLO is rejected. -/
def helloTake (m : List Byte) (s : State) : Code × State :=
  let s := endSession s
  if s.gw.nhkey ≤ field m 32 1 then (.cmdIllegal, s)
  else (.ok, s.modSec (fun x => { x with hello := some (x.quotes.length, m) }))

/-- SES_HELLO (21 R560, R561, R563): a fragment; any HELLO ends the session. -/
def execSesHello (h : ChaviHdr) (total off : Nat) (frag : List Byte) (s : State) : Res :=
  if linkUp s = false then .next s
  else
    let rsp (c : Code) (s : State) : Res := .next (chaviFreed frag.length (chaviRsp h.tag total c [] s))
    if clearFront h ≠ .ok then rsp (clearFront h) s
    else if fragFits 1632 total off frag = false then rsp .fabMalformed s
    else if helloShut s then rsp .notReady (s.modSec (fun x => { x with helloBuf := [] }))
    else
      let s := if s.sec.helloBuf = [] then endSession s else s
      let l := mset s.sec.helloBuf off frag
      match assembled 1632 l with
      | some m =>
        let (c, t) := helloTake m s
        rsp c t
      | none => rsp .ok (s.modSec (fun x => { x with helloBuf := l }))

/-- A message longer than a packet goes out in packets of its type (21 R560). -/
def sendFrags : Nat → Nat → Nat → Nat → List Byte → State → State
  | 0, _, _, _, _, s => s
  | k + 1, type, total, off, l, s =>
    if l = [] then s
    else sendFrags k type total (off + 4096) (l.drop 4096) (chaviSend { type := type, arg := total, arg2 := off, data := l.take 4096 } s)

/-- The content of an OFFER up to SIG (21, Table 21.7). -/
def offerBody (s : State) (dnonce ct : List Byte) : List Byte :=
  dnonce ++ leBytes 2 s.sec.nextSession ++ leBytes 14 0 ++ leBytes 16 s.eeprom.ident.serial ++ ct

/-- SES_OFFER_SEND (21 R560, R561): the device encapsulates, signs T1 in its turn and sends the OFFER; the session number is
taken. -/
def execSesOfferSend (s : State) : Res :=
  match s.sec.hello with
  | some (0, m) =>
    if linkUp s = false then .next s
    else
      let d := s.draw
      let e := d.2.draw
      let body := offerBody s (Config.noise d.1) (Config.kem (m.drop 64) (Config.noise e.1))
      let t1 := Config.shake256 (m ++ body)
      let msg := body ++ Config.identSign s.fuse.seed t1
      let t := e.2.modSec (fun x => { x with
        hello := none, proofBuf := [], offer := some (x.nextSession, field m 32 1, t1), nextSession := x.nextSession % 4095 + 1 })
      .next (sendFrags 13 0x11 msg.length 0 msg t)
  | _ => .next s

/-- T2 (21 R560). -/
def sesT2 (t1 : List Byte) : List Byte := Config.shake256 (t1 ++ [0x4B, 0x44, 0x2D, 0x53, 0x56, 0x36, 0x2F, 0x48, 0x4F, 0x53, 0x54])

/-- SES_DONE leaves. -/
def sesDone (c : Code) (s : State) : State := chaviSend { type := 0x13, status := c.val } s

/-- A whole PROOF (21 R561, R563): the session starts, and held messages and the EVENT follow; or the set-up has failed, the fifth
failure in a row being a tamper event. -/
def proofTake (no idx : Nat) (t1 sig : List Byte) (s : State) : State :=
  let key := (s.gw.imgHdr.drop (0x20 + 64 * idx)).take 64
  if Config.slhVerify key (sesT2 t1) sig then
    let s := (sesDone .ok s).modSec (fun x => { x with
      session := no, offer := none, proofBuf := [], ctrRx := none, ctrTx := 0, failRun := 0 })
    attnOwed (each (hostHeld s 0) deliverHost s)
  else
    let s := (sesDone .sigInvalid s).modSec (fun x => { x with offer := none, proofBuf := [], failRun := x.failRun + 1 })
    if s.sec.failRun = 5 then tamper .sigInvalid (s.modSec (fun x => { x with lockUntil := some (s.tb + 500000000) })) else s

/-- SES_PROOF (21 R560, R561): a fragment of the host's proof. -/
def execSesProof (h : ChaviHdr) (total off : Nat) (frag : List Byte) (s : State) : Res :=
  if linkUp s = false then .next s
  else
    let rsp (c : Code) (s : State) : State := chaviFreed frag.length (chaviRsp h.tag total c [] s)
    if clearFront h ≠ .ok then .next (rsp (clearFront h) s)
    else if fragFits 29792 total off frag = false then .next (rsp .fabMalformed s)
    else match s.sec.offer with
      | none => .next (rsp .cmdIllegal s)
      | some (no, idx, t1) =>
        let l := mset s.sec.proofBuf off frag
        let s := rsp .ok (s.modSec (fun x => { x with proofBuf := l }))
        match assembled 29792 l with
        | some sig => .next (proofTake no idx t1 sig s)
        | none => .next s

/-- AUTH_LOCKOUT_END (21 R563): ten seconds after the fifth failure. -/
def execAuthLockoutEnd (s : State) : Res :=
  if s.sec.lockUntil.any (fun t => decide (t ≤ s.tb)) then .next (s.modSec (fun x => { x with lockUntil := none })) else .next s

/-- NOISE_HEALTH_CHANGE (21 R554): a platform record as the test starts to fail. -/
def execNoiseHealthChange (bad : Bool) (s : State) : Res :=
  if alive s = false ∨ s.sec.noiseFail = bad then .next s
  else
    let s := s.modSec (fun x => { x with noiseFail := bad })
    if bad then .next (errRecord { code := .noiseFail, unit := uSpine 2, platform := true, leaf := Leaf.other } s) else .next (attnSettle s)

/-- QUOTE_SIGNING_COMPLETE (21 R559): the oldest quote, unless a session's transcript is signed before it; header, entries and
signature are written at RESPTR. -/
def execQuoteSigningComplete (s : State) : Res :=
  match s.sec.quotes with
  | [] => .next s
  | q :: rest =>
    if gwServes s = false ∨ s.sec.hello.any (·.1 == 0) then .next s
    else
      let s := s.modSec (fun x => { x with quotes := rest, hello := x.hello.map (fun p => (p.1 - 1, p.2)) })
      .next (completeWait wQuote q.cmd .ok [] (q.body ++ Config.slhSign s.fuse.seed q.body) s)

/-! Debug access (21 R566). -/

/-- A debug packet's address and length, and the scope it needs. -/
def dbgFits (a n : Nat) : Bool := a % 8 == 0 && n % 8 == 0 && decide (8 ≤ n) && decide (n ≤ 256)
def dbgScope (s : State) (i : Nat) : Bool := s.sec.session != 0 && s.sec.scope.getLsbD i

/-- A row that a management address reaches is woken (04 R105). -/
def mgmtTouch (a : Nat) (s : State) : State :=
  match mgmtPlace a with
  | .row r _ => wakeRow r s
  | .device d => match place s d with
    | .scratch r _ => wakeRow r s
    | _ => s
  | _ => s

/-- The bytes of a debug read. -/
def dbgBytes (s : State) (a n : Nat) : List Byte :=
  match mgmtPlace a with
  | .device d => memRead s d n
  | _ => (List.range (n / 8)).flatMap (fun i => leBytes 8 (mgmtWord s (a + 8 * i)))

/-- DBG_READ (21 R566; 22 R580): n bytes of the management address space. -/
def execDbgRead (h : ChaviHdr) (a n : Nat) (s : State) : Res :=
  chaviReq h a 0 (fun s =>
    if dbgScope s 0 = false then chaviRsp h.tag a .cmdDenied [] s
    else if dbgFits a n = false then chaviRsp h.tag a .fabMalformed [] s
    else match mgmtCode s false a n with
      | .ok =>
        let data := dbgBytes s a n
        chaviRsp h.tag a .ok data (each ((List.range (n / 8)).map (fun i => a + 8 * i)) mgmtClears (mgmtTouch a s))
      | c => chaviRsp h.tag a c [] s) s

/-- DBG_WRITE (21 R566; 22 R580). -/
def execDbgWrite (h : ChaviHdr) (a : Nat) (data : List Byte) (s : State) : Res :=
  chaviReq h a data.length (fun s =>
    if dbgScope s 1 = false then chaviRsp h.tag a .cmdDenied [] s
    else if dbgFits a data.length = false then chaviRsp h.tag a .fabMalformed [] s
    else match mgmtCode s true a data.length with
      | .ok =>
        let s := mgmtTouch a s
        chaviRsp h.tag a .ok [] (match mgmtPlace a with
          | .device d => memWrite s d data
          | _ => each (List.range (data.length / 8)) (fun i => mgmtWrite (a + 8 * i) (field data (8 * i) 8)) s)
      | c => chaviRsp h.tag a c [] s) s

end Sys2Proof.Machine
end

