-- ==== Sys2Proof/Machine/Regs.lean ====
section
/-! DEFINITION. Rows 263 to 271: reads and writes of registers with an effect, and the attention tree's own events (22 R584 to R597; 00
R10; 04 R88). -/

namespace Sys2Proof.Machine

/-- SPN_ATTN_CLEARBELOW (22 R589, R591). -/
def execSpnAttnClearbelow (n : Nat) (s : State) : Res := .next (if alive s then clearBelow n s else s)

/-- SPN_TB_LOW_READ (04 R88): a 32-bit read of the low word latches the high word; `high` is the 32-bit read of the high word, which
returns what was latched. -/
def execSpnTbLowRead (high : Bool) (s : State) : Res :=
  if alive s = false then .next s
  else if high then .next ((s.modClk (fun c => { c with tbHiLatch := none })).send (.value (s.clk.tbHiLatch.getD (s.tb / 2 ^ 32))))
  else .next ((s.modClk (fun c => { c with tbHiLatch := some (s.tb / 2 ^ 32) })).send (.value (s.tb % 2 ^ 32)))

/-- A read of 8 bytes of a row's register space. -/
def rowRead (r o : Nat) (s : State) : Res := atRow r (fun s => (rowReadClears r o 8 s).send (.value (rowWord s r o))) s

/-- AST_PLANES_READ (09 R241). -/
def execAstPlanesRead (r t : Nat) (s : State) : Res := if t < 4 then rowRead r (0x2030 + 0x100 * t) s else .next s

/-- SCB_STATUS_READ (11 R273). -/
def execScbStatusRead (r : Nat) (s : State) : Res := rowRead r 0 s

/-- CLK_ROW_READ (04 R109): the clock block is in the spine, so that no row is woken. -/
def execClkRowRead (r : Nat) (s : State) : Res :=
  if alive s = true ∧ r < 12 then .next ((s.modClkRow r (fun _ => {})).send (.value (clkRowWord s r))) else .next s

/-- WIT_CNT_READ (20 R551). -/
def execWitCntRead (n : Nat) (s : State) : Res :=
  if alive s = true ∧ n < 16 then
    .next ((s.modWring n (fun g => { g with captured := 0, dropped := 0, itemsLost := 0 })).send (.value (witWord s n 8)))
  else .next s

/-- REGISTER_WRITE (00 R10; 22 R580): 8 bytes written to a register block of the management address space. -/
def execRegisterWrite (a v : Nat) (s : State) : Res :=
  if alive s = false ∨ a % 8 ≠ 0 then .next s
  else match mgmtPlace a with
    | .row r _ => atRow r (mgmtWrite a v) s
    | .device _ => .next s
    | _ => .next (mgmtWrite a v s)

/-- ATTN_N_RELEASE (22 R596): the summary is 0 and ATTN_N has been low for 100 µs. -/
def execAttnNRelease (s : State) : Res :=
  if summary s = 0 ∧ s.attn.lowSince.any (fun t => decide (t + 5000 ≤ s.tb)) = true then
    .next (s.modAttn (fun a => { a with lowSince := none }))
  else .next s

/-- ATTN_EVENT_DEFERRED (22 R597): the 10 µs spacing ends. -/
def execAttnEventDeferred (s : State) : Res :=
  if s.attn.deferred = false ∨ attnSpaced s = true ∨ linkUp s = false then .next s
  else if summary s = s.attn.lastSent ∧ s.attn.owed = false then .next (s.modAttn (fun a => { a with deferred := false }))
  else .next (attnEvent s)

end Sys2Proof.Machine
end

