-- ==== Sys2Proof/Machine/RowFetch.lean ====
section
/-! DEFINITION. Rows 112 to 118: fetch commands, pooling, KV blocks, row reads and completion records (12 R312 to R329). -/

namespace Sys2Proof.Machine

/-- FETCH_COMMAND (12 R319): the outstanding 64-byte store of core c to a fetch port is accepted, or takes a store fault. -/
def execFetchCommand (r c : Nat) (s : State) : Res :=
  match (s.core r c).mem, fetchStore s r c with
  | some m, some (b, l) =>
    if rowRuns s r = false then .next s
    else
      let f := parseFetch l r c
      let f := { f with unknown := (s.table f.table).any (·.dying) }
      if bridgeServes s b = false ∨ isLine f.cpl = false ∨ 2 ≤ nth (s.core r c).fetchOut b then
        .next (s.modCore r c (fun x => ({ x with mem := none } : Core).trap 7 m.addr))
      else
        let s := s.modFetchU b (fun u => { u with queue := u.queue ++ [f] })
        .next (s.modCore r c (fun x => ({ x with mem := none, fetchOut := x.fetchOut.modify b (· + 1), csr := mset x.csr 8 0 } : Core).adv m.len))
  | _, _ => .next s

/-- FETCH_DISPATCH (12 R319, R322): the oldest command goes to free engine e, with its checks. -/
def execFetchDispatch (b e : Nat) (s : State) : Res :=
  match (s.fetchU b).queue with
  | [] => .next s
  | c :: rest =>
    if 4 ≤ e ∨ (s.engine b e).isSome ∨ bridgeServes s b = false ∨ s.therm.halt = true then .next s
    else
      let dim := ((s.table c.table).map (·.dim)).getD 0
      let r : FetchRun := match fetchCheck s b c with
        | .ok => emptyBag dim { cmd := c }
        | k => { cmd := c, status := k.val, ended := true }
      .next (s.modFetchU b (fun u => { u with queue := rest, engines := u.engines.set e (some r) }))

/-- An engine that is to work, with its table. -/
def working (s : State) (b e : Nat) : Option (FetchRun × Table) :=
  match s.engine b e with
  | some r => match s.table r.cmd.table with
    | some t => if r.ended || r.pendRow.isSome || !bridgeServes s b then none else some (r, t)
    | none => none
  | none => none

/-- The bag being summed is written (12 R323, R326). -/
def writeBag (b e : Nat) (r : FetchRun) (t : Table) (s : State) : State :=
  let s := each (bagWrites r.cmd t.dim r.curBag (bagOut r.cmd.ofmt r)) (fetchWrite b e) s
  s.modEngine b e (fun r => emptyBag t.dim { r with curBag := r.curBag + 1, bags := r.bags + 1 })

/-- An entry that gives its bag no row: a failed row, or a KEYED miss (12 R313, R325). -/
def skipEntry (b e row tier bag w : Nat) (s : State) : State :=
  witItem b e row tier bag w (s.modEngine b e (fun r =>
    if tier = 5 then { r with next := r.next + 1, misses := r.misses + 1, bagSeen := true, pendRow := none }
    else { r with next := r.next + 1, failed := r.failed + 1, bagBad := true, bagSeen := true, pendRow := none, flashRead := none }))

/-- The row a list entry resolves to: a row index, a miss, or a failed row (12 R313, R325). -/
inductive Resolved where
  | row (x : Nat) | miss | failed
  deriving DecidableEq, Repr

def resolveEntry (s : State) (c : FetchCmd) (t : Table) (i row : Nat) : Resolved :=
  if t.type = .keyed then
    if t.nrows / 4 ≤ row then .failed
    else if accessCode s false (t.keyBase + 32 * row) 32 ≠ .ok then .failed
    else
      let k := keyAt s c i
      match (List.range 4).find? (fun j => k != 2 ^ 64 - 1 && leNat (memRead s (t.keyBase + 32 * row + 8 * j) 8) == k) with
      | some j => .row (4 * row + j)
      | none => .miss
  else if t.nrows ≤ row then .failed else .row row

/-- One list entry of a POOL: the bag before it is written first; a row read starts (12 R313, R321, R323). -/
def poolEntry (b e : Nat) (r : FetchRun) (t : Table) (s : State) : State :=
  let gs := entryReads r.cmd (t.type == .keyed) r.next 16
  match gs.find? (fun g => readHeld s g.1 g.2) with
  | some g => readWake s g.1 g.2
  | none =>
    let code := ((gs.map (fun g => accessCode s false g.1 g.2)).find? (· != .ok)).getD .ok
    let r1 := fetchTaint s gs r
    if 4 < r1.taint.length then s
    else if code ≠ .ok then s.modEngine b e (runFails code)
    else
      let l := listAt s r.cmd (16 * r.next) 16
      let row := field l 0 5
      let bag := field l 6 2
      let w := if r.cmd.unweighted then 0x3F800000 else field l 8 4
      if bag < r.curBag ∨ r.cmd.nbags ≤ bag then s.modEngine b e (runFails .fetchIllegal)
      else if r.curBag < bag then writeBag b e r t s
      else
        let s := s.modEngine b e (fun _ => r1)
        match resolveEntry s r.cmd t r.next row with
        | .row x => s.modEngine b e (fun r => { r with pendRow := some x, pendW := w, bagSeen := true, flashRead := none, noFill := false })
        | .miss => skipEntry b e row 5 bag w s
        | .failed => skipEntry b e row 4 bag w s

/-- FETCH_POOL (12 R321, R323): engine e takes its next list entry, or writes the bag whose last entry has been added. -/
def execFetchPool (b e : Nat) (s : State) : Res :=
  match working s b e with
  | none => .next s
  | some (r, t) =>
    if r.cmd.op ≠ 1 then .next s
    else if r.next < r.cmd.nids then .next (poolEntry b e r t s)
    else if r.curBag < r.cmd.nbags then .next (writeBag b e r t s)
    else .next s

/-- The address of a block by the map, where it can be read (12 R328). -/
def blockAt (s : State) (t : Table) (x : Nat) : Option Nat :=
  if t.nrows ≤ x ∨ accessCode s false (t.mapBase + 8 * x) 8 ≠ .ok then none
  else
    let a := leNat (memRead s (t.mapBase + 8 * x) 8)
    match place s a with
    | .mem _ _ => if accessCode s false a t.bsize = .ok then some a else none
    | _ => none

/-- A block that cannot be read or placed counts as failed, and the engine carries on (12 R325; log 54). -/
def failBlock (b e : Nat) (s : State) : State := s.modEngine b e (fun r => { r with next := r.next + 1, failed := r.failed + 1 })

/-- One entry of a block command: its bytes, or what stands in their way. -/
def blockEntry (b e n : Nat) (r : FetchRun) (go : List Byte → State → State) (s : State) : State :=
  let gs := entryReads r.cmd false r.next n
  match gs.find? (fun g => readHeld s g.1 g.2) with
  | some g => readWake s g.1 g.2
  | none =>
    let code := ((gs.map (fun g => accessCode s false g.1 g.2)).find? (· != .ok)).getD .ok
    let r1 := fetchTaint s gs r
    if 4 < r1.taint.length then s
    else if code ≠ .ok then s.modEngine b e (runFails code)
    else go (listAt s r.cmd (n * r.next) n) (s.modEngine b e (fun _ => r1))

/-- FETCH_BLOCK_GATHER (12 R328): the next listed block is copied to its place; `bad`: its read meets an uncorrectable
error. -/
def execFetchBlockGather (b e : Nat) (bad : Bool) (s : State) : Res :=
  match working s b e with
  | none => .next s
  | some (r, t) =>
    if r.cmd.op ≠ 2 ∨ r.cmd.nids ≤ r.next then .next s
    else .next (blockEntry b e 8 r (fun l s =>
      match blockAt s t (field l 0 5), bad with
      | some a, false =>
        let s := s.modEngine b e (countRow (tierHits s a) false t.epoch)
        let s := fetchWrite b e (r.cmd.dst + r.next * t.bsize, memRead s a t.bsize) s
        s.modEngine b e (fun r => { r with next := r.next + 1, bags := r.bags + 1 })
      | some a, true => failBlock b e (memMeets 0x0F [(a, t.bsize)] s)
      | none, _ => failBlock b e s) s)

/-- FETCH_BLOCK_MOVE (12 R328): the next listed block is copied to its target, then its map entry is updated. -/
def execFetchBlockMove (b e : Nat) (bad : Bool) (s : State) : Res :=
  match working s b e with
  | none => .next s
  | some (r, t) =>
    if r.cmd.op ≠ 3 ∨ r.cmd.nids ≤ r.next then .next s
    else .next (blockEntry b e 16 r (fun l s =>
      let x := field l 0 5
      let dst := field l 8 8
      let inMem : Bool := match place s dst with | .mem _ _ => true | _ => false
      match blockAt s t x, bad with
      | some a, false =>
        if inMem = false ∨ accessCode s true dst t.bsize ≠ .ok ∨ accessCode s true (t.mapBase + 8 * x) 8 ≠ .ok then failBlock b e s
        else
          let s := s.modEngine b e (countRow (tierHits s a) false t.epoch)
          let s := memWrite (memWrite s dst (memRead s a t.bsize)) (t.mapBase + 8 * x) (leBytes 8 dst)
          s.modEngine b e (fun r => { r with next := r.next + 1, bags := r.bags + 1 })
      | some a, true => failBlock b e (memMeets 0x0F [(a, t.bsize)] s)
      | none, _ => failBlock b e s) s)

/-- Where a row's bytes come from: TIER of Table 20.5 and the bytes, none where the read failed, or not yet there. -/
inductive RowSource where
  | wait
  | got (tier : Nat) (bytes : Option (List Byte))
  deriving DecidableEq, Repr

def rowSource (s : State) (r : FetchRun) (t : Table) (x : Nat) : RowSource :=
  match wayOf s t x with
  | some w => .got 0 (if accessCode s false (wayAddr t x w) t.rowBytes = .ok then some (memRead s (wayAddr t x w) t.rowBytes) else none)
  | none =>
    let mem (tier : Nat) : RowSource :=
      let a := t.rowBase + x * t.rowBytes
      .got tier (if accessCode s false a t.rowBytes = .ok then some (memRead s a t.rowBytes) else none)
    match t.home with
    | .hbm => mem 1
    | .ddr => mem 2
    | .flash => match r.flashRead with
      | none => .wait
      | some ok => .got 3 (if ok then kget s.flash.rows (r.cmd.table, x) else none)

/-- ROW_READ_COMPLETE (12 R315, R316, R318, R323 to R325; 06 R158 to R160): the row in flight returns from the cache or its
home, may fill a way, and is added to its bag. `bad`: the read meets an uncorrectable error. A flash row returns only after
its FLASH_READ_COMPLETE. -/
def execRowReadComplete (b e : Nat) (bad : Bool) (s : State) : Res :=
  match s.engine b e with
  | none => .next s
  | some r =>
    match r.pendRow, s.table r.cmd.table with
    | some x, some t =>
      match rowSource s r t x with
      | .wait => .next s
      | .got tier o =>
        match (if bad then none else o) with
        | none => .next (skipEntry b e x 4 r.curBag r.pendW (if bad && o.isSome && tier != 3 then
            memMeets 0x0F [((wayOf s t x).elim (t.rowBase + x * t.rowBytes) (wayAddr t x), t.rowBytes)] s else s))
        | some l =>
          let fills := decide (tier ≠ 0) && setOn s t x && !r.noFill && (t.fill == 1 || (t.fill == 2 && tier == 3)) && decide (2 ≤ tier)
          let s := match wayOf s t x with
            | some w => cacheTouch t x w s
            | none => if fills then cacheFill t x l s else s
          let s := if fills then s.modEngine b e (fun r => { r with fills := r.fills + 1 }) else s
          match decodeRow t.dim l with
          | none => .next (skipEntry b e x 4 r.curBag r.pendW s)
          | some v =>
            let (free, s) := s.draw
            let s := s.modEngine b e (fun r => { addRow r.pendW v free (countRow (decide (tier ≤ 1)) (tier == 3) t.epoch r) with
              next := r.next + 1, pendRow := none, flashRead := none })
            .next (witItem b e x tier r.curBag r.pendW s)
    | _, _ => .next s

/-- Whether an engine's work is over and everything it wrote has been performed, answered or handed over (12 R327; 14 R394;
20 R535). -/
def fetchDone (s : State) (b e : Nat) (r : FetchRun) : Bool :=
  (r.ended || (r.pendRow.isNone && decide (r.cmd.nids ≤ r.next) && (r.cmd.op != 1 || decide (r.cmd.nbags ≤ r.curBag))))
    && s.rows.all (fun w => w.arrivals.all (·.src != fetchSrc b e) && w.ingress.all (fun o => o.all (·.src != fetchSrc b e)))
    && (s.bridge b).tracked.all (fun t => !(t.owner == 4 && t.arg == 4 * b + e))
    && (!(r.cmd.isLocal && r.cmd.witness) || s.wit.inbox.all (fun i => i.fetch.all (fun f =>
          !(f.ftag == r.cmd.tag && f.drow == r.cmd.cpl / 83886080 && f.src == b))))

/-- FETCH_COMPLETE (12 R325, R327; 14 R394): the single completion record. -/
def execFetchComplete (b e : Nat) (s : State) : Res :=
  match s.engine b e with
  | none => .next s
  | some r =>
    let q := r.cmd.cpl / 83886080
    let ln := r.cmd.cpl / 64 % 1310720
    let g : Nat × Nat × Bool := (ln / 8 * 8, 1, true)
    let k := s.bank q (ln / 32768)
    if fetchDone s b e r = false ∨ bridgeServes s b = false then .next s
    else
      let s := s.modEngine b e (fun r => { r with status := if r.status = 0 ∧ 0 < r.failed then Code.fetchPartial.val else r.status })
      if r.cmd.isLocal = false ∨ rowIsOut s q ∨ rowIsDark s q then .next (fetchEnd b e s)
      else if rowRuns s q = false then .next (wakeRow q s)
      else if k.st = .ret ∨ k.st = .entering ∨ k.st = .waking ∨ k.st = .scrub then .next (s.modRow q (wakeBanks [ln / 32768]))
      else if (s.row q).scb.all (fun x => rangeOk g x.range) = false ∨ markFits s q r.taint r.taintBad = false then .next s
      else .next (fetchEnd b e (s.modRow q (provWrite r.taint r.taintBad ln 1)))

end Sys2Proof.Machine
end

