-- ==== Sys2Proof/Machine/Service.lean ====
section
/-! DEFINITION. Rows 272, 273, 275 and 276: DIMM faults, qualification sessions asked for by a partner, the return of a bridge, and
the end of a recalibration (12 R331; 05 R136; 18 R505, R506, R509, R510). -/

namespace Sys2Proof.Machine

/-- DIMM_FAULT (12 R331, Table 12.9). -/
def execDimmFault (d : Nat) (s : State) : Res :=
  if alive s = true ∧ d < 16 ∧ [UnitFine.inService, .degraded, .draining, .returning, .testing].contains (s.memUnit (8 + d)).st = true then
    .next (memUnitFail (8 + d) 6 s)
  else .next s

/-- QUALIFICATION_SESSION_REQUEST (05 R136; 14 R396): the session runs on that port alone; traffic it carried is lost with its
link. -/
def execQualificationSessionRequest (port : Nat) (s : State) : Res :=
  if alive s = false ∨ portFitted s port = false ∨ nth s.power.presentN port = true ∨ bridgeUp s (portBridge port) = false
      ∨ (s.boot.st ≠ .ready ∧ s.boot.stage ≤ 8) ∨ (s.port port).st = .retraining ∨ (s.port port).st = .absent then .next s
  else
    let s := if portLive (s.port port).st then portLoss port s else s
    .next (mapPort port (s.modPort port (fun q => { q with st := .retraining, downAt := none })))

/-- The rails of a bridge are in regulation. -/
def bridgePowered (s : State) (b : Nat) : Bool :=
  if b = 0 then (s.rail .vbrW).inReg && (s.rail .v3p3).inReg else (s.rail .vbrE).inReg

/-- A card of a bridge that returns is scanned as in BU7 (13 R360); what leaves service is recorded (16 R453). -/
def rescanCard (res : List CardTest) (c : Nat) (s : State) : State :=
  if (s.sw (16 + c)).st ≠ .on ∨ [CardState.draining, .rebalancing, .drained, .testing, .absent].contains (s.card c).st then s
  else
    let p := scanCard ((res.find? (·.card == c)).getD { card := c }) s
    each p.2 (fun f => errRecord { code := .unitOut, unit := f.unit, op := 0x0E, platform := true, leaf := .card c, detail := f.detail, action := 5 }) (mapCards p.1)

/-- BRIDGE_RELOAD_COMPLETE (18 R509, R510; 14 R382, R397): `res` is what the rescan of its cards found. -/
def execBridgeReloadComplete (b : Nat) (res : List CardTest) (s : State) : Res :=
  let x := s.bridge b
  if alive s = false ∨ 2 ≤ b ∨ (x.inReset = false ∧ x.out = false) ∨ bridgePowered s b = false then .next s
  else
    let s := s.modBridge b (fun x => { x with inReset := false, out := false, v0 := x.committed, v1 := [], act := false, other := .free })
    let s := each ((List.range 8).map (fun i => 8 + 8 * b + i)) (fun u s => s.modMemUnit u (fun y => { y with selfRefresh := false })) s
    let s := s.modFab (fun f => { f with ucie := f.ucie.mapIdx (fun i m => if i / 8 = b then { up := m.up } else m) })
    let s := if hasFlash s then each ((List.range 4).map (· + 4 * b)) (rescanCard res) s else s
    let s := if b = 0 then s.modRings (fun m => { m with up := true }) else s
    .next (completeWait wRecover (uBridge b) .ok [] [] s)

/-- A trim within −80 mV to +50 mV, units of 5 mV (04 R93; 18 R505). -/
def clampTrim (v : Int) : Int := max (-16) (min 10 v)

/-- RECALIBRATION_COMPLETE (18 R505, R506): the search of a row for the step in force ends with its trim, or the calibration of the
sensors ends, 80 ms after it began. -/
def execRecalibrationComplete (sensors : Bool) (r : Nat) (v : Int) (s : State) : Res :=
  if sensors then
    if s.clk.recalSensors.any (fun t => decide (t + 4000000 ≤ s.tb)) then .next (s.modClk (fun c => { c with recalSensors := none })) else .next s
  else if s.clk.recalRows.contains r = true ∧ rowRuns s r = true ∧ s.clk.pend = false then
    .next (s.modClk (fun c => { c with
      recalRows := c.recalRows.filter (· != r), trims := c.trims.modify r (fun l => l.set c.cur (clampTrim v)) }))
  else .next s

end Sys2Proof.Machine
end

