-- ==== Sys2Proof/Machine/Witness.lean ====
section
/-! DEFINITION. Rows 246 to 253: the events of the Witness unit (20 R534 to R549). -/

namespace Sys2Proof.Machine

/-- WITNESS_ITEM (20 R534, R536, R540): the item at place i of those on their way is accepted, or discarded for want of room or
because the completion it belongs to has been evaluated. -/
def execWitnessItem (i : Nat) (s : State) : Res :=
  match s.wit.inbox[i]? with
  | none => .next s
  | some x =>
    let s := s.modWit (fun u => { u with inbox := u.inbox.eraseIdx i })
    match s.wit.late.find? (fun l => decide (s.tb < l.tb + 5000000) && x.fetch.any (fun f => f.drow == l.drow && f.ftag == l.ftag
        && decide (l.bag0 ≤ f.bag) && decide (f.bag < l.bag0 + l.nbag))) with
    | some l =>
      .next ((s.modWit (fun u => { u with late := (u.late.map (fun y => if y = l then { y with missing := y.missing - 1 } else y)).filter (fun y => decide (0 < y.missing)) })).modWring
        l.wring (fun g => { g with itemsLost := g.itemsLost + 1 }))
    | none =>
      if 0x600000 < itemBytes s + itemSize x then .next (s.modWit (fun u => { u with lost := u.lost ++ [{ x with tb := s.tb }] }))
      else .next (s.modWit (fun u => { u with items := u.items ++ [{ x with tb := s.tb }] }))

/-- WITNESS_ITEM_EXPIRY (20 R534): an item not linked for 5,000,000 tb; with it go the marks as old as that. -/
def execWitnessItemExpiry (i : Nat) (s : State) : Res :=
  match s.wit.items[i]? with
  | none => .next s
  | some x =>
    if s.tb < x.tb + 5000000 then .next s
    else .next (s.modWit (fun u => { u with
      items := u.items.eraseIdx i
      lost := u.lost.filter (fun y => decide (s.tb < y.tb + 5000000)), late := u.late.filter (fun y => decide (s.tb < y.tb + 5000000)) }))

/-- WITNESS_EVALUATION (20 R539): the completion at place i, once its fetch items have come, and none before it is ready. -/
def execWitnessEvaluation (i : Nat) (s : State) : Res :=
  match s.rings.witHeld[i]? with
  | none => .next s
  | some c =>
    if s.rings.up = false ∨ cplReady s c = false ∨ s.rings.witHeld.any (fun d => cplReady s d && cplBefore d c) then .next s
    else .next (evalCpl c s)

/-- FETCH_ITEM_WAIT_EXPIRY (20 R540): 5,000 tb have passed; the completion is evaluated short. -/
def execFetchItemWaitExpiry (i : Nat) (s : State) : Res :=
  match s.rings.witHeld[i]? with
  | none => .next s
  | some c => if s.rings.up = false ∨ cplReady s c ∨ s.tb < c.tb + 5000 then .next s else .next (evalCpl c s)

/-- STALL_HOLD_EXPIRY (20 R541): the oldest held record has been held for 5,000,000 tb. -/
def execStallHoldExpiry (w : Nat) (s : State) : Res :=
  match (s.wring w).heldRecs with
  | [] => .next s
  | x :: rest =>
    if s.tb < x.since + 5000000 then .next s
    else
      let s := giveUp w (s.modWring w (fun g => { g with heldRecs := rest }))
      .next (closeGo w (witPost x.cpl (errRecord { code := .capacityShort, unit := uSpine 1, op := 0, job := x.cpl.req.job, detail := w } s)))

/-- The next entry of a ring to be written: the first in the buffer, or the GAP entry of a run that nothing follows (20 R541). -/
def nextEntry (s : State) (w : Nat) : Option WitEntry :=
  match (s.wring w).buf, (s.wring w).gap with
  | e :: _, _ => some e
  | [], some p => some (gapEntry s.tb p)
  | [], none => none

/-- WITNESS_ENTRY_WRITE (20 R543 to R548): the next accepted entry is written where the free space, read again if it is short, holds
it beside a seal and a GAP. -/
def execWitnessEntryWrite (w : Nat) (s : State) : Res :=
  match nextEntry s w with
  | none => .next s
  | some e =>
    let g := s.wring w
    let reserve := if e.kind = 3 then 50048 else 50048 + 128
    let s := if entryFits g e.elen reserve then s else readConsumed w s
    let g := s.wring w
    if g.st = .failed ∨ entryFits g e.elen reserve = false ∨ pathUsable s g.base = false then .next s
    else
      let l := e.bytes w g
      match putEntry w l s with
      | (.ok, t) =>
        let t := t.modWring w (fun y => if y.buf.isEmpty then { y with gap := none } else { y with buf := y.buf.tail })
        let t := chained w e l g.eseq t
        .next (closeGo w (each (List.range 16) (fun v s => stallDrain ((s.wring v).heldRecs.length) v s) t))
      | (c, _) => .next (witFail w c s)

/-- SEAL_TIMER (20 R549). -/
def execSealTimer (w : Nat) (s : State) : Res :=
  let g := s.wring w
  if g.st = .opened ∧ 0 < g.sinceSeal ∧ g.sealTb + 50000000 ≤ s.tb then .next (sealTrigger w s) else .next s

/-- SEAL_WRITE (20 R549; Table 20.9): the signing engine finishes, the seal is written, and the next trigger starts. -/
def execSealWrite (s : State) : Res :=
  match s.wit.signing with
  | none => .next s
  | some x =>
    let w := x.ring
    let s := if entryFits (s.wring w) 50048 0 then s else readConsumed w s
    if entryFits (s.wring w) 50048 0 = false ∨ pathUsable s (s.wring w).base = false then .next s
    else
      let hd := sealHead s x
      match putEntry w (hd ++ Config.slhSign s.fuse.seed hd) s with
      | (.ok, t) =>
        let done := (t.wring w).sealCmd == some true
        let t := (t.modWit (fun u => { u with signing := none })).modWring w (fun g => { g with
          sealedTo := x.last, prevSeal := Config.shake256 hd, sealTb := s.tb, sealCmd := if done then none else g.sealCmd
          st := if x.closed then .closed else g.st })
        let t := if done then completeWait wSeal w .ok [] [] t else t
        let t := if x.closed then completeWait wClose w .ok [] [] t else t
        .next (closeGo w (sealStart t))
      | (c, _) => .next (witFail w c s)

end Sys2Proof.Machine
end

