-- ==== Sys2Proof/Machine/Dispatch.lean ====
section
/-! DEFINITION. One arm per command, each a direct call of its meaning. -/

namespace Sys2Proof.Machine

/-- The effect of one command on everything but the queue. -/
def exec (i : Instr) (s : State) : Host.Outcome State Fault Refusal :=
  match i with
  | .inputTrip cause vin iin => Sys2Proof.Machine.execInputTrip cause vin iin s
  | .inputRangeExcursion vin => Sys2Proof.Machine.execInputRangeExcursion vin s
  | .holdUpEnd => Sys2Proof.Machine.execHoldUpEnd s
  | .platformEventRecordWrite arbLost => Sys2Proof.Machine.execPlatformEventRecordWrite arbLost s
  | .eepromArbitrationRetry lost => Sys2Proof.Machine.execEepromArbitrationRetry lost s
  | .inputSwitchClose => Sys2Proof.Machine.execInputSwitchClose s
  | .softStartComplete => Sys2Proof.Machine.execSoftStartComplete s
  | .mrstNAssert ns => Sys2Proof.Machine.execMrstNAssert ns s
  | .mrstNRelease => Sys2Proof.Machine.execMrstNRelease s
  | .coldBringUpStart => Sys2Proof.Machine.execColdBringUpStart s
  | .switchSoftStartDone ix spdOk trainOk => Sys2Proof.Machine.execSwitchSoftStartDone ix spdOk trainOk s
  | .switchSoftStartTimeout ix => Sys2Proof.Machine.execSwitchSoftStartTimeout ix s
  | .switchCurrentLimitLatch ix => Sys2Proof.Machine.execSwitchCurrentLimitLatch ix s
  | .dimmRemovedWhileOn d => Sys2Proof.Machine.execDimmRemovedWhileOn d s
  | .bayLatchOpen c => Sys2Proof.Machine.execBayLatchOpen c s
  | .baySwitchDelayedOpen c => Sys2Proof.Machine.execBaySwitchDelayedOpen c s
  | .presentNChange p high => Sys2Proof.Machine.execPresentNChange p high s
  | .mgmtPortLinkChange up fullDuplex1000 => Sys2Proof.Machine.execMgmtPortLinkChange up fullDuplex1000 s
  | .j3Send mac ch msg => Sys2Proof.Machine.execJ3Send mac ch msg s
  | .j3Done mac ch mseq code => Sys2Proof.Machine.execJ3Done mac ch mseq code s
  | .phaseLoss r p => Sys2Proof.Machine.execPhaseLoss r p s
  | .rowShort r => Sys2Proof.Machine.execRowShort r s
  | .rowRetryBegin r => Sys2Proof.Machine.execRowRetryBegin r s
  | .rowRetrySuccess r => Sys2Proof.Machine.execRowRetrySuccess r s
  | .stagingStart h iHalf => Sys2Proof.Machine.execStagingStart h iHalf s
  | .stagingHalfRateStart h iHalf => Sys2Proof.Machine.execStagingHalfRateStart h iHalf s
  | .headerStageClose h => Sys2Proof.Machine.execHeaderStageClose h s
  | .rowUsable r => Sys2Proof.Machine.execRowUsable r s
  | .powerWindowEnd w => Sys2Proof.Machine.execPowerWindowEnd w s
  | .sharedRailLost x => Sys2Proof.Machine.execSharedRailLost x s
  | .sharedRailRetry x ok => Sys2Proof.Machine.execSharedRailRetry x ok s
  | .vspineLost => Sys2Proof.Machine.execVspineLost s
  | .refLoss => Sys2Proof.Machine.execRefLoss s
  | .clockHold r ticks volt => Sys2Proof.Machine.execClockHold r ticks volt s
  | .clkStepAtWrite next part tick => Sys2Proof.Machine.execClkStepAtWrite next part tick s
  | .stepWithdraw => Sys2Proof.Machine.execStepWithdraw s
  | .stepChangeTick => Sys2Proof.Machine.execStepChangeTick s
  | .stepSettled => Sys2Proof.Machine.execStepSettled s
  | .idleEntry r => Sys2Proof.Machine.execIdleEntry r s
  | .napEntry r => Sys2Proof.Machine.execNapEntry r s
  | .sleepEntry r => Sys2Proof.Machine.execSleepEntry r s
  | .timebaseEventWake r => Sys2Proof.Machine.execTimebaseEventWake r s
  | .halfPark h => Sys2Proof.Machine.execHalfPark h s
  | .seamUnparkComplete h => Sys2Proof.Machine.execSeamUnparkComplete h s
  | .bu0 fail0 fail1 slotUnst mbxUnst arbLost => Sys2Proof.Machine.execBu0 fail0 fail1 slotUnst mbxUnst arbLost s
  | .bu1 badWord => Sys2Proof.Machine.execBu1 badWord s
  | .bu2 trips rowTrips present swFaults => Sys2Proof.Machine.execBu2 trips rowTrips present swFaults s
  | .bu3 tests => Sys2Proof.Machine.execBu3 tests s
  | .bu4 badBanks => Sys2Proof.Machine.execBu4 badBanks s
  | .bu5 res => Sys2Proof.Machine.execBu5 res s
  | .bu6 res => Sys2Proof.Machine.execBu6 res s
  | .bu7 res => Sys2Proof.Machine.execBu7 res s
  | .bu8 res => Sys2Proof.Machine.execBu8 res s
  | .bu9 => Sys2Proof.Machine.execBu9 s
  | .bu10 => Sys2Proof.Machine.execBu10 s
  | .stageTimeout => Sys2Proof.Machine.execStageTimeout s
  | .astRunWrite r t v => Sys2Proof.Machine.execAstRunWrite r t v s
  | .astRunFetch r t bad => Sys2Proof.Machine.execAstRunFetch r t bad s
  | .astQpushWrite r t w part => Sys2Proof.Machine.execAstQpushWrite r t w part s
  | .nopMark r t ix => Sys2Proof.Machine.execNopMark r t ix s
  | .fence r t ix => Sys2Proof.Machine.execFence r t ix s
  | .resv r t ix => Sys2Proof.Machine.execResv r t ix s
  | .rels r t ix => Sys2Proof.Machine.execRels r t ix s
  | .wload r t ix bad => Sys2Proof.Machine.execWload r t ix bad s
  | .wloadComplete r t ix => Sys2Proof.Machine.execWloadComplete r t ix s
  | .epi r t ix bad => Sys2Proof.Machine.execEpi r t ix bad s
  | .epiComplete r t ix => Sys2Proof.Machine.execEpiComplete r t ix s
  | .decideSet r t ix => Sys2Proof.Machine.execDecideSet r t ix s
  | .group r t ix => Sys2Proof.Machine.execGroup r t ix s
  | .matv r t ix bad => Sys2Proof.Machine.execMatv r t ix bad s
  | .deciderEvaluation r t ix w => Sys2Proof.Machine.execDeciderEvaluation r t ix w s
  | .matvComplete r t ix => Sys2Proof.Machine.execMatvComplete r t ix s
  | .pairCompare r pair pass => Sys2Proof.Machine.execPairCompare r pair pass s
  | .astWaitTimeout r t ix => Sys2Proof.Machine.execAstWaitTimeout r t ix s
  | .astRunTimeout r t ix => Sys2Proof.Machine.execAstRunTimeout r t ix s
  | .primroseExecute r c bad => Sys2Proof.Machine.execPrimroseExecute r c bad s
  | .primroseMemoryAccess r c err => Sys2Proof.Machine.execPrimroseMemoryAccess r c err s
  | .rpop r c rd rs1 rs2 => Sys2Proof.Machine.execRpop r c rd rs1 rs2 s
  | .rpush r c rd rs1 rs2 => Sys2Proof.Machine.execRpush r c rd rs1 rs2 s
  | .sresv r c rd rs1 rs2 => Sys2Proof.Machine.execSresv r c rd rs1 rs2 s
  | .sresvDeadline r c => Sys2Proof.Machine.execSresvDeadline r c s
  | .srels r c rd rs1 => Sys2Proof.Machine.execSrels r c rd rs1 s
  | .tbwait r c rd rs1 rs2 => Sys2Proof.Machine.execTbwait r c rd rs1 rs2 s
  | .tbwaitEnd r c => Sys2Proof.Machine.execTbwaitEnd r c s
  | .wdkick r c => Sys2Proof.Machine.execWdkick r c s
  | .badd r c rd rs1 rs2 => Sys2Proof.Machine.execBadd r c rd rs1 rs2 s
  | .bscl r c rd rs1 rs2 => Sys2Proof.Machine.execBscl r c rd rs1 rs2 s
  | .bmax r c rd rs1 rs2 => Sys2Proof.Machine.execBmax r c rd rs1 rs2 s
  | .blin r c rd rs1 rs2 rs3 => Sys2Proof.Machine.execBlin r c rd rs1 rs2 rs3 s
  | .fhash r c rd rs1 rs2 rs3 fn => Sys2Proof.Machine.execFhash r c rd rs1 rs2 rs3 fn s
  | .prmWatchdogExpiry r c => Sys2Proof.Machine.execPrmWatchdogExpiry r c s
  | .haltedCoreRequestsEnd r c => Sys2Proof.Machine.execHaltedCoreRequestsEnd r c s
  | .scoreboardGrant r ix bad => Sys2Proof.Machine.execScoreboardGrant r ix bad s
  | .dmaCopy r e d => Sys2Proof.Machine.execDmaCopy r e d s
  | .dmaSkew r e d => Sys2Proof.Machine.execDmaSkew r e d s
  | .dmaUnskew r e d => Sys2Proof.Machine.execDmaUnskew r e d s
  | .dmaFill r e d => Sys2Proof.Machine.execDmaFill r e d s
  | .dmaDescriptorStart r e => Sys2Proof.Machine.execDmaDescriptorStart r e s
  | .dmaComplete r e err lines => Sys2Proof.Machine.execDmaComplete r e err lines s
  | .dmaCplPop r e => Sys2Proof.Machine.execDmaCplPop r e s
  | .dmaDescriptorTimeout r e lines => Sys2Proof.Machine.execDmaDescriptorTimeout r e lines s
  | .ingressTransaction r a ix bad => Sys2Proof.Machine.execIngressTransaction r a ix bad s
  | .netTimeoutExpiry kind a b => Sys2Proof.Machine.execNetTimeoutExpiry kind a b s
  | .bankRetEntry r b => Sys2Proof.Machine.execBankRetEntry r b s
  | .bankTransitionComplete r b => Sys2Proof.Machine.execBankTransitionComplete r b s
  | .bankScrubEnd r b => Sys2Proof.Machine.execBankScrubEnd r b s
  | .ucieFlitReceive m seq idle crcOk cvc ccnt => Sys2Proof.Machine.execUcieFlitReceive m seq idle crcOk cvc ccnt s
  | .memoryAccess a n wr data corr bad => Sys2Proof.Machine.execMemoryAccess a n wr data corr bad s
  | .pageRemapComplete k => Sys2Proof.Machine.execPageRemapComplete k s
  | .hbmTempRead u v => Sys2Proof.Machine.execHbmTempRead u v s
  | .ddrScrubCountRead d count errs => Sys2Proof.Machine.execDdrScrubCountRead d count errs s
  | .fetchCommand r c => Sys2Proof.Machine.execFetchCommand r c s
  | .fetchDispatch b e => Sys2Proof.Machine.execFetchDispatch b e s
  | .fetchPool b e => Sys2Proof.Machine.execFetchPool b e s
  | .fetchBlockGather b e bad => Sys2Proof.Machine.execFetchBlockGather b e bad s
  | .fetchBlockMove b e bad => Sys2Proof.Machine.execFetchBlockMove b e bad s
  | .rowReadComplete b e bad => Sys2Proof.Machine.execRowReadComplete b e bad s
  | .fetchComplete b e => Sys2Proof.Machine.execFetchComplete b e s
  | .migrationPageCopyComplete d => Sys2Proof.Machine.execMigrationPageCopyComplete d s
  | .channelTestComplete d reason pages => Sys2Proof.Machine.execChannelTestComplete d reason pages s
  | .flashReadComplete b e step => Sys2Proof.Machine.execFlashReadComplete b e step s
  | .flashBatchCommit t toL => Sys2Proof.Machine.execFlashBatchCommit t toL s
  | .flashProgramEraseComplete c k die fail spareLeft peAvg peMax wa lost => Sys2Proof.Machine.execFlashProgramEraseComplete c k die fail spareLeft peAvg peMax wa lost s
  | .flashRelocationComplete t g c k die balanced => Sys2Proof.Machine.execFlashRelocationComplete t g c k die balanced s
  | .flashRetentionExpiry c k gs => Sys2Proof.Machine.execFlashRetentionExpiry c k gs s
  | .flashInterfaceTraining c k ok => Sys2Proof.Machine.execFlashInterfaceTraining c k ok s
  | .flashMapReloadComplete b t => Sys2Proof.Machine.execFlashMapReloadComplete b t s
  | .cardTestComplete c hdr serial reason balanced => Sys2Proof.Machine.execCardTestComplete c hdr serial reason balanced s
  | .fabricFrameReceive port ok csym seqs => Sys2Proof.Machine.execFabricFrameReceive port ok csym seqs s
  | .fabricControlFlit port ack nak creds lcmd larg => Sys2Proof.Machine.execFabricControlFlit port ack nak creds lcmd larg s
  | .laneSwap port lane received => Sys2Proof.Machine.execLaneSwap port lane received s
  | .laneSwapEffective port tx => Sys2Proof.Machine.execLaneSwapEffective port tx s
  | .laneReturn port lane received => Sys2Proof.Machine.execLaneReturn port lane received s
  | .laneBerWindowEnd port above spareBad => Sys2Proof.Machine.execLaneBerWindowEnd port above spareBad s
  | .laneQualificationEnd port pass => Sys2Proof.Machine.execLaneQualificationEnd port pass s
  | .fabricPacketForward inPort p => Sys2Proof.Machine.execFabricPacketForward inPort p s
  | .fabricWrite port p => Sys2Proof.Machine.execFabricWrite port p s
  | .fabricReadReq port p => Sys2Proof.Machine.execFabricReadReq port p s
  | .fabricReadRsp port p => Sys2Proof.Machine.execFabricReadRsp port p s
  | .fabricAck port p => Sys2Proof.Machine.execFabricAck port p s
  | .fabricFetch port p => Sys2Proof.Machine.execFabricFetch port p s
  | .fabricMsg port p => Sys2Proof.Machine.execFabricMsg port p s
  | .fabricToken port p => Sys2Proof.Machine.execFabricToken port p s
  | .fabricPoison port p => Sys2Proof.Machine.execFabricPoison port p s
  | .fabricWitrec port p => Sys2Proof.Machine.execFabricWitrec port p s
  | .fabStallExpiry port => Sys2Proof.Machine.execFabStallExpiry port s
  | .fabRequestTimeout b tag => Sys2Proof.Machine.execFabRequestTimeout b tag s
  | .injectionStepEval => Sys2Proof.Machine.execInjectionStepEval s
  | .routeCommitTick => Sys2Proof.Machine.execRouteCommitTick s
  | .routeVersionFree b => Sys2Proof.Machine.execRouteVersionFree b s
  | .bindingSendStart n => Sys2Proof.Machine.execBindingSendStart n s
  | .bindingSendComplete n => Sys2Proof.Machine.execBindingSendComplete n s
  | .portLinkLoss port => Sys2Proof.Machine.execPortLinkLoss port s
  | .portRetrainStart port => Sys2Proof.Machine.execPortRetrainStart port s
  | .portQualificationEnd port lanes partner => Sys2Proof.Machine.execPortQualificationEnd port lanes partner s
  | .chaviFrameReceive ok idle seq nak ack => Sys2Proof.Machine.execChaviFrameReceive ok idle seq nak ack s
  | .chaviLinkUp => Sys2Proof.Machine.execChaviLinkUp s
  | .chaviLinkDown cause => Sys2Proof.Machine.execChaviLinkDown cause s
  | .credit h freed => Sys2Proof.Machine.execCredit h freed s
  | .mbxSend h ch msg => Sys2Proof.Machine.execMbxSend h ch msg s
  | .mbxDone h ch mseq code => Sys2Proof.Machine.execMbxDone h ch mseq code s
  | .dwRead h off n bad => Sys2Proof.Machine.execDwRead h off n bad s
  | .hwrite h win off wepoch data => Sys2Proof.Machine.execHwrite h win off wepoch data s
  | .hread h win off wepoch n => Sys2Proof.Machine.execHread h win off wepoch n s
  | .mbxAckWrite n seq code => Sys2Proof.Machine.execMbxAckWrite n seq code s
  | .mbxTakeRead n => Sys2Proof.Machine.execMbxTakeRead n s
  | .mbxPeerResend n => Sys2Proof.Machine.execMbxPeerResend n s
  | .reqTail path ring value rsv => Sys2Proof.Machine.execReqTail path ring value rsv s
  | .reqAdd path ring value rsv => Sys2Proof.Machine.execReqAdd path ring value rsv s
  | .cplHead path ring value rsv => Sys2Proof.Machine.execCplHead path ring value rsv s
  | .reqTimeout n ix => Sys2Proof.Machine.execReqTimeout n ix s
  | .jobTimeout job => Sys2Proof.Machine.execJobTimeout job s
  | .deviceInfo h => Sys2Proof.Machine.execDeviceInfo h s
  | .defectMap h => Sys2Proof.Machine.execDefectMap h s
  | .bootLog h half => Sys2Proof.Machine.execBootLog h half s
  | .powerStatus h => Sys2Proof.Machine.execPowerStatus h s
  | .clockStatus h => Sys2Proof.Machine.execClockStatus h s
  | .fabricStatus h b => Sys2Proof.Machine.execFabricStatus h b s
  | .flashHealth h => Sys2Proof.Machine.execFlashHealth h s
  | .errorLogRead h start max => Sys2Proof.Machine.execErrorLogRead h start max s
  | .rowPowerPolicy h r tNap tSleep tBank => Sys2Proof.Machine.execRowPowerPolicy h r tNap tSleep tBank s
  | .rowPower h r st => Sys2Proof.Machine.execRowPower h r st s
  | .rowRearm h r => Sys2Proof.Machine.execRowRearm h r s
  | .bankPower h r b st => Sys2Proof.Machine.execBankPower h r b st s
  | .powerCap h module package halfN halfS => Sys2Proof.Machine.execPowerCap h module package halfN halfS s
  | .stepLimit h min max => Sys2Proof.Machine.execStepLimit h min max s
  | .energyReport h job start => Sys2Proof.Machine.execEnergyReport h job start s
  | .powerGroup h op grp budget => Sys2Proof.Machine.execPowerGroup h op grp budget s
  | .watchdog h r slot period => Sys2Proof.Machine.execWatchdog h r slot period s
  | .programLoad h r prog flags region units src len => Sys2Proof.Machine.execProgramLoad h r prog flags region units src len s
  | .programUnload h r prog => Sys2Proof.Machine.execProgramUnload h r prog s
  | .selfTest h u => Sys2Proof.Machine.execSelfTest h u s
  | .unitRecover h u copyBad => Sys2Proof.Machine.execUnitRecover h u copyBad s
  | .timeoutSet h level job value => Sys2Proof.Machine.execTimeoutSet h level job value s
  | .recalibrate h r what => Sys2Proof.Machine.execRecalibrate h r what s
  | .defectClear h u => Sys2Proof.Machine.execDefectClear h u s
  | .restart h kind => Sys2Proof.Machine.execRestart h kind s
  | .handoff h image => Sys2Proof.Machine.execHandoff h image s
  | .handoffImageVerified => Sys2Proof.Machine.execHandoffImageVerified s
  | .memClaim h base len => Sys2Proof.Machine.execMemClaim h base len s
  | .memRelease h base len => Sys2Proof.Machine.execMemRelease h base len s
  | .pageFree h base len => Sys2Proof.Machine.execPageFree h base len s
  | .tableCreate h table bridge home type hash seed nrows dim fmt fill part rowBase keyBase partBase bsize mapBase mapInit => Sys2Proof.Machine.execTableCreate h table bridge home type hash seed nrows dim fmt fill part rowBase keyBase partBase bsize mapBase mapInit s
  | .tableUpdate h table count src => Sys2Proof.Machine.execTableUpdate h table count src s
  | .tableDestroy h table => Sys2Proof.Machine.execTableDestroy h table s
  | .channelDrain h d rate => Sys2Proof.Machine.execChannelDrain h d rate s
  | .channelReturn h d rate present => Sys2Proof.Machine.execChannelReturn h d rate present s
  | .locate h kind index on => Sys2Proof.Machine.execLocate h kind index on s
  | .flashPolicy h b rate => Sys2Proof.Machine.execFlashPolicy h b rate s
  | .cardDrain h c => Sys2Proof.Machine.execCardDrain h c s
  | .cardReturn h c flags present => Sys2Proof.Machine.execCardReturn h c flags present s
  | .endpointAssign h ep => Sys2Proof.Machine.execEndpointAssign h ep s
  | .routeStage h b first count src => Sys2Proof.Machine.execRouteStage h b first count src s
  | .routeCommit h tick drain => Sys2Proof.Machine.execRouteCommit h tick drain s
  | .mapWindow h win perm home base len srcf => Sys2Proof.Machine.execMapWindow h win perm home base len srcf s
  | .unmapWindow h win => Sys2Proof.Machine.execUnmapWindow h win s
  | .binding h bind op r b comp fmt flow dline dlen sline slen dst win wepoch doff soff v k stride notify ndst nword => Sys2Proof.Machine.execBinding h bind op r b comp fmt flow dline dlen sline slen dst win wepoch doff soff v k stride notify ndst nword s
  | .fabricPolicy h b q1 q2 q3 q4 => Sys2Proof.Machine.execFabricPolicy h b q1 q2 q3 q4 s
  | .channelConfigure h ch rcv flags smatch rdest rchan => Sys2Proof.Machine.execChannelConfigure h ch rcv flags smatch rdest rchan s
  | .ringCreate h ring owner slots log2 cqtarget cqchan notify dbchavi rq cq dbsrc tmo => Sys2Proof.Machine.execRingCreate h ring owner slots log2 cqtarget cqchan notify dbchavi rq cq dbsrc tmo s
  | .ringDestroy h ring => Sys2Proof.Machine.execRingDestroy h ring s
  | .ringModify h ring slots notify dbchavi dbsrc tmo => Sys2Proof.Machine.execRingModify h ring slots notify dbchavi dbsrc tmo s
  | .witnessRing h w pred flags n thr base len => Sys2Proof.Machine.execWitnessRing h w pred flags n thr base len s
  | .witnessSeal h w => Sys2Proof.Machine.execWitnessSeal h w s
  | .attestQuote h nonce => Sys2Proof.Machine.execAttestQuote h nonce s
  | .debugUnlock h token sig => Sys2Proof.Machine.execDebugUnlock h token sig s
  | .keyRevoke h record sig => Sys2Proof.Machine.execKeyRevoke h record sig s
  | .replyRetry ix => Sys2Proof.Machine.execReplyRetry ix s
  | .poisonDeadline => Sys2Proof.Machine.execPoisonDeadline s
  | .heldRpushResolve r c => Sys2Proof.Machine.execHeldRpushResolve r c s
  | .targetedTestStart u => Sys2Proof.Machine.execTargetedTestStart u s
  | .testNeedsTimeout u => Sys2Proof.Machine.execTestNeedsTimeout u s
  | .targetedTestRetry u => Sys2Proof.Machine.execTargetedTestRetry u s
  | .targetedTestEnd u pass rt badBanks => Sys2Proof.Machine.execTargetedTestEnd u pass rt badBanks s
  | .slotRecovery ast r t => Sys2Proof.Machine.execSlotRecovery ast r t s
  | .mgmtWatchdogRestart => Sys2Proof.Machine.execMgmtWatchdogRestart s
  | .mgmtWatchdogExpiry dup => Sys2Proof.Machine.execMgmtWatchdogExpiry dup s
  | .mcHalt dup => Sys2Proof.Machine.execMcHalt dup s
  | .failoverResume => Sys2Proof.Machine.execFailoverResume s
  | .powerFastCheck m => Sys2Proof.Machine.execPowerFastCheck m s
  | .phaseMarker => Sys2Proof.Machine.execPhaseMarker s
  | .thermalSensorRead k v => Sys2Proof.Machine.execThermalSensorRead k v s
  | .thermalCeilingRaise => Sys2Proof.Machine.execThermalCeilingRaise s
  | .peerDiscovery => Sys2Proof.Machine.execPeerDiscovery s
  | .tokenReportPeriod => Sys2Proof.Machine.execTokenReportPeriod s
  | .witnessItem ix => Sys2Proof.Machine.execWitnessItem ix s
  | .witnessItemExpiry ix => Sys2Proof.Machine.execWitnessItemExpiry ix s
  | .witnessEvaluation ix => Sys2Proof.Machine.execWitnessEvaluation ix s
  | .fetchItemWaitExpiry ix => Sys2Proof.Machine.execFetchItemWaitExpiry ix s
  | .stallHoldExpiry w => Sys2Proof.Machine.execStallHoldExpiry w s
  | .witnessEntryWrite w => Sys2Proof.Machine.execWitnessEntryWrite w s
  | .sealTimer w => Sys2Proof.Machine.execSealTimer w s
  | .sealWrite => Sys2Proof.Machine.execSealWrite s
  | .imgReqResponse idx off absent data => Sys2Proof.Machine.execImgReqResponse idx off absent data s
  | .imgReqResend => Sys2Proof.Machine.execImgReqResend s
  | .sesHello h total off frag => Sys2Proof.Machine.execSesHello h total off frag s
  | .sesOfferSend => Sys2Proof.Machine.execSesOfferSend s
  | .sesProof h total off frag => Sys2Proof.Machine.execSesProof h total off frag s
  | .authLockoutEnd => Sys2Proof.Machine.execAuthLockoutEnd s
  | .noiseHealthChange bad => Sys2Proof.Machine.execNoiseHealthChange bad s
  | .dbgRead h a n => Sys2Proof.Machine.execDbgRead h a n s
  | .dbgWrite h a data => Sys2Proof.Machine.execDbgWrite h a data s
  | .spnAttnClearbelow n => Sys2Proof.Machine.execSpnAttnClearbelow n s
  | .spnTbLowRead high => Sys2Proof.Machine.execSpnTbLowRead high s
  | .astPlanesRead r t => Sys2Proof.Machine.execAstPlanesRead r t s
  | .scbStatusRead r => Sys2Proof.Machine.execScbStatusRead r s
  | .clkRowRead r => Sys2Proof.Machine.execClkRowRead r s
  | .witCntRead n => Sys2Proof.Machine.execWitCntRead n s
  | .registerWrite a v => Sys2Proof.Machine.execRegisterWrite a v s
  | .attnNRelease => Sys2Proof.Machine.execAttnNRelease s
  | .attnEventDeferred => Sys2Proof.Machine.execAttnEventDeferred s
  | .dimmFault d => Sys2Proof.Machine.execDimmFault d s
  | .qualificationSessionRequest port => Sys2Proof.Machine.execQualificationSessionRequest port s
  | .quoteSigningComplete => Sys2Proof.Machine.execQuoteSigningComplete s
  | .bridgeReloadComplete b res => Sys2Proof.Machine.execBridgeReloadComplete b res s
  | .recalibrationComplete sensors r v => Sys2Proof.Machine.execRecalibrationComplete sensors r v s

end Sys2Proof.Machine
end

