-- ==== Sys2Proof/Machine/Step.lean ====
section
/-! DEFINITION. One step: the command at the front of the queue, or what happens on an empty queue. -/

namespace Sys2Proof.Machine

/-- A step on an empty queue (log 16): a Chavi request that waited for HWRITEs is performed, held completions are posted, a command in progress comes to its end, or a
command that waited for Gwynpin starts; otherwise one tick of the timebase passes. -/
def idle (s : State) : Res :=
  match ((hostIdle s).orElse (fun _ => ringIdle s)).orElse (fun _ => cmdIdle s) with
  | some t => .next t
  | none =>
  match startable s with
  | some (before, c, after) =>
    match exec c (s.modGw (fun g => { g with waiting := before })) with
    | .next t => .next (t.modGw (fun g => { g with waiting := g.waiting ++ after }))
    | r => r
  | none => .next (tickTimebase s)

/-- A step: the effect of the front command on the state with the rest of the queue. -/
def step (s : State) : Res :=
  match s.pending with
  | [] => idle s
  | c :: rest => exec c { s with pending := rest }

/-- The state with the command that a table word spells put at the front of its queue; the table gives no bits, so no
word spells one. -/
def State.withFetchWord (s : State) (nbits w : Nat) : State :=
  match decodeTableWord nbits w with
  | some c => { s with pending := c :: s.pending }
  | none => s

end Sys2Proof.Machine
end

