-- ==== Sys2Proof/Safety.lean ====
section
/-! DEFINITION. What claims about the machine are stated in: which fields of the state a change keeps, and the invariant of
the state. -/

namespace Sys2Proof.Machine

/-- The fields of State, by name. -/
inductive Fld where
  | power | clk | rows | fuse | eeprom | boot | dmap | mem | fetch | flash | fab | chavi | mbx | rings | gw | err | cap | therm | wit | sec | attn | out | fresh | pending
  deriving DecidableEq, Repr

/-- The states s and t hold the same in a field. -/
def Fld.same (s t : State) : Fld → Prop
  | .power => t.power = s.power
  | .clk => t.clk = s.clk
  | .rows => t.rows = s.rows
  | .fuse => t.fuse = s.fuse
  | .eeprom => t.eeprom = s.eeprom
  | .boot => t.boot = s.boot
  | .dmap => t.dmap = s.dmap
  | .mem => t.mem = s.mem
  | .fetch => t.fetch = s.fetch
  | .flash => t.flash = s.flash
  | .fab => t.fab = s.fab
  | .chavi => t.chavi = s.chavi
  | .mbx => t.mbx = s.mbx
  | .rings => t.rings = s.rings
  | .gw => t.gw = s.gw
  | .err => t.err = s.err
  | .cap => t.cap = s.cap
  | .therm => t.therm = s.therm
  | .wit => t.wit = s.wit
  | .sec => t.sec = s.sec
  | .attn => t.attn = s.attn
  | .out => t.out = s.out
  | .fresh => t.fresh = s.fresh
  | .pending => t.pending = s.pending

/-- From s to t nothing changes but, at most, the fields that l names. -/
def Keeps (l : List Fld) (s t : State) : Prop := ∀ f, f ∉ l → f.same s t

/-- A command has its effect: it answers a next state, and p holds of that state. -/
def Runs (p : State → Prop) (r : Res) : Prop := ∃ t, r = .next t ∧ p t

/-- The invariant every step keeps: device memory keeps its canonical form (log 8). -/
def State.Inv (s : State) : Prop := Memory.wf s.mem.cells = true

/-! What the statements are put in terms of. -/

/-- The commands of Gwynpin (16) and the doorbells (15 R430). -/
def cmdOrBell : Instr → Bool
  | .deviceInfo .. | .defectMap .. | .bootLog .. | .powerStatus .. | .clockStatus .. | .fabricStatus .. | .flashHealth .. | .errorLogRead ..
  | .rowPowerPolicy .. | .rowPower .. | .rowRearm .. | .bankPower .. | .powerCap .. | .stepLimit .. | .energyReport .. | .powerGroup ..
  | .watchdog .. | .programLoad .. | .programUnload .. | .selfTest .. | .unitRecover .. | .timeoutSet .. | .recalibrate .. | .defectClear ..
  | .restart .. | .handoff .. | .memClaim .. | .memRelease .. | .pageFree .. | .tableCreate .. | .tableUpdate .. | .tableDestroy ..
  | .channelDrain .. | .channelReturn .. | .locate .. | .flashPolicy .. | .cardDrain .. | .cardReturn .. | .endpointAssign .. | .routeStage ..
  | .routeCommit .. | .mapWindow .. | .unmapWindow .. | .binding .. | .fabricPolicy .. | .channelConfigure .. | .ringCreate ..
  | .ringDestroy .. | .ringModify .. | .witnessRing .. | .witnessSeal .. | .attestQuote .. | .debugUnlock .. | .keyRevoke .. | .reqTail ..
  | .reqAdd .. | .cplHead .. => true
  | _ => false

/-- What a stage k leaves when it ends (05 R117, R121): one record appended to the current half of the boot log, with the stage, its
start and its end; then the next stage runs, or bring-up is stopped with every row OFF or DARK. -/
def StageEnds (k : Nat) (s t : State) : Prop :=
  (∃ r : BootRec, nth t.boot.halves s.boot.curHalf = nth s.boot.halves s.boot.curHalf ++ [r] ∧ r.stage = k ∧ r.tbStart = s.boot.stageTb
    ∧ r.tbEnd = s.tb ∧ r.bootNo = s.boot.bootNo ∧ r.finds.length ≤ 254
    ∧ ((r.status ≠ .stopped ∧ t.boot.st = .running ∧ t.boot.stage = k + 1 ∧ t.boot.stageTb = s.tb) ∨ (r.status = .stopped ∧ t.boot.st = .stopped)))
  ∧ (∀ h, h ≠ s.boot.curHalf → nth t.boot.halves h = nth s.boot.halves h)

/-- Only row r, and of it nothing but what the command names, may change (a frame over the rows). -/
def RowsBut (r : Nat) (s t : State) : Prop := ∀ q, q ≠ r → t.row q = s.row q

/-- A core that can execute on a row that runs (10 R257). -/
abbrev CoreGo (s : State) (r c : Nat) : Prop :=
  coreRuns s r c = true ∧ (s.row r).st = .active ∧ r < s.rows.length ∧ c < (s.row r).cores.length

/-- No two entries of different owners conflict: they do not overlap, or both are reads (11 R269). -/
abbrev ScbOk (w : Row) : Prop := ∀ e ∈ w.scb, ∀ f ∈ w.scb, e.owner ≠ f.owner → rangeOk e.range f.range = true

/-- The last packet put in the injection queue of a bridge. -/
def lastInj (t : State) (b : Nat) : Option Pkt := (t.bridge b).injq.getLast?

/-- A packet of a type arrives whole and well formed at a live port, for endpoint i of this module, whose bridge works. -/
abbrev AtEndpoint (s : State) (port i : Nat) (p : Pkt) : Prop :=
  port < 12 ∧ s.fab.bridges.length = 2 ∧ portLive (s.port port).st = true ∧ epIndex s p.dst = some i ∧ (i = 15 → hasWitness s = true)
    ∧ pktFault p = none ∧ bridgeUp s (performer (portBridge port) i) = true

/-- What an answer injected last at a bridge says: its type, its status, where it goes and its tag. -/
def answered (t : State) (b : Nat) : Option (Nat × Nat × Nat × Nat) := (lastInj t b).map (fun x => (x.type, x.status, x.dst, x.tag))

/-- A packet of the host that passes the link's checks outside a session (15 R400). -/
abbrev PlainLink (s : State) (h : ChaviHdr) : Prop := linkUp s = true ∧ s.sec.session = 0 ∧ h.crcOk = true ∧ h.layoutOk = true ∧ h.enc = false

/-- The request has been answered with an RSP and its receive buffer freed, and nothing else was sent (15 R400, R401). -/
def HostAnswered (s t : State) (h : ChaviHdr) (arg n : Nat) (c : Code) (data : List Byte) : Prop :=
  t.out = .chavi { type := 0x0A, arg := (s.chavi.credFreed + chaviCredits n) % 2 ^ 32 } :: .chavi { type := 0x09, tag := h.tag, status := c.val, arg := arg, data := data } :: s.out

/-- Nothing of the host waits behind an HWRITE (15 R433). -/
abbrev HostQuiet (s : State) : Prop := hostWrites s s.chavi.hwSeq = false ∧ s.chavi.waiting = []

/-- A doorbell of the Chavi host for ring n, which the engine accepts and whose entries it does not end itself. -/
abbrev BellOk (s : State) (h : ChaviHdr) (n : Nat) (g : RqRing) : Prop :=
  PlainLink s h ∧ HostQuiet s ∧ s.boot.st = .ready ∧ n < 65536 ∧ s.ring n = some g ∧ g.failed = false ∧ g.dbChavi = true ∧ g.held = []
    ∧ rowEnds s g.owner = false ∧ (s.row g.owner).st = .active ∧ s.gw.jobExpired = [] ∧ hasWitness s = true

/-- Fields that the answer to a command may change beside the command's own effect (16 R438, R439). -/
def gwF : List Fld := [.fab, .chavi, .mbx, .gw, .sec, .out]

/-- Gwynpin takes the command at once: it serves, a place is free, the command's object is not held, and the checks of R440 pass. -/
abbrev GwGo (s : State) (h : CmdHdr) (sec : Bool) (need o : Nat) : Prop :=
  gwServes s = true ∧ s.gw.cmds.length < 8 ∧ (o = 0 ∨ ((∀ k ∈ s.gw.cmds, k.obj ≠ o) ∧ ∀ w ∈ s.gw.waiting, w.1 ≠ o)) ∧ gwCheck s h sec need = .ok

/-- The command has been answered with code c and the RESULT bytes, its data lying at RESPTR (16 R438, Table 16.2). -/
def Replied (s t : State) (h : CmdHdr) (op : Nat) (c : Code) (inline data : List Byte) : Prop :=
  t.gw.lastReply = some (h.rchan, replyMsg op h.ctag c.val s.tb data.length inline, s.tb)

/-- The same, with n bytes of data written at RESPTR and memory elsewhere as before. -/
def RepliedData (s t : State) (h : CmdHdr) (op : Nat) (inline data : List Byte) (n : Nat) : Prop :=
  Replied s t h op .ok inline data ∧ data.length = n ∧ t.mem = (memWrite s h.resptr data).mem

/-- The command is in progress and waits for an event (16 R441). -/
def Accepted (s t : State) (h : CmdHdr) (op w a o : Nat) : Prop :=
  ∃ k ∈ t.gw.cmds, k.id = s.gw.nextId ∧ k.opcode = op ∧ k.wait = w ∧ k.arg = a ∧ k.obj = o ∧ k.chan = h.chan ∧ k.ctag = h.ctag ∧ k.rchan = h.rchan

/-- The record that the evaluation of a completion makes (20 R547), and what the predicates of its ring say. -/
def evalOf (s : State) (c : WitCpl) (owner : Nat) : Nat × WitRing :=
  evalPreds (s.wring (trailerOf c.entry).wring) (trailerOf c.entry) ((s.wit.items.filter (links (trailerOf c.entry) owner)).filterMap (·.dec))
def recordOf (s : State) (c : WitCpl) (owner : Nat) : WitEntry :=
  assemble s c owner (evalOf s c owner).1 (!itemsHere s (trailerOf c.entry) owner) (s.wit.lost.filter (fun x => links (trailerOf c.entry) owner { x with tag := 0 })).length
    (evalOf s c owner).2 (s.wit.items.filter (links (trailerOf c.entry) owner))

/-- A packet of a session that passes the link's checks (21 R562). -/
abbrev SecureLink (s : State) (h : ChaviHdr) : Prop :=
  linkUp s = true ∧ s.sec.session ≠ 0 ∧ h.crcOk = true ∧ h.layoutOk = true ∧ h.enc = true ∧ h.authOk = true ∧ h.ctr < 2 ^ 48 ∧ (∀ c ∈ s.sec.ctrRx, c < h.ctr) ∧ s.sec.ctrTx < 2 ^ 48

/-- The request has been answered inside the session, with the next CTR. -/
def SessionAnswered (s t : State) (h : ChaviHdr) (arg n : Nat) (c : Code) (data : List Byte) : Prop :=
  t.out = .chavi { type := 0x0A, arg := (s.chavi.credFreed + chaviCredits (n + 24)) % 2 ^ 32 }
    :: .chavi { type := 0x09, tag := h.tag, status := c.val, arg := arg, data := data, ctr := some s.sec.ctrTx } :: s.out

end Sys2Proof.Machine

namespace Sys2Proof

open Sys2Proof.Machine

/-- What a command may change at most, as fields of the state; what each clause about a command adds is narrower. -/
def Instr.touches : Instr → List Fld
  | .inputTrip .. => [.power, .clk, .rows, .eeprom, .boot, .mem, .fetch, .flash, .fab, .chavi, .mbx, .rings, .gw, .err, .cap, .therm, .wit, .sec, .attn, .out]
  | .inputRangeExcursion .. | .ucieFlitReceive .. | .fabStallExpiry .. | .routeVersionFree .. | .dwRead .. | .replyRetry .. | .sesProof ..
  | .noiseHealthChange .. => [.fab, .chavi, .mbx, .gw, .err, .sec, .attn, .out]
  | .holdUpEnd | .vspineLost => [.power, .clk, .rows, .eeprom, .boot, .dmap, .mem, .fetch, .flash, .fab, .chavi, .mbx, .rings, .gw, .err, .cap, .therm, .wit, .sec, .attn]
  | .platformEventRecordWrite .. | .eepromArbitrationRetry .. => [.eeprom]
  | .inputSwitchClose | .mgmtPortLinkChange .. | .stagingStart .. | .stagingHalfRateStart .. | .halfPark .. => [.power]
  | .softStartComplete => [.power, .clk]
  | .mrstNAssert .. => [.power, .clk, .rows, .eeprom, .boot, .mem, .fetch, .flash, .fab, .chavi, .mbx, .rings, .gw, .cap, .therm, .wit, .sec, .attn, .fresh]
  | .mrstNRelease => [.power, .attn]
  | .coldBringUpStart => [.power, .clk, .boot]
  | .switchSoftStartDone .. | .switchSoftStartTimeout .. | .switchCurrentLimitLatch .. | .baySwitchDelayedOpen .. | .flashRelocationComplete ..
  | .cardTestComplete .. => [.power, .dmap, .mem, .fetch, .flash, .fab, .chavi, .mbx, .gw, .err, .sec, .attn, .out]
  | .dimmRemovedWhileOn .. | .channelTestComplete .. | .cardDrain .. => [.power, .dmap, .mem, .flash, .fab, .chavi, .mbx, .gw, .err, .sec, .attn, .out]
  | .bayLatchOpen .. => [.power, .mem, .fetch, .flash, .fab, .chavi, .mbx, .gw, .err, .sec, .attn, .out]
  | .presentNChange .. => [.power, .dmap, .fab, .chavi, .mbx, .gw, .err, .sec, .attn, .out]
  | .j3Send .. => [.fab, .chavi, .mbx, .sec, .out]
  | .j3Done .. | .mbxTakeRead .. => [.mbx, .out]
  | .phaseLoss .. | .rowShort .. => [.power, .rows, .dmap, .mem, .fab, .chavi, .mbx, .rings, .gw, .err, .sec, .attn, .out]
  | .rowRetryBegin .. | .timebaseEventWake .. | .seamUnparkComplete .. | .astRunWrite .. | .astQpushWrite .. | .sresv .. | .srels .. | .tbwait ..
  | .tbwaitEnd .. | .dmaCopy .. | .dmaSkew .. | .dmaUnskew .. | .dmaFill .. => [.power, .rows]
  | .rowRetrySuccess .. => [.power, .rows, .dmap, .mem, .fab, .chavi, .mbx, .gw, .sec, .out]
  | .headerStageClose .. | .rowUsable .. | .sleepEntry .. | .rowPower .. | .rowRearm .. | .bankPower .. | .watchdog .. | .programLoad .. => [.power, .rows, .mem, .fab, .chavi, .mbx, .gw, .sec, .out]
  | .powerWindowEnd .. => [.power, .clk, .fab, .chavi, .mbx, .gw, .err, .cap, .therm, .sec, .attn, .out]
  | .sharedRailLost .. => [.power, .rows, .dmap, .mem, .fetch, .flash, .fab, .chavi, .mbx, .rings, .gw, .err, .sec, .attn, .out]
  | .sharedRailRetry .. | .dmaDescriptorStart .. | .chaviLinkDown .. | .registerWrite .. => [.power, .rows, .fab, .chavi, .mbx, .gw, .err, .sec, .attn, .out]
  | .refLoss | .clockHold .. => [.clk, .fab, .chavi, .mbx, .gw, .err, .sec, .attn, .out]
  | .clkStepAtWrite .. | .recalibrationComplete .. => [.clk]
  | .stepWithdraw | .stepChangeTick | .stepSettled | .powerFastCheck .. => [.clk, .cap]
  | .idleEntry .. | .napEntry .. | .sresvDeadline .. | .bankRetEntry .. => [.rows]
  | .bu0 .. => [.power, .rows, .eeprom, .boot, .dmap, .mem, .fab, .chavi, .mbx, .rings, .gw, .err, .sec, .attn, .out, .fresh]
  | .bu1 .. => [.power, .clk, .rows, .boot, .mem, .fab, .chavi, .mbx, .rings, .gw, .err, .sec, .attn, .out]
  | .bu2 .. => [.power, .rows, .boot, .dmap, .mem, .fetch, .flash, .fab, .chavi, .mbx, .rings, .gw, .err, .sec, .attn, .out]
  | .bu3 .. => [.power, .rows, .boot, .dmap, .mem, .fab, .chavi, .mbx, .rings, .gw, .err, .sec, .attn, .out, .fresh]
  | .bu4 .. => [.rows, .boot, .dmap, .mem, .fab, .chavi, .mbx, .gw, .err, .sec, .attn, .out, .fresh]
  | .bu5 .. | .bu6 .. => [.power, .boot, .dmap, .mem, .out]
  | .bu7 .. => [.boot, .dmap, .fetch, .flash, .out]
  | .bu8 .. => [.boot, .dmap, .fab, .out]
  | .bu9 | .stageTimeout | .mbxSend .. | .mbxDone .. | .imgReqResponse .. | .imgReqResend => [.power, .rows, .boot, .mem, .fab, .chavi, .mbx, .rings, .gw, .err, .sec, .attn, .out]
  | .bu10 => [.boot, .chavi, .mbx, .gw, .sec, .attn, .out]
  | .astRunFetch .. | .fence .. | .resv .. | .rels .. | .wload .. | .wloadComplete .. | .epi .. | .epiComplete .. | .decideSet .. | .group ..
  | .matv .. | .astWaitTimeout .. | .astRunTimeout .. | .prmWatchdogExpiry .. | .chaviFrameReceive .. => [.rows, .fab, .chavi, .mbx, .gw, .err, .sec, .attn, .out]
  | .nopMark .. => [.rows, .fab, .chavi, .mbx, .gw, .err, .cap, .sec, .attn, .out]
  | .deciderEvaluation .. | .matvComplete .. => [.rows, .mem, .wit]
  | .pairCompare .. => [.rows, .fetch, .fab, .chavi, .mbx, .gw, .err, .wit, .sec, .attn, .out]
  | .primroseExecute .. | .rpop .. | .wdkick .. | .badd .. | .bscl .. | .bmax .. | .blin .. | .fhash .. => [.power, .rows, .mem, .fab, .chavi, .mbx, .rings, .gw, .err, .sec, .attn, .out, .fresh]
  | .primroseMemoryAccess .. => [.power, .rows, .mem, .fab, .chavi, .mbx, .gw, .err, .sec, .attn, .out, .fresh]
  | .rpush .. | .programUnload .. => [.power, .rows, .mem, .fab, .chavi, .mbx, .rings, .gw, .err, .sec, .attn, .out]
  | .haltedCoreRequestsEnd .. | .reqTimeout .. | .jobTimeout .. => [.mem, .fab, .chavi, .mbx, .rings, .gw, .err, .sec, .attn, .out]
  | .scoreboardGrant .. | .netTimeoutExpiry .. => [.rows, .mem, .fetch, .fab, .chavi, .mbx, .gw, .err, .sec, .attn, .out]
  | .dmaComplete .. => [.rows, .mem, .fab, .chavi, .mbx, .gw, .err, .sec, .attn, .out, .fresh]
  | .dmaCplPop .. => [.rows, .out]
  | .dmaDescriptorTimeout .. | .bindingSendComplete .. | .poisonDeadline => [.rows, .mem, .fab, .chavi, .mbx, .gw, .err, .sec, .attn, .out]
  | .ingressTransaction .. => [.power, .rows, .mem, .fetch, .fab, .chavi, .mbx, .gw, .err, .sec, .attn, .out]
  | .bankTransitionComplete .. | .bankScrubEnd .. | .rowPowerPolicy .. | .binding .. => [.rows, .mem, .fab, .chavi, .mbx, .gw, .sec, .out]
  | .memoryAccess .. | .ddrScrubCountRead .. => [.mem, .fab, .chavi, .mbx, .gw, .err, .sec, .attn, .out]
  | .pageRemapComplete .. | .bridgeReloadComplete .. => [.dmap, .mem, .flash, .fab, .chavi, .mbx, .rings, .gw, .err, .sec, .attn, .out]
  | .hbmTempRead .. | .thermalSensorRead .. => [.power, .clk, .rows, .dmap, .mem, .fetch, .flash, .fab, .chavi, .mbx, .rings, .gw, .err, .therm, .sec, .attn, .out]
  | .fetchCommand .. => [.rows, .fetch]
  | .fetchDispatch .. => [.fetch]
  | .fetchPool .. => [.power, .rows, .fetch, .fab, .wit, .fresh]
  | .fetchBlockGather .. | .fetchBlockMove .. => [.power, .rows, .mem, .fetch, .fab, .chavi, .mbx, .gw, .err, .sec, .attn, .out, .fresh]
  | .rowReadComplete .. => [.mem, .fetch, .fab, .chavi, .mbx, .gw, .err, .wit, .sec, .attn, .out, .fresh]
  | .fetchComplete .. => [.power, .rows, .mem, .fetch, .flash, .fab, .chavi, .mbx, .gw, .sec, .out]
  | .migrationPageCopyComplete .. => [.power, .dmap, .mem, .fab, .chavi, .mbx, .gw, .err, .sec, .attn, .out]
  | .flashReadComplete .. => [.fetch, .flash, .fab, .chavi, .mbx, .gw, .err, .sec, .attn, .out]
  | .flashBatchCommit .. | .tableUpdate .. | .tableDestroy .. => [.mem, .fetch, .flash, .fab, .chavi, .mbx, .gw, .sec, .out]
  | .flashProgramEraseComplete .. | .flashInterfaceTraining .. => [.dmap, .mem, .fetch, .flash, .fab, .chavi, .mbx, .gw, .err, .sec, .attn, .out]
  | .flashRetentionExpiry .. => [.flash]
  | .flashMapReloadComplete .. => [.mem, .flash]
  | .fabricFrameReceive .. | .laneSwap .. | .laneReturn .. => [.fab, .out]
  | .fabricControlFlit .. | .laneSwapEffective .. | .laneBerWindowEnd .. | .portLinkLoss .. | .qualificationSessionRequest .. => [.dmap, .fab, .chavi, .mbx, .gw, .err, .sec, .attn, .out]
  | .laneQualificationEnd .. | .testNeedsTimeout .. | .targetedTestEnd .. => [.power, .rows, .boot, .dmap, .mem, .fetch, .fab, .chavi, .mbx, .rings, .gw, .err, .wit, .sec, .attn, .out, .fresh]
  | .fabricPacketForward .. | .fabricWrite .. | .fabricReadReq .. | .fabricReadRsp .. | .fabricAck .. | .fabricFetch .. | .fabricMsg ..
  | .fabricToken .. | .fabricPoison .. | .fabricWitrec .. | .reqTail .. | .reqAdd .. | .cplHead .. => [.power, .clk, .rows, .boot, .mem, .fetch, .fab, .chavi, .mbx, .rings, .gw, .err, .cap, .wit, .sec, .attn, .out]
  | .fabRequestTimeout .. => [.clk, .rows, .mem, .fetch, .fab, .chavi, .mbx, .gw, .err, .cap, .sec, .attn, .out]
  | .injectionStepEval | .portRetrainStart .. => [.fab]
  | .routeCommitTick | .deviceInfo .. | .defectMap .. | .powerStatus .. | .fabricStatus .. | .selfTest .. | .timeoutSet .. | .handoff ..
  | .memClaim .. | .memRelease .. | .pageFree .. | .endpointAssign .. | .routeStage .. | .routeCommit .. | .mapWindow .. | .unmapWindow ..
  | .fabricPolicy .. | .channelConfigure .. | .attestQuote .. | .debugUnlock .. | .quoteSigningComplete => [.mem, .fab, .chavi, .mbx, .gw, .sec, .out]
  | .bindingSendStart .. => [.rows, .fab]
  | .portQualificationEnd .. => [.dmap, .mem, .fab, .chavi, .mbx, .gw, .err, .sec, .attn, .out]
  | .chaviLinkUp => [.power, .chavi, .sec, .attn, .out]
  | .credit .. | .sesHello .. => [.chavi, .sec, .out]
  | .hwrite .. | .hread .. | .dbgWrite .. => [.power, .rows, .mem, .fab, .chavi, .mbx, .gw, .err, .sec, .attn, .out]
  | .mbxAckWrite .. => [.mbx]
  | .mbxPeerResend .. => [.fab, .mbx]
  | .bootLog .. | .errorLogRead .. => [.mem, .fab, .chavi, .mbx, .gw, .sec, .attn, .out]
  | .clockStatus .. | .recalibrate .. => [.clk, .mem, .fab, .chavi, .mbx, .gw, .sec, .out]
  | .flashHealth .. => [.mem, .flash, .fab, .chavi, .mbx, .gw, .sec, .out, .fresh]
  | .powerCap .. => [.power, .mem, .fab, .chavi, .mbx, .gw, .cap, .sec, .out]
  | .stepLimit .. | .powerGroup .. => [.mem, .fab, .chavi, .mbx, .gw, .cap, .sec, .out]
  | .energyReport .. => [.mem, .fab, .chavi, .mbx, .gw, .sec, .out, .fresh]
  | .unitRecover .. => [.power, .rows, .dmap, .mem, .fetch, .flash, .fab, .chavi, .mbx, .rings, .gw, .err, .wit, .sec, .attn, .out]
  | .defectClear .. | .handoffImageVerified => [.boot, .mem, .fab, .chavi, .mbx, .gw, .sec, .out]
  | .restart .. => [.boot, .mem, .fab, .chavi, .mbx, .gw, .wit, .sec, .out]
  | .tableCreate .. => [.mem, .fetch, .fab, .chavi, .mbx, .gw, .sec, .out]
  | .channelDrain .. => [.dmap, .mem, .fab, .chavi, .mbx, .gw, .sec, .out]
  | .channelReturn .. | .locate .. => [.power, .mem, .fab, .chavi, .mbx, .gw, .sec, .out]
  | .flashPolicy .. => [.mem, .flash, .fab, .chavi, .mbx, .gw, .sec, .out]
  | .cardReturn .. => [.power, .mem, .flash, .fab, .chavi, .mbx, .gw, .sec, .out]
  | .ringCreate .. | .ringDestroy .. | .ringModify .. => [.mem, .fab, .chavi, .mbx, .rings, .gw, .sec, .out]
  | .witnessRing .. | .stallHoldExpiry .. | .witnessEntryWrite .. | .sealWrite => [.mem, .fab, .chavi, .mbx, .rings, .gw, .err, .wit, .sec, .attn, .out]
  | .witnessSeal .. => [.mem, .fab, .chavi, .mbx, .gw, .wit, .sec, .out]
  | .keyRevoke .. => [.fuse, .mem, .fab, .chavi, .mbx, .gw, .sec, .out]
  | .heldRpushResolve .. => [.rows, .mem, .fab, .chavi, .mbx, .rings, .gw, .err, .sec, .attn, .out]
  | .targetedTestStart .. | .targetedTestRetry .. => [.power, .rows, .dmap, .fab, .gw, .fresh]
  | .slotRecovery .. => [.power, .rows, .mem, .fetch, .fab, .chavi, .mbx, .rings, .gw, .err, .wit, .sec, .attn, .out]
  | .mgmtWatchdogRestart => [.gw]
  | .mgmtWatchdogExpiry .. | .mcHalt .. => [.boot, .fab, .chavi, .mbx, .gw, .err, .sec, .attn, .out]
  | .failoverResume => [.fab, .chavi, .mbx, .gw, .sec, .out]
  | .phaseMarker => [.clk, .rows, .fab, .chavi, .mbx, .gw, .err, .cap, .sec, .attn, .out]
  | .thermalCeilingRaise => [.chavi, .cap, .therm, .sec, .attn, .out]
  | .peerDiscovery => [.fab, .cap]
  | .tokenReportPeriod => [.clk, .fab, .chavi, .mbx, .gw, .err, .cap, .sec, .attn, .out]
  | .witnessItem .. | .witnessItemExpiry .. | .sealTimer .. => [.wit]
  | .witnessEvaluation .. | .fetchItemWaitExpiry .. => [.mem, .fab, .chavi, .mbx, .rings, .gw, .err, .wit, .sec, .attn, .out, .fresh]
  | .sesOfferSend => [.chavi, .sec, .out, .fresh]
  | .authLockoutEnd => [.sec]
  | .dbgRead .. => [.power, .clk, .rows, .fab, .chavi, .mbx, .gw, .err, .wit, .sec, .attn, .out]
  | .spnAttnClearbelow .. | .attnEventDeferred => [.chavi, .sec, .attn, .out]
  | .spnTbLowRead .. | .clkRowRead .. => [.clk, .out]
  | .astPlanesRead .. | .scbStatusRead .. => [.power, .rows, .out]
  | .witCntRead .. => [.wit, .out]
  | .attnNRelease => [.attn]
  | .dimmFault .. => [.dmap, .mem, .flash, .fab, .chavi, .mbx, .gw, .err, .sec, .attn, .out]

end Sys2Proof
end

