-- ==== Sys2Proof/Certificates/Slice0/Obligations.lean ====
section
/-! DEFINITION. The statements for the provers, in the order of the spec's chapters. -/

set_option linter.all false
set_option maxRecDepth 4000

open Sys2Proof Sys2Proof.Machine

/-! The 72 V input, resets, the identity EEPROM and the switches. -/

/-- A trip (02 R29 to R31, R33, Table 2.6): the input switch opens, PWR_OK falls, every rail but TB-W's and VSPINE goes down, the
contents of the memories and the mailbox store are lost, and an event record is due. 20 ms later the module is dark: no rail is
in regulation. When the input has been back for 100 ms the switch closes in soft start, whose end brings VSPINE up.
The model's choices it rests on: logs 8, 19. -/
def Obligations.InputTripTakesModuleDown : Prop :=
  (∀ (s : State) (cause vin iin : Nat), s.power.trip = none → s.power.dark = false →
    ∃ t, exec (.inputTrip cause vin iin) s = .next t ∧ t.power.inputSw = .opened ∧ t.power.pwrOk = false
      ∧ (∀ k, k < 8 → k < s.power.rails.length → (nth t.power.rails k).inReg = false)
      ∧ (∀ k, 8 ≤ k → nth t.power.rails k = nth s.power.rails k)
      ∧ t.power.trip = some { cause := cause, tb := s.tb, vin := vin, iin := iin } ∧ t.eeprom.recordDue = t.power.trip
      ∧ t.mem.cells = [] ∧ t.mbx = {} ∧ (∀ w ∈ t.rows, w.st = .off ∧ w.scb = [])
      ∧ t.eeprom.records = s.eeprom.records ∧ t.fuse = s.fuse ∧ t.tb = s.tb ∧ t.flash.rows = s.flash.rows
      ∧ t.dmap = s.dmap ∧ t.fresh = s.fresh ∧ t.pending = s.pending) ∧
  (∀ (s : State) (i : TripInfo), s.power.trip = some i → i.tb + 1000000 ≤ s.tb →
    ∃ t, exec .holdUpEnd s = .next t ∧ t.power.dark = true ∧ t.power.pwrOk = false ∧ (∀ x ∈ t.power.rails, x.inReg = false)
      ∧ t.mem.cells = [] ∧ t.err.log = [] ∧ t.eeprom.recordDue = none ∧ t.eeprom.records = s.eeprom.records
      ∧ t.fuse = s.fuse ∧ t.flash.rows = s.flash.rows ∧ t.pending = s.pending) ∧
  (∀ (s : State), s.power.dark = true → s.power.inputSw = .opened →
    exec .inputSwitchClose s = .next { s with power := { s.power with inputSw := .softStart } }) ∧
  (∀ (s : State), s.power.inputSw = .softStart →
    exec .softStartComplete s = .next { s with
      power := { s.power with inputSw := .closed, dark := false, trip := none, rails := s.power.rails.modify 10 (fun x => { x with inReg := true }) }
      clk := { s.clk with tb := 0, tbRunning := true } })

/-- From the moment a trip fires until the module is dark, MRST_N, commands and doorbells have no effect (02 R33): MRST_N, every command of
Gwynpin and every doorbell leave the state as it is, and so does a message sent by Chavi or J3. -/
def Obligations.TripIgnoresResetAndCommands : Prop :=
  ∀ (s : State) (i : TripInfo), s.power.trip = some i →
    (∀ ns, exec (.mrstNAssert ns) s = .next s) ∧ exec .mrstNRelease s = .next s ∧ exec .coldBringUpStart s = .next s
    ∧ (∀ c, cmdOrBell c = true → exec c s = .next s)
    ∧ (∀ mac ch msg, exec (.j3Send mac ch msg) s = .next s) ∧ (∀ h ch msg, exec (.mbxSend h ch msg) s = .next s)

/-- MRST_N (02 R36 to R38): a low of 1 µs or more resets the module, one below 0.5 µs does nothing, and between them one of these
two happens and no third. A cold bring-up is due 1 ms after the release, and starts the timebase at 0.
The model's choices it rests on: logs 8, 11. -/
def Obligations.MrstResetsTheModule : Prop :=
  (∀ (s : State) (ns : Nat), alive s = true → 1000 ≤ ns → ∃ t, exec (.mrstNAssert ns) s = .next t
    ∧ t.power.mrstLow = true ∧ t.power.pwrOk = false ∧ t.mbx = {} ∧ t.mem.cells = []
    ∧ (∀ k, k ≠ 10 → k < s.power.rails.length → (nth t.power.rails k).inReg = false)
    ∧ nth t.power.rails 10 = nth s.power.rails 10 ∧ t.tb = s.tb ∧ t.clk.tbRunning = s.clk.tbRunning ∧ t.fuse = s.fuse
    ∧ t.dmap = s.dmap ∧ t.err = s.err ∧ t.eeprom.records = s.eeprom.records ∧ t.flash.rows = s.flash.rows ∧ t.pending = s.pending) ∧
  (∀ (s : State) (ns : Nat), ns < 500 → exec (.mrstNAssert ns) s = .next s) ∧
  (∀ (s : State) (ns : Nat), alive s = true → 500 ≤ ns → ns < 1000 →
    exec (.mrstNAssert ns) s = .next { s with fresh := s.fresh + 1 }
    ∨ exec (.mrstNAssert ns) s = exec (.mrstNAssert 1000) { s with fresh := s.fresh + 1 }) ∧
  (∀ (s : State), s.power.mrstLow = true → s.power.trip = none →
    exec .mrstNRelease s = .next { s with power := { s.power with mrstLow := false, bringUpAt := some (s.tb + 50000) }, attn := { s.attn with hiZ := false } }) ∧
  (∀ (s : State) (n : Nat), s.power.bringUpAt = some n → n ≤ s.tb → s.power.mrstLow = false → s.power.trip = none →
    exec .coldBringUpStart s = .next { s with power := { s.power with bringUpAt := none }, clk := { s.clk with tb := 0, refLost := false }
                                              boot := { s.boot with stage := 0, st := .running, warm := false, stageTb := 0 } })

/-- The event record of a trip goes to the place the header names and the header moves on, wrapping from 126 to 0 (02 R58 to R60);
a bus arbitration that is lost is retried after 1 ms, up to five times, and then the access is abandoned without a record (R61).
Outside the operating range, within the trip levels, the module keeps running and reports once (R28). -/
def Obligations.EventRecordsWrittenInIndexOrder : Prop :=
  (∀ (s : State) (i : TripInfo), s.eeprom.recordDue = some i → s.eeprom.arbLost = none →
    exec (.platformEventRecordWrite false) s = .next { s with eeprom := { s.eeprom with
      records := mset s.eeprom.records s.eeprom.hdrIndex { info := i, slot := s.boot.slotId, crcOk := true }
      hdrIndex := (s.eeprom.hdrIndex + 1) % 127, hdrTotal := (s.eeprom.hdrTotal + 1) % 2 ^ 32, recordDue := none, arbLost := none } }
    ∧ exec (.platformEventRecordWrite true) s = .next { s with eeprom := { s.eeprom with arbLost := some (0, s.tb) } }) ∧
  (∀ (s : State) (i : TripInfo) (k n : Nat), s.eeprom.recordDue = some i → s.eeprom.arbLost = some (k, n) → n + 50000 ≤ s.tb →
    exec (.eepromArbitrationRetry false) s = .next { s with eeprom := { s.eeprom with
      records := mset s.eeprom.records s.eeprom.hdrIndex { info := i, slot := s.boot.slotId, crcOk := true }
      hdrIndex := (s.eeprom.hdrIndex + 1) % 127, hdrTotal := (s.eeprom.hdrTotal + 1) % 2 ^ 32, recordDue := none, arbLost := none } }
    ∧ (k < 4 → exec (.eepromArbitrationRetry true) s = .next { s with eeprom := { s.eeprom with arbLost := some (k + 1, s.tb) } })
    ∧ (4 ≤ k → exec (.eepromArbitrationRetry true) s = .next { s with eeprom := { s.eeprom with arbLost := none, recordDue := none } })) ∧
  (∀ (s : State) (vin : Nat), alive s = true → s.power.inputSw = .closed → (620 ≤ vin ∧ vin < 660 ∨ 780 < vin ∧ vin ≤ 820) →
    exec (.inputRangeExcursion vin) s = .next (errRecord { code := .inputRange, unit := uDom 0, op := 0x10, platform := true, leaf := .ev 2 0, detail := vin } s)) ∧
  (∀ (s : State) (vin : Nat), 660 ≤ vin → vin ≤ 780 → exec (.inputRangeExcursion vin) s = .next s)

/-- Slot and bay switches (02 R43, R44, R48, R49): STARTING ends ON in time and in FAULT otherwise; a latched current limit and a
DIMM removed while ON end in FAULT; an opened bay latch stops new programs of the card and opens the switch 100 ms later. The
other switches keep their states. The model's choices it rests on: log 38. -/
def Obligations.SwitchesFollowTheirRules : Prop :=
  (∀ (s : State) (i : Nat) (spd train : Bool), i < s.power.switches.length → s.boot.st ≠ .ready → (s.sw i).st = .starting →
    s.tb ≤ (s.sw i).startedAt + (if i < 16 then 250000 else 500000) →
    ∃ t, exec (.switchSoftStartDone i spd train) s = .next t ∧ (t.sw i).st = .on ∧ (∀ j, j ≠ i → t.sw j = s.sw j) ∧ Keeps [.power] s t) ∧
  (∀ (s : State) (i : Nat), i < s.power.switches.length → (s.sw i).st = .starting →
    (s.sw i).startedAt + (if i < 16 then 250000 else 500000) < s.tb →
    ∃ t, exec (.switchSoftStartTimeout i) s = .next t ∧ (t.sw i).st = .fault ∧ (∀ j, j ≠ i → t.sw j = s.sw j)) ∧
  (∀ (s : State) (i : Nat), i < s.power.switches.length → ((s.sw i).st = .starting ∨ (s.sw i).st = .on) →
    ∃ t, exec (.switchCurrentLimitLatch i) s = .next t ∧ (t.sw i).st = .fault ∧ (∀ j, j ≠ i → t.sw j = s.sw j)) ∧
  (∀ (s : State) (d : Nat), d < 16 → d < s.power.switches.length → 8 + d < s.mem.units.length → (s.sw d).st = .on →
    ∃ t, exec (.dimmRemovedWhileOn d) s = .next t ∧ (t.sw d).st = .fault ∧ (t.sw d).present = false
      ∧ (t.memUnit (8 + d)).st = .failed ∧ 8 + d ∈ t.mem.lostUnits ∧ (∀ k, k / 65536 = 8 + d → mget t.mem.remap k = none → (pageEnt t k).st = .lost)
      ∧ (∀ j, j ≠ d → t.sw j = s.sw j)) ∧
  (∀ (s : State) (c : Nat), c < s.flash.cards.length → 16 + c < s.power.switches.length → (s.sw (16 + c)).st = .on → (s.sw (16 + c)).openAt = none →
    ∃ t, exec (.bayLatchOpen c) s = .next t ∧ (t.sw (16 + c)).st = .on ∧ (t.sw (16 + c)).openAt = some (s.tb + 5000000)
      ∧ (t.card c).noWrites = true ∧ (∀ j, j ≠ 16 + c → t.sw j = s.sw j)) ∧
  (∀ (s : State) (c n : Nat), c < s.flash.cards.length → 16 + c < s.power.switches.length → (s.sw (16 + c)).openAt = some n → n ≤ s.tb →
    ∃ t, exec (.baySwitchDelayedOpen c) s = .next t ∧ (t.sw (16 + c)).st = .off ∧ (t.card c).st = .failed
      ∧ (∀ j, j ≠ 16 + c → t.sw j = s.sw j))

/-! Row converters, header staging and shared rails. -/

/-- Row converters (03 R64, R81 to R84): the loss of a phase takes it out of service and sets the rating of Table 3.2; with three or
fewer left the row is DARK without a retry. A short puts the row in RETRY_WAIT for one second, or in DARK once its automatic
retry is spent. The retry starts the converter with half its threshold and queues the row; a row that has run 100 ms staged leaves
RETRY_WAIT. No other row's converter changes. The model's choices it rests on: log 19. -/
def Obligations.RowConverterFaultsAndRetry : Prop :=
  (∀ (s : State) (r p : Nat), r < 12 → p < 7 → r < s.power.conv.length → (s.conv r).phFail.getLsbD p = false →
    ∃ t, exec (.phaseLoss r p) s = .next t
      ∧ (t.conv r).phFail = (s.conv r).phFail ||| BitVec.ofNat 7 (2 ^ p) ∧ (t.conv r).ratingMa = ratingOf (t.conv r).phFail
      ∧ (ratingOf (t.conv r).phFail = 0 → (t.conv r).st = .dark ∧ (t.conv r).on = false ∧ (t.conv r).retryAt = none)
      ∧ (∀ q, q ≠ r → t.conv q = s.conv q)) ∧
  (∀ ph : BitVec 7, ratingOf ph = (let n := 7 - ((List.range 7).filter ph.getLsbD).length
    if 6 ≤ n then 84000 else if n = 5 then 70000 else if n = 4 then 56000 else 0)) ∧
  (∀ (s : State) (r : Nat), r < 12 → r < s.power.conv.length → (s.conv r).on = true →
    ∃ t, exec (.rowShort r) s = .next t ∧ (t.conv r).on = false ∧ (t.conv r).stagedAt = none
      ∧ (t.conv r).st = (if (s.conv r).retryUsed then .dark else .retryWait)
      ∧ (t.conv r).retryAt = (if (s.conv r).retryUsed then none else some (s.tb + 50000000))
      ∧ (∀ q, q ≠ r → t.conv q = s.conv q)) ∧
  (∀ (s : State) (r n : Nat), r < s.power.conv.length → (s.conv r).retryAt = some n → (s.conv r).st = .retryWait → n ≤ s.tb →
    (s.rail .vbus12).inReg = true →
    ∃ t, exec (.rowRetryBegin r) s = .next t ∧ (t.conv r).on = true ∧ (t.conv r).retryUsed = true ∧ (t.conv r).halfThr = true
      ∧ tripOf (t.conv r) = ratingOf (s.conv r).phFail * 3 / 2 / 2 ∧ (t.conv r).retryAt = none
      ∧ (∀ q, q ≠ r → t.conv q = s.conv q) ∧ Keeps [.power, .rows] s t) ∧
  (∀ (s : State) (r n : Nat), r < s.power.conv.length → (s.conv r).stagedAt = some n → (s.conv r).st = .retryWait → n + 5000000 ≤ s.tb →
    ratingOf (s.conv r).phFail ≠ 0 →
    ∃ t, exec (.rowRetrySuccess r) s = .next t ∧ (t.conv r).st = convOnSt (s.conv r).phFail ∧ (t.conv r).halfThr = false
      ∧ (t.conv r).stagedAt = none ∧ (∀ q, q ≠ r → t.conv q = s.conv q))

/-- Header staging (03 R67 to R70, Table 3.4): the row at the head of its half's queue starts at full rate when I_HALF is below
I_HALF_LIM − 48 A, and after 2 ms at half rate; stages close in order, 20 µs apart, 40 µs at half rate; a row in its retry stages
at half rate. The other half is untouched. -/
def Obligations.StagingServesTheQueueInOrder : Prop :=
  (∀ (s : State) (h i r : Nat) (rest : List Nat), h < s.power.halves.length → r < s.power.conv.length →
    (s.half h).staging = none → (s.half h).queue = r :: rest → nocUp s h = true → i + 48000 < 1000 * (s.half h).iLim →
    ∃ t, exec (.stagingStart h i) s = .next t ∧ (t.half h).queue = rest
      ∧ (t.half h).staging = some { row := r, fromSleep := (s.row r).fromSleep, half := (s.conv r).st == .retryWait, next := 0, startTb := s.tb }
      ∧ (t.conv r).halfRate = ((s.conv r).st == .retryWait) ∧ (∀ k, k ≠ h → t.half k = s.half k) ∧ Keeps [.power] s t) ∧
  (∀ (s : State) (h i : Nat), h < s.power.halves.length → (1000 * (s.half h).iLim ≤ i + 48000 ∨ nocUp s h = false) →
    ∃ t, exec (.stagingStart h i) s = .next t ∧ (t.half h).queue = (s.half h).queue ∧ (t.half h).staging = (s.half h).staging
      ∧ Keeps [.power] s t) ∧
  (∀ (s : State) (h i r : Nat) (rest : List Nat), h < s.power.halves.length → r < s.power.conv.length →
    (s.half h).staging = none → (s.half h).queue = r :: rest → nocUp s h = true → (s.half h).headSince + 100000 ≤ s.tb →
    ∃ t, exec (.stagingHalfRateStart h i) s = .next t ∧ (t.half h).queue = rest
      ∧ (t.half h).staging = some { row := r, fromSleep := (s.row r).fromSleep, half := true, next := 0, startTb := s.tb }
      ∧ (t.conv r).halfRate = true ∧ (∀ k, k ≠ h → t.half k = s.half k) ∧ Keeps [.power] s t) ∧
  (∀ (s : State) (h : Nat) (g : Staging), h < s.power.halves.length → (s.half h).staging = some g →
    1000 * g.next * (if g.half then 2 else 1) ≤ s.tb - g.startTb → g.next < (if g.fromSleep then 2 else 15) →
    ∃ t, exec (.headerStageClose h) s = .next t ∧ (t.half h).staging = some { g with next := g.next + 1 }
      ∧ (∀ k, k ≠ h → t.half k = s.half k) ∧ Keeps [.power, .rows] s t) ∧
  (∀ (s : State) (h : Nat) (g : Staging), (s.half h).staging = some g → s.tb - g.startTb < 1000 * g.next * (if g.half then 2 else 1) →
    exec (.headerStageClose h) s = .next s) ∧
  (∀ (s : State) (r : Nat) (g : Staging), r < s.rows.length → (s.half (halfOf r)).staging = some g → g.row = r → (s.row r).st = .waking →
    (s.conv r).st ≠ .retryWait → g.next = (if g.fromSleep then 2 else 3) →
    g.startTb + (if g.fromSleep then 2000 else 3000) * (if g.half then 2 else 1) ≤ s.tb →
    ∃ t, exec (.rowUsable r) s = .next t ∧ (t.row r).st = .active)

/-- Shared rails (03 R85, Table 3.9): a bus converter that is lost caps the input at 850 W and has no retry; any other rail but VSPINE
has one, after 1 s, and PWR_OK is low until the rail returns. VSPINE's loss takes every rail down with the Moon-domain stores;
AUXC restarts once. The model's choices it rests on: logs 8, 19. -/
def Obligations.SharedRailsLostAndRetried : Prop :=
  (∀ (s : State) (x : SharedRail), (x = .bc0 ∨ x = .bc1) → (s.rail x).inReg = true →
    ∃ t, exec (.sharedRailLost x) s = .next t ∧ t.power.inputCap850 = true ∧ (t.rail x).inReg = false ∧ (t.rail x).retryAt = none
      ∧ moduleLimit t ≤ 850000) ∧
  (∀ (s : State) (x : SharedRail), (x = .vbrE ∨ x = .vbrW ∨ x = .v3p3 ∨ x = .vhbmN ∨ x = .vhbmS) → s.power.rails.length = 11 → (s.rail x).inReg = true →
    ∃ t, exec (.sharedRailLost x) s = .next t ∧ (t.rail x).inReg = false ∧ t.power.pwrOk = false
      ∧ (t.rail x).retryAt = (if (s.rail x).retryUsed then none else some (s.tb + 50000000))) ∧
  (∀ (s : State) (x : SharedRail) (n : Nat), s.power.rails.length = 11 → (s.rail x).retryAt = some n → n ≤ s.tb →
    ∃ t, exec (.sharedRailRetry x false) s = .next t ∧ (t.rail x).inReg = false ∧ (t.rail x).retryAt = none ∧ (t.rail x).retryUsed = true) ∧
  (∀ (s : State) (x : SharedRail) (n : Nat), x ≠ .vbus12 → s.power.rails.length = 11 → (s.rail x).retryAt = some n → n ≤ s.tb →
    ∃ t, exec (.sharedRailRetry x true) s = .next t ∧ (t.rail x).inReg = true ∧ (t.rail x).retryAt = none ∧ (t.rail x).retryUsed = true) ∧
  (∀ (s : State), (s.rail .vspine).inReg = true → s.power.trip = none →
    ∃ t, exec .vspineLost s = .next t ∧ t.power.pwrOk = false ∧ t.mbx = {} ∧ t.mem.cells = [] ∧ t.err.log = []
      ∧ (∀ k, k < 10 → (nth t.power.rails k).inReg = false)
      ∧ (s.power.vspineLosses = 0 → t.power.bringUpAt = some 50000000 ∧ t.power.dark = false)
      ∧ (s.power.vspineLosses ≠ 0 → t.power.dark = true ∧ (t.rail .vspine).inReg = false)
      ∧ t.fuse = s.fuse ∧ t.flash.rows = s.flash.rows ∧ t.pending = s.pending)

/-! V/F steps, row states and halves. -/

/-- V/F step changes (04 R98, R99): an arming write with its lead time sets PEND; one inside the lead time is refused with LATE
and one while PEND is 1 with BUSY; a withdrawal before the tick clears PEND; at the tick the step in force becomes NEXT and PEND
stays until the converters have settled. -/
def Obligations.StepChangesArmWithdrawAndSettle : Prop :=
  (∀ (s : State) (next tick : Nat), alive s = true → s.clk.pend = false →
    exec (.clkStepAtWrite next 0 tick) s = .next { s with clk :=
      if tick < s.tb + (if s.clk.cur < next % 8 then 2500 else 50) then { s.clk with next := next % 8, late := true }
      else { s.clk with next := next % 8, stepAt := tick, pend := true, armed := true } }) ∧
  (∀ (s : State) (next tick : Nat), alive s = true → s.clk.pend = true →
    exec (.clkStepAtWrite next 0 tick) s = .next { s with clk := { s.clk with busy := true } }) ∧
  (∀ (s : State) (next lo hi : Nat), alive s = true → s.clk.pend = false →
    ∃ t, exec (.clkStepAtWrite next 1 lo) s = .next t ∧ t.clk.pend = false ∧ t.clk.atLow = lo % 2 ^ 32
      ∧ exec (.clkStepAtWrite next 2 hi) t = exec (.clkStepAtWrite next 0 (lo % 2 ^ 32 + 2 ^ 32 * (hi % 2 ^ 32))) t) ∧
  (∀ (s : State), s.clk.armed = true → s.tb < s.clk.stepAt → s.cap.dropDue = false →
    exec .stepWithdraw s = .next { s with clk := { s.clk with pend := false, armed := false } }) ∧
  (∀ (s : State), (s.clk.armed = false ∨ s.clk.stepAt ≤ s.tb) → exec .stepWithdraw s = .next s) ∧
  (∀ (s : State), s.clk.armed = true → s.clk.stepAt ≤ s.tb →
    exec .stepChangeTick s = .next { s with clk := { s.clk with cur := s.clk.next, armed := false }, cap := { s.cap with lastStepTb := s.tb } }) ∧
  (∀ (s : State), s.clk.pend = true → s.clk.armed = false → s.cap.dropDue = false →
    exec .stepSettled s = .next { s with clk := { s.clk with pend := false } })

/-- Row states (04 R103 to R105, R601): an idle row gates its clock; T_NAP and T_SLEEP of continuous idling take it to NAP and SLEEP;
a commanded OFF loses the scoreboard, the queues and the banks at the first idle moment; a timebase event wakes a sleeping row,
which joins its half's queue. No other row changes. The model's choices it rests on: logs 23, 79. -/
def Obligations.RowStatesFollowIdling : Prop :=
  (∀ (s : State) (r : Nat), r < 12 → (s.row r).st = .active → rowIdle (s.row r) = true →
    exec (.idleEntry r) s = .next (s.modRow r (fun w => { w with st := .idle, idleSince := s.tb, napNow := w.tNap, sleepNow := w.tSleep }))) ∧
  (∀ (s : State) (r : Nat), r < 12 → (s.row r).st = .idle → rowIdle (s.row r) = true → (s.row r).napNow ≠ 0 → (s.row r).idleSince + (s.row r).napNow ≤ s.tb →
    exec (.napEntry r) s = .next (s.modRow r (fun w => { w with st := .nap }))) ∧
  (∀ (s : State) (r : Nat), r < 12 → rowIdle (s.row r) = false →
    exec (.idleEntry r) s = .next s ∧ exec (.napEntry r) s = .next s ∧ exec (.sleepEntry r) s = .next s) ∧
  (∀ (s : State) (r : Nat), r < 12 → r < s.rows.length → ((s.row r).st = .idle ∨ (s.row r).st = .nap) → rowIdle (s.row r) = true → stagedOut s r = true →
    (s.row r).target = none → (s.row r).sleepNow ≠ 0 → (s.row r).idleSince + (s.row r).sleepNow ≤ s.tb →
    ∃ t, exec (.sleepEntry r) s = .next t ∧ (t.row r).st = .sleep ∧ (∀ q, q ≠ r → t.row q = s.row q)) ∧
  (∀ (s : State) (r : Nat), r < 12 → r < s.rows.length → ((s.row r).st = .active ∨ (s.row r).st = .idle ∨ (s.row r).st = .nap) →
    rowIdle (s.row r) = true → stagedOut s r = true → (s.row r).target = some .off →
    ∃ t, exec (.sleepEntry r) s = .next t ∧ (t.row r).st = .off ∧ (t.row r).scb = [] ∧ (∀ b ∈ (t.row r).banks, b.st = .off ∨ b.st = .retired)
      ∧ (∀ q, q ≠ r → t.row q = s.row q)) ∧
  (∀ (s : State) (r : Nat), r < 12 → r < s.rows.length → halfOf r < s.power.halves.length → rowIsDark s r = false → rowIsOut s r = false → s.therm.halt = false →
    (s.row r).st = .sleep → (s.row r).cores.any (fun c => c.wait.any (·.isTb)) = true →
    ∃ t, exec (.timebaseEventWake r) s = .next t ∧ (t.row r).st = .waking ∧ (t.row r).fromSleep = true
      ∧ (r ∈ (t.half (halfOf r)).queue ∨ (t.half (halfOf r)).staging.any (·.row == r) = true) ∧ (∀ q, q ≠ r → t.row q = s.row q)
      ∧ Keeps [.rows, .power] s t)

/-- Halves, the reference and clock holds (04 R89, R92, R110, R111): a half parks when its six rows are in SLEEP, OFF or DARK and its
network has been quiet for 500 tb, and is usable again 100 tb after a transfer arrived for it; after a reference loss the timebase
goes on; a hold longer than 50 tb is recorded. -/
def Obligations.HalvesParkAndReferenceLossKeepsTimebase : Prop :=
  (∀ (s : State) (h : Nat), h < 2 → (s.half h).parked = false → (s.half h).quietSince + 500 ≤ s.tb →
    (∀ i, i < 6 → (s.row (6 * h + i)).st = .sleep ∨ (s.row (6 * h + i)).st = .off ∨ (s.row (6 * h + i)).st = .dark) →
    exec (.halfPark h) s = .next (s.modHalf h (fun x => { x with parked := true, unparkAt := none }))) ∧
  (∀ (s : State) (h i : Nat), i < 6 → (s.row (6 * h + i)).st = .active → exec (.halfPark h) s = .next s) ∧
  (∀ (s : State) (h n : Nat), h < 2 → h < s.power.halves.length → (s.half h).parked = true → (s.half h).unparkAt = some n → n ≤ s.tb → nocUp s h = true →
    ∃ t, exec (.seamUnparkComplete h) s = .next t ∧ (t.half h).parked = false ∧ (t.half h).unparkAt = none
      ∧ (∀ k, k ≠ h → t.half k = s.half k) ∧ Keeps [.power, .rows] s t) ∧
  (∀ (s : State), alive s = true → s.clk.refLost = false →
    ∃ t, exec .refLoss s = .next t ∧ t.clk = { s.clk with refLost := true }
      ∧ Keeps [.clk, .fab, .chavi, .mbx, .gw, .err, .sec, .attn, .out] s t) ∧
  (∀ (s : State) (r ticks volt : Nat), r < 12 → (s.row r).st = .active →
    exec (.clockHold r ticks volt) s = .next (let u := s.modClkRow r (fun c => { c with chold := sat 8 (c.chold + 1) })
      if 50 < ticks then errRecord { code := .clockHold, unit := uRow r, op := 0x12, platform := true, leaf := .ev 3 1, detail := ticks + 2 ^ 32 * volt } u
      else u))

/-! Bring-up. -/

/-- Each of the stages BU1 to BU8 writes exactly one record when it ends (05 R121), and any stage that runs past its limit one with STOPPED,
which leaves every row OFF or DARK (05 R117); BU1, BU3 and BU10 do nothing while their stage is not running.
The model's choices it rests on: log 22. -/
def Obligations.EachStageWritesOneRecord : Prop :=
  ∀ (s : State), s.boot.curHalf < s.boot.halves.length →
    (stageRuns 1 s = true → ∀ w, ∃ t, exec (.bu1 w) s = .next t ∧ StageEnds 1 s t ∧ t.boot.halves.length = s.boot.halves.length) ∧
    (stageRuns 2 s = true → ∀ a b c d, ∃ t, exec (.bu2 a b c d) s = .next t ∧ StageEnds 2 s t) ∧
    (stageRuns 3 s = true → ∀ l, ∃ t, exec (.bu3 l) s = .next t ∧ StageEnds 3 s t) ∧
    (stageRuns 4 s = true → ∀ l, ∃ t, exec (.bu4 l) s = .next t ∧ StageEnds 4 s t) ∧
    (stageRuns 5 s = true → ∀ l, ∃ t, exec (.bu5 l) s = .next t ∧ StageEnds 5 s t) ∧
    (stageRuns 6 s = true → ∀ l, ∃ t, exec (.bu6 l) s = .next t ∧ StageEnds 6 s t) ∧
    (stageRuns 7 s = true → ∀ l, ∃ t, exec (.bu7 l) s = .next t ∧ StageEnds 7 s t) ∧
    (stageRuns 8 s = true → ∀ l, ∃ t, exec (.bu8 l) s = .next t ∧ StageEnds 8 s t) ∧
    (∀ k, stageRuns k s = false → (k = 1 → ∀ w, exec (.bu1 w) s = .next s) ∧ (k = 3 → ∀ l, exec (.bu3 l) s = .next s) ∧ (k = 10 → exec .bu10 s = .next s)) ∧
    (alive s = true → s.power.bringUpAt = none → s.power.inputSw = .closed → s.boot.st = .running →
      s.boot.stageTb + 50000 * stageLimitMs s.boot.stage < s.tb →
      ∃ t, exec .stageTimeout s = .next t ∧ StageEnds s.boot.stage s t ∧ t.boot.st = .stopped
        ∧ ∀ r, r < 12 → r < s.rows.length → (t.row r).st = .off ∨ (t.row r).st = .dark)

/-- BU0 (05 R116, R120): the older half of the log is cleared and takes the new bring-up's records, BOOT_NO counts; MC0 is the boot core
when it passes and MC1 otherwise; with no core passing the bring-up stops. BU9 asks for the image once Chavi is up and stops without
an optical module (21 R557). BU10 starts Gwynpin on the boot core and the module is ready (R144).
The model's choices it rests on: log 22. -/
def Obligations.BootCoreAndReady : Prop :=
  (∀ (s : State) (f0 f1 : Nat) (a b : Bool), stageRuns 0 s = true → s.eeprom.arbLost = none → (∀ q ∈ s.wit.rings, q.st ≠ .closing) →
    s.boot.halves.length = 2 → s.boot.curHalf < 2 →
    ∃ t, exec (.bu0 f0 f1 a b false) s = .next t ∧ t.boot.bootNo = s.boot.bootNo + 1
      ∧ t.boot.curHalf = (if s.boot.bootNo = 0 then 0 else 1 - s.boot.curHalf)
      ∧ (nth t.boot.halves t.boot.curHalf).length = 1
      ∧ (f0 = 0 → t.boot.bootCore = 0) ∧ (f0 ≠ 0 → f1 = 0 → t.boot.bootCore = 1)
      ∧ ((f0 = 0 ∨ f1 = 0) → t.boot.st = .running ∧ t.boot.stage = s.boot.stage + 1)
      ∧ (f0 ≠ 0 → f1 ≠ 0 → t.boot.st = .stopped)
      ∧ t.dmap.mc0 = (f0 == 0) ∧ t.dmap.mc1 = (f1 == 0)
      ∧ (s.boot.warm = false → t.boot.slotId = s.power.straps % 64 ∧ t.boot.mbxMode = s.power.mbxModePin)
      ∧ (s.boot.warm = true → t.boot.slotId = s.boot.slotId ∧ t.boot.mbxMode = s.boot.mbxMode)) ∧
  (∀ (s : State), stageRuns 9 s = true → s.gw.imgReqs = [] → s.chavi.up = true →
    ∃ t, exec .bu9 s = .next t ∧ t.gw.imgReqs = [(0, 0, s.tb, 0)] ∧ t.boot = s.boot) ∧
  (∀ (s : State), stageRuns 9 s = true → s.gw.imgReqs = [] → s.chavi.up = false → s.power.j4Ok = false → s.boot.curHalf < s.boot.halves.length →
    ∃ t, exec .bu9 s = .next t ∧ t.boot.st = .stopped) ∧
  (∀ (s : State), stageRuns 10 s = true → s.boot.bootCore < 2 → s.gw.mc.length = 2 → s.boot.curHalf < s.boot.halves.length →
    ∃ t, exec .bu10 s = .next t ∧ t.boot.st = .ready ∧ t.gw.running = some s.boot.bootCore ∧ nth t.gw.mc s.boot.bootCore = .running
      ∧ t.gw.wdAt = s.tb + s.gw.tmoMgmt
      ∧ (nth t.gw.mc (1 - s.boot.bootCore) = .standby ∨ nth t.gw.mc (1 - s.boot.bootCore) = .failed)
      ∧ (∃ r : BootRec, nth t.boot.halves s.boot.curHalf = nth s.boot.halves s.boot.curHalf ++ [r] ∧ r.stage = 10 ∧ r.status ≠ .stopped))

/-- BU3 binds slots (05 R130, R126): every bound Primrose or Aster slot stands at an ACTIVE position of its row, at positions that rise
with the slot, so west to east; no position the fuses call bad is bound, and a row with a bound slot is neither OUT nor DARK. EPOCH counts one change where the rows of the map differ (R139).
The model's choices it rests on: log 22. -/
def Obligations.SlotsBoundWestToEast : Prop :=
  ∀ (s : State) (tests : List RowTest), stageRuns 3 s = true →
    ∃ t, exec (.bu3 tests) s = .next t ∧ t.dmap.rows.length = 12 ∧ t.fuse = s.fuse ∧
      (t.dmap.rows ≠ s.dmap.rows → t.dmap.epoch = (s.dmap.epoch + 1) % 2 ^ 32 ∧ t.dmap.tbChanged = s.tb) ∧ (t.dmap.rows = s.dmap.rows → t.dmap = s.dmap) ∧
      ∀ r, r < 12 →
        (∀ i p, i < 8 → nth (nth t.dmap.rows r).prmSlots i = some p → p < 10 ∧ nth (nth t.dmap.rows r).prm p = .active
          ∧ p ∉ (nth s.fuse.rows r).prm ∧ (nth t.dmap.rows r).cls ≠ .out ∧ (nth t.dmap.rows r).cls ≠ .dark) ∧
        (∀ i p, i < 4 → nth (nth t.dmap.rows r).astSlots i = some p → p < 5 ∧ nth (nth t.dmap.rows r).ast p = .active
          ∧ p ∉ (nth s.fuse.rows r).ast) ∧
        (∀ i j p q, i < j → j < 8 → nth (nth t.dmap.rows r).prmSlots i = some p → nth (nth t.dmap.rows r).prmSlots j = some q → p < q)

/-! Aster. -/

/-- AST_RUN and AST_QPUSH (08 R201, R202, R205, R222, R223; 17 R480): a run starts when its words lie in the tile's program region and
the tile is bound, no follower, not halted and idle, and else sets RUN_REFUSED; the fetcher's line enters the queue in order while it
has room for all of it; a push takes its place behind the queue, or leaves the queue alone and shows its code.
The model's choices it rests on: log 25. -/
def Obligations.RunsAndPushesFeedTheQueue : Prop :=
  ∀ (s : State) (r t : Nat), rowRuns s r = true → r < s.rows.length → t < (s.row r).tiles.length →
    (∀ v, (astPos s r t).isSome = true → isFollower (s.tile r t) t = false → (s.tile r t).run = none → (s.tile r t).halted = false →
      bits v 24 16 ≠ 0 → runInRegion (s.row r) t (bits v 0 21) (bits v 21 2) (bits v 24 16) = true →
      ∃ u, exec (.astRunWrite r t v) s = .next u ∧ Keeps [.rows] s u ∧ RowsBut r s u
        ∧ u.tile r t = { s.tile r t with run := some { line := bits v 0 21, word := bits v 21 2, count := bits v 24 16 }, fault := 0, fwordF := 0 }) ∧
    (∀ v, (astPos s r t = none ∨ isFollower (s.tile r t) t = true ∨ (s.tile r t).run ≠ none ∨ (s.tile r t).halted = true ∨ bits v 24 16 = 0) →
      ∃ u, exec (.astRunWrite r t v) s = .next u ∧ u.tile r t = { s.tile r t with runRefused := true } ∧ Keeps [.rows] s u ∧ RowsBut r s u) ∧
    (∀ c, (s.tile r t).run = some c → (s.tile r t).halted = false → (s.tile r t).stopped = false → isFollower (s.tile r t) t = false →
      poisonedOver (s.row r) ((fetchSpan c).1 / 4) 1 = false → (s.tile r t).queue.length + (fetchSpan c).2 ≤ 64 →
      ∃ u, exec (.astRunFetch r t none) s = .next u ∧ Keeps [.rows] s u ∧ RowsBut r s u
        ∧ (u.tile r t).queue.length = (s.tile r t).queue.length + (fetchSpan c).2
        ∧ (u.tile r t).queue.take (s.tile r t).queue.length = (s.tile r t).queue
        ∧ (u.tile r t).run = (if c.done + (fetchSpan c).2 = c.count then none else some { c with done := c.done + (fetchSpan c).2 })) ∧
    (∀ c, (s.tile r t).run = some c → 64 < (s.tile r t).queue.length + (fetchSpan c).2 → ∀ b, exec (.astRunFetch r t b) s = .next s) ∧
    (∀ w, (astPos s r t).isSome = true → isFollower (s.tile r t) t = false → (s.tile r t).run = none → (s.tile r t).halted = false →
      astStatic s r (BitVec.ofNat 128 w) = .ok → (s.tile r t).queue.length < 64 → (s.tile r t).pushWait = [] →
      ∃ u, exec (.astQpushWrite r t w 0) s = .next u ∧ Keeps [.rows] s u ∧ RowsBut r s u
        ∧ u.tile r t = { s.tile r t with queue := (s.tile r t).queue ++ [{ word := BitVec.ofNat 128 w, since := s.tb, limit := s.gw.tmoAst }], fault := 0, fwordF := 0 }) ∧
    (∀ w, ∃ u, exec (.astQpushWrite r t w 1) s = .next u ∧ u.tile r t = { s.tile r t with pushLow := BitVec.ofNat 64 w } ∧ Keeps [.rows] s u) ∧
    (∀ w, (astPos s r t).isSome = true → (s.tile r t).run ≠ none →
      ∃ u, exec (.astQpushWrite r t w 0) s = .next u ∧ u.tile r t = { s.tile r t with pushRefused := true, pcode := Code.astBusy.val }
        ∧ Keeps [.rows] s u ∧ RowsBut r s u)

/-- What issues has its effect (08 R206 to R217): NOP and FENCE at once, RESV when the scoreboard grants it, RELS frees its own entry, WLOAD
takes the overlapping sets out of use, DECIDE and GROUP set the pane, EPI and MATV start; each leaves the queue. What waits, or is not
its turn, leaves the state as it is; what an issue check refuses halts the tile with the check's code (R220).
The model's choices it rests on: logs 40, 42. -/
def Obligations.AsterClassesIssue : Prop :=
  (∀ (s : State) (r t i : Nat), r < s.rows.length → t < (s.row r).tiles.length →
    (turnOf s r t i 0 = .go → ∃ u, exec (.nopMark r t i) s = .next u ∧ u.tile r t = dequeue s.tb s.gw.tmoAst i (s.tile r t)
      ∧ Keeps [.rows, .cap] s u ∧ RowsBut r s u
      ∧ u.cap.markers = s.cap.markers ++ (if wf (nth (s.tile r t).queue i).word 8 1 = 1 then [(r, t, wf (nth (s.tile r t).queue i).word 16 16, s.tb)] else [])) ∧
    (turnOf s r t i 8 = .go → ∃ u, exec (.fence r t i) s = .next u ∧ Keeps [.rows] s u ∧ RowsBut r s u
      ∧ (wf (nth (s.tile r t).queue i).word 8 1 = 1 → (u.tile r t).mode = wf (nth (s.tile r t).queue i).word 9 2
          ∧ (u.tile r t).wsets = [] ∧ (u.tile r t).panes = List.replicate 16 {})
      ∧ (wf (nth (s.tile r t).queue i).word 8 1 ≠ 1 → u.tile r t = dequeue s.tb s.gw.tmoAst i (s.tile r t))) ∧
    (turnOf s r t i 6 = .go → (s.row r).scbPend.any (·.owner == ownAst t) = false →
      scbVerdict (s.row r) (s.row r).scbPend (resvReq t (nth (s.tile r t).queue i).word s.tb) = .grant →
      ∃ u, exec (.resv r t i) s = .next u ∧ Keeps [.rows] s u ∧ RowsBut r s u
        ∧ (u.row r).scb = (s.row r).scb ++ [{ line := rvLine (nth (s.tile r t).queue i).word, len := rvLen (nth (s.tile r t).queue i).word, wr := rvWr (nth (s.tile r t).queue i).word, owner := ownAst t, tb := s.tb }]
        ∧ u.tile r t = dequeue s.tb s.gw.tmoAst i (s.tile r t)) ∧
    (turnOf s r t i 7 = .go → ∃ u, exec (.rels r t i) s = .next u ∧ Keeps [.rows] s u ∧ RowsBut r s u
      ∧ (u.row r).scb = (s.row r).scb.filter (fun e => !(e.owner == ownAst t && e.line == rvLine (nth (s.tile r t).queue i).word
          && e.len == rvLen (nth (s.tile r t).queue i).word && e.wr == rvWr (nth (s.tile r t).queue i).word))) ∧
    (turnOf s r t i 4 = .go → ∃ u, exec (.decideSet r t i) s = .next u ∧ Keeps [.rows] s u ∧ RowsBut r s u
      ∧ (u.tile r t).queue = (dequeue s.tb s.gw.tmoAst i (s.tile r t)).queue
      ∧ (paneOf (nth (s.tile r t).queue i).word < (s.tile r t).panes.length →
          (nth (u.tile r t).panes (paneOf (nth (s.tile r t).queue i).word)).dec.ptr = wf (nth (s.tile r t).queue i).word 64 21
          ∧ (nth (u.tile r t).panes (paneOf (nth (s.tile r t).queue i).word)).dec.cap = wf (nth (s.tile r t).queue i).word 85 12)) ∧
    (turnOf s r t i 5 = .go → ∃ u, exec (.group r t i) s = .next u ∧ Keeps [.rows] s u ∧ RowsBut r s u
      ∧ (paneOf (nth (s.tile r t).queue i).word < (s.tile r t).panes.length →
          (nth (u.tile r t).panes (paneOf (nth (s.tile r t).queue i).word)).grp.wtag = wf (nth (s.tile r t).queue i).word 24 16)) ∧
    (turnOf s r t i 1 = .go → ∃ u, exec (.wload r t i []) s = .next u ∧ Keeps [.rows] s u ∧ RowsBut r s u
      ∧ (∀ z ∈ (u.tile r t).wsets, wsetMeets (s.tile r t).mode (nth (s.tile r t).queue i).word z = false ∧ z ∈ (s.tile r t).wsets)
      ∧ (u.tile r t).issued.length = (s.tile r t).issued.length + 1) ∧
    (turnOf s r t i 3 = .go → ∃ u, exec (.epi r t i []) s = .next u ∧ Keeps [.rows] s u ∧ RowsBut r s u
      ∧ (u.tile r t).issued.length = (s.tile r t).issued.length + 1 ∧ (u.tile r t).panes = (s.tile r t).panes) ∧
    (turnOf s r t i 2 = .go → ∃ u, exec (.matv r t i []) s = .next u ∧ RowsBut r s u
      ∧ (u.tile r t).issued.length = (s.tile r t).issued.length + 1
      ∧ (u.tile r t).queue = (dequeue s.tb s.gw.tmoAst i (s.tile r t)).queue
      ∧ (paneOf (nth (s.tile r t).queue i).word < (s.tile r t).panes.length →
          (nth (u.tile r t).panes (paneOf (nth (s.tile r t).queue i).word)).chain.isSome = mHold (nth (s.tile r t).queue i).word))) ∧
  (∀ (s : State) (r t i o : Nat), (turnOf s r t i o = .wait ∨ turnOf s r t i o = .notYet) →
    (o = 0 → exec (.nopMark r t i) s = .next s) ∧ (o = 8 → exec (.fence r t i) s = .next s) ∧ (o = 6 → exec (.resv r t i) s = .next s)
    ∧ (o = 7 → exec (.rels r t i) s = .next s) ∧ (o = 1 → ∀ l, exec (.wload r t i l) s = .next s) ∧ (o = 3 → ∀ l, exec (.epi r t i l) s = .next s)
    ∧ (o = 4 → exec (.decideSet r t i) s = .next s) ∧ (o = 5 → exec (.group r t i) s = .next s) ∧ (o = 2 → ∀ l, exec (.matv r t i l) s = .next s)) ∧
  (∀ (s : State) (r t i : Nat) (c : Code), r < s.rows.length → t < (s.row r).tiles.length → turnOf s r t i 2 = .fault c →
    ∀ l, ∃ u, exec (.matv r t i l) s = .next u ∧ (u.tile r t).halted = true ∧ (u.tile r t).fault = c.val ∧ (u.tile r t).run = none
      ∧ (u.tile r t).queue = (s.tile r t).queue ∧ RowsBut r s u)

/-- Completions (08 R211, R212, R217; 07 R174; 17 R456, R463): a WLOAD makes its set valid and an EPI its pane's settings, unless a source
byte failed, which halts the tile; a MATV with HOLD leaves its accumulators in the pane's chain. -/
def Obligations.AsterCompletionsTakeEffect : Prop :=
  ∀ (s : State) (r t i : Nat) (y : Issued), r < s.rows.length → t < (s.row r).tiles.length → (s.tile r t).issued[i]? = some y →
    isFollower (s.tile r t) t = false →
    (opcOf y.word = 1 → y.poisoned = false → y.bad = [] → ∃ u, exec (.wloadComplete r t i) s = .next u ∧ Keeps [.rows] s u ∧ RowsBut r s u
      ∧ (u.tile r t).wsets = (s.tile r t).wsets ++ [{ pane := paneOf y.word, slot := wlSlot y.word, wfmt := wlFmt y.word, pw := wlPw y.word, unit := wlUnit y.word }]
      ∧ (u.tile r t).issued = (s.tile r t).issued.eraseIdx i ∧ (u.tile r t).queue = (s.tile r t).queue) ∧
    (opcOf y.word = 1 → y.poisoned = true → ∃ u, exec (.wloadComplete r t i) s = .next u ∧ (u.tile r t).halted = true
      ∧ (u.tile r t).fault = Code.poisoned.val ∧ (u.tile r t).wsets = (s.tile r t).wsets ∧ RowsBut r s u) ∧
    (opcOf y.word = 1 → y.poisoned = false → y.bad ≠ [] → ∃ u, exec (.wloadComplete r t i) s = .next u ∧ (u.tile r t).halted = true
      ∧ (u.tile r t).fault = Code.parityError.val ∧ (u.tile r t).wsets = (s.tile r t).wsets) ∧
    (opcOf y.word = 3 → y.poisoned = false → y.bad = [] → paneOf y.word < (s.tile r t).panes.length →
      ∃ u, exec (.epiComplete r t i) s = .next u ∧ Keeps [.rows] s u ∧ RowsBut r s u
        ∧ (nth (u.tile r t).panes (paneOf y.word)).epi = some (epiSet s r (paneSize (s.tile r t).mode) y.word)
        ∧ (nth (u.tile r t).panes (paneOf y.word)).dec = (nth (s.tile r t).panes (paneOf y.word)).dec
        ∧ (u.tile r t).issued = (s.tile r t).issued.eraseIdx i) ∧
    (opcOf y.word = 3 → y.poisoned = true → paneOf y.word < (s.tile r t).panes.length →
      ∃ u, exec (.epiComplete r t i) s = .next u ∧ (u.tile r t).halted = true
        ∧ (nth (u.tile r t).panes (paneOf y.word)).epi = none) ∧
    (opcOf y.word = 2 → mHold y.word = true → (wsetOf (s.tile r t) y.word).isSome = true →
      ∃ u, exec (.matvComplete r t i) s = .next u ∧ Keeps [.rows] s u ∧ RowsBut r s u
        ∧ (u.tile r t).issued = (s.tile r t).issued.eraseIdx i
        ∧ (y.pane < (s.tile r t).panes.length → (nth (u.tile r t).panes y.pane).chain.map (·.v) = (nth (s.tile r t).panes y.pane).chain.map (·.v))) ∧
    (opcOf y.word = 2 → mHold y.word = false → (wsetOf (s.tile r t) y.word).isSome = true → (nth (s.tile r t).panes y.pane).dec.mode = .off →
      ∃ u, exec (.matvComplete r t i) s = .next u ∧ RowsBut r s u ∧ Keeps [.rows, .mem, .wit] s u
        ∧ (itemsWait u r t y.pane = false → (u.tile r t).issued.length + 1 = (s.tile r t).issued.length)
        ∧ (itemsWait u r t y.pane = true → (u.tile r t).issued.length = (s.tile r t).issued.length)) ∧
    (opcOf y.word = 2 → mHold y.word = false → (nth (s.tile r t).panes y.pane).dec.mode ≠ .off → 0 < mV y.word → y.stops = [] →
      exec (.matvComplete r t i) s = .next s)

/-- The Decider and what ends a run early (09 R225; 17 R461, R462; 18 R487): an evaluation adds the wave's next plane; a pass of the pair's
comparison confirms its sequence and a failure halts the pair with POISONED; a wait or a run past its limit halts the tile with
AST_TIMEOUT, the run's lines keeping what was written. The model's choices it rests on: log 61. -/
def Obligations.DeciderPairsAndTimeouts : Prop :=
  (∀ (s : State) (r t i w : Nat) (y : Issued) (ws : WSet), r < s.rows.length → t < (s.row r).tiles.length → (s.tile r t).issued[i]? = some y → opcOf y.word = 2 →
    isFollower (s.tile r t) t = false → wsetOf (s.tile r t) y.word = some ws → mHold y.word = false → (nth (s.tile r t).panes y.pane).dec.mode ≠ .off →
    32 * w < mV y.word → w < y.planes.length → nth y.planes w < ws.pw →
    ∃ u, exec (.deciderEvaluation r t i w) s = .next u ∧ RowsBut r s u ∧ Keeps [.rows, .mem, .wit] s u
      ∧ (nth (u.tile r t).issued i).planes = y.planes.set w (nth y.planes w + 1)
      ∧ (∀ x ∈ y.stops, x ∈ (nth (u.tile r t).issued i).stops)
      ∧ (nth y.planes w + 1 = ws.pw → ∀ v, 32 * w ≤ v → v < 32 * w + 32 → v < mV y.word → (nth (u.tile r t).issued i).stops.any (·.1 == v) = true)) ∧
  (∀ (s : State) (r t i w : Nat), (s.tile r t).issued[i]? = none → exec (.deciderEvaluation r t i w) s = .next s) ∧
  (∀ (s : State) (r p : Nat), r < s.rows.length → p < (s.row r).pairs.length → (s.pair r p).formed = true → (s.tile r (2 * p)).paired = true → nextSeq (s.pair r p).done ≠ (s.pair r p).seq →
    (∀ y ∈ (s.tile r (2 * p)).issued, y.seq ≠ nextSeq (s.pair r p).done) →
    ∃ u, exec (.pairCompare r p true) s = .next u ∧ (u.pair r p).done = nextSeq (s.pair r p).done ∧ (u.pair r p).seq = (s.pair r p).seq) ∧
  (∀ (s : State) (r p : Nat), r < s.rows.length → 2 * p + 1 < (s.row r).tiles.length → (s.pair r p).formed = true → (s.tile r (2 * p)).paired = true →
    nextSeq (s.pair r p).done ≠ (s.pair r p).seq →
    ∃ u, exec (.pairCompare r p false) s = .next u ∧ (u.tile r (2 * p)).halted = true ∧ (u.tile r (2 * p + 1)).halted = true
      ∧ (u.tile r (2 * p)).fault = Code.poisoned.val) ∧
  (∀ (s : State) (r t i : Nat), r < s.rows.length → t < (s.row r).tiles.length → i < (s.tile r t).queue.length → (s.tile r t).halted = false → isFollower (s.tile r t) t = false →
    oldest (s.tile r t).queue i = true → (nth (s.tile r t).queue i).since + (nth (s.tile r t).queue i).limit ≤ s.tb →
    ∃ u, exec (.astWaitTimeout r t i) s = .next u ∧ (u.tile r t).halted = true ∧ (u.tile r t).fault = Code.astTimeout.val ∧ RowsBut r s u ∧ u.mem = s.mem) ∧
  (∀ (s : State) (r t i : Nat) (y : Issued), r < s.rows.length → t < (s.row r).tiles.length → (s.tile r t).issued[i]? = some y → isFollower (s.tile r t) t = false →
    y.issuedAt + y.limit ≤ s.tb →
    ∃ u, exec (.astRunTimeout r t i) s = .next u ∧ (u.tile r t).halted = true ∧ (u.tile r t).fault = Code.astTimeout.val
      ∧ (u.tile r t).issued = (s.tile r t).issued.eraseIdx i ∧ RowsBut r s u ∧ u.mem = s.mem)

/-! Primrose. -/

/-- The custom instructions that compute on registers (10 R251, R253, R254, R259): rd takes the result and the pc moves on by 4, nothing
else of the machine changes; x0 stays 0. SRELS frees the core's one matching reservation, and WDKICK restarts the watchdog. -/
def Obligations.CustomInstructionsWriteRd : Prop :=
  (∀ (x : Core) (rd v k : Nat), x.x.length = 32 → rd < 32 →
    (x.setX rd v).xr k = (if k = 0 then 0 else if k = rd then BitVec.ofNat 64 v else x.xr k)) ∧
  (∀ (s : State) (r c rd rs1 rs2 rs3 : Nat), CoreGo s r c → rd < 32 → rs1 < 32 → rs2 < 32 → rs3 < 32 →
    let x := s.core r c
    let a := (x.xr rs1).toNat
    let b := (x.xr rs2).toNat
    let d := (x.xr rs3).toNat
    exec (.badd r c rd rs1 rs2) s = .next (s.modCore r c (fun x => (x.setX rd (boundOp 0 a b 0)).adv 4)) ∧
    exec (.bscl r c rd rs1 rs2) s = .next (s.modCore r c (fun x => (x.setX rd (boundOp 1 a b 0)).adv 4)) ∧
    exec (.bmax r c rd rs1 rs2) s = .next (s.modCore r c (fun x => (x.setX rd (boundOp 2 a b 0)).adv 4)) ∧
    exec (.blin r c rd rs1 rs2 rs3) s = .next (s.modCore r c (fun x => (x.setX rd (boundOp 3 a b d)).adv 4)) ∧
    (∀ fn, fn < 3 → exec (.fhash r c rd rs1 rs2 rs3 fn) s = .next (s.modCore r c (fun x => (x.setX rd (fhash fn a b d)).adv 4))) ∧
    exec (.wdkick r c) s = .next (s.modCore r c (fun x => { x with wdAt := s.tb + 1000 * x.period, pc := x.pc + 4 })) ∧
    (let hit (e : ScbEntry) := e.owner == ownPrm c && e.line == srLine a && e.len == srLen a && e.wr == srWr a && bits a 34 29 == 0
     ((s.row r).scb.any hit = true → exec (.srels r c rd rs1) s
        = .next ((s.modRow r (scbFreeIf s.tb hit)).modCore r c (fun x => (x.setX rd Code.ok.val).adv 4))) ∧
     ((s.row r).scb.any hit = false → exec (.srels r c rd rs1) s
        = .next (s.modCore r c (fun x => (x.setX rd Code.relsNomatch.val).adv 4))))) ∧
  (∀ (s : State) (r c rd rs1 rs2 : Nat), coreRuns s r c = false → exec (.badd r c rd rs1 rs2) s = .next s ∧ exec (.wdkick r c) s = .next s)

/-- Bound arithmetic (10 R253). An operand that is a negative value other than zero or a NaN reads as +Inf, like +Inf itself. On finite
operands the result is the smallest BF16 value that is not below the exact sum, product, maximum or multiply-add, and +Inf when every finite
BF16 lies below it; any +Inf operand gives +Inf. The four instructions write that result and leave the CSRs, fcsr among them, as they are. -/
def Obligations.BoundArithmeticRoundsUp : Prop :=
  (∀ v, v < 65536 → (bndOf v = none ↔ 0x7F80 ≤ v ∧ v ≠ 0x8000)) ∧
  (∀ (f a b d : Nat) (x y w e : Rat), f < 4 → bndOf (a % 65536) = some x → bndOf (b % 65536) = some y → (f = 3 → bndOf (d % 65536) = some w) →
    e = (if f = 0 then x + y else if f = 1 then x * y else if f = 2 then (if x ≤ y then y else x) else x * y + w) →
    boundOp f a b d ≤ 0x7F80
    ∧ (∀ z, bndOf (boundOp f a b d) = some z → e ≤ z ∧ ∀ k v, k < 0x7F80 → bndOf k = some v → e ≤ v → z ≤ v)
    ∧ (bndOf (boundOp f a b d) = none → ∀ k v, k < 0x7F80 → bndOf k = some v → v < e)) ∧
  (∀ f a b d : Nat, f < 4 → (bndOf (a % 65536) = none ∨ bndOf (b % 65536) = none ∨ f = 3 ∧ bndOf (d % 65536) = none) → boundOp f a b d = 0x7F80) ∧
  (∀ (s : State) (r c rd rs1 rs2 rs3 : Nat), CoreGo s r c → 0 < rd → rd < 32 → (s.core r c).x.length = 32 →
    let a := ((s.core r c).xr rs1).toNat
    let b := ((s.core r c).xr rs2).toNat
    let d := ((s.core r c).xr rs3).toNat
    (∃ t, exec (.badd r c rd rs1 rs2) s = .next t ∧ (t.core r c).xr rd = BitVec.ofNat 64 (boundOp 0 a b 0) ∧ (t.core r c).csr = (s.core r c).csr) ∧
    (∃ t, exec (.bscl r c rd rs1 rs2) s = .next t ∧ (t.core r c).xr rd = BitVec.ofNat 64 (boundOp 1 a b 0) ∧ (t.core r c).csr = (s.core r c).csr) ∧
    (∃ t, exec (.bmax r c rd rs1 rs2) s = .next t ∧ (t.core r c).xr rd = BitVec.ofNat 64 (boundOp 2 a b 0) ∧ (t.core r c).csr = (s.core r c).csr) ∧
    (∃ t, exec (.blin r c rd rs1 rs2 rs3) s = .next t ∧ (t.core r c).xr rd = BitVec.ofNat 64 (boundOp 3 a b d) ∧ (t.core r c).csr = (s.core r c).csr))

/-- Rings and waits at a core (10 R247, R249, R250, R252): RPOP moves the entry at CI to local memory and makes it outstanding; a ring
that is not the core's is refused, and an RPUSH of a tainted core is held; SRESV is granted, fails at once or waits until its deadline;
TBWAIT ends at its tick. The model's choices it rests on: logs 5, 11. -/
def Obligations.RingAndWaitInstructions : Prop :=
  ∀ (s : State) (r c rd rs1 rs2 : Nat), CoreGo s r c → rd < 32 →
    let x := s.core r c
    let a := (x.xr rs1).toNat
    let b := (x.xr rs2).toNat
    (∀ g, a < 65536 → s.ring a = some g → ringAssigned g r c = true → ringHolds s g = true → b % 64 = 0 → b + 64 ≤ 0x40000 →
      entryEnds s (memRead s (g.rqAddr g.ci) 64) = none →
      ∃ t, exec (.rpop r c rd rs1 rs2) s = .next t
        ∧ t.core r c = ((({ x.lwrite b (memRead s (g.rqAddr g.ci) 64) with lastRing := a } : Core).setX rd (2 ^ 16 * a + 2 ^ 32 * ((g.count - 1) % 2 ^ 12))).adv 4)
        ∧ (t.ring a).map (·.ci) = some ((g.ci + 1) % 65536) ∧ (t.ring a).map (·.out.length) = some (g.out.length + 1)
        ∧ Keeps [.rows, .rings, .gw] s t) ∧
    (a = 0xFFFFFFFF → (∀ p ∈ s.rings.rings, ringAssigned p.2 r c = false) → b % 64 = 0 → b + 64 ≤ 0x40000 →
      exec (.rpop r c rd rs1 rs2) s
        = .next (s.draw.2.modCore r c (fun x => (x.setX rd (Code.ringEmpty.val + 2 ^ 16 * (s.draw.1 % 2 ^ 16))).adv 4))) ∧
    (b % 64 ≠ 0 → exec (.rpop r c rd rs1 rs2) s = .next (s.modCore r c (fun x => x.trap 6 b))) ∧
    (∀ g, a < 65536 → s.ring a = some g → ringAssigned g r c = false → b + 64 ≤ 0x40000 →
      exec (.rpush r c rd rs1 rs2) s = .next (s.modCore r c (fun x => (x.setX rd Code.ringNotOwned.val).adv 4))) ∧
    (∀ g, a < 65536 → s.ring a = some g → ringAssigned g r c = true → x.taint ≠ [] → b + 64 ≤ 0x40000 →
      exec (.rpush r c rd rs1 rs2) s = .next (s.modCore r c (fun x => { x with heldPush := some (a, lread x b 64, rd) }))) ∧
    (srIllegal a = true → exec (.sresv r c rd rs1 rs2) s = .next (s.modCore r c (fun x => (x.setX rd Code.scbIllegal.val).adv 4))) ∧
    (srIllegal a = false → scbVerdict (s.row r) (s.row r).scbPend { owner := ownPrm c, ranges := [(srLine a, srLen a, srWr a)], tb := s.tb } = .grant →
      ∃ t, exec (.sresv r c rd rs1 rs2) s = .next t ∧ t.core r c = (x.setX rd Code.ok.val).adv 4
        ∧ (t.row r).scb = (s.row r).scb ++ [{ line := srLine a, len := srLen a, wr := srWr a, owner := ownPrm c, tb := s.tb }]
        ∧ Keeps [.rows] s t ∧ RowsBut r s t) ∧
    (srIllegal a = false → s.tb < b → scbVerdict (s.row r) (s.row r).scbPend { owner := ownPrm c, ranges := [(srLine a, srLen a, srWr a)], tb := s.tb } = .wait →
      ∃ t, exec (.sresv r c rd rs1 rs2) s = .next t ∧ (t.core r c).st = .waiting ∧ (t.core r c).wait = some { isTb := false, untilTb := b, rd := rd }
        ∧ (t.row r).scbPend.any (·.owner == ownPrm c) = true ∧ (t.row r).scb = (s.row r).scb ∧ Keeps [.rows] s t) ∧
    (1 < b → exec (.tbwait r c rd rs1 rs2) s = .next (s.modCore r c (fun x => x.trap 2 (encR 0x0B 4 0 rd rs1 rs2)))) ∧
    (b ≤ 1 → a ≤ s.tb → exec (.tbwait r c rd rs1 rs2) s
      = .next (s.modCore r c (fun x => { (x.setX rd (tbwaitVal s r c)).adv 4 with wdAt := s.tb + 1000 * x.period }))) ∧
    (b = 0 → s.tb < a → exec (.tbwait r c rd rs1 rs2) s
      = .next (s.modCore r c (fun x => { x with st := .waiting, wdLeft := x.wdAt - s.tb, wait := some { isTb := true, untilTb := a, ring := false, rd := rd }, pc := x.pc + 4 })))

/-- What ends a wait and what halts a core (10 R250, R252, R259, R261): a deadline withdraws the request and returns its status; a tick
that is reached ends TBWAIT and restarts the watchdog; an expired watchdog halts the core with PRM_WATCHDOG and withdraws its SRESV; a
halted core's requests end, and no other core's. -/
def Obligations.WaitsAndWatchdogEnd : Prop :=
  (∀ (s : State) (r c : Nat) (w : CoreWait), r < s.rows.length → c < (s.row r).cores.length → (s.core r c).wait = some w → w.isTb = false → w.untilTb ≤ s.tb →
    ∃ t, exec (.sresvDeadline r c) s = .next t ∧ (t.core r c).st = .running ∧ (t.core r c).wait = none
      ∧ (w.rd ≠ 0 → w.rd < (s.core r c).x.length → (t.core r c).xr w.rd = BitVec.ofNat 64 (if 256 ≤ (s.row r).scb.length then Code.scbFull.val else Code.deadlinePassed.val))
      ∧ (∀ q ∈ (t.row r).scbPend, q.owner ≠ ownPrm c) ∧ (t.row r).scb = (s.row r).scb ∧ Keeps [.rows] s t ∧ RowsBut r s t) ∧
  (∀ (s : State) (r c : Nat) (w : CoreWait), r < s.rows.length → c < (s.row r).cores.length → (s.core r c).wait = some w → w.isTb = true → rowRuns s r = true → w.untilTb ≤ s.tb →
    ∃ t, exec (.tbwaitEnd r c) s = .next t ∧ (t.core r c).st = .running ∧ (t.core r c).wait = none
      ∧ (t.core r c).wdAt = s.tb + 1000 * (s.core r c).period ∧ (t.core r c).pc = (s.core r c).pc ∧ Keeps [.rows, .power] s t) ∧
  (∀ (s : State) (r c : Nat) (w : CoreWait), (s.core r c).wait = some w → s.tb < w.untilTb → w.ring = false →
    exec (.sresvDeadline r c) s = .next s ∧ exec (.tbwaitEnd r c) s = .next s) ∧
  (∀ (s : State) (r c : Nat), r < s.rows.length → c < (s.row r).cores.length → (s.core r c).st = .running → (s.core r c).wdAt ≤ s.tb →
    ∃ t, exec (.prmWatchdogExpiry r c) s = .next t ∧ (t.core r c).st = .halted ∧ (t.core r c).wdog = true
      ∧ (t.core r c).hcode = Code.prmWatchdog.val ∧ (∀ q ∈ (t.row r).scbPend, q.owner ≠ ownPrm c) ∧ (t.row r).scb = (s.row r).scb
      ∧ (t.core r c).lmem = (s.core r c).lmem ∧ (∀ k, k ≠ c → t.core r k = s.core r k) ∧ RowsBut r s t) ∧
  (∀ (s : State) (r c : Nat), ((s.core r c).st = .waiting ∧ (s.core r c).wait.any (·.isTb) = true ∨ s.tb < (s.core r c).wdAt) →
    exec (.prmWatchdogExpiry r c) s = .next s) ∧
  (∀ (s : State) (r c n : Nat) (g : RqRing), (s.core r c).st = .halted → s.rings.up = true → s.ring n = some g → g.owner = r → (s.core r c).heldPush = none →
    ∃ t, exec (.haltedCoreRequestsEnd r c) s = .next t ∧ (t.ring n).map (·.out) = some (g.out.filter (fun q => q.slot != c)) ∧ t.rows = s.rows)

/-- One instruction (10 R242 to R245, R260): a fetched instruction of the base set does to the core what its meaning gives and nothing
else; an illegal one traps to mtvec; an access to scratchpad or device memory waits as one transaction and then loads its bytes; a
store outside the core's write reservation faults and writes nothing. The model's choices it rests on: log 14. -/
def Obligations.PrimroseExecutesAndAccesses : Prop :=
  (∀ (s : State) (r c raw w len : Nat), CoreGo s r c → fetchInstr (s.core r c) = .ok raw w len →
    (rvOp w = 0x13 → rvF3 w = 0 → exec (.primroseExecute r c 0) s = .next ((s.draw.2).modCore r c (fun _ =>
      ((s.core r c).setX (rvRd w) ((s.core r c).xr (rvRs1 w) + immI w).toNat).adv len))) ∧
    (rvOp w = 0x33 → rvF3 w = 0 → rvF7 w = 0x20 → exec (.primroseExecute r c 0) s = .next ((s.draw.2).modCore r c (fun _ =>
      ((s.core r c).setX (rvRd w) ((s.core r c).xr (rvRs1 w) - (s.core r c).xr (rvRs2 w)).toNat).adv len))) ∧
    (rvOp w = 0x63 → rvF3 w = 0 → exec (.primroseExecute r c 0) s = .next ((s.draw.2).modCore r c (fun _ =>
      if (s.core r c).xr (rvRs1 w) = (s.core r c).xr (rvRs2 w) then { s.core r c with pc := (s.core r c).pc + immB w } else (s.core r c).adv len)))) ∧
  (∀ (s : State) (r c raw : Nat), CoreGo s r c → fetchInstr (s.core r c) = .illegal raw →
    exec (.primroseExecute r c 0) s = .next (s.modCore r c (fun x => x.trap 2 raw)) ∧ ((s.core r c).trap 2 raw).csrv 0x342 = 2
      ∧ ((s.core r c).trap 2 raw).pc = BitVec.ofNat 64 ((s.core r c).mtvec.toNat / 4 * 4)) ∧
  (∀ (s : State) (r c : Nat), coreRuns s r c = false → ∀ b, exec (.primroseExecute r c b) s = .next s) ∧
  (∀ (s : State) (r c a n d : Nat) (m : PendMem), r < s.rows.length → c < (s.row r).cores.length → (s.core r c).mem = some m → rowRuns s r = true →
    rvOp m.word = 3 → accsOf (s.core r c) m.word = some [(a, n, false)] → (corePlace r a n = .scratch d ∨ corePlace r a n = .dev d) →
    accReady s r c a n false = true → accessCode s false d n = .ok →
    ∃ t, exec (.primroseMemoryAccess r c 0) s = .next t ∧ (t.core r c).mem = none ∧ (t.core r c).pc = (s.core r c).pc + BitVec.ofNat 64 m.len
      ∧ (rvRd m.word ≠ 0 → rvRd m.word < (s.core r c).x.length → rvF3 m.word = 3 → (t.core r c).xr (rvRd m.word) = (sx 64 (leNat (memRead s d n))))
      ∧ Keeps [.rows] s t ∧ RowsBut r s t) ∧
  (∀ (s : State) (r c a n d l k : Nat) (m : PendMem), r < s.rows.length → c < (s.row r).cores.length → (s.core r c).mem = some m → rowRuns s r = true →
    rvOp m.word = 0x23 → accsOf (s.core r c) m.word = some [(a, n, true)] → corePlace r a n = .scratch d → accReady s r c a n true = true →
    linesAt s d n = some (r, l, k) → coreOwns (s.row r) c l = false →
    ∃ t, exec (.primroseMemoryAccess r c 0) s = .next t ∧ t.mem = s.mem ∧ (t.core r c).csrv 0x342 = 7 ∧ (t.core r c).csrv 0x343 = a % 2 ^ 64
      ∧ Keeps [.rows] s t)

/-! Scratchpad, scoreboard, DMA, banks and UCIe. -/

/-- The scoreboard grants only compatible ranges (11 R269): whoever asks, an Aster RESV, a Primrose SRESV or a request that waited, the
entries of every row stay free of conflicts between owners. A granted core request enters with its range and the core runs on with
OK; one that must wait stays, and the state of the banks it needs in RET is WAKING. -/
def Obligations.ScoreboardKeepsRangesExclusive : Prop :=
  (∀ (s : State) (r i : Nat) (b : Bool), (∀ q, ScbOk (s.row q)) → ∃ t, exec (.scoreboardGrant r i b) s = .next t ∧ ∀ q, ScbOk (t.row q)) ∧
  (∀ (s : State) (r t i : Nat), (∀ q, ScbOk (s.row q)) → ∃ u, exec (.resv r t i) s = .next u ∧ ∀ q, ScbOk (u.row q)) ∧
  (∀ (s : State) (r c rd a b : Nat), (∀ q, ScbOk (s.row q)) → ∃ u, exec (.sresv r c rd a b) s = .next u ∧ ∀ q, ScbOk (u.row q)) ∧
  (∀ (s : State) (r i c : Nat) (q : ScbReq) (w : CoreWait), r < s.rows.length → c < 8 → c < (s.row r).cores.length → (s.row r).scbPend[i]? = some q → q.owner = ownPrm c →
    rowRuns s r = true → scbVerdict (s.row r) ((s.row r).scbPend.take i) q = .grant → (s.core r c).wait = some w → w.isTb = false →
    ∃ t, exec (.scoreboardGrant r i false) s = .next t ∧ (t.core r c).st = .running ∧ (t.core r c).wait = none
      ∧ (t.row r).scb = (s.row r).scb ++ q.ranges.map (fun g => { line := g.1, len := g.2.1, wr := g.2.2, owner := q.owner, tb := s.tb })
      ∧ Keeps [.rows] s t ∧ RowsBut r s t) ∧
  (∀ (s : State) (r i : Nat) (q : ScbReq), r < s.rows.length → (s.row r).scbPend[i]? = some q → rowRuns s r = true →
    scbVerdict (s.row r) ((s.row r).scbPend.take i) q = .wait →
    ∃ t, exec (.scoreboardGrant r i false) s = .next t ∧ (t.row r).scb = (s.row r).scb ∧ (t.row r).scbPend = (s.row r).scbPend
      ∧ Keeps [.rows] s t ∧ RowsBut r s t
      ∧ ∀ b, b < (s.row r).banks.length → (nth (s.row r).banks b).st = .ret → (q.ranges.flatMap (fun g => banksOf g.1 g.2.1)).contains b = true →
          (nth (t.row r).banks b).st = .waking)

/-- DMA (11 R277 to R284; 18 R484): a submission joins the queue or is refused with its code; the head is taken up once the completion
FIFO has room and then runs or ends with one record; an end frees the engine's reservations in every row and makes exactly one
record, OK with the lines written, or the code of what stopped it; a pop takes the oldest record. -/
def Obligations.DmaDescriptorsMakeOneRecord : Prop :=
  (∀ (s : State) (r e : Nat) (d : DmaDesc), rowRuns s r = true → (s.row r).st = .active → (s.dmaE r e).queue.length + (s.dmaE r e).held.length < 32 →
    (s.dmaE r e).subWait = [] → r < s.rows.length → e < (s.row r).dma.length →
    (dmaCheck s r e { d with op := .copy } = .ok → exec (.dmaCopy r e d) s = .next (s.modDma r e (fun x => { x with queue := x.queue ++ [{ d with op := .copy }] }))) ∧
    (dmaCheck s r e { d with op := .skew } = .ok → exec (.dmaSkew r e d) s = .next (s.modDma r e (fun x => { x with queue := x.queue ++ [{ d with op := .skew }] }))) ∧
    (dmaCheck s r e { d with op := .unskew } = .ok → exec (.dmaUnskew r e d) s = .next (s.modDma r e (fun x => { x with queue := x.queue ++ [{ d with op := .unskew }] }))) ∧
    (dmaCheck s r e { d with op := .fill } = .ok → exec (.dmaFill r e d) s = .next (s.modDma r e (fun x => { x with queue := x.queue ++ [{ d with op := .fill }] })))) ∧
  (∀ (s : State) (r e : Nat) (d : DmaDesc), rowRuns s r = true → (s.row r).st = .active → dmaCheck s r e { d with op := .copy } ≠ .ok →
    exec (.dmaCopy r e d) s = .next (s.modDma r e (fun x => { x with subRefused := true, scode := (dmaCheck s r e { d with op := .copy }).val }))) ∧
  (∀ (s : State) (r e : Nat) (d : DmaDesc) (rest : List DmaDesc), r < s.rows.length → e < (s.row r).dma.length → (s.dmaE r e).queue = d :: rest → rowRuns s r = true →
    (s.dmaE r e).active = false → (s.dmaE r e).cpl.length < 64 → (s.dmaE r e).held = [] → dmaAsleep s d = [] →
    ∃ t, exec (.dmaDescriptorStart r e) s = .next t ∧ (t.dmaE r e).cpl.length = (s.dmaE r e).cpl.length + (if (t.dmaE r e).active then 0 else 1)
      ∧ ((t.dmaE r e).active = true → (t.dmaE r e).startTb = s.tb ∧ (t.dmaE r e).limit = s.gw.tmoDma ∧ (t.dmaE r e).queue = d :: rest)) ∧
  (∀ (s : State) (r e : Nat), 64 ≤ (s.dmaE r e).cpl.length → exec (.dmaDescriptorStart r e) s = .next s) ∧
  (∀ (s : State) (r e : Nat) (d : DmaDesc) (rest : List DmaDesc), r < s.rows.length → e < (s.row r).dma.length → (s.dmaE r e).queue = d :: rest → dmaReady s r e = true →
    dmaHolds s d (s.dmaE r e).taint = false → dmaRoom s d (dmaTaint s d (s.dmaE r e).taint) (s.dmaE r e).taintBad = true → dmaCode s d = .ok → dmaPoisoned s d = false →
    (s.dmaE r e).cpl.length < 64 → (s.dmaE r e).held = [] →
    ∃ t, exec (.dmaComplete r e 0 0) s = .next t ∧ (t.dmaE r e).active = false
      ∧ (t.dmaE r e).cpl = (s.dmaE r e).cpl ++ [{ tag := d.tag, status := 0, done := (dmaData s d).length, tb := s.tb, byCore := d.byCore }]
      ∧ (∀ w ∈ t.rows, ∀ x ∈ w.scb, x.owner ≠ ownDma r e)
      ∧ t.mem = (dmaWrite d (dmaTaint s d (s.dmaE r e).taint) (s.dmaE r e).taintBad (dmaData s d) s).mem ∧ Keeps [.rows, .mem] s t) ∧
  (∀ (s : State) (r e : Nat) (c : DmaCpl) (rest : List DmaCpl), r < s.rows.length → e < (s.row r).dma.length → (s.dmaE r e).cpl = c :: rest →
    ∃ t, exec (.dmaCplPop r e) s = .next t ∧ t.out = .value (cplWord c) :: s.out ∧ (t.dmaE r e).cpl = rest ++ (s.dmaE r e).held.take 1
      ∧ (t.dmaE r e).held = (s.dmaE r e).held.drop 1 ∧ Keeps [.rows, .out] s t ∧ RowsBut r s t) ∧
  (∀ (s : State) (r e n : Nat) (d : DmaDesc) (rest : List DmaDesc), r < s.rows.length → e < (s.row r).dma.length → (s.dmaE r e).queue = d :: rest → (s.dmaE r e).active = true →
    (s.dmaE r e).startTb + (s.dmaE r e).limit ≤ s.tb → (s.dmaE r e).cpl.length < 64 → (s.dmaE r e).held = [] →
    ∃ t, exec (.dmaDescriptorTimeout r e n) s = .next t ∧ (t.dmaE r e).active = false ∧ (t.dmaE r e).cpl.length = (s.dmaE r e).cpl.length + 1
      ∧ ((t.dmaE r e).cpl.getLast?.map (·.status)) = some Code.dmaTimeout.val)

/-- Ingress, network timeouts, banks and UCIe (11 R286 to R289, R291, R303; 18 R486): an arriving read that its row grants is answered and
frees its units; a core whose access outlives its timeout takes the access fault; a bank that has been idle for T_BANK enters
RET, and a scrub leaves it ON and zero; a flit in order is acknowledged, a bad one is NAKed, and the ninth replay takes the module
out of service. -/
def Obligations.IngressBanksAndLinks : Prop :=
  (∀ (s : State) (r a i : Nat) (g : Ingress), r < s.rows.length → a < 16 → (s.row r).ingress.length = 16 → nth (s.row r).ingress a = none → (s.row r).arrivals[i]? = some g →
    rowRuns s r = true → (s.row r).st = .active → g.fence = false → g.kind = 0 → g.isWrite = false → g.side = none → accessCode s false g.addr g.bytes = .ok →
    scbVerdict (s.row r) (s.row r).scbPend (ingReq s.tb a g) = .grant → s.fab.winNext = [] →
    provOver (s.row r) (g.addr / 64 % 1310720) ((g.addr % 64 + g.bytes + 63) / 64) = [] →
    ∃ t, exec (.ingressTransaction r a i false) s = .next t ∧ (t.row r).arrivals = (s.row r).arrivals.eraseIdx i
      ∧ nth (t.row r).ingress a = none ∧ (∀ e ∈ (t.row r).scb, e.owner ≠ ownIng a) ∧ t.fab = (answer g.bridge g.pkt .ok (memRead s g.addr g.bytes) s).fab
      ∧ t.mem = s.mem ∧ RowsBut r s t) ∧
  (∀ (s : State) (r a i : Nat) (g : Ingress), (s.row r).arrivals[i]? = none → ingHeld s r a = none → s.fab.winNext = [] →
    exec (.ingressTransaction r a i false) s = .next s) ∧
  (∀ (s : State) (r c : Nat) (m : PendMem) (n : Nat), r < s.rows.length → c < (s.row r).cores.length → (s.core r c).mem = some m → m.startTb = some n → n + m.limit ≤ s.tb →
    ∃ t, exec (.netTimeoutExpiry 0 r c) s = .next t ∧ (t.core r c).mem = none ∧ (t.core r c).csrv 0x342 = (if m.isStore then 7 else 5)
      ∧ (t.core r c).pc = BitVec.ofNat 64 ((s.core r c).mtvec.toNat / 4 * 4) ∧ RowsBut r s t ∧ t.mem = s.mem) ∧
  (∀ (s : State) (r b : Nat), rowRuns s r = true → b < 40 → (s.bank r b).st = .on → (s.bank r b).inTest = false → (s.bank r b).tIdle ≠ 0 →
    bankUsed (s.row r) b = false → (s.bank r b).idleSince + (s.bank r b).tIdle ≤ s.tb →
    exec (.bankRetEntry r b) s = .next (s.modBank r b (fun k => { k with st := .entering, toOff := false }))) ∧
  (∀ (s : State) (r b : Nat), bankUsed (s.row r) b = true → exec (.bankRetEntry r b) s = .next s) ∧
  (∀ (s : State) (r b : Nat), r < 12 → b < 40 → (s.bank r b).st = .entering → (s.bank r b).toOff = false →
    exec (.bankTransitionComplete r b) s = .next (s.modBank r b (fun k => { k with st := if k.wakeAfter || k.cmdOff then .waking else .ret, wakeAfter := false }))) ∧
  (∀ (s : State) (r b : Nat), r < 12 → b < 40 → r < s.rows.length → b < (s.row r).banks.length → (s.bank r b).st = .scrub → (s.bank r b).cmdOff = false →
    (∀ k ∈ s.gw.cmds, k.wait ≠ wBank ∧ k.wait ≠ wRowPower) →
    ∃ t, exec (.bankScrubEnd r b) s = .next t ∧ (t.bank r b).st = .on ∧ (∀ k, bankKey r b k = true → cellRead t.mem.cells k = 0)
      ∧ (∀ k, bankKey r b k = false → cellRead t.mem.cells k = cellRead s.mem.cells k) ∧ RowsBut r s t) ∧
  (∀ (s : State) (m q cvc n : Nat), m < 16 → m < s.fab.ucie.length → (nth s.fab.ucie m).up = true → q = (nth s.fab.ucie m).rxSeq →
    ∃ t, exec (.ucieFlitReceive m q false true cvc n) s = .next t ∧ (nth t.fab.ucie m).rxSeq = (q + 1) % 1024 ∧ (nth t.fab.ucie m).replays = 0
      ∧ (nth t.fab.ucie m).nakSent = false ∧ t.out = .ucie m false q :: s.out ∧ Keeps [.fab, .out] s t) ∧
  (∀ (s : State) (m q cvc n : Nat) (idle : Bool), m < 16 → m < s.fab.ucie.length → (nth s.fab.ucie m).up = true → (nth s.fab.ucie m).replays < 8 →
    ∃ t, exec (.ucieFlitReceive m q idle false cvc n) s = .next t ∧ (nth t.fab.ucie m).nakSent = true ∧ (nth t.fab.ucie m).replays = (nth s.fab.ucie m).replays + 1
      ∧ (nth t.fab.ucie m).rxSeq = (nth s.fab.ucie m).rxSeq ∧ t.out = .ucie m true (nth s.fab.ucie m).rxSeq :: s.out ∧ Keeps [.fab, .out] s t) ∧
  (∀ (s : State) (m q cvc n : Nat) (idle : Bool), m < 16 → m < s.fab.ucie.length → (nth s.fab.ucie m).up = true → 8 ≤ (nth s.fab.ucie m).replays →
    ∃ t, exec (.ucieFlitReceive m q idle false cvc n) s = .next t ∧ (nth t.fab.ucie m).up = false)

/-! Memory and pooled fetch. -/

/-- Memory reads back what was written (12 R305, R306): every byte written reads as written, every other byte of memory reads as before,
and the interleaved and the stack-local form of an address name one byte. The model's choices it rests on: log 8. -/
def Obligations.MemoryReadsBackWhatWasWritten : Prop :=
  (∀ (s : State) (a : Nat) (l : List Byte) (k : Nat), (∀ i, i < l.length → canon s (a + i) ≠ k) →
    cellRead (memWrite s a l).mem.cells k = cellRead s.mem.cells k) ∧
  (∀ (s : State) (a : Nat) (l : List Byte) (i : Nat), i < l.length → (∀ j, i < j → j < l.length → canon s (a + j) ≠ canon s (a + i)) →
    cellRead (memWrite s a l).mem.cells (canon s (a + i)) = nth l i) ∧
  (∀ (s : State) (a i j : Nat), a % 64 = 0 → i < 64 → j < 64 → i ≠ j → canon s (a + i) ≠ canon s (a + j)) ∧
  (∀ (s : State) (off : Nat), off < 2 ^ 39 → 256 * (off / 2048) + off % 256 < 47815065600 →
    place s (2 ^ 44 + off) = .mem (off / 256 % 8) (256 * (off / 2048) + off % 256)
    ∧ canon s (2 ^ 44 + off) = canon s (2 * 2 ^ 44 + off / 256 % 8 * 2 ^ 36 + (256 * (off / 2048) + off % 256)))

/-- HBM4 and DDR5 accesses (12 R308, R309): a served write changes memory as the write does and a served read answers the bytes there;
one that meets an uncorrectable error answers MEM_UNCORRECTABLE and retires its page; any other code is the whole answer. The end of
the page's copy switches the page to a spare, with the units that had failed reading DATA_LOST.
The model's choices it rests on: log 30. -/
def Obligations.MemoryAccessesAnswerAndRetire : Prop :=
  (∀ (s : State) (a u loc : Nat) (data : List Byte), place s a = .mem u loc → accessCode s true a data.length = .ok →
    ∃ t, exec (.memoryAccess a 0 true data false none) s = .next t ∧ t.mem = (memWrite s a data).mem ∧ t.out = .answer 0 [] :: s.out
      ∧ Keeps [.mem, .out] s t) ∧
  (∀ (s : State) (a n u loc : Nat), place s a = .mem u loc → accessCode s false a n = .ok →
    ∃ t, exec (.memoryAccess a n false [] false none) s = .next t ∧ t.out = .answer 0 (memRead s a n) :: s.out ∧ Keeps [.out] s t) ∧
  (∀ (s : State) (a n u loc : Nat) (c : Code), place s a = .mem u loc → accessCode s false a n = c → c ≠ .ok →
    ∀ corr bad, ∃ t, exec (.memoryAccess a n false [] corr bad) s = .next t ∧ t.out = .answer c.val [] :: s.out ∧ Keeps [.out] s t) ∧
  (∀ (s : State) (a u loc : Nat), place s a = .mem u loc → a % 64 = 0 → accessCode s false a 64 = .ok →
    (pageEnt s (pageKey u loc)).unit < s.mem.units.length → (pageEnt s (pageKey u loc)).st = .mapped →
    ∃ t, exec (.memoryAccess a 64 false [] false (some 0)) s = .next t ∧ t.out.head? = some (.answer Code.memUncorrectable.val [])
      ∧ (pageEnt t (pageKey u loc)).st = .retired ∧ (pageEnt t (pageKey u loc)).copying = true
      ∧ (t.memUnit (pageEnt s (pageKey u loc)).unit).uncorr = true ∧ t.mem.bad.contains (canon s a / 64) = true ∧ t.mem.cells = s.mem.cells) ∧
  (∀ (s : State) (k : Nat), (pageEnt s k).copying = true → (pageEnt s k).st = .retired → (pageEnt s k).unit < s.mem.units.length →
    (s.memUnit (pageEnt s k).unit).retired < retireLimit (pageEnt s k).unit →
    ∃ t, exec (.pageRemapComplete k) s = .next t ∧ (pageEnt t k).st = .mapped ∧ (pageEnt t k).copying = false
      ∧ (t.memUnit (pageEnt s k).unit).retired = (s.memUnit (pageEnt s k).unit).retired + 1
      ∧ (t.memUnit (pageEnt s k).unit).badPhys.contains (pageEnt s k).phys = true ∧ t.mem.cells = s.mem.cells
      ∧ ∀ x ∈ s.mem.bad, x ∈ t.mem.bad ∨ x ∈ t.mem.dataLost) ∧
  (∀ (s : State) (d c : Nat), d < 16 → unitIsOut (s.memUnit (8 + d)).st = false →
    exec (.ddrScrubCountRead d c []) s = .next (s.modMemUnit (8 + d) (fun x => { x with scrubCount := c })))

/-- Drain and return of a DDR5 channel (12 R332, R333): each copied page switches to its place in one step; after the last the channel is
DRAINED with its switch off; a returned page goes home; a passed test of an empty channel puts it in service, a failed one in FAILED.
The model's choices it rests on: logs 8, 30, 38. -/
def Obligations.ChannelsDrainAndReturn : Prop :=
  (∀ (s : State) (d k : Nat) (x : Nat × Nat × Option Nat) (rest : List Nat), d < 16 → 8 + d < s.mem.units.length → (s.memUnit (8 + d)).st = .draining →
    (s.memUnit (8 + d)).moving = k :: rest → rest ≠ [] → moveTarget s (8 + d) = some x → (∀ l, x.2.2 = some l → l ≠ k) →
    ∃ t, exec (.migrationPageCopyComplete d) s = .next t ∧ pageEnt t k = { st := .mapped, unit := x.1, phys := x.2.1 }
      ∧ (∀ l, x.2.2 = some l → (pageEnt t l).st = .borrowed) ∧ (t.memUnit (8 + d)).moving = rest ∧ (t.memUnit (8 + d)).st = .draining
      ∧ t.mem.cells = s.mem.cells ∧ Keeps [.mem] s t) ∧
  (∀ (s : State) (d : Nat), d < 16 → 8 + d < s.mem.units.length → (s.memUnit (8 + d)).st = .draining → (s.memUnit (8 + d)).moving = [] → d < s.power.switches.length →
    ∃ t, exec (.migrationPageCopyComplete d) s = .next t ∧ (t.memUnit (8 + d)).st = .drained ∧ (t.sw d).st = .off ∧ t.mem.cells = s.mem.cells) ∧
  (∀ (s : State) (d k : Nat) (rest : List Nat), d < 16 → 8 + d < s.mem.units.length → k / 65536 = 8 + d → (s.memUnit (8 + d)).st = .returning → (s.memUnit (8 + d)).moving = k :: rest → rest ≠ [] →
    (s.memUnit (8 + d)).badPhys = [] → s.mem.lostUnits = [] → (∀ e ∈ s.mem.remap, e.2.st ≠ .borrowed) →
    ∃ t, exec (.migrationPageCopyComplete d) s = .next t ∧ pageEnt t k = { st := .mapped, unit := k / 65536, phys := k % 65536 }
      ∧ (t.memUnit (8 + d)).moving = rest ∧ t.mem.cells = s.mem.cells) ∧
  (∀ (s : State) (d : Nat), d < 16 → 8 + d < s.mem.units.length → (s.memUnit (8 + d)).st = .testing → (∀ e ∈ s.mem.remap, e.1 / 65536 ≠ 8 + d) →
    ∃ t, exec (.channelTestComplete d 0 []) s = .next t ∧ (t.memUnit (8 + d)).st = .inService ∧ (t.memUnit (8 + d)).retired = 0
      ∧ (∀ k, memUnitKey (8 + d) k = true → cellRead t.mem.cells k = 0) ∧ (∀ k, memUnitKey (8 + d) k = false → cellRead t.mem.cells k = cellRead s.mem.cells k)) ∧
  (∀ (s : State) (d reason : Nat) (l : List Nat), d < 16 → 8 + d < s.mem.units.length → d < s.power.switches.length → (s.memUnit (8 + d)).st = .testing → reason ≠ 0 →
    ∃ t, exec (.channelTestComplete d reason l) s = .next t ∧ (t.memUnit (8 + d)).st = .failed)

/-- A fetch command from its store to its record (12 R319, R322, R323, R325, R327, R328): a store to a fetch port queues the command and the
core goes on, a third outstanding one faults; a free engine takes the oldest and ends one that fails its checks; a list entry resolves
to the row it reads, a row that returns is counted and its entry done; the single completion record frees the engine.
The model's choices it rests on: logs 52, 54. -/
def Obligations.FetchCommandsRunToTheirRecord : Prop :=
  (∀ (s : State) (r c b : Nat) (l : List Byte) (m : PendMem), r < s.rows.length → c < (s.row r).cores.length → b < s.fetch.bridges.length →
    (s.core r c).mem = some m → fetchStore s r c = some (b, l) → rowRuns s r = true →
    (bridgeServes s b = true → isLine (parseFetch l r c).cpl = true → nth (s.core r c).fetchOut b < 2 →
      ∃ t, exec (.fetchCommand r c) s = .next t ∧ (t.fetchU b).queue.length = (s.fetchU b).queue.length + 1
        ∧ (t.core r c).mem = none ∧ (t.core r c).pc = (s.core r c).pc + BitVec.ofNat 64 m.len ∧ Keeps [.rows, .fetch] s t) ∧
    (2 ≤ nth (s.core r c).fetchOut b →
      ∃ t, exec (.fetchCommand r c) s = .next t ∧ (t.core r c).mem = none ∧ (t.core r c).csrv 0x342 = 7 ∧ t.fetch = s.fetch)) ∧
  (∀ (s : State) (b e : Nat) (c : FetchCmd) (rest : List FetchCmd), b < s.fetch.bridges.length → e < 4 → (s.fetchU b).engines.length = 4 → (s.fetchU b).queue = c :: rest →
    s.engine b e = none → bridgeServes s b = true → s.therm.halt = false →
    ∃ t, exec (.fetchDispatch b e) s = .next t ∧ (t.fetchU b).queue = rest ∧ Keeps [.fetch] s t ∧ ∃ r, t.engine b e = some r ∧ r.cmd = c
      ∧ (fetchCheck s b c = .ok → r.status = 0 ∧ r.ended = false) ∧ (fetchCheck s b c ≠ .ok → r.status = (fetchCheck s b c).val ∧ r.ended = true)) ∧
  (∀ (s : State) (b e x w : Nat) (r : FetchRun) (t0 : Table), b < s.fetch.bridges.length → e < (s.fetchU b).engines.length → working s b e = some (r, t0) →
    r.cmd.op = 1 → r.next < r.cmd.nids → r.curBag < r.cmd.nbags → r.taint = [] →
    (∀ g ∈ entryReads r.cmd (t0.type == .keyed) r.next 16, readHeld s g.1 g.2 = false ∧ accessCode s false g.1 g.2 = .ok ∧ linesAt s g.1 g.2 = none) →
    field (listAt s r.cmd (16 * r.next) 16) 6 2 = r.curBag → resolveEntry s r.cmd t0 r.next (field (listAt s r.cmd (16 * r.next) 16) 0 5) = .row x →
    w = (if r.cmd.unweighted then 0x3F800000 else field (listAt s r.cmd (16 * r.next) 16) 8 4) →
    ∃ t, exec (.fetchPool b e) s = .next t ∧ (t.engine b e).map (·.pendRow) = some (some x) ∧ (t.engine b e).map (·.pendW) = some w
      ∧ (t.engine b e).map (·.next) = some r.next ∧ Keeps [.fetch] s t) ∧
  (∀ (s : State) (b e x tier : Nat) (r : FetchRun) (t0 : Table) (l : List Byte), b < s.fetch.bridges.length → e < (s.fetchU b).engines.length →
    s.engine b e = some r → r.pendRow = some x → s.table r.cmd.table = some t0 → r.cmd.witness = false →
    rowSource s r t0 x = .got tier (some l) → (decodeRow t0.dim l).isSome = true →
    ∃ t, exec (.rowReadComplete b e false) s = .next t ∧ (t.engine b e).map (·.next) = some (r.next + 1) ∧ (t.engine b e).map (·.pendRow) = some none
      ∧ (t.engine b e).map (·.rows) = some (r.rows + 1) ∧ (t.engine b e).map (·.bagRows) = some (r.bagRows + 1) ∧ Keeps [.fetch, .fresh, .mem] s t) ∧
  (∀ (s : State) (b e x tier : Nat) (o : Option (List Byte)) (r : FetchRun) (t0 : Table), b < s.fetch.bridges.length → e < (s.fetchU b).engines.length → s.engine b e = some r →
    r.pendRow = some x → s.table r.cmd.table = some t0 → r.cmd.witness = false → rowSource s r t0 x = .got tier o →
    ∃ t, exec (.rowReadComplete b e true) s = .next t ∧ (t.engine b e).map (·.failed) = some (r.failed + 1) ∧ (t.engine b e).map (·.bagBad) = some true
      ∧ (t.engine b e).map (·.next) = some (r.next + 1) ∧ t.mem.cells = s.mem.cells
      ∧ Keeps [.fetch, .mem, .fab, .chavi, .mbx, .gw, .err, .sec, .attn, .out, .fresh] s t) ∧
  (∀ (s : State) (b e a : Nat) (r : FetchRun) (t0 : Table), b < s.fetch.bridges.length → e < (s.fetchU b).engines.length → working s b e = some (r, t0) →
    r.taint = [] → r.next < r.cmd.nids →
    (∀ g ∈ entryReads r.cmd false r.next 8 ++ entryReads r.cmd false r.next 16, readHeld s g.1 g.2 = false ∧ accessCode s false g.1 g.2 = .ok ∧ linesAt s g.1 g.2 = none) →
    (r.cmd.op = 2 → blockAt s t0 (field (listAt s r.cmd (8 * r.next) 8) 0 5) = some a →
      ∃ t, exec (.fetchBlockGather b e false) s = .next t ∧ (t.engine b e).map (·.next) = some (r.next + 1) ∧ (t.engine b e).map (·.bags) = some (r.bags + 1)
        ∧ Keeps [.fetch, .fab, .rows] s t) ∧
    (r.cmd.op = 2 → ∃ t, exec (.fetchBlockGather b e true) s = .next t ∧ (t.engine b e).map (·.failed) = some (r.failed + 1)
      ∧ t.mem.cells = s.mem.cells ∧ Keeps [.fetch, .mem, .fab, .chavi, .mbx, .gw, .err, .sec, .attn, .out, .fresh] s t) ∧
    (r.cmd.op = 3 → blockAt s t0 (field (listAt s r.cmd (16 * r.next) 16) 0 5) = none →
      ∃ t, exec (.fetchBlockMove b e false) s = .next t ∧ (t.engine b e).map (·.failed) = some (r.failed + 1) ∧ Keeps [.fetch] s t) ∧
    (r.cmd.op = 3 → blockAt s t0 (field (listAt s r.cmd (16 * r.next) 16) 0 5) = some a → ∀ u loc, place s (field (listAt s r.cmd (16 * r.next) 16) 8 8) = .mem u loc →
      accessCode s true (field (listAt s r.cmd (16 * r.next) 16) 8 8) t0.bsize = .ok → accessCode s true (t0.mapBase + 8 * field (listAt s r.cmd (16 * r.next) 16) 0 5) 8 = .ok →
      ∃ t, exec (.fetchBlockMove b e false) s = .next t ∧ (t.engine b e).map (·.bags) = some (r.bags + 1)
        ∧ t.mem = (memWrite (memWrite s (field (listAt s r.cmd (16 * r.next) 16) 8 8) (memRead s a t0.bsize)) (t0.mapBase + 8 * field (listAt s r.cmd (16 * r.next) 16) 0 5)
            (leBytes 8 (field (listAt s r.cmd (16 * r.next) 16) 8 8))).mem ∧ Keeps [.fetch, .mem] s t)) ∧
  (∀ (s : State) (b e : Nat) (r : FetchRun), b < s.fetch.bridges.length → e < (s.fetchU b).engines.length → s.engine b e = some r → r.cmd.src ≠ 0 → fetchDone s b e r = true →
    bridgeServes s b = true →
    ∃ t, exec (.fetchComplete b e) s = .next t ∧ t.engine b e = none ∧ (∀ f, f ≠ e → t.engine b f = s.engine b f)) ∧
  (∀ (s : State) (b e q ln : Nat) (r : FetchRun), b < s.fetch.bridges.length → e < (s.fetchU b).engines.length → s.engine b e = some r → r.cmd.src = 0 → fetchDone s b e r = true →
    bridgeServes s b = true → q = r.cmd.cpl / 83886080 → ln = r.cmd.cpl / 64 % 1310720 → rowIsOut s q = false → rowIsDark s q = false → rowRuns s q = true → (s.bank q (ln / 32768)).st = .on →
    (s.row q).scb.all (fun x => rangeOk (ln / 8 * 8, 1, true) x.range) = true → markFits s q r.taint r.taintBad = true → accessCode s true r.cmd.cpl 64 = .ok → (∀ t0, s.table r.cmd.table = some t0 → t0.dying = false) → r.status = 0 → r.failed = 0 →
    ∃ t, exec (.fetchComplete b e) s = .next t ∧ t.engine b e = none ∧ t.mem = (memWrite s r.cmd.cpl (fetchRecord r s.tb)).mem ∧ Keeps [.rows, .mem, .fetch] s t) ∧
  (∀ (s : State) (b e : Nat) (r : FetchRun), s.engine b e = some r → r.ended = false → r.next < r.cmd.nids → exec (.fetchComplete b e) s = .next s)

/-! Flash. -/

/-- Flash reads and batches (13 R340, R341, R343, R344): a codeword decoded at a step of the ladder brings the row, one that is unreadable
fails it, and either beyond the first steps queues the row group for relocation; a commit makes every row of the batch current in one
step, makes EPOCH even again, frees the table for the next batch and leaves the rows of other tables alone.
The model's choices it rests on: log 31. -/
def Obligations.FlashReadsAndBatchCommit : Prop :=
  (∀ (s : State) (b e x step : Nat) (r : FetchRun) (t0 : Table) (g : RowGroup), b < s.fetch.bridges.length → e < (s.fetchU b).engines.length → s.engine b e = some r →
    r.pendRow = some x → s.table r.cmd.table = some t0 → t0.home = .flash → r.flashRead = none → mapWaits s b r.cmd.table = false → wayOf s t0 x = none →
    bridgeServes s b = true → kget s.flash.groups (r.cmd.table, x / groupRows t0.rowBytes) = some g → g.lost = false → chanReadable (s.fchan g.card g.chan).st = true →
    (step < 5 → ∃ t, exec (.flashReadComplete b e step) s = .next t ∧ (t.engine b e).map (·.flashRead) = some (some (!g.bad)) ∧ t.flash.rows = s.flash.rows
      ∧ Keeps [.fetch, .flash] s t) ∧
    (5 ≤ step → ∃ t, exec (.flashReadComplete b e step) s = .next t ∧ (t.engine b e).map (·.flashRead) = some (some false)
      ∧ (g.card < s.flash.cards.length → g.chan < (s.card g.card).chans.length →
          (t.fchan g.card g.chan).failed = sat 16 ((s.fchan g.card g.chan).failed + 1) ∧ (r.cmd.table, x / groupRows t0.rowBytes) ∈ (t.fchan g.card g.chan).toMove))) ∧
  (∀ (s : State) (b e x step : Nat) (r : FetchRun) (t0 : Table) (g : RowGroup), b < s.fetch.bridges.length → e < (s.fetchU b).engines.length → s.engine b e = some r →
    r.pendRow = some x → s.table r.cmd.table = some t0 → t0.home = .flash → r.flashRead = none → mapWaits s b r.cmd.table = false → wayOf s t0 x = none →
    bridgeServes s b = true → kget s.flash.groups (r.cmd.table, x / groupRows t0.rowBytes) = some g → g.lost = true →
    ∃ t, exec (.flashReadComplete b e step) s = .next t ∧ (t.engine b e).map (·.flashRead) = some (some false) ∧ Keeps [.fetch] s t) ∧
  (∀ (s : State) (t : Nat) (l : List Nat) (k : Batch) (d : Table), s.flash.batches.find? (·.table == t) = some k → s.table t = some d → d.home = .flash → s.therm.halt = false → l ≠ [] →
    (∀ p ∈ l, cardBridge (p / 4) = d.bridge ∧ cardWritable (s.card (p / 4)) = true ∧ (s.card (p / 4)).st ≠ .draining ∧ chanWritable (s.fchan (p / 4) (p % 4)).st = true) →
    (k.rows.map (·.1)).Nodup →
    ∃ u, exec (.flashBatchCommit t l) s = .next u ∧ (∀ p ∈ k.rows, kget u.flash.rows (t, p.1) = some p.2)
      ∧ (∀ q : Nat × Nat, q.1 ≠ t → kget u.flash.rows q = kget s.flash.rows q) ∧ u.flash.batches = s.flash.batches.filter (·.table != t)
      ∧ (u.table t).map (·.epoch) = some ((d.epoch + 1) % 2 ^ 32) ∧ t ∉ u.fetch.updBusy)

/-- Flash upkeep (13 R335, R338, R346, R349, R350, R351, R357): a failed program leaves the spare count it reports, no spare left makes the channel
READ_ONLY; a relocation switches the row group's place in one step and changes no row; data past T_RET is queued; a failed training
retires the channel; a reloaded map frees the fetches that waited; a returned card that passes is in use, one that fails or belongs to
another module is FAILED. The model's choices it rests on: logs 31, 38. -/
def Obligations.FlashUpkeepKeepsRows : Prop :=
  (∀ (s : State) (c k die sp pa pm wa : Nat), c < 8 → k < 4 → c < s.flash.cards.length → k < (s.card c).chans.length → cardWritable (s.card c) = true →
    chanWritable (s.fchan c k).st = true → 0 < sp → pa < 3300 → (s.fchan c k).spareInit ≤ 4 * sp →
    ∃ t, exec (.flashProgramEraseComplete c k die 1 sp pa pm wa []) s = .next t ∧ (t.fchan c k).spareLeft = sp ∧ (t.fchan c k).peAvg = pa ∧ (t.fchan c k).peMax = pm
      ∧ (t.fchan c k).st = (s.fchan c k).st ∧ t.flash.rows = s.flash.rows ∧ Keeps [.flash] s t) ∧
  (∀ (s : State) (c k die pa pm wa : Nat), c < 8 → k < 4 → c < s.flash.cards.length → k < (s.card c).chans.length → cardWritable (s.card c) = true →
    chanWritable (s.fchan c k).st = true → (s.fchan c k).st ≠ .readOnly →
    ∃ t, exec (.flashProgramEraseComplete c k die 1 0 pa pm wa []) s = .next t ∧ (t.fchan c k).st = .readOnly) ∧
  (∀ (s : State) (t g c k die : Nat) (x : RowGroup), kget s.flash.groups (t, g) = some x → x.lost = false → c < 8 → k < 4 → cardBridge c = cardBridge x.card →
    cardWritable (s.card c) = true → (s.card c).st ≠ .draining → chanWritable (s.fchan c k).st = true → chanReadable (s.fchan x.card x.chan).st = true →
    (s.fchan x.card x.chan).st ≠ .readOnly → (s.card x.card).st ≠ .draining →
    ∃ u, exec (.flashRelocationComplete t g c k die false) s = .next u
      ∧ kget u.flash.groups (t, g) = some { x with card := c, chan := k, die := die, since := s.tb, bad := false, reads := 0 }
      ∧ (∀ q : Nat × Nat, q ≠ (t, g) → kget u.flash.groups q = kget s.flash.groups q) ∧ u.flash.rows = s.flash.rows ∧ Keeps [.flash] s u) ∧
  (∀ (s : State) (c k : Nat) (g : Nat × Nat), c < s.flash.cards.length → k < (s.card c).chans.length → (groupsOn s c k).contains g = true → (s.fchan c k).st ≠ .readOnly →
    ∃ t, exec (.flashRetentionExpiry c k [g]) s = .next t ∧ g ∈ (t.fchan c k).toMove ∧ t.flash.rows = s.flash.rows ∧ t.flash.groups = s.flash.groups ∧ Keeps [.flash] s t) ∧
  (∀ (s : State) (c k : Nat), c < 8 → k < 4 → c < s.flash.cards.length → k < (s.card c).chans.length → (s.fchan c k).st ≠ .retired → (s.fchan c k).st ≠ .absent → (s.sw (16 + c)).st = .on →
    (s.fchan c k).lastTrain + 50000000 ≤ s.tb →
    (∃ t, exec (.flashInterfaceTraining c k true) s = .next t ∧ (t.fchan c k).lastTrain = s.tb ∧ (t.fchan c k).st = (s.fchan c k).st ∧ Keeps [.flash] s t)
    ∧ (∃ t, exec (.flashInterfaceTraining c k false) s = .next t ∧ (t.fchan c k).st = .retired)) ∧
  (∀ (s : State) (b t : Nat), mapWaits s b t = true → ∃ u, exec (.flashMapReloadComplete b t) s = .next u ∧ mapWaits u b t = false
    ∧ (∀ b' t', (b', t') ≠ (b, t) → mapWaits u b' t' = mapWaits s b' t') ∧ Keeps [.mem, .flash] s u) ∧
  (∀ (s : State) (b t : Nat), mapWaits s b t = false → exec (.flashMapReloadComplete b t) s = .next s) ∧
  (∀ (s : State) (c ser : Nat), c < 8 → c < s.flash.cards.length → (s.card c).st = .testing → (s.card c).format = false →
    ∃ t, exec (.cardTestComplete c s.eeprom.ident.serial ser 0 false) s = .next t ∧ (s.eeprom.ident.serial ≠ 0 → (t.card c).st = .rebalancing ∧ (t.card c).serial = ser)) ∧
  (∀ (s : State) (c ser hdr : Nat), c < 8 → c < s.flash.cards.length → (s.card c).st = .testing → (s.card c).format = false → hdr ≠ 0 → hdr ≠ s.eeprom.ident.serial →
    ∃ t, exec (.cardTestComplete c hdr ser 0 false) s = .next t ∧ (t.card c).st = .failed ∧ (16 + c < s.power.switches.length → (t.sw (16 + c)).st = .off)) ∧
  (∀ (s : State) (c hdr ser reason : Nat) (b : Bool), c < 8 → c < s.flash.cards.length → (s.card c).st = .testing → reason ≠ 0 →
    ∃ t, exec (.cardTestComplete c hdr ser reason b) s = .next t ∧ (t.card c).st = .failed)

/-! Fabric. -/

/-- Frames and control flits (14 R362 to R365, R378, R385): a good frame's flits are taken in order and acknowledged; a bad one is discarded
with a NAK and takes nothing; cumulative credits add what is new; more than eight replays of one flit take the port out; a packet that
waited 2 ms at the head of its queue leaves it. The model's choices it rests on: log 56. -/
def Obligations.FramesFlitsAndStalls : Prop :=
  (∀ (s : State) (p c q : Nat), p < s.fab.ports.length → portLive (s.port p).st = true → q = (s.port p).rxSeq →
    ∃ t, exec (.fabricFrameReceive p true c [q]) s = .next t ∧ (t.port p).rxSeq = (q + 1) % 1024 ∧ (t.port p).winCsym = (s.port p).winCsym + c
      ∧ t.out = .flit p false (((q + 1) % 1024 + 1023) % 1024) (s.port p).credFreed :: s.out ∧ (∀ k, k ≠ p → t.port k = s.port k) ∧ Keeps [.fab, .out] s t) ∧
  (∀ (s : State) (p c : Nat) (l : List Nat), p < s.fab.ports.length → portLive (s.port p).st = true →
    ∃ t, exec (.fabricFrameReceive p false c l) s = .next t ∧ t.port p = { s.port p with rxDiscarding := true }
      ∧ t.out = .flit p true (((s.port p).rxSeq + 1023) % 1024) (s.port p).credFreed :: s.out ∧ Keeps [.fab, .out] s t) ∧
  (∀ (s : State) (p c : Nat) (ok : Bool) (l : List Nat), portLive (s.port p).st = false → exec (.fabricFrameReceive p ok c l) s = .next s) ∧
  (∀ (s : State) (p ack : Nat) (cs : List Nat), p < s.fab.ports.length → portLive (s.port p).st = true → (s.port p).txq = [] → cs.length = 4 → (s.port p).replayRow ≤ 8 →
    (s.port p).credTx.length = 4 →
    ∃ t, exec (.fabricControlFlit p ack false cs 0 0) s = .next t ∧ (t.port p).txAcked = ack ∧ (t.port p).credSeen = cs.map (· % 2 ^ 24)
      ∧ (∀ i, i < 4 → nth (t.port p).credTx i = nth (s.port p).credTx i + (nth cs i + 2 ^ 24 - nth (s.port p).credSeen i) % 2 ^ 24) ∧ Keeps [.fab] s t) ∧
  (∀ (s : State) (p : Nat), p < s.fab.ports.length → portLive (s.port p).st = true → (s.port p).replayRow = 8 →
    ∃ t, exec (.fabricControlFlit p (s.port p).txAcked true [] 0 0) s = .next t ∧ (t.port p).st = .downRuntime) ∧
  (∀ (s : State) (p : Nat) (x : Pkt), p < s.fab.ports.length → (s.port p).txq = [x] → (s.port p).headSince + 100000 ≤ s.tb →
    ∃ t, exec (.fabStallExpiry p) s = .next t ∧ (t.port p).txq = [] ∧ (t.port p).depth = (s.port p).depth - pktBytes x) ∧
  (∀ (s : State) (p : Nat), s.tb < (s.port p).headSince + 100000 → exec (.fabStallExpiry p) s = .next s)

/-- Lanes (14 R366 to R369): a SWAP received is answered by the same command and scheduled in both directions; the second direction's
frame boundary puts lane 8 in the lane's place and records it; RETURN gives the lane its traffic back; one lane over its limit starts a
swap and two take the port down; a qualification that passes sends RETURN. The model's choices it rests on: log 32. -/
def Obligations.LanesSwapAndReturn : Prop :=
  (∀ (s : State) (p l : Nat), p < s.fab.ports.length → l < 8 → (s.port p).st = .up → (s.port p).laneOk.getLsbD 8 = true → (s.port p).swapTx = none →
    (∃ t, exec (.laneSwap p l true) s = .next t ∧ (t.port p).swapTx = some (l, true) ∧ (t.port p).swapRx = some (l, true) ∧ t.out = .lane p l true :: s.out ∧ Keeps [.fab, .out] s t)
    ∧ (∃ t, exec (.laneSwap p l false) s = .next t ∧ (t.port p).swapTx = some (l, true) ∧ (t.port p).swapRx = (s.port p).swapRx ∧ t.out = .lane p l true :: s.out)) ∧
  (∀ (s : State) (p l : Nat), (s.port p).st ≠ .up → ∀ r, exec (.laneSwap p l r) s = .next s) ∧
  (∀ (s : State) (p l : Nat), p < s.fab.ports.length → l < 8 → (s.port p).st = .upSpare → (s.port p).spared = some l → (s.port p).swapTx = none →
    ∃ t, exec (.laneReturn p l true) s = .next t ∧ (t.port p).swapTx = some (l, false) ∧ (t.port p).swapRx = some (l, false) ∧ t.out = .lane p l false :: s.out) ∧
  (∀ (s : State) (p l : Nat), p < s.fab.ports.length → l < 8 → (s.port p).st = .up → (s.port p).laneOk.getLsbD 8 = true → (s.port p).swapTx = none → (s.port p).swapRx = some (l, true) →
    ∃ t, exec (.laneSwapEffective p false) s = .next t ∧ (t.port p).st = .upSpare ∧ (t.port p).spared = some l ∧ (t.port p).swapRx = none
      ∧ (p < s.dmap.fab.length → (nth t.dmap.fab p).spareInUse = true ∧ (nth t.dmap.fab p).st = .upSpare)) ∧
  (∀ (s : State) (p l : Nat), p < s.fab.ports.length → (s.port p).swapTx = some (l, true) → (s.port p).swapRx = some (l, true) →
    ∃ t, exec (.laneSwapEffective p true) s = .next t ∧ t.port p = { s.port p with swapTx := none } ∧ Keeps [.fab] s t) ∧
  (∀ (s : State) (p l : Nat), p < s.fab.ports.length → l < 8 → (s.port p).st = .upSpare → (s.port p).spared = some l → (s.port p).swapTx = none → (s.port p).swapRx = some (l, false) →
    ∃ t, exec (.laneSwapEffective p false) s = .next t ∧ (t.port p).st = .up ∧ (t.port p).spared = none) ∧
  (∀ (s : State) (p l : Nat), p < s.fab.ports.length → l < 8 → (s.port p).st = .up → (s.port p).laneOk.getLsbD 8 = true → (s.port p).swapTx = none → (s.port p).winTb + 50000000 ≤ s.tb →
    (∃ t, exec (.laneBerWindowEnd p [l] false) s = .next t ∧ (t.port p).swapTx = some (l, true) ∧ (t.port p).winTb = s.tb ∧ (t.port p).st = .up ∧ t.out = .lane p l true :: s.out)
    ∧ (∀ m, ∃ t, exec (.laneBerWindowEnd p [l, m] false) s = .next t ∧ (t.port p).st = .downRuntime)
    ∧ (∃ t, exec (.laneBerWindowEnd p [] false) s = .next t ∧ (t.port p).st = .up ∧ (t.port p).winTb = s.tb ∧ (t.port p).replays = sat 8 (s.port p).winReplays ∧ Keeps [.fab] s t)) ∧
  (∀ (s : State) (p l : Nat), p < s.fab.ports.length → (s.port p).outLane = some l → (s.port p).outAt + 780000000 ≤ s.tb → portLive (s.port p).st = true → (s.port p).swapTx = none →
    ∃ t, exec (.laneQualificationEnd p true) s = .next t ∧ (t.port p).swapTx = some (l, false)) ∧
  (∀ (s : State) (p : Nat) (b : Bool), (s.port p).outLane = none → exec (.laneQualificationEnd p b) s = .next s)

/-- Packets at a bridge (14 R374, R376, R377, R387, R388; 11 R291): a WRITE or READ_REQ that its window admits is performed and answered
ACK or READ_RSP, or goes to the row's agents; one the window refuses is answered with the check's code and changes no memory; a
packet for another module goes to the output queue of a live candidate with TTL reduced by 1, and one whose TTL is spent is discarded.
The model's choices it rests on: logs 33, 56. -/
def Obligations.PacketsPerformOrForward : Prop :=
  (∀ (s : State) (port i a : Nat) (p : Pkt), port < 12 → s.fab.bridges.length = 2 → portLive (s.port port).st = true → epIndex s p.dst = some i → 12 ≤ i → i < 15 →
    pktFault { p with type := 1 } = none → bridgeUp s (performer (portBridge port) i) = true → p.prov = false →
    winCheck s p.win p.wepoch (some i) p.src true p.offset p.len = .ok → a = pktAddr s p → accessCode s true a p.len = .ok →
    ∃ t, exec (.fabricWrite port p) s = .next t ∧ t.mem = (memWrite s a p.data).mem ∧ Keeps [.fab, .power, .mem] s t
      ∧ (lastInj t (performer (portBridge port) i)).map (fun x => (x.type, x.status, x.dst, x.src, x.tag)) = some (4, 0, p.src, p.dst, p.tag)) ∧
  (∀ (s : State) (port i a : Nat) (p : Pkt), port < 12 → s.fab.bridges.length = 2 → portLive (s.port port).st = true → epIndex s p.dst = some i → 12 ≤ i → i < 15 →
    pktFault { p with type := 2 } = none → bridgeUp s (performer (portBridge port) i) = true →
    winCheck s p.win p.wepoch (some i) p.src false p.offset p.len = .ok → a = pktAddr s p → accessCode s false a p.len = .ok →
    ∃ t, exec (.fabricReadReq port p) s = .next t ∧ t.mem = s.mem ∧ Keeps [.fab, .power] s t
      ∧ (lastInj t (performer (portBridge port) i)).map (fun x => (x.type, x.status, x.dst, x.data)) = some (3, 0, p.src, memRead s a p.len)) ∧
  (∀ (s : State) (port i : Nat) (p : Pkt) (c : Code), port < 12 → s.fab.bridges.length = 2 → portLive (s.port port).st = true → epIndex s p.dst = some i → i < 15 →
    pktFault { p with type := 1 } = none → bridgeUp s (performer (portBridge port) i) = true →
    winCheck s p.win p.wepoch (some i) p.src true p.offset p.len = c → c ≠ .ok →
    ∃ t, exec (.fabricWrite port p) s = .next t ∧ Keeps [.fab] s t
      ∧ (lastInj t (performer (portBridge port) i)).map (fun x => (x.type, x.status, x.tag)) = some (4, c.val, p.tag)) ∧
  (∀ (s : State) (port i : Nat) (p : Pkt), port < 12 → i < 12 → i < s.rows.length → portLive (s.port port).st = true → epIndex s p.dst = some i →
    pktFault { p with type := 1 } = none → bridgeUp s (portBridge port) = true → winCheck s p.win p.wepoch (some i) p.src true p.offset p.len = .ok →
    ∃ t, exec (.fabricWrite port p) s = .next t ∧ (t.row i).arrivals.length = (s.row i).arrivals.length + 1 ∧ Keeps [.fab, .rows] s t ∧ RowsBut i s t) ∧
  (∀ (s : State) (port c : Nat) (p : Pkt) (e : Nat), port < 12 → portLive (s.port port).st = true → s.fab.epBase = some e → epIndex s p.dst = none → malformed p = false →
    routeOf s (portBridge port) p = some c → c < 6 → 6 * portBridge port + c < s.fab.ports.length → portLive (s.port (6 * portBridge port + c)).st = true →
    (s.port (6 * portBridge port + c)).txq = [] → (∀ v, v < 4 → 65536 ≤ nth (s.port (6 * portBridge port + c)).credTx v) →
    (1 < p.ttl → p.len ≤ 4096 → ∃ t, exec (.fabricPacketForward port p) s = .next t ∧ t.out = .forward (6 * portBridge port + c) { p with ttl := p.ttl - 1 } :: s.out ∧ Keeps [.fab, .out] s t)) ∧
  (∀ (s : State) (port c : Nat) (p : Pkt) (e : Nat), port < 12 → port < s.fab.ports.length → portLive (s.port port).st = true → s.fab.epBase = some e → epIndex s p.dst = none → malformed p = false →
    routeOf s (portBridge port) p = some c → c < 6 → p.ttl ≤ 1 → ∃ t, exec (.fabricPacketForward port p) s = .next t ∧ (∀ k, (t.port k).txq = (s.port k).txq)) ∧
  (∀ (s : State) (port : Nat) (p : Pkt), port < 12 → portLive (s.port port).st = false → exec (.fabricPacketForward port p) s = .next s ∧ exec (.fabricWrite port p) s = .next s)

/-- Responses and timeouts (14 R383, R384, R393; 18 R484, R490): a READ_RSP or ACK completes the tracked request it answers, and is LATE
and counted where there is none; a request that waited for the limit of its level completes with FAB_TIMEOUT. -/
def Obligations.ResponsesCompleteRequests : Prop :=
  (∀ (s : State) (port i c : Nat) (p : Pkt) (u : Tracked), AtEndpoint s port i { p with type := 4 } → findTracked s (portBridge port) p = some (c, u) → u.owner = 0 →
    (s.bridge c).fenced = [] → ∃ t, exec (.fabricAck port p) s = .next t ∧ (t.bridge c).tracked = (s.bridge c).tracked.erase u ∧ Keeps [.fab] s t
      ∧ t.binding u.arg = (s.binding u.arg).map (fun x => { x with left := x.left - 1, badCode := if x.badCode = 0 then p.status else x.badCode })) ∧
  (∀ (s : State) (port i c : Nat) (p : Pkt) (u : Tracked), AtEndpoint s port i { p with type := 3 } → findTracked s (portBridge port) p = some (c, u) → u.owner = 8 →
    (s.bridge c).fenced = [] → ∃ t, exec (.fabricReadRsp port p) s = .next t ∧ (t.bridge c).tracked = (s.bridge c).tracked.erase u ∧ Keeps [.fab] s t) ∧
  (∀ (s : State) (port i : Nat) (p : Pkt), AtEndpoint s port i { p with type := 3 } → findTracked s (portBridge port) p = none →
    ∃ t, exec (.fabricReadRsp port p) s = .next t ∧ (t.bridge (portBridge port)).lateCount = (s.bridge (portBridge port)).lateCount + 1
      ∧ t.mem = s.mem ∧ t.rows = s.rows) ∧
  (∀ (s : State) (port i : Nat) (p : Pkt), AtEndpoint s port i { p with type := 4 } → findTracked s (portBridge port) p = none →
    ∃ t, exec (.fabricAck port p) s = .next t ∧ (t.bridge (portBridge port)).lateCount = (s.bridge (portBridge port)).lateCount + 1
      ∧ t.mem = s.mem ∧ t.rows = s.rows) ∧
  (∀ (s : State) (b tag : Nat) (u : Tracked), b < s.fab.bridges.length → (s.bridge b).tracked.find? (fun t => t.tag == tag && decide (t.tb + t.limit ≤ s.tb)) = some u →
    u.owner = 8 → (s.bridge b).fenced = [] → (s.chan (eventChan s)).rcv ≠ .fabricPeer → ∃ t, exec (.fabRequestTimeout b tag) s = .next t ∧ (t.bridge b).tracked = (s.bridge b).tracked.erase u ∧ t.rows = s.rows ∧ t.mem = s.mem) ∧
  (∀ (s : State) (b tag : Nat), (∀ u ∈ (s.bridge b).tracked, s.tb < u.tb + u.limit) → exec (.fabRequestTimeout b tag) s = .next s)

/-- Requests for this module's services (14 R394, R395; 15 R416; 17 R465; 19 R530, R532; 20 R534): FETCH takes one of 64 queue places and
is refused FAB_QUEUE_FULL past them; MSG writes its channel; TOKEN is taken once, by its group, within the ceiling; POISON keeps its
verdict; WITREC hands its items to the Witness unit; and at a port that is not live nothing happens.
The model's choices it rests on: log 49. -/
def Obligations.ServicesTakeTheirPackets : Prop :=
  (∀ (s : State) (port i : Nat) (p : Pkt), AtEndpoint s port i { p with type := 6 } → (i = 12 ∨ i = 13) → s.fetch.bridges.length = 2 →
    (countIf (fun c => !c.isLocal) (s.fetchU (i - 12)).queue < 64 → ∃ t, exec (.fabricFetch port p) s = .next t
      ∧ (t.fetchU (i - 12)).queue.length = (s.fetchU (i - 12)).queue.length + 1 ∧ (t.fetchU (i - 12)).queue.getLast?.map (fun f => (f.src, f.entries)) = some (p.src + 1, p.data.drop 64)
      ∧ answered t (i - 12) = some (4, 0, p.src, p.tag) ∧ Keeps [.fab, .fetch] s t)
    ∧ (64 ≤ countIf (fun c => !c.isLocal) (s.fetchU (i - 12)).queue → ∃ t, exec (.fabricFetch port p) s = .next t
      ∧ answered t (i - 12) = some (4, Code.fabQueueFull.val, p.src, p.tag) ∧ Keeps [.fab] s t)) ∧
  (∀ (s : State) (port i : Nat) (p : Pkt), AtEndpoint s port i { p with type := 7 } → p.win = 0xFFFF → p.wepoch = 0 → p.offset < 1024 →
    (mbxCheck s p.offset (0x4000 + p.src / 16 % 4096) = .ok → (s.chan p.offset).rcv = .mgmtCore → ∃ t, exec (.fabricMsg port p) s = .next t
      ∧ t.chan p.offset = (s.chan p.offset).accept p.data (0x4000 + p.src / 16 % 4096) s.tb ∧ answered t (portBridge port) = some (4, 0, p.src, p.tag) ∧ Keeps [.fab, .mbx] s t)
    ∧ (∀ c, mbxCheck s p.offset (0x4000 + p.src / 16 % 4096) = c → c ≠ .ok → ∃ t, exec (.fabricMsg port p) s = .next t
      ∧ answered t (portBridge port) = some (4, c.val, p.src, p.tag) ∧ Keeps [.fab] s t)) ∧
  (∀ (s : State) (port : Nat) (p : Pkt), AtEndpoint s port 14 { p with type := 8 } → field p.data 2 2 < 2 → field p.data 0x14 12 = 0 →
    (s.cap.group ≠ some (field p.data 0 2) → ∃ t, exec (.fabricToken port p) s = .next t ∧ answered t (portBridge port) = some (4, Code.unitAbsent.val, p.src, p.tag) ∧ Keeps [.fab] s t)
    ∧ (s.cap.group = some (field p.data 0 2) → mget s.cap.seenTseq p.src = some (field p.data 4 4) →
        ∃ t, exec (.fabricToken port p) s = .next t ∧ answered t (portBridge port) = some (4, 0, p.src, p.tag) ∧ Keeps [.fab] s t)
    ∧ (s.cap.group = some (field p.data 0 2) → mget s.cap.seenTseq p.src ≠ some (field p.data 4 4) → field p.data 8 4 ≠ 0 → s.cap.reconTb = none → 1400000 < s.cap.share + field p.data 8 4 →
        ∃ t, exec (.fabricToken port p) s = .next t ∧ answered t (portBridge port) = some (4, Code.capacityShort.val, p.src, p.tag) ∧ Keeps [.fab] s t)
    ∧ (s.cap.group = some (field p.data 0 2) → mget s.cap.seenTseq p.src ≠ some (field p.data 4 4) → field p.data 8 4 = 0 → s.cap.share ≤ 1400000 →
        ∃ t, exec (.fabricToken port p) s = .next t ∧ t.cap.share = s.cap.share ∧ mget t.cap.seenTseq p.src = some (field p.data 4 4)
          ∧ (∀ x ∈ t.cap.roster, x.ep = p.src / 16 * 16 → x.slack = field p.data 0x0C 4 ∧ x.ask = bit (field p.data 2 2) 0) ∧ Keeps [.fab, .cap] s t)) ∧
  (∀ (s : State) (port i : Nat) (p : Pkt), AtEndpoint s port i { p with type := 9 } → field p.data 4 1 ≤ 1 → field p.data 5 11 = 0 →
    ∃ t, exec (.fabricPoison port p) s = .next t ∧ (t.bridge (performer (portBridge port) i)).verdicts.getLast? = some (field p.data 0 4, if field p.data 4 1 = 0 then .confirmed else .poisoned, s.tb)) ∧
  (∀ (s : State) (port : Nat) (p : Pkt), AtEndpoint s port 15 { p with type := 0xA } → p.len % 24 = 0 → ∃ t, exec (.fabricWitrec port p) s = .next t
      ∧ t.wit.inbox.length = s.wit.inbox.length + p.len / 24 ∧ t.wit.inbox.take s.wit.inbox.length = s.wit.inbox ∧ Keeps [.fab, .wit] s t) ∧
  (∀ (s : State) (port : Nat) (p : Pkt), portLive (s.port port).st = false → ∀ c ∈ [Instr.fabricReadReq port p, .fabricReadRsp port p, .fabricAck port p, .fabricFetch port p,
    .fabricMsg port p, .fabricToken port p, .fabricPoison port p, .fabricWitrec port p], exec c s = .next s)

/-- Routes and sends (14 R379 to R382, R386, R391, R393; 17 R464): every port's injection step follows its depth; a commit that is due
switches both bridges at the tick; the old version is freed after 10 µs at zero; a send starts once the reservations over its ranges were
granted, and with every WRITE answered it ends, its binding halted by a bad answer. -/
def Obligations.RoutesSwitchAndSendsComplete : Prop :=
  (∀ s : State, ∃ t, exec .injectionStepEval s = .next t ∧ Keeps [.fab] s t ∧ t.fab.ports.length = s.fab.ports.length ∧ t.fab.bridges = s.fab.bridges
    ∧ (∀ p, p < s.fab.ports.length → t.port p = { s.port p with throt := throtOf (s.bridge (portBridge p)).q (s.port p).depth })) ∧
  (∀ s : State, s.fab.bridges.length = 2 → (s.bridge 0).armedAt.any (fun t => decide (t ≤ s.tb)) = true → (s.bridge 1).armedAt.isSome = true →
    ∃ t, exec .routeCommitTick s = .next t ∧ t.fab.routeGen = (s.fab.routeGen + 1) % 2 ^ 32
      ∧ ∀ b, b < 2 → (t.bridge b).act = !(s.bridge b).act ∧ (t.bridge b).other = .draining ∧ (t.bridge b).armedAt = none ∧ (t.bridge b).commitTb = s.tb
        ∧ (t.bridge b).v0 = (s.bridge b).v0 ∧ (t.bridge b).v1 = (s.bridge b).v1) ∧
  (∀ s : State, (∀ x ∈ s.fab.bridges, x.armedAt.any (fun t => decide (t ≤ s.tb)) = false) → exec .routeCommitTick s = .next s) ∧
  (∀ (s : State) (b z : Nat), b < s.fab.bridges.length → (s.bridge b).other = .draining → (s.bridge b).zeroSince = some z → z + 500 ≤ s.tb →
    ∃ t, exec (.routeVersionFree b) s = .next t ∧ t.bridge b = { s.bridge b with other := .free, inflight := 0, zeroSince := none } ∧ Keeps [.fab] s t) ∧
  (∀ (s : State) (b : Nat), b < s.fab.bridges.length → (s.bridge b).other = .draining → (s.bridge b).zeroSince = none → (s.bridge b).commitTb + (s.bridge b).drainLim ≤ s.tb →
    ∃ t, exec (.routeVersionFree b) s = .next t ∧ (t.bridge b).other = .free ∧ (t.bridge b).drainExpired = true) ∧
  (∀ (s : State) (b : Nat), (s.bridge b).other ≠ .draining → exec (.routeVersionFree b) s = .next s) ∧
  (∀ (s : State) (n : Nat) (x : Binding), s.binding n = some x → x.halted = false → x.sending = false → x.row < s.rows.length → bridgeUp s x.bridge = true →
    (s.row x.row).watch.filter (·.bind == n) ≠ [] → (∀ w ∈ (s.row x.row).watch, w.bind = n → w.seen = true) →
    countIf (fun p => p.2.sending && p.2.bridge == x.bridge) s.fab.bindings < 16 →
    ∃ t, exec (.bindingSendStart n) s = .next t ∧ (t.binding n).map (·.sending) = some true ∧ (∀ w ∈ (t.row x.row).watch, w.bind = n → w.seen = false)
      ∧ (t.row x.row).arrivals.length = (s.row x.row).arrivals.length + 1 ∧ RowsBut x.row s t ∧ Keeps [.fab, .rows] s t) ∧
  (∀ (s : State) (n : Nat) (x : Binding), s.binding n = some x → x.sending = true → x.left = 0 → sendReads s n = false → notifyOut s n = false → mget s.fab.bindNext n = none →
    (x.badCode = 0 → x.tagBad = false → x.tags = [] → x.notify = none → ∃ t, exec (.bindingSendComplete n) s = .next t ∧ t.binding n = some { x with sending := false } ∧ Keeps [.fab] s t)
    ∧ (x.badCode ≠ 0 → ∃ t, exec (.bindingSendComplete n) s = .next t ∧ t.binding n = some { x with sending := false, halted := true })
    ∧ (∀ d w, x.badCode = 0 → x.tagBad = false → x.tags = [] → x.notify = some (d, w) → (s.bridge x.bridge).tracked = [] → (s.bridge x.bridge).fenced = [] → s.fab.epBase ≠ none → x.bridge < s.fab.bridges.length →
        ∃ t, exec (.bindingSendComplete n) s = .next t ∧ (lastInj t x.bridge).map (fun p => (p.type, p.dst, p.data)) = some (5, d, leBytes 8 w) ∧ Keeps [.fab] s t)) ∧
  (∀ (s : State) (n : Nat), s.binding n = none → exec (.bindingSendStart n) s = .next s ∧ exec (.bindingSendComplete n) s = .next s)

/-- Ports (02 R50; 05 R136 to R138; 14 R396; 18 R507): a loss takes the port down and starts its 1 s; then the port retrains; nine good
lanes bring it up, one bad lane beside a good lane 8 brings it up with a spare, and anything else leaves it down for 10 s; PRESENT_N high
stores the pin and takes a live port down. The model's choices it rests on: log 32. -/
def Obligations.PortsLoseAndRegainTheirLinks : Prop :=
  (∀ (s : State) (p : Nat), p < s.fab.ports.length → (portLive (s.port p).st = true ∨ (s.port p).st = .retraining) →
    ∃ t, exec (.portLinkLoss p) s = .next t ∧ (t.port p).st = .downRuntime ∧ (t.port p).downAt = some (s.tb + 50000000) ∧ (t.port p).spared = none ∧ (t.port p).txq = []) ∧
  (∀ (s : State) (p : Nat), portLive (s.port p).st = false → (s.port p).st ≠ .retraining → exec (.portLinkLoss p) s = .next s) ∧
  (∀ (s : State) (p d : Nat), p < s.fab.ports.length → ((s.port p).st = .downRuntime ∨ (s.port p).st = .down) → (s.port p).downAt = some d → d ≤ s.tb →
    nth s.power.presentN p = false → (s.bridge (portBridge p)).inReset = false → (s.bridge (portBridge p)).out = false →
    ∃ t, exec (.portRetrainStart p) s = .next t ∧ t.port p = { s.port p with st := .retraining, downAt := none } ∧ (∀ k, k ≠ p → t.port k = s.port k) ∧ Keeps [.fab] s t) ∧
  (∀ (s : State) (p d : Nat), (s.port p).downAt = some d → s.tb < d → exec (.portRetrainStart p) s = .next s) ∧
  (∀ (s : State) (p : Nat) (l : BitVec 9), p < s.fab.ports.length → (s.port p).st = .retraining →
    (portResult l = (.up, none) → ∃ t, exec (.portQualificationEnd p l true) s = .next t ∧ (t.port p).st = .up ∧ (t.port p).laneOk = l ∧ (t.port p).spared = none ∧ (t.port p).winTb = s.tb)
    ∧ (∀ k, portResult l = (.upSpare, some k) → ∃ t, exec (.portQualificationEnd p l true) s = .next t ∧ (t.port p).st = .upSpare ∧ (t.port p).laneOk = l ∧ (t.port p).spared = some k)
    ∧ ((portResult l).1 = .down → ∃ t, exec (.portQualificationEnd p l true) s = .next t ∧ (t.port p).st = .down ∧ (t.port p).downAt = some (s.tb + 500000000))
    ∧ (∃ t, exec (.portQualificationEnd p l false) s = .next t ∧ (t.port p).st = .down ∧ (t.port p).laneOk = 0 ∧ (t.port p).downAt = some (s.tb + 500000000))) ∧
  (portResult 0x1FF = (.up, none) ∧ portResult 0x0FF = (.up, none) ∧ (∀ k : Fin 8, portResult (0x1FF ^^^ (1#9 <<< k.val)) = (.upSpare, some k.val) ∧ portResult (0x0FF ^^^ (1#9 <<< k.val)) = (.down, none))) ∧
  (∀ (s : State) (p : Nat) (l : BitVec 9) (b : Bool), (s.port p).st ≠ .retraining → exec (.portQualificationEnd p l b) s = .next s) ∧
  (∀ (s : State) (p : Nat) (h : Bool), portLive (s.port p).st = false → (s.port p).st ≠ .retraining →
    ∃ t, exec (.presentNChange p h) s = .next t ∧ t.power.presentN = s.power.presentN.set p h ∧ Keeps [.power] s t) ∧
  (∀ (s : State) (p : Nat), p < s.fab.ports.length → portLive (s.port p).st = true → ∃ t, exec (.presentNChange p true) s = .next t ∧ (t.port p).st = .downRuntime
    ∧ t.power.presentN = s.power.presentN.set p true)

/-! The Chavi link, mailboxes and rings. -/

/-- Messages (15 R400, R407 to R409, R411, R414, R415, R419, R420, R600): a send by Chavi or J3 passes the checks of R409 and is held with its
MSEQ, or is answered with the check's code and changes no channel; DONE and an ACK write of the message's MSEQ take it in acknowledged
mode; a read of MBX_TAKE takes it in streaming mode; a message for a fabric peer is sent again each 1 ms.
The model's choices it rests on: log 34. -/
def Obligations.MessagesAreHeldAndTaken : Prop :=
  (∀ (s : State) (h : ChaviHdr) (n : Nat) (m : List Byte), PlainLink s h → HostQuiet s →
    (mbxCheck s n 0x1000 = .ok → (s.chan n).rcv = .mgmtCore → ∃ t, exec (.mbxSend h n m) s = .next t ∧ t.chan n = (s.chan n).accept m 0x1000 s.tb
      ∧ HostAnswered s t h (((s.chan n).mseq + 1) % 256) 64 .ok [] ∧ Keeps [.mbx, .chavi, .out] s t)
    ∧ (∀ c, mbxCheck s n 0x1000 = c → c ≠ .ok → ∃ t, exec (.mbxSend h n m) s = .next t ∧ HostAnswered s t h n 64 c [] ∧ Keeps [.chavi, .out] s t)) ∧
  (∀ (s : State) (h : ChaviHdr) (n q k : Nat), PlainLink s h → HostQuiet s → s.boot.mbxMode = false → secureEnd s ≤ n → n < nChans s → (s.chan n).enabled = true →
    (s.chan n).rcv = .chaviHost → (s.chan n).full = true → q = (s.chan n).mseq →
    ∃ t, exec (.mbxDone h n q k) s = .next t ∧ t.chan n = { s.chan n with full := false, ackv := true, ackSeq := q, ackCode := k }
      ∧ HostAnswered s t h (n + 2 ^ 32 * q) 0 .ok [] ∧ Keeps [.mbx, .chavi, .out] s t) ∧
  (∀ (s : State) (mac n : Nat) (m : List Byte), j3Works s = true → alive s = true → mbxCheck s n (0x3000 + mac % 0x1000) = .ok → (s.chan n).rcv = .mgmtCore →
    ∃ t, exec (.j3Send mac n m) s = .next t ∧ t.chan n = (s.chan n).accept m (0x3000 + mac % 0x1000) s.tb ∧ t.out = .j3 2 n 0 0 (((s.chan n).mseq + 1) % 256) [] mac :: s.out ∧ Keeps [.mbx, .out] s t) ∧
  (∀ (s : State) (mac n q k : Nat), j3Works s = true → alive s = true → s.boot.mbxMode = false → secureEnd s ≤ n → n < nChans s → (s.chan n).enabled = true →
    (s.chan n).rcv = .mgmtNet → (s.chan n).full = true → q = (s.chan n).mseq →
    ∃ t, exec (.j3Done mac n q k) s = .next t ∧ t.chan n = { s.chan n with full := false, ackv := true, ackSeq := q, ackCode := k } ∧ t.out = .j3 2 n 0 0 q [] mac :: s.out ∧ Keeps [.mbx, .out] s t) ∧
  (∀ (s : State) (n q k : Nat), alive s = true → s.boot.mbxMode = false → (s.chan n).full = true →
    (q = (s.chan n).mseq → ∃ t, exec (.mbxAckWrite n q k) s = .next t ∧ t.chan n = { s.chan n with full := false, ackv := true, ackSeq := q, ackCode := k } ∧ (∀ m, m ≠ n → t.chan m = s.chan m) ∧ Keeps [.mbx] s t)
    ∧ (q ≠ (s.chan n).mseq → exec (.mbxAckWrite n q k) s = .next s)) ∧
  (∀ (s : State) (n : Nat), alive s = true → n < nChans s →
    (s.boot.mbxMode = true → ∃ t, exec (.mbxTakeRead n) s = .next t ∧ t.chan n = { s.chan n with full := false } ∧ (∀ m, m ≠ n → t.chan m = s.chan m) ∧ Keeps [.mbx, .out] s t)
    ∧ (s.boot.mbxMode = false → ∃ t, exec (.mbxTakeRead n) s = .next t ∧ Keeps [.out] s t)) ∧
  (∀ (s : State) (n : Nat), alive s = true → (s.chan n).full = true → (s.chan n).rcv = .fabricPeer → (s.chan n).peerTb + 50000 ≤ s.tb → s.fab.epBase ≠ none → 0 < s.fab.bridges.length →
    (s.bridge 0).tracked.length < 8192 → ∃ t, exec (.mbxPeerResend n) s = .next t ∧ (lastInj t 0).map (fun p => (p.type, p.dst, p.offset, p.data)) = some (7, (s.chan n).rdest, (s.chan n).rchan, (s.chan n).msg)
      ∧ Keeps [.mbx, .fab] s t) ∧
  (∀ (s : State) (n : Nat), s.tb < (s.chan n).peerTb + 50000 → exec (.mbxPeerResend n) s = .next s)

/-- The Chavi link (15 R398 to R401, R404, R598; 21 R562): frames in order advance SEQ and a bad one is NAKed, the ninth replay taking the
link down; a CREDIT sets what the device holds; the link comes up with J4_OK and its loss ends the session; a packet that fails its CRC is
answered and changes nothing else, and one without ENC in a session ends the session.
The model's choices it rests on: logs 34, 59. -/
def Obligations.ChaviLinkKeepsItsOrder : Prop :=
  (∀ (s : State) (a : Nat), cageOn s = true → ∃ t, exec (.chaviFrameReceive true false s.chavi.rxSeq false a) s = .next t ∧ t.chavi.rxSeq = (s.chavi.rxSeq + 1) % 4096
      ∧ t.chavi.replays = 0 ∧ t.chavi.up = s.chavi.up ∧ Keeps [.chavi] s t) ∧
  (∀ (s : State) (i k : Bool) (q a : Nat), cageOn s = true → s.chavi.replays < 8 → ∃ t, exec (.chaviFrameReceive false i q k a) s = .next t ∧ t.chavi.rxSeq = s.chavi.rxSeq
      ∧ t.chavi.replays = s.chavi.replays + 1 ∧ t.out = .chaviNak ((s.chavi.rxSeq + 4095) % 4096) :: s.out ∧ Keeps [.chavi, .out] s t) ∧
  (∀ (s : State) (i k : Bool) (q a : Nat), cageOn s = true → s.chavi.up = true → s.chavi.replays = 8 → ∃ t, exec (.chaviFrameReceive false i q k a) s = .next t ∧ t.chavi.up = false
      ∧ t.chavi.rxSeq = s.chavi.rxSeq ∧ t.sec.session = 0) ∧
  (∀ (s : State) (h : ChaviHdr) (f : Nat), cageOn s = true → h.crcOk = true → h.layoutOk = true →
    (s.chavi.up = false → ∃ t, exec (.credit h f) s = .next t ∧ t.chavi = { s.chavi with creditRx := f % 2 ^ 32, creditTb := s.tb, credSeen := true } ∧ Keeps [.chavi] s t)
    ∧ (∃ t, exec (.credit h f) s = .next t ∧ t.chavi.creditRx = f % 2 ^ 32 ∧ t.chavi.creditTb = s.tb ∧ Keeps [.chavi, .sec, .out] s t)) ∧
  (∀ (s : State) (h : ChaviHdr) (f : Nat), h.crcOk = false → exec (.credit h f) s = .next s) ∧
  (∀ s : State, s.chavi.up = false → s.chavi.credSeen = true → cageOn s = true → ∃ t, exec .chaviLinkUp s = .next t ∧ t.chavi.up = true ∧ t.power.j4Ok = true ∧ t.mbx = s.mbx) ∧
  (∀ s : State, s.chavi.credSeen = false → exec .chaviLinkUp s = .next s) ∧
  (∀ (s : State), alive s = true → s.chavi.up = true → (∃ t, exec (.chaviLinkDown 0) s = .next t ∧ t.chavi.up = false ∧ t.chavi.txq = [] ∧ t.chavi.waiting = [] ∧ t.sec.session = 0)
    ∧ (s.chavi.creditTb + 500 ≤ s.tb → ∃ t, exec (.chaviLinkDown 1) s = .next t ∧ t.chavi.up = false) ∧ (s.tb < s.chavi.creditTb + 500 → exec (.chaviLinkDown 1) s = .next s)
    ∧ (∃ t, exec (.chaviLinkDown 2) s = .next t ∧ t.chavi.up = false ∧ t.power.j4Ok = false)) ∧
  (∀ (s : State) (u f : Bool), ∃ t, exec (.mgmtPortLinkChange u f) s = .next t ∧ t.power = { s.power with j3Up := u && f } ∧ Keeps [.power] s t) ∧
  (∀ (s : State) (h : ChaviHdr) (n : Nat) (m : List Byte), linkUp s = true → s.sec.session = 0 → h.crcOk = false → h.enc = false →
    ∃ t, exec (.mbxSend h n m) s = .next t ∧ HostAnswered s t h n 64 .ecrcError [] ∧ Keeps [.chavi, .out] s t) ∧
  (∀ (s : State) (h : ChaviHdr) (n : Nat) (m : List Byte), linkUp s = true → s.sec.session ≠ 0 → h.crcOk = true → h.layoutOk = true → h.enc = false →
    ∃ t, exec (.mbxSend h n m) s = .next t ∧ t.sec.session = 0 ∧ t.sec.tamper = true)

/-- The direct window and the host's windows (15 R402, R403, R433; 22 R571): DW_READ returns the words, a failed one as 0, and has no
side effect; HWRITE and HREAD through a window whose HOME is a bridge act on memory and return; one for a row waits at the row's agents;
one that the window refuses is answered with the check's code and changes no memory. The model's choices it rests on: log 34. -/
def Obligations.HostWindowsReachMemory : Prop :=
  (∀ (s : State) (h : ChaviHdr) (o n : Nat) (b : List Nat), PlainLink s h → o % 8 = 0 → n % 8 = 0 → 8 ≤ n → n ≤ 256 →
    ∃ t, exec (.dwRead h o n b) s = .next t ∧ HostAnswered s t h o 0 .ok (dwData s o n b) ∧ Keeps [.chavi, .out] s t) ∧
  (∀ (s : State) (h : ChaviHdr) (o n : Nat) (b : List Nat), PlainLink s h → (o % 8 ≠ 0 ∨ n % 8 ≠ 0 ∨ n < 8 ∨ 256 < n) →
    ∃ t, exec (.dwRead h o n b) s = .next t ∧ HostAnswered s t h o 0 .fabMalformed [] ∧ Keeps [.chavi, .out] s t) ∧
  (∀ (s : State) (o i : Nat), i < 32 → dwData s o 8 [0] = leBytes 8 0 ∧ (dwData s o 256 [i]).drop (8 * i) = leBytes 8 0 ++ (dwData s o 256 [i]).drop (8 * i + 8)) ∧
  (∀ (s : State) (h : ChaviHdr) (w o e a : Nat) (l : List Byte) (x : Window), PlainLink s h → 1 ≤ l.length → l.length ≤ 4096 → winCheck s w e none 0xFFFF true o l.length = .ok → mget s.fab.windows w = some x →
    12 ≤ x.home → bridgeUp s (x.home - 12) = true → a = x.base + o → accessCode s true a l.length = .ok →
    ∃ t, exec (.hwrite h w o e l) s = .next t ∧ t.mem = (memWrite s a l).mem ∧ HostAnswered s t h (o + 2 ^ 40 * w) l.length .ok [] ∧ Keeps [.mem, .power, .chavi, .out] s t) ∧
  (∀ (s : State) (h : ChaviHdr) (w o e : Nat) (l : List Byte) (x : Window), PlainLink s h → 1 ≤ l.length → l.length ≤ 4096 → winCheck s w e none 0xFFFF true o l.length = .ok → mget s.fab.windows w = some x →
    x.home < 12 → x.home < s.rows.length →
    ∃ t, exec (.hwrite h w o e l) s = .next t ∧ (t.row x.home).arrivals.length = (s.row x.home).arrivals.length + 1 ∧ t.chavi.hwSeq = s.chavi.hwSeq + 1 ∧ RowsBut x.home s t ∧ Keeps [.rows, .chavi, .out] s t) ∧
  (∀ (s : State) (h : ChaviHdr) (w o e : Nat) (l : List Byte) (c : Code), PlainLink s h → 1 ≤ l.length → l.length ≤ 4096 → winCheck s w e none 0xFFFF true o l.length = c → c ≠ .ok →
    ∃ t, exec (.hwrite h w o e l) s = .next t ∧ HostAnswered s t h (o + 2 ^ 40 * w) l.length c [] ∧ Keeps [.chavi, .out] s t) ∧
  (∀ (s : State) (h : ChaviHdr) (w o e n a : Nat) (x : Window), PlainLink s h → 1 ≤ n → n ≤ 16 → winCheck s w e none 0xFFFF false o (256 * n) = .ok → mget s.fab.windows w = some x →
    12 ≤ x.home → bridgeUp s (x.home - 12) = true → a = x.base + o → accessCode s false a (256 * n) = .ok →
    ∃ t, exec (.hread h w o e n) s = .next t ∧ HostAnswered s t h (o + 2 ^ 40 * w + 2 ^ 52 * n) 0 .ok (memRead s a (256 * n)) ∧ Keeps [.power, .chavi, .out] s t)

/-- Doorbells and timers of the ring engine (15 R424, R428, R430, R431; 18 R488, R489): REQ_TAIL sets PI, REQ_ADD adds to it, CPL_HEAD sets
CCI; an index out of range, an unknown ring and a fabric doorbell away from endpoint 12 are refused and change no ring; a request that
outlives its TMO leaves the outstanding table with an error completion; a job that times out leaves no outstanding request.
The model's choices it rests on: log 34. -/
def Obligations.DoorbellsAndRequestTimers : Prop :=
  (∀ (s : State) (h : ChaviHdr) (n v : Nat) (g : RqRing), BellOk s h n g → v < 65536 → dbInRange g 0 v = true →
    ∃ t, exec (.reqTail (.chavi h) n v 0) s = .next t ∧ t.ring n = some { g with pi := v } ∧ HostAnswered s t h 0 8 .ok [] ∧ Keeps [.rings, .chavi, .out, .power] s t) ∧
  (∀ (s : State) (h : ChaviHdr) (n v : Nat) (g : RqRing), BellOk s h n g → v < 65536 → dbInRange g 1 v = true →
    ∃ t, exec (.reqAdd (.chavi h) n v 0) s = .next t ∧ t.ring n = some { g with pi := (g.pi + v) % 65536 } ∧ HostAnswered s t h 0 8 .ok [] ∧ Keeps [.rings, .chavi, .out, .power] s t) ∧
  (∀ (s : State) (h : ChaviHdr) (n v : Nat) (g : RqRing), BellOk s h n g → v < 65536 → dbInRange g 2 v = true →
    ∃ t, exec (.cplHead (.chavi h) n v 0) s = .next t ∧ t.ring n = some { g with cci := v } ∧ HostAnswered s t h 0 8 .ok [] ∧ Keeps [.rings, .chavi, .out] s t) ∧
  (∀ (s : State) (h : ChaviHdr) (n v : Nat) (g : RqRing), BellOk s h n g → v < 65536 → dbInRange g 0 v = false → ∃ t, exec (.reqTail (.chavi h) n v 0) s = .next t
    ∧ HostAnswered s t h 0 8 .doorbellRange [] ∧ Keeps [.chavi, .out] s t) ∧
  (∀ (s : State) (h : ChaviHdr) (n v r : Nat), PlainLink s h → HostQuiet s → s.boot.st = .ready → n < 65536 → s.ring n = none → v < 65536 →
    ∃ t, exec (.reqAdd (.chavi h) n v r) s = .next t ∧ HostAnswered s t h 0 8 .ringUnknown [] ∧ Keeps [.chavi, .out] s t) ∧
  (∀ (s : State) (port i n v r : Nat) (p : Pkt), AtEndpoint s port i { p with type := 5, len := 8, data := leBytes 8 (bellWord 0 n v r) } → i ≠ 12 → s.power.trip = none →
    ∃ t, exec (.reqTail (.fabric port p) n v r) s = .next t ∧ answered t (performer (portBridge port) i) = some (4, Code.doorbellDenied.val, p.src, p.tag) ∧ Keeps [.fab] s t) ∧
  (∀ (s : State) (n i : Nat) (g : RqRing) (q : Req), s.ring n = some g → g.out[i]? = some q → s.rings.up = true → q.tmo ≠ 0 → q.popTb + q.tmo ≤ s.tb →
    ∃ t, exec (.reqTimeout n i) s = .next t ∧ (t.ring n).map (·.out) = some (g.out.eraseIdx i)
      ∧ (g.failed = false → g.held = [] → g.cqChan = none → cplFull s n g = false → (t.ring n).map (·.cpi) = some ((g.cpi + 1) % 65536))) ∧
  (∀ (s : State) (n i : Nat) (g : RqRing) (q : Req), s.ring n = some g → g.out[i]? = some q → s.tb < q.popTb + q.tmo → exec (.reqTimeout n i) s = .next s) ∧
  (∀ (s : State) (j d : Nat), mget s.gw.jobAt j = some d → d ≤ s.tb → s.rings.up = true →
    ∃ t, exec (.jobTimeout j) s = .next t ∧ mget t.gw.jobAt j = none ∧ j ∈ t.gw.jobExpired ∧ ∀ n g, t.ring n = some g → ∀ q ∈ g.out, q.job ≠ j) ∧
  (∀ (s : State) (j : Nat), mget s.gw.jobAt j = none → exec (.jobTimeout j) s = .next s)

/-! Gwynpin's commands. -/

/-- How commands are taken and answered (16 R438 to R441): one that finds Gwynpin not serving, eight in progress, or its object held
waits; one that fails a check of R440 is answered with its code and changes nothing else; in streaming mode the take is made at the start,
in acknowledged mode the ACK carries the code; a reply that found its channel FULL is written again each 1 ms and abandoned after 1 s.
The model's choices it rests on: logs 35, 68. -/
def Obligations.CommandsWaitAreRefusedOrAnswered : Prop :=
  (∀ (s : State) (h : CmdHdr) (r st b l : Nat), alive s = true → (gwServes s = false ∨ 8 ≤ s.gw.cmds.length) →
    exec (.rowPower h r st) s = .next (s.modGw (fun g => { g with waiting := g.waiting ++ [(objRow r, .rowPower h r st)] }))
    ∧ exec (.memClaim h b l) s = .next (s.modGw (fun g => { g with waiting := g.waiting ++ [(objDevice, .memClaim h b l)] }))
    ∧ exec (.routeCommit h b l) s = .next (s.modGw (fun g => { g with waiting := g.waiting ++ [(objRoutes, .routeCommit h b l)] }))) ∧
  (∀ (s : State) (h : CmdHdr) (r st : Nat) (k : Cmd), alive s = true → k ∈ s.gw.cmds → k.obj = objRow r →
    exec (.rowPower h r st) s = .next (s.modGw (fun g => { g with waiting := g.waiting ++ [(objRow r, .rowPower h r st)] }))) ∧
  (∀ (s : State) (h : CmdHdr) (l j v : Nat) (c : Code), gwServes s = true → s.gw.cmds.length < 8 → (∀ k ∈ s.gw.cmds, k.obj ≠ objDevice) → (∀ w ∈ s.gw.waiting, w.1 ≠ objDevice) →
    (gwCheck s h true 0 = c → c ≠ .ok → ∃ t, exec (.timeoutSet h l j v) s = .next t ∧ Replied s t h 0x0305 c [] [] ∧ Keeps gwF s t)
    ∧ (gwCheck s h false 1024 = c → c ≠ .ok → ∃ t, exec (.deviceInfo h) s = .next t ∧ Replied s t h 0x0101 c [] [] ∧ Keeps gwF s t)) ∧
  (∀ (s : State) (h : CmdHdr) (a b : Nat), GwGo s h false 0 objDevice → a ≤ b → b ≤ 7 → h.rchan = 0xFFFF → (s.chan h.chan).full = true →
    (s.boot.mbxMode = true → ∃ t, exec (.stepLimit h a b) s = .next t ∧ t.chan h.chan = { s.chan h.chan with full := false } ∧ (∀ n, n ≠ h.chan → t.chan n = s.chan n) ∧ Keeps [.cap, .mbx, .gw] s t)
    ∧ (s.boot.mbxMode = false → ∃ t, exec (.stepLimit h a b) s = .next t
        ∧ t.chan h.chan = { s.chan h.chan with full := false, ackv := true, ackSeq := (s.chan h.chan).mseq, ackCode := 0 } ∧ (∀ n, n ≠ h.chan → t.chan n = s.chan n) ∧ Keeps [.cap, .mbx, .gw] s t)) ∧
  (∀ (s : State) (i : Nat) (x : Retry), s.gw.retries[i]? = some x → gwServes s = true → x.since + 50000 * (x.tries + 1) ≤ s.tb →
    (mbxCheck s x.rchan (gwStamp s) = .ok → ∃ t, exec (.replyRetry i) s = .next t ∧ t.gw.retries = s.gw.retries.eraseIdx i ∧ (t.chan x.rchan).msg = x.msg)
    ∧ (mbxCheck s x.rchan (gwStamp s) = .mbxFull → x.tries < 999 → ∃ t, exec (.replyRetry i) s = .next t ∧ t.gw.retries = s.gw.retries.set i { x with tries := x.tries + 1 } ∧ Keeps [.gw] s t)
    ∧ (mbxCheck s x.rchan (gwStamp s) = .mbxFull → 999 ≤ x.tries → ∃ t, exec (.replyRetry i) s = .next t ∧ t.gw.retries = s.gw.retries.eraseIdx i)) ∧
  (∀ (s : State) (i : Nat), s.gw.retries[i]? = none → exec (.replyRetry i) s = .next s)

/-- Status commands (05 R124, R139, R140; 13 R361; 16 R446, Tables 16.3, 16.4; 17 R469; 22 R592): each writes its bytes at RESPTR, and
changes no more than the fields its read clears. The model's choices it rests on: log 36. -/
def Obligations.StatusCommandsWriteTheirData : Prop :=
  (∀ (s : State) (h : CmdHdr), GwGo s h false 1024 objDevice →
    ∃ t, exec (.deviceInfo h) s = .next t ∧ RepliedData s t h 0x0101 (leBytes 4 (spnCaps s) ++ leBytes 4 s.dmap.epoch) (deviceInfo s) (deviceInfo s).length ∧ Keeps (.mem :: gwF) s t) ∧
  (∀ (s : State) (h : CmdHdr), GwGo s h false 512 objDevice →
    ∃ t, exec (.defectMap h) s = .next t ∧ RepliedData s t h 0x0102 (leBytes 4 s.dmap.epoch) (dmapBytes s) (dmapBytes s).length ∧ Keeps (.mem :: gwF) s t) ∧
  (∀ (s : State) (h : CmdHdr), GwGo s h false (bootLogHalf s 1).length objDevice → bootLogHalf s 1 ≠ [] →
    ∃ t, exec (.bootLog h 1) s = .next t ∧ RepliedData s t h 0x0103 [] (bootLogHalf s 1) (bootLogHalf s 1).length ∧ Keeps (.mem :: gwF) s t) ∧
  (∀ (s : State) (h : CmdHdr), GwGo s h false (bootLogHalf s 0).length objDevice → bootLogHalf s 0 ≠ [] →
    ∃ t, exec (.bootLog h 0) s = .next t ∧ RepliedData s t h 0x0103 [] (bootLogHalf s 0) (bootLogHalf s 0).length ∧ Keeps (.attn :: .mem :: gwF) s t) ∧
  (∀ (s : State) (h : CmdHdr), GwGo s h false 408 objDevice →
    ∃ t, exec (.powerStatus h) s = .next t ∧ (∃ l, RepliedData s t h 0x0104 [] l 408 ∧ l.take 4 = leBytes 4 (pwrRow s 0)) ∧ Keeps (.mem :: gwF) s t) ∧
  (∀ (s : State) (h : CmdHdr), GwGo s h false 112 objDevice →
    ∃ t, exec (.clockStatus h) s = .next t ∧ (∃ l, RepliedData s t h 0x0105 [] l 112 ∧ l.take 4 = leBytes 4 (clkStep s)) ∧ (∀ r, t.clkRow r = {}) ∧ t.tb = s.tb ∧ Keeps (.clk :: .mem :: gwF) s t) ∧
  (∀ (s : State) (h : CmdHdr) (b : Nat), GwGo s h false 56 (objBridge b) → b < 2 →
    ∃ t, exec (.fabricStatus h b) s = .next t ∧ (∃ l, RepliedData s t h 0x0106 [] l 56 ∧ l.take 8 = leBytes 8 (fabRoute s b)) ∧ Keeps (.mem :: gwF) s t) ∧
  (∀ (s : State) (h : CmdHdr), GwGo s h false 1280 objDevice →
    (hasFlash s = true → ∃ t, exec (.flashHealth h) s = .next t ∧ (∃ l, RepliedData s t h 0x0107 [] l 1280)
      ∧ (∀ c k, (t.fchan c k).failed = 0 ∧ (t.fchan c k).st = (s.fchan c k).st) ∧ Keeps (.flash :: .fresh :: .mem :: gwF) s t)
    ∧ (hasFlash s = false → ∃ t, exec (.flashHealth h) s = .next t ∧ Replied s t h 0x0107 .unitAbsent [] [] ∧ Keeps gwF s t)) ∧
  (∀ (s : State) (h : CmdHdr) (a m : Nat), GwGo s h false (64 * (logFrom s a m).length) objDevice → logFrom s a m ≠ [] →
    ∃ t, exec (.errorLogRead h a m) s = .next t ∧ RepliedData s t h 0x0108 (leBytes 8 (logNext s a m)) ((logFrom s a m).flatMap ErrRec.bytes) (64 * (logFrom s a m).length)
      ∧ Keeps (.attn :: .mem :: gwF) s t)

/-- Commands for rows and banks (03 R83; 04 R104, R601; 10 R258; 11 R287, R288): the policy values take effect, SLEEP and OFF set the
row's target or end at once, REARM starts the retry, a bank in service enters OFF, and a watchdog period is set; a row that is OUT, DARK or
in use is refused and nothing changes. The model's choices it rests on: logs 23, 36. -/
def Obligations.RowAndBankCommands : Prop :=
  (∀ (s : State) (h : CmdHdr) (r a b c : Nat), GwGo s h false 0 (objRow r) → (r < 12 ∨ r = 0xFF) → policyOk a 50 50000 = true → policyOk b 2500 (2 ^ 32 - 2) = true →
    policyOk c 500 (2 ^ 32 - 2) = true → ∃ t, exec (.rowPowerPolicy h r a b c) s = .next t ∧ Replied s t h 0x0201 .ok [] [] ∧ Keeps (.rows :: gwF) s t
      ∧ (∀ i, i < s.rows.length → (r = 0xFF ∨ i = r) → t.row i = { s.row i with tNap := keepOr a (s.row i).tNap, tSleep := keepOr b (s.row i).tSleep, tBank := keepOr c (s.row i).tBank })
      ∧ (r ≠ 0xFF → RowsBut r s t)) ∧
  (∀ (s : State) (h : CmdHdr) (r : Nat), GwGo s h false 0 (objRow r) → r < 12 → r < s.rows.length → rowIsOut s r = false → rowIsDark s r = false →
    ((s.row r).st = .active → ∃ t, exec (.rowPower h r 0) s = .next t ∧ Accepted s t h 0x0202 wRowPower (256 * r) (objRow r) ∧ t.row r = { s.row r with target := some .sleep } ∧ RowsBut r s t)
    ∧ ((s.row r).st = .sleep → ∃ t, exec (.rowPower h r 0) s = .next t ∧ Replied s t h 0x0202 .ok [] [] ∧ Keeps gwF s t)
    ∧ ((s.row r).st = .active → rowInUse s r = false → ∃ t, exec (.rowPower h r 1) s = .next t ∧ Accepted s t h 0x0202 wRowPower (256 * r + 1) (objRow r) ∧ t.row r = { s.row r with target := some .off })
    ∧ ((s.row r).st = .sleep → rowInUse s r = false → ∃ t, exec (.rowPower h r 1) s = .next t ∧ Replied s t h 0x0202 .ok [] [] ∧ (t.row r).st = .off ∧ (t.row r).scb = [])
    ∧ ((s.row r).st = .nap → s.therm.halt = false → ∃ t, exec (.rowPower h r 2) s = .next t ∧ Replied s t h 0x0202 .ok [] [] ∧ (t.row r).st = .active)
    ∧ ((s.row r).st = .sleep → s.therm.halt = false → ∃ t, exec (.rowPower h r 2) s = .next t ∧ Accepted s t h 0x0202 wRowPower (256 * r + 2) (objRow r) ∧ (t.row r).st = .waking)
    ∧ (rowInUse s r = true → ∃ t, exec (.rowPower h r 1) s = .next t ∧ Replied s t h 0x0202 .rowInUse [] [] ∧ Keeps gwF s t)) ∧
  (∀ (s : State) (h : CmdHdr) (r st : Nat), GwGo s h false 0 (objRow r) → r < 12 → st ≤ 2 →
    (rowIsOut s r = true → ∃ t, exec (.rowPower h r st) s = .next t ∧ Replied s t h 0x0202 .unitRetired [] [] ∧ Keeps gwF s t)
    ∧ (rowIsOut s r = false → rowIsDark s r = true → ∃ t, exec (.rowPower h r st) s = .next t ∧ Replied s t h 0x0202 .rowDark [] [] ∧ Keeps gwF s t)) ∧
  (∀ (s : State) (h : CmdHdr) (r : Nat), GwGo s h false 0 (objRow r) → r < 12 → r < s.power.conv.length → r < s.rows.length →
    ((s.conv r).st = .dark → ∃ t, exec (.rowRearm h r) s = .next t ∧ Accepted s t h 0x0203 wRearm r (objRow r) ∧ (t.conv r).st = .retryWait ∧ (t.conv r).on = true ∧ (t.conv r).halfThr = true ∧ (t.row r).st = .waking)
    ∧ ((s.conv r).st ≠ .dark → ∃ t, exec (.rowRearm h r) s = .next t ∧ Replied s t h 0x0203 .unitBusy [] [] ∧ Keeps gwF s t)) ∧
  (∀ (s : State) (h : CmdHdr) (r b : Nat), GwGo s h false 0 (objBank r b) → r < 12 → b < 40 → r < s.rows.length → b < (s.row r).banks.length → rowIsOut s r = false → rowRuns s r = true → stagedOut s r = true →
    ((s.bank r b).st = .on → bankUsed (s.row r) b = false → (s.bank r b).inTest = false →
        ∃ t, exec (.bankPower h r b 0) s = .next t ∧ Accepted s t h 0x0204 wBankOff (40 * r + b) (objBank r b) ∧ t.bank r b = { s.bank r b with st := .entering, toOff := true } ∧ RowsBut r s t)
    ∧ ((s.bank r b).st = .on → bankUsed (s.row r) b = true → ∃ t, exec (.bankPower h r b 0) s = .next t ∧ Replied s t h 0x0204 .bankBusy [] [] ∧ Keeps gwF s t)
    ∧ ((s.bank r b).st = .on → ∃ t, exec (.bankPower h r b 1) s = .next t ∧ Replied s t h 0x0204 .ok [] [] ∧ Keeps gwF s t)
    ∧ ((s.bank r b).st = .off → ∃ t, exec (.bankPower h r b 1) s = .next t ∧ Accepted s t h 0x0204 wBank (40 * r + b) (objBank r b) ∧ t.bank r b = { s.bank r b with st := .waking, fromOff := true })) ∧
  (∀ (s : State) (h : CmdHdr) (r c p : Nat), GwGo s h false 0 (objRow r) → r < 12 → c < 8 → r < s.rows.length → c < (s.row r).cores.length → 50 ≤ p → p ≤ 500000 → rowIsOut s r = false → rowIsDark s r = false →
    prmPos s r c ≠ none → ∃ t, exec (.watchdog h r c p) s = .next t ∧ Replied s t h 0x0209 .ok [] [] ∧ t.core r c = { s.core r c with period := p } ∧ RowsBut r s t)

/-- Commands for power, timers, calibration and restart (05 R141, R142; 18 R484, R489, R506; 19 R512, R528, R529, R533): each sets the
values it names and nothing else. The model's choices it rests on: logs 36, 80. -/
def Obligations.PowerTimerAndRestartCommands : Prop :=
  (∀ (s : State) (h : CmdHdr) (m p a b : Nat), GwGo s h false 0 objDevice → (m = 0 ∨ 200000 ≤ m ∧ m ≤ 1400000) → (p = 0 ∨ 150000 ≤ p ∧ p ≤ 1000000) → (a = 0 ∨ 60 ≤ a ∧ a ≤ 504) → (b = 0 ∨ 60 ≤ b ∧ b ≤ 504) →
    ∃ t, exec (.powerCap h m p a b) s = .next t ∧ Replied s t h 0x0205 .ok [] [] ∧ t.cap = { s.cap with module := if m = 0 then s.cap.module else m, package := if p = 0 then s.cap.package else p }
      ∧ (1 < s.power.halves.length → (t.half 0).iLim = (if a = 0 then (s.half 0).iLim else a) ∧ (t.half 1).iLim = (if b = 0 then (s.half 1).iLim else b)) ∧ Keeps (.cap :: .power :: gwF) s t) ∧
  (∀ (s : State) (h : CmdHdr) (m p : Nat), GwGo s h false 0 objDevice → 0 < m → m < 200000 → ∃ t, exec (.powerCap h m p 0 0) s = .next t ∧ Replied s t h 0x0205 .cmdIllegal [] [] ∧ Keeps gwF s t) ∧
  (∀ (s : State) (h : CmdHdr) (a b : Nat), GwGo s h false 0 objDevice → a ≤ b → b ≤ 7 → ∃ t, exec (.stepLimit h a b) s = .next t ∧ Replied s t h 0x0206 .ok [] []
    ∧ t.cap = { s.cap with stepMin := a, stepMax := b } ∧ Keeps (.cap :: gwF) s t) ∧
  (∀ (s : State) (h : CmdHdr) (j a n : Nat), n = (energyFit s j a h.resmax).length → GwGo s h false (max 128 (64 + 64 * n)) objDevice →
    ∃ t, exec (.energyReport h j a) s = .next t ∧ (∃ l, RepliedData s t h 0x0207 [] l (64 + 64 * n)) ∧ t.cap = s.cap ∧ Keeps (.fresh :: .mem :: gwF) s t) ∧
  (∀ (s : State) (h : CmdHdr) (g b : Nat), GwGo s h true 0 objGroup →
    (200000 ≤ b → b ≤ 1400000 → s.cap.group = none → s.fab.epBase ≠ none → ∃ t, exec (.powerGroup h 0 g b) s = .next t ∧ Replied s t h 0x0208 .ok [] [] ∧ t.cap.group = some g ∧ t.cap.share = b ∧ Keeps (.cap :: gwF) s t)
    ∧ (200000 ≤ b → b ≤ 1400000 → s.cap.group ≠ none → ∃ t, exec (.powerGroup h 0 g b) s = .next t ∧ Replied s t h 0x0208 .unitBusy [] [] ∧ Keeps gwF s t)
    ∧ (s.cap.group = some g → ∃ t, exec (.powerGroup h 1 g 0) s = .next t ∧ Replied s t h 0x0208 .ok [] [] ∧ t.cap.group = none ∧ t.cap.share = 0 ∧ Keeps (.cap :: gwF) s t)
    ∧ (s.cap.group = some g → ∃ t, exec (.powerGroup h 2 g b) s = .next t ∧ Replied s t h 0x0208 .ok [] [] ∧ t.cap.share = b ∧ t.cap.reconTb = some s.tb ∧ Keeps (.cap :: gwF) s t)) ∧
  (∀ (s : State) (h : CmdHdr) (l j v : Nat), GwGo s h true 0 objDevice → timeoutOk l v = true → ∃ t, exec (.timeoutSet h l j v) s = .next t ∧ Replied s t h 0x0305 .ok [] [] ∧ Keeps gwF s t
    ∧ (l = 0 → t.gw.tmoNet = v) ∧ (l = 1 → t.gw.tmoDma = v) ∧ (l = 2 → t.gw.tmoAst = v) ∧ (l = 3 → t.gw.tmoMgmt = v) ∧ (l = 4 → t.gw.tmoFab = v)
    ∧ (l = 5 → mget t.gw.jobAt j = none ∧ j ∉ t.gw.jobExpired ∧ (v ≠ 0 → mget t.gw.jobTmo j = some v) ∧ (v = 0 → mget t.gw.jobTmo j = none))) ∧
  (∀ (s : State) (h : CmdHdr) (r : Nat), GwGo s h false 0 objDevice → (r < 12 ∨ r = 0xFF) →
    (∃ t, exec (.recalibrate h r 1) s = .next t ∧ Replied s t h 0x0306 .ok [] [] ∧ t.clk.recalSensors = some (s.clk.recalSensors.getD s.tb) ∧ Keeps (.clk :: gwF) s t)
    ∧ (∃ t, exec (.recalibrate h r 0) s = .next t ∧ Replied s t h 0x0306 .ok [] [] ∧ Keeps (.clk :: gwF) s t
        ∧ ∀ k, k ∈ t.clk.recalRows ↔ k ∈ s.clk.recalRows ∨ (k < 12 ∧ (r = 0xFF ∨ k = r) ∧ rowIsDark s k = false ∧ rowIsOut s k = false))) ∧
  (∀ (s : State) (h : CmdHdr) (u : Nat), GwGo s h true 0 objDevice → (u = 0 ∨ uClass u ≠ 0) → ∃ t, exec (.defectClear h u) s = .next t ∧ Replied s t h 0x0307 .ok [] []
    ∧ t.boot = { s.boot with clearReq := addNew s.boot.clearReq u } ∧ Keeps (.boot :: gwF) s t) ∧
  (∀ (s : State) (h : CmdHdr), GwGo s h true 0 objDevice → (∀ w, (s.wring w).st ≠ .opened) → ∃ t, exec (.restart h 0) s = .next t ∧ Replied s t h 0x0308 .ok [] []
    ∧ t.boot = { s.boot with stage := 0, st := .running, warm := true, stageTb := s.tb } ∧ t.mem.cells = s.mem.cells ∧ t.sec.nmeas = sat 32 (s.sec.nmeas + 1) ∧ Keeps (.boot :: .mem :: gwF) s t)

/-- Programs, tests, recovery and handoff (16 R448, Table 16.6; 17 R478; 18 R500, R501, R507 to R509): an accepted load holds the program
and measures it; an unload of a drained program removes it; SELF_TEST queues its unit; UNIT_RECOVER retrains a lost port, resets a row or
a bridge, and waits for the recovery or the swap of a slot; HANDOFF starts the standby core and the verified image moves the role.
The model's choices it rests on: logs 36, 45, 60, 63. -/
def Obligations.ProgramsTestsAndRecoveries : Prop :=
  (∀ (s : State) (h : CmdHdr) (r p f a u src n : Nat), GwGo s h false 0 (objProg r p) → r < 12 → r < s.rows.length → f ≤ 1 → a % 8 = 0 → 0 < u → u ≤ 4095 → a + 16 * u ≤ 1310720 →
    loadCode s r p (f == 1) a u src n = .ok → rowRuns s r = true → banksUp s r = true → loadBankCode s r a u (memRead s src n) = .ok → loadWaits (s.row r) a u (memRead s src n) = false →
    ∃ t, exec (.programLoad h r p f a u src n) s = .next t ∧ Replied s t h 0x0301 .ok [] [] ∧ (t.row r).progs.length = (s.row r).progs.length + 1
      ∧ (t.row r).progs.getLast?.map (fun x => (x.num, x.region, x.units, x.gen)) = some (p, a, u, (s.row r).progGen + 1) ∧ t.sec.nmeas = sat 32 (s.sec.nmeas + 1)) ∧
  (∀ (s : State) (h : CmdHdr) (r p f a u src n : Nat), GwGo s h false 0 (objProg r p) → r < 12 → f ≤ 1 → a % 8 = 0 → 0 < u → u ≤ 4095 → a + 16 * u ≤ 1310720 →
    loadCode s r p (f == 1) a u src n ≠ .ok → ∃ t, exec (.programLoad h r p f a u src n) s = .next t ∧ Replied s t h 0x0301 (loadCode s r p (f == 1) a u src n) [] [] ∧ Keeps gwF s t) ∧
  (∀ (s : State) (h : CmdHdr) (r n : Nat) (p : Prog), GwGo s h false 0 (objProg r n) → r < 12 → r < s.rows.length →
    ((s.row r).progs.find? (·.num == n) = some p → progInUse s r p = false → (∀ k ∈ progTiles p, tileBusy (s.tile r k) = false ∧ (s.tile r k).paired = false) →
      ∃ t, exec (.programUnload h r n) s = .next t ∧ Replied s t h 0x0302 .ok [] [] ∧ (t.row r).progs = (s.row r).progs.filter (·.num != n))
    ∧ ((s.row r).progs.find? (·.num == n) = some p → progInUse s r p = true → ∃ t, exec (.programUnload h r n) s = .next t ∧ Replied s t h 0x0302 .rowInUse [] [] ∧ Keeps gwF s t)
    ∧ ((s.row r).progs.find? (·.num == n) = none → ∃ t, exec (.programUnload h r n) s = .next t ∧ Replied s t h 0x0302 .unitBusy [] [] ∧ Keeps gwF s t)) ∧
  (∀ (s : State) (h : CmdHdr) (u : Nat), GwGo s h false 0 (objUnit u) → testUnitOk u = true → testAbsent s u = false → (inRow u = true → rowIsOut s (uRowOf u) = false ∧ rowIsDark s (uRowOf u) = false) →
    ∃ t, exec (.selfTest h u) s = .next t ∧ Accepted s t h 0x0303 wTest u (objUnit u) ∧ (∃ x ∈ t.gw.tests, x.unit = u) ∧ Keeps gwF s t) ∧
  (∀ (s : State) (h : CmdHdr) (b : Bool) (p : Nat), GwGo s h false 0 (objUnit (uPort p)) → p < 12 → p < s.fab.ports.length → portFitted s p = true → (s.port p).st = .downRuntime → bridgeUp s (portBridge p) = true →
    nth s.power.presentN p = false → ∃ t, exec (.unitRecover h (uPort p) b) s = .next t ∧ Accepted s t h 0x0304 wRecover (uPort p) (objUnit (uPort p)) ∧ t.port p = { s.port p with st := .retraining, downAt := none } ∧ Keeps gwF s t) ∧
  (∀ (s : State) (h : CmdHdr) (b : Bool) (r : Nat), GwGo s h false 0 (objRow r) → r < 12 → r < s.rows.length → rowIsOut s r = false → rowIsDark s r = false →
    rowRuns s r = true → banksUp s r = true → markRoom (s.row r) (countIf (·.wr) (s.row r).scb) = true →
    ∃ t, exec (.unitRecover h (uRow r) b) s = .next t ∧ Replied s t h 0x0304 .ok [] [] ∧ (t.row r).pairs = [{}, {}] ∧ ∀ k, (t.tile r k).queue = [] ∧ (t.tile r k).issued = [] ∧ (t.tile r k).halted = false) ∧
  (∀ (s : State) (h : CmdHdr) (c : Bool) (b : Nat), GwGo s h false 0 (objBridge b) → b < 2 → b < s.fab.bridges.length → (s.bridge b).out = false → (s.bridge b).inReset = false →
    ∃ t, exec (.unitRecover h (uBridge b) c) s = .next t ∧ Accepted s t h 0x0304 wRecover (uBridge b) (objBridge b) ∧ (t.bridge b).inReset = true ∧ (t.bridge b).v0 = [] ∧ (t.bridge b).v1 = []) ∧
  (∀ (s : State) (h : CmdHdr) (r p k : Nat), GwGo s h false 0 (objUnit (uAst r p)) → r < 12 → p < 5 → rowIsOut s r = false → rowIsDark s r = false → posBad (posState s true r p) = false → posState s true r p ≠ .lost →
    posState s true r p ≠ .inTest → posSlot s true r p = some k → slotHalted s true r k = false → (spareOf s true r).isSome = true →
    ∃ t, exec (.unitRecover h (uAst r p) false) s = .next t ∧ Accepted s t h 0x0304 wSwap (uAst r p) (objUnit (uAst r p))) ∧
  (∀ (s : State) (h : CmdHdr) (m : Nat), GwGo s h true 0 (objUnit (uMc 0)) → standbyCore s = some m →
    (∃ t, exec (.handoff h 0xFF) s = .next t ∧ Accepted s t h 0x0309 wHandoff 0 (objUnit (uMc 0)) ∧ t.gw.handoff = some (0xFF, 1) ∧ Keeps gwF s t)
    ∧ (∀ i, i < 8 → ∃ t, exec (.handoff h i) s = .next t ∧ Accepted s t h 0x0309 wHandoff 0 (objUnit (uMc 0)) ∧ t.gw.handoff = some (i, 0) ∧ t.gw.imgReqs = [(i, 0, s.tb, 0)] ∧ Keeps gwF s t)) ∧
  (∀ (s : State) (i c : Nat), s.gw.handoff = some (i, 1) → s.gw.running = some c → c < 2 → s.gw.mc.length = 2 → gwServes s = true → nth s.gw.mc (1 - c) = .standby →
    ∃ t, exec .handoffImageVerified s = .next t ∧ t.gw.running = some (1 - c) ∧ t.gw.handoff = none ∧ nth t.gw.mc (1 - c) = .running ∧ nth t.gw.mc c = .standby
      ∧ t.boot = { s.boot with bootCore := 1 - c } ∧ t.gw.imageIdx = (if i = 0xFF then s.gw.imageIdx else i)) ∧
  (∀ (s : State), s.gw.handoff = none → exec .handoffImageVerified s = .next s)

/-- Memory and tables (12 R309, R312, R317; 13 R343; 16 R445, R449, R450, R603): claims and releases change exactly the pages of the range;
LOST pages are freed all or none; a table that passes the checks of its creation is held; a batch at a memory home moves EPOCH by two and
answers it; a table in use stays until its commands end. The model's choices it rests on: log 37. -/
def Obligations.MemoryAndTableCommands : Prop :=
  (∀ (s : State) (h : CmdHdr) (a n : Nat), GwGo s h false 0 objDevice → rangeLegal s a n = true → rangeAbsent s a = false →
    (∀ k ∈ pagesOfRange s a n, k ∉ s.mem.claimed ∧ (pageEnt s k).st ≠ .borrowed ∧ (pageEnt s k).st ≠ .lost) →
    ∃ t, exec (.memClaim h a n) s = .next t ∧ Replied s t h 0x0401 .ok [] [] ∧ (∀ k, k ∈ t.mem.claimed ↔ k ∈ s.mem.claimed ∨ k ∈ pagesOfRange s a n) ∧ t.mem.cells = s.mem.cells ∧ Keeps (.mem :: gwF) s t) ∧
  (∀ (s : State) (h : CmdHdr) (a n k : Nat), GwGo s h false 0 objDevice → rangeLegal s a n = true → rangeAbsent s a = false → k ∈ pagesOfRange s a n → k ∈ s.mem.claimed →
    ∃ t, exec (.memClaim h a n) s = .next t ∧ Replied s t h 0x0401 .unitBusy [] [] ∧ Keeps gwF s t) ∧
  (∀ (s : State) (h : CmdHdr) (a n : Nat), GwGo s h false 0 objDevice → rangeLegal s a n = true → rangeAbsent s a = false → (∀ k ∈ pagesOfRange s a n, k ∈ s.mem.claimed ∧ k ∉ usedPages s) →
    ∃ t, exec (.memRelease h a n) s = .next t ∧ Replied s t h 0x0402 .ok [] [] ∧ (∀ k, k ∈ t.mem.claimed ↔ k ∈ s.mem.claimed ∧ k ∉ pagesOfRange s a n) ∧ t.mem.cells = s.mem.cells ∧ Keeps (.mem :: gwF) s t) ∧
  (∀ (s : State) (h : CmdHdr) (a n k : Nat), GwGo s h false 0 objDevice → rangeLegal s a n = true → rangeAbsent s a = false → k ∈ pagesOfRange s a n → k ∉ s.mem.claimed →
    ∃ t, exec (.memRelease h a n) s = .next t ∧ Replied s t h 0x0402 .memUnclaimed [] [] ∧ Keeps gwF s t) ∧
  (∀ (s : State) (h : CmdHdr) (a n : Nat), GwGo s h false 0 objDevice → rangeLegal s a n = true → rangeAbsent s a = false →
    (∀ k ∈ pagesOfRange s a n, (pageEnt s k).st = .lost → k / 65536 < 8 → (s.memUnit (k / 65536)).st ≠ .failed) →
    (∀ u, freeAll ((pagesOfRange s a n).filter (fun k => (pageEnt s k).st == .lost)) s = some u → ∃ t, exec (.pageFree h a n) s = .next t ∧ Replied s t h 0x0403 .ok [] [] ∧ t.mem = u.mem ∧ Keeps (.mem :: gwF) s t)
    ∧ (freeAll ((pagesOfRange s a n).filter (fun k => (pageEnt s k).st == .lost)) s = none → ∃ t, exec (.pageFree h a n) s = .next t ∧ Replied s t h 0x0403 .capacityShort [] [] ∧ Keeps gwF s t)) ∧
  (∀ (s : State) (h : CmdHdr) (n b ho ty ha se nr di fm fi pa rb kb pb bs mb mi : Nat) (d : Table), GwGo s h false 0 (objTable n) → d = tableArgs b ho ty ha se nr di fm fi pa rb kb pb bs mb →
    ho ≤ 2 → ty ≤ 3 → tableLegal d mi = true → (d.home = .flash → hasFlash s = true) → tablePlaced s d = true → (d.home = .ddr → d.type ≠ .kv → ∀ k ∈ pagesOf s rb 1, k / 65536 < 8 + nDdr s) →
    h.argPtr = none → (∀ g ∈ createClaims d mi, extentClaimed s g.1 g.2 = true) → (s.bridge b).out = false → s.table n = none → s.fetch.tables.length < 4096 →
    (d.home = .flash → reservedCap s b + 16384 * tableGroups d ≤ writableCap s b ∧ mapNeed d ≤ (mapRoom s b (mapNeed d)).length) →
    (pa ≠ 0 → ∀ k ∈ pagesOf s (partExtent d).1 (partExtent d).2, (pageEnt s k).st ≠ .borrowed) → (d.type = .kv → accessCode s false mi (8 * nr) = .ok ∧ accessCode s true mb (8 * nr) = .ok) →
    ∃ t, exec (.tableCreate h n b ho ty ha se nr di fm fi pa rb kb pb bs mb mi) s = .next t ∧ Replied s t h 0x0404 .ok (leBytes 4 0) [] ∧ Keeps (.mem :: .fetch :: gwF) s t
      ∧ (t.table n).map (fun x => { x with mapPages := [], partPages := [] }) = some d ∧ (t.table n).map (fun x => x.mapPages.length) = some (mapNeed d)) ∧
  (∀ (s : State) (h : CmdHdr) (n c a k : Nat) (d : Table) (es : List (Nat × Nat × List Byte)), GwGo s h false 0 (objTable n) → s.table n = some d → d.type ≠ .kv → (s.bridge d.bridge).out = false →
    accessCode s false a (c * entryBytes d) = .ok → es = (List.range c).map (fun i => batchEntry d (memRead s (a + i * entryBytes d) (entryBytes d))) → (∀ e ∈ es, e.1 < d.nrows ∧ rowFmt e.2.2 = d.fmt) →
    (d.home ≠ .flash → batchCode s d (lastEntries es) = .ok → k = ((d.epoch + 1) % 2 ^ 32 + 1) % 2 ^ 32 →
      ∃ t, exec (.tableUpdate h n c a) s = .next t ∧ Replied s t h 0x0405 .ok (leBytes 4 k) [] ∧ t.table n = some { d with epoch := k })
    ∧ (d.home = .flash → groupShort s n d ((lastEntries es).map (·.1)) = false →
      ∃ t, exec (.tableUpdate h n c a) s = .next t ∧ Accepted s t h 0x0405 wBatch n (objTable n) ∧ t.table n = some { d with epoch := (d.epoch + 1) % 2 ^ 32 } ∧ t.flash.batches.length = s.flash.batches.length + 1)) ∧
  (∀ (s : State) (h : CmdHdr) (n : Nat), GwGo s h false 0 (objTable n) →
    (s.table n = none → ∃ t, exec (.tableDestroy h n) s = .next t ∧ Replied s t h 0x0406 .tableUnknown [] [] ∧ Keeps gwF s t)
    ∧ (∀ d, s.table n = some d → tableInUse s n = false → ∃ t, exec (.tableDestroy h n) s = .next t ∧ Replied s t h 0x0406 .ok [] [] ∧ t.table n = none ∧ t.mem.cells = s.mem.cells)
    ∧ (∀ d, s.table n = some d → tableInUse s n = true → ∃ t, exec (.tableDestroy h n) s = .next t ∧ Accepted s t h 0x0406 wDestroy n (objTable n) ∧ t.table n = some { d with dying := true } ∧ Keeps (.fetch :: gwF) s t))

/-- Channels, cards and fabric commands (02 R44 to R46; 12 R332, R333; 13 R356, R357; 14 R370, R375, R380, R386, R387, R389, R390; 16 R451): a drain
lists the channel's pages, a return starts its switch, and one in service is refused; LOCATE sets the indicator; a card drains to the other
cards or is DRAINED at once, and a return starts its bay; an endpoint base is set once; staged route words land in the inactive version, a
commit arms both bridges; a window opens and closes under a new EPOCH; a binding is added, resumed and removed; injection steps are set.
The model's choices it rests on: logs 36, 38, 44. -/
def Obligations.ChannelCardAndFabricCommands : Prop :=
  (∀ (s : State) (h : CmdHdr) (d r : Nat), GwGo s h false 0 (objMem d) → d < 16 → d < nDdr s → rateOk r = true → 8 + d < s.mem.units.length →
    (((s.memUnit (8 + d)).st = .inService ∨ (s.memUnit (8 + d)).st = .degraded) → roomFor s (8 + d) (drainPages s (8 + d)).length = true → ∃ t, exec (.channelDrain h d r) s = .next t ∧ Replied s t h 0x0407 .ok [] []
      ∧ t.memUnit (8 + d) = { s.memUnit (8 + d) with st := .draining, moving := drainPages s (8 + d), rate := rateOf r } ∧ t.mem.cells = s.mem.cells ∧ Keeps (.mem :: .dmap :: gwF) s t)
    ∧ (((s.memUnit (8 + d)).st = .drained ∨ (s.memUnit (8 + d)).st = .failed) → lostPages s (8 + d) = false → (s.sw d).st = .off → d < s.power.switches.length →
        ∃ t, exec (.channelReturn h d r true) s = .next t ∧ Replied s t h 0x0408 .ok [] [] ∧ (t.sw d).st = .starting ∧ (t.sw d).startedAt = s.tb ∧ Keeps (.power :: .mem :: gwF) s t)
    ∧ ((s.memUnit (8 + d)).st = .inService → ∃ t, exec (.channelReturn h d r true) s = .next t ∧ Replied s t h 0x0408 .unitBusy [] [] ∧ Keeps (.power :: gwF) s t)) ∧
  (∀ (s : State) (h : CmdHdr) (i o : Nat), GwGo s h false 0 objDevice → i < nDdr s → i < 16 → i < s.power.switches.length → o ≤ 1 →
    ((s.sw i).st = .off → ∃ t, exec (.locate h 0 i o) s = .next t ∧ Replied s t h 0x0409 .ok [] [] ∧ t.sw i = { s.sw i with locate := o == 1 } ∧ Keeps (.power :: gwF) s t)
    ∧ ((s.sw i).st = .on → ∃ t, exec (.locate h 0 i o) s = .next t ∧ Replied s t h 0x0409 .unitBusy [] [] ∧ Keeps gwF s t)) ∧
  (∀ (s : State) (h : CmdHdr) (b r : Nat), GwGo s h false 0 (objBridge b) → b < 2 → 500 ≤ r → r ≤ 4000 → hasFlash s = true →
    ∃ t, exec (.flashPolicy h b r) s = .next t ∧ Replied s t h 0x0501 .ok [] [] ∧ t.flash = { s.flash with rate := s.flash.rate.set b r } ∧ Keeps (.flash :: gwF) s t) ∧
  (∀ (s : State) (h : CmdHdr) (c f : Nat), GwGo s h false 0 (objCard c) → c < 8 → f ≤ 1 → c < s.flash.cards.length → hasFlash s = true → 16 + c < s.power.switches.length →
    ((s.card c).st = .inService → reservedCap s (cardBridge c) + heldOn s c ≤ otherCap s c → heldOn s c ≠ 0 → ∃ t, exec (.cardDrain h c) s = .next t ∧ Replied s t h 0x0502 .ok [] [] ∧ t.card c = { s.card c with st := .draining })
    ∧ ((s.card c).st = .inService → reservedCap s (cardBridge c) + heldOn s c ≤ otherCap s c → heldOn s c = 0 → ∃ t, exec (.cardDrain h c) s = .next t ∧ Replied s t h 0x0502 .ok [] [] ∧ (t.card c).st = .drained ∧ (t.sw (16 + c)).st = .off)
    ∧ ((s.card c).st = .drained → (s.sw (16 + c)).st = .off → ∃ t, exec (.cardReturn h c f true) s = .next t ∧ Replied s t h 0x0503 .ok [] [] ∧ (t.sw (16 + c)).st = .starting ∧ (t.card c).format = (f == 1) ∧ (t.card c).noWrites = false)
    ∧ ((s.card c).st = .inService → ∃ t, exec (.cardReturn h c f true) s = .next t ∧ Replied s t h 0x0503 .unitBusy [] [])) ∧
  (∀ (s : State) (h : CmdHdr) (e : Nat), GwGo s h true 0 objDevice → e % 16 = 0 → e < 0xFFF0 →
    ((s.fab.epBase = none ∨ s.fab.epBase = some e) → ∃ t, exec (.endpointAssign h e) s = .next t ∧ Replied s t h 0x0601 .ok [] [] ∧ t.fab.epBase = some e)
    ∧ (∀ x, s.fab.epBase = some x → x ≠ e → ∃ t, exec (.endpointAssign h e) s = .next t ∧ Replied s t h 0x0601 .unitBusy [] [] ∧ t.fab.epBase = some x)) ∧
  (∀ (s : State) (h : CmdHdr) (b f n a : Nat), GwGo s h true 0 objRoutes → b < 2 → b < s.fab.bridges.length → f + n ≤ 65536 → accessCode s false a (4 * n) = .ok →
    (∀ i, i < n → routeLegal (BitVec.ofNat 32 (leNat (memRead s (a + 4 * i) 4))) = true) →
    ((s.bridge b).other ≠ .draining → ∃ t, exec (.routeStage h b f n a) s = .next t ∧ Replied s t h 0x0602 .ok [] [] ∧ (t.bridge b).other = .staged ∧ (t.bridge b).act = (s.bridge b).act
      ∧ (∀ i, i < n → mget (if (s.bridge b).act then (t.bridge b).v0 else (t.bridge b).v1) (f + i) = some (BitVec.ofNat 32 (leNat (memRead s (a + 4 * i) 4))))
      ∧ (if (s.bridge b).act then (t.bridge b).v1 = (s.bridge b).v1 else (t.bridge b).v0 = (s.bridge b).v0) ∧ Keeps gwF s t)
    ∧ ((s.bridge b).other = .draining → ∃ t, exec (.routeStage h b f n a) s = .next t ∧ Replied s t h 0x0602 .routeBusy [] [] ∧ Keeps gwF s t)) ∧
  (∀ (s : State) (h : CmdHdr) (k d : Nat), GwGo s h true 0 objRoutes → (d = 0 ∨ 100 ≤ d ∧ d ≤ 100000) → s.tb + 50 ≤ k → (∀ x ∈ s.fab.bridges, x.other = .staged) →
    ∃ t, exec (.routeCommit h k d) s = .next t ∧ Accepted s t h 0x0603 wCommit 0 objRoutes ∧ (∀ b, b < s.fab.bridges.length → t.bridge b = { s.bridge b with armedAt := some k, drainLim := if d = 0 then 50000 else 50 * d }) ∧ Keeps gwF s t) ∧
  (∀ (s : State) (h : CmdHdr) (k d : Nat), GwGo s h true 0 objRoutes → d = 0 → k < s.tb + 50 → ∃ t, exec (.routeCommit h k d) s = .next t ∧ Replied s t h 0x0603 .deadlinePassed [] [] ∧ Keeps gwF s t) ∧
  (∀ (s : State) (h : CmdHdr) (w p o a n e : Nat) (l : List (Nat × Nat)), GwGo s h false 0 (objWin w) → w < 4096 → windowLegal s p o a n l = true → rangeAbsent s a = false → (a / 2 ^ 44 = 0 ∨ extentClaimed s a n = true) →
    winBusy s w = false → e = (winEpoch s w + 1) % 2 ^ 32 → ∃ t, exec (.mapWindow h w p o a n l) s = .next t ∧ Replied s t h 0x0604 .ok (leBytes 4 e) []
      ∧ mget t.fab.windows w = some { isOpen := true, base := a, length := n, home := o, permR := bit p 0, permW := bit p 1, srcf := l, epoch := e }) ∧
  (∀ (s : State) (h : CmdHdr) (w e : Nat) (x : Window), GwGo s h false 0 (objWin w) → w < 4096 → mget s.fab.windows w = some x → x.isOpen = true → e = (x.epoch + 1) % 2 ^ 32 →
    (winBusy s w = false → ∃ t, exec (.unmapWindow h w) s = .next t ∧ Replied s t h 0x0605 .ok (leBytes 4 e) [] ∧ mget t.fab.windows w = some { x with isOpen := false, epoch := e })
    ∧ (winBusy s w = true → ∃ t, exec (.unmapWindow h w) s = .next t ∧ Accepted s t h 0x0605 wWindow w (objWin w) ∧ mget t.fab.windows w = some x)) ∧
  (∀ (s : State) (h : CmdHdr) (n b fl dl ln d w e o : Nat), GwGo s h false 0 (objBind n) → n < 65536 → b < 2 → fl < 256 → unitRange dl ln = true → w < 4096 → e < 2 ^ 32 → o < 2 ^ 40 → h.argPtr = none →
    s.fab.bindings.length < 1024 → (∀ r, r < 12 → s.binding n = none → ∃ t, exec (.binding h n 0 r b 0 0 fl dl ln 0 0 d w e o 0 0 0 0 0 0 0) s = .next t ∧ Replied s t h 0x0606 .ok [] []
      ∧ (t.binding n).map (fun x => (x.row, x.bridge, x.dline, x.dlen, x.dst, x.win, x.wepoch, x.doff, x.flow, x.sending)) = some (r, b, dl, ln, d, w, e, o, fl, false) ∧ Keeps (.rows :: gwF) s t)) ∧
  (∀ (s : State) (h : CmdHdr) (n : Nat) (x : Binding), GwGo s h false 0 (objBind n) → h.argPtr = none → s.binding n = some x →
    (x.sending = false → ∃ t, exec (.binding h n 2 0 0 0 0 0 0 0 0 0 0 0 0 0 0 0 0 0 0 0 0) s = .next t ∧ Replied s t h 0x0606 .ok [] [] ∧ t.binding n = none)
    ∧ (x.sending = true → ∃ t, exec (.binding h n 2 0 0 0 0 0 0 0 0 0 0 0 0 0 0 0 0 0 0 0 0) s = .next t ∧ Accepted s t h 0x0606 wBind n (objBind n) ∧ t.binding n = some x)
    ∧ (x.halted = true → touchesRetired s x = false → ∃ t, exec (.binding h n 1 0 0 0 0 0 0 0 0 0 0 0 0 0 0 0 0 0 0 0 0) s = .next t ∧ Replied s t h 0x0606 .ok [] [] ∧ t.binding n = some { x with halted := false })) ∧
  (∀ (s : State) (h : CmdHdr) (b q1 q2 q3 q4 : Nat), GwGo s h false 0 (objBridge b) → b < 2 → b < s.fab.bridges.length → q1 < q2 → q2 < q3 → q3 < q4 → q4 ≤ 512 →
    ∃ t, exec (.fabricPolicy h b q1 q2 q3 q4) s = .next t ∧ Replied s t h 0x0607 .ok [] [] ∧ (t.bridge b).q = [q1, q2, q3, q4] ∧ Keeps gwF s t)

/-- Channels, rings, Witness rings and security (15 R421, R423, R434, R599; 20 R542, R545, R549; 21 R559, R564, R565): a channel takes its
new settings once the command is answered; rings are created empty, modified, and destroyed when nothing is left in them; Witness rings
open, close and seal; a quote waits for its signature; a valid token adds its scope and a valid record revokes its key, both measured.
The model's choices it rests on: logs 36, 39. -/
def Obligations.ChannelRingAndSecurityCommands : Prop :=
  (∀ (s : State) (h : CmdHdr) (n v f m d k : Nat), GwGo s h true 0 (objChan n) → n < nChans s → v ≤ 3 → f ≤ 7 → k < 1024 → (v ≠ 3 → d = 0 ∧ k = 0) → (2 ≤ v → secureEnd s ≤ n) →
    ∃ t, exec (.channelConfigure h n v f m d k) s = .next t ∧ Replied s t h 0x0701 .ok [] [] ∧ (t.chan n).rcv = rcvOf v ∧ (t.chan n).shared = bit f 0 ∧ (t.chan n).classMatch = bit f 1
      ∧ (t.chan n).enabled = bit f 2 ∧ (t.chan n).smatch = m ∧ (t.chan n).rdest = d ∧ (t.chan n).rchan = k ∧ (n ≠ h.chan → n ≠ h.rchan → (t.chan n).full = (s.chan n).full ∧ (t.chan n).msg = (s.chan n).msg)) ∧
  (∀ (s : State) (h : CmdHdr) (n o sl lg no db rq cq m : Nat) (ds : List (Nat × Nat)), GwGo s h false 0 (objRing n) → n < 65536 → o < 12 → lg ≤ 12 → ringFields sl no db ds m = true →
    (∀ g ∈ ringExtents true rq cq (64 * 2 ^ lg), ringBase s g.1 g.2 = true ∧ rangeAbsent s g.1 = false ∧ extentClaimed s g.1 g.2 = true) → s.ring n = none →
    countIf (fun p => p.2.owner == o) s.rings.rings < 8192 → rowIsOut s o = false → rowIsDark s o = false → (∀ c, c < 8 → bit sl c = true → prmPos s o c ≠ none) → accessCode s true cq (64 * 2 ^ lg) = .ok →
    ∃ t, exec (.ringCreate h n o sl lg 0 0 no db rq cq ds m) s = .next t ∧ Replied s t h 0x0702 .ok [] [] ∧ t.mem = (memZero s cq (64 * 2 ^ lg)).mem ∧ Keeps (.rings :: .mem :: gwF) s t
      ∧ (t.ring n).map (fun g => (g.owner, g.slots, g.log2size, g.rqBase, g.cqBase, g.cqChan, g.tmo)) = some (o, BitVec.ofNat 8 sl, lg, rq, cq, none, m)
      ∧ (t.ring n).map (fun g => (g.pi, g.ci, g.cpi, g.cci, g.cphase)) = some (0, 0, 0, 0, true)) ∧
  (∀ (s : State) (h : CmdHdr) (n : Nat) (g : RqRing), GwGo s h false 0 (objRing n) → s.ring n = some g →
    (ringBusy s n g = false → ∃ t, exec (.ringDestroy h n) s = .next t ∧ Replied s t h 0x0703 .ok [] [] ∧ t.ring n = none ∧ Keeps (.rings :: gwF) s t)
    ∧ (ringBusy s n g = true → ∃ t, exec (.ringDestroy h n) s = .next t ∧ Replied s t h 0x0703 .unitBusy [] [] ∧ Keeps gwF s t)
    ∧ (∀ sl no db ds m, ringFields sl no db ds m = true → ∃ t, exec (.ringModify h n sl no db ds m) s = .next t ∧ Replied s t h 0x0704 .ok [] [] ∧ Keeps (.rings :: gwF) s t
        ∧ t.ring n = some { g with slots := BitVec.ofNat 8 sl, notify := no == 1, dbChavi := db == 1, dbSrc := ds, tmo := m })) ∧
  (∀ (s : State) (h : CmdHdr) (n : Nat), GwGo s h false 0 (objRing n) → s.ring n = none → ∃ t, exec (.ringDestroy h n) s = .next t ∧ Replied s t h 0x0703 .ringUnknown [] [] ∧ Keeps gwF s t) ∧
  (∀ (s : State) (h : CmdHdr) (w : Nat), GwGo s h false 0 (objWit w) → w < 16 → w < s.wit.rings.length → hasWitness s = true →
    (∀ p f n th b l, l ≠ 0 → witLegal s p f n th b l = true → rangeAbsent s b = false → (s.wring w).st = .closed → (∀ k ∈ pagesOf s b l, k ∉ s.mem.claimed ∧ (pageEnt s k).st ≠ .borrowed) → accessCode s true b 64 = .ok →
      ∃ t, exec (.witnessRing h w p f n th b l) s = .next t ∧ Accepted s t h 0x0901 wOpen w (objWit w) ∧ (t.wring w).base = b ∧ (t.wring w).len = l ∧ (t.wring w).produced = 0 ∧ ∀ k ∈ pagesOf s b l, k ∈ t.mem.claimed)
    ∧ ((s.wring w).st = .opened → ∃ t, exec (.witnessRing h w 0 0 0 0 0 0) s = .next t ∧ Accepted s t h 0x0901 wClose w (objWit w) ∧ (t.wring w).st = .closing)
    ∧ ((s.wring w).st = .opened → ∃ t, exec (.witnessSeal h w) s = .next t ∧ Accepted s t h 0x0902 wSeal w (objWit w) ∧ (t.wring w).sealCmd.isSome = true)
    ∧ ((s.wring w).st ≠ .opened → ∃ t, exec (.witnessSeal h w) s = .next t ∧ Replied s t h 0x0902 .unitBusy [] [] ∧ Keeps gwF s t)) ∧
  (∀ (s : State) (h : CmdHdr) (x : List Byte), GwGo s h false (384 + 96 * s.sec.log.length + 49856) 0 →
    ∃ t, exec (.attestQuote h x) s = .next t ∧ Accepted s t h 0x0A01 wQuote s.gw.nextId 0 ∧ t.sec.quotes.length = s.sec.quotes.length + 1
      ∧ t.sec.quotes.getLast?.map (fun q => (q.cmd, q.resptr, q.body)) = some (s.gw.nextId, h.resptr, quoteHeader s x ++ s.sec.log.flatMap MeasEnt.bytes) ∧ t.sec.mr = s.sec.mr) ∧
  (∀ (s : State) (h : CmdHdr) (x g : List Byte), GwGo s h false 0 objDevice →
    ∃ t, exec (.debugUnlock h x g) s = .next t ∧ Replied s t h 0x0A02 (tokenCheck s x g) [] [] ∧ Keeps gwF s t
      ∧ (if tokenCheck s x g = .ok then t.sec.scope = s.sec.scope ||| BitVec.ofNat 3 (field x 7 1) ∧ t.sec.nmeas = sat 32 (s.sec.nmeas + 1)
         else t.sec.scope = s.sec.scope ∧ t.sec.log = s.sec.log)) ∧
  (∀ (s : State) (h : CmdHdr) (x g : List Byte), GwGo s h true 0 objDevice →
    ∃ t, exec (.keyRevoke h x g) s = .next t ∧ Replied s t h 0x0A03 (revokeCheck s x g) [] []
      ∧ (if revokeCheck s x g = .ok then t.fuse = { s.fuse with keyRev := setBit s.fuse.keyRev (field x 6 1) } ∧ t.sec.nmeas = sat 32 (s.sec.nmeas + 1) ∧ Keeps (.fuse :: gwF) s t
         else Keeps gwF s t))

/-! Faults, tests, recovery, failover; power control. -/

/-- Poison, tests, recovery and failover (17 R465, R467, R475 to R478; 18 R484, R492, R494, R502, R503): what has no verdict at its deadline
is POISONED; a held RPUSH leaves its core once its taint is resolved; a test starts when its needs are met, is UNTESTABLE after 10 ms and
LASTING the third time, and ends by leaving the list, a LASTING bank RETIRED; a recovered slot runs empty; the watchdog moves the boot role to
the standby core, and its resumption serves commands again. The model's choices it rests on: logs 45, 46, 47, 78. -/
def Obligations.TestsRecoveriesAndFailover : Prop :=
  (∀ s : State, ∃ t, exec .poisonDeadline s = .next t ∧ (∀ r, r < 12 → r < s.rows.length →
      t.row r = { s.row r with prov := (s.row r).prov.map (fun e => if entryDue s.tb e then { e with poisoned := true, deadline := none } else e) })
    ∧ (∀ b, b < 2 → ∀ h ∈ (t.bridge b).holdBuf, s.tb < h.2)) ∧
  (∀ (s : State) (r c n rd : Nat) (e : List Byte), (s.core r c).heldPush = some (n, e, rd) → r < s.rows.length → c < (s.row r).cores.length →
    ((s.core r c).taint = [] → (s.core r c).taintBad = false → (s.core r c).st = .running → ∃ t, exec (.heldRpushResolve r c) s = .next t ∧ (t.core r c).heldPush = none ∧ (t.core r c).pc = (s.core r c).pc + 4)
    ∧ ((s.core r c).taint ≠ [] → (s.core r c).taintBad = false → exec (.heldRpushResolve r c) s = .next s)
    ∧ ((s.core r c).taintBad = true → ∃ t, exec (.heldRpushResolve r c) s = .next t ∧ (t.core r c).heldPush = none)) ∧
  (∀ (s : State) (u : Nat) (x : Test), s.test u = some x → gwServes s = true → x.running = false →
    (x.retryAt = none → (uClass u = 6 ∨ uClass u = 7) → ∃ t, exec (.targetedTestStart u) s = .next t ∧ (t.test u).map (·.running) = some true ∧ Keeps [.gw] s t)
    ∧ (x.retryAt = none → uClass u = 3 → uRowOf u < 12 → rowRuns s (uRowOf u) = true → bankUsed (s.row (uRowOf u)) (uIdx u) = false → uRowOf u < s.rows.length → uIdx u < (s.row (uRowOf u)).banks.length →
        ∃ t, exec (.targetedTestStart u) s = .next t ∧ (t.test u).map (·.running) = some true ∧ (t.bank (uRowOf u) (uIdx u)).inTest = true)
    ∧ (∀ d, x.retryAt = some d → d ≤ s.tb → (uClass u = 6 ∨ uClass u = 7) → ∃ t, exec (.targetedTestRetry u) s = .next t ∧ (t.test u).map (·.running) = some true ∧ Keeps [.gw] s t)
    ∧ (∀ d, x.retryAt = some d → s.tb < d → exec (.targetedTestRetry u) s = .next s)
    ∧ (∀ p, x.placed = some p → p + 500000 ≤ s.tb → x.untest < 2 → ∃ t, exec (.testNeedsTimeout u) s = .next t
        ∧ (t.test u).map (fun y => (y.untest, y.placed, y.retryAt, y.running)) = some (x.untest + 1, none, some (s.tb + 50000000), false))
    ∧ (∀ p, x.placed = some p → p + 500000 ≤ s.tb → 2 ≤ x.untest → uClass u = 6 → ∃ t, exec (.testNeedsTimeout u) s = .next t ∧ t.test u = none)
    ∧ (∀ p, x.placed = some p → s.tb < p + 500000 → exec (.testNeedsTimeout u) s = .next s)) ∧
  (∀ (s : State) (u : Nat) (x : Test) (rt : RowTest) (l : List Nat), s.test u = some x → x.running = true → x.unit = u →
    ((uClass u = 6 ∨ uClass u = 7) → ∀ p : Bool, ∃ t, exec (.targetedTestEnd u p rt l) s = .next t ∧ t.test u = none)
    ∧ (uClass u = 3 → uRowOf u < s.rows.length → uIdx u < (s.row (uRowOf u)).banks.length → (s.bank (uRowOf u) (uIdx u)).st ≠ .retired →
        ∃ t, exec (.targetedTestEnd u false rt l) s = .next t ∧ t.test u = none ∧ (t.bank (uRowOf u) (uIdx u)).st = .retired)
    ∧ (uClass u = 0xD → uIdx u < s.gw.mc.length → (∃ t, exec (.targetedTestEnd u false rt l) s = .next t ∧ nth t.gw.mc (uIdx u) = .failed) ∧ (x.recNo = 0 → ∃ t, exec (.targetedTestEnd u true rt l) s = .next t ∧ nth t.gw.mc (uIdx u) = .standby))) ∧
  (∀ (s : State) (u : Nat) (p : Bool) (rt : RowTest) (l : List Nat), s.test u = none → exec (.targetedTestEnd u p rt l) s = .next s ∧ exec (.targetedTestStart u) s = .next s) ∧
  (∀ (s : State) (r k : Nat) (x : Recovery), recoveryOf s true r k = some x → gwServes s = true → rowIsDark s r = false → rowIsOut s r = false → rowRuns s r = true → recoverWaits s true r k = false →
    (s.tile r k).paired = false → (astPos s r k).isSome = true → (s.tile r k).halted = true → r < s.rows.length → k < (s.row r).tiles.length →
    ∃ t, exec (.slotRecovery true r k) s = .next t ∧ (t.tile r k).halted = false ∧ (t.tile r k).queue = [] ∧ (t.tile r k).fault = (s.tile r k).fault ∧ recoveryOf t true r k = none) ∧
  (∀ (s : State) (a : Bool) (r k : Nat), recoveryOf s a r k = none → exec (.slotRecovery a r k) s = .next s) ∧
  (∀ s : State, gwServes s = true → ∃ t, exec .mgmtWatchdogRestart s = .next t ∧ t.gw = { s.gw with wdAt := s.tb + s.gw.tmoMgmt } ∧ Keeps [.gw] s t) ∧
  (∀ (s : State) (c : Nat) (d : Bool), s.gw.running = some c → c < 2 → s.gw.mc.length = 2 → alive s = true → s.boot.st = .ready → s.gw.failAt = none →
    (nth s.gw.mc (1 - c) = .standby → (∃ t, exec (.mcHalt d) s = .next t ∧ t.gw.running = some (1 - c) ∧ t.gw.failAt = some s.tb ∧ nth t.gw.mc (1 - c) = .running ∧ nth t.gw.mc c = .reset ∧ t.boot = { s.boot with bootCore := 1 - c })
      ∧ (s.gw.wdAt ≤ s.tb → ∃ t, exec (.mgmtWatchdogExpiry d) s = .next t ∧ t.gw.running = some (1 - c) ∧ t.gw.failAt = some s.tb ∧ t.boot.bootCore = 1 - c))
    ∧ (nth s.gw.mc (1 - c) ≠ .standby → mcGood s c = true → ∃ t, exec (.mcHalt d) s = .next t ∧ t.gw.running = some c ∧ t.gw.failAt = some s.tb)
    ∧ (nth s.gw.mc (1 - c) ≠ .standby → mcGood s c = false → ∃ t, exec (.mcHalt d) s = .next t ∧ t.gw.running = none ∧ t.gw.mc = [.failed, .failed])
    ∧ (s.tb < s.gw.wdAt → exec (.mgmtWatchdogExpiry d) s = .next s)) ∧
  (∀ (s : State) (c n : Nat), s.gw.failAt = some n → s.gw.running = some c → alive s = true → ∃ t, exec .failoverResume s = .next t ∧ t.gw.failAt = none ∧ t.gw.dupReply = none ∧ t.gw.wdAt = s.tb + s.gw.tmoMgmt
      ∧ (s.gw.dupReply = none → Keeps [.gw] s t)) ∧
  (∀ s : State, s.gw.failAt = none → exec .failoverResume s = .next s)

/-- Power and temperature control (03 R78; 12 R310; 19 R513, R514, R517, R520, R521, R523, R524, R530 to R532): a failing fast check arms one
step lower; a marker sets its slot's PHASE; a reading enters its filter; a row, bridge or stack at its critical threshold halts the module
at step 0; the ceiling rises by one after 10 ms below release; a window's measurements take effect together; a grant never leaves a member
below 200 W. The model's choices it rests on: logs 7, 48, 49, 80. -/
def Obligations.PowerAndTemperatureControl : Prop :=
  (∀ (s : State) (m : FastMeans), alive s = true → s.boot.st = .ready → s.clk.cur ≠ 0 → s.clk.pend = false →
    (fastFails m s = true → ∃ t, exec (.powerFastCheck m) s = .next t ∧ t.clk = { s.clk with next := s.clk.cur - 1, stepAt := s.tb + 50, pend := true, armed := true } ∧ t.cap = { s.cap with lastDrop := some s.tb } ∧ Keeps [.clk, .cap] s t)
    ∧ (fastFails m s = false → exec (.powerFastCheck m) s = .next s)) ∧
  (∀ (s : State) (r k p d : Nat) (l : List (Nat × Nat × Nat × Nat)), s.cap.markers = (r, k, p, d) :: l → r < s.rows.length → k < (s.row r).tiles.length →
    (s.clk.armed = true → ∃ t, exec .phaseMarker s = .next t ∧ t.tile r k = { s.tile r k with phase := p } ∧ t.cap.markers = l ∧ (∀ q, q ≠ k → t.tile r q = s.tile r q) ∧ RowsBut r s t ∧ Keeps [.rows, .cap] s t)
    ∧ (∃ t, exec .phaseMarker s = .next t ∧ (t.tile r k).phase = p ∧ t.cap.markers = l)) ∧
  (∀ s : State, s.cap.markers = [] → exec .phaseMarker s = .next s) ∧
  (∀ (s : State) (k : Nat) (v : Int), alive s = true → k < 61 → ∃ t, exec (.thermalSensorRead k v) s = .next t ∧ readings t k (filtLen k) = (taken s k v :: (mget s.therm.samples k).getD []).take (filtLen k)
      ∧ (s.therm.halt = false → atLeast (readings t k (critLen k)) (critAt k) = true → t.therm.halt = true ∧ t.clk.cur = 0 ∧ t.clk.pend = false)
      ∧ (s.therm.halt = false → atLeast (readings t k (critLen k)) (critAt k) = false → t.therm.halt = false ∧ t.clk = s.clk ∧ t.rows = s.rows)) ∧
  (∀ (s : State) (k : Nat) (v : Int), (85 ≤ k ∨ alive s = false) → exec (.thermalSensorRead k v) s = .next s) ∧
  (∀ (s : State) (u : Nat) (v : Int), alive s = true → u < 8 → u < s.mem.units.length → unitIsOut (s.memUnit u).st = false →
    ∃ t, exec (.hbmTempRead u v) s = .next t ∧ (t.memUnit u).temp = meanOf (readings t (53 + u) 4) ∧ (readings t (53 + u) 4).head? = some v) ∧
  (∀ (s : State) (d : Nat), s.therm.coolSince = some d → s.cap.thermCeil < 7 →
    (d + 500000 ≤ s.tb → ∃ t, exec .thermalCeilingRaise s = .next t ∧ t.cap = { s.cap with thermCeil := s.cap.thermCeil + 1 } ∧ t.therm = { s.therm with coolSince := some s.tb })
    ∧ (s.tb < d + 500000 → exec .thermalCeilingRaise s = .next s)) ∧
  (∀ (s : State) (w : PowerWindow), alive s = true → s.tb % 50000 = 0 → 0 < s.tb → ∃ t, exec (.powerWindowEnd w) s = .next t ∧ t.cap.meter = (s.cap.meter + w.energy) % 2 ^ 64
      ∧ (∀ n, n < s.power.dom.length → (nth t.power.dom n).seq = ((nth s.power.dom n).seq + 1) % 256
          ∧ (domFitted s n = true → (nth t.power.dom n).avg = sat 16 (nth w.avg n) ∧ (nth t.power.dom n).peak = sat 16 (nth w.peak n) ∧ (nth t.power.dom n).volt = sat 16 (nth w.volt n)))) ∧
  (∀ (s : State) (w : PowerWindow), s.tb % 50000 ≠ 0 → exec (.powerWindowEnd w) s = .next s) ∧
  (∀ s : State, groupServes s = true → s.cap.discTb = none → ∃ t, exec .peerDiscovery s = .next t ∧ t.cap.discTb = some s.tb
      ∧ t.cap.roster = (s.cap.roster.filter (fun p => decide (p.missed < 2))).map (fun p => { p with missed := p.missed + 1 })
      ∧ (∀ e, peerBlocks s = [e] → 0 < s.fab.bridges.length → (s.bridge 0).tracked.length < 8192 → (lastInj t 0).map (fun p => (p.type, p.dst, p.data)) = some (8, e + 14, tokenBytes s 0) ∧ t.cap.tseq = (s.cap.tseq + 1) % 2 ^ 32)) ∧
  (∀ s : State, groupServes s = true → s.cap.reportTb = none → ∃ t, exec .tokenReportPeriod s = .next t ∧ t.cap.reportTb = some s.tb ∧ t.cap.share ≤ s.cap.share ∧ (200000 ≤ s.cap.share → 200000 ≤ t.cap.share)
      ∧ (slackOf s < 2500000 → t.cap.share = s.cap.share)) ∧
  (∀ (s : State) (d : Nat), s.cap.reportTb = some d → s.tb < d + 500000 → exec .tokenReportPeriod s = .next s) ∧
  (∀ (s : State) (d : Nat), s.cap.discTb = some d → s.tb < d + 50000000 → exec .peerDiscovery s = .next s)

/-! The Witness unit, security, registers and what is left. -/

/-- The Witness unit (20 R534, R536, R539 to R545, R548, R549): items are stored while there is room and expire; a completion is evaluated in
its turn, its linked items consumed, and captured when a predicate fires, counted in DROPPED on a ring that is not OPEN; held records are
given up after 100 ms; an entry is written at PRODUCED, which moves past it; a seal covers what was chained.
The model's choices it rests on: logs 12, 66. -/
def Obligations.WitnessItemsRecordsAndSeals : Prop :=
  (∀ (s : State) (i : Nat) (x : ItemHeld), s.wit.inbox[i]? = some x → s.wit.late = [] → (itemBytes s + itemSize x ≤ 0x600000 → ∃ t, exec (.witnessItem i) s = .next t
      ∧ t.wit = { s.wit with inbox := s.wit.inbox.eraseIdx i, items := s.wit.items ++ [{ x with tb := s.tb }] } ∧ Keeps [.wit] s t)
    ∧ (0x600000 < itemBytes s + itemSize x → ∃ t, exec (.witnessItem i) s = .next t ∧ t.wit = { s.wit with inbox := s.wit.inbox.eraseIdx i, lost := s.wit.lost ++ [{ x with tb := s.tb }] } ∧ Keeps [.wit] s t)) ∧
  (∀ (s : State) (i : Nat) (x : ItemHeld), s.wit.items[i]? = some x → (x.tb + 5000000 ≤ s.tb → ∃ t, exec (.witnessItemExpiry i) s = .next t ∧ t.wit.items = s.wit.items.eraseIdx i ∧ t.wit.rings = s.wit.rings ∧ Keeps [.wit] s t)
    ∧ (s.tb < x.tb + 5000000 → exec (.witnessItemExpiry i) s = .next s)) ∧
  (∀ (s : State) (i : Nat) (c : WitCpl), s.rings.witHeld[i]? = some c → s.rings.up = true → cplReady s c = true → s.rings.witHeld.any (fun d => cplReady s d && cplBefore d c) = false →
    (16 ≤ (trailerOf c.entry).wring → s.wit.rings.length = 16 → ∃ t, exec (.witnessEvaluation i) s = .next t ∧ t.rings.witHeld = s.rings.witHeld.erase c ∧ t.wit = s.wit)
    ∧ (∀ w, w = (trailerOf c.entry).wring → w < 16 → w < s.wit.rings.length → (s.wring w).st ≠ .opened → ∃ t, exec (.witnessEvaluation i) s = .next t ∧ t.rings.witHeld = s.rings.witHeld.erase c
        ∧ t.wring w = { s.wring w with dropped := (s.wring w).dropped + 1 })
    ∧ (∀ w g, w = (trailerOf c.entry).wring → w < 16 → w < s.wit.rings.length → (s.wring w).st = .opened → s.ring c.ring = some g → ∃ t, exec (.witnessEvaluation i) s = .next t
        ∧ t.rings.witHeld = s.rings.witHeld.erase c ∧ t.wit.items = s.wit.items.filter (fun x => !links (trailerOf c.entry) g.owner x) ∧ (t.wring w).cnt = (evalOf s c g.owner).2.cnt
        ∧ ((evalOf s c g.owner).1 = 0 → (t.wring w).buf = (s.wring w).buf)
        ∧ ((evalOf s c g.owner).1 ≠ 0 → (s.wring w).heldRecs = [] → (s.wring w).gap = none → bufRoom s (recordOf s c g.owner).elen = true → (t.wring w).buf = (s.wring w).buf ++ [recordOf s c g.owner]))) ∧
  (∀ (s : State) (i : Nat) (c : WitCpl), s.rings.witHeld[i]? = some c → s.rings.up = true → cplReady s c = false →
    (c.tb + 5000 ≤ s.tb → ∃ t, exec (.fetchItemWaitExpiry i) s = .next t ∧ t.rings.witHeld = s.rings.witHeld.erase c) ∧ (s.tb < c.tb + 5000 → exec (.fetchItemWaitExpiry i) s = .next s)) ∧
  (∀ (s : State) (w : Nat) (x : WitStalled) (l : List WitStalled), (s.wring w).heldRecs = x :: l → w < s.wit.rings.length →
    (x.since + 5000000 ≤ s.tb → ∃ t, exec (.stallHoldExpiry w) s = .next t ∧ (t.wring w).heldRecs = l ∧ (t.wring w).dropped = (s.wring w).dropped + 1 ∧ (t.wring w).gap.isSome = true)
    ∧ (s.tb < x.since + 5000000 → exec (.stallHoldExpiry w) s = .next s)) ∧
  (∀ (s : State) (w : Nat) (e : WitEntry) (g : WitRing), g = s.wring w → w < s.wit.rings.length → nextEntry s w = some e → g.st ≠ .failed → entryFits g e.elen (if e.kind = 3 then 50048 else 50048 + 128) = true → pathUsable s g.base = true →
    (putEntry w (e.bytes w g) s).1 = .ok → ∃ t, exec (.witnessEntryWrite w) s = .next t ∧ (t.wring w).produced = g.produced + padOf g (e.bytes w g).length + (e.bytes w g).length ∧ (t.wring w).eseq = g.eseq + 1
      ∧ (t.wring w).lastChained = some g.eseq ∧ (t.wring w).prev = Config.shake256 (e.bytes w g) ∧ (e.kind = 4 → (t.wring w).st = .opened) ∧ (e.kind = 1 → (t.wring w).captured = g.captured + 1)) ∧
  (∀ (s : State) (w : Nat), nextEntry s w = none → exec (.witnessEntryWrite w) s = .next s) ∧
  (∀ (s : State) (w : Nat), (s.wring w).st = .opened → 0 < (s.wring w).sinceSeal → s.wit.signing = none → s.wit.sealQueue = [] →
    ((s.wring w).sealTb + 50000000 ≤ s.tb → ∃ t, exec (.sealTimer w) s = .next t ∧ t.wit.signing.map (fun x => (x.ring, x.last)) = some (w, (s.wring w).lastChained) ∧ Keeps [.wit] s t)
    ∧ (s.tb < (s.wring w).sealTb + 50000000 → exec (.sealTimer w) s = .next s)) ∧
  (∀ (s : State) (x : WitSign), s.wit.signing = some x → x.ring < s.wit.rings.length → entryFits (s.wring x.ring) 50048 0 = true → pathUsable s (s.wring x.ring).base = true →
    (putEntry x.ring (sealHead s x ++ Config.slhSign s.fuse.seed (sealHead s x)) s).1 = .ok → ∃ t, exec .sealWrite s = .next t ∧ (t.wring x.ring).sealedTo = x.last ∧ (t.wring x.ring).sealTb = s.tb
      ∧ (t.wring x.ring).eseq = (s.wring x.ring).eseq + 1 ∧ (x.closed = true → (t.wring x.ring).st = .closed)) ∧
  (∀ (s : State), s.wit.signing = none → exec .sealWrite s = .next s)

/-- Security (21 R554, R556 to R563, R566): bytes of a wanted image are gathered and judged, a missing answer is asked for again; HELLO ends
the session and is refused in a lockout; OFFER takes a session number; PROOF starts the session exactly when its signature is right; debug
access needs its scope and reaches memory; a quote completes in its turn. The model's choices it rests on: logs 12, 69, 71. -/
def Obligations.ImagesSessionsAndDebug : Prop :=
  (∀ (s : State) (i o n tk : Nat) (l : List Byte), linkUp s = true → gwServes s = true → s.gw.handoff = some (i, 0) → s.gw.imgReqs = [(i, o, tk, n)] →
    (l ≠ [] → l.length ≤ 4096 → ∃ t, exec (.imgReqResponse i o false l) s = .next t ∧ (match imgVerdict s (s.gw.imgBuf ++ l) with
      | .more => t.gw.imgBuf = s.gw.imgBuf ++ l ∧ t.gw.imgReqs = [(i, (s.gw.imgBuf ++ l).length, s.tb, 0)] ∧ t.gw.handoff = some (i, 0)
      | .verified => t.gw.handoff = some (i, 1) ∧ t.gw.imgReqs = [] ∧ t.gw.imgBuf = s.gw.imgBuf ++ l
      | .rejected _ => t.gw.handoff = none ∧ t.gw.imgReqs = []))
    ∧ (∃ t, exec (.imgReqResponse i o true l) s = .next t ∧ t.gw.handoff = none ∧ t.gw.running = s.gw.running)
    ∧ (tk + 50000000 ≤ s.tb → n < 3 → ∃ t, exec .imgReqResend s = .next t ∧ t.gw.imgReqs = [(i, o, s.tb, n + 1)] ∧ t.gw.imgBuf = s.gw.imgBuf)
    ∧ (tk + 50000000 ≤ s.tb → 3 ≤ n → ∃ t, exec .imgReqResend s = .next t ∧ t.gw.handoff = none)
    ∧ (s.tb < tk + 50000000 → exec .imgReqResend s = .next s)) ∧
  (∀ (s : State) (i o : Nat) (a : Bool) (l : List Byte), s.gw.imgReqs = [] → exec (.imgReqResponse i o a l) s = .next s) ∧
  (∀ (s : State) (h : ChaviHdr) (o : Nat) (l : List Byte), linkUp s = true → clearFront h = .ok → fragFits 1632 1632 o l = true →
    (helloShut s = true → s.sec.session = 0 → ∃ t, exec (.sesHello h 1632 o l) s = .next t ∧ HostAnswered s t h 1632 l.length .notReady [] ∧ t.sec = { s.sec with helloBuf := [] })
    ∧ (helloShut s = false → s.sec.helloBuf = [] → l.length < 1632 → ∃ t, exec (.sesHello h 1632 o l) s = .next t ∧ t.sec.session = 0 ∧ t.sec.offer = none ∧ HostAnswered s t h 1632 l.length .ok [])
    ∧ (helloShut s = false → s.sec.helloBuf = [] → o = 0 → l.length = 1632 → field l 32 1 < s.gw.nhkey → ∃ t, exec (.sesHello h 1632 o l) s = .next t ∧ t.sec.session = 0 ∧ t.sec.hello = some (s.sec.quotes.length, l))) ∧
  (∀ (s : State) (m : List Byte), s.sec.hello = some (0, m) → linkUp s = true → s.sec.session = 0 → ∃ t, exec .sesOfferSend s = .next t ∧ t.sec.hello = none ∧ t.sec.offer.map (fun x => (x.1, x.2.1)) = some (s.sec.nextSession, field m 32 1)
      ∧ t.sec.nextSession = s.sec.nextSession % 4095 + 1 ∧ t.fresh = s.fresh + 2) ∧
  (∀ (s : State), s.sec.hello = none → exec .sesOfferSend s = .next s) ∧
  (∀ (s : State) (h : ChaviHdr) (o no k : Nat) (t1 l : List Byte), linkUp s = true → s.sec.session = 0 → clearFront h = .ok → fragFits 29792 29792 o l = true → s.sec.offer = some (no, k, t1) →
    (assembled 29792 (mset s.sec.proofBuf o l) = none → ∃ t, exec (.sesProof h 29792 o l) s = .next t ∧ HostAnswered s t h 29792 l.length .ok [] ∧ t.sec = { s.sec with proofBuf := mset s.sec.proofBuf o l })
    ∧ (∀ g, assembled 29792 (mset s.sec.proofBuf o l) = some g → ∃ t, exec (.sesProof h 29792 o l) s = .next t ∧ t.sec.offer = none
        ∧ (if Config.slhVerify ((s.gw.imgHdr.drop (0x20 + 64 * k)).take 64) (sesT2 t1) g = true then t.sec.session = no ∧ t.sec.failRun = 0
           else t.sec.session = 0 ∧ t.sec.failRun = s.sec.failRun + 1 ∧ (s.sec.failRun = 4 → t.sec.tamper = true ∧ t.sec.lockUntil = some (s.tb + 500000000))))) ∧
  (∀ (s : State) (d : Nat), s.sec.lockUntil = some d → (d ≤ s.tb → ∃ t, exec .authLockoutEnd s = .next t ∧ t.sec = { s.sec with lockUntil := none } ∧ Keeps [.sec] s t) ∧ (s.tb < d → exec .authLockoutEnd s = .next s)) ∧
  (∀ (s : State) (b : Bool), alive s = true → s.sec.noiseFail ≠ b → ∃ t, exec (.noiseHealthChange b) s = .next t ∧ t.sec.noiseFail = b ∧ Keeps [.sec, .err, .attn, .out, .chavi, .gw, .mbx, .fab] s t) ∧
  (∀ (s : State) (b : Bool), s.sec.noiseFail = b → exec (.noiseHealthChange b) s = .next s) ∧
  (∀ (s : State) (h : ChaviHdr) (a n d u loc : Nat) (l : List Byte), SecureLink s h → dbgFits a n = true → mgmtPlace a = .device d → place s d = .mem u loc →
    (s.sec.scope.getLsbD 0 = true → accessCode s false d n = .ok → ∃ t, exec (.dbgRead h a n) s = .next t ∧ SessionAnswered s t h a 0 .ok (memRead s d n) ∧ Keeps [.sec, .chavi, .out] s t)
    ∧ (s.sec.scope.getLsbD 1 = true → l.length = n → accessCode s true d n = .ok → ∃ t, exec (.dbgWrite h a l) s = .next t ∧ SessionAnswered s t h a n .ok [] ∧ t.mem = (memWrite s d l).mem ∧ Keeps [.mem, .sec, .chavi, .out] s t)
    ∧ (s.sec.scope.getLsbD 0 = false → ∃ t, exec (.dbgRead h a n) s = .next t ∧ SessionAnswered s t h a 0 .cmdDenied [] ∧ Keeps [.sec, .chavi, .out] s t)) ∧
  (∀ (s : State) (h : ChaviHdr) (a : Nat) (l : List Byte), PlainLink s h → ∃ t, exec (.dbgWrite h a l) s = .next t ∧ HostAnswered s t h a l.length .cmdDenied [] ∧ Keeps [.chavi, .out] s t) ∧
  (∀ (s : State) (q : Quote) (l : List Quote), s.sec.quotes = q :: l → gwServes s = true → s.sec.hello = none → ∃ t, exec .quoteSigningComplete s = .next t ∧ t.sec.quotes = l ∧ ∀ k ∈ t.gw.cmds, ¬ (k.wait = wQuote ∧ k.arg = q.cmd)) ∧
  (∀ (s : State), s.sec.quotes = [] → exec .quoteSigningComplete s = .next s)

/-- Registers, attention, and units that leave or return (00 R10; 04 R88, R109; 05 R136; 09 R241; 11 R273; 12 R331; 18 R505, R506, R509; 20 R551;
22 R584 to R591, R596, R597): CLEARBELOW clears the branches whose last record lies below it; a read of the low word of the timebase latches
the high one; an RC read returns its counts and clears them; a W1C write clears what it names; ATTN_N is released 100 µs after the summary
is 0; a failed DIMM loses its pages; a bridge that reloads works again; a recalibration sets the trim of the step in force.
The model's choices it rests on: logs 38, 72, 73, 74. -/
def Obligations.RegistersAndReturningUnits : Prop :=
  (∀ (s : State) (n : Nat), alive s = true → ∃ t, exec (.spnAttnClearbelow n) s = .next t ∧ Keeps [.attn, .chavi, .sec, .out] s t
      ∧ (∀ b, b < 9 → (0 < b ∧ 0 < nth s.attn.lastRec b ∧ nth s.attn.lastRec b < n → nth t.attn.cause b = 0) ∧ (¬ (0 < b ∧ 0 < nth s.attn.lastRec b ∧ nth s.attn.lastRec b < n) → nth t.attn.cause b = nth s.attn.cause b))
      ∧ t.attn.rows = (if 0 < nth s.attn.lastRec 2 ∧ nth s.attn.lastRec 2 < n then 0 else s.attn.rows)
      ∧ t.attn.ports = (if 0 < nth s.attn.lastRec 5 ∧ nth s.attn.lastRec 5 < n then 0 else s.attn.ports)
      ∧ t.attn.mem = (if 0 < nth s.attn.lastRec 6 ∧ nth s.attn.lastRec 6 < n then 0 else s.attn.mem)
      ∧ t.attn.cards = (if 0 < nth s.attn.lastRec 6 ∧ nth s.attn.lastRec 6 < n then 0 else s.attn.cards)
      ∧ t.attn.lastRec = s.attn.lastRec ∧ t.attn.en = s.attn.en) ∧
  (∀ s : State, alive s = true → (∃ t, exec (.spnTbLowRead false) s = .next t ∧ t.out = .value (s.tb % 2 ^ 32) :: s.out ∧ t.clk = { s.clk with tbHiLatch := some (s.tb / 2 ^ 32) } ∧ Keeps [.clk, .out] s t)
    ∧ (∃ t, exec (.spnTbLowRead true) s = .next t ∧ t.out = .value (s.clk.tbHiLatch.getD (s.tb / 2 ^ 32)) :: s.out ∧ t.clk = { s.clk with tbHiLatch := none } ∧ Keeps [.clk, .out] s t)) ∧
  (∀ (s : State) (r : Nat), r < 12 → r < s.rows.length → rowRuns s r = true → (s.row r).st = .active →
    (∀ k, k < 4 → k < (s.row r).tiles.length → ∃ t, exec (.astPlanesRead r k) s = .next t ∧ t.out = .value (rowWord s r (0x2030 + 0x100 * k)) :: s.out ∧ t.tile r k = { s.tile r k with planesRun := 0, planesSkip := 0 } ∧ RowsBut r s t ∧ Keeps [.rows, .out] s t)
    ∧ (∃ t, exec (.scbStatusRead r) s = .next t ∧ t.out = .value (rowWord s r 0) :: s.out ∧ t.row r = { s.row r with hiwat := 0, fullSeen := false } ∧ RowsBut r s t ∧ Keeps [.rows, .out] s t)) ∧
  (∀ (s : State) (r : Nat), alive s = true → r < 12 → ∃ t, exec (.clkRowRead r) s = .next t ∧ t.out = .value (clkRowWord s r) :: s.out ∧ (r < s.clk.rowCnt.length → t.clkRow r = {}) ∧ (∀ q, q ≠ r → t.clkRow q = s.clkRow q) ∧ Keeps [.clk, .out] s t) ∧
  (∀ (s : State) (n : Nat), alive s = true → n < 16 → n < s.wit.rings.length → ∃ t, exec (.witCntRead n) s = .next t ∧ t.out = .value (witWord s n 8) :: s.out ∧ t.wring n = { s.wring n with captured := 0, dropped := 0, itemsLost := 0 } ∧ Keeps [.wit, .out] s t) ∧
  (∀ (s : State) (a b v : Nat), alive s = true → a % 8 = 0 → b < 9 → b < s.attn.cause.length → mgmtPlace a = .spine (0x150 + 8 * b) → ∃ t, exec (.registerWrite a v) s = .next t ∧ nth t.attn.cause b = w1c (nth s.attn.cause b) v
      ∧ (∀ c, c ≠ b → nth t.attn.cause c = nth s.attn.cause c) ∧ Keeps [.attn, .chavi, .sec, .out] s t) ∧
  (∀ (s : State) (a r o v : Nat), alive s = true → a % 8 = 0 → mgmtPlace a = .row r o → rowRuns s r = false → rowIsDark s r = true → exec (.registerWrite a v) s = .next s) ∧
  (∀ (s : State) (a v : Nat), a % 8 ≠ 0 → exec (.registerWrite a v) s = .next s) ∧
  (∀ (s : State) (d : Nat), s.attn.lowSince = some d → summary s = 0 → (d + 5000 ≤ s.tb → ∃ t, exec .attnNRelease s = .next t ∧ t.attn = { s.attn with lowSince := none } ∧ Keeps [.attn] s t) ∧ (s.tb < d + 5000 → exec .attnNRelease s = .next s)) ∧
  (∀ s : State, s.attn.deferred = true → linkUp s = true → attnSpaced s = false → s.sec.session = 0 → summary s ≠ s.attn.lastSent → ∃ t, exec .attnEventDeferred s = .next t ∧ t.out = .chavi { type := 8, arg := 2 ^ 63 + summary s } :: s.out
      ∧ t.attn.lastSent = summary s ∧ t.attn.deferred = false ∧ Keeps [.attn, .chavi, .out] s t) ∧
  (∀ s : State, s.attn.deferred = false → exec .attnEventDeferred s = .next s) ∧
  (∀ (s : State) (d : Nat), alive s = true → d < 16 → 8 + d < s.mem.units.length → (s.memUnit (8 + d)).st = .inService → ∃ t, exec (.dimmFault d) s = .next t ∧ (t.memUnit (8 + d)).st = .failed ∧ 8 + d ∈ t.mem.lostUnits
      ∧ t.mem.cells = s.mem.cells ∧ (∀ k, k / 65536 = 8 + d → mget t.mem.remap k = none → (pageEnt t k).st = .lost)) ∧
  (∀ (s : State) (d : Nat), (s.memUnit (8 + d)).st = .failed → exec (.dimmFault d) s = .next s) ∧
  (∀ (s : State) (p : Nat), alive s = true → p < s.fab.ports.length → portFitted s p = true → nth s.power.presentN p = false → bridgeUp s (portBridge p) = true → s.boot.st = .ready → (s.port p).st ≠ .retraining → (s.port p).st ≠ .absent →
    ∃ t, exec (.qualificationSessionRequest p) s = .next t ∧ (t.port p).st = .retraining ∧ (t.port p).downAt = none) ∧
  (∀ (s : State) (b : Nat) (l : List CardTest), alive s = true → b < 2 → b < s.fab.bridges.length → ((s.bridge b).inReset = true ∨ (s.bridge b).out = true) → bridgePowered s b = true →
    ∃ t, exec (.bridgeReloadComplete b l) s = .next t ∧ bridgeUp t b = true ∧ (t.bridge b).v0 = (s.bridge b).committed ∧ (t.bridge b).act = false ∧ (b = 0 → t.rings.up = true)) ∧
  (∀ (s : State) (b : Nat) (l : List CardTest), (s.bridge b).inReset = false → (s.bridge b).out = false → exec (.bridgeReloadComplete b l) s = .next s) ∧
  (∀ (s : State) (r : Nat) (v : Int), r ∈ s.clk.recalRows → rowRuns s r = true → s.clk.pend = false → ∃ t, exec (.recalibrationComplete false r v) s = .next t ∧ r ∉ t.clk.recalRows
      ∧ t.clk.trims = s.clk.trims.modify r (fun l => l.set s.clk.cur (clampTrim v)) ∧ Keeps [.clk] s t) ∧
  (∀ (s : State) (r d : Nat) (v : Int), s.clk.recalSensors = some d → (d + 4000000 ≤ s.tb → ∃ t, exec (.recalibrationComplete true r v) s = .next t ∧ t.clk = { s.clk with recalSensors := none } ∧ Keeps [.clk] s t)
    ∧ (s.tb < d + 4000000 → exec (.recalibrationComplete true r v) s = .next s))

/-! The machine as a whole. -/

/-- A step (the block's queue; log 16): with a command at the front of the queue, a step is that command's exec on the state with the rest of
the queue; on an empty queue with nothing to resume, one tick of the timebase passes and nothing but the clock and the quiet time that the
power group counts changes. The model's choices it rests on: logs 16, 77. -/
def Obligations.StepRunsTheFrontCommand : Prop :=
  (∀ (c : Instr) (l : List Instr) (s : State), step { s with pending := c :: l } = exec c { s with pending := l }) ∧
  (∀ s : State, s.pending = [] → s.chavi.waiting = [] → s.rings.up = false → s.gw.cmds = [] → s.gw.waiting = [] → s.clk.tbRunning = true →
    ∃ t, step s = .next t ∧ t.tb = (s.tb + 1) % 2 ^ 64 ∧ Keeps [.clk, .cap] s t) ∧
  (∀ (s : State) (n w : Nat), decodeTableWord n w = none → s.withFetchWord n w = s)

/-- Every command completes: it answers a next state, never a fault or a refusal, and changes no field of the state but those that
Instr.touches names; no command changes the queue. The model's choices it rests on: log 17. -/
def Obligations.EveryCommandCompletes : Prop :=
  ∀ (c : Instr) (s : State), ∃ t, exec c s = .next t ∧ Keeps c.touches s t ∧ t.pending = s.pending

/-- The state after reset (02 R40; 03 R75; 04 R86; 05 R116; 12 R305; log 3): power off, the timebase at 0, no bring-up stage run, every row in OFF,
no endpoint, no link, no session, no command waiting, and memory in its canonical form with no byte listed.
The model's choices it rests on: logs 1, 2, 3, 8, 9. -/
def Obligations.ResetLeavesTheModuleUnstarted : Prop :=
  State.reset.Inv ∧ State.reset.pending = [] ∧ State.reset.mem.cells = [] ∧ State.reset.tb = 0 ∧ State.reset.boot.st = .running ∧ State.reset.boot.stage = 0
    ∧ State.reset.rows.length = 12 ∧ (∀ r, (State.reset.row r).scb = [] ∧ (State.reset.row r).progs = []) ∧ State.reset.fab.epBase = none ∧ State.reset.chavi.up = false
    ∧ State.reset.sec.session = 0 ∧ State.reset.power.pwrOk = false ∧ (∀ a n, memRead State.reset a n = List.replicate n 0)

/-- The memory keeps its canonical form (log 8): from every state whose memory is in it, a step leads to one whose memory is.
The model's choices it rests on: log 8. -/
def Obligations.EveryStepKeepsMemoryCanonical : Prop :=
  ∀ s t : State, s.Inv → step s = .next t → t.Inv
end

