-- ==== Sys2Proof/Laws/State.lean ====
section
/-! SUPPORT. One lemma per field per update of State, each true by rfl: what an update of one field reads back, and
that it leaves every other field alone. -/

namespace Sys2Proof.Machine

variable (s : State)

@[simp] theorem State.modPower_power (h) : (s.modPower h).power = h s.power := rfl
@[simp] theorem State.modPower_clk (h) : (s.modPower h).clk = s.clk := rfl
@[simp] theorem State.modPower_rows (h) : (s.modPower h).rows = s.rows := rfl
@[simp] theorem State.modPower_fuse (h) : (s.modPower h).fuse = s.fuse := rfl
@[simp] theorem State.modPower_eeprom (h) : (s.modPower h).eeprom = s.eeprom := rfl
@[simp] theorem State.modPower_boot (h) : (s.modPower h).boot = s.boot := rfl
@[simp] theorem State.modPower_dmap (h) : (s.modPower h).dmap = s.dmap := rfl
@[simp] theorem State.modPower_mem (h) : (s.modPower h).mem = s.mem := rfl
@[simp] theorem State.modPower_fetch (h) : (s.modPower h).fetch = s.fetch := rfl
@[simp] theorem State.modPower_flash (h) : (s.modPower h).flash = s.flash := rfl
@[simp] theorem State.modPower_fab (h) : (s.modPower h).fab = s.fab := rfl
@[simp] theorem State.modPower_chavi (h) : (s.modPower h).chavi = s.chavi := rfl
@[simp] theorem State.modPower_mbx (h) : (s.modPower h).mbx = s.mbx := rfl
@[simp] theorem State.modPower_rings (h) : (s.modPower h).rings = s.rings := rfl
@[simp] theorem State.modPower_gw (h) : (s.modPower h).gw = s.gw := rfl
@[simp] theorem State.modPower_err (h) : (s.modPower h).err = s.err := rfl
@[simp] theorem State.modPower_cap (h) : (s.modPower h).cap = s.cap := rfl
@[simp] theorem State.modPower_therm (h) : (s.modPower h).therm = s.therm := rfl
@[simp] theorem State.modPower_wit (h) : (s.modPower h).wit = s.wit := rfl
@[simp] theorem State.modPower_sec (h) : (s.modPower h).sec = s.sec := rfl
@[simp] theorem State.modPower_attn (h) : (s.modPower h).attn = s.attn := rfl
@[simp] theorem State.modPower_out (h) : (s.modPower h).out = s.out := rfl
@[simp] theorem State.modPower_fresh (h) : (s.modPower h).fresh = s.fresh := rfl
@[simp] theorem State.modPower_pending (h) : (s.modPower h).pending = s.pending := rfl
@[simp] theorem State.modClk_power (h) : (s.modClk h).power = s.power := rfl
@[simp] theorem State.modClk_clk (h) : (s.modClk h).clk = h s.clk := rfl
@[simp] theorem State.modClk_rows (h) : (s.modClk h).rows = s.rows := rfl
@[simp] theorem State.modClk_fuse (h) : (s.modClk h).fuse = s.fuse := rfl
@[simp] theorem State.modClk_eeprom (h) : (s.modClk h).eeprom = s.eeprom := rfl
@[simp] theorem State.modClk_boot (h) : (s.modClk h).boot = s.boot := rfl
@[simp] theorem State.modClk_dmap (h) : (s.modClk h).dmap = s.dmap := rfl
@[simp] theorem State.modClk_mem (h) : (s.modClk h).mem = s.mem := rfl
@[simp] theorem State.modClk_fetch (h) : (s.modClk h).fetch = s.fetch := rfl
@[simp] theorem State.modClk_flash (h) : (s.modClk h).flash = s.flash := rfl
@[simp] theorem State.modClk_fab (h) : (s.modClk h).fab = s.fab := rfl
@[simp] theorem State.modClk_chavi (h) : (s.modClk h).chavi = s.chavi := rfl
@[simp] theorem State.modClk_mbx (h) : (s.modClk h).mbx = s.mbx := rfl
@[simp] theorem State.modClk_rings (h) : (s.modClk h).rings = s.rings := rfl
@[simp] theorem State.modClk_gw (h) : (s.modClk h).gw = s.gw := rfl
@[simp] theorem State.modClk_err (h) : (s.modClk h).err = s.err := rfl
@[simp] theorem State.modClk_cap (h) : (s.modClk h).cap = s.cap := rfl
@[simp] theorem State.modClk_therm (h) : (s.modClk h).therm = s.therm := rfl
@[simp] theorem State.modClk_wit (h) : (s.modClk h).wit = s.wit := rfl
@[simp] theorem State.modClk_sec (h) : (s.modClk h).sec = s.sec := rfl
@[simp] theorem State.modClk_attn (h) : (s.modClk h).attn = s.attn := rfl
@[simp] theorem State.modClk_out (h) : (s.modClk h).out = s.out := rfl
@[simp] theorem State.modClk_fresh (h) : (s.modClk h).fresh = s.fresh := rfl
@[simp] theorem State.modClk_pending (h) : (s.modClk h).pending = s.pending := rfl
@[simp] theorem State.modRows_power (h) : (s.modRows h).power = s.power := rfl
@[simp] theorem State.modRows_clk (h) : (s.modRows h).clk = s.clk := rfl
@[simp] theorem State.modRows_rows (h) : (s.modRows h).rows = h s.rows := rfl
@[simp] theorem State.modRows_fuse (h) : (s.modRows h).fuse = s.fuse := rfl
@[simp] theorem State.modRows_eeprom (h) : (s.modRows h).eeprom = s.eeprom := rfl
@[simp] theorem State.modRows_boot (h) : (s.modRows h).boot = s.boot := rfl
@[simp] theorem State.modRows_dmap (h) : (s.modRows h).dmap = s.dmap := rfl
@[simp] theorem State.modRows_mem (h) : (s.modRows h).mem = s.mem := rfl
@[simp] theorem State.modRows_fetch (h) : (s.modRows h).fetch = s.fetch := rfl
@[simp] theorem State.modRows_flash (h) : (s.modRows h).flash = s.flash := rfl
@[simp] theorem State.modRows_fab (h) : (s.modRows h).fab = s.fab := rfl
@[simp] theorem State.modRows_chavi (h) : (s.modRows h).chavi = s.chavi := rfl
@[simp] theorem State.modRows_mbx (h) : (s.modRows h).mbx = s.mbx := rfl
@[simp] theorem State.modRows_rings (h) : (s.modRows h).rings = s.rings := rfl
@[simp] theorem State.modRows_gw (h) : (s.modRows h).gw = s.gw := rfl
@[simp] theorem State.modRows_err (h) : (s.modRows h).err = s.err := rfl
@[simp] theorem State.modRows_cap (h) : (s.modRows h).cap = s.cap := rfl
@[simp] theorem State.modRows_therm (h) : (s.modRows h).therm = s.therm := rfl
@[simp] theorem State.modRows_wit (h) : (s.modRows h).wit = s.wit := rfl
@[simp] theorem State.modRows_sec (h) : (s.modRows h).sec = s.sec := rfl
@[simp] theorem State.modRows_attn (h) : (s.modRows h).attn = s.attn := rfl
@[simp] theorem State.modRows_out (h) : (s.modRows h).out = s.out := rfl
@[simp] theorem State.modRows_fresh (h) : (s.modRows h).fresh = s.fresh := rfl
@[simp] theorem State.modRows_pending (h) : (s.modRows h).pending = s.pending := rfl
@[simp] theorem State.modFuse_power (h) : (s.modFuse h).power = s.power := rfl
@[simp] theorem State.modFuse_clk (h) : (s.modFuse h).clk = s.clk := rfl
@[simp] theorem State.modFuse_rows (h) : (s.modFuse h).rows = s.rows := rfl
@[simp] theorem State.modFuse_fuse (h) : (s.modFuse h).fuse = h s.fuse := rfl
@[simp] theorem State.modFuse_eeprom (h) : (s.modFuse h).eeprom = s.eeprom := rfl
@[simp] theorem State.modFuse_boot (h) : (s.modFuse h).boot = s.boot := rfl
@[simp] theorem State.modFuse_dmap (h) : (s.modFuse h).dmap = s.dmap := rfl
@[simp] theorem State.modFuse_mem (h) : (s.modFuse h).mem = s.mem := rfl
@[simp] theorem State.modFuse_fetch (h) : (s.modFuse h).fetch = s.fetch := rfl
@[simp] theorem State.modFuse_flash (h) : (s.modFuse h).flash = s.flash := rfl
@[simp] theorem State.modFuse_fab (h) : (s.modFuse h).fab = s.fab := rfl
@[simp] theorem State.modFuse_chavi (h) : (s.modFuse h).chavi = s.chavi := rfl
@[simp] theorem State.modFuse_mbx (h) : (s.modFuse h).mbx = s.mbx := rfl
@[simp] theorem State.modFuse_rings (h) : (s.modFuse h).rings = s.rings := rfl
@[simp] theorem State.modFuse_gw (h) : (s.modFuse h).gw = s.gw := rfl
@[simp] theorem State.modFuse_err (h) : (s.modFuse h).err = s.err := rfl
@[simp] theorem State.modFuse_cap (h) : (s.modFuse h).cap = s.cap := rfl
@[simp] theorem State.modFuse_therm (h) : (s.modFuse h).therm = s.therm := rfl
@[simp] theorem State.modFuse_wit (h) : (s.modFuse h).wit = s.wit := rfl
@[simp] theorem State.modFuse_sec (h) : (s.modFuse h).sec = s.sec := rfl
@[simp] theorem State.modFuse_attn (h) : (s.modFuse h).attn = s.attn := rfl
@[simp] theorem State.modFuse_out (h) : (s.modFuse h).out = s.out := rfl
@[simp] theorem State.modFuse_fresh (h) : (s.modFuse h).fresh = s.fresh := rfl
@[simp] theorem State.modFuse_pending (h) : (s.modFuse h).pending = s.pending := rfl
@[simp] theorem State.modEeprom_power (h) : (s.modEeprom h).power = s.power := rfl
@[simp] theorem State.modEeprom_clk (h) : (s.modEeprom h).clk = s.clk := rfl
@[simp] theorem State.modEeprom_rows (h) : (s.modEeprom h).rows = s.rows := rfl
@[simp] theorem State.modEeprom_fuse (h) : (s.modEeprom h).fuse = s.fuse := rfl
@[simp] theorem State.modEeprom_eeprom (h) : (s.modEeprom h).eeprom = h s.eeprom := rfl
@[simp] theorem State.modEeprom_boot (h) : (s.modEeprom h).boot = s.boot := rfl
@[simp] theorem State.modEeprom_dmap (h) : (s.modEeprom h).dmap = s.dmap := rfl
@[simp] theorem State.modEeprom_mem (h) : (s.modEeprom h).mem = s.mem := rfl
@[simp] theorem State.modEeprom_fetch (h) : (s.modEeprom h).fetch = s.fetch := rfl
@[simp] theorem State.modEeprom_flash (h) : (s.modEeprom h).flash = s.flash := rfl
@[simp] theorem State.modEeprom_fab (h) : (s.modEeprom h).fab = s.fab := rfl
@[simp] theorem State.modEeprom_chavi (h) : (s.modEeprom h).chavi = s.chavi := rfl
@[simp] theorem State.modEeprom_mbx (h) : (s.modEeprom h).mbx = s.mbx := rfl
@[simp] theorem State.modEeprom_rings (h) : (s.modEeprom h).rings = s.rings := rfl
@[simp] theorem State.modEeprom_gw (h) : (s.modEeprom h).gw = s.gw := rfl
@[simp] theorem State.modEeprom_err (h) : (s.modEeprom h).err = s.err := rfl
@[simp] theorem State.modEeprom_cap (h) : (s.modEeprom h).cap = s.cap := rfl
@[simp] theorem State.modEeprom_therm (h) : (s.modEeprom h).therm = s.therm := rfl
@[simp] theorem State.modEeprom_wit (h) : (s.modEeprom h).wit = s.wit := rfl
@[simp] theorem State.modEeprom_sec (h) : (s.modEeprom h).sec = s.sec := rfl
@[simp] theorem State.modEeprom_attn (h) : (s.modEeprom h).attn = s.attn := rfl
@[simp] theorem State.modEeprom_out (h) : (s.modEeprom h).out = s.out := rfl
@[simp] theorem State.modEeprom_fresh (h) : (s.modEeprom h).fresh = s.fresh := rfl
@[simp] theorem State.modEeprom_pending (h) : (s.modEeprom h).pending = s.pending := rfl
@[simp] theorem State.modBoot_power (h) : (s.modBoot h).power = s.power := rfl
@[simp] theorem State.modBoot_clk (h) : (s.modBoot h).clk = s.clk := rfl
@[simp] theorem State.modBoot_rows (h) : (s.modBoot h).rows = s.rows := rfl
@[simp] theorem State.modBoot_fuse (h) : (s.modBoot h).fuse = s.fuse := rfl
@[simp] theorem State.modBoot_eeprom (h) : (s.modBoot h).eeprom = s.eeprom := rfl
@[simp] theorem State.modBoot_boot (h) : (s.modBoot h).boot = h s.boot := rfl
@[simp] theorem State.modBoot_dmap (h) : (s.modBoot h).dmap = s.dmap := rfl
@[simp] theorem State.modBoot_mem (h) : (s.modBoot h).mem = s.mem := rfl
@[simp] theorem State.modBoot_fetch (h) : (s.modBoot h).fetch = s.fetch := rfl
@[simp] theorem State.modBoot_flash (h) : (s.modBoot h).flash = s.flash := rfl
@[simp] theorem State.modBoot_fab (h) : (s.modBoot h).fab = s.fab := rfl
@[simp] theorem State.modBoot_chavi (h) : (s.modBoot h).chavi = s.chavi := rfl
@[simp] theorem State.modBoot_mbx (h) : (s.modBoot h).mbx = s.mbx := rfl
@[simp] theorem State.modBoot_rings (h) : (s.modBoot h).rings = s.rings := rfl
@[simp] theorem State.modBoot_gw (h) : (s.modBoot h).gw = s.gw := rfl
@[simp] theorem State.modBoot_err (h) : (s.modBoot h).err = s.err := rfl
@[simp] theorem State.modBoot_cap (h) : (s.modBoot h).cap = s.cap := rfl
@[simp] theorem State.modBoot_therm (h) : (s.modBoot h).therm = s.therm := rfl
@[simp] theorem State.modBoot_wit (h) : (s.modBoot h).wit = s.wit := rfl
@[simp] theorem State.modBoot_sec (h) : (s.modBoot h).sec = s.sec := rfl
@[simp] theorem State.modBoot_attn (h) : (s.modBoot h).attn = s.attn := rfl
@[simp] theorem State.modBoot_out (h) : (s.modBoot h).out = s.out := rfl
@[simp] theorem State.modBoot_fresh (h) : (s.modBoot h).fresh = s.fresh := rfl
@[simp] theorem State.modBoot_pending (h) : (s.modBoot h).pending = s.pending := rfl
@[simp] theorem State.modDmap_power (h) : (s.modDmap h).power = s.power := rfl
@[simp] theorem State.modDmap_clk (h) : (s.modDmap h).clk = s.clk := rfl
@[simp] theorem State.modDmap_rows (h) : (s.modDmap h).rows = s.rows := rfl
@[simp] theorem State.modDmap_fuse (h) : (s.modDmap h).fuse = s.fuse := rfl
@[simp] theorem State.modDmap_eeprom (h) : (s.modDmap h).eeprom = s.eeprom := rfl
@[simp] theorem State.modDmap_boot (h) : (s.modDmap h).boot = s.boot := rfl
@[simp] theorem State.modDmap_dmap (h) : (s.modDmap h).dmap = h s.dmap := rfl
@[simp] theorem State.modDmap_mem (h) : (s.modDmap h).mem = s.mem := rfl
@[simp] theorem State.modDmap_fetch (h) : (s.modDmap h).fetch = s.fetch := rfl
@[simp] theorem State.modDmap_flash (h) : (s.modDmap h).flash = s.flash := rfl
@[simp] theorem State.modDmap_fab (h) : (s.modDmap h).fab = s.fab := rfl
@[simp] theorem State.modDmap_chavi (h) : (s.modDmap h).chavi = s.chavi := rfl
@[simp] theorem State.modDmap_mbx (h) : (s.modDmap h).mbx = s.mbx := rfl
@[simp] theorem State.modDmap_rings (h) : (s.modDmap h).rings = s.rings := rfl
@[simp] theorem State.modDmap_gw (h) : (s.modDmap h).gw = s.gw := rfl
@[simp] theorem State.modDmap_err (h) : (s.modDmap h).err = s.err := rfl
@[simp] theorem State.modDmap_cap (h) : (s.modDmap h).cap = s.cap := rfl
@[simp] theorem State.modDmap_therm (h) : (s.modDmap h).therm = s.therm := rfl
@[simp] theorem State.modDmap_wit (h) : (s.modDmap h).wit = s.wit := rfl
@[simp] theorem State.modDmap_sec (h) : (s.modDmap h).sec = s.sec := rfl
@[simp] theorem State.modDmap_attn (h) : (s.modDmap h).attn = s.attn := rfl
@[simp] theorem State.modDmap_out (h) : (s.modDmap h).out = s.out := rfl
@[simp] theorem State.modDmap_fresh (h) : (s.modDmap h).fresh = s.fresh := rfl
@[simp] theorem State.modDmap_pending (h) : (s.modDmap h).pending = s.pending := rfl
@[simp] theorem State.modMem_power (h) : (s.modMem h).power = s.power := rfl
@[simp] theorem State.modMem_clk (h) : (s.modMem h).clk = s.clk := rfl
@[simp] theorem State.modMem_rows (h) : (s.modMem h).rows = s.rows := rfl
@[simp] theorem State.modMem_fuse (h) : (s.modMem h).fuse = s.fuse := rfl
@[simp] theorem State.modMem_eeprom (h) : (s.modMem h).eeprom = s.eeprom := rfl
@[simp] theorem State.modMem_boot (h) : (s.modMem h).boot = s.boot := rfl
@[simp] theorem State.modMem_dmap (h) : (s.modMem h).dmap = s.dmap := rfl
@[simp] theorem State.modMem_mem (h) : (s.modMem h).mem = h s.mem := rfl
@[simp] theorem State.modMem_fetch (h) : (s.modMem h).fetch = s.fetch := rfl
@[simp] theorem State.modMem_flash (h) : (s.modMem h).flash = s.flash := rfl
@[simp] theorem State.modMem_fab (h) : (s.modMem h).fab = s.fab := rfl
@[simp] theorem State.modMem_chavi (h) : (s.modMem h).chavi = s.chavi := rfl
@[simp] theorem State.modMem_mbx (h) : (s.modMem h).mbx = s.mbx := rfl
@[simp] theorem State.modMem_rings (h) : (s.modMem h).rings = s.rings := rfl
@[simp] theorem State.modMem_gw (h) : (s.modMem h).gw = s.gw := rfl
@[simp] theorem State.modMem_err (h) : (s.modMem h).err = s.err := rfl
@[simp] theorem State.modMem_cap (h) : (s.modMem h).cap = s.cap := rfl
@[simp] theorem State.modMem_therm (h) : (s.modMem h).therm = s.therm := rfl
@[simp] theorem State.modMem_wit (h) : (s.modMem h).wit = s.wit := rfl
@[simp] theorem State.modMem_sec (h) : (s.modMem h).sec = s.sec := rfl
@[simp] theorem State.modMem_attn (h) : (s.modMem h).attn = s.attn := rfl
@[simp] theorem State.modMem_out (h) : (s.modMem h).out = s.out := rfl
@[simp] theorem State.modMem_fresh (h) : (s.modMem h).fresh = s.fresh := rfl
@[simp] theorem State.modMem_pending (h) : (s.modMem h).pending = s.pending := rfl
@[simp] theorem State.modFetch_power (h) : (s.modFetch h).power = s.power := rfl
@[simp] theorem State.modFetch_clk (h) : (s.modFetch h).clk = s.clk := rfl
@[simp] theorem State.modFetch_rows (h) : (s.modFetch h).rows = s.rows := rfl
@[simp] theorem State.modFetch_fuse (h) : (s.modFetch h).fuse = s.fuse := rfl
@[simp] theorem State.modFetch_eeprom (h) : (s.modFetch h).eeprom = s.eeprom := rfl
@[simp] theorem State.modFetch_boot (h) : (s.modFetch h).boot = s.boot := rfl
@[simp] theorem State.modFetch_dmap (h) : (s.modFetch h).dmap = s.dmap := rfl
@[simp] theorem State.modFetch_mem (h) : (s.modFetch h).mem = s.mem := rfl
@[simp] theorem State.modFetch_fetch (h) : (s.modFetch h).fetch = h s.fetch := rfl
@[simp] theorem State.modFetch_flash (h) : (s.modFetch h).flash = s.flash := rfl
@[simp] theorem State.modFetch_fab (h) : (s.modFetch h).fab = s.fab := rfl
@[simp] theorem State.modFetch_chavi (h) : (s.modFetch h).chavi = s.chavi := rfl
@[simp] theorem State.modFetch_mbx (h) : (s.modFetch h).mbx = s.mbx := rfl
@[simp] theorem State.modFetch_rings (h) : (s.modFetch h).rings = s.rings := rfl
@[simp] theorem State.modFetch_gw (h) : (s.modFetch h).gw = s.gw := rfl
@[simp] theorem State.modFetch_err (h) : (s.modFetch h).err = s.err := rfl
@[simp] theorem State.modFetch_cap (h) : (s.modFetch h).cap = s.cap := rfl
@[simp] theorem State.modFetch_therm (h) : (s.modFetch h).therm = s.therm := rfl
@[simp] theorem State.modFetch_wit (h) : (s.modFetch h).wit = s.wit := rfl
@[simp] theorem State.modFetch_sec (h) : (s.modFetch h).sec = s.sec := rfl
@[simp] theorem State.modFetch_attn (h) : (s.modFetch h).attn = s.attn := rfl
@[simp] theorem State.modFetch_out (h) : (s.modFetch h).out = s.out := rfl
@[simp] theorem State.modFetch_fresh (h) : (s.modFetch h).fresh = s.fresh := rfl
@[simp] theorem State.modFetch_pending (h) : (s.modFetch h).pending = s.pending := rfl
@[simp] theorem State.modFlash_power (h) : (s.modFlash h).power = s.power := rfl
@[simp] theorem State.modFlash_clk (h) : (s.modFlash h).clk = s.clk := rfl
@[simp] theorem State.modFlash_rows (h) : (s.modFlash h).rows = s.rows := rfl
@[simp] theorem State.modFlash_fuse (h) : (s.modFlash h).fuse = s.fuse := rfl
@[simp] theorem State.modFlash_eeprom (h) : (s.modFlash h).eeprom = s.eeprom := rfl
@[simp] theorem State.modFlash_boot (h) : (s.modFlash h).boot = s.boot := rfl
@[simp] theorem State.modFlash_dmap (h) : (s.modFlash h).dmap = s.dmap := rfl
@[simp] theorem State.modFlash_mem (h) : (s.modFlash h).mem = s.mem := rfl
@[simp] theorem State.modFlash_fetch (h) : (s.modFlash h).fetch = s.fetch := rfl
@[simp] theorem State.modFlash_flash (h) : (s.modFlash h).flash = h s.flash := rfl
@[simp] theorem State.modFlash_fab (h) : (s.modFlash h).fab = s.fab := rfl
@[simp] theorem State.modFlash_chavi (h) : (s.modFlash h).chavi = s.chavi := rfl
@[simp] theorem State.modFlash_mbx (h) : (s.modFlash h).mbx = s.mbx := rfl
@[simp] theorem State.modFlash_rings (h) : (s.modFlash h).rings = s.rings := rfl
@[simp] theorem State.modFlash_gw (h) : (s.modFlash h).gw = s.gw := rfl
@[simp] theorem State.modFlash_err (h) : (s.modFlash h).err = s.err := rfl
@[simp] theorem State.modFlash_cap (h) : (s.modFlash h).cap = s.cap := rfl
@[simp] theorem State.modFlash_therm (h) : (s.modFlash h).therm = s.therm := rfl
@[simp] theorem State.modFlash_wit (h) : (s.modFlash h).wit = s.wit := rfl
@[simp] theorem State.modFlash_sec (h) : (s.modFlash h).sec = s.sec := rfl
@[simp] theorem State.modFlash_attn (h) : (s.modFlash h).attn = s.attn := rfl
@[simp] theorem State.modFlash_out (h) : (s.modFlash h).out = s.out := rfl
@[simp] theorem State.modFlash_fresh (h) : (s.modFlash h).fresh = s.fresh := rfl
@[simp] theorem State.modFlash_pending (h) : (s.modFlash h).pending = s.pending := rfl
@[simp] theorem State.modFab_power (h) : (s.modFab h).power = s.power := rfl
@[simp] theorem State.modFab_clk (h) : (s.modFab h).clk = s.clk := rfl
@[simp] theorem State.modFab_rows (h) : (s.modFab h).rows = s.rows := rfl
@[simp] theorem State.modFab_fuse (h) : (s.modFab h).fuse = s.fuse := rfl
@[simp] theorem State.modFab_eeprom (h) : (s.modFab h).eeprom = s.eeprom := rfl
@[simp] theorem State.modFab_boot (h) : (s.modFab h).boot = s.boot := rfl
@[simp] theorem State.modFab_dmap (h) : (s.modFab h).dmap = s.dmap := rfl
@[simp] theorem State.modFab_mem (h) : (s.modFab h).mem = s.mem := rfl
@[simp] theorem State.modFab_fetch (h) : (s.modFab h).fetch = s.fetch := rfl
@[simp] theorem State.modFab_flash (h) : (s.modFab h).flash = s.flash := rfl
@[simp] theorem State.modFab_fab (h) : (s.modFab h).fab = h s.fab := rfl
@[simp] theorem State.modFab_chavi (h) : (s.modFab h).chavi = s.chavi := rfl
@[simp] theorem State.modFab_mbx (h) : (s.modFab h).mbx = s.mbx := rfl
@[simp] theorem State.modFab_rings (h) : (s.modFab h).rings = s.rings := rfl
@[simp] theorem State.modFab_gw (h) : (s.modFab h).gw = s.gw := rfl
@[simp] theorem State.modFab_err (h) : (s.modFab h).err = s.err := rfl
@[simp] theorem State.modFab_cap (h) : (s.modFab h).cap = s.cap := rfl
@[simp] theorem State.modFab_therm (h) : (s.modFab h).therm = s.therm := rfl
@[simp] theorem State.modFab_wit (h) : (s.modFab h).wit = s.wit := rfl
@[simp] theorem State.modFab_sec (h) : (s.modFab h).sec = s.sec := rfl
@[simp] theorem State.modFab_attn (h) : (s.modFab h).attn = s.attn := rfl
@[simp] theorem State.modFab_out (h) : (s.modFab h).out = s.out := rfl
@[simp] theorem State.modFab_fresh (h) : (s.modFab h).fresh = s.fresh := rfl
@[simp] theorem State.modFab_pending (h) : (s.modFab h).pending = s.pending := rfl
@[simp] theorem State.modChavi_power (h) : (s.modChavi h).power = s.power := rfl
@[simp] theorem State.modChavi_clk (h) : (s.modChavi h).clk = s.clk := rfl
@[simp] theorem State.modChavi_rows (h) : (s.modChavi h).rows = s.rows := rfl
@[simp] theorem State.modChavi_fuse (h) : (s.modChavi h).fuse = s.fuse := rfl
@[simp] theorem State.modChavi_eeprom (h) : (s.modChavi h).eeprom = s.eeprom := rfl
@[simp] theorem State.modChavi_boot (h) : (s.modChavi h).boot = s.boot := rfl
@[simp] theorem State.modChavi_dmap (h) : (s.modChavi h).dmap = s.dmap := rfl
@[simp] theorem State.modChavi_mem (h) : (s.modChavi h).mem = s.mem := rfl
@[simp] theorem State.modChavi_fetch (h) : (s.modChavi h).fetch = s.fetch := rfl
@[simp] theorem State.modChavi_flash (h) : (s.modChavi h).flash = s.flash := rfl
@[simp] theorem State.modChavi_fab (h) : (s.modChavi h).fab = s.fab := rfl
@[simp] theorem State.modChavi_chavi (h) : (s.modChavi h).chavi = h s.chavi := rfl
@[simp] theorem State.modChavi_mbx (h) : (s.modChavi h).mbx = s.mbx := rfl
@[simp] theorem State.modChavi_rings (h) : (s.modChavi h).rings = s.rings := rfl
@[simp] theorem State.modChavi_gw (h) : (s.modChavi h).gw = s.gw := rfl
@[simp] theorem State.modChavi_err (h) : (s.modChavi h).err = s.err := rfl
@[simp] theorem State.modChavi_cap (h) : (s.modChavi h).cap = s.cap := rfl
@[simp] theorem State.modChavi_therm (h) : (s.modChavi h).therm = s.therm := rfl
@[simp] theorem State.modChavi_wit (h) : (s.modChavi h).wit = s.wit := rfl
@[simp] theorem State.modChavi_sec (h) : (s.modChavi h).sec = s.sec := rfl
@[simp] theorem State.modChavi_attn (h) : (s.modChavi h).attn = s.attn := rfl
@[simp] theorem State.modChavi_out (h) : (s.modChavi h).out = s.out := rfl
@[simp] theorem State.modChavi_fresh (h) : (s.modChavi h).fresh = s.fresh := rfl
@[simp] theorem State.modChavi_pending (h) : (s.modChavi h).pending = s.pending := rfl
@[simp] theorem State.modMbx_power (h) : (s.modMbx h).power = s.power := rfl
@[simp] theorem State.modMbx_clk (h) : (s.modMbx h).clk = s.clk := rfl
@[simp] theorem State.modMbx_rows (h) : (s.modMbx h).rows = s.rows := rfl
@[simp] theorem State.modMbx_fuse (h) : (s.modMbx h).fuse = s.fuse := rfl
@[simp] theorem State.modMbx_eeprom (h) : (s.modMbx h).eeprom = s.eeprom := rfl
@[simp] theorem State.modMbx_boot (h) : (s.modMbx h).boot = s.boot := rfl
@[simp] theorem State.modMbx_dmap (h) : (s.modMbx h).dmap = s.dmap := rfl
@[simp] theorem State.modMbx_mem (h) : (s.modMbx h).mem = s.mem := rfl
@[simp] theorem State.modMbx_fetch (h) : (s.modMbx h).fetch = s.fetch := rfl
@[simp] theorem State.modMbx_flash (h) : (s.modMbx h).flash = s.flash := rfl
@[simp] theorem State.modMbx_fab (h) : (s.modMbx h).fab = s.fab := rfl
@[simp] theorem State.modMbx_chavi (h) : (s.modMbx h).chavi = s.chavi := rfl
@[simp] theorem State.modMbx_mbx (h) : (s.modMbx h).mbx = h s.mbx := rfl
@[simp] theorem State.modMbx_rings (h) : (s.modMbx h).rings = s.rings := rfl
@[simp] theorem State.modMbx_gw (h) : (s.modMbx h).gw = s.gw := rfl
@[simp] theorem State.modMbx_err (h) : (s.modMbx h).err = s.err := rfl
@[simp] theorem State.modMbx_cap (h) : (s.modMbx h).cap = s.cap := rfl
@[simp] theorem State.modMbx_therm (h) : (s.modMbx h).therm = s.therm := rfl
@[simp] theorem State.modMbx_wit (h) : (s.modMbx h).wit = s.wit := rfl
@[simp] theorem State.modMbx_sec (h) : (s.modMbx h).sec = s.sec := rfl
@[simp] theorem State.modMbx_attn (h) : (s.modMbx h).attn = s.attn := rfl
@[simp] theorem State.modMbx_out (h) : (s.modMbx h).out = s.out := rfl
@[simp] theorem State.modMbx_fresh (h) : (s.modMbx h).fresh = s.fresh := rfl
@[simp] theorem State.modMbx_pending (h) : (s.modMbx h).pending = s.pending := rfl
@[simp] theorem State.modRings_power (h) : (s.modRings h).power = s.power := rfl
@[simp] theorem State.modRings_clk (h) : (s.modRings h).clk = s.clk := rfl
@[simp] theorem State.modRings_rows (h) : (s.modRings h).rows = s.rows := rfl
@[simp] theorem State.modRings_fuse (h) : (s.modRings h).fuse = s.fuse := rfl
@[simp] theorem State.modRings_eeprom (h) : (s.modRings h).eeprom = s.eeprom := rfl
@[simp] theorem State.modRings_boot (h) : (s.modRings h).boot = s.boot := rfl
@[simp] theorem State.modRings_dmap (h) : (s.modRings h).dmap = s.dmap := rfl
@[simp] theorem State.modRings_mem (h) : (s.modRings h).mem = s.mem := rfl
@[simp] theorem State.modRings_fetch (h) : (s.modRings h).fetch = s.fetch := rfl
@[simp] theorem State.modRings_flash (h) : (s.modRings h).flash = s.flash := rfl
@[simp] theorem State.modRings_fab (h) : (s.modRings h).fab = s.fab := rfl
@[simp] theorem State.modRings_chavi (h) : (s.modRings h).chavi = s.chavi := rfl
@[simp] theorem State.modRings_mbx (h) : (s.modRings h).mbx = s.mbx := rfl
@[simp] theorem State.modRings_rings (h) : (s.modRings h).rings = h s.rings := rfl
@[simp] theorem State.modRings_gw (h) : (s.modRings h).gw = s.gw := rfl
@[simp] theorem State.modRings_err (h) : (s.modRings h).err = s.err := rfl
@[simp] theorem State.modRings_cap (h) : (s.modRings h).cap = s.cap := rfl
@[simp] theorem State.modRings_therm (h) : (s.modRings h).therm = s.therm := rfl
@[simp] theorem State.modRings_wit (h) : (s.modRings h).wit = s.wit := rfl
@[simp] theorem State.modRings_sec (h) : (s.modRings h).sec = s.sec := rfl
@[simp] theorem State.modRings_attn (h) : (s.modRings h).attn = s.attn := rfl
@[simp] theorem State.modRings_out (h) : (s.modRings h).out = s.out := rfl
@[simp] theorem State.modRings_fresh (h) : (s.modRings h).fresh = s.fresh := rfl
@[simp] theorem State.modRings_pending (h) : (s.modRings h).pending = s.pending := rfl
@[simp] theorem State.modGw_power (h) : (s.modGw h).power = s.power := rfl
@[simp] theorem State.modGw_clk (h) : (s.modGw h).clk = s.clk := rfl
@[simp] theorem State.modGw_rows (h) : (s.modGw h).rows = s.rows := rfl
@[simp] theorem State.modGw_fuse (h) : (s.modGw h).fuse = s.fuse := rfl
@[simp] theorem State.modGw_eeprom (h) : (s.modGw h).eeprom = s.eeprom := rfl
@[simp] theorem State.modGw_boot (h) : (s.modGw h).boot = s.boot := rfl
@[simp] theorem State.modGw_dmap (h) : (s.modGw h).dmap = s.dmap := rfl
@[simp] theorem State.modGw_mem (h) : (s.modGw h).mem = s.mem := rfl
@[simp] theorem State.modGw_fetch (h) : (s.modGw h).fetch = s.fetch := rfl
@[simp] theorem State.modGw_flash (h) : (s.modGw h).flash = s.flash := rfl
@[simp] theorem State.modGw_fab (h) : (s.modGw h).fab = s.fab := rfl
@[simp] theorem State.modGw_chavi (h) : (s.modGw h).chavi = s.chavi := rfl
@[simp] theorem State.modGw_mbx (h) : (s.modGw h).mbx = s.mbx := rfl
@[simp] theorem State.modGw_rings (h) : (s.modGw h).rings = s.rings := rfl
@[simp] theorem State.modGw_gw (h) : (s.modGw h).gw = h s.gw := rfl
@[simp] theorem State.modGw_err (h) : (s.modGw h).err = s.err := rfl
@[simp] theorem State.modGw_cap (h) : (s.modGw h).cap = s.cap := rfl
@[simp] theorem State.modGw_therm (h) : (s.modGw h).therm = s.therm := rfl
@[simp] theorem State.modGw_wit (h) : (s.modGw h).wit = s.wit := rfl
@[simp] theorem State.modGw_sec (h) : (s.modGw h).sec = s.sec := rfl
@[simp] theorem State.modGw_attn (h) : (s.modGw h).attn = s.attn := rfl
@[simp] theorem State.modGw_out (h) : (s.modGw h).out = s.out := rfl
@[simp] theorem State.modGw_fresh (h) : (s.modGw h).fresh = s.fresh := rfl
@[simp] theorem State.modGw_pending (h) : (s.modGw h).pending = s.pending := rfl
@[simp] theorem State.modErr_power (h) : (s.modErr h).power = s.power := rfl
@[simp] theorem State.modErr_clk (h) : (s.modErr h).clk = s.clk := rfl
@[simp] theorem State.modErr_rows (h) : (s.modErr h).rows = s.rows := rfl
@[simp] theorem State.modErr_fuse (h) : (s.modErr h).fuse = s.fuse := rfl
@[simp] theorem State.modErr_eeprom (h) : (s.modErr h).eeprom = s.eeprom := rfl
@[simp] theorem State.modErr_boot (h) : (s.modErr h).boot = s.boot := rfl
@[simp] theorem State.modErr_dmap (h) : (s.modErr h).dmap = s.dmap := rfl
@[simp] theorem State.modErr_mem (h) : (s.modErr h).mem = s.mem := rfl
@[simp] theorem State.modErr_fetch (h) : (s.modErr h).fetch = s.fetch := rfl
@[simp] theorem State.modErr_flash (h) : (s.modErr h).flash = s.flash := rfl
@[simp] theorem State.modErr_fab (h) : (s.modErr h).fab = s.fab := rfl
@[simp] theorem State.modErr_chavi (h) : (s.modErr h).chavi = s.chavi := rfl
@[simp] theorem State.modErr_mbx (h) : (s.modErr h).mbx = s.mbx := rfl
@[simp] theorem State.modErr_rings (h) : (s.modErr h).rings = s.rings := rfl
@[simp] theorem State.modErr_gw (h) : (s.modErr h).gw = s.gw := rfl
@[simp] theorem State.modErr_err (h) : (s.modErr h).err = h s.err := rfl
@[simp] theorem State.modErr_cap (h) : (s.modErr h).cap = s.cap := rfl
@[simp] theorem State.modErr_therm (h) : (s.modErr h).therm = s.therm := rfl
@[simp] theorem State.modErr_wit (h) : (s.modErr h).wit = s.wit := rfl
@[simp] theorem State.modErr_sec (h) : (s.modErr h).sec = s.sec := rfl
@[simp] theorem State.modErr_attn (h) : (s.modErr h).attn = s.attn := rfl
@[simp] theorem State.modErr_out (h) : (s.modErr h).out = s.out := rfl
@[simp] theorem State.modErr_fresh (h) : (s.modErr h).fresh = s.fresh := rfl
@[simp] theorem State.modErr_pending (h) : (s.modErr h).pending = s.pending := rfl
@[simp] theorem State.modCap_power (h) : (s.modCap h).power = s.power := rfl
@[simp] theorem State.modCap_clk (h) : (s.modCap h).clk = s.clk := rfl
@[simp] theorem State.modCap_rows (h) : (s.modCap h).rows = s.rows := rfl
@[simp] theorem State.modCap_fuse (h) : (s.modCap h).fuse = s.fuse := rfl
@[simp] theorem State.modCap_eeprom (h) : (s.modCap h).eeprom = s.eeprom := rfl
@[simp] theorem State.modCap_boot (h) : (s.modCap h).boot = s.boot := rfl
@[simp] theorem State.modCap_dmap (h) : (s.modCap h).dmap = s.dmap := rfl
@[simp] theorem State.modCap_mem (h) : (s.modCap h).mem = s.mem := rfl
@[simp] theorem State.modCap_fetch (h) : (s.modCap h).fetch = s.fetch := rfl
@[simp] theorem State.modCap_flash (h) : (s.modCap h).flash = s.flash := rfl
@[simp] theorem State.modCap_fab (h) : (s.modCap h).fab = s.fab := rfl
@[simp] theorem State.modCap_chavi (h) : (s.modCap h).chavi = s.chavi := rfl
@[simp] theorem State.modCap_mbx (h) : (s.modCap h).mbx = s.mbx := rfl
@[simp] theorem State.modCap_rings (h) : (s.modCap h).rings = s.rings := rfl
@[simp] theorem State.modCap_gw (h) : (s.modCap h).gw = s.gw := rfl
@[simp] theorem State.modCap_err (h) : (s.modCap h).err = s.err := rfl
@[simp] theorem State.modCap_cap (h) : (s.modCap h).cap = h s.cap := rfl
@[simp] theorem State.modCap_therm (h) : (s.modCap h).therm = s.therm := rfl
@[simp] theorem State.modCap_wit (h) : (s.modCap h).wit = s.wit := rfl
@[simp] theorem State.modCap_sec (h) : (s.modCap h).sec = s.sec := rfl
@[simp] theorem State.modCap_attn (h) : (s.modCap h).attn = s.attn := rfl
@[simp] theorem State.modCap_out (h) : (s.modCap h).out = s.out := rfl
@[simp] theorem State.modCap_fresh (h) : (s.modCap h).fresh = s.fresh := rfl
@[simp] theorem State.modCap_pending (h) : (s.modCap h).pending = s.pending := rfl
@[simp] theorem State.modTherm_power (h) : (s.modTherm h).power = s.power := rfl
@[simp] theorem State.modTherm_clk (h) : (s.modTherm h).clk = s.clk := rfl
@[simp] theorem State.modTherm_rows (h) : (s.modTherm h).rows = s.rows := rfl
@[simp] theorem State.modTherm_fuse (h) : (s.modTherm h).fuse = s.fuse := rfl
@[simp] theorem State.modTherm_eeprom (h) : (s.modTherm h).eeprom = s.eeprom := rfl
@[simp] theorem State.modTherm_boot (h) : (s.modTherm h).boot = s.boot := rfl
@[simp] theorem State.modTherm_dmap (h) : (s.modTherm h).dmap = s.dmap := rfl
@[simp] theorem State.modTherm_mem (h) : (s.modTherm h).mem = s.mem := rfl
@[simp] theorem State.modTherm_fetch (h) : (s.modTherm h).fetch = s.fetch := rfl
@[simp] theorem State.modTherm_flash (h) : (s.modTherm h).flash = s.flash := rfl
@[simp] theorem State.modTherm_fab (h) : (s.modTherm h).fab = s.fab := rfl
@[simp] theorem State.modTherm_chavi (h) : (s.modTherm h).chavi = s.chavi := rfl
@[simp] theorem State.modTherm_mbx (h) : (s.modTherm h).mbx = s.mbx := rfl
@[simp] theorem State.modTherm_rings (h) : (s.modTherm h).rings = s.rings := rfl
@[simp] theorem State.modTherm_gw (h) : (s.modTherm h).gw = s.gw := rfl
@[simp] theorem State.modTherm_err (h) : (s.modTherm h).err = s.err := rfl
@[simp] theorem State.modTherm_cap (h) : (s.modTherm h).cap = s.cap := rfl
@[simp] theorem State.modTherm_therm (h) : (s.modTherm h).therm = h s.therm := rfl
@[simp] theorem State.modTherm_wit (h) : (s.modTherm h).wit = s.wit := rfl
@[simp] theorem State.modTherm_sec (h) : (s.modTherm h).sec = s.sec := rfl
@[simp] theorem State.modTherm_attn (h) : (s.modTherm h).attn = s.attn := rfl
@[simp] theorem State.modTherm_out (h) : (s.modTherm h).out = s.out := rfl
@[simp] theorem State.modTherm_fresh (h) : (s.modTherm h).fresh = s.fresh := rfl
@[simp] theorem State.modTherm_pending (h) : (s.modTherm h).pending = s.pending := rfl
@[simp] theorem State.modWit_power (h) : (s.modWit h).power = s.power := rfl
@[simp] theorem State.modWit_clk (h) : (s.modWit h).clk = s.clk := rfl
@[simp] theorem State.modWit_rows (h) : (s.modWit h).rows = s.rows := rfl
@[simp] theorem State.modWit_fuse (h) : (s.modWit h).fuse = s.fuse := rfl
@[simp] theorem State.modWit_eeprom (h) : (s.modWit h).eeprom = s.eeprom := rfl
@[simp] theorem State.modWit_boot (h) : (s.modWit h).boot = s.boot := rfl
@[simp] theorem State.modWit_dmap (h) : (s.modWit h).dmap = s.dmap := rfl
@[simp] theorem State.modWit_mem (h) : (s.modWit h).mem = s.mem := rfl
@[simp] theorem State.modWit_fetch (h) : (s.modWit h).fetch = s.fetch := rfl
@[simp] theorem State.modWit_flash (h) : (s.modWit h).flash = s.flash := rfl
@[simp] theorem State.modWit_fab (h) : (s.modWit h).fab = s.fab := rfl
@[simp] theorem State.modWit_chavi (h) : (s.modWit h).chavi = s.chavi := rfl
@[simp] theorem State.modWit_mbx (h) : (s.modWit h).mbx = s.mbx := rfl
@[simp] theorem State.modWit_rings (h) : (s.modWit h).rings = s.rings := rfl
@[simp] theorem State.modWit_gw (h) : (s.modWit h).gw = s.gw := rfl
@[simp] theorem State.modWit_err (h) : (s.modWit h).err = s.err := rfl
@[simp] theorem State.modWit_cap (h) : (s.modWit h).cap = s.cap := rfl
@[simp] theorem State.modWit_therm (h) : (s.modWit h).therm = s.therm := rfl
@[simp] theorem State.modWit_wit (h) : (s.modWit h).wit = h s.wit := rfl
@[simp] theorem State.modWit_sec (h) : (s.modWit h).sec = s.sec := rfl
@[simp] theorem State.modWit_attn (h) : (s.modWit h).attn = s.attn := rfl
@[simp] theorem State.modWit_out (h) : (s.modWit h).out = s.out := rfl
@[simp] theorem State.modWit_fresh (h) : (s.modWit h).fresh = s.fresh := rfl
@[simp] theorem State.modWit_pending (h) : (s.modWit h).pending = s.pending := rfl
@[simp] theorem State.modSec_power (h) : (s.modSec h).power = s.power := rfl
@[simp] theorem State.modSec_clk (h) : (s.modSec h).clk = s.clk := rfl
@[simp] theorem State.modSec_rows (h) : (s.modSec h).rows = s.rows := rfl
@[simp] theorem State.modSec_fuse (h) : (s.modSec h).fuse = s.fuse := rfl
@[simp] theorem State.modSec_eeprom (h) : (s.modSec h).eeprom = s.eeprom := rfl
@[simp] theorem State.modSec_boot (h) : (s.modSec h).boot = s.boot := rfl
@[simp] theorem State.modSec_dmap (h) : (s.modSec h).dmap = s.dmap := rfl
@[simp] theorem State.modSec_mem (h) : (s.modSec h).mem = s.mem := rfl
@[simp] theorem State.modSec_fetch (h) : (s.modSec h).fetch = s.fetch := rfl
@[simp] theorem State.modSec_flash (h) : (s.modSec h).flash = s.flash := rfl
@[simp] theorem State.modSec_fab (h) : (s.modSec h).fab = s.fab := rfl
@[simp] theorem State.modSec_chavi (h) : (s.modSec h).chavi = s.chavi := rfl
@[simp] theorem State.modSec_mbx (h) : (s.modSec h).mbx = s.mbx := rfl
@[simp] theorem State.modSec_rings (h) : (s.modSec h).rings = s.rings := rfl
@[simp] theorem State.modSec_gw (h) : (s.modSec h).gw = s.gw := rfl
@[simp] theorem State.modSec_err (h) : (s.modSec h).err = s.err := rfl
@[simp] theorem State.modSec_cap (h) : (s.modSec h).cap = s.cap := rfl
@[simp] theorem State.modSec_therm (h) : (s.modSec h).therm = s.therm := rfl
@[simp] theorem State.modSec_wit (h) : (s.modSec h).wit = s.wit := rfl
@[simp] theorem State.modSec_sec (h) : (s.modSec h).sec = h s.sec := rfl
@[simp] theorem State.modSec_attn (h) : (s.modSec h).attn = s.attn := rfl
@[simp] theorem State.modSec_out (h) : (s.modSec h).out = s.out := rfl
@[simp] theorem State.modSec_fresh (h) : (s.modSec h).fresh = s.fresh := rfl
@[simp] theorem State.modSec_pending (h) : (s.modSec h).pending = s.pending := rfl
@[simp] theorem State.modAttn_power (h) : (s.modAttn h).power = s.power := rfl
@[simp] theorem State.modAttn_clk (h) : (s.modAttn h).clk = s.clk := rfl
@[simp] theorem State.modAttn_rows (h) : (s.modAttn h).rows = s.rows := rfl
@[simp] theorem State.modAttn_fuse (h) : (s.modAttn h).fuse = s.fuse := rfl
@[simp] theorem State.modAttn_eeprom (h) : (s.modAttn h).eeprom = s.eeprom := rfl
@[simp] theorem State.modAttn_boot (h) : (s.modAttn h).boot = s.boot := rfl
@[simp] theorem State.modAttn_dmap (h) : (s.modAttn h).dmap = s.dmap := rfl
@[simp] theorem State.modAttn_mem (h) : (s.modAttn h).mem = s.mem := rfl
@[simp] theorem State.modAttn_fetch (h) : (s.modAttn h).fetch = s.fetch := rfl
@[simp] theorem State.modAttn_flash (h) : (s.modAttn h).flash = s.flash := rfl
@[simp] theorem State.modAttn_fab (h) : (s.modAttn h).fab = s.fab := rfl
@[simp] theorem State.modAttn_chavi (h) : (s.modAttn h).chavi = s.chavi := rfl
@[simp] theorem State.modAttn_mbx (h) : (s.modAttn h).mbx = s.mbx := rfl
@[simp] theorem State.modAttn_rings (h) : (s.modAttn h).rings = s.rings := rfl
@[simp] theorem State.modAttn_gw (h) : (s.modAttn h).gw = s.gw := rfl
@[simp] theorem State.modAttn_err (h) : (s.modAttn h).err = s.err := rfl
@[simp] theorem State.modAttn_cap (h) : (s.modAttn h).cap = s.cap := rfl
@[simp] theorem State.modAttn_therm (h) : (s.modAttn h).therm = s.therm := rfl
@[simp] theorem State.modAttn_wit (h) : (s.modAttn h).wit = s.wit := rfl
@[simp] theorem State.modAttn_sec (h) : (s.modAttn h).sec = s.sec := rfl
@[simp] theorem State.modAttn_attn (h) : (s.modAttn h).attn = h s.attn := rfl
@[simp] theorem State.modAttn_out (h) : (s.modAttn h).out = s.out := rfl
@[simp] theorem State.modAttn_fresh (h) : (s.modAttn h).fresh = s.fresh := rfl
@[simp] theorem State.modAttn_pending (h) : (s.modAttn h).pending = s.pending := rfl
@[simp] theorem State.modOut_power (h) : (s.modOut h).power = s.power := rfl
@[simp] theorem State.modOut_clk (h) : (s.modOut h).clk = s.clk := rfl
@[simp] theorem State.modOut_rows (h) : (s.modOut h).rows = s.rows := rfl
@[simp] theorem State.modOut_fuse (h) : (s.modOut h).fuse = s.fuse := rfl
@[simp] theorem State.modOut_eeprom (h) : (s.modOut h).eeprom = s.eeprom := rfl
@[simp] theorem State.modOut_boot (h) : (s.modOut h).boot = s.boot := rfl
@[simp] theorem State.modOut_dmap (h) : (s.modOut h).dmap = s.dmap := rfl
@[simp] theorem State.modOut_mem (h) : (s.modOut h).mem = s.mem := rfl
@[simp] theorem State.modOut_fetch (h) : (s.modOut h).fetch = s.fetch := rfl
@[simp] theorem State.modOut_flash (h) : (s.modOut h).flash = s.flash := rfl
@[simp] theorem State.modOut_fab (h) : (s.modOut h).fab = s.fab := rfl
@[simp] theorem State.modOut_chavi (h) : (s.modOut h).chavi = s.chavi := rfl
@[simp] theorem State.modOut_mbx (h) : (s.modOut h).mbx = s.mbx := rfl
@[simp] theorem State.modOut_rings (h) : (s.modOut h).rings = s.rings := rfl
@[simp] theorem State.modOut_gw (h) : (s.modOut h).gw = s.gw := rfl
@[simp] theorem State.modOut_err (h) : (s.modOut h).err = s.err := rfl
@[simp] theorem State.modOut_cap (h) : (s.modOut h).cap = s.cap := rfl
@[simp] theorem State.modOut_therm (h) : (s.modOut h).therm = s.therm := rfl
@[simp] theorem State.modOut_wit (h) : (s.modOut h).wit = s.wit := rfl
@[simp] theorem State.modOut_sec (h) : (s.modOut h).sec = s.sec := rfl
@[simp] theorem State.modOut_attn (h) : (s.modOut h).attn = s.attn := rfl
@[simp] theorem State.modOut_out (h) : (s.modOut h).out = h s.out := rfl
@[simp] theorem State.modOut_fresh (h) : (s.modOut h).fresh = s.fresh := rfl
@[simp] theorem State.modOut_pending (h) : (s.modOut h).pending = s.pending := rfl
@[simp] theorem State.modFresh_power (h) : (s.modFresh h).power = s.power := rfl
@[simp] theorem State.modFresh_clk (h) : (s.modFresh h).clk = s.clk := rfl
@[simp] theorem State.modFresh_rows (h) : (s.modFresh h).rows = s.rows := rfl
@[simp] theorem State.modFresh_fuse (h) : (s.modFresh h).fuse = s.fuse := rfl
@[simp] theorem State.modFresh_eeprom (h) : (s.modFresh h).eeprom = s.eeprom := rfl
@[simp] theorem State.modFresh_boot (h) : (s.modFresh h).boot = s.boot := rfl
@[simp] theorem State.modFresh_dmap (h) : (s.modFresh h).dmap = s.dmap := rfl
@[simp] theorem State.modFresh_mem (h) : (s.modFresh h).mem = s.mem := rfl
@[simp] theorem State.modFresh_fetch (h) : (s.modFresh h).fetch = s.fetch := rfl
@[simp] theorem State.modFresh_flash (h) : (s.modFresh h).flash = s.flash := rfl
@[simp] theorem State.modFresh_fab (h) : (s.modFresh h).fab = s.fab := rfl
@[simp] theorem State.modFresh_chavi (h) : (s.modFresh h).chavi = s.chavi := rfl
@[simp] theorem State.modFresh_mbx (h) : (s.modFresh h).mbx = s.mbx := rfl
@[simp] theorem State.modFresh_rings (h) : (s.modFresh h).rings = s.rings := rfl
@[simp] theorem State.modFresh_gw (h) : (s.modFresh h).gw = s.gw := rfl
@[simp] theorem State.modFresh_err (h) : (s.modFresh h).err = s.err := rfl
@[simp] theorem State.modFresh_cap (h) : (s.modFresh h).cap = s.cap := rfl
@[simp] theorem State.modFresh_therm (h) : (s.modFresh h).therm = s.therm := rfl
@[simp] theorem State.modFresh_wit (h) : (s.modFresh h).wit = s.wit := rfl
@[simp] theorem State.modFresh_sec (h) : (s.modFresh h).sec = s.sec := rfl
@[simp] theorem State.modFresh_attn (h) : (s.modFresh h).attn = s.attn := rfl
@[simp] theorem State.modFresh_out (h) : (s.modFresh h).out = s.out := rfl
@[simp] theorem State.modFresh_fresh (h) : (s.modFresh h).fresh = h s.fresh := rfl
@[simp] theorem State.modFresh_pending (h) : (s.modFresh h).pending = s.pending := rfl
@[simp] theorem State.modPending_power (h) : (s.modPending h).power = s.power := rfl
@[simp] theorem State.modPending_clk (h) : (s.modPending h).clk = s.clk := rfl
@[simp] theorem State.modPending_rows (h) : (s.modPending h).rows = s.rows := rfl
@[simp] theorem State.modPending_fuse (h) : (s.modPending h).fuse = s.fuse := rfl
@[simp] theorem State.modPending_eeprom (h) : (s.modPending h).eeprom = s.eeprom := rfl
@[simp] theorem State.modPending_boot (h) : (s.modPending h).boot = s.boot := rfl
@[simp] theorem State.modPending_dmap (h) : (s.modPending h).dmap = s.dmap := rfl
@[simp] theorem State.modPending_mem (h) : (s.modPending h).mem = s.mem := rfl
@[simp] theorem State.modPending_fetch (h) : (s.modPending h).fetch = s.fetch := rfl
@[simp] theorem State.modPending_flash (h) : (s.modPending h).flash = s.flash := rfl
@[simp] theorem State.modPending_fab (h) : (s.modPending h).fab = s.fab := rfl
@[simp] theorem State.modPending_chavi (h) : (s.modPending h).chavi = s.chavi := rfl
@[simp] theorem State.modPending_mbx (h) : (s.modPending h).mbx = s.mbx := rfl
@[simp] theorem State.modPending_rings (h) : (s.modPending h).rings = s.rings := rfl
@[simp] theorem State.modPending_gw (h) : (s.modPending h).gw = s.gw := rfl
@[simp] theorem State.modPending_err (h) : (s.modPending h).err = s.err := rfl
@[simp] theorem State.modPending_cap (h) : (s.modPending h).cap = s.cap := rfl
@[simp] theorem State.modPending_therm (h) : (s.modPending h).therm = s.therm := rfl
@[simp] theorem State.modPending_wit (h) : (s.modPending h).wit = s.wit := rfl
@[simp] theorem State.modPending_sec (h) : (s.modPending h).sec = s.sec := rfl
@[simp] theorem State.modPending_attn (h) : (s.modPending h).attn = s.attn := rfl
@[simp] theorem State.modPending_out (h) : (s.modPending h).out = s.out := rfl
@[simp] theorem State.modPending_fresh (h) : (s.modPending h).fresh = s.fresh := rfl
@[simp] theorem State.modPending_pending (h) : (s.modPending h).pending = h s.pending := rfl

end Sys2Proof.Machine
end

