-- ==== Sys2Proof/Laws/Keeps.lean ====
section
/-! SUPPORT. Keeps: reflexive, transitive, monotone, and what the updates of the state's fields keep. Each lemma strips one
operation from the state a Keeps goal is about. -/

namespace Sys2Proof.Machine

variable {l : List Fld} {s0 s t u : State}

@[simp] theorem Keeps.rfl' : Keeps l s s := by intro f _; cases f <;> rfl

theorem Keeps.trans (h : Keeps l s t) (g : Keeps l t u) : Keeps l s u := by
  intro f hf; have a := h f hf; have b := g f hf; cases f <;> exact Eq.trans b a

theorem Keeps.mono {m : List Fld} (h : Keeps l s t) (g : l ⊆ m) : Keeps m s t := fun f hf => h f (fun k => hf (g k))

/-- Two states that agree outside l are kept by the same states. -/
theorem keeps_congr (h : ∀ f, f ∉ l → f.same s t) : Keeps l s0 t ↔ Keeps l s0 s := by
  constructor
  · intro g f hf; have a := h f hf; have b := g f hf; cases f <;> exact Eq.trans (Eq.symm a) b
  · intro g; exact g.trans h

/-- Keeps, field by field. -/
theorem keeps_iff : Keeps l s t ↔
    (.power ∉ l → t.power = s.power) ∧
    (.clk ∉ l → t.clk = s.clk) ∧
    (.rows ∉ l → t.rows = s.rows) ∧
    (.fuse ∉ l → t.fuse = s.fuse) ∧
    (.eeprom ∉ l → t.eeprom = s.eeprom) ∧
    (.boot ∉ l → t.boot = s.boot) ∧
    (.dmap ∉ l → t.dmap = s.dmap) ∧
    (.mem ∉ l → t.mem = s.mem) ∧
    (.fetch ∉ l → t.fetch = s.fetch) ∧
    (.flash ∉ l → t.flash = s.flash) ∧
    (.fab ∉ l → t.fab = s.fab) ∧
    (.chavi ∉ l → t.chavi = s.chavi) ∧
    (.mbx ∉ l → t.mbx = s.mbx) ∧
    (.rings ∉ l → t.rings = s.rings) ∧
    (.gw ∉ l → t.gw = s.gw) ∧
    (.err ∉ l → t.err = s.err) ∧
    (.cap ∉ l → t.cap = s.cap) ∧
    (.therm ∉ l → t.therm = s.therm) ∧
    (.wit ∉ l → t.wit = s.wit) ∧
    (.sec ∉ l → t.sec = s.sec) ∧
    (.attn ∉ l → t.attn = s.attn) ∧
    (.out ∉ l → t.out = s.out) ∧
    (.fresh ∉ l → t.fresh = s.fresh) ∧
    (.pending ∉ l → t.pending = s.pending) := by
  constructor
  · intro h; exact ⟨h .power, h .clk, h .rows, h .fuse, h .eeprom, h .boot, h .dmap, h .mem, h .fetch, h .flash, h .fab, h .chavi, h .mbx, h .rings, h .gw, h .err, h .cap, h .therm, h .wit, h .sec, h .attn, h .out, h .fresh, h .pending⟩
  · rintro ⟨h0, h1, h2, h3, h4, h5, h6, h7, h8, h9, h10, h11, h12, h13, h14, h15, h16, h17, h18, h19, h20, h21, h22, h23⟩ f hf
    cases f
    · exact h0 hf
    · exact h1 hf
    · exact h2 hf
    · exact h3 hf
    · exact h4 hf
    · exact h5 hf
    · exact h6 hf
    · exact h7 hf
    · exact h8 hf
    · exact h9 hf
    · exact h10 hf
    · exact h11 hf
    · exact h12 hf
    · exact h13 hf
    · exact h14 hf
    · exact h15 hf
    · exact h16 hf
    · exact h17 hf
    · exact h18 hf
    · exact h19 hf
    · exact h20 hf
    · exact h21 hf
    · exact h22 hf
    · exact h23 hf

@[simp] theorem keeps_modPower (h) (hl : Fld.power ∈ l) : Keeps l s0 (s.modPower h) ↔ Keeps l s0 s :=
  keeps_congr (fun f hf => by cases f <;> first | exact absurd hl hf | rfl)
@[simp] theorem keeps_set_power (x) (hl : Fld.power ∈ l) : Keeps l s0 { s with power := x } ↔ Keeps l s0 s :=
  keeps_congr (fun f hf => by cases f <;> first | exact absurd hl hf | rfl)
@[simp] theorem keeps_modClk (h) (hl : Fld.clk ∈ l) : Keeps l s0 (s.modClk h) ↔ Keeps l s0 s :=
  keeps_congr (fun f hf => by cases f <;> first | exact absurd hl hf | rfl)
@[simp] theorem keeps_set_clk (x) (hl : Fld.clk ∈ l) : Keeps l s0 { s with clk := x } ↔ Keeps l s0 s :=
  keeps_congr (fun f hf => by cases f <;> first | exact absurd hl hf | rfl)
@[simp] theorem keeps_modRows (h) (hl : Fld.rows ∈ l) : Keeps l s0 (s.modRows h) ↔ Keeps l s0 s :=
  keeps_congr (fun f hf => by cases f <;> first | exact absurd hl hf | rfl)
@[simp] theorem keeps_set_rows (x) (hl : Fld.rows ∈ l) : Keeps l s0 { s with rows := x } ↔ Keeps l s0 s :=
  keeps_congr (fun f hf => by cases f <;> first | exact absurd hl hf | rfl)
@[simp] theorem keeps_modFuse (h) (hl : Fld.fuse ∈ l) : Keeps l s0 (s.modFuse h) ↔ Keeps l s0 s :=
  keeps_congr (fun f hf => by cases f <;> first | exact absurd hl hf | rfl)
@[simp] theorem keeps_set_fuse (x) (hl : Fld.fuse ∈ l) : Keeps l s0 { s with fuse := x } ↔ Keeps l s0 s :=
  keeps_congr (fun f hf => by cases f <;> first | exact absurd hl hf | rfl)
@[simp] theorem keeps_modEeprom (h) (hl : Fld.eeprom ∈ l) : Keeps l s0 (s.modEeprom h) ↔ Keeps l s0 s :=
  keeps_congr (fun f hf => by cases f <;> first | exact absurd hl hf | rfl)
@[simp] theorem keeps_set_eeprom (x) (hl : Fld.eeprom ∈ l) : Keeps l s0 { s with eeprom := x } ↔ Keeps l s0 s :=
  keeps_congr (fun f hf => by cases f <;> first | exact absurd hl hf | rfl)
@[simp] theorem keeps_modBoot (h) (hl : Fld.boot ∈ l) : Keeps l s0 (s.modBoot h) ↔ Keeps l s0 s :=
  keeps_congr (fun f hf => by cases f <;> first | exact absurd hl hf | rfl)
@[simp] theorem keeps_set_boot (x) (hl : Fld.boot ∈ l) : Keeps l s0 { s with boot := x } ↔ Keeps l s0 s :=
  keeps_congr (fun f hf => by cases f <;> first | exact absurd hl hf | rfl)
@[simp] theorem keeps_modDmap (h) (hl : Fld.dmap ∈ l) : Keeps l s0 (s.modDmap h) ↔ Keeps l s0 s :=
  keeps_congr (fun f hf => by cases f <;> first | exact absurd hl hf | rfl)
@[simp] theorem keeps_set_dmap (x) (hl : Fld.dmap ∈ l) : Keeps l s0 { s with dmap := x } ↔ Keeps l s0 s :=
  keeps_congr (fun f hf => by cases f <;> first | exact absurd hl hf | rfl)
@[simp] theorem keeps_modMem (h) (hl : Fld.mem ∈ l) : Keeps l s0 (s.modMem h) ↔ Keeps l s0 s :=
  keeps_congr (fun f hf => by cases f <;> first | exact absurd hl hf | rfl)
@[simp] theorem keeps_set_mem (x) (hl : Fld.mem ∈ l) : Keeps l s0 { s with mem := x } ↔ Keeps l s0 s :=
  keeps_congr (fun f hf => by cases f <;> first | exact absurd hl hf | rfl)
@[simp] theorem keeps_modFetch (h) (hl : Fld.fetch ∈ l) : Keeps l s0 (s.modFetch h) ↔ Keeps l s0 s :=
  keeps_congr (fun f hf => by cases f <;> first | exact absurd hl hf | rfl)
@[simp] theorem keeps_set_fetch (x) (hl : Fld.fetch ∈ l) : Keeps l s0 { s with fetch := x } ↔ Keeps l s0 s :=
  keeps_congr (fun f hf => by cases f <;> first | exact absurd hl hf | rfl)
@[simp] theorem keeps_modFlash (h) (hl : Fld.flash ∈ l) : Keeps l s0 (s.modFlash h) ↔ Keeps l s0 s :=
  keeps_congr (fun f hf => by cases f <;> first | exact absurd hl hf | rfl)
@[simp] theorem keeps_set_flash (x) (hl : Fld.flash ∈ l) : Keeps l s0 { s with flash := x } ↔ Keeps l s0 s :=
  keeps_congr (fun f hf => by cases f <;> first | exact absurd hl hf | rfl)
@[simp] theorem keeps_modFab (h) (hl : Fld.fab ∈ l) : Keeps l s0 (s.modFab h) ↔ Keeps l s0 s :=
  keeps_congr (fun f hf => by cases f <;> first | exact absurd hl hf | rfl)
@[simp] theorem keeps_set_fab (x) (hl : Fld.fab ∈ l) : Keeps l s0 { s with fab := x } ↔ Keeps l s0 s :=
  keeps_congr (fun f hf => by cases f <;> first | exact absurd hl hf | rfl)
@[simp] theorem keeps_modChavi (h) (hl : Fld.chavi ∈ l) : Keeps l s0 (s.modChavi h) ↔ Keeps l s0 s :=
  keeps_congr (fun f hf => by cases f <;> first | exact absurd hl hf | rfl)
@[simp] theorem keeps_set_chavi (x) (hl : Fld.chavi ∈ l) : Keeps l s0 { s with chavi := x } ↔ Keeps l s0 s :=
  keeps_congr (fun f hf => by cases f <;> first | exact absurd hl hf | rfl)
@[simp] theorem keeps_modMbx (h) (hl : Fld.mbx ∈ l) : Keeps l s0 (s.modMbx h) ↔ Keeps l s0 s :=
  keeps_congr (fun f hf => by cases f <;> first | exact absurd hl hf | rfl)
@[simp] theorem keeps_set_mbx (x) (hl : Fld.mbx ∈ l) : Keeps l s0 { s with mbx := x } ↔ Keeps l s0 s :=
  keeps_congr (fun f hf => by cases f <;> first | exact absurd hl hf | rfl)
@[simp] theorem keeps_modRings (h) (hl : Fld.rings ∈ l) : Keeps l s0 (s.modRings h) ↔ Keeps l s0 s :=
  keeps_congr (fun f hf => by cases f <;> first | exact absurd hl hf | rfl)
@[simp] theorem keeps_set_rings (x) (hl : Fld.rings ∈ l) : Keeps l s0 { s with rings := x } ↔ Keeps l s0 s :=
  keeps_congr (fun f hf => by cases f <;> first | exact absurd hl hf | rfl)
@[simp] theorem keeps_modGw (h) (hl : Fld.gw ∈ l) : Keeps l s0 (s.modGw h) ↔ Keeps l s0 s :=
  keeps_congr (fun f hf => by cases f <;> first | exact absurd hl hf | rfl)
@[simp] theorem keeps_set_gw (x) (hl : Fld.gw ∈ l) : Keeps l s0 { s with gw := x } ↔ Keeps l s0 s :=
  keeps_congr (fun f hf => by cases f <;> first | exact absurd hl hf | rfl)
@[simp] theorem keeps_modErr (h) (hl : Fld.err ∈ l) : Keeps l s0 (s.modErr h) ↔ Keeps l s0 s :=
  keeps_congr (fun f hf => by cases f <;> first | exact absurd hl hf | rfl)
@[simp] theorem keeps_set_err (x) (hl : Fld.err ∈ l) : Keeps l s0 { s with err := x } ↔ Keeps l s0 s :=
  keeps_congr (fun f hf => by cases f <;> first | exact absurd hl hf | rfl)
@[simp] theorem keeps_modCap (h) (hl : Fld.cap ∈ l) : Keeps l s0 (s.modCap h) ↔ Keeps l s0 s :=
  keeps_congr (fun f hf => by cases f <;> first | exact absurd hl hf | rfl)
@[simp] theorem keeps_set_cap (x) (hl : Fld.cap ∈ l) : Keeps l s0 { s with cap := x } ↔ Keeps l s0 s :=
  keeps_congr (fun f hf => by cases f <;> first | exact absurd hl hf | rfl)
@[simp] theorem keeps_modTherm (h) (hl : Fld.therm ∈ l) : Keeps l s0 (s.modTherm h) ↔ Keeps l s0 s :=
  keeps_congr (fun f hf => by cases f <;> first | exact absurd hl hf | rfl)
@[simp] theorem keeps_set_therm (x) (hl : Fld.therm ∈ l) : Keeps l s0 { s with therm := x } ↔ Keeps l s0 s :=
  keeps_congr (fun f hf => by cases f <;> first | exact absurd hl hf | rfl)
@[simp] theorem keeps_modWit (h) (hl : Fld.wit ∈ l) : Keeps l s0 (s.modWit h) ↔ Keeps l s0 s :=
  keeps_congr (fun f hf => by cases f <;> first | exact absurd hl hf | rfl)
@[simp] theorem keeps_set_wit (x) (hl : Fld.wit ∈ l) : Keeps l s0 { s with wit := x } ↔ Keeps l s0 s :=
  keeps_congr (fun f hf => by cases f <;> first | exact absurd hl hf | rfl)
@[simp] theorem keeps_modSec (h) (hl : Fld.sec ∈ l) : Keeps l s0 (s.modSec h) ↔ Keeps l s0 s :=
  keeps_congr (fun f hf => by cases f <;> first | exact absurd hl hf | rfl)
@[simp] theorem keeps_set_sec (x) (hl : Fld.sec ∈ l) : Keeps l s0 { s with sec := x } ↔ Keeps l s0 s :=
  keeps_congr (fun f hf => by cases f <;> first | exact absurd hl hf | rfl)
@[simp] theorem keeps_modAttn (h) (hl : Fld.attn ∈ l) : Keeps l s0 (s.modAttn h) ↔ Keeps l s0 s :=
  keeps_congr (fun f hf => by cases f <;> first | exact absurd hl hf | rfl)
@[simp] theorem keeps_set_attn (x) (hl : Fld.attn ∈ l) : Keeps l s0 { s with attn := x } ↔ Keeps l s0 s :=
  keeps_congr (fun f hf => by cases f <;> first | exact absurd hl hf | rfl)
@[simp] theorem keeps_modOut (h) (hl : Fld.out ∈ l) : Keeps l s0 (s.modOut h) ↔ Keeps l s0 s :=
  keeps_congr (fun f hf => by cases f <;> first | exact absurd hl hf | rfl)
@[simp] theorem keeps_set_out (x) (hl : Fld.out ∈ l) : Keeps l s0 { s with out := x } ↔ Keeps l s0 s :=
  keeps_congr (fun f hf => by cases f <;> first | exact absurd hl hf | rfl)
@[simp] theorem keeps_modFresh (h) (hl : Fld.fresh ∈ l) : Keeps l s0 (s.modFresh h) ↔ Keeps l s0 s :=
  keeps_congr (fun f hf => by cases f <;> first | exact absurd hl hf | rfl)
@[simp] theorem keeps_set_fresh (x) (hl : Fld.fresh ∈ l) : Keeps l s0 { s with fresh := x } ↔ Keeps l s0 s :=
  keeps_congr (fun f hf => by cases f <;> first | exact absurd hl hf | rfl)
@[simp] theorem keeps_modPending (h) (hl : Fld.pending ∈ l) : Keeps l s0 (s.modPending h) ↔ Keeps l s0 s :=
  keeps_congr (fun f hf => by cases f <;> first | exact absurd hl hf | rfl)
@[simp] theorem keeps_set_pending (x) (hl : Fld.pending ∈ l) : Keeps l s0 { s with pending := x } ↔ Keeps l s0 s :=
  keeps_congr (fun f hf => by cases f <;> first | exact absurd hl hf | rfl)

@[simp] theorem keeps_each {α : Type} (xs : List α) (g : α → State → State)
    (h : ∀ x t, Keeps l s0 (g x t) ↔ Keeps l s0 t) (t : State) : Keeps l s0 (each xs g t) ↔ Keeps l s0 t := by
  induction xs generalizing t with
  | nil => rfl
  | cons x xs ih => exact (ih (g x t)).trans (h x t)

@[simp] theorem keeps_foldl {α : Type} (xs : List α) (g : State → α → State)
    (h : ∀ x t, Keeps l s0 (g t x) ↔ Keeps l s0 t) (t : State) : Keeps l s0 (xs.foldl g t) ↔ Keeps l s0 t := by
  induction xs generalizing t with
  | nil => rfl
  | cons x xs ih => exact (ih (g t x)).trans (h x t)

@[simp] theorem keeps_ite (c : Prop) [Decidable c] (a b : State) :
    Keeps l s0 (if c then a else b) ↔ (if c then Keeps l s0 a else Keeps l s0 b) := by split <;> rfl

@[simp] theorem runs_next (p : State → Prop) (t : State) : Runs p (.next t) ↔ p t :=
  ⟨fun ⟨_, h, g⟩ => by cases h; exact g, fun h => ⟨t, rfl, h⟩⟩

@[simp] theorem runs_ite (p : State → Prop) (c : Prop) [Decidable c] (a b : Res) :
    Runs p (if c then a else b) ↔ (if c then Runs p a else Runs p b) := by split <;> rfl

end Sys2Proof.Machine
end

