-- ==== Sys2Proof/Laws/KeepsOps.lean ====
section
/-! SUPPORT. What each shared operation keeps: one lemma per operation, naming every field of State it may change. -/

set_option linter.all false

namespace Sys2Proof.Machine
@[simp] theorem keeps_State_modRow {ls : List Fld} {sz : State} (s : State) (r : Nat) (f : Row → Row) (hl : ([.rows] : List Fld) ⊆ ls) :
    Keeps ls sz (State.modRow s r f) ↔ Keeps ls sz s := by
  simp only [List.cons_subset, List.nil_subset, and_true] at hl
  unfold State.modRow
  simp [hl]

@[simp] theorem keeps_State_modTile {ls : List Fld} {sz : State} (s : State) (r t : Nat) (f : Tile → Tile) (hl : ([.rows] : List Fld) ⊆ ls) :
    Keeps ls sz (State.modTile s r t f) ↔ Keeps ls sz s := by
  simp only [List.cons_subset, List.nil_subset, and_true] at hl
  unfold State.modTile
  simp [hl]

@[simp] theorem keeps_mirror {ls : List Fld} {sz : State} (r t : Nat) (s : State) (hl : ([.rows] : List Fld) ⊆ ls) :
    Keeps ls sz (mirror r t s) ↔ Keeps ls sz s := by
  simp only [List.cons_subset, List.nil_subset, and_true] at hl
  unfold mirror
  simp [hl]

@[simp] theorem keeps_runWrite {ls : List Fld} {sz : State} (r t line word count : Nat) (s : State) (hl : ([.rows] : List Fld) ⊆ ls) :
    Keeps ls sz (runWrite r t line word count s) ↔ Keeps ls sz s := by
  simp only [List.cons_subset, List.nil_subset, and_true] at hl
  unfold runWrite
  simp [hl]

@[simp] theorem keeps_fetchWords {ls : List Fld} {sz : State} (r t : Nat) (c : RunCtl) (k : Nat) (s : State) (hl : ([.rows] : List Fld) ⊆ ls) :
    Keeps ls sz (fetchWords r t c k s) ↔ Keeps ls sz s := by
  simp only [List.cons_subset, List.nil_subset, and_true] at hl
  unfold fetchWords
  simp [hl]

@[simp] theorem keeps_push {ls : List Fld} {sz : State} (r t : Nat) (w : BitVec 128) (s : State) (hl : ([.rows] : List Fld) ⊆ ls) :
    Keeps ls sz (push r t w s) ↔ Keeps ls sz s := by
  simp only [List.cons_subset, List.nil_subset, and_true] at hl
  unfold push
  try simp only []
  repeat' (split)
  all_goals simp [hl]

@[simp] theorem keeps_goNop {ls : List Fld} {sz : State} (r t i : Nat) (w : BitVec 128) (x_ : Nat) (s : State) (hl : ([.rows, .cap] : List Fld) ⊆ ls) :
    Keeps ls sz (goNop r t i w x_ s) ↔ Keeps ls sz s := by
  simp only [List.cons_subset, List.nil_subset, and_true] at hl
  unfold goNop
  try simp only []
  repeat' (split)
  all_goals simp [hl]

@[simp] theorem keeps_goFence {ls : List Fld} {sz : State} (r t i : Nat) (w : BitVec 128) (x_ : Nat) (s : State) (hl : ([.rows] : List Fld) ⊆ ls) :
    Keeps ls sz (goFence r t i w x_ s) ↔ Keeps ls sz s := by
  simp only [List.cons_subset, List.nil_subset, and_true] at hl
  unfold goFence
  try simp only []
  repeat' (split)
  all_goals simp [hl]

@[simp] theorem keeps_State_send {ls : List Fld} {sz : State} (s : State) (o : Out) (hl : ([.out] : List Fld) ⊆ ls) :
    Keeps ls sz (State.send s o) ↔ Keeps ls sz s := by
  simp only [List.cons_subset, List.nil_subset, and_true] at hl
  unfold State.send
  simp [hl]

@[simp] theorem keeps_endSession {ls : List Fld} {sz : State} (s : State) (hl : ([.sec] : List Fld) ⊆ ls) :
    Keeps ls sz (endSession s) ↔ Keeps ls sz s := by
  simp only [List.cons_subset, List.nil_subset, and_true] at hl
  unfold endSession
  simp [hl]

@[simp] theorem keeps_chaviPut {ls : List Fld} {sz : State} (p : ChaviOut) (s : State) (hl : ([.chavi, .out] : List Fld) ⊆ ls) :
    Keeps ls sz (chaviPut p s) ↔ Keeps ls sz s := by
  simp only [List.cons_subset, List.nil_subset, and_true] at hl
  unfold chaviPut
  simp [keeps_iff, hl]

@[simp] theorem keeps_chaviEmit {ls : List Fld} {sz : State} (p : ChaviOut) (s : State) (hl : ([.chavi, .sec, .out] : List Fld) ⊆ ls) :
    Keeps ls sz (chaviEmit p s) ↔ Keeps ls sz s := by
  simp only [List.cons_subset, List.nil_subset, and_true] at hl
  have e : ∀ u : State, (Keeps ls sz { u with sec := { u.sec with ctrTx := u.sec.ctrTx + 1 } } ↔ Keeps ls sz u) :=
    fun u => by simp [keeps_iff, hl]
  unfold chaviEmit
  simp only []
  generalize hs : (if s.sec.session ≠ 0 ∧ 2 ^ 48 ≤ s.sec.ctrTx then endSession s else s) = u
  have hu : Keeps ls sz u ↔ Keeps ls sz s := by rw [← hs]; simp [hl]
  repeat' split
  all_goals simp [hl, e, hu]

@[simp] theorem keeps_chaviDrain {ls : List Fld} {sz : State} (n : Nat) (s : State) (hl : ([.chavi, .sec, .out] : List Fld) ⊆ ls) :
    Keeps ls sz (chaviDrain n s) ↔ Keeps ls sz s := by
  simp only [List.cons_subset, List.nil_subset, and_true] at hl
  induction n generalizing s with
  | zero => rfl
  | succ n ih =>
    unfold chaviDrain
    repeat' split
    all_goals simp [hl, ih]

@[simp] theorem keeps_chaviSend {ls : List Fld} {sz : State} (p : ChaviOut) (s : State) (hl : ([.chavi, .sec, .out] : List Fld) ⊆ ls) :
    Keeps ls sz (chaviSend p s) ↔ Keeps ls sz s := by
  simp only [List.cons_subset, List.nil_subset, and_true] at hl
  unfold chaviSend
  simp [hl]

@[simp] theorem keeps_deliverHost {ls : List Fld} {sz : State} (n : Nat) (s : State) (hl : ([.chavi, .sec, .out] : List Fld) ⊆ ls) :
    Keeps ls sz (deliverHost n s) ↔ Keeps ls sz s := by
  simp only [List.cons_subset, List.nil_subset, and_true] at hl
  unfold deliverHost
  simp [hl]

@[simp] theorem keeps_State_modBridge {ls : List Fld} {sz : State} (s : State) (b : Nat) (f : Bridge → Bridge) (hl : ([.fab] : List Fld) ⊆ ls) :
    Keeps ls sz (State.modBridge s b f) ↔ Keeps ls sz s := by
  simp only [List.cons_subset, List.nil_subset, and_true] at hl
  unfold State.modBridge
  simp [hl]

@[simp] theorem keeps_inject {ls : List Fld} {sz : State} (b : Nat) (p : Pkt) (owner arg : Nat) (s : State) (hl : ([.fab] : List Fld) ⊆ ls) :
    Keeps ls sz (inject b p owner arg s) ↔ Keeps ls sz s := by
  simp only [List.cons_subset, List.nil_subset, and_true] at hl
  unfold inject
  simp [hl]

@[simp] theorem keeps_State_setChan {ls : List Fld} {sz : State} (s : State) (n : Nat) (c : Chan) (hl : ([.mbx] : List Fld) ⊆ ls) :
    Keeps ls sz (State.setChan s n c) ↔ Keeps ls sz s := by
  simp only [List.cons_subset, List.nil_subset, and_true] at hl
  unfold State.setChan
  simp [hl]

@[simp] theorem keeps_sendPeer {ls : List Fld} {sz : State} (n : Nat) (s : State) (hl : ([.fab, .mbx] : List Fld) ⊆ ls) :
    Keeps ls sz (sendPeer n s) ↔ Keeps ls sz s := by
  simp only [List.cons_subset, List.nil_subset, and_true] at hl
  unfold sendPeer
  simp [hl]

@[simp] theorem keeps_deliver {ls : List Fld} {sz : State} (n : Nat) (s : State) (hl : ([.fab, .chavi, .mbx, .sec, .out] : List Fld) ⊆ ls) :
    Keeps ls sz (deliver n s) ↔ Keeps ls sz s := by
  simp only [List.cons_subset, List.nil_subset, and_true] at hl
  unfold deliver
  try simp only []
  repeat' (split)
  all_goals simp [hl]

@[simp] theorem keeps_mbxWrite {ls : List Fld} {sz : State} (n : Nat) (msg : List Byte) (sid : Nat) (s : State) (hl : ([.fab, .chavi, .mbx, .sec, .out] : List Fld) ⊆ ls) :
    Keeps ls sz (mbxWrite n msg sid s).2 ↔ Keeps ls sz s := by
  simp only [List.cons_subset, List.nil_subset, and_true] at hl
  unfold mbxWrite
  try simp only []
  repeat' split
  all_goals simp [hl]

@[simp] theorem keeps_attnEvent {ls : List Fld} {sz : State} (s : State) (hl : ([.chavi, .sec, .attn, .out] : List Fld) ⊆ ls) :
    Keeps ls sz (attnEvent s) ↔ Keeps ls sz s := by
  simp only [List.cons_subset, List.nil_subset, and_true] at hl
  unfold attnEvent
  simp [hl]

@[simp] theorem keeps_attnSettle {ls : List Fld} {sz : State} (s : State) (hl : ([.chavi, .sec, .attn, .out] : List Fld) ⊆ ls) :
    Keeps ls sz (attnSettle s) ↔ Keeps ls sz s := by
  simp only [List.cons_subset, List.nil_subset, and_true] at hl
  unfold attnSettle
  simp [hl]

@[simp] theorem keeps_errRecord {ls : List Fld} {sz : State} (x : Rec) (s : State) (hl : ([.fab, .chavi, .mbx, .gw, .err, .sec, .attn, .out] : List Fld) ⊆ ls) :
    Keeps ls sz (errRecord x s) ↔ Keeps ls sz s := by
  simp only [List.cons_subset, List.nil_subset, and_true] at hl
  have g : ∀ u n, Keeps ls sz (errRecord.go x u n) ↔ Keeps ls sz u := by
    intro u n
    unfold errRecord.go
    simp only []
    rw [keeps_attnSettle _ (by simp [hl])]
    split <;> split <;> (try split) <;> simp [hl]
  unfold errRecord
  simp only []
  repeat' split
  all_goals simp [hl, g]

@[simp] theorem keeps_startRetire {ls : List Fld} {sz : State} (k : Nat) (s : State) (hl : ([.mem, .fab, .chavi, .mbx, .gw, .err, .sec, .attn, .out] : List Fld) ⊆ ls) :
    Keeps ls sz (startRetire k s) ↔ Keeps ls sz s := by
  simp only [List.cons_subset, List.nil_subset, and_true] at hl
  unfold startRetire
  simp [hl]

@[simp] theorem keeps_haltOne {ls : List Fld} {sz : State} (r t : Nat) (c : Code) (fword op detail : Nat) (s : State) (hl : ([.rows, .fab, .chavi, .mbx, .gw, .err, .sec, .attn, .out] : List Fld) ⊆ ls) :
    Keeps ls sz (haltOne r t c fword op detail s) ↔ Keeps ls sz s := by
  simp only [List.cons_subset, List.nil_subset, and_true] at hl
  unfold haltOne
  simp [hl]

@[simp] theorem keeps_haltTile {ls : List Fld} {sz : State} (r t : Nat) (c : Code) (fword op detail : Nat) (s : State) (hl : ([.rows, .fab, .chavi, .mbx, .gw, .err, .sec, .attn, .out] : List Fld) ⊆ ls) :
    Keeps ls sz (haltTile r t c fword op detail s) ↔ Keeps ls sz s := by
  simp only [List.cons_subset, List.nil_subset, and_true] at hl
  unfold haltTile
  simp [hl]

@[simp] theorem keeps_goResv {ls : List Fld} {sz : State} (r t i : Nat) (w : BitVec 128) (x_ : Nat) (s : State) (hl : ([.rows, .fab, .chavi, .mbx, .gw, .err, .sec, .attn, .out] : List Fld) ⊆ ls) :
    Keeps ls sz (goResv r t i w x_ s) ↔ Keeps ls sz s := by
  simp only [List.cons_subset, List.nil_subset, and_true] at hl
  unfold goResv
  try simp only []
  repeat' (split)
  all_goals simp [hl]

@[simp] theorem keeps_goRels {ls : List Fld} {sz : State} (r t i : Nat) (w : BitVec 128) (x_ : Nat) (s : State) (hl : ([.rows] : List Fld) ⊆ ls) :
    Keeps ls sz (goRels r t i w x_ s) ↔ Keeps ls sz s := by
  simp only [List.cons_subset, List.nil_subset, and_true] at hl
  unfold goRels
  try simp only []
  repeat' (split)
  all_goals simp [hl]

@[simp] theorem keeps_parityRecords {ls : List Fld} {sz : State} (r op : Nat) (c : Code) (bad : List Nat) (s : State) (hl : ([.fab, .chavi, .mbx, .gw, .err, .sec, .attn, .out] : List Fld) ⊆ ls) :
    Keeps ls sz (parityRecords r op c bad s) ↔ Keeps ls sz s := by
  simp only [List.cons_subset, List.nil_subset, and_true] at hl
  unfold parityRecords
  simp [hl]

@[simp] theorem keeps_issueRead {ls : List Fld} {sz : State} (r t i op : Nat) (bad : List Nat) (s : State) (hl : ([.rows, .fab, .chavi, .mbx, .gw, .err, .sec, .attn, .out] : List Fld) ⊆ ls) :
    Keeps ls sz (issueRead r t i op bad s) ↔ Keeps ls sz s := by
  simp only [List.cons_subset, List.nil_subset, and_true] at hl
  unfold issueRead
  simp [hl]

@[simp] theorem keeps_goWload {ls : List Fld} {sz : State} (r t i : Nat) (bad : List Nat) (w : BitVec 128) (fw : Nat) (s : State) (hl : ([.rows, .fab, .chavi, .mbx, .gw, .err, .sec, .attn, .out] : List Fld) ⊆ ls) :
    Keeps ls sz (goWload r t i bad w fw s) ↔ Keeps ls sz s := by
  simp only [List.cons_subset, List.nil_subset, and_true] at hl
  unfold goWload
  simp [hl]

@[simp] theorem keeps_goEpi {ls : List Fld} {sz : State} (r t i : Nat) (bad : List Nat) (w : BitVec 128) (fw : Nat) (s : State) (hl : ([.rows, .fab, .chavi, .mbx, .gw, .err, .sec, .attn, .out] : List Fld) ⊆ ls) :
    Keeps ls sz (goEpi r t i bad w fw s) ↔ Keeps ls sz s := by
  simp only [List.cons_subset, List.nil_subset, and_true] at hl
  unfold goEpi
  simp [hl]

@[simp] theorem keeps_goDecide {ls : List Fld} {sz : State} (r t i : Nat) (w : BitVec 128) (x_ : Nat) (s : State) (hl : ([.rows] : List Fld) ⊆ ls) :
    Keeps ls sz (goDecide r t i w x_ s) ↔ Keeps ls sz s := by
  simp only [List.cons_subset, List.nil_subset, and_true] at hl
  unfold goDecide
  try simp only []
  repeat' (split)
  all_goals simp [hl]

@[simp] theorem keeps_goGroup {ls : List Fld} {sz : State} (r t i : Nat) (w : BitVec 128) (x_ : Nat) (s : State) (hl : ([.rows] : List Fld) ⊆ ls) :
    Keeps ls sz (goGroup r t i w x_ s) ↔ Keeps ls sz s := by
  simp only [List.cons_subset, List.nil_subset, and_true] at hl
  unfold goGroup
  try simp only []
  repeat' (split)
  all_goals simp [hl]

@[simp] theorem keeps_matvProv {ls : List Fld} {sz : State} (r t seq : Nat) (es : List (Nat × Nat × Bool)) (taint : List (Nat × Nat)) (bad : Bool) (s : State) (hl : ([.rows] : List Fld) ⊆ ls) :
    Keeps ls sz (matvProv r t seq es taint bad s) ↔ Keeps ls sz s := by
  simp only [List.cons_subset, List.nil_subset, and_true] at hl
  unfold matvProv
  simp [hl]

@[simp] theorem keeps_goMatv {ls : List Fld} {sz : State} (r t i : Nat) (bad : List Nat) (w : BitVec 128) (fw : Nat) (s : State) (hl : ([.rows, .fab, .chavi, .mbx, .gw, .err, .sec, .attn, .out] : List Fld) ⊆ ls) :
    Keeps ls sz (goMatv r t i bad w fw s) ↔ Keeps ls sz s := by
  simp only [List.cons_subset, List.nil_subset, and_true] at hl
  unfold goMatv
  try simp only []
  repeat' (split)
  all_goals simp [hl]

@[simp] theorem keeps_memWrite {ls : List Fld} {sz : State} (s : State) (a : Nat) (l : List Byte) (hl : ([.mem] : List Fld) ⊆ ls) :
    Keeps ls sz (memWrite s a l) ↔ Keeps ls sz s := by
  simp only [List.cons_subset, List.nil_subset, and_true] at hl
  unfold memWrite
  simp [hl]

@[simp] theorem keeps_writeVec {ls : List Fld} {sz : State} (r : Nat) (l : List (Nat × List Byte)) (s : State) (hl : ([.mem] : List Fld) ⊆ ls) :
    Keeps ls sz (writeVec r l s) ↔ Keeps ls sz s := by
  simp only [List.cons_subset, List.nil_subset, and_true] at hl
  unfold writeVec
  simp [hl]

@[simp] theorem keeps_finishVec {ls : List Fld} {sz : State} (f : Feed) (r t : Nat) (x : Tile) (y : Issued) (ws : WSet) (v k : Nat) (cs : List Col) (a : VecAcc) (s : State) (hl : ([.mem, .wit] : List Fld) ⊆ ls) :
    Keeps ls sz (finishVec f r t x y ws v k cs a s) ↔ Keeps ls sz s := by
  simp only [List.cons_subset, List.nil_subset, and_true] at hl
  unfold finishVec
  try simp only []
  repeat' (split)
  all_goals simp [hl]

@[simp] theorem keeps_evalVec {ls : List Fld} {sz : State} (f : Feed) (r t i : Nat) (x : Tile) (ws : WSet) (k v : Nat) (s : State) (hl : ([.rows, .mem, .wit] : List Fld) ⊆ ls) :
    Keeps ls sz (evalVec f r t i x ws k v s) ↔ Keeps ls sz s := by
  simp only [List.cons_subset, List.nil_subset, and_true] at hl
  unfold evalVec
  try simp only []
  repeat' (split)
  all_goals simp [hl]

@[simp] theorem keeps_resolveBindings {ls : List Fld} {sz : State} (o q : Nat) (v : Verdict) (s : State) (hl : ([.fab] : List Fld) ⊆ ls) :
    Keeps ls sz (resolveBindings o q v s) ↔ Keeps ls sz s := by
  simp only [List.cons_subset, List.nil_subset, and_true] at hl
  unfold resolveBindings
  simp [hl]

@[simp] theorem keeps_resolveItems {ls : List Fld} {sz : State} (o q : Nat) (v : Verdict) (s : State) (hl : ([.wit] : List Fld) ⊆ ls) :
    Keeps ls sz (resolveItems o q v s) ↔ Keeps ls sz s := by
  simp only [List.cons_subset, List.nil_subset, and_true] at hl
  unfold resolveItems
  simp [hl]

@[simp] theorem keeps_fetchTaints {ls : List Fld} {sz : State} (f : FetchRun → FetchRun) (s : State) (hl : ([.fetch] : List Fld) ⊆ ls) :
    Keeps ls sz (fetchTaints f s) ↔ Keeps ls sz s := by
  simp only [List.cons_subset, List.nil_subset, and_true] at hl
  unfold fetchTaints
  simp [hl]

@[simp] theorem keeps_applyVerdict {ls : List Fld} {sz : State} (o q : Nat) (v : Verdict) (s : State) (hl : ([.rows, .fetch, .fab, .wit] : List Fld) ⊆ ls) :
    Keeps ls sz (applyVerdict o q v s) ↔ Keeps ls sz s := by
  simp only [List.cons_subset, List.nil_subset, and_true] at hl
  unfold applyVerdict
  try simp only []
  repeat' (split)
  all_goals simp [hl]

@[simp] theorem keeps_sendVerdicts {ls : List Fld} {sz : State} (o q : Nat) (v : Verdict) (s : State) (hl : ([.fab] : List Fld) ⊆ ls) :
    Keeps ls sz (sendVerdicts o q v s) ↔ Keeps ls sz s := by
  simp only [List.cons_subset, List.nil_subset, and_true] at hl
  unfold sendVerdicts
  rw [keeps_each]
  intro b t
  simp only []
  rw [keeps_each]
  · simp [hl]
  · intro x u; simp [hl]

@[simp] theorem keeps_pairFails {ls : List Fld} {sz : State} (r pair : Nat) (s : State) (hl : ([.rows, .fetch, .fab, .wit] : List Fld) ⊆ ls) :
    Keeps ls sz (pairFails r pair s) ↔ Keeps ls sz s := by
  simp only [List.cons_subset, List.nil_subset, and_true] at hl
  unfold pairFails
  simp [hl]

@[simp] theorem keeps_pairAbandon {ls : List Fld} {sz : State} (r pair : Nat) (s : State) (hl : ([.rows, .fetch, .fab, .wit] : List Fld) ⊆ ls) :
    Keeps ls sz (pairAbandon r pair s) ↔ Keeps ls sz s := by
  simp only [List.cons_subset, List.nil_subset, and_true] at hl
  unfold pairAbandon
  simp [hl]

@[simp] theorem keeps_stageRecord {ls : List Fld} {sz : State} (st : StageStatus) (fs : List Finding) (s : State) (hl : ([.boot, .out] : List Fld) ⊆ ls) :
    Keeps ls sz (stageRecord st fs s) ↔ Keeps ls sz s := by
  simp only [List.cons_subset, List.nil_subset, and_true] at hl
  unfold stageRecord
  simp [hl]

@[simp] theorem keeps_stageNext {ls : List Fld} {sz : State} (st : StageStatus) (fs : List Finding) (s : State) (hl : ([.boot, .out] : List Fld) ⊆ ls) :
    Keeps ls sz (stageNext st fs s) ↔ Keeps ls sz s := by
  simp only [List.cons_subset, List.nil_subset, and_true] at hl
  unfold stageNext
  simp [hl]

@[simp] theorem keeps_stagePass {ls : List Fld} {sz : State} (fs : List Finding) (s : State) (hl : ([.boot, .out] : List Fld) ⊆ ls) :
    Keeps ls sz (stagePass fs s) ↔ Keeps ls sz s := by
  simp only [List.cons_subset, List.nil_subset, and_true] at hl
  unfold stagePass
  simp [hl]

@[simp] theorem keeps_unloadAll {ls : List Fld} {sz : State} (r : Nat) (s : State) (hl : ([.rows] : List Fld) ⊆ ls) :
    Keeps ls sz (unloadAll r s) ↔ Keeps ls sz s := by
  simp only [List.cons_subset, List.nil_subset, and_true] at hl
  unfold unloadAll
  simp [hl]

@[simp] theorem keeps_State_modRing {ls : List Fld} {sz : State} (s : State) (n : Nat) (f : RqRing → RqRing) (hl : ([.rings] : List Fld) ⊆ ls) :
    Keeps ls sz (State.modRing s n f) ↔ Keeps ls sz s := by
  simp only [List.cons_subset, List.nil_subset, and_true] at hl
  unfold State.modRing
  simp [hl]

@[simp] theorem keeps_writeCpl {ls : List Fld} {sz : State} (n : Nat) (e : List Byte) (s : State) (hl : ([.mem, .chavi, .rings, .sec, .out] : List Fld) ⊆ ls) :
    Keeps ls sz (writeCpl n e s) ↔ Keeps ls sz s := by
  simp only [List.cons_subset, List.nil_subset, and_true] at hl
  unfold writeCpl
  try simp only []
  repeat' (split)
  all_goals simp [hl]

@[simp] theorem keeps_deliverCpl {ls : List Fld} {sz : State} (n : Nat) (g : RqRing) (e : List Byte) (stamp : Nat) (s : State) (hl : ([.mem, .fab, .chavi, .mbx, .rings, .sec, .out] : List Fld) ⊆ ls) :
    Keeps ls sz (deliverCpl n g e stamp s).2 ↔ Keeps ls sz s := by
  simp only [List.cons_subset, List.nil_subset, and_true] at hl
  unfold deliverCpl
  try simp only []
  repeat' split
  all_goals simp [hl]

@[simp] theorem keeps_postDevice {ls : List Fld} {sz : State} (n : Nat) (e : List Byte) (stamp : Nat) (s : State) (hl : ([.mem, .fab, .chavi, .mbx, .rings, .gw, .err, .sec, .attn, .out] : List Fld) ⊆ ls) :
    Keeps ls sz (postDevice n e stamp s) ↔ Keeps ls sz s := by
  simp only [List.cons_subset, List.nil_subset, and_true] at hl
  unfold postDevice
  try simp only []
  repeat' split
  all_goals (try (rename_i heq; replace heq := (congrArg Prod.snd heq).symm; dsimp only at heq; subst heq))
  all_goals simp [hl]

@[simp] theorem keeps_endUnpopped {ls : List Fld} {sz : State} (k n : Nat) (c : Code) (s : State) (hl : ([.mem, .fab, .chavi, .mbx, .rings, .gw, .err, .sec, .attn, .out] : List Fld) ⊆ ls) :
    Keeps ls sz (endUnpopped k n c s) ↔ Keeps ls sz s := by
  simp only [List.cons_subset, List.nil_subset, and_true] at hl
  induction k generalizing s  with
  | zero => rfl
  | succ k ih =>
    unfold endUnpopped
    try simp only []
    repeat' split
    all_goals (try (rename_i heq; replace heq := (congrArg Prod.snd heq).symm; dsimp only at heq; subst heq))
    all_goals simp [hl, ih]

@[simp] theorem keeps_endRequests {ls : List Fld} {sz : State} (n : Nat) (p : Req → Bool) (c : Code) (s : State) (hl : ([.mem, .fab, .chavi, .mbx, .rings, .gw, .err, .sec, .attn, .out] : List Fld) ⊆ ls) :
    Keeps ls sz (endRequests n p c s) ↔ Keeps ls sz s := by
  simp only [List.cons_subset, List.nil_subset, and_true] at hl
  unfold endRequests
  try simp only []
  repeat' (split)
  all_goals simp [hl]

@[simp] theorem keeps_endRowRings {ls : List Fld} {sz : State} (r : Nat) (s : State) (hl : ([.mem, .fab, .chavi, .mbx, .rings, .gw, .err, .sec, .attn, .out] : List Fld) ⊆ ls) :
    Keeps ls sz (endRowRings r s) ↔ Keeps ls sz s := by
  simp only [List.cons_subset, List.nil_subset, and_true] at hl
  unfold endRowRings
  simp [hl]

@[simp] theorem keeps_poisonRow {ls : List Fld} {sz : State} (r : Nat) (s : State) (hl : ([.rows] : List Fld) ⊆ ls) :
    Keeps ls sz (poisonRow r s) ↔ Keeps ls sz s := by
  simp only [List.cons_subset, List.nil_subset, and_true] at hl
  unfold poisonRow
  simp [hl]

@[simp] theorem keeps_State_modHalf {ls : List Fld} {sz : State} (s : State) (h : Nat) (f : Half → Half) (hl : ([.power] : List Fld) ⊆ ls) :
    Keeps ls sz (State.modHalf s h f) ↔ Keeps ls sz s := by
  simp only [List.cons_subset, List.nil_subset, and_true] at hl
  unfold State.modHalf
  simp [hl]

@[simp] theorem keeps_leaveQueue {ls : List Fld} {sz : State} (r : Nat) (s : State) (hl : ([.power] : List Fld) ⊆ ls) :
    Keeps ls sz (leaveQueue r s) ↔ Keeps ls sz s := by
  simp only [List.cons_subset, List.nil_subset, and_true] at hl
  unfold leaveQueue
  simp [hl]

@[simp] theorem keeps_dropCells {ls : List Fld} {sz : State} (p : Nat → Bool) (s : State) (hl : ([.mem] : List Fld) ⊆ ls) :
    Keeps ls sz (dropCells p s) ↔ Keeps ls sz s := by
  simp only [List.cons_subset, List.nil_subset, and_true] at hl
  unfold dropCells
  simp [hl]

@[simp] theorem keeps_loseRow {ls : List Fld} {sz : State} (r : Nat) (s : State) (hl : ([.rows, .mem] : List Fld) ⊆ ls) :
    Keeps ls sz (loseRow r s) ↔ Keeps ls sz s := by
  simp only [List.cons_subset, List.nil_subset, and_true] at hl
  unfold loseRow
  simp [hl]

@[simp] theorem keeps_rowToOff {ls : List Fld} {sz : State} (r : Nat) (s : State) (hl : ([.power, .rows, .mem] : List Fld) ⊆ ls) :
    Keeps ls sz (rowToOff r s) ↔ Keeps ls sz s := by
  simp only [List.cons_subset, List.nil_subset, and_true] at hl
  unfold rowToOff
  simp [hl]

@[simp] theorem keeps_forceOff {ls : List Fld} {sz : State} (r : Nat) (s : State) (hl : ([.power, .rows, .mem, .fab, .chavi, .mbx, .rings, .gw, .err, .sec, .attn, .out] : List Fld) ⊆ ls) :
    Keeps ls sz (forceOff r s) ↔ Keeps ls sz s := by
  simp only [List.cons_subset, List.nil_subset, and_true] at hl
  unfold forceOff
  simp [hl]

@[simp] theorem keeps_allOff {ls : List Fld} {sz : State} (s : State) (hl : ([.power, .rows, .mem, .fab, .chavi, .mbx, .rings, .gw, .err, .sec, .attn, .out] : List Fld) ⊆ ls) :
    Keeps ls sz (allOff s) ↔ Keeps ls sz s := by
  simp only [List.cons_subset, List.nil_subset, and_true] at hl
  unfold allOff
  simp [hl]

@[simp] theorem keeps_setBootLeaf {ls : List Fld} {sz : State} (n : Nat) (s : State) (hl : ([.chavi, .sec, .attn, .out] : List Fld) ⊆ ls) :
    Keeps ls sz (setBootLeaf n s) ↔ Keeps ls sz s := by
  simp only [List.cons_subset, List.nil_subset, and_true] at hl
  unfold setBootLeaf
  simp [hl]

@[simp] theorem keeps_stageStop {ls : List Fld} {sz : State} (fs : List Finding) (s : State) (hl : ([.power, .rows, .boot, .mem, .fab, .chavi, .mbx, .rings, .gw, .err, .sec, .attn, .out] : List Fld) ⊆ ls) :
    Keeps ls sz (stageStop fs s) ↔ Keeps ls sz s := by
  simp only [List.cons_subset, List.nil_subset, and_true] at hl
  unfold stageStop
  simp [hl]

@[simp] theorem keeps_bootLogStart {ls : List Fld} {sz : State} (s : State) (hl : ([.boot] : List Fld) ⊆ ls) :
    Keeps ls sz (bootLogStart s) ↔ Keeps ls sz s := by
  simp only [List.cons_subset, List.nil_subset, and_true] at hl
  unfold bootLogStart
  simp [hl]

@[simp] theorem keeps_State_modRail {ls : List Fld} {sz : State} (s : State) (x : SharedRail) (f : Rail → Rail) (hl : ([.power] : List Fld) ⊆ ls) :
    Keeps ls sz (State.modRail s x f) ↔ Keeps ls sz s := by
  simp only [List.cons_subset, List.nil_subset, and_true] at hl
  unfold State.modRail
  simp [hl]

@[simp] theorem keeps_State_draw {ls : List Fld} {sz : State} (s : State) (hl : ([.fresh] : List Fld) ⊆ ls) :
    Keeps ls sz (State.draw s).2 ↔ Keeps ls sz s := by
  simp only [List.cons_subset, List.nil_subset, and_true] at hl
  unfold State.draw
  try simp only []
  repeat' split
  all_goals simp [hl]

@[simp] theorem keeps_coldStart {ls : List Fld} {sz : State} (slotUnst mbxUnst : Bool) (s : State) (hl : ([.power, .boot, .sec, .fresh] : List Fld) ⊆ ls) :
    Keeps ls sz (coldStart slotUnst mbxUnst s) ↔ Keeps ls sz s := by
  simp only [List.cons_subset, List.nil_subset, and_true] at hl
  unfold coldStart
  try simp only []
  repeat' (split)
  all_goals simp [hl]

@[simp] theorem keeps_measure {ls : List Fld} {sz : State} (event arg detail : Nat) (digest : List Byte) (s : State) (hl : ([.sec] : List Fld) ⊆ ls) :
    Keeps ls sz (measure event arg detail digest s) ↔ Keeps ls sz s := by
  simp only [List.cons_subset, List.nil_subset, and_true] at hl
  unfold measure
  simp [hl]

@[simp] theorem keeps_bu1Measure {ls : List Fld} {sz : State} (s : State) (hl : ([.sec] : List Fld) ⊆ ls) :
    Keeps ls sz (bu1Measure s) ↔ Keeps ls sz s := by
  simp only [List.cons_subset, List.nil_subset, and_true] at hl
  unfold bu1Measure
  simp [hl]

@[simp] theorem keeps_loseGroups {ls : List Fld} {sz : State} (p : (Nat × Nat) → RowGroup → Bool) (s : State) (hl : ([.flash] : List Fld) ⊆ ls) :
    Keeps ls sz (loseGroups p s) ↔ Keeps ls sz s := by
  simp only [List.cons_subset, List.nil_subset, and_true] at hl
  unfold loseGroups
  simp [hl]

@[simp] theorem keeps_cardRecord {ls : List Fld} {sz : State} (c : Nat) (code : Code) (detail : Nat) (s : State) (hl : ([.fab, .chavi, .mbx, .gw, .err, .sec, .attn, .out] : List Fld) ⊆ ls) :
    Keeps ls sz (cardRecord c code detail s) ↔ Keeps ls sz s := by
  simp only [List.cons_subset, List.nil_subset, and_true] at hl
  unfold cardRecord
  simp [hl]

@[simp] theorem keeps_writeReply {ls : List Fld} {sz : State} (rchan : Nat) (msg : List Byte) (s : State) (hl : ([.fab, .chavi, .mbx, .gw, .sec, .out] : List Fld) ⊆ ls) :
    Keeps ls sz (writeReply rchan msg s) ↔ Keeps ls sz s := by
  simp only [List.cons_subset, List.nil_subset, and_true] at hl
  unfold writeReply
  try simp only []
  repeat' split
  all_goals (try (rename_i heq; replace heq := (congrArg Prod.snd heq).symm; dsimp only at heq; subst heq))
  all_goals simp [hl]

@[simp] theorem keeps_mbxAck {ls : List Fld} {sz : State} (n seq code : Nat) (s : State) (hl : ([.mbx] : List Fld) ⊆ ls) :
    Keeps ls sz (mbxAck n seq code s) ↔ Keeps ls sz s := by
  simp only [List.cons_subset, List.nil_subset, and_true] at hl
  unfold mbxAck
  simp [hl]

@[simp] theorem keeps_finish {ls : List Fld} {sz : State} (op : Nat) (h : CmdHdr) (mseq : Nat) (c : Code) (inline data : List Byte) (s : State) (hl : ([.mem, .fab, .chavi, .mbx, .gw, .sec, .out] : List Fld) ⊆ ls) :
    Keeps ls sz (finish op h mseq c inline data s) ↔ Keeps ls sz s := by
  simp only [List.cons_subset, List.nil_subset, and_true] at hl
  unfold finish
  simp [hl]

@[simp] theorem keeps_completeCmd {ls : List Fld} {sz : State} (k : Cmd) (c : Code) (inline data : List Byte) (s : State) (hl : ([.mem, .fab, .chavi, .mbx, .gw, .sec, .out] : List Fld) ⊆ ls) :
    Keeps ls sz (completeCmd k c inline data s) ↔ Keeps ls sz s := by
  simp only [List.cons_subset, List.nil_subset, and_true] at hl
  unfold completeCmd
  simp [hl]

@[simp] theorem keeps_completeWait {ls : List Fld} {sz : State} (w a : Nat) (c : Code) (inline data : List Byte) (s : State) (hl : ([.mem, .fab, .chavi, .mbx, .gw, .sec, .out] : List Fld) ⊆ ls) :
    Keeps ls sz (completeWait w a c inline data s) ↔ Keeps ls sz s := by
  simp only [List.cons_subset, List.nil_subset, and_true] at hl
  unfold completeWait
  simp [hl]

@[simp] theorem keeps_rollBack {ls : List Fld} {sz : State} (p : Nat → Bool) (s : State) (hl : ([.fetch, .flash] : List Fld) ⊆ ls) :
    Keeps ls sz (rollBack p s) ↔ Keeps ls sz s := by
  simp only [List.cons_subset, List.nil_subset, and_true] at hl
  unfold rollBack
  simp [hl]

@[simp] theorem keeps_failBatches {ls : List Fld} {sz : State} (p : Nat → Bool) (s : State) (hl : ([.mem, .fetch, .flash, .fab, .chavi, .mbx, .gw, .sec, .out] : List Fld) ⊆ ls) :
    Keeps ls sz (failBatches p s) ↔ Keeps ls sz s := by
  simp only [List.cons_subset, List.nil_subset, and_true] at hl
  unfold failBatches
  simp [hl]

@[simp] theorem keeps_epochSince {ls : List Fld} {sz : State} (d : DMap) (s : State) (hl : ([.dmap] : List Fld) ⊆ ls) :
    Keeps ls sz (epochSince d s) ↔ Keeps ls sz s := by
  simp only [List.cons_subset, List.nil_subset, and_true] at hl
  unfold epochSince
  split <;> simp [hl]

@[simp] theorem keeps_State_modDmapE {ls : List Fld} {sz : State} (s : State) (f : DMap → DMap) (hl : ([.dmap] : List Fld) ⊆ ls) :
    Keeps ls sz (State.modDmapE s f) ↔ Keeps ls sz s := by
  simp only [List.cons_subset, List.nil_subset, and_true] at hl
  unfold State.modDmapE
  simp [hl]

@[simp] theorem keeps_mapMc {ls : List Fld} {sz : State} (a b : Bool) (s : State) (hl : ([.dmap] : List Fld) ⊆ ls) :
    Keeps ls sz (mapMc a b s) ↔ Keeps ls sz s := by
  simp only [List.cons_subset, List.nil_subset, and_true] at hl
  unfold mapMc
  simp [hl]

@[simp] theorem keeps_mapUnits {ls : List Fld} {sz : State} (us : List Nat) (s : State) (hl : ([.dmap] : List Fld) ⊆ ls) :
    Keeps ls sz (mapUnits us s) ↔ Keeps ls sz s := by
  simp only [List.cons_subset, List.nil_subset, and_true] at hl
  unfold mapUnits
  simp [hl]

@[simp] theorem keeps_mapCards {ls : List Fld} {sz : State} (s : State) (hl : ([.dmap] : List Fld) ⊆ ls) :
    Keeps ls sz (mapCards s) ↔ Keeps ls sz s := by
  simp only [List.cons_subset, List.nil_subset, and_true] at hl
  unfold mapCards
  simp [hl]

@[simp] theorem keeps_State_modCard {ls : List Fld} {sz : State} (s : State) (c : Nat) (f : Card → Card) (hl : ([.flash] : List Fld) ⊆ ls) :
    Keeps ls sz (State.modCard s c f) ↔ Keeps ls sz s := by
  simp only [List.cons_subset, List.nil_subset, and_true] at hl
  unfold State.modCard
  simp [hl]

@[simp] theorem keeps_cardFail {ls : List Fld} {sz : State} (c reason : Nat) (s : State) (hl : ([.dmap, .mem, .fetch, .flash, .fab, .chavi, .mbx, .gw, .err, .sec, .attn, .out] : List Fld) ⊆ ls) :
    Keeps ls sz (cardFail c reason s) ↔ Keeps ls sz s := by
  simp only [List.cons_subset, List.nil_subset, and_true] at hl
  unfold cardFail
  simp [hl]

@[simp] theorem keeps_chaviDown {ls : List Fld} {sz : State} (s : State) (hl : ([.rows, .fab, .chavi, .mbx, .gw, .err, .sec, .attn, .out] : List Fld) ⊆ ls) :
    Keeps ls sz (chaviDown s) ↔ Keeps ls sz s := by
  simp only [List.cons_subset, List.nil_subset, and_true] at hl
  unfold chaviDown
  simp [hl]

@[simp] theorem keeps_State_modMemUnit {ls : List Fld} {sz : State} (s : State) (u : Nat) (f : MemUnit → MemUnit) (hl : ([.mem] : List Fld) ⊆ ls) :
    Keeps ls sz (State.modMemUnit s u f) ↔ Keeps ls sz s := by
  simp only [List.cons_subset, List.nil_subset, and_true] at hl
  unfold State.modMemUnit
  simp [hl]

@[simp] theorem keeps_memMark {ls : List Fld} {sz : State} (a : Nat) (s : State) (hl : ([.mem, .fab, .chavi, .mbx, .gw, .err, .sec, .attn, .out] : List Fld) ⊆ ls) :
    Keeps ls sz (memMark a s) ↔ Keeps ls sz s := by
  simp only [List.cons_subset, List.nil_subset, and_true] at hl
  unfold memMark
  try simp only []
  repeat' (split)
  all_goals simp [hl]

@[simp] theorem keeps_memMeets {ls : List Fld} {sz : State} (op : Nat) (gs : List (Nat × Nat)) (s : State)
    (hl : ([.mem, .fab, .chavi, .mbx, .gw, .err, .sec, .attn, .out, .fresh] : List Fld) ⊆ ls) :
    Keeps ls sz (memMeets op gs s) ↔ Keeps ls sz s := by
  simp only [List.cons_subset, List.nil_subset, and_true] at hl
  unfold memMeets
  try simp only []
  repeat' (split)
  all_goals simp [hl]

@[simp] theorem keeps_State_modFetchU {ls : List Fld} {sz : State} (s : State) (b : Nat) (f : FetchUnit → FetchUnit) (hl : ([.fetch] : List Fld) ⊆ ls) :
    Keeps ls sz (State.modFetchU s b f) ↔ Keeps ls sz s := by
  simp only [List.cons_subset, List.nil_subset, and_true] at hl
  unfold State.modFetchU
  simp [hl]

@[simp] theorem keeps_tableGone {ls : List Fld} {sz : State} (t : Nat) (s : State) (hl : ([.mem, .fetch, .flash, .fab, .chavi, .mbx, .gw, .sec, .out] : List Fld) ⊆ ls) :
    Keeps ls sz (tableGone t s) ↔ Keeps ls sz s := by
  simp only [List.cons_subset, List.nil_subset, and_true] at hl
  unfold tableGone
  try simp only []
  repeat' (split)
  all_goals simp [hl]

@[simp] theorem keeps_State_modCore {ls : List Fld} {sz : State} (s : State) (r c : Nat) (f : Core → Core) (hl : ([.rows] : List Fld) ⊆ ls) :
    Keeps ls sz (State.modCore s r c f) ↔ Keeps ls sz s := by
  simp only [List.cons_subset, List.nil_subset, and_true] at hl
  unfold State.modCore
  simp [hl]

@[simp] theorem keeps_writeFetchRecord {ls : List Fld} {sz : State} (b : Nat) (r : FetchRun) (s : State) (hl : ([.rows, .mem, .fab] : List Fld) ⊆ ls) :
    Keeps ls sz (writeFetchRecord b r s) ↔ Keeps ls sz s := by
  simp only [List.cons_subset, List.nil_subset, and_true] at hl
  unfold writeFetchRecord
  simp [hl]

@[simp] theorem keeps_fetchesDown {ls : List Fld} {sz : State} (b : Nat) (local_ : Bool) (s : State) (hl : ([.rows, .mem, .fetch, .flash, .fab, .chavi, .mbx, .gw, .sec, .out] : List Fld) ⊆ ls) :
    Keeps ls sz (fetchesDown b local_ s) ↔ Keeps ls sz s := by
  simp only [List.cons_subset, List.nil_subset, and_true] at hl
  unfold fetchesDown
  simp [hl]

@[simp] theorem keeps_State_modPort {ls : List Fld} {sz : State} (s : State) (p : Nat) (f : Port → Port) (hl : ([.fab] : List Fld) ⊆ ls) :
    Keeps ls sz (State.modPort s p f) ↔ Keeps ls sz s := by
  simp only [List.cons_subset, List.nil_subset, and_true] at hl
  unfold State.modPort
  simp [hl]

@[simp] theorem keeps_bindSet {ls : List Fld} {sz : State} (n : Nat) (o : Option Binding) (s : State) (hl : ([.rows, .fab] : List Fld) ⊆ ls) :
    Keeps ls sz (bindSet n o s) ↔ Keeps ls sz s := by
  simp only [List.cons_subset, List.nil_subset, and_true] at hl
  unfold bindSet
  try simp only []
  repeat' (split)
  all_goals simp [hl]

@[simp] theorem keeps_bindSettle {ls : List Fld} {sz : State} (n : Nat) (s : State) (hl : ([.rows, .mem, .fab, .chavi, .mbx, .gw, .sec, .out] : List Fld) ⊆ ls) :
    Keeps ls sz (bindSettle n s) ↔ Keeps ls sz s := by
  simp only [List.cons_subset, List.nil_subset, and_true] at hl
  unfold bindSettle
  try simp only []
  repeat' (split)
  all_goals simp [hl]

@[simp] theorem keeps_bridgeStop {ls : List Fld} {sz : State} (b : Nat) (s : State) (hl : ([.rows, .dmap, .mem, .fab, .chavi, .mbx, .gw, .sec, .out] : List Fld) ⊆ ls) :
    Keeps ls sz (bridgeStop b s) ↔ Keeps ls sz s := by
  simp only [List.cons_subset, List.nil_subset, and_true] at hl
  unfold bridgeStop
  simp [hl]

@[simp] theorem keeps_bridgeLost {ls : List Fld} {sz : State} (b : Nat) (s : State) (hl : ([.rows, .dmap, .mem, .fetch, .flash, .fab, .chavi, .mbx, .rings, .gw, .err, .sec, .attn, .out] : List Fld) ⊆ ls) :
    Keeps ls sz (bridgeLost b s) ↔ Keeps ls sz s := by
  simp only [List.cons_subset, List.nil_subset, and_true] at hl
  unfold bridgeLost
  simp [hl]

@[simp] theorem keeps_rowPowerCheck {ls : List Fld} {sz : State} (r : Nat) (s : State) (hl : ([.mem, .fab, .chavi, .mbx, .gw, .sec, .out] : List Fld) ⊆ ls) :
    Keeps ls sz (rowPowerCheck r s) ↔ Keeps ls sz s := by
  simp only [List.cons_subset, List.nil_subset, and_true] at hl
  unfold rowPowerCheck
  simp [hl]

@[simp] theorem keeps_offNow {ls : List Fld} {sz : State} (r : Nat) (s : State) (hl : ([.power, .rows, .mem, .fab, .chavi, .mbx, .rings, .gw, .err, .sec, .attn, .out] : List Fld) ⊆ ls) :
    Keeps ls sz (offNow r s) ↔ Keeps ls sz s := by
  simp only [List.cons_subset, List.nil_subset, and_true] at hl
  unfold offNow
  simp [hl]

@[simp] theorem keeps_State_modConv {ls : List Fld} {sz : State} (s : State) (r : Nat) (f : Conv → Conv) (hl : ([.power] : List Fld) ⊆ ls) :
    Keeps ls sz (State.modConv s r f) ↔ Keeps ls sz s := by
  simp only [List.cons_subset, List.nil_subset, and_true] at hl
  unfold State.modConv
  simp [hl]

@[simp] theorem keeps_State_modDom {ls : List Fld} {sz : State} (s : State) (n : Nat) (f : PwrDom → PwrDom) (hl : ([.power] : List Fld) ⊆ ls) :
    Keeps ls sz (State.modDom s n f) ↔ Keeps ls sz s := by
  simp only [List.cons_subset, List.nil_subset, and_true] at hl
  unfold State.modDom
  simp [hl]

@[simp] theorem keeps_setConv {ls : List Fld} {sz : State} (r : Nat) (st : PwrState) (on : Bool) (s : State) (hl : ([.power] : List Fld) ⊆ ls) :
    Keeps ls sz (setConv r st on s) ↔ Keeps ls sz s := by
  simp only [List.cons_subset, List.nil_subset, and_true] at hl
  unfold setConv
  simp [hl]

@[simp] theorem keeps_rowSupplyLost {ls : List Fld} {sz : State} (r : Nat) (s : State) (hl : ([.power, .rows, .mem, .fab, .chavi, .mbx, .rings, .gw, .err, .sec, .attn, .out] : List Fld) ⊆ ls) :
    Keeps ls sz (rowSupplyLost r s) ↔ Keeps ls sz s := by
  simp only [List.cons_subset, List.nil_subset, and_true] at hl
  unfold rowSupplyLost
  simp [hl]

@[simp] theorem keeps_mapCheck {ls : List Fld} {sz : State} (s : State) (hl : ([.flash] : List Fld) ⊆ ls) :
    Keeps ls sz (mapCheck s) ↔ Keeps ls sz s := by
  simp only [List.cons_subset, List.nil_subset, and_true] at hl
  unfold mapCheck
  simp [hl]

@[simp] theorem keeps_memUnitFail {ls : List Fld} {sz : State} (u reason : Nat) (s : State) (hl : ([.dmap, .mem, .flash, .fab, .chavi, .mbx, .gw, .err, .sec, .attn, .out] : List Fld) ⊆ ls) :
    Keeps ls sz (memUnitFail u reason s) ↔ Keeps ls sz s := by
  simp only [List.cons_subset, List.nil_subset, and_true] at hl
  unfold memUnitFail
  simp [hl]

@[simp] theorem keeps_ringsCheck {ls : List Fld} {sz : State} (s : State) (hl : ([.rings] : List Fld) ⊆ ls) :
    Keeps ls sz (ringsCheck s) ↔ Keeps ls sz s := by
  simp only [List.cons_subset, List.nil_subset, and_true] at hl
  unfold ringsCheck
  simp [hl]

@[simp] theorem keeps_stackLost {ls : List Fld} {sz : State} (u reason : Nat) (s : State) (hl : ([.dmap, .mem, .flash, .fab, .chavi, .mbx, .rings, .gw, .err, .sec, .attn, .out] : List Fld) ⊆ ls) :
    Keeps ls sz (stackLost u reason s) ↔ Keeps ls sz s := by
  simp only [List.cons_subset, List.nil_subset, and_true] at hl
  unfold stackLost
  simp [hl]

@[simp] theorem keeps_edgeLost {ls : List Fld} {sz : State} (e : Nat) (s : State) (hl : ([.dmap, .mem, .flash, .fab, .chavi, .mbx, .rings, .gw, .err, .sec, .attn, .out] : List Fld) ⊆ ls) :
    Keeps ls sz (edgeLost e s) ↔ Keeps ls sz s := by
  simp only [List.cons_subset, List.nil_subset, and_true] at hl
  unfold edgeLost
  simp [hl]

@[simp] theorem keeps_State_modSw {ls : List Fld} {sz : State} (s : State) (i : Nat) (f : Switch → Switch) (hl : ([.power] : List Fld) ⊆ ls) :
    Keeps ls sz (State.modSw s i f) ↔ Keeps ls sz s := by
  simp only [List.cons_subset, List.nil_subset, and_true] at hl
  unfold State.modSw
  simp [hl]

@[simp] theorem keeps_switchOff {ls : List Fld} {sz : State} (i : Nat) (s : State) (hl : ([.power] : List Fld) ⊆ ls) :
    Keeps ls sz (switchOff i s) ↔ Keeps ls sz s := by
  simp only [List.cons_subset, List.nil_subset, and_true] at hl
  unfold switchOff
  simp [hl]

@[simp] theorem keeps_nocLost {ls : List Fld} {sz : State} (h : Nat) (s : State) (hl : ([.power, .rows, .mem, .fab, .chavi, .mbx, .rings, .gw, .err, .sec, .attn, .out] : List Fld) ⊆ ls) :
    Keeps ls sz (nocLost h s) ↔ Keeps ls sz s := by
  simp only [List.cons_subset, List.nil_subset, and_true] at hl
  unfold nocLost
  simp [hl]

@[simp] theorem keeps_railEffect {ls : List Fld} {sz : State} (x : SharedRail) (s : State) (hl : ([.power, .rows, .dmap, .mem, .fetch, .flash, .fab, .chavi, .mbx, .rings, .gw, .err, .sec, .attn, .out] : List Fld) ⊆ ls) :
    Keeps ls sz (railEffect x s) ↔ Keeps ls sz s := by
  simp only [List.cons_subset, List.nil_subset, and_true] at hl
  unfold railEffect
  try simp only []
  repeat' (split)
  all_goals simp [hl]

@[simp] theorem keeps_rowRecord {ls : List Fld} {sz : State} (r : Nat) (code : Code) (detail action : Nat) (s : State) (hl : ([.fab, .chavi, .mbx, .gw, .err, .sec, .attn, .out] : List Fld) ⊆ ls) :
    Keeps ls sz (rowRecord r code detail action s) ↔ Keeps ls sz s := by
  simp only [List.cons_subset, List.nil_subset, and_true] at hl
  unfold rowRecord
  simp [hl]

@[simp] theorem keeps_railRecord {ls : List Fld} {sz : State} (n : Nat) (s : State) (hl : ([.fab, .chavi, .mbx, .gw, .err, .sec, .attn, .out] : List Fld) ⊆ ls) :
    Keeps ls sz (railRecord n s) ↔ Keeps ls sz s := by
  simp only [List.cons_subset, List.nil_subset, and_true] at hl
  unfold railRecord
  simp [hl]

@[simp] theorem keeps_bu2Rail {ls : List Fld} {sz : State} (trips : List SharedRail) (x : SharedRail) (s : State) (hl : ([.power, .rows, .dmap, .mem, .fetch, .flash, .fab, .chavi, .mbx, .rings, .gw, .err, .sec, .attn, .out] : List Fld) ⊆ ls) :
    Keeps ls sz (bu2Rail trips x s) ↔ Keeps ls sz s := by
  simp only [List.cons_subset, List.nil_subset, and_true] at hl
  unfold bu2Rail
  simp [hl]

@[simp] theorem keeps_State_modDRow {ls : List Fld} {sz : State} (s : State) (r : Nat) (f : DRow → DRow) (hl : ([.dmap] : List Fld) ⊆ ls) :
    Keeps ls sz (State.modDRow s r f) ↔ Keeps ls sz s := by
  simp only [List.cons_subset, List.nil_subset, and_true] at hl
  unfold State.modDRow
  simp [hl]

@[simp] theorem keeps_classUpdate {ls : List Fld} {sz : State} (r : Nat) (s : State) (hl : ([.dmap] : List Fld) ⊆ ls) :
    Keeps ls sz (classUpdate r s) ↔ Keeps ls sz s := by
  simp only [List.cons_subset, List.nil_subset, and_true] at hl
  unfold classUpdate
  simp [hl]

@[simp] theorem keeps_darken {ls : List Fld} {sz : State} (r : Nat) (st : PwrState) (s : State) (hl : ([.power, .rows, .dmap, .mem, .fab, .chavi, .mbx, .rings, .gw, .err, .sec, .attn, .out] : List Fld) ⊆ ls) :
    Keeps ls sz (darken r st s) ↔ Keeps ls sz s := by
  simp only [List.cons_subset, List.nil_subset, and_true] at hl
  unfold darken
  simp [hl]

@[simp] theorem keeps_bu2Stage {ls : List Fld} {sz : State} (r : Nat) (s : State) (hl : ([.power, .rows, .dmap, .mem, .fab, .chavi, .mbx, .rings, .gw, .err, .sec, .attn, .out] : List Fld) ⊆ ls) :
    Keeps ls sz (bu2Stage r s) ↔ Keeps ls sz s := by
  simp only [List.cons_subset, List.nil_subset, and_true] at hl
  unfold bu2Stage
  simp only []
  split <;> simp [hl]

@[simp] theorem keeps_bu2Row {ls : List Fld} {sz : State} (trips : List Nat) (r : Nat) (s : State) (hl : ([.power, .rows, .dmap, .mem, .fab, .chavi, .mbx, .rings, .gw, .err, .sec, .attn, .out] : List Fld) ⊆ ls) :
    Keeps ls sz (bu2Row trips r s) ↔ Keeps ls sz s := by
  simp only [List.cons_subset, List.nil_subset, and_true] at hl
  unfold bu2Row
  simp only []
  split
  · simp [hl]
  · rw [keeps_each]
    · split <;> simp [hl]
    · intro f t; simp [hl]

@[simp] theorem keeps_bu2Switch {ls : List Fld} {sz : State} (present faults : List Nat) (i : Nat) (s : State) (hl : ([.power] : List Fld) ⊆ ls) :
    Keeps ls sz (bu2Switch present faults i s) ↔ Keeps ls sz s := by
  simp only [List.cons_subset, List.nil_subset, and_true] at hl
  unfold bu2Switch
  simp [hl]

@[simp] theorem keeps_defectRecords {ls : List Fld} {sz : State} (fs : List Finding) (s : State) (hl : ([.fab, .chavi, .mbx, .gw, .err, .sec, .attn, .out] : List Fld) ⊆ ls) :
    Keeps ls sz (defectRecords fs s) ↔ Keeps ls sz s := by
  simp only [List.cons_subset, List.nil_subset, and_true] at hl
  unfold defectRecords
  simp [hl]

@[simp] theorem keeps_restartTests {ls : List Fld} {sz : State} (s : State) (hl : ([.mem, .fab, .chavi, .mbx, .gw, .sec, .out] : List Fld) ⊆ ls) :
    Keeps ls sz (restartTests s) ↔ Keeps ls sz s := by
  simp only [List.cons_subset, List.nil_subset, and_true] at hl
  unfold restartTests
  simp [hl]

@[simp] theorem keeps_retirePage {ls : List Fld} {sz : State} (k : Nat) (s : State) (hl : ([.mem] : List Fld) ⊆ ls) :
    Keeps ls sz (retirePage k s) ↔ Keeps ls sz s := by
  simp only [List.cons_subset, List.nil_subset, and_true] at hl
  unfold retirePage
  try simp only []
  repeat' (split)
  all_goals simp [hl]

@[simp] theorem keeps_testMem {ls : List Fld} {sz : State} (t : MemTest) (s : State) (hl : ([.power, .mem] : List Fld) ⊆ ls) :
    Keeps ls sz (testMem t s).1 ↔ Keeps ls sz s := by
  simp only [List.cons_subset, List.nil_subset, and_true] at hl
  unfold testMem
  try simp only []
  repeat' split
  all_goals simp [hl]

@[simp] theorem keeps_memStage {ls : List Fld} {sz : State} (us : List Nat) (res : List MemTest) (s : State) (hl : ([.power, .boot, .dmap, .mem, .out] : List Fld) ⊆ ls) :
    Keeps ls sz (memStage us res s) ↔ Keeps ls sz s := by
  simp only [List.cons_subset, List.nil_subset, and_true] at hl
  have tm : ∀ (xs : List Nat) (p : State × List Finding), Keeps ls sz (xs.foldl (fun (p : State × List Finding) u =>
      let t := (res.find? (·.unit == u)).getD { unit := u }
      let q := testMem { t with reason := (memSupply p.1 u).getD t.reason } p.1
      (q.1, p.2 ++ q.2)) p).1 ↔ Keeps ls sz p.1 := by
    intro xs
    induction xs with
    | nil => intro p; rfl
    | cons x xs ih => intro p; simp only [List.foldl_cons]; rw [ih]; simp [hl]
  unfold memStage
  simp only []
  split
  · simp [hl]
  · rw [keeps_stagePass _ _ (by simp [hl])]
    simp only [keeps_mapUnits, hl, tm, List.cons_subset, List.nil_subset, and_true, true_and]
    simp [hl]

@[simp] theorem keeps_scanCard {ls : List Fld} {sz : State} (t : CardTest) (s : State) (hl : ([.flash] : List Fld) ⊆ ls) :
    Keeps ls sz (scanCard t s).1 ↔ Keeps ls sz s := by
  simp only [List.cons_subset, List.nil_subset, and_true] at hl
  unfold scanCard
  try simp only []
  repeat' split
  all_goals simp [hl]

@[simp] theorem keeps_qualify {ls : List Fld} {sz : State} (p : Nat) (st : PortState) (lanes : BitVec 9) (spared : Option Nat) (s : State) (hl : ([.dmap, .fab] : List Fld) ⊆ ls) :
    Keeps ls sz (qualify p st lanes spared s) ↔ Keeps ls sz s := by
  simp only [List.cons_subset, List.nil_subset, and_true] at hl
  unfold qualify
  simp [hl]

@[simp] theorem keeps_bu8Port {ls : List Fld} {sz : State} (res : List PortTest) (p : Nat) (s : State) (hl : ([.dmap, .fab] : List Fld) ⊆ ls) :
    Keeps ls sz (bu8Port res p s).1 ↔ Keeps ls sz s := by
  simp only [List.cons_subset, List.nil_subset, and_true] at hl
  unfold bu8Port
  try simp only []
  repeat' split
  all_goals simp [hl]

@[simp] theorem keeps_imgRequest {ls : List Fld} {sz : State} (idx off resends : Nat) (s : State) (hl : ([.chavi, .gw, .sec, .out] : List Fld) ⊆ ls) :
    Keeps ls sz (imgRequest idx off resends s) ↔ Keeps ls sz s := by
  simp only [List.cons_subset, List.nil_subset, and_true] at hl
  unfold imgRequest
  simp [hl]

@[simp] theorem keeps_bu10Chans {ls : List Fld} {sz : State} (s : State) (hl : ([.mbx] : List Fld) ⊆ ls) :
    Keeps ls sz (bu10Chans s) ↔ Keeps ls sz s := by
  simp only [List.cons_subset, List.nil_subset, and_true] at hl
  unfold bu10Chans
  simp [hl]

@[simp] theorem keeps_armStep {ls : List Fld} {sz : State} (st : Nat) (s : State) (hl : ([.clk] : List Fld) ⊆ ls) :
    Keeps ls sz (armStep st s) ↔ Keeps ls sz s := by
  simp only [List.cons_subset, List.nil_subset, and_true] at hl
  unfold armStep
  simp [hl]

@[simp] theorem keeps_withdrawStep {ls : List Fld} {sz : State} (s : State) (hl : ([.clk] : List Fld) ⊆ ls) :
    Keeps ls sz (withdrawStep s) ↔ Keeps ls sz s := by
  simp only [List.cons_subset, List.nil_subset, and_true] at hl
  unfold withdrawStep
  simp [hl]

@[simp] theorem keeps_armCeiling {ls : List Fld} {sz : State} (st : Nat) (s : State) (hl : ([.clk, .cap] : List Fld) ⊆ ls) :
    Keeps ls sz (armCeiling st s) ↔ Keeps ls sz s := by
  simp only [List.cons_subset, List.nil_subset, and_true] at hl
  unfold armCeiling
  simp [hl]

@[simp] theorem keeps_ceilingEval {ls : List Fld} {sz : State} (s : State) (hl : ([.clk, .fab, .chavi, .mbx, .gw, .err, .cap, .sec, .attn, .out] : List Fld) ⊆ ls) :
    Keeps ls sz (ceilingEval s) ↔ Keeps ls sz s := by
  simp only [List.cons_subset, List.nil_subset, and_true] at hl
  unfold ceilingEval
  simp [hl]

@[simp] theorem keeps_recordEnergy {ls : List Fld} {sz : State} (e : Nat) (s : State) (hl : ([.cap] : List Fld) ⊆ ls) :
    Keeps ls sz (recordEnergy e s) ↔ Keeps ls sz s := by
  simp only [List.cons_subset, List.nil_subset, and_true] at hl
  unfold recordEnergy
  simp [hl]

@[simp] theorem keeps_tamper {ls : List Fld} {sz : State} (c : Code) (s : State) (hl : ([.fab, .chavi, .mbx, .gw, .err, .sec, .attn, .out] : List Fld) ⊆ ls) :
    Keeps ls sz (tamper c s) ↔ Keeps ls sz s := by
  simp only [List.cons_subset, List.nil_subset, and_true] at hl
  unfold tamper
  simp [hl]

@[simp] theorem keeps_chaviFront {ls : List Fld} {sz : State} (h : ChaviHdr) (s : State) (hl : ([.fab, .chavi, .mbx, .gw, .err, .sec, .attn, .out] : List Fld) ⊆ ls) :
    Keeps ls sz (chaviFront h s).2 ↔ Keeps ls sz s := by
  simp only [List.cons_subset, List.nil_subset, and_true] at hl
  unfold chaviFront
  try simp only []
  repeat' split
  all_goals simp [hl]

@[simp] theorem keeps_chaviFreed {ls : List Fld} {sz : State} (n : Nat) (s : State) (hl : ([.chavi, .sec, .out] : List Fld) ⊆ ls) :
    Keeps ls sz (chaviFreed n s) ↔ Keeps ls sz s := by
  simp only [List.cons_subset, List.nil_subset, and_true] at hl
  unfold chaviFreed
  simp [hl]

@[simp] theorem keeps_chaviRsp {ls : List Fld} {sz : State} (tag arg : Nat) (c : Code) (data : List Byte) (s : State) (hl : ([.chavi, .sec, .out] : List Fld) ⊆ ls) :
    Keeps ls sz (chaviRsp tag arg c data s) ↔ Keeps ls sz s := by
  simp only [List.cons_subset, List.nil_subset, and_true] at hl
  unfold chaviRsp
  simp [hl]

@[simp] theorem keeps_hostSend {ls : List Fld} {sz : State} (q : HostReq) (s : State) (hl : ([.fab, .chavi, .mbx, .sec, .out] : List Fld) ⊆ ls) :
    Keeps ls sz (hostSend q s) ↔ Keeps ls sz s := by
  simp only [List.cons_subset, List.nil_subset, and_true] at hl
  unfold hostSend
  try simp only []
  repeat' (split)
  all_goals simp [hl]

@[simp] theorem keeps_doneTake {ls : List Fld} {sz : State} (ch mseq code : Nat) (path : Rcv) (auth : Bool) (s : State) (hl : ([.mbx] : List Fld) ⊆ ls) :
    Keeps ls sz (doneTake ch mseq code path auth s).2 ↔ Keeps ls sz s := by
  simp only [List.cons_subset, List.nil_subset, and_true] at hl
  unfold doneTake
  try simp only []
  repeat' split
  all_goals simp [hl]

@[simp] theorem keeps_hostDone {ls : List Fld} {sz : State} (q : HostReq) (s : State) (hl : ([.chavi, .mbx, .sec, .out] : List Fld) ⊆ ls) :
    Keeps ls sz (hostDone q s) ↔ Keeps ls sz s := by
  simp only [List.cons_subset, List.nil_subset, and_true] at hl
  unfold hostDone
  try simp only []
  repeat' (split)
  all_goals simp [hl]

@[simp] theorem keeps_joinQueue {ls : List Fld} {sz : State} (r : Nat) (s : State) (hl : ([.power] : List Fld) ⊆ ls) :
    Keeps ls sz (joinQueue r s) ↔ Keeps ls sz s := by
  simp only [List.cons_subset, List.nil_subset, and_true] at hl
  unfold joinQueue
  simp [hl]

@[simp] theorem keeps_startWake {ls : List Fld} {sz : State} (r : Nat) (s : State) (hl : ([.power, .rows] : List Fld) ⊆ ls) :
    Keeps ls sz (startWake r s) ↔ Keeps ls sz s := by
  simp only [List.cons_subset, List.nil_subset, and_true] at hl
  unfold startWake
  try simp only []
  repeat' (split)
  all_goals simp [hl]

@[simp] theorem keeps_touchHalf {ls : List Fld} {sz : State} (h : Nat) (s : State) (hl : ([.power] : List Fld) ⊆ ls) :
    Keeps ls sz (touchHalf h s) ↔ Keeps ls sz s := by
  simp only [List.cons_subset, List.nil_subset, and_true] at hl
  unfold touchHalf
  simp [hl]

@[simp] theorem keeps_wakeRow {ls : List Fld} {sz : State} (r : Nat) (s : State) (hl : ([.power, .rows] : List Fld) ⊆ ls) :
    Keeps ls sz (wakeRow r s) ↔ Keeps ls sz s := by
  simp only [List.cons_subset, List.nil_subset, and_true] at hl
  unfold wakeRow
  simp [hl]

@[simp] theorem keeps_purgeHead {ls : List Fld} {sz : State} (k n : Nat) (s : State) (hl : ([.mem, .fab, .chavi, .mbx, .rings, .gw, .err, .sec, .attn, .out] : List Fld) ⊆ ls) :
    Keeps ls sz (purgeHead k n s) ↔ Keeps ls sz s := by
  simp only [List.cons_subset, List.nil_subset, and_true] at hl
  induction k generalizing s  with
  | zero => rfl
  | succ k ih =>
    unfold purgeHead
    try simp only []
    repeat' split
    all_goals (try (rename_i heq; replace heq := (congrArg Prod.snd heq).symm; dsimp only at heq; subst heq))
    all_goals simp [hl, ih]

@[simp] theorem keeps_newEntries {ls : List Fld} {sz : State} (n : Nat) (g : RqRing) (s : State) (hl : ([.power, .rows, .mem, .fab, .chavi, .mbx, .rings, .gw, .err, .sec, .attn, .out] : List Fld) ⊆ ls) :
    Keeps ls sz (newEntries n g s) ↔ Keeps ls sz s := by
  simp only [List.cons_subset, List.nil_subset, and_true] at hl
  unfold newEntries
  try simp only []
  repeat' (split)
  all_goals simp [hl]

@[simp] theorem keeps_drainHeld {ls : List Fld} {sz : State} (k n : Nat) (s : State) (hl : ([.mem, .fab, .chavi, .mbx, .rings, .gw, .err, .sec, .attn, .out] : List Fld) ⊆ ls) :
    Keeps ls sz (drainHeld k n s) ↔ Keeps ls sz s := by
  simp only [List.cons_subset, List.nil_subset, and_true] at hl
  induction k generalizing s  with
  | zero => rfl
  | succ k ih =>
    unfold drainHeld
    try simp only []
    repeat' split
    all_goals (try (rename_i heq; replace heq := (congrArg Prod.snd heq).symm; dsimp only at heq; subst heq))
    all_goals simp [hl, ih]

@[simp] theorem keeps_doorbell {ls : List Fld} {sz : State} (frm : DbFrom) (word : Nat) (s : State) (hl : ([.power, .rows, .boot, .mem, .fab, .chavi, .mbx, .rings, .gw, .err, .sec, .attn, .out] : List Fld) ⊆ ls) :
    Keeps ls sz (doorbell frm word s).2 ↔ Keeps ls sz s := by
  simp only [List.cons_subset, List.nil_subset, and_true] at hl
  unfold doorbell
  try simp only []
  repeat' split
  all_goals simp [hl]

@[simp] theorem keeps_hostBell {ls : List Fld} {sz : State} (q : HostReq) (s : State) (hl : ([.power, .rows, .boot, .mem, .fab, .chavi, .mbx, .rings, .gw, .err, .sec, .attn, .out] : List Fld) ⊆ ls) :
    Keeps ls sz (hostBell q s) ↔ Keeps ls sz s := by
  simp only [List.cons_subset, List.nil_subset, and_true] at hl
  unfold hostBell
  try simp only []
  repeat' (split)
  all_goals simp [hl]

@[simp] theorem keeps_hostPerform {ls : List Fld} {sz : State} (q : HostReq) (s : State) (hl : ([.power, .rows, .boot, .mem, .fab, .chavi, .mbx, .rings, .gw, .err, .sec, .attn, .out] : List Fld) ⊆ ls) :
    Keeps ls sz (hostPerform q s) ↔ Keeps ls sz s := by
  simp only [List.cons_subset, List.nil_subset, and_true] at hl
  unfold hostPerform
  try simp only []
  repeat' (split)
  all_goals simp [hl]

@[simp] theorem keeps_hostArrive {ls : List Fld} {sz : State} (q : HostReq) (s : State) (hl : ([.power, .rows, .boot, .mem, .fab, .chavi, .mbx, .rings, .gw, .err, .sec, .attn, .out] : List Fld) ⊆ ls) :
    Keeps ls sz (hostArrive q s) ↔ Keeps ls sz s := by
  simp only [List.cons_subset, List.nil_subset, and_true] at hl
  unfold hostArrive
  simp [hl]

@[simp] theorem keeps_touchMem {ls : List Fld} {sz : State} (a : Nat) (s : State) (hl : ([.power] : List Fld) ⊆ ls) :
    Keeps ls sz (touchMem a s) ↔ Keeps ls sz s := by
  simp only [List.cons_subset, List.nil_subset, and_true] at hl
  unfold touchMem
  try simp only []
  repeat' (split)
  all_goals simp [hl]

@[simp] theorem keeps_hostAccess {ls : List Fld} {sz : State} (h : ChaviHdr) (wr : Bool) (win off len arg : Nat) (data : List Byte) (s : State) (hl : ([.power, .rows, .mem, .chavi, .sec, .out] : List Fld) ⊆ ls) :
    Keeps ls sz (hostAccess h wr win off len arg data s) ↔ Keeps ls sz s := by
  simp only [List.cons_subset, List.nil_subset, and_true] at hl
  unfold hostAccess
  try simp only []
  repeat' (split)
  all_goals simp [hl]

@[simp] theorem keeps_hostWindow {ls : List Fld} {sz : State} (h : ChaviHdr) (wr : Bool) (win off wepoch len arg : Nat) (data : List Byte) (s : State) (hl : ([.power, .rows, .mem, .chavi, .sec, .out] : List Fld) ⊆ ls) :
    Keeps ls sz (hostWindow h wr win off wepoch len arg data s) ↔ Keeps ls sz s := by
  simp only [List.cons_subset, List.nil_subset, and_true] at hl
  unfold hostWindow
  try simp only []
  repeat' (split)
  all_goals simp [hl]

@[simp] theorem keeps_writeNext {ls : List Fld} {sz : State} (n : Nat) (s : State) (hl : ([.clk] : List Fld) ⊆ ls) :
    Keeps ls sz (writeNext n s) ↔ Keeps ls sz s := by
  simp only [List.cons_subset, List.nil_subset, and_true] at hl
  unfold writeNext
  simp [hl]

@[simp] theorem keeps_armWrite {ls : List Fld} {sz : State} (tick : Nat) (s : State) (hl : ([.clk] : List Fld) ⊆ ls) :
    Keeps ls sz (armWrite tick s) ↔ Keeps ls sz s := by
  simp only [List.cons_subset, List.nil_subset, and_true] at hl
  unfold armWrite
  simp [hl]

@[simp] theorem keeps_dropIfDue {ls : List Fld} {sz : State} (s : State) (hl : ([.clk, .cap] : List Fld) ⊆ ls) :
    Keeps ls sz (dropIfDue s) ↔ Keeps ls sz s := by
  simp only [List.cons_subset, List.nil_subset, and_true] at hl
  unfold dropIfDue
  simp [hl]

@[simp] theorem keeps_State_modDma {ls : List Fld} {sz : State} (s : State) (r e : Nat) (f : Dma → Dma) (hl : ([.rows] : List Fld) ⊆ ls) :
    Keeps ls sz (State.modDma s r e f) ↔ Keeps ls sz s := by
  simp only [List.cons_subset, List.nil_subset, and_true] at hl
  unfold State.modDma
  simp [hl]

@[simp] theorem keeps_dmaSubmit {ls : List Fld} {sz : State} (r e : Nat) (d : DmaDesc) (s : State) (hl : ([.rows] : List Fld) ⊆ ls) :
    Keeps ls sz (dmaSubmit r e d s) ↔ Keeps ls sz s := by
  simp only [List.cons_subset, List.nil_subset, and_true] at hl
  unfold dmaSubmit
  try simp only []
  repeat' (split)
  all_goals simp [hl]

@[simp] theorem keeps_freeEverywhere {ls : List Fld} {sz : State} (o : Nat) (s : State) (hl : ([.rows] : List Fld) ⊆ ls) :
    Keeps ls sz (freeEverywhere o s) ↔ Keeps ls sz s := by
  simp only [List.cons_subset, List.nil_subset, and_true] at hl
  unfold freeEverywhere
  simp [hl]

@[simp] theorem keeps_dmaEnd {ls : List Fld} {sz : State} (r e : Nat) (c : Code) (done : Nat) (s : State) (hl : ([.rows] : List Fld) ⊆ ls) :
    Keeps ls sz (dmaEnd r e c done s) ↔ Keeps ls sz s := by
  simp only [List.cons_subset, List.nil_subset, and_true] at hl
  unfold dmaEnd
  try simp only []
  repeat' (split)
  all_goals simp [hl]

@[simp] theorem keeps_dmaRecord {ls : List Fld} {sz : State} (r e : Nat) (c : Code) (s : State) (hl : ([.fab, .chavi, .mbx, .gw, .err, .sec, .attn, .out] : List Fld) ⊆ ls) :
    Keeps ls sz (dmaRecord r e c s) ↔ Keeps ls sz s := by
  simp only [List.cons_subset, List.nil_subset, and_true] at hl
  unfold dmaRecord
  simp [hl]

@[simp] theorem keeps_dmaRequest {ls : List Fld} {sz : State} (k r e : Nat) (s : State) (hl : ([.rows, .fab, .chavi, .mbx, .gw, .err, .sec, .attn, .out] : List Fld) ⊆ ls) :
    Keeps ls sz (dmaRequest k r e s) ↔ Keeps ls sz s := by
  simp only [List.cons_subset, List.nil_subset, and_true] at hl
  induction k generalizing s  with
  | zero => rfl
  | succ k ih =>
    unfold dmaRequest
    try simp only []
    repeat' split
    all_goals (try (rename_i heq; replace heq := (congrArg Prod.snd heq).symm; dsimp only at heq; subst heq))
    all_goals simp [hl, ih]

@[simp] theorem keeps_dmaWrite {ls : List Fld} {sz : State} (d : DmaDesc) (taint : List (Nat × Nat)) (bad : Bool) (l : List (Nat × List Byte)) (s : State) (hl : ([.rows, .mem] : List Fld) ⊆ ls) :
    Keeps ls sz (dmaWrite d taint bad l s) ↔ Keeps ls sz s := by
  simp only [List.cons_subset, List.nil_subset, and_true] at hl
  unfold dmaWrite
  simp [hl]

@[simp] theorem keeps_State_modBinding {ls : List Fld} {sz : State} (s : State) (n : Nat) (f : Binding → Binding) (hl : ([.fab] : List Fld) ⊆ ls) :
    Keeps ls sz (State.modBinding s n f) ↔ Keeps ls sz s := by
  simp only [List.cons_subset, List.nil_subset, and_true] at hl
  unfold State.modBinding
  simp [hl]

@[simp] theorem keeps_sendFails {ls : List Fld} {sz : State} (n : Nat) (c : Code) (s : State) (hl : ([.fab] : List Fld) ⊆ ls) :
    Keeps ls sz (sendFails n c s) ↔ Keeps ls sz s := by
  simp only [List.cons_subset, List.nil_subset, and_true] at hl
  unfold sendFails
  simp [hl]

@[simp] theorem keeps_sendGo {ls : List Fld} {sz : State} (n : Nat) (s : State) (hl : ([.fab] : List Fld) ⊆ ls) :
    Keeps ls sz (sendGo n s) ↔ Keeps ls sz s := by
  simp only [List.cons_subset, List.nil_subset, and_true] at hl
  unfold sendGo
  try simp only []
  repeat' (split)
  all_goals simp [hl]

@[simp] theorem keeps_answer {ls : List Fld} {sz : State} (b : Nat) (p : Pkt) (c : Code) (data : List Byte) (s : State) (hl : ([.fab] : List Fld) ⊆ ls) :
    Keeps ls sz (answer b p c data s) ↔ Keeps ls sz s := by
  simp only [List.cons_subset, List.nil_subset, and_true] at hl
  unfold answer
  simp [hl]

@[simp] theorem keeps_ingAnswer {ls : List Fld} {sz : State} (g : Ingress) (c : Code) (data : List Byte) (s : State) (hl : ([.fetch, .fab, .chavi, .sec, .out] : List Fld) ⊆ ls) :
    Keeps ls sz (ingAnswer g c data s) ↔ Keeps ls sz s := by
  simp only [List.cons_subset, List.nil_subset, and_true] at hl
  unfold ingAnswer
  try simp only []
  repeat' (split)
  all_goals simp [hl]

@[simp] theorem keeps_ingRefuse {ls : List Fld} {sz : State} (r : Nat) (g : Ingress) (c : Code) (s : State) (hl : ([.fetch, .fab, .chavi, .mbx, .gw, .err, .sec, .attn, .out] : List Fld) ⊆ ls) :
    Keeps ls sz (ingRefuse r g c s) ↔ Keeps ls sz s := by
  simp only [List.cons_subset, List.nil_subset, and_true] at hl
  unfold ingRefuse
  simp [hl]

@[simp] theorem keeps_provLines {ls : List Fld} {sz : State} (r : Nat) (g : Ingress) (s : State) (hl : ([.rows] : List Fld) ⊆ ls) :
    Keeps ls sz (provLines r g s) ↔ Keeps ls sz s := by
  simp only [List.cons_subset, List.nil_subset, and_true] at hl
  unfold provLines
  try simp only []
  repeat' (split)
  all_goals simp [hl]

@[simp] theorem keeps_ingPerform {ls : List Fld} {sz : State} (r a : Nat) (g : Ingress) (bad : Bool) (s : State) (hl : ([.rows, .mem, .fetch, .fab, .chavi, .mbx, .gw, .err, .sec, .attn, .out] : List Fld) ⊆ ls) :
    Keeps ls sz (ingPerform r a g bad s) ↔ Keeps ls sz s := by
  simp only [List.cons_subset, List.nil_subset, and_true] at hl
  unfold ingPerform
  simp [hl]

@[simp] theorem keeps_winSet {ls : List Fld} {sz : State} (n : Nat) (w : Window) (s : State) (hl : ([.fab] : List Fld) ⊆ ls) :
    Keeps ls sz (winSet n w s) ↔ Keeps ls sz s := by
  simp only [List.cons_subset, List.nil_subset, and_true] at hl
  unfold winSet
  simp [hl]

@[simp] theorem keeps_windowsSettle {ls : List Fld} {sz : State} (s : State) (hl : ([.mem, .fab, .chavi, .mbx, .gw, .sec, .out] : List Fld) ⊆ ls) :
    Keeps ls sz (windowsSettle s) ↔ Keeps ls sz s := by
  simp only [List.cons_subset, List.nil_subset, and_true] at hl
  unfold windowsSettle
  simp [hl]

@[simp] theorem keeps_discardRecord {ls : List Fld} {sz : State} (port b : Nat) (c : Code) (p : Pkt) (s : State) (hl : ([.fab, .chavi, .mbx, .gw, .err, .sec, .attn, .out] : List Fld) ⊆ ls) :
    Keeps ls sz (discardRecord port b c p s) ↔ Keeps ls sz s := by
  simp only [List.cons_subset, List.nil_subset, and_true] at hl
  unfold discardRecord
  simp [hl]

@[simp] theorem keeps_syncInflight {ls : List Fld} {sz : State} (b : Nat) (s : State) (hl : ([.fab] : List Fld) ⊆ ls) :
    Keeps ls sz (syncInflight b s) ↔ Keeps ls sz s := by
  simp only [List.cons_subset, List.nil_subset, and_true] at hl
  unfold syncInflight
  simp [hl]

@[simp] theorem keeps_drainGo {ls : List Fld} {sz : State} (k n : Nat) (s : State) (hl : ([.fab, .out] : List Fld) ⊆ ls) :
    Keeps ls sz (drainGo k n s) ↔ Keeps ls sz s := by
  simp only [List.cons_subset, List.nil_subset, and_true] at hl
  induction k generalizing s  with
  | zero => rfl
  | succ k ih =>
    unfold drainGo
    try simp only []
    repeat' split
    all_goals (try (rename_i heq; replace heq := (congrArg Prod.snd heq).symm; dsimp only at heq; subst heq))
    all_goals simp [hl, ih]

@[simp] theorem keeps_drainPort {ls : List Fld} {sz : State} (port : Nat) (s : State) (hl : ([.fab, .out] : List Fld) ⊆ ls) :
    Keeps ls sz (drainPort port s) ↔ Keeps ls sz s := by
  simp only [List.cons_subset, List.nil_subset, and_true] at hl
  unfold drainPort
  simp [hl]

@[simp] theorem keeps_enqueue {ls : List Fld} {sz : State} (port : Nat) (p : Pkt) (s : State) (hl : ([.fab, .out] : List Fld) ⊆ ls) :
    Keeps ls sz (enqueue port p s) ↔ Keeps ls sz s := by
  simp only [List.cons_subset, List.nil_subset, and_true] at hl
  unfold enqueue
  simp [hl]

@[simp] theorem keeps_freeCredit {ls : List Fld} {sz : State} (port : Nat) (p : Pkt) (s : State) (hl : ([.fab] : List Fld) ⊆ ls) :
    Keeps ls sz (freeCredit port p s) ↔ Keeps ls sz s := by
  simp only [List.cons_subset, List.nil_subset, and_true] at hl
  unfold freeCredit
  simp [hl]

@[simp] theorem keeps_forwardPkt {ls : List Fld} {sz : State} (k n b : Nat) (p : Pkt) (s : State) (hl : ([.fab, .chavi, .mbx, .gw, .err, .sec, .attn, .out] : List Fld) ⊆ ls) :
    Keeps ls sz (forwardPkt k n b p s) ↔ Keeps ls sz s := by
  simp only [List.cons_subset, List.nil_subset, and_true] at hl
  induction k generalizing s b with
  | zero => rfl
  | succ k ih =>
    unfold forwardPkt
    try simp only []
    repeat' split
    all_goals (try (rename_i heq; replace heq := (congrArg Prod.snd heq).symm; dsimp only at heq; subst heq))
    all_goals simp [hl, ih]

@[simp] theorem keeps_portLoss {ls : List Fld} {sz : State} (port : Nat) (s : State) (hl : ([.dmap, .fab, .chavi, .mbx, .gw, .err, .sec, .attn, .out] : List Fld) ⊆ ls) :
    Keeps ls sz (portLoss port s) ↔ Keeps ls sz s := by
  simp only [List.cons_subset, List.nil_subset, and_true] at hl
  unfold portLoss
  simp only []
  rw [keeps_errRecord _ _ (by simp [hl]), keeps_each]
  · simp [hl]
  · intro x t
    repeat' split
    all_goals simp [hl]

@[simp] theorem keeps_refusePkt {ls : List Fld} {sz : State} (port b : Nat) (c : Code) (p : Pkt) (s : State) (hl : ([.fab, .chavi, .mbx, .gw, .err, .sec, .attn, .out] : List Fld) ⊆ ls) :
    Keeps ls sz (refusePkt port b c p s) ↔ Keeps ls sz s := by
  simp only [List.cons_subset, List.nil_subset, and_true] at hl
  unfold refusePkt
  simp [hl]

@[simp] theorem keeps_memPerform {ls : List Fld} {sz : State} (b : Nat) (p : Pkt) (a : Nat) (s : State) (hl : ([.power, .mem, .fab] : List Fld) ⊆ ls) :
    Keeps ls sz (memPerform b p a s) ↔ Keeps ls sz s := by
  simp only [List.cons_subset, List.nil_subset, and_true] at hl
  unfold memPerform
  try simp only []
  repeat' (split)
  all_goals simp [hl]

@[simp] theorem keeps_windowGo {ls : List Fld} {sz : State} (b i : Nat) (p : Pkt) (s : State) (hl : ([.power, .rows, .mem, .fab] : List Fld) ⊆ ls) :
    Keeps ls sz (windowGo b i p s) ↔ Keeps ls sz s := by
  simp only [List.cons_subset, List.nil_subset, and_true] at hl
  unfold windowGo
  try simp only []
  repeat' (split)
  all_goals simp [hl]

@[simp] theorem keeps_windowReq {ls : List Fld} {sz : State} (b i : Nat) (p : Pkt) (s : State) (hl : ([.power, .rows, .mem, .fab] : List Fld) ⊆ ls) :
    Keeps ls sz (windowReq b i p s) ↔ Keeps ls sz s := by
  simp only [List.cons_subset, List.nil_subset, and_true] at hl
  unfold windowReq
  try simp only []
  repeat' (split)
  all_goals simp [hl]

@[simp] theorem keeps_releaseFenced {ls : List Fld} {sz : State} (b : Nat) (s : State) (hl : ([.fab] : List Fld) ⊆ ls) :
    Keeps ls sz (releaseFenced b s) ↔ Keeps ls sz s := by
  simp only [List.cons_subset, List.nil_subset, and_true] at hl
  unfold releaseFenced
  simp [hl]

@[simp] theorem keeps_tokenAnswered {ls : List Fld} {sz : State} (dst tseq status : Nat) (s : State) (hl : ([.clk, .fab, .chavi, .mbx, .gw, .err, .cap, .sec, .attn, .out] : List Fld) ⊆ ls) :
    Keeps ls sz (tokenAnswered dst tseq status s) ↔ Keeps ls sz s := by
  simp only [List.cons_subset, List.nil_subset, and_true] at hl
  unfold tokenAnswered
  try simp only []
  repeat' (split)
  all_goals simp [hl]

@[simp] theorem keeps_sendOver {ls : List Fld} {sz : State} (n : Nat) (s : State) (hl : ([.rows, .mem, .fab, .chavi, .mbx, .gw, .sec, .out] : List Fld) ⊆ ls) :
    Keeps ls sz (sendOver n s) ↔ Keeps ls sz s := by
  simp only [List.cons_subset, List.nil_subset, and_true] at hl
  unfold sendOver
  simp [hl]

@[simp] theorem keeps_State_modEngine {ls : List Fld} {sz : State} (s : State) (b e : Nat) (f : FetchRun → FetchRun) (hl : ([.fetch] : List Fld) ⊆ ls) :
    Keeps ls sz (State.modEngine s b e f) ↔ Keeps ls sz s := by
  simp only [List.cons_subset, List.nil_subset, and_true] at hl
  unfold State.modEngine
  simp [hl]

@[simp] theorem keeps_mbxTake {ls : List Fld} {sz : State} (n code : Nat) (s : State) (hl : ([.mbx] : List Fld) ⊆ ls) :
    Keeps ls sz (mbxTake n code s) ↔ Keeps ls sz s := by
  simp only [List.cons_subset, List.nil_subset, and_true] at hl
  unfold mbxTake
  simp [hl]

@[simp] theorem keeps_requestDone {ls : List Fld} {sz : State} (t : Tracked) (status : Nat) (s : State) (hl : ([.clk, .rows, .mem, .fetch, .fab, .chavi, .mbx, .gw, .err, .cap, .sec, .attn, .out] : List Fld) ⊆ ls) :
    Keeps ls sz (requestDone t status s) ↔ Keeps ls sz s := by
  simp only [List.cons_subset, List.nil_subset, and_true] at hl
  unfold requestDone
  try simp only []
  repeat' (split)
  all_goals simp [hl]

@[simp] theorem keeps_responseIn {ls : List Fld} {sz : State} (b : Nat) (p : Pkt) (s : State) (hl : ([.clk, .rows, .mem, .fetch, .fab, .chavi, .mbx, .gw, .err, .cap, .sec, .attn, .out] : List Fld) ⊆ ls) :
    Keeps ls sz (responseIn b p s) ↔ Keeps ls sz s := by
  simp only [List.cons_subset, List.nil_subset, and_true] at hl
  unfold responseIn
  try simp only []
  repeat' (split)
  all_goals simp [hl]

@[simp] theorem keeps_doorbellPkt {ls : List Fld} {sz : State} (b i : Nat) (p : Pkt) (s : State) (hl : ([.power, .rows, .boot, .mem, .fab, .chavi, .mbx, .rings, .gw, .err, .sec, .attn, .out] : List Fld) ⊆ ls) :
    Keeps ls sz (doorbellPkt b i p s) ↔ Keeps ls sz s := by
  simp only [List.cons_subset, List.nil_subset, and_true] at hl
  unfold doorbellPkt
  try simp only []
  repeat' (split)
  all_goals simp [hl]

@[simp] theorem keeps_fetchPkt {ls : List Fld} {sz : State} (port b i : Nat) (p : Pkt) (s : State) (hl : ([.fetch, .fab, .chavi, .mbx, .gw, .err, .sec, .attn, .out] : List Fld) ⊆ ls) :
    Keeps ls sz (fetchPkt port b i p s) ↔ Keeps ls sz s := by
  simp only [List.cons_subset, List.nil_subset, and_true] at hl
  unfold fetchPkt
  simp [hl]

@[simp] theorem keeps_msgPkt {ls : List Fld} {sz : State} (port b : Nat) (p : Pkt) (s : State) (hl : ([.fab, .chavi, .mbx, .gw, .err, .sec, .attn, .out] : List Fld) ⊆ ls) :
    Keeps ls sz (msgPkt port b p s) ↔ Keeps ls sz s := by
  simp only [List.cons_subset, List.nil_subset, and_true] at hl
  unfold msgPkt
  try simp only []
  repeat' (split)
  all_goals simp [hl]

@[simp] theorem keeps_tokenTake {ls : List Fld} {sz : State} (p : Pkt) (s : State) (hl : ([.clk, .fab, .chavi, .mbx, .gw, .err, .cap, .sec, .attn, .out] : List Fld) ⊆ ls) :
    Keeps ls sz (tokenTake p s).2 ↔ Keeps ls sz s := by
  simp only [List.cons_subset, List.nil_subset, and_true] at hl
  unfold tokenTake
  try simp only []
  repeat' split
  all_goals simp [hl]

@[simp] theorem keeps_tokenPkt {ls : List Fld} {sz : State} (port b i : Nat) (p : Pkt) (s : State) (hl : ([.clk, .fab, .chavi, .mbx, .gw, .err, .cap, .sec, .attn, .out] : List Fld) ⊆ ls) :
    Keeps ls sz (tokenPkt port b i p s) ↔ Keeps ls sz s := by
  simp only [List.cons_subset, List.nil_subset, and_true] at hl
  unfold tokenPkt
  try simp only []
  repeat' (split)
  all_goals simp [hl]

@[simp] theorem keeps_verdictHeld {ls : List Fld} {sz : State} (b tag : Nat) (v : Verdict) (s : State) (hl : ([.power, .mem, .fab] : List Fld) ⊆ ls) :
    Keeps ls sz (verdictHeld b tag v s) ↔ Keeps ls sz s := by
  simp only [List.cons_subset, List.nil_subset, and_true] at hl
  unfold verdictHeld
  try simp only []
  repeat' (split)
  all_goals simp [hl]

@[simp] theorem keeps_poisonPkt {ls : List Fld} {sz : State} (port b : Nat) (p : Pkt) (s : State) (hl : ([.power, .rows, .mem, .fetch, .fab, .chavi, .mbx, .gw, .err, .wit, .sec, .attn, .out] : List Fld) ⊆ ls) :
    Keeps ls sz (poisonPkt port b p s) ↔ Keeps ls sz s := by
  simp only [List.cons_subset, List.nil_subset, and_true] at hl
  unfold poisonPkt
  simp [hl]

@[simp] theorem keeps_witrecPkt {ls : List Fld} {sz : State} (port b i : Nat) (p : Pkt) (s : State) (hl : ([.fab, .chavi, .mbx, .gw, .err, .wit, .sec, .attn, .out] : List Fld) ⊆ ls) :
    Keeps ls sz (witrecPkt port b i p s) ↔ Keeps ls sz s := by
  simp only [List.cons_subset, List.nil_subset, and_true] at hl
  unfold witrecPkt
  simp [hl]

@[simp] theorem keeps_deliverPkt {ls : List Fld} {sz : State} (port b i : Nat) (p : Pkt) (s : State) (hl : ([.power, .clk, .rows, .boot, .mem, .fetch, .fab, .chavi, .mbx, .rings, .gw, .err, .cap, .wit, .sec, .attn, .out] : List Fld) ⊆ ls) :
    Keeps ls sz (deliverPkt port b i p s) ↔ Keeps ls sz s := by
  simp only [List.cons_subset, List.nil_subset, and_true] at hl
  unfold deliverPkt
  try simp only []
  repeat' (split)
  all_goals simp [hl]

@[simp] theorem keeps_injectOut {ls : List Fld} {sz : State} (b : Nat) (s : State) (hl : ([.power, .clk, .rows, .boot, .mem, .fetch, .fab, .chavi, .mbx, .rings, .gw, .err, .cap, .wit, .sec, .attn, .out] : List Fld) ⊆ ls) :
    Keeps ls sz (injectOut b s) ↔ Keeps ls sz s := by
  simp only [List.cons_subset, List.nil_subset, and_true] at hl
  unfold injectOut
  try simp only []
  repeat' (split)
  all_goals simp [hl]

@[simp] theorem keeps_sendFlit {ls : List Fld} {sz : State} (port : Nat) (nak : Bool) (s : State) (hl : ([.out] : List Fld) ⊆ ls) :
    Keeps ls sz (sendFlit port nak s) ↔ Keeps ls sz s := by
  simp only [List.cons_subset, List.nil_subset, and_true] at hl
  unfold sendFlit
  simp [hl]

@[simp] theorem keeps_laneCommand {ls : List Fld} {sz : State} (port lane : Nat) (swap : Bool) (s : State) (hl : ([.fab, .out] : List Fld) ⊆ ls) :
    Keeps ls sz (laneCommand port lane swap s) ↔ Keeps ls sz s := by
  simp only [List.cons_subset, List.nil_subset, and_true] at hl
  unfold laneCommand
  simp [hl]

@[simp] theorem keeps_laneDecide {ls : List Fld} {sz : State} (port lane : Nat) (swap : Bool) (s : State) (hl : ([.fab, .out] : List Fld) ⊆ ls) :
    Keeps ls sz (laneDecide port lane swap s) ↔ Keeps ls sz s := by
  simp only [List.cons_subset, List.nil_subset, and_true] at hl
  unfold laneDecide
  simp [hl]

@[simp] theorem keeps_mapPort {ls : List Fld} {sz : State} (port : Nat) (s : State) (hl : ([.dmap] : List Fld) ⊆ ls) :
    Keeps ls sz (mapPort port s) ↔ Keeps ls sz s := by
  simp only [List.cons_subset, List.nil_subset, and_true] at hl
  unfold mapPort
  simp [hl]

@[simp] theorem keeps_laneDone {ls : List Fld} {sz : State} (port lane : Nat) (swap : Bool) (s : State) (hl : ([.dmap, .fab, .chavi, .mbx, .gw, .err, .sec, .attn, .out] : List Fld) ⊆ ls) :
    Keeps ls sz (laneDone port lane swap s) ↔ Keeps ls sz s := by
  simp only [List.cons_subset, List.nil_subset, and_true] at hl
  unfold laneDone
  simp [hl]

@[simp] theorem keeps_deadlineRecord {ls : List Fld} {sz : State} (b addr : Nat) (s : State) (hl : ([.fab, .chavi, .mbx, .gw, .err, .sec, .attn, .out] : List Fld) ⊆ ls) :
    Keeps ls sz (deadlineRecord b addr s) ↔ Keeps ls sz s := by
  simp only [List.cons_subset, List.nil_subset, and_true] at hl
  unfold deadlineRecord
  simp [hl]

@[simp] theorem keeps_dropRecovery {ls : List Fld} {sz : State} (ast : Bool) (r t : Nat) (s : State) (hl : ([.gw] : List Fld) ⊆ ls) :
    Keeps ls sz (dropRecovery ast r t s) ↔ Keeps ls sz s := by
  simp only [List.cons_subset, List.nil_subset, and_true] at hl
  unfold dropRecovery
  simp [hl]

@[simp] theorem keeps_regionResv {ls : List Fld} {sz : State} (r t : Nat) (s : State) (hl : ([.rows] : List Fld) ⊆ ls) :
    Keeps ls sz (regionResv r t s) ↔ Keeps ls sz s := by
  simp only [List.cons_subset, List.nil_subset, and_true] at hl
  unfold regionResv
  simp [hl]

@[simp] theorem keeps_restoreTile {ls : List Fld} {sz : State} (r t : Nat) (s : State) (hl : ([.rows] : List Fld) ⊆ ls) :
    Keeps ls sz (restoreTile r t s) ↔ Keeps ls sz s := by
  simp only [List.cons_subset, List.nil_subset, and_true] at hl
  unfold restoreTile
  simp [hl]

@[simp] theorem keeps_formPair {ls : List Fld} {sz : State} (r pair : Nat) (s : State) (hl : ([.rows] : List Fld) ⊆ ls) :
    Keeps ls sz (formPair r pair s) ↔ Keeps ls sz s := by
  simp only [List.cons_subset, List.nil_subset, and_true] at hl
  unfold formPair
  simp [hl]

@[simp] theorem keeps_restorePair {ls : List Fld} {sz : State} (r pair : Nat) (badLead badFollow : Bool) (s : State) (hl : ([.rows, .fetch, .fab, .wit] : List Fld) ⊆ ls) :
    Keeps ls sz (restorePair r pair badLead badFollow s) ↔ Keeps ls sz s := by
  simp only [List.cons_subset, List.nil_subset, and_true] at hl
  unfold restorePair
  simp [hl]

@[simp] theorem keeps_endSlotRequests {ls : List Fld} {sz : State} (r c : Nat) (code : Code) (s : State) (hl : ([.mem, .fab, .chavi, .mbx, .rings, .gw, .err, .sec, .attn, .out] : List Fld) ⊆ ls) :
    Keeps ls sz (endSlotRequests r c code s) ↔ Keeps ls sz s := by
  simp only [List.cons_subset, List.nil_subset, and_true] at hl
  unfold endSlotRequests
  simp [hl]

@[simp] theorem keeps_startCore {ls : List Fld} {sz : State} (r c entry prog : Nat) (code : List Byte) (s : State) (hl : ([.rows] : List Fld) ⊆ ls) :
    Keeps ls sz (startCore r c entry prog code s) ↔ Keeps ls sz s := by
  simp only [List.cons_subset, List.nil_subset, and_true] at hl
  unfold startCore
  simp [hl]

@[simp] theorem keeps_restoreCore {ls : List Fld} {sz : State} (r c relrec : Nat) (s : State) (hl : ([.rows, .fab, .chavi, .mbx, .gw, .err, .sec, .attn, .out] : List Fld) ⊆ ls) :
    Keeps ls sz (restoreCore r c relrec s) ↔ Keeps ls sz s := by
  simp only [List.cons_subset, List.nil_subset, and_true] at hl
  unfold restoreCore
  try simp only []
  repeat' (split)
  all_goals simp [hl]

@[simp] theorem keeps_restoreSlotCore {ls : List Fld} {sz : State} (r c relrec : Nat) (s : State) (hl : ([.rows, .mem, .fab, .chavi, .mbx, .rings, .gw, .err, .sec, .attn, .out] : List Fld) ⊆ ls) :
    Keeps ls sz (restoreSlotCore r c relrec s) ↔ Keeps ls sz s := by
  simp only [List.cons_subset, List.nil_subset, and_true] at hl
  unfold restoreSlotCore
  simp [hl]

@[simp] theorem keeps_recoveryDone {ls : List Fld} {sz : State} (x : Recovery) (s : State) (hl : ([.mem, .fab, .chavi, .mbx, .gw, .err, .sec, .attn, .out] : List Fld) ⊆ ls) :
    Keeps ls sz (recoveryDone x s) ↔ Keeps ls sz s := by
  simp only [List.cons_subset, List.nil_subset, and_true] at hl
  unfold recoveryDone
  simp [hl]

@[simp] theorem keeps_recoverFree {ls : List Fld} {sz : State} (ast : Bool) (r : Nat) (set : List Nat) (s : State) (hl : ([.rows] : List Fld) ⊆ ls) :
    Keeps ls sz (recoverFree ast r set s) ↔ Keeps ls sz s := by
  simp only [List.cons_subset, List.nil_subset, and_true] at hl
  unfold recoverFree
  simp [hl]

@[simp] theorem keeps_fetchEnd {ls : List Fld} {sz : State} (b e : Nat) (s : State) (hl : ([.rows, .mem, .fetch, .flash, .fab, .chavi, .mbx, .gw, .sec, .out] : List Fld) ⊆ ls) :
    Keeps ls sz (fetchEnd b e s) ↔ Keeps ls sz s := by
  simp only [List.cons_subset, List.nil_subset, and_true] at hl
  unfold fetchEnd
  try simp only []
  repeat' (split)
  all_goals simp [hl]

@[simp] theorem keeps_attnOwed {ls : List Fld} {sz : State} (s : State) (hl : ([.chavi, .sec, .attn, .out] : List Fld) ⊆ ls) :
    Keeps ls sz (attnOwed s) ↔ Keeps ls sz s := by
  simp only [List.cons_subset, List.nil_subset, and_true] at hl
  unfold attnOwed
  simp [hl]

@[simp] theorem keeps_clearBelow {ls : List Fld} {sz : State} (n : Nat) (s : State) (hl : ([.chavi, .sec, .attn, .out] : List Fld) ⊆ ls) :
    Keeps ls sz (clearBelow n s) ↔ Keeps ls sz s := by
  simp only [List.cons_subset, List.nil_subset, and_true] at hl
  unfold clearBelow
  simp [hl]

@[simp] theorem keeps_fchanRecord {ls : List Fld} {sz : State} (c k : Nat) (code : Code) (detail : Nat) (s : State) (hl : ([.fab, .chavi, .mbx, .gw, .err, .sec, .attn, .out] : List Fld) ⊆ ls) :
    Keeps ls sz (fchanRecord c k code detail s) ↔ Keeps ls sz s := by
  simp only [List.cons_subset, List.nil_subset, and_true] at hl
  unfold fchanRecord
  simp [hl]

@[simp] theorem keeps_cardSet {ls : List Fld} {sz : State} (c : Nat) (st : CardState) (s : State) (hl : ([.dmap, .flash, .fab, .chavi, .mbx, .gw, .err, .sec, .attn, .out] : List Fld) ⊆ ls) :
    Keeps ls sz (cardSet c st s) ↔ Keeps ls sz s := by
  simp only [List.cons_subset, List.nil_subset, and_true] at hl
  unfold cardSet
  simp [hl]

@[simp] theorem keeps_cardFollow {ls : List Fld} {sz : State} (c : Nat) (s : State) (hl : ([.dmap, .mem, .fetch, .flash, .fab, .chavi, .mbx, .gw, .err, .sec, .attn, .out] : List Fld) ⊆ ls) :
    Keeps ls sz (cardFollow c s) ↔ Keeps ls sz s := by
  simp only [List.cons_subset, List.nil_subset, and_true] at hl
  unfold cardFollow
  try simp only []
  repeat' (split)
  all_goals simp [hl]

@[simp] theorem keeps_State_modFChan {ls : List Fld} {sz : State} (s : State) (c k : Nat) (f : FChan → FChan) (hl : ([.flash] : List Fld) ⊆ ls) :
    Keeps ls sz (State.modFChan s c k f) ↔ Keeps ls sz s := by
  simp only [List.cons_subset, List.nil_subset, and_true] at hl
  unfold State.modFChan
  simp [hl]

@[simp] theorem keeps_fchanSet {ls : List Fld} {sz : State} (c k : Nat) (st : FChanState) (reason : Nat) (s : State) (hl : ([.dmap, .mem, .fetch, .flash, .fab, .chavi, .mbx, .gw, .err, .sec, .attn, .out] : List Fld) ⊆ ls) :
    Keeps ls sz (fchanSet c k st reason s) ↔ Keeps ls sz s := by
  simp only [List.cons_subset, List.nil_subset, and_true] at hl
  unfold fchanSet
  try simp only []
  repeat' (split)
  all_goals simp [hl]

@[simp] theorem keeps_queueMove {ls : List Fld} {sz : State} (g : Nat × Nat) (c k : Nat) (s : State) (hl : ([.flash] : List Fld) ⊆ ls) :
    Keeps ls sz (queueMove g c k s) ↔ Keeps ls sz s := by
  simp only [List.cons_subset, List.nil_subset, and_true] at hl
  unfold queueMove
  simp [hl]

@[simp] theorem keeps_cacheUpdate {ls : List Fld} {sz : State} (t : Table) (x : Nat) (bytes : List Byte) (s : State) (hl : ([.mem] : List Fld) ⊆ ls) :
    Keeps ls sz (cacheUpdate t x bytes s) ↔ Keeps ls sz s := by
  simp only [List.cons_subset, List.nil_subset, and_true] at hl
  unfold cacheUpdate
  try simp only []
  repeat' (split)
  all_goals simp [hl]

@[simp] theorem keeps_applyRows {ls : List Fld} {sz : State} (t : Nat) (d : Table) (rows : List (Nat × List Byte)) (keys : List (Nat × Nat)) (s : State) (hl : ([.mem, .fetch, .flash] : List Fld) ⊆ ls) :
    Keeps ls sz (applyRows t d rows keys s) ↔ Keeps ls sz s := by
  simp only [List.cons_subset, List.nil_subset, and_true] at hl
  unfold applyRows
  simp [hl]

@[simp] theorem keeps_batchDone {ls : List Fld} {sz : State} (t : Nat) (s : State) (hl : ([.mem, .fetch, .fab, .chavi, .mbx, .gw, .sec, .out] : List Fld) ⊆ ls) :
    Keeps ls sz (batchDone t s) ↔ Keeps ls sz s := by
  simp only [List.cons_subset, List.nil_subset, and_true] at hl
  unfold batchDone
  simp [hl]

@[simp] theorem keeps_cardDrained {ls : List Fld} {sz : State} (c : Nat) (s : State) (hl : ([.power, .dmap, .flash, .fab, .chavi, .mbx, .gw, .err, .sec, .attn, .out] : List Fld) ⊆ ls) :
    Keeps ls sz (cardDrained c s) ↔ Keeps ls sz s := by
  simp only [List.cons_subset, List.nil_subset, and_true] at hl
  unfold cardDrained
  simp [hl]

@[simp] theorem keeps_switchFault {ls : List Fld} {sz : State} (i : Nat) (s : State) (hl : ([.power, .fab, .chavi, .mbx, .gw, .err, .sec, .attn, .out] : List Fld) ⊆ ls) :
    Keeps ls sz (switchFault i s) ↔ Keeps ls sz s := by
  simp only [List.cons_subset, List.nil_subset, and_true] at hl
  unfold switchFault
  simp [hl]

@[simp] theorem keeps_switchStart {ls : List Fld} {sz : State} (i : Nat) (s : State) (hl : ([.power] : List Fld) ⊆ ls) :
    Keeps ls sz (switchStart i s) ↔ Keeps ls sz s := by
  simp only [List.cons_subset, List.nil_subset, and_true] at hl
  unfold switchStart
  simp [hl]

@[simp] theorem keeps_joinDrains {ls : List Fld} {sz : State} (ks : List Nat) (s : State) (hl : ([.mem] : List Fld) ⊆ ls) :
    Keeps ls sz (joinDrains ks s) ↔ Keeps ls sz s := by
  simp only [List.cons_subset, List.nil_subset, and_true] at hl
  unfold joinDrains
  simp [hl]

@[simp] theorem keeps_claimPages {ls : List Fld} {sz : State} (ks : List Nat) (s : State) (hl : ([.mem] : List Fld) ⊆ ls) :
    Keeps ls sz (claimPages ks s) ↔ Keeps ls sz s := by
  simp only [List.cons_subset, List.nil_subset, and_true] at hl
  unfold claimPages
  simp [hl]

@[simp] theorem keeps_memZero {ls : List Fld} {sz : State} (s : State) (a n : Nat) (hl : ([.mem] : List Fld) ⊆ ls) :
    Keeps ls sz (memZero s a n) ↔ Keeps ls sz s := by
  simp only [List.cons_subset, List.nil_subset, and_true] at hl
  unfold memZero
  simp [hl]

@[simp] theorem keeps_zeroTags {ls : List Fld} {sz : State} (t : Table) (s : State) (hl : ([.mem] : List Fld) ⊆ ls) :
    Keeps ls sz (zeroTags t s) ↔ Keeps ls sz s := by
  simp only [List.cons_subset, List.nil_subset, and_true] at hl
  unfold zeroTags
  simp [hl]

@[simp] theorem keeps_tablePlace {ls : List Fld} {sz : State} (n : Nat) (t : Table) (mapInit : Nat) (s : State) (hl : ([.mem, .fetch] : List Fld) ⊆ ls) :
    Keeps ls sz (tablePlace n t mapInit s) ↔ Keeps ls sz s := by
  simp only [List.cons_subset, List.nil_subset, and_true] at hl
  unfold tablePlace
  simp [hl]

@[simp] theorem keeps_epochStep {ls : List Fld} {sz : State} (n : Nat) (s : State) (hl : ([.fetch] : List Fld) ⊆ ls) :
    Keeps ls sz (epochStep n s) ↔ Keeps ls sz s := by
  simp only [List.cons_subset, List.nil_subset, and_true] at hl
  unfold epochStep
  simp [hl]

@[simp] theorem keeps_switchCycle {ls : List Fld} {sz : State} (i : Nat) (s : State) (hl : ([.power] : List Fld) ⊆ ls) :
    Keeps ls sz (switchCycle i s) ↔ Keeps ls sz s := by
  simp only [List.cons_subset, List.nil_subset, and_true] at hl
  unfold switchCycle
  simp [hl]

@[simp] theorem keeps_slackTick {ls : List Fld} {sz : State} (s : State) (hl : ([.cap] : List Fld) ⊆ ls) :
    Keeps ls sz (slackTick s) ↔ Keeps ls sz s := by
  simp only [List.cons_subset, List.nil_subset, and_true] at hl
  unfold slackTick
  simp [hl]

@[simp] theorem keeps_tickTimebase {ls : List Fld} {sz : State} (s : State) (hl : ([.clk, .cap] : List Fld) ⊆ ls) :
    Keeps ls sz (tickTimebase s) ↔ Keeps ls sz s := by
  simp only [List.cons_subset, List.nil_subset, and_true] at hl
  unfold tickTimebase
  simp [hl]

@[simp] theorem keeps_rowPowerFail {ls : List Fld} {sz : State} (r : Nat) (c : Code) (s : State) (hl : ([.mem, .fab, .chavi, .mbx, .gw, .sec, .out] : List Fld) ⊆ ls) :
    Keeps ls sz (rowPowerFail r c s) ↔ Keeps ls sz s := by
  simp only [List.cons_subset, List.nil_subset, and_true] at hl
  unfold rowPowerFail
  simp [hl]

@[simp] theorem keeps_loadWrite {ls : List Fld} {sz : State} (r region : Nat) (img : List Byte) (s : State) (hl : ([.mem] : List Fld) ⊆ ls) :
    Keeps ls sz (loadWrite r region img s) ↔ Keeps ls sz s := by
  simp only [List.cons_subset, List.nil_subset, and_true] at hl
  unfold loadWrite
  simp [hl]

@[simp] theorem keeps_loadGo {ls : List Fld} {sz : State} (r prog : Nat) (paired : Bool) (region units src len : Nat) (s : State) (hl : ([.rows, .mem, .sec] : List Fld) ⊆ ls) :
    Keeps ls sz (loadGo r prog paired region units src len s) ↔ Keeps ls sz s := by
  simp only [List.cons_subset, List.nil_subset, and_true] at hl
  unfold loadGo
  simp [hl]

@[simp] theorem keeps_resetCore {ls : List Fld} {sz : State} (r c : Nat) (code : Code) (s : State) (hl : ([.rows, .mem, .fab, .chavi, .mbx, .rings, .gw, .err, .sec, .attn, .out] : List Fld) ⊆ ls) :
    Keeps ls sz (resetCore r c code s) ↔ Keeps ls sz s := by
  simp only [List.cons_subset, List.nil_subset, and_true] at hl
  unfold resetCore
  simp [hl]

@[simp] theorem keeps_unloadEnd {ls : List Fld} {sz : State} (r : Nat) (p : Prog) (s : State) (hl : ([.rows] : List Fld) ⊆ ls) :
    Keeps ls sz (unloadEnd r p s) ↔ Keeps ls sz s := by
  simp only [List.cons_subset, List.nil_subset, and_true] at hl
  unfold unloadEnd
  simp [hl]

@[simp] theorem keeps_unloadDone {ls : List Fld} {sz : State} (r prog : Nat) (s : State) (hl : ([.rows, .mem, .fab, .chavi, .mbx, .gw, .sec, .out] : List Fld) ⊆ ls) :
    Keeps ls sz (unloadDone r prog s) ↔ Keeps ls sz s := by
  simp only [List.cons_subset, List.nil_subset, and_true] at hl
  unfold unloadDone
  try simp only []
  repeat' (split)
  all_goals simp [hl]

@[simp] theorem keeps_State_modWring {ls : List Fld} {sz : State} (s : State) (w : Nat) (f : WitRing → WitRing) (hl : ([.wit] : List Fld) ⊆ ls) :
    Keeps ls sz (State.modWring s w f) ↔ Keeps ls sz s := by
  simp only [List.cons_subset, List.nil_subset, and_true] at hl
  unfold State.modWring
  simp [hl]

@[simp] theorem keeps_sealStart {ls : List Fld} {sz : State} (s : State) (hl : ([.wit] : List Fld) ⊆ ls) :
    Keeps ls sz (sealStart s) ↔ Keeps ls sz s := by
  simp only [List.cons_subset, List.nil_subset, and_true] at hl
  unfold sealStart
  try simp only []
  repeat' (split)
  all_goals simp [hl]

@[simp] theorem keeps_sealTrigger {ls : List Fld} {sz : State} (w : Nat) (s : State) (hl : ([.wit] : List Fld) ⊆ ls) :
    Keeps ls sz (sealTrigger w s) ↔ Keeps ls sz s := by
  simp only [List.cons_subset, List.nil_subset, and_true] at hl
  unfold sealTrigger
  simp [hl]

@[simp] theorem keeps_closeGo {ls : List Fld} {sz : State} (w : Nat) (s : State) (hl : ([.wit] : List Fld) ⊆ ls) :
    Keeps ls sz (closeGo w s) ↔ Keeps ls sz s := by
  simp only [List.cons_subset, List.nil_subset, and_true] at hl
  unfold closeGo
  simp [hl]

@[simp] theorem keeps_witClose {ls : List Fld} {sz : State} (w : Nat) (s : State) (hl : ([.wit] : List Fld) ⊆ ls) :
    Keeps ls sz (witClose w s) ↔ Keeps ls sz s := by
  simp only [List.cons_subset, List.nil_subset, and_true] at hl
  unfold witClose
  simp [hl]

@[simp] theorem keeps_warmRestart {ls : List Fld} {sz : State} (s : State) (hl : ([.boot, .mem, .wit, .sec] : List Fld) ⊆ ls) :
    Keeps ls sz (warmRestart s) ↔ Keeps ls sz s := by
  simp only [List.cons_subset, List.nil_subset, and_true] at hl
  unfold warmRestart
  simp [hl]

@[simp] theorem keeps_runImage {ls : List Fld} {sz : State} (index : Nat) (s : State) (hl : ([.gw, .sec] : List Fld) ⊆ ls) :
    Keeps ls sz (runImage index s) ↔ Keeps ls sz s := by
  simp only [List.cons_subset, List.nil_subset, and_true] at hl
  unfold runImage
  simp [hl]

@[simp] theorem keeps_setStopped {ls : List Fld} {sz : State} (r t : Nat) (b : Bool) (s : State) (hl : ([.rows] : List Fld) ⊆ ls) :
    Keeps ls sz (setStopped r t b s) ↔ Keeps ls sz s := by
  simp only [List.cons_subset, List.nil_subset, and_true] at hl
  unfold setStopped
  simp [hl]

@[simp] theorem keeps_queueTest {ls : List Fld} {sz : State} (u recNo : Nat) (was : PosState) (s : State) (hl : ([.gw] : List Fld) ⊆ ls) :
    Keeps ls sz (queueTest u recNo was s) ↔ Keeps ls sz s := by
  simp only [List.cons_subset, List.nil_subset, and_true] at hl
  unfold queueTest
  simp [hl]

@[simp] theorem keeps_swapMove {ls : List Fld} {sz : State} (ast : Bool) (r t p k : Nat) (s : State) (hl : ([.rows, .dmap, .gw] : List Fld) ⊆ ls) :
    Keeps ls sz (swapMove ast r t p k s) ↔ Keeps ls sz s := by
  simp only [List.cons_subset, List.nil_subset, and_true] at hl
  unfold swapMove
  simp [hl]

@[simp] theorem keeps_haltCore {ls : List Fld} {sz : State} (r c : Nat) (k : Code) (s : State) (hl : ([.rows, .fab, .chavi, .mbx, .gw, .err, .sec, .attn, .out] : List Fld) ⊆ ls) :
    Keeps ls sz (haltCore r c k s) ↔ Keeps ls sz s := by
  simp only [List.cons_subset, List.nil_subset, and_true] at hl
  unfold haltCore
  simp [hl]

@[simp] theorem keeps_swapFails {ls : List Fld} {sz : State} (r t u : Nat) (s : State) (hl : ([.rows, .fab, .chavi, .mbx, .gw, .err, .sec, .attn, .out] : List Fld) ⊆ ls) :
    Keeps ls sz (swapFails r t u s) ↔ Keeps ls sz s := by
  simp only [List.cons_subset, List.nil_subset, and_true] at hl
  unfold swapFails
  simp [hl]

@[simp] theorem keeps_rowReset {ls : List Fld} {sz : State} (r : Nat) (s : State) (hl : ([.rows, .mem, .fetch, .fab, .chavi, .mbx, .rings, .gw, .err, .wit, .sec, .attn, .out] : List Fld) ⊆ ls) :
    Keeps ls sz (rowReset r s) ↔ Keeps ls sz s := by
  simp only [List.cons_subset, List.nil_subset, and_true] at hl
  unfold rowReset
  simp [hl]

@[simp] theorem keeps_bridgeReset {ls : List Fld} {sz : State} (b : Nat) (s : State) (hl : ([.rows, .dmap, .mem, .fetch, .flash, .fab, .chavi, .mbx, .rings, .gw, .err, .sec, .attn, .out] : List Fld) ⊆ ls) :
    Keeps ls sz (bridgeReset b s) ↔ Keeps ls sz s := by
  simp only [List.cons_subset, List.nil_subset, and_true] at hl
  unfold bridgeReset
  simp [hl]

@[simp] theorem keeps_railsDown {ls : List Fld} {sz : State} (s : State) (hl : ([.power, .clk, .rows, .eeprom, .boot, .mem, .fetch, .flash, .fab, .chavi, .mbx, .rings, .gw, .cap, .therm, .wit, .sec, .attn] : List Fld) ⊆ ls) :
    Keeps ls sz (railsDown s) ↔ Keeps ls sz s := by
  simp only [List.cons_subset, List.nil_subset, and_true] at hl
  unfold railsDown
  try simp only []
  repeat' (split)
  all_goals (try simp [hl])
  all_goals (repeat' split)
  all_goals (try simp [hl])
  all_goals simp [hl, keeps_iff]

@[simp] theorem keeps_vspineDown {ls : List Fld} {sz : State} (s : State) (hl : ([.power, .clk, .rows, .eeprom, .boot, .dmap, .mem, .fetch, .flash, .fab, .chavi, .mbx, .rings, .gw, .err, .cap, .therm, .wit, .sec, .attn] : List Fld) ⊆ ls) :
    Keeps ls sz (vspineDown s) ↔ Keeps ls sz s := by
  simp only [List.cons_subset, List.nil_subset, and_true] at hl
  constructor <;> intro h f hf <;> have h1 := h f hf <;> cases f <;>
    first | exact h1 | (exfalso; simp_all)

@[simp] theorem keeps_writeEvent {ls : List Fld} {sz : State} (i : TripInfo) (s : State) (hl : ([.eeprom] : List Fld) ⊆ ls) :
    Keeps ls sz (writeEvent i s) ↔ Keeps ls sz s := by
  simp only [List.cons_subset, List.nil_subset, and_true] at hl
  unfold writeEvent
  simp [hl]

@[simp] theorem keeps_memUncorr {ls : List Fld} {sz : State} (a : Nat) (s : State) (hl : ([.mem, .fab, .chavi, .mbx, .gw, .err, .sec, .attn, .out] : List Fld) ⊆ ls) :
    Keeps ls sz (memUncorr a s) ↔ Keeps ls sz s := by
  simp only [List.cons_subset, List.nil_subset, and_true] at hl
  unfold memUncorr
  try simp only []
  repeat' (split)
  all_goals simp [hl]

@[simp] theorem keeps_memCorr {ls : List Fld} {sz : State} (k : Nat) (s : State) (hl : ([.mem, .fab, .chavi, .mbx, .gw, .err, .sec, .attn, .out] : List Fld) ⊆ ls) :
    Keeps ls sz (memCorr k s) ↔ Keeps ls sz s := by
  simp only [List.cons_subset, List.nil_subset, and_true] at hl
  unfold memCorr
  simp [hl]

@[simp] theorem keeps_movePage {ls : List Fld} {sz : State} (k : Nat) (t : Nat × Nat × Option Nat) (s : State) (hl : ([.mem] : List Fld) ⊆ ls) :
    Keeps ls sz (movePage k t s) ↔ Keeps ls sz s := by
  simp only [List.cons_subset, List.nil_subset, and_true] at hl
  unfold movePage
  simp [hl]

@[simp] theorem keeps_releaseLender {ls : List Fld} {sz : State} (e : PageEnt) (s : State) (hl : ([.mem] : List Fld) ⊆ ls) :
    Keeps ls sz (releaseLender e s) ↔ Keeps ls sz s := by
  simp only [List.cons_subset, List.nil_subset, and_true] at hl
  unfold releaseLender
  simp [hl]

@[simp] theorem keeps_returnPage {ls : List Fld} {sz : State} (k : Nat) (s : State) (hl : ([.mem] : List Fld) ⊆ ls) :
    Keeps ls sz (returnPage k s) ↔ Keeps ls sz s := by
  simp only [List.cons_subset, List.nil_subset, and_true] at hl
  unfold returnPage
  try simp only []
  repeat' (split)
  all_goals simp [hl]

@[simp] theorem keeps_returned {ls : List Fld} {sz : State} (u : Nat) (s : State) (hl : ([.dmap, .mem] : List Fld) ⊆ ls) :
    Keeps ls sz (returned u s) ↔ Keeps ls sz s := by
  simp only [List.cons_subset, List.nil_subset, and_true] at hl
  unfold returned
  simp [hl]

@[simp] theorem keeps_drained {ls : List Fld} {sz : State} (u : Nat) (s : State) (hl : ([.power, .dmap, .mem, .fab, .chavi, .mbx, .gw, .err, .sec, .attn, .out] : List Fld) ⊆ ls) :
    Keeps ls sz (drained u s) ↔ Keeps ls sz s := by
  simp only [List.cons_subset, List.nil_subset, and_true] at hl
  unfold drained
  simp [hl]

@[simp] theorem keeps_failover {ls : List Fld} {sz : State} (c : Nat) (dup : Bool) (s : State) (hl : ([.boot, .fab, .chavi, .mbx, .gw, .err, .sec, .attn, .out] : List Fld) ⊆ ls) :
    Keeps ls sz (failover c dup s) ↔ Keeps ls sz s := by
  simp only [List.cons_subset, List.nil_subset, and_true] at hl
  unfold failover
  simp [hl]

@[simp] theorem keeps_State_modBank {ls : List Fld} {sz : State} (s : State) (r b : Nat) (f : Bank → Bank) (hl : ([.rows] : List Fld) ⊆ ls) :
    Keeps ls sz (State.modBank s r b f) ↔ Keeps ls sz s := by
  simp only [List.cons_subset, List.nil_subset, and_true] at hl
  unfold State.modBank
  simp [hl]

@[simp] theorem keeps_State_modClkRow {ls : List Fld} {sz : State} (s : State) (r : Nat) (f : ClkRow → ClkRow) (hl : ([.clk] : List Fld) ⊆ ls) :
    Keeps ls sz (State.modClkRow s r f) ↔ Keeps ls sz s := by
  simp only [List.cons_subset, List.nil_subset, and_true] at hl
  unfold State.modClkRow
  simp [hl]

@[simp] theorem keeps_readWake {ls : List Fld} {sz : State} (s : State) (a n : Nat) (hl : ([.power, .rows] : List Fld) ⊆ ls) :
    Keeps ls sz (readWake s a n) ↔ Keeps ls sz s := by
  simp only [List.cons_subset, List.nil_subset, and_true] at hl
  unfold readWake
  try simp only []
  repeat' (split)
  all_goals simp [hl]

@[simp] theorem keeps_cacheTouch {ls : List Fld} {sz : State} (t : Table) (x w : Nat) (s : State) (hl : ([.mem] : List Fld) ⊆ ls) :
    Keeps ls sz (cacheTouch t x w s) ↔ Keeps ls sz s := by
  simp only [List.cons_subset, List.nil_subset, and_true] at hl
  unfold cacheTouch
  simp [hl]

@[simp] theorem keeps_cacheFill {ls : List Fld} {sz : State} (t : Table) (x : Nat) (bytes : List Byte) (s : State) (hl : ([.mem] : List Fld) ⊆ ls) :
    Keeps ls sz (cacheFill t x bytes s) ↔ Keeps ls sz s := by
  simp only [List.cons_subset, List.nil_subset, and_true] at hl
  unfold cacheFill
  simp [hl]

@[simp] theorem keeps_fetchWrite {ls : List Fld} {sz : State} (b e : Nat) (p : Nat × List Byte) (s : State) (hl : ([.rows, .fetch, .fab] : List Fld) ⊆ ls) :
    Keeps ls sz (fetchWrite b e p s) ↔ Keeps ls sz s := by
  simp only [List.cons_subset, List.nil_subset, and_true] at hl
  unfold fetchWrite
  try simp only []
  repeat' (split)
  all_goals simp [hl]

@[simp] theorem keeps_witItem {ls : List Fld} {sz : State} (b e row tier bag w : Nat) (s : State) (hl : ([.fab, .wit, .fresh] : List Fld) ⊆ ls) :
    Keeps ls sz (witItem b e row tier bag w s) ↔ Keeps ls sz s := by
  simp only [List.cons_subset, List.nil_subset, and_true] at hl
  unfold witItem
  try simp only []
  repeat' (split)
  all_goals simp [hl]

@[simp] theorem keeps_retryBegin {ls : List Fld} {sz : State} (r : Nat) (s : State) (hl : ([.power, .rows] : List Fld) ⊆ ls) :
    Keeps ls sz (retryBegin r s) ↔ Keeps ls sz s := by
  simp only [List.cons_subset, List.nil_subset, and_true] at hl
  unfold retryBegin
  simp [hl]

@[simp] theorem keeps_startStaging {ls : List Fld} {sz : State} (h : Nat) (half : Bool) (s : State) (hl : ([.power] : List Fld) ⊆ ls) :
    Keeps ls sz (startStaging h half s) ↔ Keeps ls sz s := by
  simp only [List.cons_subset, List.nil_subset, and_true] at hl
  unfold startStaging
  try simp only []
  repeat' (split)
  all_goals simp [hl]

@[simp] theorem keeps_thermWindow {ls : List Fld} {sz : State} (s : State) (hl : ([.fab, .chavi, .mbx, .gw, .err, .cap, .therm, .sec, .attn, .out] : List Fld) ⊆ ls) :
    Keeps ls sz (thermWindow s) ↔ Keeps ls sz s := by
  simp only [List.cons_subset, List.nil_subset, and_true] at hl
  unfold thermWindow
  simp [hl]

@[simp] theorem keeps_railReturn {ls : List Fld} {sz : State} (x : SharedRail) (s : State) (hl : ([.power, .rows] : List Fld) ⊆ ls) :
    Keeps ls sz (railReturn x s) ↔ Keeps ls sz s := by
  simp only [List.cons_subset, List.nil_subset, and_true] at hl
  unfold railReturn
  try simp only []
  repeat' (split)
  all_goals simp [hl]

@[simp] theorem keeps_accRecord {ls : List Fld} {sz : State} (r c : Nat) (k : Code) (unit a : Nat) (s : State) (hl : ([.fab, .chavi, .mbx, .gw, .err, .sec, .attn, .out] : List Fld) ⊆ ls) :
    Keeps ls sz (accRecord r c k unit a s) ↔ Keeps ls sz s := by
  simp only [List.cons_subset, List.nil_subset, and_true] at hl
  unfold accRecord
  simp [hl]

@[simp] theorem keeps_coreTaint {ls : List Fld} {sz : State} (r c d n : Nat) (s : State) (hl : ([.rows] : List Fld) ⊆ ls) :
    Keeps ls sz (coreTaint r c d n s) ↔ Keeps ls sz s := by
  simp only [List.cons_subset, List.nil_subset, and_true] at hl
  unfold coreTaint
  try simp only []
  repeat' (split)
  all_goals simp [hl]

@[simp] theorem keeps_accWake {ls : List Fld} {sz : State} (r a n : Nat) (s : State) (hl : ([.power, .rows] : List Fld) ⊆ ls) :
    Keeps ls sz (accWake r a n s) ↔ Keeps ls sz s := by
  simp only [List.cons_subset, List.nil_subset, and_true] at hl
  unfold accWake
  try simp only []
  repeat' (split)
  all_goals simp [hl]

@[simp] theorem keeps_endSresv {ls : List Fld} {sz : State} (r k : Nat) (c : Code) (s : State) (hl : ([.rows] : List Fld) ⊆ ls) :
    Keeps ls sz (endSresv r k c s) ↔ Keeps ls sz s := by
  simp only [List.cons_subset, List.nil_subset, and_true] at hl
  unfold endSresv
  simp [hl]

@[simp] theorem keeps_retire {ls : List Fld} {sz : State} (r c rd v len : Nat) (s : State) (hl : ([.rows] : List Fld) ⊆ ls) :
    Keeps ls sz (retire r c rd v len s) ↔ Keeps ls sz s := by
  simp only [List.cons_subset, List.nil_subset, and_true] at hl
  unfold retire
  simp [hl]

@[simp] theorem keeps_thermalHalt {ls : List Fld} {sz : State} (k : Nat) (s : State) (hl : ([.power, .clk, .rows, .mem, .fab, .chavi, .mbx, .rings, .gw, .err, .therm, .sec, .attn, .out] : List Fld) ⊆ ls) :
    Keeps ls sz (thermalHalt k s) ↔ Keeps ls sz s := by
  simp only [List.cons_subset, List.nil_subset, and_true] at hl
  unfold thermalHalt
  simp [hl]

@[simp] theorem keeps_switchCritical {ls : List Fld} {sz : State} (k : Nat) (s : State) (hl : ([.power, .dmap, .mem, .fetch, .flash, .fab, .chavi, .mbx, .gw, .err, .sec, .attn, .out] : List Fld) ⊆ ls) :
    Keeps ls sz (switchCritical k s) ↔ Keeps ls sz s := by
  simp only [List.cons_subset, List.nil_subset, and_true] at hl
  unfold switchCritical
  simp [hl]

@[simp] theorem keeps_unitThrottle {ls : List Fld} {sz : State} (k : Nat) (s : State) (hl : ([.mem, .flash, .fab, .chavi, .mbx, .gw, .err, .sec, .attn, .out] : List Fld) ⊆ ls) :
    Keeps ls sz (unitThrottle k s) ↔ Keeps ls sz s := by
  simp only [List.cons_subset, List.nil_subset, and_true] at hl
  unfold unitThrottle
  simp [hl]

@[simp] theorem keeps_senseIn {ls : List Fld} {sz : State} (k : Nat) (v : Int) (s : State) (hl : ([.rows, .mem, .flash, .therm] : List Fld) ⊆ ls) :
    Keeps ls sz (senseIn k v s) ↔ Keeps ls sz s := by
  simp only [List.cons_subset, List.nil_subset, and_true] at hl
  unfold senseIn
  simp [hl]

@[simp] theorem keeps_sense {ls : List Fld} {sz : State} (k : Nat) (v : Int) (s : State) (hl : ([.power, .clk, .rows, .dmap, .mem, .fetch, .flash, .fab, .chavi, .mbx, .rings, .gw, .err, .therm, .sec, .attn, .out] : List Fld) ⊆ ls) :
    Keeps ls sz (sense k v s) ↔ Keeps ls sz s := by
  simp only [List.cons_subset, List.nil_subset, and_true] at hl
  unfold sense
  simp [hl]

@[simp] theorem keeps_sendToken {ls : List Fld} {sz : State} (ep grant : Nat) (s : State) (hl : ([.fab, .cap] : List Fld) ⊆ ls) :
    Keeps ls sz (sendToken ep grant s) ↔ Keeps ls sz s := by
  simp only [List.cons_subset, List.nil_subset, and_true] at hl
  unfold sendToken
  simp [hl]

@[simp] theorem keeps_grantGo {ls : List Fld} {sz : State} (s : State) (hl : ([.clk, .fab, .chavi, .mbx, .gw, .err, .cap, .sec, .attn, .out] : List Fld) ⊆ ls) :
    Keeps ls sz (grantGo s) ↔ Keeps ls sz s := by
  simp only [List.cons_subset, List.nil_subset, and_true] at hl
  unfold grantGo
  try simp only []
  repeat' (split)
  all_goals simp [hl]

@[simp] theorem keeps_setPos {ls : List Fld} {sz : State} (ast : Bool) (r p : Nat) (x : PosState) (s : State) (hl : ([.dmap] : List Fld) ⊆ ls) :
    Keeps ls sz (setPos ast r p x s) ↔ Keeps ls sz s := by
  simp only [List.cons_subset, List.nil_subset, and_true] at hl
  unfold setPos
  simp [hl]

@[simp] theorem keeps_fixChain {ls : List Fld} {sz : State} (ast : Bool) (r : Nat) (s : State) (hl : ([.dmap] : List Fld) ⊆ ls) :
    Keeps ls sz (fixChain ast r s) ↔ Keeps ls sz s := by
  simp only [List.cons_subset, List.nil_subset, and_true] at hl
  unfold fixChain
  simp [hl]

@[simp] theorem keeps_rowOutCheck {ls : List Fld} {sz : State} (r : Nat) (s : State) (hl : ([.power, .rows, .dmap, .mem, .fab, .chavi, .mbx, .rings, .gw, .err, .sec, .attn, .out] : List Fld) ⊆ ls) :
    Keeps ls sz (rowOutCheck r s) ↔ Keeps ls sz s := by
  simp only [List.cons_subset, List.nil_subset, and_true] at hl
  unfold rowOutCheck
  simp [hl]

@[simp] theorem keeps_stopTile {ls : List Fld} {sz : State} (r t : Nat) (s : State) (hl : ([.rows] : List Fld) ⊆ ls) :
    Keeps ls sz (stopTile r t s) ↔ Keeps ls sz s := by
  simp only [List.cons_subset, List.nil_subset, and_true] at hl
  unfold stopTile
  simp [hl]

@[simp] theorem keeps_stopCore {ls : List Fld} {sz : State} (r c : Nat) (s : State) (hl : ([.rows] : List Fld) ⊆ ls) :
    Keeps ls sz (stopCore r c s) ↔ Keeps ls sz s := by
  simp only [List.cons_subset, List.nil_subset, and_true] at hl
  unfold stopCore
  simp [hl]

@[simp] theorem keeps_addRecovery {ls : List Fld} {sz : State} (x : Recovery) (s : State) (hl : ([.gw] : List Fld) ⊆ ls) :
    Keeps ls sz (addRecovery x s) ↔ Keeps ls sz s := by
  simp only [List.cons_subset, List.nil_subset, and_true] at hl
  unfold addRecovery
  simp [hl]

@[simp] theorem keeps_stopSlot {ls : List Fld} {sz : State} (ast : Bool) (r t : Nat) (s : State) (hl : ([.rows, .gw] : List Fld) ⊆ ls) :
    Keeps ls sz (stopSlot ast r t s) ↔ Keeps ls sz s := by
  simp only [List.cons_subset, List.nil_subset, and_true] at hl
  unfold stopSlot
  simp [hl]

@[simp] theorem keeps_dissolvePair {ls : List Fld} {sz : State} (r pair : Nat) (s : State) (hl : ([.rows, .fetch, .fab, .chavi, .mbx, .gw, .err, .wit, .sec, .attn, .out] : List Fld) ⊆ ls) :
    Keeps ls sz (dissolvePair r pair s) ↔ Keeps ls sz s := by
  simp only [List.cons_subset, List.nil_subset, and_true] at hl
  unfold dissolvePair
  simp [hl]

@[simp] theorem keeps_popEntry {ls : List Fld} {sz : State} (n c : Nat) (g : RqRing) (s : State) (hl : ([.rings, .gw] : List Fld) ⊆ ls) :
    Keeps ls sz (popEntry n c g s).2 ↔ Keeps ls sz s := by
  simp only [List.cons_subset, List.nil_subset, and_true] at hl
  unfold popEntry
  try simp only []
  repeat' split
  all_goals simp [hl]

@[simp] theorem keeps_pushMatched {ls : List Fld} {sz : State} (n r c : Nat) (g : RqRing) (q : Req) (e : List Byte) (s : State) (hl : ([.mem, .fab, .chavi, .mbx, .rings, .sec, .out] : List Fld) ⊆ ls) :
    Keeps ls sz (pushMatched n r c g q e s).2 ↔ Keeps ls sz s := by
  simp only [List.cons_subset, List.nil_subset, and_true] at hl
  unfold pushMatched
  try simp only []
  repeat' split
  all_goals (try (rename_i heq; replace heq := (congrArg Prod.snd heq).symm; dsimp only at heq; subst heq))
  all_goals simp [hl]

@[simp] theorem keeps_pushLate {ls : List Fld} {sz : State} (e : List Byte) (s : State) (hl : ([.fab, .chavi, .mbx, .rings, .gw, .err, .sec, .attn, .out] : List Fld) ⊆ ls) :
    Keeps ls sz (pushLate e s).2 ↔ Keeps ls sz s := by
  simp only [List.cons_subset, List.nil_subset, and_true] at hl
  unfold pushLate
  try simp only []
  repeat' split
  all_goals (try (rename_i heq; replace heq := (congrArg Prod.snd heq).symm; dsimp only at heq; subst heq))
  all_goals simp [hl]

@[simp] theorem keeps_enginePush {ls : List Fld} {sz : State} (n r c : Nat) (e : List Byte) (s : State) (hl : ([.mem, .fab, .chavi, .mbx, .rings, .gw, .err, .sec, .attn, .out] : List Fld) ⊆ ls) :
    Keeps ls sz (enginePush n r c e s).2 ↔ Keeps ls sz s := by
  simp only [List.cons_subset, List.nil_subset, and_true] at hl
  unfold enginePush
  try simp only []
  repeat' split
  all_goals (try (rename_i heq; replace heq := (congrArg Prod.snd heq).symm; dsimp only at heq; subst heq))
  all_goals simp [hl]

@[simp] theorem keeps_enginePushBad {ls : List Fld} {sz : State} (n r c : Nat) (e : List Byte) (s : State) (hl : ([.mem, .fab, .chavi, .mbx, .rings, .gw, .err, .sec, .attn, .out] : List Fld) ⊆ ls) :
    Keeps ls sz (enginePushBad n r c e s).2 ↔ Keeps ls sz s := by
  simp only [List.cons_subset, List.nil_subset, and_true] at hl
  unfold enginePushBad
  try simp only []
  repeat' split
  all_goals (try (rename_i heq; replace heq := (congrArg Prod.snd heq).symm; dsimp only at heq; subst heq))
  all_goals simp [hl]

@[simp] theorem keeps_writeBag {ls : List Fld} {sz : State} (b e : Nat) (r : FetchRun) (t : Table) (s : State) (hl : ([.rows, .fetch, .fab] : List Fld) ⊆ ls) :
    Keeps ls sz (writeBag b e r t s) ↔ Keeps ls sz s := by
  simp only [List.cons_subset, List.nil_subset, and_true] at hl
  unfold writeBag
  simp [hl]

@[simp] theorem keeps_skipEntry {ls : List Fld} {sz : State} (b e row tier bag w : Nat) (s : State) (hl : ([.fetch, .fab, .wit, .fresh] : List Fld) ⊆ ls) :
    Keeps ls sz (skipEntry b e row tier bag w s) ↔ Keeps ls sz s := by
  simp only [List.cons_subset, List.nil_subset, and_true] at hl
  unfold skipEntry
  simp [hl]

@[simp] theorem keeps_poolEntry {ls : List Fld} {sz : State} (b e : Nat) (r : FetchRun) (t : Table) (s : State) (hl : ([.power, .rows, .fetch, .fab, .wit, .fresh] : List Fld) ⊆ ls) :
    Keeps ls sz (poolEntry b e r t s) ↔ Keeps ls sz s := by
  simp only [List.cons_subset, List.nil_subset, and_true] at hl
  unfold poolEntry
  try simp only []
  repeat' (split)
  all_goals simp [hl]

@[simp] theorem keeps_failBlock {ls : List Fld} {sz : State} (b e : Nat) (s : State) (hl : ([.fetch] : List Fld) ⊆ ls) :
    Keeps ls sz (failBlock b e s) ↔ Keeps ls sz s := by
  simp only [List.cons_subset, List.nil_subset, and_true] at hl
  unfold failBlock
  simp [hl]

@[simp] theorem keeps_blockEntry {ls : List Fld} {sz : State} (b e n : Nat) (r : FetchRun) (go : List Byte → State → State) (s : State) (hg : ∀ x t, Keeps ls sz (go x t) ↔ Keeps ls sz t) (hl : ([.power, .rows, .fetch] : List Fld) ⊆ ls) :
    Keeps ls sz (blockEntry b e n r go s) ↔ Keeps ls sz s := by
  simp only [List.cons_subset, List.nil_subset, and_true] at hl
  unfold blockEntry
  simp only []
  repeat' split
  all_goals simp [hl, hg]

@[simp] theorem keeps_pwrOkUpdate {ls : List Fld} {sz : State} (s : State) (hl : ([.power] : List Fld) ⊆ ls) :
    Keeps ls sz (pwrOkUpdate s) ↔ Keeps ls sz s := by
  simp only [List.cons_subset, List.nil_subset, and_true] at hl
  unfold pwrOkUpdate
  simp [hl]

@[simp] theorem keeps_startTimers {ls : List Fld} {sz : State} (s : State) (hl : ([.rows] : List Fld) ⊆ ls) :
    Keeps ls sz (startTimers s) ↔ Keeps ls sz s := by
  simp only [List.cons_subset, List.nil_subset, and_true] at hl
  unfold startTimers
  simp [hl]

@[simp] theorem keeps_rowReadClears {ls : List Fld} {sz : State} (r o n : Nat) (s : State) (hl : ([.rows] : List Fld) ⊆ ls) :
    Keeps ls sz (rowReadClears r o n s) ↔ Keeps ls sz s := by
  simp only [List.cons_subset, List.nil_subset, and_true] at hl
  unfold rowReadClears
  simp [hl]

@[simp] theorem keeps_rowRegRead {ls : List Fld} {sz : State} (r o n : Nat) (s : State) (hl : ([.rows] : List Fld) ⊆ ls) :
    Keeps ls sz (rowRegRead r o n s).2 ↔ Keeps ls sz s := by
  simp only [List.cons_subset, List.nil_subset, and_true] at hl
  unfold rowRegRead
  try simp only []
  repeat' split
  all_goals simp [hl]

@[simp] theorem keeps_dmaStage {ls : List Fld} {sz : State} (r e i v : Nat) (byCore : Bool) (s : State) (hl : ([.rows] : List Fld) ⊆ ls) :
    Keeps ls sz (dmaStage r e i v byCore s) ↔ Keeps ls sz s := by
  simp only [List.cons_subset, List.nil_subset, and_true] at hl
  unfold dmaStage
  simp [hl]

@[simp] theorem keeps_rowRegWrite {ls : List Fld} {sz : State} (r o n v : Nat) (byCore : Bool) (s : State) (hl : ([.rows] : List Fld) ⊆ ls) :
    Keeps ls sz (rowRegWrite r o n v byCore s) ↔ Keeps ls sz s := by
  simp only [List.cons_subset, List.nil_subset, and_true] at hl
  unfold rowRegWrite
  simp [hl]

@[simp] theorem keeps_grantOwner {ls : List Fld} {sz : State} (r : Nat) (q : ScbReq) (bad : Bool) (s : State) (hl : ([.rows, .mem, .fetch, .fab, .chavi, .mbx, .gw, .err, .sec, .attn, .out] : List Fld) ⊆ ls) :
    Keeps ls sz (grantOwner r q bad s) ↔ Keeps ls sz s := by
  simp only [List.cons_subset, List.nil_subset, and_true] at hl
  unfold grantOwner
  try simp only []
  repeat' (split)
  all_goals simp [hl]

@[simp] theorem keeps_refuseOwner {ls : List Fld} {sz : State} (r : Nat) (q : ScbReq) (c : Code) (s : State) (hl : ([.rows, .fetch, .fab, .chavi, .mbx, .gw, .err, .sec, .attn, .out] : List Fld) ⊆ ls) :
    Keeps ls sz (refuseOwner r q c s) ↔ Keeps ls sz s := by
  simp only [List.cons_subset, List.nil_subset, and_true] at hl
  unfold refuseOwner
  try simp only []
  repeat' (split)
  all_goals simp [hl]

@[simp] theorem keeps_bankOffGo {ls : List Fld} {sz : State} (r b : Nat) (s : State) (hl : ([.rows, .mem, .fab, .chavi, .mbx, .gw, .sec, .out] : List Fld) ⊆ ls) :
    Keeps ls sz (bankOffGo r b s) ↔ Keeps ls sz s := by
  simp only [List.cons_subset, List.nil_subset, and_true] at hl
  unfold bankOffGo
  simp [hl]

@[simp] theorem keeps_bankIsOn {ls : List Fld} {sz : State} (r b : Nat) (s : State) (hl : ([.rows, .mem, .fab, .chavi, .mbx, .gw, .sec, .out] : List Fld) ⊆ ls) :
    Keeps ls sz (bankIsOn r b s) ↔ Keeps ls sz s := by
  simp only [List.cons_subset, List.nil_subset, and_true] at hl
  unfold bankIsOn
  simp [hl]

@[simp] theorem keeps_handoffFails {ls : List Fld} {sz : State} (c : Code) (s : State) (hl : ([.mem, .fab, .chavi, .mbx, .gw, .sec, .out] : List Fld) ⊆ ls) :
    Keeps ls sz (handoffFails c s) ↔ Keeps ls sz s := by
  simp only [List.cons_subset, List.nil_subset, and_true] at hl
  unfold handoffFails
  simp [hl]

@[simp] theorem keeps_imgRejected {ls : List Fld} {sz : State} (idx detail : Nat) (s : State) (hl : ([.power, .rows, .boot, .mem, .fab, .chavi, .mbx, .rings, .gw, .err, .sec, .attn, .out] : List Fld) ⊆ ls) :
    Keeps ls sz (imgRejected idx detail s) ↔ Keeps ls sz s := by
  simp only [List.cons_subset, List.nil_subset, and_true] at hl
  unfold imgRejected
  simp [hl]

@[simp] theorem keeps_imgAccepted {ls : List Fld} {sz : State} (idx : Nat) (s : State) (hl : ([.boot, .gw, .sec, .out] : List Fld) ⊆ ls) :
    Keeps ls sz (imgAccepted idx s) ↔ Keeps ls sz s := by
  simp only [List.cons_subset, List.nil_subset, and_true] at hl
  unfold imgAccepted
  try simp only []
  repeat' (split)
  all_goals simp [hl]

@[simp] theorem keeps_helloTake {ls : List Fld} {sz : State} (m : List Byte) (s : State) (hl : ([.sec] : List Fld) ⊆ ls) :
    Keeps ls sz (helloTake m s).2 ↔ Keeps ls sz s := by
  simp only [List.cons_subset, List.nil_subset, and_true] at hl
  unfold helloTake
  try simp only []
  repeat' split
  all_goals simp [hl]

@[simp] theorem keeps_sendFrags {ls : List Fld} {sz : State} (k ty n o : Nat) (l : List Byte) (s : State) (hl : ([.chavi, .sec, .out] : List Fld) ⊆ ls) :
    Keeps ls sz (sendFrags k ty n o l s) ↔ Keeps ls sz s := by
  simp only [List.cons_subset, List.nil_subset, and_true] at hl
  induction k generalizing s o l with
  | zero => rfl
  | succ k ih =>
    unfold sendFrags
    try simp only []
    repeat' split
    all_goals (try (rename_i heq; replace heq := (congrArg Prod.snd heq).symm; dsimp only at heq; subst heq))
    all_goals simp [hl, ih]

@[simp] theorem keeps_sesDone {ls : List Fld} {sz : State} (c : Code) (s : State) (hl : ([.chavi, .sec, .out] : List Fld) ⊆ ls) :
    Keeps ls sz (sesDone c s) ↔ Keeps ls sz s := by
  simp only [List.cons_subset, List.nil_subset, and_true] at hl
  unfold sesDone
  simp [hl]

@[simp] theorem keeps_proofTake {ls : List Fld} {sz : State} (no idx : Nat) (t1 sig : List Byte) (s : State) (hl : ([.fab, .chavi, .mbx, .gw, .err, .sec, .attn, .out] : List Fld) ⊆ ls) :
    Keeps ls sz (proofTake no idx t1 sig s) ↔ Keeps ls sz s := by
  simp only [List.cons_subset, List.nil_subset, and_true] at hl
  unfold proofTake
  simp [hl]

@[simp] theorem keeps_mgmtTouch {ls : List Fld} {sz : State} (a : Nat) (s : State) (hl : ([.power, .rows] : List Fld) ⊆ ls) :
    Keeps ls sz (mgmtTouch a s) ↔ Keeps ls sz s := by
  simp only [List.cons_subset, List.nil_subset, and_true] at hl
  unfold mgmtTouch
  try simp only []
  repeat' (split)
  all_goals simp [hl]

@[simp] theorem keeps_rescanCard {ls : List Fld} {sz : State} (res : List CardTest) (c : Nat) (s : State) (hl : ([.dmap, .flash, .fab, .chavi, .mbx, .gw, .err, .sec, .attn, .out] : List Fld) ⊆ ls) :
    Keeps ls sz (rescanCard res c s) ↔ Keeps ls sz s := by
  simp only [List.cons_subset, List.nil_subset, and_true] at hl
  unfold rescanCard
  simp only []
  split
  · rfl
  · rw [keeps_each]
    · simp [hl]
    · intro f t; simp [hl]

@[simp] theorem keeps_takeRead {ls : List Fld} {sz : State} (n : Nat) (s : State) (hl : ([.mbx] : List Fld) ⊆ ls) :
    Keeps ls sz (takeRead n s) ↔ Keeps ls sz s := by
  simp only [List.cons_subset, List.nil_subset, and_true] at hl
  unfold takeRead
  simp [hl]

@[simp] theorem keeps_mgmtClears {ls : List Fld} {sz : State} (a : Nat) (s : State) (hl : ([.clk, .rows, .mbx, .wit] : List Fld) ⊆ ls) :
    Keeps ls sz (mgmtClears a s) ↔ Keeps ls sz s := by
  simp only [List.cons_subset, List.nil_subset, and_true] at hl
  unfold mgmtClears
  try simp only []
  repeat' (split)
  all_goals simp [hl]

@[simp] theorem keeps_attnWrite {ls : List Fld} {sz : State} (o v : Nat) (s : State) (hl : ([.chavi, .sec, .attn, .out] : List Fld) ⊆ ls) :
    Keeps ls sz (attnWrite o v s) ↔ Keeps ls sz s := by
  simp only [List.cons_subset, List.nil_subset, and_true] at hl
  unfold attnWrite
  simp [hl]

@[simp] theorem keeps_mgmtWrite {ls : List Fld} {sz : State} (a v : Nat) (s : State) (hl : ([.rows, .fab, .chavi, .mbx, .gw, .err, .sec, .attn, .out] : List Fld) ⊆ ls) :
    Keeps ls sz (mgmtWrite a v s) ↔ Keeps ls sz s := by
  simp only [List.cons_subset, List.nil_subset, and_true] at hl
  unfold mgmtWrite
  try simp only []
  repeat' (split)
  all_goals simp [hl]

@[simp] theorem keeps_State_modTest {ls : List Fld} {sz : State} (s : State) (u : Nat) (f : Test → Test) (hl : ([.gw] : List Fld) ⊆ ls) :
    Keeps ls sz (State.modTest s u f) ↔ Keeps ls sz s := by
  simp only [List.cons_subset, List.nil_subset, and_true] at hl
  unfold State.modTest
  simp [hl]

@[simp] theorem keeps_placeUnit {ls : List Fld} {sz : State} (u : Nat) (s : State) (hl : ([.power, .rows, .fab, .gw] : List Fld) ⊆ ls) :
    Keeps ls sz (placeUnit u s) ↔ Keeps ls sz s := by
  simp only [List.cons_subset, List.nil_subset, and_true] at hl
  unfold placeUnit
  simp only []
  have hw : ∀ (c : Bool) (r : Nat), (Keeps ls sz (if c = true then wakeRow r s else s) ↔ Keeps ls sz s) := by
    intro c r; split <;> simp [hl]
  split
  · split <;> simp [hl]
  · split <;> simp [hl]
  · simp [hl]
  · rw [keeps_each]
    · exact hw _ _
    · intro x t
      split <;> simp [hl]
  · simp [hl]
  · simp [hl]
  · exact hw _ _

@[simp] theorem keeps_spoilSlot {ls : List Fld} {sz : State} (ast : Bool) (r t : Nat) (s : State) (hl : ([.rows, .fresh] : List Fld) ⊆ ls) :
    Keeps ls sz (spoilSlot ast r t s) ↔ Keeps ls sz s := by
  simp only [List.cons_subset, List.nil_subset, and_true] at hl
  unfold spoilSlot
  simp [hl]

@[simp] theorem keeps_beginTest {ls : List Fld} {sz : State} (u : Nat) (s : State) (hl : ([.rows, .dmap, .gw, .fresh] : List Fld) ⊆ ls) :
    Keeps ls sz (beginTest u s) ↔ Keeps ls sz s := by
  simp only [List.cons_subset, List.nil_subset, and_true] at hl
  unfold beginTest
  try simp only []
  repeat' (split)
  all_goals simp [hl]

@[simp] theorem keeps_tryTest {ls : List Fld} {sz : State} (u : Nat) (s : State) (hl : ([.power, .rows, .dmap, .fab, .gw, .fresh] : List Fld) ⊆ ls) :
    Keeps ls sz (tryTest u s) ↔ Keeps ls sz s := by
  simp only [List.cons_subset, List.nil_subset, and_true] at hl
  unfold tryTest
  simp [hl]

@[simp] theorem keeps_testOutcome {ls : List Fld} {sz : State} (x : Test) (pass : Bool) (s : State) (hl : ([.gw] : List Fld) ⊆ ls) :
    Keeps ls sz (testOutcome x pass s).2 ↔ Keeps ls sz s := by
  simp only [List.cons_subset, List.nil_subset, and_true] at hl
  unfold testOutcome
  try simp only []
  repeat' split
  all_goals simp [hl]

@[simp] theorem keeps_testRecord {ls : List Fld} {sz : State} (x : Test) (o : TestOutcome) (action : Nat) (defect recovers : Bool) (s : State) (hl : ([.fab, .chavi, .mbx, .gw, .err, .sec, .attn, .out, .fresh] : List Fld) ⊆ ls) :
    Keeps ls sz (testRecord x o action defect recovers s) ↔ Keeps ls sz s := by
  simp only [List.cons_subset, List.nil_subset, and_true] at hl
  unfold testRecord
  try simp only []
  repeat' (split)
  all_goals simp [hl]

@[simp] theorem keeps_carry {ls : List Fld} {sz : State} (u : Nat) (s : State) (hl : ([.boot] : List Fld) ⊆ ls) :
    Keeps ls sz (carry u s) ↔ Keeps ls sz s := by
  simp only [List.cons_subset, List.nil_subset, and_true] at hl
  unfold carry
  simp [hl]

@[simp] theorem keeps_testGone {ls : List Fld} {sz : State} (u : Nat) (o : TestOutcome) (s : State) (hl : ([.mem, .fab, .chavi, .mbx, .gw, .sec, .out] : List Fld) ⊆ ls) :
    Keeps ls sz (testGone u o s) ↔ Keeps ls sz s := by
  simp only [List.cons_subset, List.nil_subset, and_true] at hl
  unfold testGone
  simp [hl]

@[simp] theorem keeps_movedSlots {ls : List Fld} {sz : State} (ast : Bool) (r : Nat) (old : List (Option Nat)) (but : Option Nat) (s : State) (hl : ([.rows, .gw] : List Fld) ⊆ ls) :
    Keeps ls sz (movedSlots ast r old but s) ↔ Keeps ls sz s := by
  simp only [List.cons_subset, List.nil_subset, and_true] at hl
  unfold movedSlots
  simp [hl]

@[simp] theorem keeps_pairCheck {ls : List Fld} {sz : State} (r : Nat) (s : State) (hl : ([.rows, .fetch, .fab, .chavi, .mbx, .gw, .err, .wit, .sec, .attn, .out] : List Fld) ⊆ ls) :
    Keeps ls sz (pairCheck r s) ↔ Keeps ls sz s := by
  simp only [List.cons_subset, List.nil_subset, and_true] at hl
  unfold pairCheck
  simp [hl]

@[simp] theorem keeps_endPos {ls : List Fld} {sz : State} (x : Test) (o : TestOutcome) (s : State) (hl : ([.power, .rows, .boot, .dmap, .mem, .fetch, .fab, .chavi, .mbx, .rings, .gw, .err, .wit, .sec, .attn, .out, .fresh] : List Fld) ⊆ ls) :
    Keeps ls sz (endPos x o s) ↔ Keeps ls sz s := by
  simp only [List.cons_subset, List.nil_subset, and_true] at hl
  unfold endPos
  try simp only []
  repeat' (split)
  all_goals simp [hl]

@[simp] theorem keeps_endBank {ls : List Fld} {sz : State} (x : Test) (o : TestOutcome) (s : State) (hl : ([.rows, .boot, .dmap, .mem, .fab, .chavi, .mbx, .gw, .err, .sec, .attn, .out, .fresh] : List Fld) ⊆ ls) :
    Keeps ls sz (endBank x o s) ↔ Keeps ls sz s := by
  simp only [List.cons_subset, List.nil_subset, and_true] at hl
  unfold endBank
  simp [hl]

@[simp] theorem keeps_endSkip {ls : List Fld} {sz : State} (x : Test) (o : TestOutcome) (s : State) (hl : ([.power, .rows, .dmap, .mem, .fetch, .fab, .chavi, .mbx, .rings, .gw, .err, .wit, .sec, .attn, .out, .fresh] : List Fld) ⊆ ls) :
    Keeps ls sz (endSkip x o s) ↔ Keeps ls sz s := by
  simp only [List.cons_subset, List.nil_subset, and_true] at hl
  unfold endSkip
  simp only []
  rw [keeps_rowOutCheck _ _ (by simp [hl]), keeps_pairCheck _ _ (by simp [hl]), keeps_testRecord _ _ _ _ _ _ (by simp [hl]), keeps_each]
  · rw [keeps_movedSlots _ _ _ _ _ (by simp [hl])]
    simp [hl]
  · intro x t
    repeat' split
    all_goals simp [hl]

@[simp] theorem keeps_endDma {ls : List Fld} {sz : State} (x : Test) (o : TestOutcome) (s : State) (hl : ([.power, .rows, .dmap, .mem, .fab, .chavi, .mbx, .rings, .gw, .err, .sec, .attn, .out, .fresh] : List Fld) ⊆ ls) :
    Keeps ls sz (endDma x o s) ↔ Keeps ls sz s := by
  simp only [List.cons_subset, List.nil_subset, and_true] at hl
  unfold endDma
  simp [hl]

@[simp] theorem keeps_endRow {ls : List Fld} {sz : State} (x : Test) (rt : RowTest) (badBanks : List Nat) (s : State) (hl : ([.power, .rows, .dmap, .mem, .fab, .chavi, .mbx, .rings, .gw, .err, .sec, .attn, .out, .fresh] : List Fld) ⊆ ls) :
    Keeps ls sz (endRow x rt badBanks s).2 ↔ Keeps ls sz s := by
  simp only [List.cons_subset, List.nil_subset, and_true] at hl
  unfold endRow
  try simp only []
  repeat' split
  all_goals simp [hl]

@[simp] theorem keeps_endOther {ls : List Fld} {sz : State} (x : Test) (o : TestOutcome) (s : State) (hl : ([.dmap, .fab, .chavi, .mbx, .gw, .err, .sec, .attn, .out, .fresh] : List Fld) ⊆ ls) :
    Keeps ls sz (endOther x o s) ↔ Keeps ls sz s := by
  simp only [List.cons_subset, List.nil_subset, and_true] at hl
  unfold endOther
  try simp only []
  repeat' (split)
  all_goals simp [hl]

@[simp] theorem keeps_endTest {ls : List Fld} {sz : State} (x : Test) (o : TestOutcome) (s : State) (hl : ([.power, .rows, .boot, .dmap, .mem, .fetch, .fab, .chavi, .mbx, .rings, .gw, .err, .wit, .sec, .attn, .out, .fresh] : List Fld) ⊆ ls) :
    Keeps ls sz (endTest x o s) ↔ Keeps ls sz s := by
  simp only [List.cons_subset, List.nil_subset, and_true] at hl
  unfold endTest
  try simp only []
  repeat' (split)
  all_goals simp [hl]

@[simp] theorem keeps_acceptRec {ls : List Fld} {sz : State} (w : Nat) (e : WitEntry) (s : State) (hl : ([.wit] : List Fld) ⊆ ls) :
    Keeps ls sz (acceptRec w e s) ↔ Keeps ls sz s := by
  simp only [List.cons_subset, List.nil_subset, and_true] at hl
  unfold acceptRec
  simp [hl]

@[simp] theorem keeps_giveUp {ls : List Fld} {sz : State} (w : Nat) (s : State) (hl : ([.wit] : List Fld) ⊆ ls) :
    Keeps ls sz (giveUp w s) ↔ Keeps ls sz s := by
  simp only [List.cons_subset, List.nil_subset, and_true] at hl
  unfold giveUp
  simp [hl]

@[simp] theorem keeps_witPost {ls : List Fld} {sz : State} (c : WitCpl) (s : State) (hl : ([.mem, .fab, .chavi, .mbx, .rings, .gw, .err, .sec, .attn, .out] : List Fld) ⊆ ls) :
    Keeps ls sz (witPost c s) ↔ Keeps ls sz s := by
  simp only [List.cons_subset, List.nil_subset, and_true] at hl
  unfold witPost
  try simp only []
  repeat' (split)
  all_goals simp [hl]

@[simp] theorem keeps_capture {ls : List Fld} {sz : State} (w : Nat) (e : WitEntry) (c : WitCpl) (s : State) (hl : ([.mem, .fab, .chavi, .mbx, .rings, .gw, .err, .wit, .sec, .attn, .out] : List Fld) ⊆ ls) :
    Keeps ls sz (capture w e c s) ↔ Keeps ls sz s := by
  simp only [List.cons_subset, List.nil_subset, and_true] at hl
  unfold capture
  simp [hl]

@[simp] theorem keeps_evalOn {ls : List Fld} {sz : State} (w owner : Nat) (c : WitCpl) (s : State) (hl : ([.mem, .fab, .chavi, .mbx, .rings, .gw, .err, .wit, .sec, .attn, .out, .fresh] : List Fld) ⊆ ls) :
    Keeps ls sz (evalOn w owner c s) ↔ Keeps ls sz s := by
  simp only [List.cons_subset, List.nil_subset, and_true] at hl
  unfold evalOn
  simp [hl]

@[simp] theorem keeps_evalCpl {ls : List Fld} {sz : State} (c : WitCpl) (s : State) (hl : ([.mem, .fab, .chavi, .mbx, .rings, .gw, .err, .wit, .sec, .attn, .out, .fresh] : List Fld) ⊆ ls) :
    Keeps ls sz (evalCpl c s) ↔ Keeps ls sz s := by
  simp only [List.cons_subset, List.nil_subset, and_true] at hl
  unfold evalCpl
  try simp only []
  repeat' (split)
  all_goals simp [hl]

@[simp] theorem keeps_witFail {ls : List Fld} {sz : State} (w : Nat) (c : Code) (s : State) (hl : ([.mem, .fab, .chavi, .mbx, .rings, .gw, .err, .wit, .sec, .attn, .out] : List Fld) ⊆ ls) :
    Keeps ls sz (witFail w c s) ↔ Keeps ls sz s := by
  simp only [List.cons_subset, List.nil_subset, and_true] at hl
  unfold witFail
  simp [hl]

@[simp] theorem keeps_readConsumed {ls : List Fld} {sz : State} (w : Nat) (s : State) (hl : ([.fab, .chavi, .mbx, .gw, .err, .wit, .sec, .attn, .out] : List Fld) ⊆ ls) :
    Keeps ls sz (readConsumed w s) ↔ Keeps ls sz s := by
  simp only [List.cons_subset, List.nil_subset, and_true] at hl
  unfold readConsumed
  simp [hl]

@[simp] theorem keeps_putEntry {ls : List Fld} {sz : State} (w : Nat) (l : List Byte) (s : State) (hl : ([.mem, .wit] : List Fld) ⊆ ls) :
    Keeps ls sz (putEntry w l s).2 ↔ Keeps ls sz s := by
  simp only [List.cons_subset, List.nil_subset, and_true] at hl
  unfold putEntry
  try simp only []
  repeat' split
  all_goals simp [hl]

@[simp] theorem keeps_chained {ls : List Fld} {sz : State} (w : Nat) (e : WitEntry) (l : List Byte) (n : Nat) (s : State) (hl : ([.mem, .fab, .chavi, .mbx, .gw, .wit, .sec, .out] : List Fld) ⊆ ls) :
    Keeps ls sz (chained w e l n s) ↔ Keeps ls sz s := by
  simp only [List.cons_subset, List.nil_subset, and_true] at hl
  unfold chained
  simp [hl]

@[simp] theorem keeps_stallDrain {ls : List Fld} {sz : State} (k n : Nat) (s : State) (hl : ([.mem, .fab, .chavi, .mbx, .rings, .gw, .err, .wit, .sec, .attn, .out] : List Fld) ⊆ ls) :
    Keeps ls sz (stallDrain k n s) ↔ Keeps ls sz s := by
  simp only [List.cons_subset, List.nil_subset, and_true] at hl
  induction k generalizing s  with
  | zero => rfl
  | succ k ih =>
    unfold stallDrain
    try simp only []
    repeat' split
    all_goals (try (rename_i heq; replace heq := (congrArg Prod.snd heq).symm; dsimp only at heq; subst heq))
    all_goals simp [hl, ih]

end Sys2Proof.Machine
end

