-- ==== Sys2Proof/Laws/KeepsCmds.lean ====
section
/-! SUPPORT. What each command keeps: it completes, and changes at most the fields its lemma names. -/

set_option linter.all false

namespace Sys2Proof.Machine
/-- What the outcome of a core instruction keeps. -/
def Ran.Kept (ls : List Fld) (sz : State) : Ran → Prop
  | .done t => Keeps ls sz t
  | .trap _ _ t => Keeps ls sz t

@[simp] theorem ranKept_done {ls : List Fld} {sz t : State} : Ran.Kept ls sz (.done t) ↔ Keeps ls sz t := Iff.rfl
@[simp] theorem ranKept_trap {ls : List Fld} {sz t : State} (a b : Nat) : Ran.Kept ls sz (.trap a b t) ↔ Keeps ls sz t := Iff.rfl
@[simp] theorem ranKept_finish {ls : List Fld} {sz : State} (r c : Nat) (x : Ran) (hl : ([.rows] : List Fld) ⊆ ls) :
    Keeps ls sz (x.finish r c) ↔ x.Kept ls sz := by
  simp only [List.cons_subset, List.nil_subset, and_true] at hl
  cases x <;> simp [Ran.finish, hl]
/-- What the outcome of a command's body keeps. -/
def Done.Kept (ls : List Fld) (sz : State) : Done → Prop
  | .now _ _ _ t => Keeps ls sz t
  | .later _ _ t => Keeps ls sz t
  | .hold t => Keeps ls sz t
  | .after t post => (∀ u, Keeps ls sz (post u) ↔ Keeps ls sz u) ∧ Keeps ls sz t

@[simp] theorem doneKept_now {ls : List Fld} {sz t : State} (c i d) : Done.Kept ls sz (.now c i d t) ↔ Keeps ls sz t := Iff.rfl
@[simp] theorem doneKept_later {ls : List Fld} {sz t : State} (w a) : Done.Kept ls sz (.later w a t) ↔ Keeps ls sz t := Iff.rfl
@[simp] theorem doneKept_hold {ls : List Fld} {sz t : State} : Done.Kept ls sz (.hold t) ↔ Keeps ls sz t := Iff.rfl
@[simp] theorem doneKept_after {ls : List Fld} {sz t : State} (p) : Done.Kept ls sz (.after t p) ↔
    (∀ u, Keeps ls sz (p u) ↔ Keeps ls sz u) ∧ Keeps ls sz t := Iff.rfl
@[simp] theorem doneKept_ite {ls : List Fld} {sz : State} (c : Prop) [Decidable c] (a b : Done) :
    Done.Kept ls sz (if c then a else b) ↔ (if c then a.Kept ls sz else b.Kept ls sz) := by split <;> rfl

@[simp] theorem ranKept_ite {ls : List Fld} {sz : State} (c : Prop) [Decidable c] (a b : Ran) :
    Ran.Kept ls sz (if c then a else b) ↔ (if c then a.Kept ls sz else b.Kept ls sz) := by split <;> rfl

/-- What an access of a core keeps. -/
def Acc1.Kept (ls : List Fld) (sz : State) : Acc1 → Prop
  | .ok _ t => Keeps ls sz t
  | .trap _ _ t => Keeps ls sz t

@[simp] theorem accKept_ok {ls : List Fld} {sz t : State} (l) : Acc1.Kept ls sz (.ok l t) ↔ Keeps ls sz t := Iff.rfl
@[simp] theorem accKept_trap {ls : List Fld} {sz t : State} (a b) : Acc1.Kept ls sz (.trap a b t) ↔ Keeps ls sz t := Iff.rfl
@[simp] theorem accKept_ite {ls : List Fld} {sz : State} (c : Prop) [Decidable c] (a b : Acc1) :
    Acc1.Kept ls sz (if c then a else b) ↔ (if c then a.Kept ls sz else b.Kept ls sz) := by split <;> rfl

theorem keeps_freeLost {ls : List Fld} {sz : State} (k : Nat) (s t : State) (hl : ([.mem] : List Fld) ⊆ ls) (h : freeLost k s = some t) :
    Keeps ls sz t ↔ Keeps ls sz s := by
  simp only [List.cons_subset, List.nil_subset, and_true] at hl
  unfold freeLost at h
  split at h
  · cases h
  · simp only [Option.some.injEq] at h; subst h; simp [hl]

@[simp] theorem keeps_freeLost_getD {ls : List Fld} {sz : State} (k : Nat) (s : State) (hl : ([.mem] : List Fld) ⊆ ls) :
    Keeps ls sz ((freeLost k s).getD s) ↔ Keeps ls sz s := by
  cases h : freeLost k s with
  | none => rfl
  | some t => exact keeps_freeLost k s t hl h

theorem keeps_freeAll {ls : List Fld} {sz : State} (ks : List Nat) (s t : State) (hl : ([.mem] : List Fld) ⊆ ls) (h : freeAll ks s = some t) :
    Keeps ls sz t ↔ Keeps ls sz s := by
  induction ks generalizing s with
  | nil => simp only [freeAll, Option.some.injEq] at h; subst h; rfl
  | cons k ks ih =>
    unfold freeAll at h
    split at h
    · rename_i u hu; rw [ih u h, keeps_freeLost k s u hl hu]
    · cases h

theorem keeps_over {l ls : List Fld} {sz : State} (u t : State) (hl : l ⊆ ls) (h : Keeps l u t) : Keeps ls sz t ↔ Keeps ls sz u := by
  constructor <;> intro k f hf <;> have e := h f (fun x => hf (hl x)) <;> have e2 := k f hf <;> cases f <;>
    simp only [Fld.same] at * <;> simp_all

@[simp] theorem runs_atRow {ls : List Fld} {sz : State} (r : Nat) (f : State → State) (s : State) (hl : ([.power, .rows] : List Fld) ⊆ ls)
    (hf : ∀ t, Keeps ls sz (f t) ↔ Keeps ls sz t) :
    Runs (Keeps ls sz) (atRow r f s) ↔ Keeps ls sz s := by
  simp only [List.cons_subset, List.nil_subset, and_true] at hl
  unfold atRow
  repeat' split
  all_goals simp [hl, hf]

theorem runs_execAstRunWrite {ls : List Fld} {sz : State} (r t v : Nat) (s : State) (hl : ([.power, .rows] : List Fld) ⊆ ls) :
    Runs (Keeps ls sz) (execAstRunWrite r t v s) ↔ Keeps ls sz s := by
  simp only [List.cons_subset, List.nil_subset, and_true] at hl
  unfold execAstRunWrite
  simp [hl]

theorem runs_execAstRunFetch {ls : List Fld} {sz : State} (r t : Nat) (bad : Option Nat) (s : State) (hl : ([.rows, .fab, .chavi, .mbx, .gw, .err, .sec, .attn, .out] : List Fld) ⊆ ls) :
    Runs (Keeps ls sz) (execAstRunFetch r t bad s) ↔ Keeps ls sz s := by
  simp only [List.cons_subset, List.nil_subset, and_true] at hl
  unfold execAstRunFetch
  try simp only []
  repeat' (split)
  all_goals simp [hl]

theorem runs_execAstQpushWrite {ls : List Fld} {sz : State} (r t w part : Nat) (s : State) (hl : ([.power, .rows] : List Fld) ⊆ ls) :
    Runs (Keeps ls sz) (execAstQpushWrite r t w part s) ↔ Keeps ls sz s := by
  simp only [List.cons_subset, List.nil_subset, and_true] at hl
  unfold execAstQpushWrite
  try simp only []
  repeat' (split)
  all_goals simp [hl]

@[simp] theorem runs_tryIssue {ls : List Fld} {sz : State} (r t i o : Nat) (go : BitVec 128 → Nat → State → State) (s : State) (hl : ([.rows, .fab, .chavi, .mbx, .gw, .err, .sec, .attn, .out] : List Fld) ⊆ ls)
    (hg : ∀ w f t, Keeps ls sz (go w f t) ↔ Keeps ls sz t) :
    Runs (Keeps ls sz) (tryIssue r t i o go s) ↔ Keeps ls sz s := by
  simp only [List.cons_subset, List.nil_subset, and_true] at hl
  unfold tryIssue
  simp only []
  repeat' split
  all_goals simp [hl, hg]

theorem runs_execNopMark {ls : List Fld} {sz : State} (r t i : Nat) (s : State) (hl : ([.rows, .fab, .chavi, .mbx, .gw, .err, .cap, .sec, .attn, .out] : List Fld) ⊆ ls) :
    Runs (Keeps ls sz) (execNopMark r t i s) ↔ Keeps ls sz s := by
  simp only [List.cons_subset, List.nil_subset, and_true] at hl
  unfold execNopMark
  simp [hl]

theorem runs_execFence {ls : List Fld} {sz : State} (r t i : Nat) (s : State) (hl : ([.rows, .fab, .chavi, .mbx, .gw, .err, .sec, .attn, .out] : List Fld) ⊆ ls) :
    Runs (Keeps ls sz) (execFence r t i s) ↔ Keeps ls sz s := by
  simp only [List.cons_subset, List.nil_subset, and_true] at hl
  unfold execFence
  simp [hl]

theorem runs_execResv {ls : List Fld} {sz : State} (r t i : Nat) (s : State) (hl : ([.rows, .fab, .chavi, .mbx, .gw, .err, .sec, .attn, .out] : List Fld) ⊆ ls) :
    Runs (Keeps ls sz) (execResv r t i s) ↔ Keeps ls sz s := by
  simp only [List.cons_subset, List.nil_subset, and_true] at hl
  unfold execResv
  simp [hl]

theorem runs_execRels {ls : List Fld} {sz : State} (r t i : Nat) (s : State) (hl : ([.rows, .fab, .chavi, .mbx, .gw, .err, .sec, .attn, .out] : List Fld) ⊆ ls) :
    Runs (Keeps ls sz) (execRels r t i s) ↔ Keeps ls sz s := by
  simp only [List.cons_subset, List.nil_subset, and_true] at hl
  unfold execRels
  simp [hl]

theorem runs_execWload {ls : List Fld} {sz : State} (r t i : Nat) (bad : List Nat) (s : State) (hl : ([.rows, .fab, .chavi, .mbx, .gw, .err, .sec, .attn, .out] : List Fld) ⊆ ls) :
    Runs (Keeps ls sz) (execWload r t i bad s) ↔ Keeps ls sz s := by
  simp only [List.cons_subset, List.nil_subset, and_true] at hl
  unfold execWload
  simp [hl]

theorem runs_execEpi {ls : List Fld} {sz : State} (r t i : Nat) (bad : List Nat) (s : State) (hl : ([.rows, .fab, .chavi, .mbx, .gw, .err, .sec, .attn, .out] : List Fld) ⊆ ls) :
    Runs (Keeps ls sz) (execEpi r t i bad s) ↔ Keeps ls sz s := by
  simp only [List.cons_subset, List.nil_subset, and_true] at hl
  unfold execEpi
  simp [hl]

theorem runs_execDecideSet {ls : List Fld} {sz : State} (r t i : Nat) (s : State) (hl : ([.rows, .fab, .chavi, .mbx, .gw, .err, .sec, .attn, .out] : List Fld) ⊆ ls) :
    Runs (Keeps ls sz) (execDecideSet r t i s) ↔ Keeps ls sz s := by
  simp only [List.cons_subset, List.nil_subset, and_true] at hl
  unfold execDecideSet
  simp [hl]

theorem runs_execGroup {ls : List Fld} {sz : State} (r t i : Nat) (s : State) (hl : ([.rows, .fab, .chavi, .mbx, .gw, .err, .sec, .attn, .out] : List Fld) ⊆ ls) :
    Runs (Keeps ls sz) (execGroup r t i s) ↔ Keeps ls sz s := by
  simp only [List.cons_subset, List.nil_subset, and_true] at hl
  unfold execGroup
  simp [hl]

theorem runs_execMatv {ls : List Fld} {sz : State} (r t i : Nat) (bad : List Nat) (s : State) (hl : ([.rows, .fab, .chavi, .mbx, .gw, .err, .sec, .attn, .out] : List Fld) ⊆ ls) :
    Runs (Keeps ls sz) (execMatv r t i bad s) ↔ Keeps ls sz s := by
  simp only [List.cons_subset, List.nil_subset, and_true] at hl
  unfold execMatv
  simp [hl]

theorem runs_execWloadComplete {ls : List Fld} {sz : State} (r t i : Nat) (s : State) (hl : ([.rows, .fab, .chavi, .mbx, .gw, .err, .sec, .attn, .out] : List Fld) ⊆ ls) :
    Runs (Keeps ls sz) (execWloadComplete r t i s) ↔ Keeps ls sz s := by
  simp only [List.cons_subset, List.nil_subset, and_true] at hl
  unfold execWloadComplete
  try simp only []
  repeat' (split)
  all_goals simp [hl]

theorem runs_execEpiComplete {ls : List Fld} {sz : State} (r t i : Nat) (s : State) (hl : ([.rows, .fab, .chavi, .mbx, .gw, .err, .sec, .attn, .out] : List Fld) ⊆ ls) :
    Runs (Keeps ls sz) (execEpiComplete r t i s) ↔ Keeps ls sz s := by
  simp only [List.cons_subset, List.nil_subset, and_true] at hl
  unfold execEpiComplete
  try simp only []
  repeat' (split)
  all_goals simp [hl]

theorem runs_execDeciderEvaluation {ls : List Fld} {sz : State} (r t i w : Nat) (s : State) (hl : ([.rows, .mem, .wit] : List Fld) ⊆ ls) :
    Runs (Keeps ls sz) (execDeciderEvaluation r t i w s) ↔ Keeps ls sz s := by
  simp only [List.cons_subset, List.nil_subset, and_true] at hl
  unfold execDeciderEvaluation
  try simp only []
  repeat' (split)
  all_goals simp [hl]

theorem runs_execMatvComplete {ls : List Fld} {sz : State} (r t i : Nat) (s : State) (hl : ([.rows, .mem, .wit] : List Fld) ⊆ ls) :
    Runs (Keeps ls sz) (execMatvComplete r t i s) ↔ Keeps ls sz s := by
  simp only [List.cons_subset, List.nil_subset, and_true] at hl
  unfold execMatvComplete
  try simp only []
  repeat' (split)
  all_goals simp [hl]

theorem runs_execPairCompare {ls : List Fld} {sz : State} (r pair : Nat) (pass : Bool) (s : State) (hl : ([.rows, .fetch, .fab, .chavi, .mbx, .gw, .err, .wit, .sec, .attn, .out] : List Fld) ⊆ ls) :
    Runs (Keeps ls sz) (execPairCompare r pair pass s) ↔ Keeps ls sz s := by
  simp only [List.cons_subset, List.nil_subset, and_true] at hl
  unfold execPairCompare
  simp [hl]

theorem runs_execAstWaitTimeout {ls : List Fld} {sz : State} (r t i : Nat) (s : State) (hl : ([.rows, .fab, .chavi, .mbx, .gw, .err, .sec, .attn, .out] : List Fld) ⊆ ls) :
    Runs (Keeps ls sz) (execAstWaitTimeout r t i s) ↔ Keeps ls sz s := by
  simp only [List.cons_subset, List.nil_subset, and_true] at hl
  unfold execAstWaitTimeout
  simp [hl]

theorem runs_execAstRunTimeout {ls : List Fld} {sz : State} (r t i : Nat) (s : State) (hl : ([.rows, .fab, .chavi, .mbx, .gw, .err, .sec, .attn, .out] : List Fld) ⊆ ls) :
    Runs (Keeps ls sz) (execAstRunTimeout r t i s) ↔ Keeps ls sz s := by
  simp only [List.cons_subset, List.nil_subset, and_true] at hl
  unfold execAstRunTimeout
  try simp only []
  repeat' (split)
  all_goals simp [hl]

theorem runs_execBu0 {ls : List Fld} {sz : State} (fail0 fail1 : Nat) (slotUnst mbxUnst arbLost : Bool) (s : State) (hl : ([.power, .rows, .eeprom, .boot, .dmap, .mem, .fab, .chavi, .mbx, .rings, .gw, .err, .sec, .attn, .out, .fresh] : List Fld) ⊆ ls) :
    Runs (Keeps ls sz) (execBu0 fail0 fail1 slotUnst mbxUnst arbLost s) ↔ Keeps ls sz s := by
  simp only [List.cons_subset, List.nil_subset, and_true] at hl
  have hb : Keeps ls sz (bu0Begin fail0 fail1 slotUnst mbxUnst s) ↔ Keeps ls sz s := by
    unfold bu0Begin
    simp only []
    repeat' split
    all_goals simp [hl]
  unfold execBu0
  simp only []
  split
  · simp
  split
  · simp [hl]
  split <;> simp [hl, hb]

theorem runs_execBu1 {ls : List Fld} {sz : State} (badWord : Option Nat) (s : State) (hl : ([.power, .clk, .rows, .boot, .mem, .fab, .chavi, .mbx, .rings, .gw, .err, .sec, .attn, .out] : List Fld) ⊆ ls) :
    Runs (Keeps ls sz) (execBu1 badWord s) ↔ Keeps ls sz s := by
  simp only [List.cons_subset, List.nil_subset, and_true] at hl
  unfold execBu1
  try simp only []
  repeat' (split)
  all_goals simp [hl]

theorem runs_execBu2 {ls : List Fld} {sz : State} (trips : List SharedRail) (rowTrips present swFaults : List Nat) (s : State) (hl : ([.power, .rows, .boot, .dmap, .mem, .fetch, .flash, .fab, .chavi, .mbx, .rings, .gw, .err, .sec, .attn, .out] : List Fld) ⊆ ls) :
    Runs (Keeps ls sz) (execBu2 trips rowTrips present swFaults s) ↔ Keeps ls sz s := by
  simp only [List.cons_subset, List.nil_subset, and_true] at hl
  unfold execBu2
  simp [hl]

theorem runs_execBu3 {ls : List Fld} {sz : State} (tests : List RowTest) (s : State) (hl : ([.power, .rows, .boot, .dmap, .mem, .fab, .chavi, .mbx, .rings, .gw, .err, .sec, .attn, .out, .fresh] : List Fld) ⊆ ls) :
    Runs (Keeps ls sz) (execBu3 tests s) ↔ Keeps ls sz s := by
  simp only [List.cons_subset, List.nil_subset, and_true] at hl
  unfold execBu3
  simp [hl]

theorem runs_execBu4 {ls : List Fld} {sz : State} (badBanks : List Nat) (s : State) (hl : ([.rows, .boot, .dmap, .mem, .fab, .chavi, .mbx, .gw, .err, .sec, .attn, .out, .fresh] : List Fld) ⊆ ls) :
    Runs (Keeps ls sz) (execBu4 badBanks s) ↔ Keeps ls sz s := by
  simp only [List.cons_subset, List.nil_subset, and_true] at hl
  unfold execBu4
  simp [hl]

theorem runs_execBu5 {ls : List Fld} {sz : State} (res : List MemTest) (s : State) (hl : ([.power, .boot, .dmap, .mem, .out] : List Fld) ⊆ ls) :
    Runs (Keeps ls sz) (execBu5 res s) ↔ Keeps ls sz s := by
  simp only [List.cons_subset, List.nil_subset, and_true] at hl
  unfold execBu5
  simp [hl]

theorem runs_execBu6 {ls : List Fld} {sz : State} (res : List MemTest) (s : State) (hl : ([.power, .boot, .dmap, .mem, .out] : List Fld) ⊆ ls) :
    Runs (Keeps ls sz) (execBu6 res s) ↔ Keeps ls sz s := by
  simp only [List.cons_subset, List.nil_subset, and_true] at hl
  unfold execBu6
  simp [hl]

theorem runs_execBu7 {ls : List Fld} {sz : State} (res : List CardTest) (s : State) (hl : ([.boot, .dmap, .fetch, .flash, .out] : List Fld) ⊆ ls) :
    Runs (Keeps ls sz) (execBu7 res s) ↔ Keeps ls sz s := by
  simp only [List.cons_subset, List.nil_subset, and_true] at hl
  have tm : ∀ (w : State) (xs : List Nat) (p : State × List Finding), Keeps ls sz (xs.foldl (fun (p : State × List Finding) c =>
        let t := (res.find? (·.card == c)).getD { card := c }
        let q := scanCard { t with reason := if (w.sw (16 + c)).st = .fault then 5 else t.reason } p.1
        (q.1, p.2 ++ q.2)) p).1 ↔ Keeps ls sz p.1 := by
    intro w xs
    induction xs with
    | nil => intro p; rfl
    | cons x xs ih => intro p; simp only [List.foldl_cons]; rw [ih]; simp [hl]
  unfold execBu7
  simp only []
  split
  · simp
  split
  · simp [hl]
  split
  · simp [hl]
  · rw [runs_next, keeps_stagePass _ _ (by simp [hl]), keeps_mapCards _ (by simp [hl])]
    refine (tm _ _ _).trans ?_
    simp [hl]

theorem runs_execBu8 {ls : List Fld} {sz : State} (res : List PortTest) (s : State) (hl : ([.boot, .dmap, .fab, .out] : List Fld) ⊆ ls) :
    Runs (Keeps ls sz) (execBu8 res s) ↔ Keeps ls sz s := by
  simp only [List.cons_subset, List.nil_subset, and_true] at hl
  have tm : ∀ (xs : List Nat) (p : State × List Finding), Keeps ls sz (xs.foldl (fun (p : State × List Finding) i =>
      let q := bu8Port res i p.1
      (q.1, p.2 ++ q.2)) p).1 ↔ Keeps ls sz p.1 := by
    intro xs
    induction xs with
    | nil => intro p; rfl
    | cons x xs ih => intro p; simp only [List.foldl_cons]; rw [ih]; simp [hl]
  unfold execBu8
  split
  · simp
  · rw [runs_next, keeps_stagePass _ _ (by simp [hl]), keeps_epochSince _ _ (by simp [hl])]
    exact tm _ _

theorem runs_execBu9 {ls : List Fld} {sz : State} (s : State) (hl : ([.power, .rows, .boot, .mem, .fab, .chavi, .mbx, .rings, .gw, .err, .sec, .attn, .out] : List Fld) ⊆ ls) :
    Runs (Keeps ls sz) (execBu9 s) ↔ Keeps ls sz s := by
  simp only [List.cons_subset, List.nil_subset, and_true] at hl
  unfold execBu9
  simp [hl]

theorem runs_execBu10 {ls : List Fld} {sz : State} (s : State) (hl : ([.boot, .chavi, .mbx, .gw, .sec, .attn, .out] : List Fld) ⊆ ls) :
    Runs (Keeps ls sz) (execBu10 s) ↔ Keeps ls sz s := by
  simp only [List.cons_subset, List.nil_subset, and_true] at hl
  unfold execBu10
  simp [hl]

theorem runs_execStageTimeout {ls : List Fld} {sz : State} (s : State) (hl : ([.power, .rows, .boot, .mem, .fab, .chavi, .mbx, .rings, .gw, .err, .sec, .attn, .out] : List Fld) ⊆ ls) :
    Runs (Keeps ls sz) (execStageTimeout s) ↔ Keeps ls sz s := by
  simp only [List.cons_subset, List.nil_subset, and_true] at hl
  unfold execStageTimeout
  simp [hl]

@[simp] theorem runs_chaviReq {ls : List Fld} {sz : State} (h : ChaviHdr) (arg n : Nat) (go : State → State) (s : State) (hl : ([.fab, .chavi, .mbx, .gw, .err, .sec, .attn, .out] : List Fld) ⊆ ls)
    (hg : ∀ t, Keeps ls sz (go t) ↔ Keeps ls sz t) :
    Runs (Keeps ls sz) (chaviReq h arg n go s) ↔ Keeps ls sz s := by
  simp only [List.cons_subset, List.nil_subset, and_true] at hl
  have hf := keeps_chaviFront (ls := ls) (sz := sz) h s (by simp [hl])
  unfold chaviReq
  split
  · simp
  · split <;> rename_i heq <;> rw [heq] at hf <;> simp [hl, hg] <;> exact hf

theorem runs_execMbxSend {ls : List Fld} {sz : State} (h : ChaviHdr) (ch : Nat) (msg : List Byte) (s : State) (hl : ([.power, .rows, .boot, .mem, .fab, .chavi, .mbx, .rings, .gw, .err, .sec, .attn, .out] : List Fld) ⊆ ls) :
    Runs (Keeps ls sz) (execMbxSend h ch msg s) ↔ Keeps ls sz s := by
  simp only [List.cons_subset, List.nil_subset, and_true] at hl
  unfold execMbxSend
  simp [hl]

theorem runs_execMbxDone {ls : List Fld} {sz : State} (h : ChaviHdr) (ch mseq code : Nat) (s : State) (hl : ([.power, .rows, .boot, .mem, .fab, .chavi, .mbx, .rings, .gw, .err, .sec, .attn, .out] : List Fld) ⊆ ls) :
    Runs (Keeps ls sz) (execMbxDone h ch mseq code s) ↔ Keeps ls sz s := by
  simp only [List.cons_subset, List.nil_subset, and_true] at hl
  unfold execMbxDone
  simp [hl]

theorem runs_execChaviFrameReceive {ls : List Fld} {sz : State} (ok idle : Bool) (seq : Nat) (nak : Bool) (ack : Nat) (s : State) (hl : ([.rows, .fab, .chavi, .mbx, .gw, .err, .sec, .attn, .out] : List Fld) ⊆ ls) :
    Runs (Keeps ls sz) (execChaviFrameReceive ok idle seq nak ack s) ↔ Keeps ls sz s := by
  simp only [List.cons_subset, List.nil_subset, and_true] at hl
  unfold execChaviFrameReceive
  simp [hl]

theorem runs_execChaviLinkUp {ls : List Fld} {sz : State} (s : State) (hl : ([.power, .chavi, .sec, .attn, .out] : List Fld) ⊆ ls) :
    Runs (Keeps ls sz) (execChaviLinkUp s) ↔ Keeps ls sz s := by
  simp only [List.cons_subset, List.nil_subset, and_true] at hl
  unfold execChaviLinkUp
  simp [hl]

theorem runs_execChaviLinkDown {ls : List Fld} {sz : State} (cause : Nat) (s : State) (hl : ([.power, .rows, .fab, .chavi, .mbx, .gw, .err, .sec, .attn, .out] : List Fld) ⊆ ls) :
    Runs (Keeps ls sz) (execChaviLinkDown cause s) ↔ Keeps ls sz s := by
  simp only [List.cons_subset, List.nil_subset, and_true] at hl
  unfold execChaviLinkDown
  simp [hl]

theorem runs_execCredit {ls : List Fld} {sz : State} (h : ChaviHdr) (freed : Nat) (s : State) (hl : ([.chavi, .sec, .out] : List Fld) ⊆ ls) :
    Runs (Keeps ls sz) (execCredit h freed s) ↔ Keeps ls sz s := by
  simp only [List.cons_subset, List.nil_subset, and_true] at hl
  unfold execCredit
  try simp only []
  repeat' (split)
  all_goals simp [hl]

theorem runs_execDwRead {ls : List Fld} {sz : State} (h : ChaviHdr) (off n : Nat) (bad : List Nat) (s : State) (hl : ([.fab, .chavi, .mbx, .gw, .err, .sec, .attn, .out] : List Fld) ⊆ ls) :
    Runs (Keeps ls sz) (execDwRead h off n bad s) ↔ Keeps ls sz s := by
  simp only [List.cons_subset, List.nil_subset, and_true] at hl
  unfold execDwRead
  simp [hl]

theorem runs_execHwrite {ls : List Fld} {sz : State} (h : ChaviHdr) (win off wepoch : Nat) (data : List Byte) (s : State) (hl : ([.power, .rows, .mem, .fab, .chavi, .mbx, .gw, .err, .sec, .attn, .out] : List Fld) ⊆ ls) :
    Runs (Keeps ls sz) (execHwrite h win off wepoch data s) ↔ Keeps ls sz s := by
  simp only [List.cons_subset, List.nil_subset, and_true] at hl
  unfold execHwrite
  simp [hl]

theorem runs_execHread {ls : List Fld} {sz : State} (h : ChaviHdr) (win off wepoch n : Nat) (s : State) (hl : ([.power, .rows, .mem, .fab, .chavi, .mbx, .gw, .err, .sec, .attn, .out] : List Fld) ⊆ ls) :
    Runs (Keeps ls sz) (execHread h win off wepoch n s) ↔ Keeps ls sz s := by
  simp only [List.cons_subset, List.nil_subset, and_true] at hl
  unfold execHread
  simp [hl]

theorem runs_execMbxAckWrite {ls : List Fld} {sz : State} (n seq code : Nat) (s : State) (hl : ([.mbx] : List Fld) ⊆ ls) :
    Runs (Keeps ls sz) (execMbxAckWrite n seq code s) ↔ Keeps ls sz s := by
  simp only [List.cons_subset, List.nil_subset, and_true] at hl
  unfold execMbxAckWrite
  simp [hl]

theorem runs_execMbxTakeRead {ls : List Fld} {sz : State} (n : Nat) (s : State) (hl : ([.mbx, .out] : List Fld) ⊆ ls) :
    Runs (Keeps ls sz) (execMbxTakeRead n s) ↔ Keeps ls sz s := by
  simp only [List.cons_subset, List.nil_subset, and_true] at hl
  unfold execMbxTakeRead
  simp [hl]

theorem runs_execMbxPeerResend {ls : List Fld} {sz : State} (n : Nat) (s : State) (hl : ([.fab, .mbx] : List Fld) ⊆ ls) :
    Runs (Keeps ls sz) (execMbxPeerResend n s) ↔ Keeps ls sz s := by
  simp only [List.cons_subset, List.nil_subset, and_true] at hl
  unfold execMbxPeerResend
  simp [hl]

theorem runs_execClkStepAtWrite {ls : List Fld} {sz : State} (next part tick : Nat) (s : State) (hl : ([.clk] : List Fld) ⊆ ls) :
    Runs (Keeps ls sz) (execClkStepAtWrite next part tick s) ↔ Keeps ls sz s := by
  simp only [List.cons_subset, List.nil_subset, and_true] at hl
  unfold execClkStepAtWrite
  simp [hl]

theorem runs_execStepWithdraw {ls : List Fld} {sz : State} (s : State) (hl : ([.clk, .cap] : List Fld) ⊆ ls) :
    Runs (Keeps ls sz) (execStepWithdraw s) ↔ Keeps ls sz s := by
  simp only [List.cons_subset, List.nil_subset, and_true] at hl
  unfold execStepWithdraw
  simp [hl]

theorem runs_execStepChangeTick {ls : List Fld} {sz : State} (s : State) (hl : ([.clk, .cap] : List Fld) ⊆ ls) :
    Runs (Keeps ls sz) (execStepChangeTick s) ↔ Keeps ls sz s := by
  simp only [List.cons_subset, List.nil_subset, and_true] at hl
  unfold execStepChangeTick
  simp [hl]

theorem runs_execStepSettled {ls : List Fld} {sz : State} (s : State) (hl : ([.clk, .cap] : List Fld) ⊆ ls) :
    Runs (Keeps ls sz) (execStepSettled s) ↔ Keeps ls sz s := by
  simp only [List.cons_subset, List.nil_subset, and_true] at hl
  unfold execStepSettled
  simp [hl]

theorem runs_execIdleEntry {ls : List Fld} {sz : State} (r : Nat) (s : State) (hl : ([.rows] : List Fld) ⊆ ls) :
    Runs (Keeps ls sz) (execIdleEntry r s) ↔ Keeps ls sz s := by
  simp only [List.cons_subset, List.nil_subset, and_true] at hl
  unfold execIdleEntry
  simp [hl]

theorem runs_execNapEntry {ls : List Fld} {sz : State} (r : Nat) (s : State) (hl : ([.rows] : List Fld) ⊆ ls) :
    Runs (Keeps ls sz) (execNapEntry r s) ↔ Keeps ls sz s := by
  simp only [List.cons_subset, List.nil_subset, and_true] at hl
  unfold execNapEntry
  simp [hl]

theorem runs_execSleepEntry {ls : List Fld} {sz : State} (r : Nat) (s : State) (hl : ([.power, .rows, .mem, .fab, .chavi, .mbx, .gw, .sec, .out] : List Fld) ⊆ ls) :
    Runs (Keeps ls sz) (execSleepEntry r s) ↔ Keeps ls sz s := by
  simp only [List.cons_subset, List.nil_subset, and_true] at hl
  unfold execSleepEntry
  try simp only []
  repeat' (split)
  all_goals simp [hl]

theorem runs_execTimebaseEventWake {ls : List Fld} {sz : State} (r : Nat) (s : State) (hl : ([.power, .rows] : List Fld) ⊆ ls) :
    Runs (Keeps ls sz) (execTimebaseEventWake r s) ↔ Keeps ls sz s := by
  simp only [List.cons_subset, List.nil_subset, and_true] at hl
  unfold execTimebaseEventWake
  simp [hl]

theorem runs_execHalfPark {ls : List Fld} {sz : State} (h : Nat) (s : State) (hl : ([.power] : List Fld) ⊆ ls) :
    Runs (Keeps ls sz) (execHalfPark h s) ↔ Keeps ls sz s := by
  simp only [List.cons_subset, List.nil_subset, and_true] at hl
  unfold execHalfPark
  simp [hl]

theorem runs_execSeamUnparkComplete {ls : List Fld} {sz : State} (h : Nat) (s : State) (hl : ([.power, .rows] : List Fld) ⊆ ls) :
    Runs (Keeps ls sz) (execSeamUnparkComplete h s) ↔ Keeps ls sz s := by
  simp only [List.cons_subset, List.nil_subset, and_true] at hl
  unfold execSeamUnparkComplete
  try simp only []
  repeat' (split)
  all_goals simp [hl]

@[simp] theorem runs_arrive {ls : List Fld} {sz : State} (port : Nat) (p : Pkt) (s : State) (hl : ([.power, .clk, .rows, .boot, .mem, .fetch, .fab, .chavi, .mbx, .rings, .gw, .err, .cap, .wit, .sec, .attn, .out] : List Fld) ⊆ ls) :
    Runs (Keeps ls sz) (arrive port p s) ↔ Keeps ls sz s := by
  simp only [List.cons_subset, List.nil_subset, and_true] at hl
  unfold arrive
  try simp only []
  repeat' (split)
  all_goals simp [hl]

theorem runs_execFabricPacketForward {ls : List Fld} {sz : State} (inPort : Nat) (p : Pkt) (s : State) (hl : ([.power, .clk, .rows, .boot, .mem, .fetch, .fab, .chavi, .mbx, .rings, .gw, .err, .cap, .wit, .sec, .attn, .out] : List Fld) ⊆ ls) :
    Runs (Keeps ls sz) (execFabricPacketForward inPort p s) ↔ Keeps ls sz s := by
  simp only [List.cons_subset, List.nil_subset, and_true] at hl
  unfold execFabricPacketForward
  simp [hl]

theorem runs_execFabricWrite {ls : List Fld} {sz : State} (port : Nat) (p : Pkt) (s : State) (hl : ([.power, .clk, .rows, .boot, .mem, .fetch, .fab, .chavi, .mbx, .rings, .gw, .err, .cap, .wit, .sec, .attn, .out] : List Fld) ⊆ ls) :
    Runs (Keeps ls sz) (execFabricWrite port p s) ↔ Keeps ls sz s := by
  simp only [List.cons_subset, List.nil_subset, and_true] at hl
  unfold execFabricWrite
  simp [hl]

theorem runs_execFabricReadReq {ls : List Fld} {sz : State} (port : Nat) (p : Pkt) (s : State) (hl : ([.power, .clk, .rows, .boot, .mem, .fetch, .fab, .chavi, .mbx, .rings, .gw, .err, .cap, .wit, .sec, .attn, .out] : List Fld) ⊆ ls) :
    Runs (Keeps ls sz) (execFabricReadReq port p s) ↔ Keeps ls sz s := by
  simp only [List.cons_subset, List.nil_subset, and_true] at hl
  unfold execFabricReadReq
  simp [hl]

theorem runs_execFabricReadRsp {ls : List Fld} {sz : State} (port : Nat) (p : Pkt) (s : State) (hl : ([.power, .clk, .rows, .boot, .mem, .fetch, .fab, .chavi, .mbx, .rings, .gw, .err, .cap, .wit, .sec, .attn, .out] : List Fld) ⊆ ls) :
    Runs (Keeps ls sz) (execFabricReadRsp port p s) ↔ Keeps ls sz s := by
  simp only [List.cons_subset, List.nil_subset, and_true] at hl
  unfold execFabricReadRsp
  simp [hl]

theorem runs_execFabricAck {ls : List Fld} {sz : State} (port : Nat) (p : Pkt) (s : State) (hl : ([.power, .clk, .rows, .boot, .mem, .fetch, .fab, .chavi, .mbx, .rings, .gw, .err, .cap, .wit, .sec, .attn, .out] : List Fld) ⊆ ls) :
    Runs (Keeps ls sz) (execFabricAck port p s) ↔ Keeps ls sz s := by
  simp only [List.cons_subset, List.nil_subset, and_true] at hl
  unfold execFabricAck
  simp [hl]

theorem runs_execFabricFetch {ls : List Fld} {sz : State} (port : Nat) (p : Pkt) (s : State) (hl : ([.power, .clk, .rows, .boot, .mem, .fetch, .fab, .chavi, .mbx, .rings, .gw, .err, .cap, .wit, .sec, .attn, .out] : List Fld) ⊆ ls) :
    Runs (Keeps ls sz) (execFabricFetch port p s) ↔ Keeps ls sz s := by
  simp only [List.cons_subset, List.nil_subset, and_true] at hl
  unfold execFabricFetch
  simp [hl]

theorem runs_execFabricMsg {ls : List Fld} {sz : State} (port : Nat) (p : Pkt) (s : State) (hl : ([.power, .clk, .rows, .boot, .mem, .fetch, .fab, .chavi, .mbx, .rings, .gw, .err, .cap, .wit, .sec, .attn, .out] : List Fld) ⊆ ls) :
    Runs (Keeps ls sz) (execFabricMsg port p s) ↔ Keeps ls sz s := by
  simp only [List.cons_subset, List.nil_subset, and_true] at hl
  unfold execFabricMsg
  simp [hl]

theorem runs_execFabricToken {ls : List Fld} {sz : State} (port : Nat) (p : Pkt) (s : State) (hl : ([.power, .clk, .rows, .boot, .mem, .fetch, .fab, .chavi, .mbx, .rings, .gw, .err, .cap, .wit, .sec, .attn, .out] : List Fld) ⊆ ls) :
    Runs (Keeps ls sz) (execFabricToken port p s) ↔ Keeps ls sz s := by
  simp only [List.cons_subset, List.nil_subset, and_true] at hl
  unfold execFabricToken
  simp [hl]

theorem runs_execFabricPoison {ls : List Fld} {sz : State} (port : Nat) (p : Pkt) (s : State) (hl : ([.power, .clk, .rows, .boot, .mem, .fetch, .fab, .chavi, .mbx, .rings, .gw, .err, .cap, .wit, .sec, .attn, .out] : List Fld) ⊆ ls) :
    Runs (Keeps ls sz) (execFabricPoison port p s) ↔ Keeps ls sz s := by
  simp only [List.cons_subset, List.nil_subset, and_true] at hl
  unfold execFabricPoison
  simp [hl]

theorem runs_execFabricWitrec {ls : List Fld} {sz : State} (port : Nat) (p : Pkt) (s : State) (hl : ([.power, .clk, .rows, .boot, .mem, .fetch, .fab, .chavi, .mbx, .rings, .gw, .err, .cap, .wit, .sec, .attn, .out] : List Fld) ⊆ ls) :
    Runs (Keeps ls sz) (execFabricWitrec port p s) ↔ Keeps ls sz s := by
  simp only [List.cons_subset, List.nil_subset, and_true] at hl
  unfold execFabricWitrec
  simp [hl]

theorem runs_execFabRequestTimeout {ls : List Fld} {sz : State} (b tag : Nat) (s : State) (hl : ([.clk, .rows, .mem, .fetch, .fab, .chavi, .mbx, .gw, .err, .cap, .sec, .attn, .out] : List Fld) ⊆ ls) :
    Runs (Keeps ls sz) (execFabRequestTimeout b tag s) ↔ Keeps ls sz s := by
  simp only [List.cons_subset, List.nil_subset, and_true] at hl
  unfold execFabRequestTimeout
  try simp only []
  repeat' (split)
  all_goals simp [hl]

theorem runs_execBindingSendStart {ls : List Fld} {sz : State} (n : Nat) (s : State) (hl : ([.rows, .fab] : List Fld) ⊆ ls) :
    Runs (Keeps ls sz) (execBindingSendStart n s) ↔ Keeps ls sz s := by
  simp only [List.cons_subset, List.nil_subset, and_true] at hl
  unfold execBindingSendStart
  try simp only []
  repeat' (split)
  all_goals simp [hl]

theorem runs_execBindingSendComplete {ls : List Fld} {sz : State} (n : Nat) (s : State) (hl : ([.rows, .mem, .fab, .chavi, .mbx, .gw, .err, .sec, .attn, .out] : List Fld) ⊆ ls) :
    Runs (Keeps ls sz) (execBindingSendComplete n s) ↔ Keeps ls sz s := by
  simp only [List.cons_subset, List.nil_subset, and_true] at hl
  unfold execBindingSendComplete
  try simp only []
  repeat' (split)
  all_goals simp [hl]

theorem runs_execFabricFrameReceive {ls : List Fld} {sz : State} (port : Nat) (ok : Bool) (csym : Nat) (seqs : List Nat) (s : State) (hl : ([.fab, .out] : List Fld) ⊆ ls) :
    Runs (Keeps ls sz) (execFabricFrameReceive port ok csym seqs s) ↔ Keeps ls sz s := by
  simp only [List.cons_subset, List.nil_subset, and_true] at hl
  unfold execFabricFrameReceive
  simp [hl]

theorem runs_execFabricControlFlit {ls : List Fld} {sz : State} (port ack : Nat) (nak : Bool) (creds : List Nat) (lcmd larg : Nat) (s : State) (hl : ([.dmap, .fab, .chavi, .mbx, .gw, .err, .sec, .attn, .out] : List Fld) ⊆ ls) :
    Runs (Keeps ls sz) (execFabricControlFlit port ack nak creds lcmd larg s) ↔ Keeps ls sz s := by
  simp only [List.cons_subset, List.nil_subset, and_true] at hl
  unfold execFabricControlFlit
  simp [hl]

theorem runs_execLaneSwap {ls : List Fld} {sz : State} (port lane : Nat) (received : Bool) (s : State) (hl : ([.fab, .out] : List Fld) ⊆ ls) :
    Runs (Keeps ls sz) (execLaneSwap port lane received s) ↔ Keeps ls sz s := by
  simp only [List.cons_subset, List.nil_subset, and_true] at hl
  unfold execLaneSwap
  simp [hl]

theorem runs_execLaneReturn {ls : List Fld} {sz : State} (port lane : Nat) (received : Bool) (s : State) (hl : ([.fab, .out] : List Fld) ⊆ ls) :
    Runs (Keeps ls sz) (execLaneReturn port lane received s) ↔ Keeps ls sz s := by
  simp only [List.cons_subset, List.nil_subset, and_true] at hl
  unfold execLaneReturn
  simp [hl]

theorem runs_execLaneSwapEffective {ls : List Fld} {sz : State} (port : Nat) (tx : Bool) (s : State) (hl : ([.dmap, .fab, .chavi, .mbx, .gw, .err, .sec, .attn, .out] : List Fld) ⊆ ls) :
    Runs (Keeps ls sz) (execLaneSwapEffective port tx s) ↔ Keeps ls sz s := by
  simp only [List.cons_subset, List.nil_subset, and_true] at hl
  unfold execLaneSwapEffective
  try simp only []
  repeat' (split)
  all_goals simp [hl]

theorem runs_execLaneBerWindowEnd {ls : List Fld} {sz : State} (port : Nat) (above : List Nat) (spareBad : Bool) (s : State) (hl : ([.dmap, .fab, .chavi, .mbx, .gw, .err, .sec, .attn, .out] : List Fld) ⊆ ls) :
    Runs (Keeps ls sz) (execLaneBerWindowEnd port above spareBad s) ↔ Keeps ls sz s := by
  simp only [List.cons_subset, List.nil_subset, and_true] at hl
  unfold execLaneBerWindowEnd
  try simp only []
  repeat' (split)
  all_goals simp [hl]

theorem runs_execFabStallExpiry {ls : List Fld} {sz : State} (port : Nat) (s : State) (hl : ([.fab, .chavi, .mbx, .gw, .err, .sec, .attn, .out] : List Fld) ⊆ ls) :
    Runs (Keeps ls sz) (execFabStallExpiry port s) ↔ Keeps ls sz s := by
  simp only [List.cons_subset, List.nil_subset, and_true] at hl
  unfold execFabStallExpiry
  try simp only []
  repeat' (split)
  all_goals simp [hl]

theorem runs_execInjectionStepEval {ls : List Fld} {sz : State} (s : State) (hl : ([.fab] : List Fld) ⊆ ls) :
    Runs (Keeps ls sz) (execInjectionStepEval s) ↔ Keeps ls sz s := by
  simp only [List.cons_subset, List.nil_subset, and_true] at hl
  unfold execInjectionStepEval
  simp [hl]

theorem runs_execRouteCommitTick {ls : List Fld} {sz : State} (s : State) (hl : ([.mem, .fab, .chavi, .mbx, .gw, .sec, .out] : List Fld) ⊆ ls) :
    Runs (Keeps ls sz) (execRouteCommitTick s) ↔ Keeps ls sz s := by
  simp only [List.cons_subset, List.nil_subset, and_true] at hl
  unfold execRouteCommitTick
  simp [hl]

theorem runs_execRouteVersionFree {ls : List Fld} {sz : State} (b : Nat) (s : State) (hl : ([.fab, .chavi, .mbx, .gw, .err, .sec, .attn, .out] : List Fld) ⊆ ls) :
    Runs (Keeps ls sz) (execRouteVersionFree b s) ↔ Keeps ls sz s := by
  simp only [List.cons_subset, List.nil_subset, and_true] at hl
  unfold execRouteVersionFree
  simp [hl]

theorem runs_execPortLinkLoss {ls : List Fld} {sz : State} (port : Nat) (s : State) (hl : ([.dmap, .fab, .chavi, .mbx, .gw, .err, .sec, .attn, .out] : List Fld) ⊆ ls) :
    Runs (Keeps ls sz) (execPortLinkLoss port s) ↔ Keeps ls sz s := by
  simp only [List.cons_subset, List.nil_subset, and_true] at hl
  unfold execPortLinkLoss
  simp [hl]

theorem runs_execPortRetrainStart {ls : List Fld} {sz : State} (port : Nat) (s : State) (hl : ([.fab] : List Fld) ⊆ ls) :
    Runs (Keeps ls sz) (execPortRetrainStart port s) ↔ Keeps ls sz s := by
  simp only [List.cons_subset, List.nil_subset, and_true] at hl
  unfold execPortRetrainStart
  simp [hl]

theorem runs_execPortQualificationEnd {ls : List Fld} {sz : State} (port : Nat) (lanes : BitVec 9) (partner : Bool) (s : State) (hl : ([.dmap, .mem, .fab, .chavi, .mbx, .gw, .err, .sec, .attn, .out] : List Fld) ⊆ ls) :
    Runs (Keeps ls sz) (execPortQualificationEnd port lanes partner s) ↔ Keeps ls sz s := by
  simp only [List.cons_subset, List.nil_subset, and_true] at hl
  unfold execPortQualificationEnd
  try simp only []
  repeat' (split)
  all_goals simp [hl]

theorem runs_execPoisonDeadline {ls : List Fld} {sz : State} (s : State) (hl : ([.rows, .mem, .fab, .chavi, .mbx, .gw, .err, .sec, .attn, .out] : List Fld) ⊆ ls) :
    Runs (Keeps ls sz) (execPoisonDeadline s) ↔ Keeps ls sz s := by
  simp only [List.cons_subset, List.nil_subset, and_true] at hl
  unfold execPoisonDeadline
  simp only []
  rw [runs_next, keeps_windowsSettle _ (by simp [hl]), keeps_each, keeps_each]
  · intro r t
    rw [keeps_each]
    · simp [hl]
    · intro x u; simp [hl]
  · intro b t
    rw [keeps_each]
    · simp [hl]
    · intro x u; simp [hl]

theorem runs_execHeldRpushResolve {ls : List Fld} {sz : State} (r c : Nat) (s : State) (hl : ([.rows, .mem, .fab, .chavi, .mbx, .rings, .gw, .err, .sec, .attn, .out] : List Fld) ⊆ ls) :
    Runs (Keeps ls sz) (execHeldRpushResolve r c s) ↔ Keeps ls sz s := by
  simp only [List.cons_subset, List.nil_subset, and_true] at hl
  unfold execHeldRpushResolve
  try simp only []
  repeat' (split)
  all_goals simp [hl]

theorem runs_execTargetedTestStart {ls : List Fld} {sz : State} (u : Nat) (s : State) (hl : ([.power, .rows, .dmap, .fab, .gw, .fresh] : List Fld) ⊆ ls) :
    Runs (Keeps ls sz) (execTargetedTestStart u s) ↔ Keeps ls sz s := by
  simp only [List.cons_subset, List.nil_subset, and_true] at hl
  unfold execTargetedTestStart
  try simp only []
  repeat' (split)
  all_goals simp [hl]

theorem runs_execTestNeedsTimeout {ls : List Fld} {sz : State} (u : Nat) (s : State) (hl : ([.power, .rows, .boot, .dmap, .mem, .fetch, .fab, .chavi, .mbx, .rings, .gw, .err, .wit, .sec, .attn, .out, .fresh] : List Fld) ⊆ ls) :
    Runs (Keeps ls sz) (execTestNeedsTimeout u s) ↔ Keeps ls sz s := by
  simp only [List.cons_subset, List.nil_subset, and_true] at hl
  unfold execTestNeedsTimeout
  try simp only []
  repeat' (split)
  all_goals simp [hl]

theorem runs_execTargetedTestRetry {ls : List Fld} {sz : State} (u : Nat) (s : State) (hl : ([.power, .rows, .dmap, .fab, .gw, .fresh] : List Fld) ⊆ ls) :
    Runs (Keeps ls sz) (execTargetedTestRetry u s) ↔ Keeps ls sz s := by
  simp only [List.cons_subset, List.nil_subset, and_true] at hl
  unfold execTargetedTestRetry
  try simp only []
  repeat' (split)
  all_goals simp [hl]

theorem runs_execTargetedTestEnd {ls : List Fld} {sz : State} (u : Nat) (pass : Bool) (rt : RowTest) (badBanks : List Nat) (s : State) (hl : ([.power, .rows, .boot, .dmap, .mem, .fetch, .fab, .chavi, .mbx, .rings, .gw, .err, .wit, .sec, .attn, .out, .fresh] : List Fld) ⊆ ls) :
    Runs (Keeps ls sz) (execTargetedTestEnd u pass rt badBanks s) ↔ Keeps ls sz s := by
  simp only [List.cons_subset, List.nil_subset, and_true] at hl
  unfold execTargetedTestEnd
  try simp only []
  repeat' (split)
  all_goals simp [hl]

theorem runs_execLaneQualificationEnd {ls : List Fld} {sz : State} (port : Nat) (pass : Bool) (s : State) (hl : ([.power, .rows, .boot, .dmap, .mem, .fetch, .fab, .chavi, .mbx, .rings, .gw, .err, .wit, .sec, .attn, .out, .fresh] : List Fld) ⊆ ls) :
    Runs (Keeps ls sz) (execLaneQualificationEnd port pass s) ↔ Keeps ls sz s := by
  simp only [List.cons_subset, List.nil_subset, and_true] at hl
  unfold execLaneQualificationEnd
  try simp only []
  repeat' (split)
  all_goals simp [hl]

theorem runs_execSlotRecovery {ls : List Fld} {sz : State} (ast : Bool) (r t : Nat) (s : State) (hl : ([.power, .rows, .mem, .fetch, .fab, .chavi, .mbx, .rings, .gw, .err, .wit, .sec, .attn, .out] : List Fld) ⊆ ls) :
    Runs (Keeps ls sz) (execSlotRecovery ast r t s) ↔ Keeps ls sz s := by
  simp only [List.cons_subset, List.nil_subset, and_true] at hl
  unfold execSlotRecovery
  try simp only []
  repeat' (split)
  all_goals simp [hl]

theorem runs_execFlashReadComplete {ls : List Fld} {sz : State} (b e step : Nat) (s : State) (hl : ([.fetch, .flash, .fab, .chavi, .mbx, .gw, .err, .sec, .attn, .out] : List Fld) ⊆ ls) :
    Runs (Keeps ls sz) (execFlashReadComplete b e step s) ↔ Keeps ls sz s := by
  simp only [List.cons_subset, List.nil_subset, and_true] at hl
  unfold execFlashReadComplete
  try simp only []
  repeat' (split)
  all_goals simp [hl]

theorem runs_execFlashBatchCommit {ls : List Fld} {sz : State} (t : Nat) (toL : List Nat) (s : State) (hl : ([.mem, .fetch, .flash, .fab, .chavi, .mbx, .gw, .sec, .out] : List Fld) ⊆ ls) :
    Runs (Keeps ls sz) (execFlashBatchCommit t toL s) ↔ Keeps ls sz s := by
  simp only [List.cons_subset, List.nil_subset, and_true] at hl
  unfold execFlashBatchCommit
  try simp only []
  repeat' (split)
  all_goals simp [hl]

theorem runs_execFlashProgramEraseComplete {ls : List Fld} {sz : State} (c k die fail spareLeft peAvg peMax wa : Nat) (lost : List (Nat × Nat)) (s : State) (hl : ([.dmap, .mem, .fetch, .flash, .fab, .chavi, .mbx, .gw, .err, .sec, .attn, .out] : List Fld) ⊆ ls) :
    Runs (Keeps ls sz) (execFlashProgramEraseComplete c k die fail spareLeft peAvg peMax wa lost s) ↔ Keeps ls sz s := by
  simp only [List.cons_subset, List.nil_subset, and_true] at hl
  unfold execFlashProgramEraseComplete
  simp [hl]

theorem runs_execFlashRelocationComplete {ls : List Fld} {sz : State} (t g c k die : Nat) (balanced : Bool) (s : State) (hl : ([.power, .dmap, .mem, .fetch, .flash, .fab, .chavi, .mbx, .gw, .err, .sec, .attn, .out] : List Fld) ⊆ ls) :
    Runs (Keeps ls sz) (execFlashRelocationComplete t g c k die balanced s) ↔ Keeps ls sz s := by
  simp only [List.cons_subset, List.nil_subset, and_true] at hl
  unfold execFlashRelocationComplete
  try simp only []
  repeat' (split)
  all_goals simp [hl]

theorem runs_execFlashRetentionExpiry {ls : List Fld} {sz : State} (c k : Nat) (gs : List (Nat × Nat)) (s : State) (hl : ([.flash] : List Fld) ⊆ ls) :
    Runs (Keeps ls sz) (execFlashRetentionExpiry c k gs s) ↔ Keeps ls sz s := by
  simp only [List.cons_subset, List.nil_subset, and_true] at hl
  unfold execFlashRetentionExpiry
  simp [hl]

theorem runs_execFlashInterfaceTraining {ls : List Fld} {sz : State} (c k : Nat) (ok : Bool) (s : State) (hl : ([.dmap, .mem, .fetch, .flash, .fab, .chavi, .mbx, .gw, .err, .sec, .attn, .out] : List Fld) ⊆ ls) :
    Runs (Keeps ls sz) (execFlashInterfaceTraining c k ok s) ↔ Keeps ls sz s := by
  simp only [List.cons_subset, List.nil_subset, and_true] at hl
  unfold execFlashInterfaceTraining
  simp [hl]

theorem runs_execFlashMapReloadComplete {ls : List Fld} {sz : State} (b t : Nat) (s : State) (hl : ([.mem, .flash] : List Fld) ⊆ ls) :
    Runs (Keeps ls sz) (execFlashMapReloadComplete b t s) ↔ Keeps ls sz s := by
  simp only [List.cons_subset, List.nil_subset, and_true] at hl
  unfold execFlashMapReloadComplete
  split
  · simp
  · simp only []
    rw [runs_next, keeps_modFlash _ (by simp [hl]), keeps_modMem _ (by simp [hl]), keeps_each]
    intro x t; simp [hl]

theorem runs_execCardTestComplete {ls : List Fld} {sz : State} (c hdr serial reason : Nat) (balanced : Bool) (s : State) (hl : ([.power, .dmap, .mem, .fetch, .flash, .fab, .chavi, .mbx, .gw, .err, .sec, .attn, .out] : List Fld) ⊆ ls) :
    Runs (Keeps ls sz) (execCardTestComplete c hdr serial reason balanced s) ↔ Keeps ls sz s := by
  simp only [List.cons_subset, List.nil_subset, and_true] at hl
  unfold execCardTestComplete
  simp [hl]

@[simp] theorem runs_gwCommand {ls : List Fld} {sz : State} (self : Instr) (h : CmdHdr) (op : Nat) (sec : Bool) (need o : Nat) (body : State → Done) (s : State)
    (hl : ([.mem, .fab, .chavi, .mbx, .gw, .sec, .out] : List Fld) ⊆ ls)
    (hb : ∀ t, Keeps ls sz t → (body t).Kept ls sz) (h0 : Keeps ls sz s) : Runs (Keeps ls sz) (gwCommand self h op sec need o body s) := by
  simp only [List.cons_subset, List.nil_subset, and_true] at hl
  unfold gwCommand
  simp only []
  split
  · simpa using h0
  split
  · simpa [hl] using h0
  have hs : Keeps ls sz (if s.boot.mbxMode then s.setChan h.chan { s.chan h.chan with full := false } else s) := by
    split
    · simpa [hl] using h0
    · exact h0
  split
  · have hk := hb _ hs
    split <;> rename_i heq <;> rw [heq] at hk <;> simp [hl] at hk ⊢
    · exact hk
    · exact (hk.1 _).2 (by simp [hl]; exact hk.2)
    · exact hk
    · exact hk
  · simpa [hl] using hs

theorem runs_execEndpointAssign {ls : List Fld} {sz : State} (h : CmdHdr) (ep : Nat) (s : State) (hl : ([.mem, .fab, .chavi, .mbx, .gw, .sec, .out] : List Fld) ⊆ ls)
    (h0 : Keeps ls sz s) : Runs (Keeps ls sz) (execEndpointAssign h ep s) := by
  simp only [List.cons_subset, List.nil_subset, and_true] at hl
  unfold execEndpointAssign
  refine runs_gwCommand _ _ _ _ _ _ _ _ (by simp [hl]) ?_ h0
  intro t ht
  try simp only []
  repeat' split
  all_goals simp [hl, ht]

theorem runs_execRouteStage {ls : List Fld} {sz : State} (h : CmdHdr) (b first count src : Nat) (s : State) (hl : ([.mem, .fab, .chavi, .mbx, .gw, .sec, .out] : List Fld) ⊆ ls)
    (h0 : Keeps ls sz s) : Runs (Keeps ls sz) (execRouteStage h b first count src s) := by
  simp only [List.cons_subset, List.nil_subset, and_true] at hl
  unfold execRouteStage
  refine runs_gwCommand _ _ _ _ _ _ _ _ (by simp [hl]) ?_ h0
  intro t ht
  try simp only []
  repeat' split
  all_goals simp [hl, ht]

theorem runs_execRouteCommit {ls : List Fld} {sz : State} (h : CmdHdr) (tick drain : Nat) (s : State) (hl : ([.mem, .fab, .chavi, .mbx, .gw, .sec, .out] : List Fld) ⊆ ls)
    (h0 : Keeps ls sz s) : Runs (Keeps ls sz) (execRouteCommit h tick drain s) := by
  simp only [List.cons_subset, List.nil_subset, and_true] at hl
  unfold execRouteCommit
  refine runs_gwCommand _ _ _ _ _ _ _ _ (by simp [hl]) ?_ h0
  intro t ht
  try simp only []
  repeat' split
  all_goals simp [hl, ht]

@[simp] theorem kept_winChange {ls : List Fld} {sz : State} (n : Nat) (w : Window) (s : State) (hl : ([.fab] : List Fld) ⊆ ls) :
    (winChange n w s).Kept ls sz ↔ Keeps ls sz s := by
  simp only [List.cons_subset, List.nil_subset, and_true] at hl
  unfold winChange
  simp [hl]

theorem runs_execMapWindow {ls : List Fld} {sz : State} (h : CmdHdr) (win perm home base len : Nat) (srcf : List (Nat × Nat)) (s : State) (hl : ([.mem, .fab, .chavi, .mbx, .gw, .sec, .out] : List Fld) ⊆ ls)
    (h0 : Keeps ls sz s) : Runs (Keeps ls sz) (execMapWindow h win perm home base len srcf s) := by
  simp only [List.cons_subset, List.nil_subset, and_true] at hl
  unfold execMapWindow
  refine runs_gwCommand _ _ _ _ _ _ _ _ (by simp [hl]) ?_ h0
  intro t ht
  try simp only []
  repeat' split
  all_goals simp [hl, ht]

theorem runs_execUnmapWindow {ls : List Fld} {sz : State} (h : CmdHdr) (win : Nat) (s : State) (hl : ([.mem, .fab, .chavi, .mbx, .gw, .sec, .out] : List Fld) ⊆ ls)
    (h0 : Keeps ls sz s) : Runs (Keeps ls sz) (execUnmapWindow h win s) := by
  simp only [List.cons_subset, List.nil_subset, and_true] at hl
  unfold execUnmapWindow
  refine runs_gwCommand _ _ _ _ _ _ _ _ (by simp [hl]) ?_ h0
  intro t ht
  try simp only []
  repeat' split
  all_goals simp [hl, ht]

@[simp] theorem kept_bindChange {ls : List Fld} {sz : State} (n : Nat) (o : Option Binding) (s : State) (hl : ([.rows, .fab] : List Fld) ⊆ ls) :
    (bindChange n o s).Kept ls sz ↔ Keeps ls sz s := by
  simp only [List.cons_subset, List.nil_subset, and_true] at hl
  unfold bindChange
  simp [hl]

theorem runs_execBinding {ls : List Fld} {sz : State} (h : CmdHdr) (bind op r b comp fmt flow dline dlen sline slen dst win wepoch doff soff v k stride notify ndst nword : Nat) (s : State) (hl : ([.rows, .mem, .fab, .chavi, .mbx, .gw, .sec, .out] : List Fld) ⊆ ls)
    (h0 : Keeps ls sz s) : Runs (Keeps ls sz) (execBinding h bind op r b comp fmt flow dline dlen sline slen dst win wepoch doff soff v k stride notify ndst nword s) := by
  simp only [List.cons_subset, List.nil_subset, and_true] at hl
  unfold execBinding
  refine runs_gwCommand _ _ _ _ _ _ _ _ (by simp [hl]) ?_ h0
  intro t ht
  try simp only []
  repeat' split
  all_goals simp [hl, ht]

theorem runs_execFabricPolicy {ls : List Fld} {sz : State} (h : CmdHdr) (b q1 q2 q3 q4 : Nat) (s : State) (hl : ([.mem, .fab, .chavi, .mbx, .gw, .sec, .out] : List Fld) ⊆ ls)
    (h0 : Keeps ls sz s) : Runs (Keeps ls sz) (execFabricPolicy h b q1 q2 q3 q4 s) := by
  simp only [List.cons_subset, List.nil_subset, and_true] at hl
  unfold execFabricPolicy
  refine runs_gwCommand _ _ _ _ _ _ _ _ (by simp [hl]) ?_ h0
  intro t ht
  try simp only []
  repeat' split
  all_goals simp [hl, ht]

theorem runs_execDeviceInfo {ls : List Fld} {sz : State} (h : CmdHdr) (s : State) (hl : ([.mem, .fab, .chavi, .mbx, .gw, .sec, .out] : List Fld) ⊆ ls)
    (h0 : Keeps ls sz s) : Runs (Keeps ls sz) (execDeviceInfo h s) := by
  simp only [List.cons_subset, List.nil_subset, and_true] at hl
  unfold execDeviceInfo
  refine runs_gwCommand _ _ _ _ _ _ _ _ (by simp [hl]) ?_ h0
  intro t ht
  try simp only []
  repeat' split
  all_goals simp [hl, ht]

theorem runs_execDefectMap {ls : List Fld} {sz : State} (h : CmdHdr) (s : State) (hl : ([.mem, .fab, .chavi, .mbx, .gw, .sec, .out] : List Fld) ⊆ ls)
    (h0 : Keeps ls sz s) : Runs (Keeps ls sz) (execDefectMap h s) := by
  simp only [List.cons_subset, List.nil_subset, and_true] at hl
  unfold execDefectMap
  refine runs_gwCommand _ _ _ _ _ _ _ _ (by simp [hl]) ?_ h0
  intro t ht
  try simp only []
  repeat' split
  all_goals simp [hl, ht]

theorem runs_execBootLog {ls : List Fld} {sz : State} (h : CmdHdr) (half : Nat) (s : State) (hl : ([.mem, .fab, .chavi, .mbx, .gw, .sec, .attn, .out] : List Fld) ⊆ ls)
    (h0 : Keeps ls sz s) : Runs (Keeps ls sz) (execBootLog h half s) := by
  simp only [List.cons_subset, List.nil_subset, and_true] at hl
  unfold execBootLog
  refine runs_gwCommand _ _ _ _ _ _ _ _ (by simp [hl]) ?_ h0
  intro t ht
  try simp only []
  repeat' split
  all_goals simp [hl, ht]

theorem runs_execPowerStatus {ls : List Fld} {sz : State} (h : CmdHdr) (s : State) (hl : ([.mem, .fab, .chavi, .mbx, .gw, .sec, .out] : List Fld) ⊆ ls)
    (h0 : Keeps ls sz s) : Runs (Keeps ls sz) (execPowerStatus h s) := by
  simp only [List.cons_subset, List.nil_subset, and_true] at hl
  unfold execPowerStatus
  refine runs_gwCommand _ _ _ _ _ _ _ _ (by simp [hl]) ?_ h0
  intro t ht
  try simp only []
  repeat' split
  all_goals simp [hl, ht]

theorem runs_execClockStatus {ls : List Fld} {sz : State} (h : CmdHdr) (s : State) (hl : ([.clk, .mem, .fab, .chavi, .mbx, .gw, .sec, .out] : List Fld) ⊆ ls)
    (h0 : Keeps ls sz s) : Runs (Keeps ls sz) (execClockStatus h s) := by
  simp only [List.cons_subset, List.nil_subset, and_true] at hl
  unfold execClockStatus
  refine runs_gwCommand _ _ _ _ _ _ _ _ (by simp [hl]) ?_ h0
  intro t ht
  try simp only []
  repeat' split
  all_goals simp [hl, ht]

theorem runs_execFabricStatus {ls : List Fld} {sz : State} (h : CmdHdr) (b : Nat) (s : State) (hl : ([.mem, .fab, .chavi, .mbx, .gw, .sec, .out] : List Fld) ⊆ ls)
    (h0 : Keeps ls sz s) : Runs (Keeps ls sz) (execFabricStatus h b s) := by
  simp only [List.cons_subset, List.nil_subset, and_true] at hl
  unfold execFabricStatus
  refine runs_gwCommand _ _ _ _ _ _ _ _ (by simp [hl]) ?_ h0
  intro t ht
  try simp only []
  repeat' split
  all_goals simp [hl, ht]

theorem runs_execFlashHealth {ls : List Fld} {sz : State} (h : CmdHdr) (s : State) (hl : ([.mem, .flash, .fab, .chavi, .mbx, .gw, .sec, .out, .fresh] : List Fld) ⊆ ls)
    (h0 : Keeps ls sz s) : Runs (Keeps ls sz) (execFlashHealth h s) := by
  simp only [List.cons_subset, List.nil_subset, and_true] at hl
  unfold execFlashHealth
  refine runs_gwCommand _ _ _ _ _ _ _ _ (by simp [hl]) ?_ h0
  intro t ht
  try simp only []
  repeat' split
  all_goals simp [hl, ht]

theorem runs_execErrorLogRead {ls : List Fld} {sz : State} (h : CmdHdr) (start max : Nat) (s : State) (hl : ([.mem, .fab, .chavi, .mbx, .gw, .sec, .attn, .out] : List Fld) ⊆ ls)
    (h0 : Keeps ls sz s) : Runs (Keeps ls sz) (execErrorLogRead h start max s) := by
  simp only [List.cons_subset, List.nil_subset, and_true] at hl
  unfold execErrorLogRead
  refine runs_gwCommand _ _ _ _ _ _ _ _ (by simp [hl]) ?_ h0
  intro t ht
  try simp only []
  repeat' split
  all_goals simp [hl, ht]

theorem runs_execChannelConfigure {ls : List Fld} {sz : State} (h : CmdHdr) (ch rcv flags smatch rdest rchan : Nat) (s : State) (hl : ([.mem, .fab, .chavi, .mbx, .gw, .sec, .out] : List Fld) ⊆ ls)
    (h0 : Keeps ls sz s) : Runs (Keeps ls sz) (execChannelConfigure h ch rcv flags smatch rdest rchan s) := by
  simp only [List.cons_subset, List.nil_subset, and_true] at hl
  unfold execChannelConfigure
  refine runs_gwCommand _ _ _ _ _ _ _ _ (by simp [hl]) ?_ h0
  intro t ht
  try simp only []
  repeat' split
  all_goals simp [hl, ht]

theorem runs_execRingCreate {ls : List Fld} {sz : State} (h : CmdHdr) (ring owner slots log2 cqtarget cqchan notify dbchavi rq cq : Nat) (dbsrc : List (Nat × Nat)) (tmo : Nat) (s : State) (hl : ([.mem, .fab, .chavi, .mbx, .rings, .gw, .sec, .out] : List Fld) ⊆ ls)
    (h0 : Keeps ls sz s) : Runs (Keeps ls sz) (execRingCreate h ring owner slots log2 cqtarget cqchan notify dbchavi rq cq dbsrc tmo s) := by
  simp only [List.cons_subset, List.nil_subset, and_true] at hl
  unfold execRingCreate
  refine runs_gwCommand _ _ _ _ _ _ _ _ (by simp [hl]) ?_ h0
  intro t ht
  try simp only []
  repeat' split
  all_goals simp [hl, ht]

theorem runs_execRingDestroy {ls : List Fld} {sz : State} (h : CmdHdr) (ring : Nat) (s : State) (hl : ([.mem, .fab, .chavi, .mbx, .rings, .gw, .sec, .out] : List Fld) ⊆ ls)
    (h0 : Keeps ls sz s) : Runs (Keeps ls sz) (execRingDestroy h ring s) := by
  simp only [List.cons_subset, List.nil_subset, and_true] at hl
  unfold execRingDestroy
  refine runs_gwCommand _ _ _ _ _ _ _ _ (by simp [hl]) ?_ h0
  intro t ht
  try simp only []
  repeat' split
  all_goals simp [hl, ht]

theorem runs_execRingModify {ls : List Fld} {sz : State} (h : CmdHdr) (ring slots notify dbchavi : Nat) (dbsrc : List (Nat × Nat)) (tmo : Nat) (s : State) (hl : ([.mem, .fab, .chavi, .mbx, .rings, .gw, .sec, .out] : List Fld) ⊆ ls)
    (h0 : Keeps ls sz s) : Runs (Keeps ls sz) (execRingModify h ring slots notify dbchavi dbsrc tmo s) := by
  simp only [List.cons_subset, List.nil_subset, and_true] at hl
  unfold execRingModify
  refine runs_gwCommand _ _ _ _ _ _ _ _ (by simp [hl]) ?_ h0
  intro t ht
  try simp only []
  repeat' split
  all_goals simp [hl, ht]

@[simp] theorem kept_witOpenGo {ls : List Fld} {sz : State} (w pred flags n thr base len : Nat) (s : State) (hl : ([.mem, .fab, .chavi, .mbx, .rings, .gw, .err, .wit, .sec, .attn, .out] : List Fld) ⊆ ls) :
    (witOpenGo w pred flags n thr base len s).Kept ls sz ↔ Keeps ls sz s := by
  simp only [List.cons_subset, List.nil_subset, and_true] at hl
  unfold witOpenGo
  try simp only []
  repeat' (split)
  all_goals simp [hl]

theorem runs_execWitnessRing {ls : List Fld} {sz : State} (h : CmdHdr) (w pred flags n thr base len : Nat) (s : State) (hl : ([.mem, .fab, .chavi, .mbx, .rings, .gw, .err, .wit, .sec, .attn, .out] : List Fld) ⊆ ls)
    (h0 : Keeps ls sz s) : Runs (Keeps ls sz) (execWitnessRing h w pred flags n thr base len s) := by
  simp only [List.cons_subset, List.nil_subset, and_true] at hl
  unfold execWitnessRing
  refine runs_gwCommand _ _ _ _ _ _ _ _ (by simp [hl]) ?_ h0
  intro t ht
  try simp only []
  repeat' split
  all_goals simp [hl, ht]

theorem runs_execWitnessSeal {ls : List Fld} {sz : State} (h : CmdHdr) (w : Nat) (s : State) (hl : ([.mem, .fab, .chavi, .mbx, .gw, .wit, .sec, .out] : List Fld) ⊆ ls)
    (h0 : Keeps ls sz s) : Runs (Keeps ls sz) (execWitnessSeal h w s) := by
  simp only [List.cons_subset, List.nil_subset, and_true] at hl
  unfold execWitnessSeal
  refine runs_gwCommand _ _ _ _ _ _ _ _ (by simp [hl]) ?_ h0
  intro t ht
  try simp only []
  repeat' split
  all_goals simp [hl, ht]

theorem runs_execAttestQuote {ls : List Fld} {sz : State} (h : CmdHdr) (nonce : List Byte) (s : State) (hl : ([.mem, .fab, .chavi, .mbx, .gw, .sec, .out] : List Fld) ⊆ ls)
    (h0 : Keeps ls sz s) : Runs (Keeps ls sz) (execAttestQuote h nonce s) := by
  simp only [List.cons_subset, List.nil_subset, and_true] at hl
  unfold execAttestQuote
  refine runs_gwCommand _ _ _ _ _ _ _ _ (by simp [hl]) ?_ h0
  intro t ht
  try simp only []
  repeat' split
  all_goals simp [hl, ht]

theorem runs_execDebugUnlock {ls : List Fld} {sz : State} (h : CmdHdr) (token sig : List Byte) (s : State) (hl : ([.mem, .fab, .chavi, .mbx, .gw, .sec, .out] : List Fld) ⊆ ls)
    (h0 : Keeps ls sz s) : Runs (Keeps ls sz) (execDebugUnlock h token sig s) := by
  simp only [List.cons_subset, List.nil_subset, and_true] at hl
  unfold execDebugUnlock
  refine runs_gwCommand _ _ _ _ _ _ _ _ (by simp [hl]) ?_ h0
  intro t ht
  try simp only []
  repeat' split
  all_goals simp [hl, ht]

theorem runs_execKeyRevoke {ls : List Fld} {sz : State} (h : CmdHdr) (record sig : List Byte) (s : State) (hl : ([.fuse, .mem, .fab, .chavi, .mbx, .gw, .sec, .out] : List Fld) ⊆ ls)
    (h0 : Keeps ls sz s) : Runs (Keeps ls sz) (execKeyRevoke h record sig s) := by
  simp only [List.cons_subset, List.nil_subset, and_true] at hl
  unfold execKeyRevoke
  refine runs_gwCommand _ _ _ _ _ _ _ _ (by simp [hl]) ?_ h0
  intro t ht
  try simp only []
  repeat' split
  all_goals simp [hl, ht]

theorem runs_execReplyRetry {ls : List Fld} {sz : State} (i : Nat) (s : State) (hl : ([.fab, .chavi, .mbx, .gw, .err, .sec, .attn, .out] : List Fld) ⊆ ls) :
    Runs (Keeps ls sz) (execReplyRetry i s) ↔ Keeps ls sz s := by
  simp only [List.cons_subset, List.nil_subset, and_true] at hl
  unfold execReplyRetry
  try simp only []
  repeat' split
  all_goals (try (rename_i heq; replace heq := (congrArg Prod.snd heq).symm; dsimp only at heq; subst heq))
  all_goals simp [hl]

theorem runs_execMemClaim {ls : List Fld} {sz : State} (h : CmdHdr) (base len : Nat) (s : State) (hl : ([.mem, .fab, .chavi, .mbx, .gw, .sec, .out] : List Fld) ⊆ ls)
    (h0 : Keeps ls sz s) : Runs (Keeps ls sz) (execMemClaim h base len s) := by
  simp only [List.cons_subset, List.nil_subset, and_true] at hl
  unfold execMemClaim
  refine runs_gwCommand _ _ _ _ _ _ _ _ (by simp [hl]) ?_ h0
  intro t ht
  try simp only []
  repeat' split
  all_goals simp [hl, ht]

theorem runs_execMemRelease {ls : List Fld} {sz : State} (h : CmdHdr) (base len : Nat) (s : State) (hl : ([.mem, .fab, .chavi, .mbx, .gw, .sec, .out] : List Fld) ⊆ ls)
    (h0 : Keeps ls sz s) : Runs (Keeps ls sz) (execMemRelease h base len s) := by
  simp only [List.cons_subset, List.nil_subset, and_true] at hl
  unfold execMemRelease
  refine runs_gwCommand _ _ _ _ _ _ _ _ (by simp [hl]) ?_ h0
  intro t ht
  try simp only []
  repeat' split
  all_goals simp [hl, ht]

theorem runs_execPageFree {ls : List Fld} {sz : State} (h : CmdHdr) (base len : Nat) (s : State) (hl : ([.mem, .fab, .chavi, .mbx, .gw, .sec, .out] : List Fld) ⊆ ls)
    (h0 : Keeps ls sz s) : Runs (Keeps ls sz) (execPageFree h base len s) := by
  simp only [List.cons_subset, List.nil_subset, and_true] at hl
  unfold execPageFree
  refine runs_gwCommand _ _ _ _ _ _ _ _ (by simp [hl]) ?_ h0
  intro t ht
  simp only []
  split
  · simpa using ht
  split
  · simpa using ht
  split
  · simpa using ht
  · split <;> rename_i heq
    · simp only [doneKept_now]; exact (keeps_freeAll _ _ _ (by simp [hl]) heq).2 ht
    · simpa using ht

theorem runs_execTableCreate {ls : List Fld} {sz : State} (h : CmdHdr) (table bridge home type hash seed nrows dim fmt fill part rowBase keyBase partBase bsize mapBase mapInit : Nat) (s : State) (hl : ([.mem, .fetch, .fab, .chavi, .mbx, .gw, .sec, .out] : List Fld) ⊆ ls)
    (h0 : Keeps ls sz s) : Runs (Keeps ls sz) (execTableCreate h table bridge home type hash seed nrows dim fmt fill part rowBase keyBase partBase bsize mapBase mapInit s) := by
  simp only [List.cons_subset, List.nil_subset, and_true] at hl
  unfold execTableCreate
  refine runs_gwCommand _ _ _ _ _ _ _ _ (by simp [hl]) ?_ h0
  intro t ht
  simp only []
  have hx : ∀ (c : Prop) (_ : Decidable c) (a b : Done), a.Kept ls sz → b.Kept ls sz → (if c then a else b).Kept ls sz := by
    intro c _ a b ha hb; split <;> assumption
  have hn : ∀ c i d, (Done.now c i d t).Kept ls sz := fun _ _ _ => ht
  refine hx _ _ _ _ (hn _ _ _) (hx _ _ _ _ (hn _ _ _) (hx _ _ _ _ (hn _ _ _) (hx _ _ _ _ (hn _ _ _) (hx _ _ _ _ (hn _ _ _) (hx _ _ _ _ (hn _ _ _)
    (hx _ _ _ _ (hn _ _ _) (hx _ _ _ _ (hn _ _ _) (hx _ _ _ _ (hn _ _ _) ?_))))))))
  split
  · exact hn _ _ _
  · simp only [doneKept_now]; exact (keeps_tablePlace _ _ _ _ (by simp [hl])).2 ht

@[simp] theorem kept_batchGo {ls : List Fld} {sz : State} (n : Nat) (t : Table) (es : List (Nat × Nat × List Byte)) (s : State) (hl : ([.mem, .fetch, .flash] : List Fld) ⊆ ls) :
    (batchGo n t es s).Kept ls sz ↔ Keeps ls sz s := by
  simp only [List.cons_subset, List.nil_subset, and_true] at hl
  unfold batchGo
  simp [hl]

theorem runs_execTableUpdate {ls : List Fld} {sz : State} (h : CmdHdr) (table count src : Nat) (s : State) (hl : ([.mem, .fetch, .flash, .fab, .chavi, .mbx, .gw, .sec, .out] : List Fld) ⊆ ls)
    (h0 : Keeps ls sz s) : Runs (Keeps ls sz) (execTableUpdate h table count src s) := by
  simp only [List.cons_subset, List.nil_subset, and_true] at hl
  unfold execTableUpdate
  refine runs_gwCommand _ _ _ _ _ _ _ _ (by simp [hl]) ?_ h0
  intro t ht
  try simp only []
  repeat' split
  all_goals simp [hl, ht]

theorem runs_execTableDestroy {ls : List Fld} {sz : State} (h : CmdHdr) (table : Nat) (s : State) (hl : ([.mem, .fetch, .flash, .fab, .chavi, .mbx, .gw, .sec, .out] : List Fld) ⊆ ls)
    (h0 : Keeps ls sz s) : Runs (Keeps ls sz) (execTableDestroy h table s) := by
  simp only [List.cons_subset, List.nil_subset, and_true] at hl
  unfold execTableDestroy
  refine runs_gwCommand _ _ _ _ _ _ _ _ (by simp [hl]) ?_ h0
  intro t ht
  try simp only []
  repeat' split
  all_goals simp [hl, ht]

theorem runs_execChannelDrain {ls : List Fld} {sz : State} (h : CmdHdr) (d rate : Nat) (s : State) (hl : ([.dmap, .mem, .fab, .chavi, .mbx, .gw, .sec, .out] : List Fld) ⊆ ls)
    (h0 : Keeps ls sz s) : Runs (Keeps ls sz) (execChannelDrain h d rate s) := by
  simp only [List.cons_subset, List.nil_subset, and_true] at hl
  unfold execChannelDrain
  refine runs_gwCommand _ _ _ _ _ _ _ _ (by simp [hl]) ?_ h0
  intro t ht
  try simp only []
  repeat' split
  all_goals simp [hl, ht]

theorem runs_execChannelReturn {ls : List Fld} {sz : State} (h : CmdHdr) (d rate : Nat) (present : Bool) (s : State) (hl : ([.power, .mem, .fab, .chavi, .mbx, .gw, .sec, .out] : List Fld) ⊆ ls)
    (h0 : Keeps ls sz s) : Runs (Keeps ls sz) (execChannelReturn h d rate present s) := by
  simp only [List.cons_subset, List.nil_subset, and_true] at hl
  unfold execChannelReturn
  refine runs_gwCommand _ _ _ _ _ _ _ _ (by simp [hl]) ?_ h0
  intro t ht
  try simp only []
  repeat' split
  all_goals simp [hl, ht]

theorem runs_execLocate {ls : List Fld} {sz : State} (h : CmdHdr) (kind index on : Nat) (s : State) (hl : ([.power, .mem, .fab, .chavi, .mbx, .gw, .sec, .out] : List Fld) ⊆ ls)
    (h0 : Keeps ls sz s) : Runs (Keeps ls sz) (execLocate h kind index on s) := by
  simp only [List.cons_subset, List.nil_subset, and_true] at hl
  unfold execLocate
  refine runs_gwCommand _ _ _ _ _ _ _ _ (by simp [hl]) ?_ h0
  intro t ht
  try simp only []
  repeat' split
  all_goals simp [hl, ht]

theorem runs_execFlashPolicy {ls : List Fld} {sz : State} (h : CmdHdr) (b rate : Nat) (s : State) (hl : ([.mem, .flash, .fab, .chavi, .mbx, .gw, .sec, .out] : List Fld) ⊆ ls)
    (h0 : Keeps ls sz s) : Runs (Keeps ls sz) (execFlashPolicy h b rate s) := by
  simp only [List.cons_subset, List.nil_subset, and_true] at hl
  unfold execFlashPolicy
  refine runs_gwCommand _ _ _ _ _ _ _ _ (by simp [hl]) ?_ h0
  intro t ht
  try simp only []
  repeat' split
  all_goals simp [hl, ht]

theorem runs_execCardDrain {ls : List Fld} {sz : State} (h : CmdHdr) (c : Nat) (s : State) (hl : ([.power, .dmap, .mem, .flash, .fab, .chavi, .mbx, .gw, .err, .sec, .attn, .out] : List Fld) ⊆ ls)
    (h0 : Keeps ls sz s) : Runs (Keeps ls sz) (execCardDrain h c s) := by
  simp only [List.cons_subset, List.nil_subset, and_true] at hl
  unfold execCardDrain
  refine runs_gwCommand _ _ _ _ _ _ _ _ (by simp [hl]) ?_ h0
  intro t ht
  try simp only []
  repeat' split
  all_goals simp [hl, ht]

theorem runs_execCardReturn {ls : List Fld} {sz : State} (h : CmdHdr) (c flags : Nat) (present : Bool) (s : State) (hl : ([.power, .mem, .flash, .fab, .chavi, .mbx, .gw, .sec, .out] : List Fld) ⊆ ls)
    (h0 : Keeps ls sz s) : Runs (Keeps ls sz) (execCardReturn h c flags present s) := by
  simp only [List.cons_subset, List.nil_subset, and_true] at hl
  unfold execCardReturn
  refine runs_gwCommand _ _ _ _ _ _ _ _ (by simp [hl]) ?_ h0
  intro t ht
  try simp only []
  repeat' split
  all_goals simp [hl, ht]

theorem runs_execProgramLoad {ls : List Fld} {sz : State} (h : CmdHdr) (r prog flags region units src len : Nat) (s : State) (hl : ([.power, .rows, .mem, .fab, .chavi, .mbx, .gw, .sec, .out] : List Fld) ⊆ ls)
    (h0 : Keeps ls sz s) : Runs (Keeps ls sz) (execProgramLoad h r prog flags region units src len s) := by
  simp only [List.cons_subset, List.nil_subset, and_true] at hl
  unfold execProgramLoad
  refine runs_gwCommand _ _ _ _ _ _ _ _ (by simp [hl]) ?_ h0
  intro t ht
  try simp only []
  repeat' split
  all_goals simp [hl, ht]

theorem runs_execProgramUnload {ls : List Fld} {sz : State} (h : CmdHdr) (r prog : Nat) (s : State) (hl : ([.power, .rows, .mem, .fab, .chavi, .mbx, .rings, .gw, .err, .sec, .attn, .out] : List Fld) ⊆ ls)
    (h0 : Keeps ls sz s) : Runs (Keeps ls sz) (execProgramUnload h r prog s) := by
  simp only [List.cons_subset, List.nil_subset, and_true] at hl
  unfold execProgramUnload
  refine runs_gwCommand _ _ _ _ _ _ _ _ (by simp [hl]) ?_ h0
  intro t ht
  try simp only []
  repeat' split
  all_goals simp [hl, ht]

theorem runs_execSelfTest {ls : List Fld} {sz : State} (h : CmdHdr) (u : Nat) (s : State) (hl : ([.mem, .fab, .chavi, .mbx, .gw, .sec, .out] : List Fld) ⊆ ls)
    (h0 : Keeps ls sz s) : Runs (Keeps ls sz) (execSelfTest h u s) := by
  simp only [List.cons_subset, List.nil_subset, and_true] at hl
  unfold execSelfTest
  refine runs_gwCommand _ _ _ _ _ _ _ _ (by simp [hl]) ?_ h0
  intro t ht
  try simp only []
  repeat' split
  all_goals simp [hl, ht]

theorem runs_execRowPowerPolicy {ls : List Fld} {sz : State} (h : CmdHdr) (r tNap tSleep tBank : Nat) (s : State) (hl : ([.rows, .mem, .fab, .chavi, .mbx, .gw, .sec, .out] : List Fld) ⊆ ls)
    (h0 : Keeps ls sz s) : Runs (Keeps ls sz) (execRowPowerPolicy h r tNap tSleep tBank s) := by
  simp only [List.cons_subset, List.nil_subset, and_true] at hl
  unfold execRowPowerPolicy
  refine runs_gwCommand _ _ _ _ _ _ _ _ (by simp [hl]) ?_ h0
  intro t ht
  try simp only []
  repeat' split
  all_goals simp [hl, ht]

@[simp] theorem kept_rowPowerGo {ls : List Fld} {sz : State} (r st : Nat) (s : State) (hl : ([.power, .rows, .mem, .fab, .chavi, .mbx, .gw, .sec, .out] : List Fld) ⊆ ls) :
    (rowPowerGo r st s).Kept ls sz ↔ Keeps ls sz s := by
  simp only [List.cons_subset, List.nil_subset, and_true] at hl
  unfold rowPowerGo
  try simp only []
  repeat' (split)
  all_goals simp [hl]

theorem runs_execRowPower {ls : List Fld} {sz : State} (h : CmdHdr) (r st : Nat) (s : State) (hl : ([.power, .rows, .mem, .fab, .chavi, .mbx, .gw, .sec, .out] : List Fld) ⊆ ls)
    (h0 : Keeps ls sz s) : Runs (Keeps ls sz) (execRowPower h r st s) := by
  simp only [List.cons_subset, List.nil_subset, and_true] at hl
  unfold execRowPower
  refine runs_gwCommand _ _ _ _ _ _ _ _ (by simp [hl]) ?_ h0
  intro t ht
  try simp only []
  repeat' split
  all_goals simp [hl, ht]

theorem runs_execRowRearm {ls : List Fld} {sz : State} (h : CmdHdr) (r : Nat) (s : State) (hl : ([.power, .rows, .mem, .fab, .chavi, .mbx, .gw, .sec, .out] : List Fld) ⊆ ls)
    (h0 : Keeps ls sz s) : Runs (Keeps ls sz) (execRowRearm h r s) := by
  simp only [List.cons_subset, List.nil_subset, and_true] at hl
  unfold execRowRearm
  refine runs_gwCommand _ _ _ _ _ _ _ _ (by simp [hl]) ?_ h0
  intro t ht
  try simp only []
  repeat' split
  all_goals simp [hl, ht]

@[simp] theorem kept_bankOff {ls : List Fld} {sz : State} (r b : Nat) (s : State) (hl : ([.rows] : List Fld) ⊆ ls) :
    (bankOff r b s).Kept ls sz ↔ Keeps ls sz s := by
  simp only [List.cons_subset, List.nil_subset, and_true] at hl
  unfold bankOff
  try simp only []
  repeat' (split)
  all_goals simp [hl]

@[simp] theorem kept_bankOn {ls : List Fld} {sz : State} (r b : Nat) (s : State) (hl : ([.rows] : List Fld) ⊆ ls) :
    (bankOn r b s).Kept ls sz ↔ Keeps ls sz s := by
  simp only [List.cons_subset, List.nil_subset, and_true] at hl
  unfold bankOn
  try simp only []
  repeat' (split)
  all_goals simp [hl]

theorem runs_execBankPower {ls : List Fld} {sz : State} (h : CmdHdr) (r b st : Nat) (s : State) (hl : ([.power, .rows, .mem, .fab, .chavi, .mbx, .gw, .sec, .out] : List Fld) ⊆ ls)
    (h0 : Keeps ls sz s) : Runs (Keeps ls sz) (execBankPower h r b st s) := by
  simp only [List.cons_subset, List.nil_subset, and_true] at hl
  unfold execBankPower
  refine runs_gwCommand _ _ _ _ _ _ _ _ (by simp [hl]) ?_ h0
  intro t ht
  try simp only []
  repeat' split
  all_goals simp [hl, ht]

theorem runs_execPowerCap {ls : List Fld} {sz : State} (h : CmdHdr) (module package halfN halfS : Nat) (s : State) (hl : ([.power, .mem, .fab, .chavi, .mbx, .gw, .cap, .sec, .out] : List Fld) ⊆ ls)
    (h0 : Keeps ls sz s) : Runs (Keeps ls sz) (execPowerCap h module package halfN halfS s) := by
  simp only [List.cons_subset, List.nil_subset, and_true] at hl
  unfold execPowerCap
  refine runs_gwCommand _ _ _ _ _ _ _ _ (by simp [hl]) ?_ h0
  intro t ht
  try simp only []
  repeat' split
  all_goals simp [hl, ht]

theorem runs_execStepLimit {ls : List Fld} {sz : State} (h : CmdHdr) (min max : Nat) (s : State) (hl : ([.mem, .fab, .chavi, .mbx, .gw, .cap, .sec, .out] : List Fld) ⊆ ls)
    (h0 : Keeps ls sz s) : Runs (Keeps ls sz) (execStepLimit h min max s) := by
  simp only [List.cons_subset, List.nil_subset, and_true] at hl
  unfold execStepLimit
  refine runs_gwCommand _ _ _ _ _ _ _ _ (by simp [hl]) ?_ h0
  intro t ht
  try simp only []
  repeat' split
  all_goals simp [hl, ht]

theorem runs_execEnergyReport {ls : List Fld} {sz : State} (h : CmdHdr) (job start : Nat) (s : State) (hl : ([.mem, .fab, .chavi, .mbx, .gw, .sec, .out, .fresh] : List Fld) ⊆ ls)
    (h0 : Keeps ls sz s) : Runs (Keeps ls sz) (execEnergyReport h job start s) := by
  simp only [List.cons_subset, List.nil_subset, and_true] at hl
  unfold execEnergyReport
  refine runs_gwCommand _ _ _ _ _ _ _ _ (by simp [hl]) ?_ h0
  intro t ht
  try simp only []
  repeat' split
  all_goals simp [hl, ht]

@[simp] theorem kept_groupJoin {ls : List Fld} {sz : State} (group budget : Nat) (s : State) (hl : ([.cap] : List Fld) ⊆ ls) :
    (groupJoin group budget s).Kept ls sz ↔ Keeps ls sz s := by
  simp only [List.cons_subset, List.nil_subset, and_true] at hl
  unfold groupJoin
  simp [hl]

@[simp] theorem kept_groupLeave {ls : List Fld} {sz : State} (group budget : Nat) (s : State) (hl : ([.cap] : List Fld) ⊆ ls) :
    (groupLeave group budget s).Kept ls sz ↔ Keeps ls sz s := by
  simp only [List.cons_subset, List.nil_subset, and_true] at hl
  unfold groupLeave
  simp [hl]

@[simp] theorem kept_groupReconcile {ls : List Fld} {sz : State} (group budget : Nat) (s : State) (hl : ([.cap] : List Fld) ⊆ ls) :
    (groupReconcile group budget s).Kept ls sz ↔ Keeps ls sz s := by
  simp only [List.cons_subset, List.nil_subset, and_true] at hl
  unfold groupReconcile
  simp [hl]

theorem runs_execPowerGroup {ls : List Fld} {sz : State} (h : CmdHdr) (op group budget : Nat) (s : State) (hl : ([.mem, .fab, .chavi, .mbx, .gw, .cap, .sec, .out] : List Fld) ⊆ ls)
    (h0 : Keeps ls sz s) : Runs (Keeps ls sz) (execPowerGroup h op group budget s) := by
  simp only [List.cons_subset, List.nil_subset, and_true] at hl
  unfold execPowerGroup
  refine runs_gwCommand _ _ _ _ _ _ _ _ (by simp [hl]) ?_ h0
  intro t ht
  try simp only []
  repeat' split
  all_goals simp [hl, ht]

theorem runs_execWatchdog {ls : List Fld} {sz : State} (h : CmdHdr) (r slot period : Nat) (s : State) (hl : ([.power, .rows, .mem, .fab, .chavi, .mbx, .gw, .sec, .out] : List Fld) ⊆ ls)
    (h0 : Keeps ls sz s) : Runs (Keeps ls sz) (execWatchdog h r slot period s) := by
  simp only [List.cons_subset, List.nil_subset, and_true] at hl
  unfold execWatchdog
  refine runs_gwCommand _ _ _ _ _ _ _ _ (by simp [hl]) ?_ h0
  intro t ht
  try simp only []
  repeat' split
  all_goals simp [hl, ht]

theorem runs_execTimeoutSet {ls : List Fld} {sz : State} (h : CmdHdr) (level job value : Nat) (s : State) (hl : ([.mem, .fab, .chavi, .mbx, .gw, .sec, .out] : List Fld) ⊆ ls)
    (h0 : Keeps ls sz s) : Runs (Keeps ls sz) (execTimeoutSet h level job value s) := by
  simp only [List.cons_subset, List.nil_subset, and_true] at hl
  unfold execTimeoutSet
  refine runs_gwCommand _ _ _ _ _ _ _ _ (by simp [hl]) ?_ h0
  intro t ht
  try simp only []
  repeat' split
  all_goals simp [hl, ht]

theorem runs_execRecalibrate {ls : List Fld} {sz : State} (h : CmdHdr) (r what : Nat) (s : State) (hl : ([.clk, .mem, .fab, .chavi, .mbx, .gw, .sec, .out] : List Fld) ⊆ ls)
    (h0 : Keeps ls sz s) : Runs (Keeps ls sz) (execRecalibrate h r what s) := by
  simp only [List.cons_subset, List.nil_subset, and_true] at hl
  unfold execRecalibrate
  refine runs_gwCommand _ _ _ _ _ _ _ _ (by simp [hl]) ?_ h0
  intro t ht
  try simp only []
  repeat' split
  all_goals simp [hl, ht]

theorem runs_execDefectClear {ls : List Fld} {sz : State} (h : CmdHdr) (u : Nat) (s : State) (hl : ([.boot, .mem, .fab, .chavi, .mbx, .gw, .sec, .out] : List Fld) ⊆ ls)
    (h0 : Keeps ls sz s) : Runs (Keeps ls sz) (execDefectClear h u s) := by
  simp only [List.cons_subset, List.nil_subset, and_true] at hl
  unfold execDefectClear
  refine runs_gwCommand _ _ _ _ _ _ _ _ (by simp [hl]) ?_ h0
  intro t ht
  try simp only []
  repeat' split
  all_goals simp [hl, ht]

theorem runs_execRestart {ls : List Fld} {sz : State} (h : CmdHdr) (kind : Nat) (s : State) (hl : ([.boot, .mem, .fab, .chavi, .mbx, .gw, .wit, .sec, .out] : List Fld) ⊆ ls)
    (h0 : Keeps ls sz s) : Runs (Keeps ls sz) (execRestart h kind s) := by
  simp only [List.cons_subset, List.nil_subset, and_true] at hl
  unfold execRestart
  refine runs_gwCommand _ _ _ _ _ _ _ _ (by simp [hl]) ?_ h0
  intro t ht
  try simp only []
  repeat' split
  all_goals simp [hl, ht]

theorem runs_execHandoff {ls : List Fld} {sz : State} (h : CmdHdr) (image : Nat) (s : State) (hl : ([.mem, .fab, .chavi, .mbx, .gw, .sec, .out] : List Fld) ⊆ ls)
    (h0 : Keeps ls sz s) : Runs (Keeps ls sz) (execHandoff h image s) := by
  simp only [List.cons_subset, List.nil_subset, and_true] at hl
  unfold execHandoff
  refine runs_gwCommand _ _ _ _ _ _ _ _ (by simp [hl]) ?_ h0
  intro t ht
  try simp only []
  repeat' split
  all_goals simp [hl, ht]

theorem runs_execHandoffImageVerified {ls : List Fld} {sz : State} (s : State) (hl : ([.boot, .mem, .fab, .chavi, .mbx, .gw, .sec, .out] : List Fld) ⊆ ls) :
    Runs (Keeps ls sz) (execHandoffImageVerified s) ↔ Keeps ls sz s := by
  simp only [List.cons_subset, List.nil_subset, and_true] at hl
  unfold execHandoffImageVerified
  try simp only []
  repeat' (split)
  all_goals simp [hl]

@[simp] theorem kept_recoverPos {ls : List Fld} {sz : State} (u : Nat) (copyBad : Bool) (s : State) (hl : ([.power, .rows, .gw] : List Fld) ⊆ ls) :
    (recoverPos u copyBad s).Kept ls sz ↔ Keeps ls sz s := by
  simp only [List.cons_subset, List.nil_subset, and_true] at hl
  unfold recoverPos
  try simp only []
  repeat' (split)
  all_goals simp [hl]

@[simp] theorem kept_recoverRow {ls : List Fld} {sz : State} (r : Nat) (s : State) (hl : ([.power, .rows, .mem, .fetch, .fab, .chavi, .mbx, .rings, .gw, .err, .wit, .sec, .attn, .out] : List Fld) ⊆ ls) :
    (recoverRow r s).Kept ls sz ↔ Keeps ls sz s := by
  simp only [List.cons_subset, List.nil_subset, and_true] at hl
  unfold recoverRow
  simp [hl]

@[simp] theorem kept_recoverPort {ls : List Fld} {sz : State} (p : Nat) (s : State) (hl : ([.fab] : List Fld) ⊆ ls) :
    (recoverPort p s).Kept ls sz ↔ Keeps ls sz s := by
  simp only [List.cons_subset, List.nil_subset, and_true] at hl
  unfold recoverPort
  simp [hl]

@[simp] theorem kept_recoverLane {ls : List Fld} {sz : State} (i : Nat) (s : State) (hl : ([.fab] : List Fld) ⊆ ls) :
    (recoverLane i s).Kept ls sz ↔ Keeps ls sz s := by
  simp only [List.cons_subset, List.nil_subset, and_true] at hl
  unfold recoverLane
  simp [hl]

@[simp] theorem kept_recoverBridge {ls : List Fld} {sz : State} (b : Nat) (s : State) (hl : ([.rows, .dmap, .mem, .fetch, .flash, .fab, .chavi, .mbx, .rings, .gw, .err, .sec, .attn, .out] : List Fld) ⊆ ls) :
    (recoverBridge b s).Kept ls sz ↔ Keeps ls sz s := by
  simp only [List.cons_subset, List.nil_subset, and_true] at hl
  unfold recoverBridge
  simp [hl]

theorem runs_execUnitRecover {ls : List Fld} {sz : State} (h : CmdHdr) (u : Nat) (copyBad : Bool) (s : State) (hl : ([.power, .rows, .dmap, .mem, .fetch, .flash, .fab, .chavi, .mbx, .rings, .gw, .err, .wit, .sec, .attn, .out] : List Fld) ⊆ ls)
    (h0 : Keeps ls sz s) : Runs (Keeps ls sz) (execUnitRecover h u copyBad s) := by
  simp only [List.cons_subset, List.nil_subset, and_true] at hl
  unfold execUnitRecover
  refine runs_gwCommand _ _ _ _ _ _ _ _ (by simp [hl]) ?_ h0
  intro t ht
  try simp only []
  repeat' split
  all_goals simp [hl, ht]

theorem runs_execInputTrip {ls : List Fld} {sz : State} (cause vin iin : Nat) (s : State) (hl : ([.power, .clk, .rows, .eeprom, .boot, .mem, .fetch, .flash, .fab, .chavi, .mbx, .rings, .gw, .err, .cap, .therm, .wit, .sec, .attn, .out] : List Fld) ⊆ ls)
     :
    Runs (Keeps ls sz) (execInputTrip cause vin iin s) ↔ Keeps ls sz s := by
  simp only [List.cons_subset, List.nil_subset, and_true] at hl
  unfold execInputTrip
  simp only []
  split
  · simp [hl]
  · rw [runs_next, keeps_over (l := [.power, .eeprom, .boot, .attn]) (railsDown (errRecord { code := .inputTrip, unit := uDom 0, op := 0x10, platform := true, detail := cause } s)) _ (by simp [hl])]
    · simp [hl]
    · intro f hf; cases f <;> first | rfl | simp at hf

theorem runs_execInputRangeExcursion {ls : List Fld} {sz : State} (vin : Nat) (s : State) (hl : ([.fab, .chavi, .mbx, .gw, .err, .sec, .attn, .out] : List Fld) ⊆ ls) :
    Runs (Keeps ls sz) (execInputRangeExcursion vin s) ↔ Keeps ls sz s := by
  simp only [List.cons_subset, List.nil_subset, and_true] at hl
  unfold execInputRangeExcursion
  simp [hl]

theorem runs_execHoldUpEnd {ls : List Fld} {sz : State} (s : State) (hl : ([.power, .clk, .rows, .eeprom, .boot, .dmap, .mem, .fetch, .flash, .fab, .chavi, .mbx, .rings, .gw, .err, .cap, .therm, .wit, .sec, .attn] : List Fld) ⊆ ls)
     :
    Runs (Keeps ls sz) (execHoldUpEnd s) ↔ Keeps ls sz s := by
  simp only [List.cons_subset, List.nil_subset, and_true] at hl
  unfold execHoldUpEnd
  simp only []
  repeat' split
  · rw [runs_next, keeps_over (l := [.power, .attn]) (vspineDown s) _ (by simp [hl])]
    · simp [hl]
    · intro f hf; cases f <;> first | rfl | simp at hf
  all_goals simp [hl]

theorem runs_execPlatformEventRecordWrite {ls : List Fld} {sz : State} (arbLost : Bool) (s : State) (hl : ([.eeprom] : List Fld) ⊆ ls) :
    Runs (Keeps ls sz) (execPlatformEventRecordWrite arbLost s) ↔ Keeps ls sz s := by
  simp only [List.cons_subset, List.nil_subset, and_true] at hl
  unfold execPlatformEventRecordWrite
  try simp only []
  repeat' (split)
  all_goals simp [hl]

theorem runs_execEepromArbitrationRetry {ls : List Fld} {sz : State} (lost : Bool) (s : State) (hl : ([.eeprom] : List Fld) ⊆ ls) :
    Runs (Keeps ls sz) (execEepromArbitrationRetry lost s) ↔ Keeps ls sz s := by
  simp only [List.cons_subset, List.nil_subset, and_true] at hl
  unfold execEepromArbitrationRetry
  try simp only []
  repeat' (split)
  all_goals simp [hl]

theorem runs_execInputSwitchClose {ls : List Fld} {sz : State} (s : State) (hl : ([.power] : List Fld) ⊆ ls) :
    Runs (Keeps ls sz) (execInputSwitchClose s) ↔ Keeps ls sz s := by
  simp only [List.cons_subset, List.nil_subset, and_true] at hl
  unfold execInputSwitchClose
  simp [hl]

theorem runs_execSoftStartComplete {ls : List Fld} {sz : State} (s : State) (hl : ([.power, .clk] : List Fld) ⊆ ls) :
    Runs (Keeps ls sz) (execSoftStartComplete s) ↔ Keeps ls sz s := by
  simp only [List.cons_subset, List.nil_subset, and_true] at hl
  unfold execSoftStartComplete
  simp [hl]

theorem runs_execMrstNAssert {ls : List Fld} {sz : State} (ns : Nat) (s : State) (hl : ([.power, .clk, .rows, .eeprom, .boot, .mem, .fetch, .flash, .fab, .chavi, .mbx, .rings, .gw, .cap, .therm, .wit, .sec, .attn, .fresh] : List Fld) ⊆ ls)
     :
    Runs (Keeps ls sz) (execMrstNAssert ns s) ↔ Keeps ls sz s := by
  simp only [List.cons_subset, List.nil_subset, and_true] at hl
  unfold execMrstNAssert
  simp only []
  generalize hu : (if 500 ≤ ns ∧ ns < 1000 then s.draw.2 else s) = u
  have he : Keeps ls sz u ↔ Keeps ls sz s := by rw [← hu]; split <;> simp [hl]
  split
  · simp [hl]
  · split
    · rw [runs_next, keeps_over (l := [.power, .attn]) (railsDown u) _ (by simp [hl])]
      · simp [hl, he]
      · intro f hf; cases f <;> first | rfl | simp at hf
    · simp [he]

theorem runs_execMrstNRelease {ls : List Fld} {sz : State} (s : State) (hl : ([.power, .attn] : List Fld) ⊆ ls) :
    Runs (Keeps ls sz) (execMrstNRelease s) ↔ Keeps ls sz s := by
  simp only [List.cons_subset, List.nil_subset, and_true] at hl
  unfold execMrstNRelease
  simp [hl]

theorem runs_execColdBringUpStart {ls : List Fld} {sz : State} (s : State) (hl : ([.power, .clk, .boot] : List Fld) ⊆ ls) :
    Runs (Keeps ls sz) (execColdBringUpStart s) ↔ Keeps ls sz s := by
  simp only [List.cons_subset, List.nil_subset, and_true] at hl
  unfold execColdBringUpStart
  try simp only []
  repeat' (split)
  all_goals simp [hl]

theorem runs_execSwitchSoftStartDone {ls : List Fld} {sz : State} (i : Nat) (spdOk trainOk : Bool) (s : State) (hl : ([.power, .dmap, .mem, .fetch, .flash, .fab, .chavi, .mbx, .gw, .err, .sec, .attn, .out] : List Fld) ⊆ ls) :
    Runs (Keeps ls sz) (execSwitchSoftStartDone i spdOk trainOk s) ↔ Keeps ls sz s := by
  simp only [List.cons_subset, List.nil_subset, and_true] at hl
  unfold execSwitchSoftStartDone
  simp [hl]

theorem runs_execSwitchSoftStartTimeout {ls : List Fld} {sz : State} (i : Nat) (s : State) (hl : ([.power, .dmap, .mem, .fetch, .flash, .fab, .chavi, .mbx, .gw, .err, .sec, .attn, .out] : List Fld) ⊆ ls) :
    Runs (Keeps ls sz) (execSwitchSoftStartTimeout i s) ↔ Keeps ls sz s := by
  simp only [List.cons_subset, List.nil_subset, and_true] at hl
  unfold execSwitchSoftStartTimeout
  simp [hl]

theorem runs_execSwitchCurrentLimitLatch {ls : List Fld} {sz : State} (i : Nat) (s : State) (hl : ([.power, .dmap, .mem, .fetch, .flash, .fab, .chavi, .mbx, .gw, .err, .sec, .attn, .out] : List Fld) ⊆ ls) :
    Runs (Keeps ls sz) (execSwitchCurrentLimitLatch i s) ↔ Keeps ls sz s := by
  simp only [List.cons_subset, List.nil_subset, and_true] at hl
  unfold execSwitchCurrentLimitLatch
  simp [hl]

theorem runs_execDimmRemovedWhileOn {ls : List Fld} {sz : State} (d : Nat) (s : State) (hl : ([.power, .dmap, .mem, .flash, .fab, .chavi, .mbx, .gw, .err, .sec, .attn, .out] : List Fld) ⊆ ls) :
    Runs (Keeps ls sz) (execDimmRemovedWhileOn d s) ↔ Keeps ls sz s := by
  simp only [List.cons_subset, List.nil_subset, and_true] at hl
  unfold execDimmRemovedWhileOn
  simp [hl]

theorem runs_execBayLatchOpen {ls : List Fld} {sz : State} (c : Nat) (s : State) (hl : ([.power, .mem, .fetch, .flash, .fab, .chavi, .mbx, .gw, .err, .sec, .attn, .out] : List Fld) ⊆ ls) :
    Runs (Keeps ls sz) (execBayLatchOpen c s) ↔ Keeps ls sz s := by
  simp only [List.cons_subset, List.nil_subset, and_true] at hl
  unfold execBayLatchOpen
  simp [hl]

theorem runs_execBaySwitchDelayedOpen {ls : List Fld} {sz : State} (c : Nat) (s : State) (hl : ([.power, .dmap, .mem, .fetch, .flash, .fab, .chavi, .mbx, .gw, .err, .sec, .attn, .out] : List Fld) ⊆ ls) :
    Runs (Keeps ls sz) (execBaySwitchDelayedOpen c s) ↔ Keeps ls sz s := by
  simp only [List.cons_subset, List.nil_subset, and_true] at hl
  unfold execBaySwitchDelayedOpen
  try simp only []
  repeat' (split)
  all_goals simp [hl]

theorem runs_execPresentNChange {ls : List Fld} {sz : State} (p : Nat) (high : Bool) (s : State) (hl : ([.power, .dmap, .fab, .chavi, .mbx, .gw, .err, .sec, .attn, .out] : List Fld) ⊆ ls) :
    Runs (Keeps ls sz) (execPresentNChange p high s) ↔ Keeps ls sz s := by
  simp only [List.cons_subset, List.nil_subset, and_true] at hl
  unfold execPresentNChange
  simp [hl]

theorem runs_execMgmtPortLinkChange {ls : List Fld} {sz : State} (up fullDuplex1000 : Bool) (s : State) (hl : ([.power] : List Fld) ⊆ ls) :
    Runs (Keeps ls sz) (execMgmtPortLinkChange up fullDuplex1000 s) ↔ Keeps ls sz s := by
  simp only [List.cons_subset, List.nil_subset, and_true] at hl
  unfold execMgmtPortLinkChange
  simp [hl]

theorem runs_execJ3Send {ls : List Fld} {sz : State} (mac ch : Nat) (msg : List Byte) (s : State) (hl : ([.fab, .chavi, .mbx, .sec, .out] : List Fld) ⊆ ls) :
    Runs (Keeps ls sz) (execJ3Send mac ch msg s) ↔ Keeps ls sz s := by
  simp only [List.cons_subset, List.nil_subset, and_true] at hl
  unfold execJ3Send
  simp [hl]

theorem runs_execJ3Done {ls : List Fld} {sz : State} (mac ch mseq code : Nat) (s : State) (hl : ([.mbx, .out] : List Fld) ⊆ ls) :
    Runs (Keeps ls sz) (execJ3Done mac ch mseq code s) ↔ Keeps ls sz s := by
  simp only [List.cons_subset, List.nil_subset, and_true] at hl
  unfold execJ3Done
  simp [hl]

theorem runs_execMemoryAccess {ls : List Fld} {sz : State} (a n : Nat) (wr : Bool) (data : List Byte) (corr : Bool) (bad : Option Nat) (s : State) (hl : ([.mem, .fab, .chavi, .mbx, .gw, .err, .sec, .attn, .out] : List Fld) ⊆ ls) :
    Runs (Keeps ls sz) (execMemoryAccess a n wr data corr bad s) ↔ Keeps ls sz s := by
  simp only [List.cons_subset, List.nil_subset, and_true] at hl
  unfold execMemoryAccess
  try simp only []
  repeat' (split)
  all_goals simp [hl]

theorem runs_execPageRemapComplete {ls : List Fld} {sz : State} (k : Nat) (s : State) (hl : ([.dmap, .mem, .flash, .fab, .chavi, .mbx, .rings, .gw, .err, .sec, .attn, .out] : List Fld) ⊆ ls) :
    Runs (Keeps ls sz) (execPageRemapComplete k s) ↔ Keeps ls sz s := by
  simp only [List.cons_subset, List.nil_subset, and_true] at hl
  unfold execPageRemapComplete
  simp [hl]

theorem runs_execDdrScrubCountRead {ls : List Fld} {sz : State} (d count : Nat) (errs : List Nat) (s : State) (hl : ([.mem, .fab, .chavi, .mbx, .gw, .err, .sec, .attn, .out] : List Fld) ⊆ ls) :
    Runs (Keeps ls sz) (execDdrScrubCountRead d count errs s) ↔ Keeps ls sz s := by
  simp only [List.cons_subset, List.nil_subset, and_true] at hl
  unfold execDdrScrubCountRead
  simp [hl]

theorem runs_execMigrationPageCopyComplete {ls : List Fld} {sz : State} (d : Nat) (s : State) (hl : ([.power, .dmap, .mem, .fab, .chavi, .mbx, .gw, .err, .sec, .attn, .out] : List Fld) ⊆ ls) :
    Runs (Keeps ls sz) (execMigrationPageCopyComplete d s) ↔ Keeps ls sz s := by
  simp only [List.cons_subset, List.nil_subset, and_true] at hl
  unfold execMigrationPageCopyComplete
  try simp only []
  repeat' (split)
  all_goals simp [hl]

theorem runs_execChannelTestComplete {ls : List Fld} {sz : State} (d reason : Nat) (pages : List Nat) (s : State) (hl : ([.power, .dmap, .mem, .flash, .fab, .chavi, .mbx, .gw, .err, .sec, .attn, .out] : List Fld) ⊆ ls) :
    Runs (Keeps ls sz) (execChannelTestComplete d reason pages s) ↔ Keeps ls sz s := by
  simp only [List.cons_subset, List.nil_subset, and_true] at hl
  unfold execChannelTestComplete
  simp only []
  have he : ∀ (ps : List Nat) (u : Nat) (t : State), Keeps ls sz (each ps (fun p s => match freeSpare s u with
      | some q => s.modMem (fun m => { m with remap := mset m.remap (65536 * u + p) { st := .mapped, unit := u, phys := q } })
      | none => s) t) ↔ Keeps ls sz t := by
    intro ps u t
    rw [keeps_each]
    intro p v; split <;> simp [hl]
  split
  · simp
  split
  · simp [hl]
  split
  · rw [runs_next, keeps_returned _ _ (by simp [hl])]; refine (he _ _ _).trans ?_; simp [hl]
  · rw [runs_next, keeps_mapUnits _ _ (by simp [hl]), keeps_State_modMemUnit _ _ _ (by simp [hl])]; refine (he _ _ _).trans ?_; simp [hl]

theorem runs_execMgmtWatchdogRestart {ls : List Fld} {sz : State} (s : State) (hl : ([.gw] : List Fld) ⊆ ls) :
    Runs (Keeps ls sz) (execMgmtWatchdogRestart s) ↔ Keeps ls sz s := by
  simp only [List.cons_subset, List.nil_subset, and_true] at hl
  unfold execMgmtWatchdogRestart
  simp [hl]

theorem runs_execMgmtWatchdogExpiry {ls : List Fld} {sz : State} (dup : Bool) (s : State) (hl : ([.boot, .fab, .chavi, .mbx, .gw, .err, .sec, .attn, .out] : List Fld) ⊆ ls) :
    Runs (Keeps ls sz) (execMgmtWatchdogExpiry dup s) ↔ Keeps ls sz s := by
  simp only [List.cons_subset, List.nil_subset, and_true] at hl
  unfold execMgmtWatchdogExpiry
  try simp only []
  repeat' (split)
  all_goals simp [hl]

theorem runs_execMcHalt {ls : List Fld} {sz : State} (dup : Bool) (s : State) (hl : ([.boot, .fab, .chavi, .mbx, .gw, .err, .sec, .attn, .out] : List Fld) ⊆ ls) :
    Runs (Keeps ls sz) (execMcHalt dup s) ↔ Keeps ls sz s := by
  simp only [List.cons_subset, List.nil_subset, and_true] at hl
  unfold execMcHalt
  try simp only []
  repeat' (split)
  all_goals simp [hl]

theorem runs_execFailoverResume {ls : List Fld} {sz : State} (s : State) (hl : ([.fab, .chavi, .mbx, .gw, .sec, .out] : List Fld) ⊆ ls) :
    Runs (Keeps ls sz) (execFailoverResume s) ↔ Keeps ls sz s := by
  simp only [List.cons_subset, List.nil_subset, and_true] at hl
  unfold execFailoverResume
  try simp only []
  repeat' (split)
  all_goals simp [hl]

theorem runs_execPhaseLoss {ls : List Fld} {sz : State} (r p : Nat) (s : State) (hl : ([.power, .rows, .dmap, .mem, .fab, .chavi, .mbx, .rings, .gw, .err, .sec, .attn, .out] : List Fld) ⊆ ls) :
    Runs (Keeps ls sz) (execPhaseLoss r p s) ↔ Keeps ls sz s := by
  simp only [List.cons_subset, List.nil_subset, and_true] at hl
  unfold execPhaseLoss
  simp [hl]

theorem runs_execRowShort {ls : List Fld} {sz : State} (r : Nat) (s : State) (hl : ([.power, .rows, .dmap, .mem, .fab, .chavi, .mbx, .rings, .gw, .err, .sec, .attn, .out] : List Fld) ⊆ ls) :
    Runs (Keeps ls sz) (execRowShort r s) ↔ Keeps ls sz s := by
  simp only [List.cons_subset, List.nil_subset, and_true] at hl
  unfold execRowShort
  simp [hl]

theorem runs_execRowRetryBegin {ls : List Fld} {sz : State} (r : Nat) (s : State) (hl : ([.power, .rows] : List Fld) ⊆ ls) :
    Runs (Keeps ls sz) (execRowRetryBegin r s) ↔ Keeps ls sz s := by
  simp only [List.cons_subset, List.nil_subset, and_true] at hl
  unfold execRowRetryBegin
  try simp only []
  repeat' (split)
  all_goals simp [hl]

theorem runs_execRowRetrySuccess {ls : List Fld} {sz : State} (r : Nat) (s : State) (hl : ([.power, .rows, .dmap, .mem, .fab, .chavi, .mbx, .gw, .sec, .out] : List Fld) ⊆ ls) :
    Runs (Keeps ls sz) (execRowRetrySuccess r s) ↔ Keeps ls sz s := by
  simp only [List.cons_subset, List.nil_subset, and_true] at hl
  unfold execRowRetrySuccess
  try simp only []
  repeat' (split)
  all_goals simp [hl]

theorem runs_execStagingStart {ls : List Fld} {sz : State} (h iHalf : Nat) (s : State) (hl : ([.power] : List Fld) ⊆ ls) :
    Runs (Keeps ls sz) (execStagingStart h iHalf s) ↔ Keeps ls sz s := by
  simp only [List.cons_subset, List.nil_subset, and_true] at hl
  unfold execStagingStart
  simp [hl]

theorem runs_execStagingHalfRateStart {ls : List Fld} {sz : State} (h iHalf : Nat) (s : State) (hl : ([.power] : List Fld) ⊆ ls) :
    Runs (Keeps ls sz) (execStagingHalfRateStart h iHalf s) ↔ Keeps ls sz s := by
  simp only [List.cons_subset, List.nil_subset, and_true] at hl
  unfold execStagingHalfRateStart
  simp [hl]

theorem runs_execHeaderStageClose {ls : List Fld} {sz : State} (h : Nat) (s : State) (hl : ([.power, .rows, .mem, .fab, .chavi, .mbx, .gw, .sec, .out] : List Fld) ⊆ ls) :
    Runs (Keeps ls sz) (execHeaderStageClose h s) ↔ Keeps ls sz s := by
  simp only [List.cons_subset, List.nil_subset, and_true] at hl
  unfold execHeaderStageClose
  try simp only []
  repeat' (split)
  all_goals simp [hl]

theorem runs_execRowUsable {ls : List Fld} {sz : State} (r : Nat) (s : State) (hl : ([.power, .rows, .mem, .fab, .chavi, .mbx, .gw, .sec, .out] : List Fld) ⊆ ls) :
    Runs (Keeps ls sz) (execRowUsable r s) ↔ Keeps ls sz s := by
  simp only [List.cons_subset, List.nil_subset, and_true] at hl
  unfold execRowUsable
  try simp only []
  repeat' (split)
  all_goals simp [hl]

theorem runs_execPowerWindowEnd {ls : List Fld} {sz : State} (w : PowerWindow) (s : State) (hl : ([.power, .clk, .fab, .chavi, .mbx, .gw, .err, .cap, .therm, .sec, .attn, .out] : List Fld) ⊆ ls) :
    Runs (Keeps ls sz) (execPowerWindowEnd w s) ↔ Keeps ls sz s := by
  simp only [List.cons_subset, List.nil_subset, and_true] at hl
  unfold execPowerWindowEnd
  simp [hl]

theorem runs_execSharedRailLost {ls : List Fld} {sz : State} (x : SharedRail) (s : State) (hl : ([.power, .rows, .dmap, .mem, .fetch, .flash, .fab, .chavi, .mbx, .rings, .gw, .err, .sec, .attn, .out] : List Fld) ⊆ ls) :
    Runs (Keeps ls sz) (execSharedRailLost x s) ↔ Keeps ls sz s := by
  simp only [List.cons_subset, List.nil_subset, and_true] at hl
  unfold execSharedRailLost
  simp [hl]

theorem runs_execSharedRailRetry {ls : List Fld} {sz : State} (x : SharedRail) (ok : Bool) (s : State) (hl : ([.power, .rows, .fab, .chavi, .mbx, .gw, .err, .sec, .attn, .out] : List Fld) ⊆ ls) :
    Runs (Keeps ls sz) (execSharedRailRetry x ok s) ↔ Keeps ls sz s := by
  simp only [List.cons_subset, List.nil_subset, and_true] at hl
  unfold execSharedRailRetry
  try simp only []
  repeat' (split)
  all_goals simp [hl]

theorem runs_execVspineLost {ls : List Fld} {sz : State} (s : State) (hl : ([.power, .clk, .rows, .eeprom, .boot, .dmap, .mem, .fetch, .flash, .fab, .chavi, .mbx, .rings, .gw, .err, .cap, .therm, .wit, .sec, .attn] : List Fld) ⊆ ls)
     :
    Runs (Keeps ls sz) (execVspineLost s) ↔ Keeps ls sz s := by
  simp only [List.cons_subset, List.nil_subset, and_true] at hl
  unfold execVspineLost
  simp only []
  split
  · split <;>
    (rw [runs_next, keeps_over (l := [.power, .clk, .boot, .dmap, .err, .attn]) (railsDown s) _ (by simp [hl])]
     · simp [hl]
     · intro f hf; cases f <;> first | rfl | simp at hf)
  · simp [hl]

theorem runs_execRefLoss {ls : List Fld} {sz : State} (s : State) (hl : ([.clk, .fab, .chavi, .mbx, .gw, .err, .sec, .attn, .out] : List Fld) ⊆ ls) :
    Runs (Keeps ls sz) (execRefLoss s) ↔ Keeps ls sz s := by
  simp only [List.cons_subset, List.nil_subset, and_true] at hl
  unfold execRefLoss
  simp [hl]

theorem runs_execClockHold {ls : List Fld} {sz : State} (r ticks volt : Nat) (s : State) (hl : ([.clk, .fab, .chavi, .mbx, .gw, .err, .sec, .attn, .out] : List Fld) ⊆ ls) :
    Runs (Keeps ls sz) (execClockHold r ticks volt s) ↔ Keeps ls sz s := by
  simp only [List.cons_subset, List.nil_subset, and_true] at hl
  unfold execClockHold
  simp [hl]

@[simp] theorem kept_doTbwait {ls : List Fld} {sz : State} (r c rd a b w : Nat) (s : State) (hl : ([.rows] : List Fld) ⊆ ls) :
    (doTbwait r c rd a b w s).Kept ls sz ↔ Keeps ls sz s := by
  simp only [List.cons_subset, List.nil_subset, and_true] at hl
  unfold doTbwait
  simp [hl]

@[simp] theorem kept_doRpop {ls : List Fld} {sz : State} (r c rd : Nat) (a b : Nat) (s : State) (hl : ([.rows, .mem, .fab, .chavi, .mbx, .rings, .gw, .err, .sec, .attn, .out, .fresh] : List Fld) ⊆ ls) :
    (doRpop r c rd a b s).Kept ls sz ↔ Keeps ls sz s := by
  simp only [List.cons_subset, List.nil_subset, and_true] at hl
  unfold doRpop
  try simp only []
  repeat' (split)
  all_goals simp [hl]

@[simp] theorem kept_doSresv {ls : List Fld} {sz : State} (r c rd a b : Nat) (s : State) (hl : ([.rows] : List Fld) ⊆ ls) :
    (doSresv r c rd a b s).Kept ls sz ↔ Keeps ls sz s := by
  simp only [List.cons_subset, List.nil_subset, and_true] at hl
  unfold doSresv
  try simp only []
  repeat' (split)
  all_goals simp [hl]

@[simp] theorem kept_doSrels {ls : List Fld} {sz : State} (r c rd a : Nat) (s : State) (hl : ([.rows] : List Fld) ⊆ ls) :
    (doSrels r c rd a s).Kept ls sz ↔ Keeps ls sz s := by
  simp only [List.cons_subset, List.nil_subset, and_true] at hl
  unfold doSrels
  simp [hl]

@[simp] theorem kept_doRpush {ls : List Fld} {sz : State} (r c rd : Nat) (a b : Nat) (s : State) (hl : ([.rows, .mem, .fab, .chavi, .mbx, .rings, .gw, .err, .sec, .attn, .out] : List Fld) ⊆ ls) :
    (doRpush r c rd a b s).Kept ls sz ↔ Keeps ls sz s := by
  simp only [List.cons_subset, List.nil_subset, and_true] at hl
  unfold doRpush
  try simp only []
  repeat' (split)
  all_goals simp [hl]

@[simp] theorem kept_doCustom {ls : List Fld} {sz : State} (r c w : Nat) (s : State) (hl : ([.rows, .mem, .fab, .chavi, .mbx, .rings, .gw, .err, .sec, .attn, .out, .fresh] : List Fld) ⊆ ls) :
    (doCustom r c w s).Kept ls sz ↔ Keeps ls sz s := by
  simp only [List.cons_subset, List.nil_subset, and_true] at hl
  unfold doCustom
  try simp only []
  repeat' (split)
  all_goals simp [hl]

@[simp] theorem kept_coreLoad {ls : List Fld} {sz : State} (r c a n err : Nat) (s : State) (hl : ([.rows, .mem, .fab, .chavi, .mbx, .gw, .err, .sec, .attn, .out] : List Fld) ⊆ ls) :
    (coreLoad r c a n err s).Kept ls sz ↔ Keeps ls sz s := by
  simp only [List.cons_subset, List.nil_subset, and_true] at hl
  unfold coreLoad
  try simp only []
  repeat' (split)
  all_goals simp [hl]

@[simp] theorem kept_runAmo {ls : List Fld} {sz : State} (r c w len err : Nat) (s : State) (hl : ([.rows, .mem, .fab, .chavi, .mbx, .gw, .err, .sec, .attn, .out] : List Fld) ⊆ ls) :
    (runAmo r c w len err s).Kept ls sz ↔ Keeps ls sz s := by
  simp only [List.cons_subset, List.nil_subset, and_true] at hl
  have hc := kept_coreLoad (ls := ls) (sz := sz) r c ((s.core r c).xr (rvRs1 w)).toNat (2 ^ rvF3 w) err s (by simp [hl])
  unfold runAmo
  simp only []
  split
  · simp
  split
  · simp
  split
  · simp [hl]
  · split <;> rename_i heq <;> rw [heq] at hc <;> simp at hc
    · simp [hc]
    · split <;> simp [hl, hc]

@[simp] theorem kept_coreStore {ls : List Fld} {sz : State} (r c a : Nat) (l : List Byte) (s : State) (hl : ([.rows, .mem] : List Fld) ⊆ ls) :
    (coreStore r c a l s).Kept ls sz ↔ Keeps ls sz s := by
  simp only [List.cons_subset, List.nil_subset, and_true] at hl
  unfold coreStore
  try simp only []
  repeat' (split)
  all_goals simp [hl]

@[simp] theorem kept_runScalar {ls : List Fld} {sz : State} (r c w len a n err : Nat) (store : Bool) (s : State) (hl : ([.rows, .mem, .fab, .chavi, .mbx, .gw, .err, .sec, .attn, .out] : List Fld) ⊆ ls) :
    (runScalar r c w len a n err store s).Kept ls sz ↔ Keeps ls sz s := by
  simp only [List.cons_subset, List.nil_subset, and_true] at hl
  unfold runScalar
  simp only []
  split
  · split <;> rename_i heq
    · have hc := kept_coreStore (ls := ls) (sz := sz) r c a (leBytes n (if rvOp w = 0x27 then (s.core r c).fr (rvRs2 w) else ((s.core r c).xr (rvRs2 w)).toNat)) s (by simp [hl])
      rw [heq] at hc; simpa [hl] using hc
    · have hc := kept_coreStore (ls := ls) (sz := sz) r c a (leBytes n (if rvOp w = 0x27 then (s.core r c).fr (rvRs2 w) else ((s.core r c).xr (rvRs2 w)).toNat)) s (by simp [hl])
      rw [heq] at hc; simpa [hl] using hc
  · have hc := kept_coreLoad (ls := ls) (sz := sz) r c a n err s (by simp [hl])
    split <;> rename_i heq <;> rw [heq] at hc <;> simpa [hl] using hc

@[simp] theorem kept_runElems {ls : List Fld} {sz : State} (r c err : Nat) (store fof : Bool) (xs : List VAcc) (s : State) (hl : ([.rows, .mem, .fab, .chavi, .mbx, .gw, .err, .sec, .attn, .out] : List Fld) ⊆ ls) :
    (runElems r c err store fof xs s).Kept ls sz ↔ Keeps ls sz s := by
  simp only [List.cons_subset, List.nil_subset, and_true] at hl
  induction xs generalizing s with
  | nil => rfl
  | cons e t ih =>
    have hc : Acc1.Kept ls sz (if store then coreStore r c e.addr (leBytes (e.n / 8) (vget (s.core r c) e.reg e.n e.idx)) s
      else coreLoad r c e.addr (e.n / 8) err s) ↔ Keeps ls sz s := by split <;> simp [hl]
    unfold runElems
    simp only []
    split <;> rename_i heq <;> rw [heq] at hc <;> simp at hc
    · split <;> simp [hl, hc]
    · rw [ih]; split <;> simp [hl, hc]

@[simp] theorem kept_runVec {ls : List Fld} {sz : State} (r c w len eew err : Nat) (s : State) (hl : ([.rows, .mem, .fab, .chavi, .mbx, .gw, .err, .sec, .attn, .out, .fresh] : List Fld) ⊆ ls) :
    (runVec r c w len eew err s).Kept ls sz ↔ Keeps ls sz s := by
  simp only [List.cons_subset, List.nil_subset, and_true] at hl
  unfold runVec
  simp only []
  split
  · simp [hl]
  · rename_i l hacc
    split
    · split
      · simp [hl]
      · simp [hl]
    · have hc := kept_runElems (ls := ls) (sz := sz) r c err (rvOp w == 0x27) (!(rvOp w == 0x27) && bits w 26 2 == 0 && rvRs2 w == 0x10) l s.draw.2 (by simp [hl])
      rw [keeps_State_draw _ (by simp [hl])] at hc
      split <;> rename_i heq
      · rw [heq] at hc; simpa [hl] using hc
      · exact hc

@[simp] theorem kept_runMem {ls : List Fld} {sz : State} (r c w len err : Nat) (s : State) (hl : ([.rows, .mem, .fab, .chavi, .mbx, .gw, .err, .sec, .attn, .out, .fresh] : List Fld) ⊆ ls) :
    (runMem r c w len err s).Kept ls sz ↔ Keeps ls sz s := by
  simp only [List.cons_subset, List.nil_subset, and_true] at hl
  unfold runMem
  try simp only []
  repeat' (split)
  all_goals simp [hl]

@[simp] theorem kept_runInstr {ls : List Fld} {sz : State} (r c raw w len err : Nat) (s : State) (hl : ([.power, .rows, .mem, .fab, .chavi, .mbx, .rings, .gw, .err, .sec, .attn, .out, .fresh] : List Fld) ⊆ ls) :
    (runInstr r c raw w len err s).Kept ls sz ↔ Keeps ls sz s := by
  simp only [List.cons_subset, List.nil_subset, and_true] at hl
  unfold runInstr
  try simp only []
  repeat' (split)
  all_goals simp [hl]

theorem runs_execPrimroseExecute {ls : List Fld} {sz : State} (r c bad : Nat) (s : State) (hl : ([.power, .rows, .mem, .fab, .chavi, .mbx, .rings, .gw, .err, .sec, .attn, .out, .fresh] : List Fld) ⊆ ls) :
    Runs (Keeps ls sz) (execPrimroseExecute r c bad s) ↔ Keeps ls sz s := by
  simp only [List.cons_subset, List.nil_subset, and_true] at hl
  unfold execPrimroseExecute
  try simp only []
  repeat' (split)
  all_goals simp [hl]

theorem runs_execPrimroseMemoryAccess {ls : List Fld} {sz : State} (r c err : Nat) (s : State) (hl : ([.power, .rows, .mem, .fab, .chavi, .mbx, .gw, .err, .sec, .attn, .out, .fresh] : List Fld) ⊆ ls) :
    Runs (Keeps ls sz) (execPrimroseMemoryAccess r c err s) ↔ Keeps ls sz s := by
  simp only [List.cons_subset, List.nil_subset, and_true] at hl
  unfold execPrimroseMemoryAccess
  try simp only []
  repeat' (split)
  all_goals simp [hl]

@[simp] theorem runs_atCore {ls : List Fld} {sz : State} (r c : Nat) (f : State → Ran) (s : State) (hl : ([.power, .rows] : List Fld) ⊆ ls)
    (hf : ∀ t, (f t).Kept ls sz ↔ Keeps ls sz t) :
    Runs (Keeps ls sz) (atCore r c f s) ↔ Keeps ls sz s := by
  simp only [List.cons_subset, List.nil_subset, and_true] at hl
  unfold atCore
  split <;> simp [hl, hf]

theorem runs_execRpop {ls : List Fld} {sz : State} (r c rd rs1 rs2 : Nat) (s : State) (hl : ([.power, .rows, .mem, .fab, .chavi, .mbx, .rings, .gw, .err, .sec, .attn, .out, .fresh] : List Fld) ⊆ ls) :
    Runs (Keeps ls sz) (execRpop r c rd rs1 rs2 s) ↔ Keeps ls sz s := by
  simp only [List.cons_subset, List.nil_subset, and_true] at hl
  unfold execRpop
  simp [hl]

theorem runs_execRpush {ls : List Fld} {sz : State} (r c rd rs1 rs2 : Nat) (s : State) (hl : ([.power, .rows, .mem, .fab, .chavi, .mbx, .rings, .gw, .err, .sec, .attn, .out] : List Fld) ⊆ ls) :
    Runs (Keeps ls sz) (execRpush r c rd rs1 rs2 s) ↔ Keeps ls sz s := by
  simp only [List.cons_subset, List.nil_subset, and_true] at hl
  unfold execRpush
  simp [hl]

theorem runs_execSresv {ls : List Fld} {sz : State} (r c rd rs1 rs2 : Nat) (s : State) (hl : ([.power, .rows] : List Fld) ⊆ ls) :
    Runs (Keeps ls sz) (execSresv r c rd rs1 rs2 s) ↔ Keeps ls sz s := by
  simp only [List.cons_subset, List.nil_subset, and_true] at hl
  unfold execSresv
  simp [hl]

theorem runs_execSrels {ls : List Fld} {sz : State} (r c rd rs1 : Nat) (s : State) (hl : ([.power, .rows] : List Fld) ⊆ ls) :
    Runs (Keeps ls sz) (execSrels r c rd rs1 s) ↔ Keeps ls sz s := by
  simp only [List.cons_subset, List.nil_subset, and_true] at hl
  unfold execSrels
  simp [hl]

theorem runs_execTbwait {ls : List Fld} {sz : State} (r c rd rs1 rs2 : Nat) (s : State) (hl : ([.power, .rows] : List Fld) ⊆ ls) :
    Runs (Keeps ls sz) (execTbwait r c rd rs1 rs2 s) ↔ Keeps ls sz s := by
  simp only [List.cons_subset, List.nil_subset, and_true] at hl
  unfold execTbwait
  simp [hl]

theorem runs_execWdkick {ls : List Fld} {sz : State} (r c : Nat) (s : State) (hl : ([.power, .rows, .mem, .fab, .chavi, .mbx, .rings, .gw, .err, .sec, .attn, .out, .fresh] : List Fld) ⊆ ls) :
    Runs (Keeps ls sz) (execWdkick r c s) ↔ Keeps ls sz s := by
  simp only [List.cons_subset, List.nil_subset, and_true] at hl
  unfold execWdkick
  simp [hl]

theorem runs_execSresvDeadline {ls : List Fld} {sz : State} (r c : Nat) (s : State) (hl : ([.rows] : List Fld) ⊆ ls) :
    Runs (Keeps ls sz) (execSresvDeadline r c s) ↔ Keeps ls sz s := by
  simp only [List.cons_subset, List.nil_subset, and_true] at hl
  unfold execSresvDeadline
  try simp only []
  repeat' (split)
  all_goals simp [hl]

theorem runs_execTbwaitEnd {ls : List Fld} {sz : State} (r c : Nat) (s : State) (hl : ([.power, .rows] : List Fld) ⊆ ls) :
    Runs (Keeps ls sz) (execTbwaitEnd r c s) ↔ Keeps ls sz s := by
  simp only [List.cons_subset, List.nil_subset, and_true] at hl
  unfold execTbwaitEnd
  try simp only []
  repeat' (split)
  all_goals simp [hl]

theorem runs_execBadd {ls : List Fld} {sz : State} (r c rd rs1 rs2 : Nat) (s : State) (hl : ([.power, .rows, .mem, .fab, .chavi, .mbx, .rings, .gw, .err, .sec, .attn, .out, .fresh] : List Fld) ⊆ ls) :
    Runs (Keeps ls sz) (execBadd r c rd rs1 rs2 s) ↔ Keeps ls sz s := by
  simp only [List.cons_subset, List.nil_subset, and_true] at hl
  unfold execBadd
  simp [hl]

theorem runs_execBscl {ls : List Fld} {sz : State} (r c rd rs1 rs2 : Nat) (s : State) (hl : ([.power, .rows, .mem, .fab, .chavi, .mbx, .rings, .gw, .err, .sec, .attn, .out, .fresh] : List Fld) ⊆ ls) :
    Runs (Keeps ls sz) (execBscl r c rd rs1 rs2 s) ↔ Keeps ls sz s := by
  simp only [List.cons_subset, List.nil_subset, and_true] at hl
  unfold execBscl
  simp [hl]

theorem runs_execBmax {ls : List Fld} {sz : State} (r c rd rs1 rs2 : Nat) (s : State) (hl : ([.power, .rows, .mem, .fab, .chavi, .mbx, .rings, .gw, .err, .sec, .attn, .out, .fresh] : List Fld) ⊆ ls) :
    Runs (Keeps ls sz) (execBmax r c rd rs1 rs2 s) ↔ Keeps ls sz s := by
  simp only [List.cons_subset, List.nil_subset, and_true] at hl
  unfold execBmax
  simp [hl]

theorem runs_execBlin {ls : List Fld} {sz : State} (r c rd rs1 rs2 rs3 : Nat) (s : State) (hl : ([.power, .rows, .mem, .fab, .chavi, .mbx, .rings, .gw, .err, .sec, .attn, .out, .fresh] : List Fld) ⊆ ls) :
    Runs (Keeps ls sz) (execBlin r c rd rs1 rs2 rs3 s) ↔ Keeps ls sz s := by
  simp only [List.cons_subset, List.nil_subset, and_true] at hl
  unfold execBlin
  simp [hl]

theorem runs_execFhash {ls : List Fld} {sz : State} (r c rd rs1 rs2 rs3 fn : Nat) (s : State) (hl : ([.power, .rows, .mem, .fab, .chavi, .mbx, .rings, .gw, .err, .sec, .attn, .out, .fresh] : List Fld) ⊆ ls) :
    Runs (Keeps ls sz) (execFhash r c rd rs1 rs2 rs3 fn s) ↔ Keeps ls sz s := by
  simp only [List.cons_subset, List.nil_subset, and_true] at hl
  unfold execFhash
  simp [hl]

theorem runs_execPrmWatchdogExpiry {ls : List Fld} {sz : State} (r c : Nat) (s : State) (hl : ([.rows, .fab, .chavi, .mbx, .gw, .err, .sec, .attn, .out] : List Fld) ⊆ ls) :
    Runs (Keeps ls sz) (execPrmWatchdogExpiry r c s) ↔ Keeps ls sz s := by
  simp only [List.cons_subset, List.nil_subset, and_true] at hl
  unfold execPrmWatchdogExpiry
  simp [hl]

theorem runs_execHaltedCoreRequestsEnd {ls : List Fld} {sz : State} (r c : Nat) (s : State) (hl : ([.mem, .fab, .chavi, .mbx, .rings, .gw, .err, .sec, .attn, .out] : List Fld) ⊆ ls) :
    Runs (Keeps ls sz) (execHaltedCoreRequestsEnd r c s) ↔ Keeps ls sz s := by
  simp only [List.cons_subset, List.nil_subset, and_true] at hl
  unfold execHaltedCoreRequestsEnd
  simp [hl]

theorem runs_execPowerFastCheck {ls : List Fld} {sz : State} (m : FastMeans) (s : State) (hl : ([.clk, .cap] : List Fld) ⊆ ls) :
    Runs (Keeps ls sz) (execPowerFastCheck m s) ↔ Keeps ls sz s := by
  simp only [List.cons_subset, List.nil_subset, and_true] at hl
  unfold execPowerFastCheck
  simp [hl]

theorem runs_execPhaseMarker {ls : List Fld} {sz : State} (s : State) (hl : ([.clk, .rows, .fab, .chavi, .mbx, .gw, .err, .cap, .sec, .attn, .out] : List Fld) ⊆ ls) :
    Runs (Keeps ls sz) (execPhaseMarker s) ↔ Keeps ls sz s := by
  simp only [List.cons_subset, List.nil_subset, and_true] at hl
  unfold execPhaseMarker
  try simp only []
  repeat' (split)
  all_goals simp [hl]

theorem runs_execThermalSensorRead {ls : List Fld} {sz : State} (k : Nat) (v : Int) (s : State) (hl : ([.power, .clk, .rows, .dmap, .mem, .fetch, .flash, .fab, .chavi, .mbx, .rings, .gw, .err, .therm, .sec, .attn, .out] : List Fld) ⊆ ls) :
    Runs (Keeps ls sz) (execThermalSensorRead k v s) ↔ Keeps ls sz s := by
  simp only [List.cons_subset, List.nil_subset, and_true] at hl
  unfold execThermalSensorRead
  simp [hl]

theorem runs_execHbmTempRead {ls : List Fld} {sz : State} (u : Nat) (v : Int) (s : State) (hl : ([.power, .clk, .rows, .dmap, .mem, .fetch, .flash, .fab, .chavi, .mbx, .rings, .gw, .err, .therm, .sec, .attn, .out] : List Fld) ⊆ ls) :
    Runs (Keeps ls sz) (execHbmTempRead u v s) ↔ Keeps ls sz s := by
  simp only [List.cons_subset, List.nil_subset, and_true] at hl
  unfold execHbmTempRead
  simp [hl]

theorem runs_execThermalCeilingRaise {ls : List Fld} {sz : State} (s : State) (hl : ([.chavi, .cap, .therm, .sec, .attn, .out] : List Fld) ⊆ ls) :
    Runs (Keeps ls sz) (execThermalCeilingRaise s) ↔ Keeps ls sz s := by
  simp only [List.cons_subset, List.nil_subset, and_true] at hl
  unfold execThermalCeilingRaise
  try simp only []
  repeat' (split)
  all_goals simp [hl]

theorem runs_execPeerDiscovery {ls : List Fld} {sz : State} (s : State) (hl : ([.fab, .cap] : List Fld) ⊆ ls) :
    Runs (Keeps ls sz) (execPeerDiscovery s) ↔ Keeps ls sz s := by
  simp only [List.cons_subset, List.nil_subset, and_true] at hl
  unfold execPeerDiscovery
  simp [hl]

theorem runs_execTokenReportPeriod {ls : List Fld} {sz : State} (s : State) (hl : ([.clk, .fab, .chavi, .mbx, .gw, .err, .cap, .sec, .attn, .out] : List Fld) ⊆ ls) :
    Runs (Keeps ls sz) (execTokenReportPeriod s) ↔ Keeps ls sz s := by
  simp only [List.cons_subset, List.nil_subset, and_true] at hl
  unfold execTokenReportPeriod
  simp [hl]

theorem runs_execSpnAttnClearbelow {ls : List Fld} {sz : State} (n : Nat) (s : State) (hl : ([.chavi, .sec, .attn, .out] : List Fld) ⊆ ls) :
    Runs (Keeps ls sz) (execSpnAttnClearbelow n s) ↔ Keeps ls sz s := by
  simp only [List.cons_subset, List.nil_subset, and_true] at hl
  unfold execSpnAttnClearbelow
  simp [hl]

theorem runs_execSpnTbLowRead {ls : List Fld} {sz : State} (high : Bool) (s : State) (hl : ([.clk, .out] : List Fld) ⊆ ls) :
    Runs (Keeps ls sz) (execSpnTbLowRead high s) ↔ Keeps ls sz s := by
  simp only [List.cons_subset, List.nil_subset, and_true] at hl
  unfold execSpnTbLowRead
  simp [hl]

@[simp] theorem runs_rowRead {ls : List Fld} {sz : State} (r o : Nat) (s : State) (hl : ([.power, .rows, .out] : List Fld) ⊆ ls) :
    Runs (Keeps ls sz) (rowRead r o s) ↔ Keeps ls sz s := by
  simp only [List.cons_subset, List.nil_subset, and_true] at hl
  unfold rowRead
  simp [hl]

theorem runs_execAstPlanesRead {ls : List Fld} {sz : State} (r t : Nat) (s : State) (hl : ([.power, .rows, .out] : List Fld) ⊆ ls) :
    Runs (Keeps ls sz) (execAstPlanesRead r t s) ↔ Keeps ls sz s := by
  simp only [List.cons_subset, List.nil_subset, and_true] at hl
  unfold execAstPlanesRead
  simp [hl]

theorem runs_execScbStatusRead {ls : List Fld} {sz : State} (r : Nat) (s : State) (hl : ([.power, .rows, .out] : List Fld) ⊆ ls) :
    Runs (Keeps ls sz) (execScbStatusRead r s) ↔ Keeps ls sz s := by
  simp only [List.cons_subset, List.nil_subset, and_true] at hl
  unfold execScbStatusRead
  simp [hl]

theorem runs_execClkRowRead {ls : List Fld} {sz : State} (r : Nat) (s : State) (hl : ([.clk, .out] : List Fld) ⊆ ls) :
    Runs (Keeps ls sz) (execClkRowRead r s) ↔ Keeps ls sz s := by
  simp only [List.cons_subset, List.nil_subset, and_true] at hl
  unfold execClkRowRead
  simp [hl]

theorem runs_execWitCntRead {ls : List Fld} {sz : State} (n : Nat) (s : State) (hl : ([.wit, .out] : List Fld) ⊆ ls) :
    Runs (Keeps ls sz) (execWitCntRead n s) ↔ Keeps ls sz s := by
  simp only [List.cons_subset, List.nil_subset, and_true] at hl
  unfold execWitCntRead
  simp [hl]

theorem runs_execRegisterWrite {ls : List Fld} {sz : State} (a v : Nat) (s : State) (hl : ([.power, .rows, .fab, .chavi, .mbx, .gw, .err, .sec, .attn, .out] : List Fld) ⊆ ls) :
    Runs (Keeps ls sz) (execRegisterWrite a v s) ↔ Keeps ls sz s := by
  simp only [List.cons_subset, List.nil_subset, and_true] at hl
  unfold execRegisterWrite
  try simp only []
  repeat' (split)
  all_goals simp [hl]

theorem runs_execAttnNRelease {ls : List Fld} {sz : State} (s : State) (hl : ([.attn] : List Fld) ⊆ ls) :
    Runs (Keeps ls sz) (execAttnNRelease s) ↔ Keeps ls sz s := by
  simp only [List.cons_subset, List.nil_subset, and_true] at hl
  unfold execAttnNRelease
  simp [hl]

theorem runs_execAttnEventDeferred {ls : List Fld} {sz : State} (s : State) (hl : ([.chavi, .sec, .attn, .out] : List Fld) ⊆ ls) :
    Runs (Keeps ls sz) (execAttnEventDeferred s) ↔ Keeps ls sz s := by
  simp only [List.cons_subset, List.nil_subset, and_true] at hl
  unfold execAttnEventDeferred
  simp [hl]

@[simp] theorem runs_ringBell {ls : List Fld} {sz : State} (path : BellPath) (word : Nat) (s : State) (hl : ([.power, .clk, .rows, .boot, .mem, .fetch, .fab, .chavi, .mbx, .rings, .gw, .err, .cap, .wit, .sec, .attn, .out] : List Fld) ⊆ ls) :
    Runs (Keeps ls sz) (ringBell path word s) ↔ Keeps ls sz s := by
  simp only [List.cons_subset, List.nil_subset, and_true] at hl
  unfold ringBell
  try simp only []
  repeat' (split)
  all_goals simp [hl]

theorem runs_execReqTail {ls : List Fld} {sz : State} (path : BellPath) (ring value rsv : Nat) (s : State) (hl : ([.power, .clk, .rows, .boot, .mem, .fetch, .fab, .chavi, .mbx, .rings, .gw, .err, .cap, .wit, .sec, .attn, .out] : List Fld) ⊆ ls) :
    Runs (Keeps ls sz) (execReqTail path ring value rsv s) ↔ Keeps ls sz s := by
  simp only [List.cons_subset, List.nil_subset, and_true] at hl
  unfold execReqTail
  simp [hl]

theorem runs_execReqAdd {ls : List Fld} {sz : State} (path : BellPath) (ring value rsv : Nat) (s : State) (hl : ([.power, .clk, .rows, .boot, .mem, .fetch, .fab, .chavi, .mbx, .rings, .gw, .err, .cap, .wit, .sec, .attn, .out] : List Fld) ⊆ ls) :
    Runs (Keeps ls sz) (execReqAdd path ring value rsv s) ↔ Keeps ls sz s := by
  simp only [List.cons_subset, List.nil_subset, and_true] at hl
  unfold execReqAdd
  simp [hl]

theorem runs_execCplHead {ls : List Fld} {sz : State} (path : BellPath) (ring value rsv : Nat) (s : State) (hl : ([.power, .clk, .rows, .boot, .mem, .fetch, .fab, .chavi, .mbx, .rings, .gw, .err, .cap, .wit, .sec, .attn, .out] : List Fld) ⊆ ls) :
    Runs (Keeps ls sz) (execCplHead path ring value rsv s) ↔ Keeps ls sz s := by
  simp only [List.cons_subset, List.nil_subset, and_true] at hl
  unfold execCplHead
  simp [hl]

theorem runs_execReqTimeout {ls : List Fld} {sz : State} (n i : Nat) (s : State) (hl : ([.mem, .fab, .chavi, .mbx, .rings, .gw, .err, .sec, .attn, .out] : List Fld) ⊆ ls) :
    Runs (Keeps ls sz) (execReqTimeout n i s) ↔ Keeps ls sz s := by
  simp only [List.cons_subset, List.nil_subset, and_true] at hl
  unfold execReqTimeout
  try simp only []
  repeat' (split)
  all_goals simp [hl]

theorem runs_execJobTimeout {ls : List Fld} {sz : State} (job : Nat) (s : State) (hl : ([.mem, .fab, .chavi, .mbx, .rings, .gw, .err, .sec, .attn, .out] : List Fld) ⊆ ls) :
    Runs (Keeps ls sz) (execJobTimeout job s) ↔ Keeps ls sz s := by
  simp only [List.cons_subset, List.nil_subset, and_true] at hl
  unfold execJobTimeout
  simp [hl]

theorem runs_execFetchCommand {ls : List Fld} {sz : State} (r c : Nat) (s : State) (hl : ([.rows, .fetch] : List Fld) ⊆ ls) :
    Runs (Keeps ls sz) (execFetchCommand r c s) ↔ Keeps ls sz s := by
  simp only [List.cons_subset, List.nil_subset, and_true] at hl
  unfold execFetchCommand
  try simp only []
  repeat' (split)
  all_goals simp [hl]

theorem runs_execFetchDispatch {ls : List Fld} {sz : State} (b e : Nat) (s : State) (hl : ([.fetch] : List Fld) ⊆ ls) :
    Runs (Keeps ls sz) (execFetchDispatch b e s) ↔ Keeps ls sz s := by
  simp only [List.cons_subset, List.nil_subset, and_true] at hl
  unfold execFetchDispatch
  try simp only []
  repeat' (split)
  all_goals simp [hl]

theorem runs_execFetchPool {ls : List Fld} {sz : State} (b e : Nat) (s : State) (hl : ([.power, .rows, .fetch, .fab, .wit, .fresh] : List Fld) ⊆ ls) :
    Runs (Keeps ls sz) (execFetchPool b e s) ↔ Keeps ls sz s := by
  simp only [List.cons_subset, List.nil_subset, and_true] at hl
  unfold execFetchPool
  try simp only []
  repeat' (split)
  all_goals simp [hl]

theorem runs_execFetchBlockGather {ls : List Fld} {sz : State} (b e : Nat) (bad : Bool) (s : State) (hl : ([.power, .rows, .mem, .fetch, .fab, .chavi, .mbx, .gw, .err, .sec, .attn, .out, .fresh] : List Fld) ⊆ ls) :
    Runs (Keeps ls sz) (execFetchBlockGather b e bad s) ↔ Keeps ls sz s := by
  simp only [List.cons_subset, List.nil_subset, and_true] at hl
  unfold execFetchBlockGather
  split
  · simp
  · split
    · simp
    · rw [runs_next, keeps_blockEntry _ _ _ _ _ _ _ (by simp [hl])]
      intro x t
      simp only []
      repeat' split
      all_goals simp [hl]

theorem runs_execFetchBlockMove {ls : List Fld} {sz : State} (b e : Nat) (bad : Bool) (s : State) (hl : ([.power, .rows, .mem, .fetch, .fab, .chavi, .mbx, .gw, .err, .sec, .attn, .out, .fresh] : List Fld) ⊆ ls) :
    Runs (Keeps ls sz) (execFetchBlockMove b e bad s) ↔ Keeps ls sz s := by
  simp only [List.cons_subset, List.nil_subset, and_true] at hl
  unfold execFetchBlockMove
  split
  · simp
  · split
    · simp
    · rw [runs_next, keeps_blockEntry _ _ _ _ _ _ _ (by simp [hl])]
      intro x t
      simp only []
      repeat' split
      all_goals simp [hl]

theorem runs_execRowReadComplete {ls : List Fld} {sz : State} (b e : Nat) (bad : Bool) (s : State) (hl : ([.mem, .fetch, .fab, .chavi, .mbx, .gw, .err, .wit, .sec, .attn, .out, .fresh] : List Fld) ⊆ ls) :
    Runs (Keeps ls sz) (execRowReadComplete b e bad s) ↔ Keeps ls sz s := by
  simp only [List.cons_subset, List.nil_subset, and_true] at hl
  unfold execRowReadComplete
  try simp only []
  repeat' (split)
  all_goals simp [hl]

theorem runs_execFetchComplete {ls : List Fld} {sz : State} (b e : Nat) (s : State) (hl : ([.power, .rows, .mem, .fetch, .flash, .fab, .chavi, .mbx, .gw, .sec, .out] : List Fld) ⊆ ls) :
    Runs (Keeps ls sz) (execFetchComplete b e s) ↔ Keeps ls sz s := by
  simp only [List.cons_subset, List.nil_subset, and_true] at hl
  unfold execFetchComplete
  try simp only []
  repeat' (split)
  all_goals simp [hl]

theorem runs_execScoreboardGrant {ls : List Fld} {sz : State} (r i : Nat) (bad : Bool) (s : State) (hl : ([.rows, .mem, .fetch, .fab, .chavi, .mbx, .gw, .err, .sec, .attn, .out] : List Fld) ⊆ ls) :
    Runs (Keeps ls sz) (execScoreboardGrant r i bad s) ↔ Keeps ls sz s := by
  simp only [List.cons_subset, List.nil_subset, and_true] at hl
  unfold execScoreboardGrant
  try simp only []
  repeat' (split)
  all_goals simp [hl]

theorem runs_execDmaCopy {ls : List Fld} {sz : State} (r e : Nat) (d : DmaDesc) (s : State) (hl : ([.power, .rows] : List Fld) ⊆ ls) :
    Runs (Keeps ls sz) (execDmaCopy r e d s) ↔ Keeps ls sz s := by
  simp only [List.cons_subset, List.nil_subset, and_true] at hl
  unfold execDmaCopy
  simp [hl]

theorem runs_execDmaSkew {ls : List Fld} {sz : State} (r e : Nat) (d : DmaDesc) (s : State) (hl : ([.power, .rows] : List Fld) ⊆ ls) :
    Runs (Keeps ls sz) (execDmaSkew r e d s) ↔ Keeps ls sz s := by
  simp only [List.cons_subset, List.nil_subset, and_true] at hl
  unfold execDmaSkew
  simp [hl]

theorem runs_execDmaUnskew {ls : List Fld} {sz : State} (r e : Nat) (d : DmaDesc) (s : State) (hl : ([.power, .rows] : List Fld) ⊆ ls) :
    Runs (Keeps ls sz) (execDmaUnskew r e d s) ↔ Keeps ls sz s := by
  simp only [List.cons_subset, List.nil_subset, and_true] at hl
  unfold execDmaUnskew
  simp [hl]

theorem runs_execDmaFill {ls : List Fld} {sz : State} (r e : Nat) (d : DmaDesc) (s : State) (hl : ([.power, .rows] : List Fld) ⊆ ls) :
    Runs (Keeps ls sz) (execDmaFill r e d s) ↔ Keeps ls sz s := by
  simp only [List.cons_subset, List.nil_subset, and_true] at hl
  unfold execDmaFill
  simp [hl]

theorem runs_execDmaDescriptorStart {ls : List Fld} {sz : State} (r e : Nat) (s : State) (hl : ([.power, .rows, .fab, .chavi, .mbx, .gw, .err, .sec, .attn, .out] : List Fld) ⊆ ls) :
    Runs (Keeps ls sz) (execDmaDescriptorStart r e s) ↔ Keeps ls sz s := by
  simp only [List.cons_subset, List.nil_subset, and_true] at hl
  unfold execDmaDescriptorStart
  try simp only []
  repeat' (split)
  all_goals simp [hl]

theorem runs_execDmaComplete {ls : List Fld} {sz : State} (r e err lines : Nat) (s : State) (hl : ([.rows, .mem, .fab, .chavi, .mbx, .gw, .err, .sec, .attn, .out, .fresh] : List Fld) ⊆ ls) :
    Runs (Keeps ls sz) (execDmaComplete r e err lines s) ↔ Keeps ls sz s := by
  simp only [List.cons_subset, List.nil_subset, and_true] at hl
  unfold execDmaComplete
  try simp only []
  repeat' (split)
  all_goals simp [hl]

theorem runs_execDmaCplPop {ls : List Fld} {sz : State} (r e : Nat) (s : State) (hl : ([.rows, .out] : List Fld) ⊆ ls) :
    Runs (Keeps ls sz) (execDmaCplPop r e s) ↔ Keeps ls sz s := by
  simp only [List.cons_subset, List.nil_subset, and_true] at hl
  unfold execDmaCplPop
  simp [hl]

theorem runs_execDmaDescriptorTimeout {ls : List Fld} {sz : State} (r e lines : Nat) (s : State) (hl : ([.rows, .mem, .fab, .chavi, .mbx, .gw, .err, .sec, .attn, .out] : List Fld) ⊆ ls) :
    Runs (Keeps ls sz) (execDmaDescriptorTimeout r e lines s) ↔ Keeps ls sz s := by
  simp only [List.cons_subset, List.nil_subset, and_true] at hl
  unfold execDmaDescriptorTimeout
  try simp only []
  repeat' (split)
  all_goals simp [hl]

@[simp] theorem runs_ingressStep {ls : List Fld} {sz : State} (r a i : Nat) (bad : Bool) (s : State) (hl : ([.power, .rows, .mem, .fetch, .fab, .chavi, .mbx, .gw, .err, .sec, .attn, .out] : List Fld) ⊆ ls) :
    Runs (Keeps ls sz) (ingressStep r a i bad s) ↔ Keeps ls sz s := by
  simp only [List.cons_subset, List.nil_subset, and_true] at hl
  unfold ingressStep
  try simp only []
  repeat' (split)
  all_goals simp [hl]

theorem runs_execIngressTransaction {ls : List Fld} {sz : State} (r a i : Nat) (bad : Bool) (s : State) (hl : ([.power, .rows, .mem, .fetch, .fab, .chavi, .mbx, .gw, .err, .sec, .attn, .out] : List Fld) ⊆ ls) :
    Runs (Keeps ls sz) (execIngressTransaction r a i bad s) ↔ Keeps ls sz s := by
  simp only [List.cons_subset, List.nil_subset, and_true] at hl
  have hi := runs_ingressStep (ls := ls) (sz := sz) r a i bad s (by simp [hl])
  unfold execIngressTransaction
  split <;> rename_i heq
  · rw [heq] at hi; simp [hl] at hi ⊢; exact hi
  · exact hi

theorem runs_execNetTimeoutExpiry {ls : List Fld} {sz : State} (kind a b : Nat) (s : State) (hl : ([.rows, .mem, .fetch, .fab, .chavi, .mbx, .gw, .err, .sec, .attn, .out] : List Fld) ⊆ ls) :
    Runs (Keeps ls sz) (execNetTimeoutExpiry kind a b s) ↔ Keeps ls sz s := by
  simp only [List.cons_subset, List.nil_subset, and_true] at hl
  unfold execNetTimeoutExpiry
  try simp only []
  repeat' (split)
  all_goals simp [hl]

theorem runs_execBankRetEntry {ls : List Fld} {sz : State} (r b : Nat) (s : State) (hl : ([.rows] : List Fld) ⊆ ls) :
    Runs (Keeps ls sz) (execBankRetEntry r b s) ↔ Keeps ls sz s := by
  simp only [List.cons_subset, List.nil_subset, and_true] at hl
  unfold execBankRetEntry
  simp [hl]

theorem runs_execBankTransitionComplete {ls : List Fld} {sz : State} (r b : Nat) (s : State) (hl : ([.rows, .mem, .fab, .chavi, .mbx, .gw, .sec, .out] : List Fld) ⊆ ls) :
    Runs (Keeps ls sz) (execBankTransitionComplete r b s) ↔ Keeps ls sz s := by
  simp only [List.cons_subset, List.nil_subset, and_true] at hl
  unfold execBankTransitionComplete
  simp [hl]

theorem runs_execBankScrubEnd {ls : List Fld} {sz : State} (r b : Nat) (s : State) (hl : ([.rows, .mem, .fab, .chavi, .mbx, .gw, .sec, .out] : List Fld) ⊆ ls) :
    Runs (Keeps ls sz) (execBankScrubEnd r b s) ↔ Keeps ls sz s := by
  simp only [List.cons_subset, List.nil_subset, and_true] at hl
  unfold execBankScrubEnd
  simp [hl]

theorem runs_execUcieFlitReceive {ls : List Fld} {sz : State} (m seq : Nat) (idle crcOk : Bool) (cvc ccnt : Nat) (s : State) (hl : ([.fab, .chavi, .mbx, .gw, .err, .sec, .attn, .out] : List Fld) ⊆ ls) :
    Runs (Keeps ls sz) (execUcieFlitReceive m seq idle crcOk cvc ccnt s) ↔ Keeps ls sz s := by
  simp only [List.cons_subset, List.nil_subset, and_true] at hl
  unfold execUcieFlitReceive
  simp [hl]

theorem runs_execImgReqResponse {ls : List Fld} {sz : State} (idx off : Nat) (absent : Bool) (data : List Byte) (s : State) (hl : ([.power, .rows, .boot, .mem, .fab, .chavi, .mbx, .rings, .gw, .err, .sec, .attn, .out] : List Fld) ⊆ ls) :
    Runs (Keeps ls sz) (execImgReqResponse idx off absent data s) ↔ Keeps ls sz s := by
  simp only [List.cons_subset, List.nil_subset, and_true] at hl
  unfold execImgReqResponse
  try simp only []
  repeat' (split)
  all_goals simp [hl]

theorem runs_execImgReqResend {ls : List Fld} {sz : State} (s : State) (hl : ([.power, .rows, .boot, .mem, .fab, .chavi, .mbx, .rings, .gw, .err, .sec, .attn, .out] : List Fld) ⊆ ls) :
    Runs (Keeps ls sz) (execImgReqResend s) ↔ Keeps ls sz s := by
  simp only [List.cons_subset, List.nil_subset, and_true] at hl
  unfold execImgReqResend
  try simp only []
  repeat' (split)
  all_goals simp [hl]

theorem runs_execSesHello {ls : List Fld} {sz : State} (h : ChaviHdr) (total off : Nat) (frag : List Byte) (s : State) (hl : ([.chavi, .sec, .out] : List Fld) ⊆ ls) :
    Runs (Keeps ls sz) (execSesHello h total off frag s) ↔ Keeps ls sz s := by
  simp only [List.cons_subset, List.nil_subset, and_true] at hl
  unfold execSesHello
  try simp only []
  repeat' (split)
  all_goals simp [hl]

theorem runs_execSesOfferSend {ls : List Fld} {sz : State} (s : State) (hl : ([.chavi, .sec, .out, .fresh] : List Fld) ⊆ ls) :
    Runs (Keeps ls sz) (execSesOfferSend s) ↔ Keeps ls sz s := by
  simp only [List.cons_subset, List.nil_subset, and_true] at hl
  unfold execSesOfferSend
  try simp only []
  repeat' (split)
  all_goals simp [hl]

theorem runs_execSesProof {ls : List Fld} {sz : State} (h : ChaviHdr) (total off : Nat) (frag : List Byte) (s : State) (hl : ([.fab, .chavi, .mbx, .gw, .err, .sec, .attn, .out] : List Fld) ⊆ ls) :
    Runs (Keeps ls sz) (execSesProof h total off frag s) ↔ Keeps ls sz s := by
  simp only [List.cons_subset, List.nil_subset, and_true] at hl
  unfold execSesProof
  try simp only []
  repeat' (split)
  all_goals simp [hl]

theorem runs_execAuthLockoutEnd {ls : List Fld} {sz : State} (s : State) (hl : ([.sec] : List Fld) ⊆ ls) :
    Runs (Keeps ls sz) (execAuthLockoutEnd s) ↔ Keeps ls sz s := by
  simp only [List.cons_subset, List.nil_subset, and_true] at hl
  unfold execAuthLockoutEnd
  simp [hl]

theorem runs_execNoiseHealthChange {ls : List Fld} {sz : State} (bad : Bool) (s : State) (hl : ([.fab, .chavi, .mbx, .gw, .err, .sec, .attn, .out] : List Fld) ⊆ ls) :
    Runs (Keeps ls sz) (execNoiseHealthChange bad s) ↔ Keeps ls sz s := by
  simp only [List.cons_subset, List.nil_subset, and_true] at hl
  unfold execNoiseHealthChange
  simp [hl]

theorem runs_execQuoteSigningComplete {ls : List Fld} {sz : State} (s : State) (hl : ([.mem, .fab, .chavi, .mbx, .gw, .sec, .out] : List Fld) ⊆ ls) :
    Runs (Keeps ls sz) (execQuoteSigningComplete s) ↔ Keeps ls sz s := by
  simp only [List.cons_subset, List.nil_subset, and_true] at hl
  unfold execQuoteSigningComplete
  try simp only []
  repeat' (split)
  all_goals simp [hl]

theorem runs_execDbgRead {ls : List Fld} {sz : State} (h : ChaviHdr) (a n : Nat) (s : State) (hl : ([.power, .clk, .rows, .fab, .chavi, .mbx, .gw, .err, .wit, .sec, .attn, .out] : List Fld) ⊆ ls) :
    Runs (Keeps ls sz) (execDbgRead h a n s) ↔ Keeps ls sz s := by
  simp only [List.cons_subset, List.nil_subset, and_true] at hl
  unfold execDbgRead
  rw [runs_chaviReq _ _ _ _ _ (by simp [hl])]
  intro t
  simp only []
  repeat' split
  all_goals (try simp [hl])
  all_goals (rw [keeps_each]; first | (simp [hl]; done) | (intro x u; simp [hl]))

theorem runs_execDbgWrite {ls : List Fld} {sz : State} (h : ChaviHdr) (a : Nat) (data : List Byte) (s : State) (hl : ([.power, .rows, .mem, .fab, .chavi, .mbx, .gw, .err, .sec, .attn, .out] : List Fld) ⊆ ls) :
    Runs (Keeps ls sz) (execDbgWrite h a data s) ↔ Keeps ls sz s := by
  simp only [List.cons_subset, List.nil_subset, and_true] at hl
  unfold execDbgWrite
  rw [runs_chaviReq _ _ _ _ _ (by simp [hl])]
  intro t
  simp only []
  repeat' split
  all_goals (try simp [hl])
  all_goals (rw [keeps_each]; first | (simp [hl]; done) | (intro x u; simp [hl]))

theorem runs_execDimmFault {ls : List Fld} {sz : State} (d : Nat) (s : State) (hl : ([.dmap, .mem, .flash, .fab, .chavi, .mbx, .gw, .err, .sec, .attn, .out] : List Fld) ⊆ ls) :
    Runs (Keeps ls sz) (execDimmFault d s) ↔ Keeps ls sz s := by
  simp only [List.cons_subset, List.nil_subset, and_true] at hl
  unfold execDimmFault
  simp [hl]

theorem runs_execQualificationSessionRequest {ls : List Fld} {sz : State} (port : Nat) (s : State) (hl : ([.dmap, .fab, .chavi, .mbx, .gw, .err, .sec, .attn, .out] : List Fld) ⊆ ls) :
    Runs (Keeps ls sz) (execQualificationSessionRequest port s) ↔ Keeps ls sz s := by
  simp only [List.cons_subset, List.nil_subset, and_true] at hl
  unfold execQualificationSessionRequest
  simp [hl]

theorem runs_execBridgeReloadComplete {ls : List Fld} {sz : State} (b : Nat) (res : List CardTest) (s : State) (hl : ([.dmap, .mem, .flash, .fab, .chavi, .mbx, .rings, .gw, .err, .sec, .attn, .out] : List Fld) ⊆ ls) :
    Runs (Keeps ls sz) (execBridgeReloadComplete b res s) ↔ Keeps ls sz s := by
  simp only [List.cons_subset, List.nil_subset, and_true] at hl
  unfold execBridgeReloadComplete
  simp [hl]

theorem runs_execRecalibrationComplete {ls : List Fld} {sz : State} (sensors : Bool) (r : Nat) (v : Int) (s : State) (hl : ([.clk] : List Fld) ⊆ ls) :
    Runs (Keeps ls sz) (execRecalibrationComplete sensors r v s) ↔ Keeps ls sz s := by
  simp only [List.cons_subset, List.nil_subset, and_true] at hl
  unfold execRecalibrationComplete
  simp [hl]

theorem runs_execWitnessItem {ls : List Fld} {sz : State} (i : Nat) (s : State) (hl : ([.wit] : List Fld) ⊆ ls) :
    Runs (Keeps ls sz) (execWitnessItem i s) ↔ Keeps ls sz s := by
  simp only [List.cons_subset, List.nil_subset, and_true] at hl
  unfold execWitnessItem
  try simp only []
  repeat' (split)
  all_goals simp [hl]

theorem runs_execWitnessItemExpiry {ls : List Fld} {sz : State} (i : Nat) (s : State) (hl : ([.wit] : List Fld) ⊆ ls) :
    Runs (Keeps ls sz) (execWitnessItemExpiry i s) ↔ Keeps ls sz s := by
  simp only [List.cons_subset, List.nil_subset, and_true] at hl
  unfold execWitnessItemExpiry
  try simp only []
  repeat' (split)
  all_goals simp [hl]

theorem runs_execWitnessEvaluation {ls : List Fld} {sz : State} (i : Nat) (s : State) (hl : ([.mem, .fab, .chavi, .mbx, .rings, .gw, .err, .wit, .sec, .attn, .out, .fresh] : List Fld) ⊆ ls) :
    Runs (Keeps ls sz) (execWitnessEvaluation i s) ↔ Keeps ls sz s := by
  simp only [List.cons_subset, List.nil_subset, and_true] at hl
  unfold execWitnessEvaluation
  try simp only []
  repeat' (split)
  all_goals simp [hl]

theorem runs_execFetchItemWaitExpiry {ls : List Fld} {sz : State} (i : Nat) (s : State) (hl : ([.mem, .fab, .chavi, .mbx, .rings, .gw, .err, .wit, .sec, .attn, .out, .fresh] : List Fld) ⊆ ls) :
    Runs (Keeps ls sz) (execFetchItemWaitExpiry i s) ↔ Keeps ls sz s := by
  simp only [List.cons_subset, List.nil_subset, and_true] at hl
  unfold execFetchItemWaitExpiry
  try simp only []
  repeat' (split)
  all_goals simp [hl]

theorem runs_execStallHoldExpiry {ls : List Fld} {sz : State} (w : Nat) (s : State) (hl : ([.mem, .fab, .chavi, .mbx, .rings, .gw, .err, .wit, .sec, .attn, .out] : List Fld) ⊆ ls) :
    Runs (Keeps ls sz) (execStallHoldExpiry w s) ↔ Keeps ls sz s := by
  simp only [List.cons_subset, List.nil_subset, and_true] at hl
  unfold execStallHoldExpiry
  try simp only []
  repeat' (split)
  all_goals simp [hl]

theorem runs_execWitnessEntryWrite {ls : List Fld} {sz : State} (w : Nat) (s : State) (hl : ([.mem, .fab, .chavi, .mbx, .rings, .gw, .err, .wit, .sec, .attn, .out] : List Fld) ⊆ ls) :
    Runs (Keeps ls sz) (execWitnessEntryWrite w s) ↔ Keeps ls sz s := by
  simp only [List.cons_subset, List.nil_subset, and_true] at hl
  unfold execWitnessEntryWrite
  try simp only []
  repeat' split
  all_goals (try (rename_i heq; replace heq := (congrArg Prod.snd heq).symm; dsimp only at heq; subst heq))
  all_goals simp [hl]

theorem runs_execSealTimer {ls : List Fld} {sz : State} (w : Nat) (s : State) (hl : ([.wit] : List Fld) ⊆ ls) :
    Runs (Keeps ls sz) (execSealTimer w s) ↔ Keeps ls sz s := by
  simp only [List.cons_subset, List.nil_subset, and_true] at hl
  unfold execSealTimer
  simp [hl]

theorem runs_execSealWrite {ls : List Fld} {sz : State} (s : State) (hl : ([.mem, .fab, .chavi, .mbx, .rings, .gw, .err, .wit, .sec, .attn, .out] : List Fld) ⊆ ls) :
    Runs (Keeps ls sz) (execSealWrite s) ↔ Keeps ls sz s := by
  simp only [List.cons_subset, List.nil_subset, and_true] at hl
  unfold execSealWrite
  split
  · simp
  · simp only []
    rename_i x hx
    generalize hu : (if entryFits (s.wring x.ring) 50048 0 = true then s else readConsumed x.ring s) = u
    have hs : Keeps ls sz u ↔ Keeps ls sz s := by rw [← hu]; split <;> simp [hl]
    split
    · simpa [hl] using hs
    · have hp := keeps_putEntry (ls := ls) (sz := sz) x.ring (sealHead u x ++ Config.slhSign u.fuse.seed (sealHead u x)) u (by simp [hl])
      rw [hs] at hp
      split <;> rename_i heq
      · rw [heq] at hp
        simp only [runs_next]
        repeat' split
        all_goals simp [hl]
        all_goals exact hp
      · simp [hl, hs]

end Sys2Proof.Machine
end

