-- ==== Sys2Proof/Laws/Memory.lean ====
section
/-! SUPPORT. Memory: its canonical form is kept by every operation on it, a byte that was written reads back, and every other byte
is as before. -/

namespace Sys2Proof.Machine

/-- The canonical form, said of the list as a whole: keys strictly rising, and no byte that an unlisted key reads as. -/
theorem wf_iff (m : List Host.Cell) : Memory.wf m = true ↔ m.Pairwise (fun c d => c.1 < d.1) ∧ ∀ c ∈ m, c.2 ≠ 0 := by
  induction m with
  | nil => simp [Memory.wf]
  | cons c t ih =>
    cases t with
    | nil => simp [Memory.wf]
    | cons d t =>
      have e : Memory.wf (c :: d :: t) = (c.2 != 0 && decide (c.1 < d.1) && Memory.wf (d :: t)) := rfl
      rw [e, Bool.and_eq_true, Bool.and_eq_true, ih]
      constructor
      · rintro ⟨⟨h0, h1⟩, h2, h3⟩
        have h1 : c.1 < d.1 := by simpa using h1
        refine ⟨List.pairwise_cons.2 ⟨fun x hx => ?_, h2⟩, ?_⟩
        · rcases List.mem_cons.1 hx with rfl | hx
          · exact h1
          · exact Nat.lt_trans h1 ((List.pairwise_cons.1 h2).1 x hx)
        · intro x hx
          rcases List.mem_cons.1 hx with rfl | hx
          · simpa using h0
          · exact h3 x hx
      · rintro ⟨h2, h3⟩
        have p := List.pairwise_cons.1 h2
        exact ⟨⟨by simpa using h3 c (by simp), by simpa using p.1 d (by simp)⟩, p.2, fun x hx => h3 x (List.mem_cons_of_mem _ hx)⟩

/-- A filtered canonical list is canonical. -/
theorem wf_filter (p : Host.Cell → Bool) {m : List Host.Cell} (h : Memory.wf m = true) : Memory.wf (m.filter p) = true := by
  rw [wf_iff] at h ⊢
  exact ⟨h.1.filter p, fun c hc => h.2 c (List.mem_of_mem_filter hc)⟩

theorem mem_mset {α : Type} {m : List (Nat × α)} {k : Nat} {v : α} {c : Nat × α} (h : c ∈ mset m k v) : c = (k, v) ∨ c ∈ m := by
  induction m with
  | nil => simpa [mset] using h
  | cons d t ih =>
    obtain ⟨k', v'⟩ := d
    simp only [mset] at h
    split at h
    · simpa using h
    · split at h
      · rcases List.mem_cons.1 h with h | h
        · exact .inl h
        · exact .inr (List.mem_cons_of_mem _ h)
      · rcases List.mem_cons.1 h with rfl | h
        · exact .inr (by simp)
        · rcases ih h with h | h
          · exact .inl h
          · exact .inr (List.mem_cons_of_mem _ h)

theorem mset_pairwise {α : Type} {m : List (Nat × α)} (k : Nat) (v : α) (h : m.Pairwise (fun c d => c.1 < d.1)) :
    (mset m k v).Pairwise (fun c d => c.1 < d.1) := by
  induction m with
  | nil => simp [mset]
  | cons d t ih =>
    obtain ⟨k', v'⟩ := d
    have p := List.pairwise_cons.1 h
    simp only [mset]
    split
    · next hk =>
      refine List.pairwise_cons.2 ⟨fun x hx => ?_, h⟩
      rcases List.mem_cons.1 hx with rfl | hx
      · exact hk
      · exact Nat.lt_trans hk (p.1 x hx)
    · split
      · next _ he => subst he; exact List.pairwise_cons.2 ⟨p.1, p.2⟩
      · next h1 h2 =>
        refine List.pairwise_cons.2 ⟨fun x hx => ?_, ih p.2⟩
        rcases mem_mset hx with rfl | hx
        · show k' < k; omega
        · exact p.1 x hx

/-- Writing one byte keeps the canonical form (log 8). -/
theorem wf_cellWrite {m : List Host.Cell} (k : Nat) (b : Byte) (h : Memory.wf m = true) : Memory.wf (cellWrite m k b) = true := by
  unfold cellWrite
  split
  · exact wf_filter _ h
  · next hb =>
    rw [wf_iff] at h ⊢
    refine ⟨mset_pairwise k b h.1, fun c hc => ?_⟩
    rcases mem_mset hc with rfl | hc
    · exact hb
    · exact h.2 c hc

theorem wf_writeCells (s : State) (m : List Host.Cell) (a : Nat) (l : List Byte) (h : Memory.wf m = true) :
    Memory.wf (writeCells s m a l) = true := by
  induction l generalizing m a with
  | nil => exact h
  | cons b t ih => exact ih _ _ (wf_cellWrite _ _ h)

/-- Every operation on memory keeps the invariant of the state. -/
theorem memWrite_inv {s : State} (a : Nat) (l : List Byte) (h : s.Inv) : (memWrite s a l).Inv := wf_writeCells _ _ _ _ h
theorem memZero_inv {s : State} (a n : Nat) (h : s.Inv) : (memZero s a n).Inv := memWrite_inv _ _ h
theorem dropCells_inv {s : State} (p : Nat → Bool) (h : s.Inv) : (dropCells p s).Inv := wf_filter _ h
theorem inv_of_cells {s t : State} (e : t.mem.cells = s.mem.cells) (h : s.Inv) : t.Inv := by unfold State.Inv; rw [e]; exact h
theorem reset_inv : State.reset.Inv := rfl

/-! A byte reads back what was written to it, and another byte what it held. -/

theorem mget_mset {α : Type} (m : List (Nat × α)) (k j : Nat) (v : α) (h : m.Pairwise (fun c d => c.1 < d.1)) :
    mget (mset m k v) j = if j = k then some v else mget m j := by
  induction m with
  | nil => simp [mset, mget, eq_comm]
  | cons d t ih =>
    obtain ⟨k', v'⟩ := d
    have p := List.pairwise_cons.1 h
    simp only [mset]
    split
    · next hk =>
      by_cases e : j = k
      · simp [mget, e]
      · have e' : ¬ k = j := fun x => e x.symm
        simp [mget, e, e']
    · split
      · next _ he =>
        subst he
        by_cases e : j = k
        · simp [mget, e]
        · have e' : ¬ k = j := fun x => e x.symm
          simp [mget, e, e']
      · next h1 h2 =>
        simp only [mget]
        rw [ih p.2]
        by_cases e : k' = j
        · have : ¬ j = k := by omega
          simp [e, this]
        · simp [e]

theorem mget_mdel {α : Type} (m : List (Nat × α)) (k j : Nat) : mget (mdel m k) j = if j = k then none else mget m j := by
  unfold mdel
  induction m with
  | nil => simp [mget]
  | cons d t ih =>
    obtain ⟨k', v'⟩ := d
    by_cases e : k' = k
    · subst e
      by_cases e2 : j = k'
      · rw [e2] at ih ⊢; simpa using ih
      · simp only [bne_self_eq_false, Bool.false_eq_true, not_false_eq_true, List.filter_cons_of_neg, ih, e2, if_false, mget]
        rw [if_neg (fun x => e2 x.symm)]
    · have : (k' != k) = true := by simpa using e
      simp only [List.filter_cons, this, if_true, mget, ih]
      by_cases e2 : k' = j
      · subst e2; simp [e]
      · simp [e2]

/-- One byte of memory after a write of one byte. -/
theorem cellRead_cellWrite {m : List Host.Cell} (k j : Nat) (b : Byte) (h : Memory.wf m = true) :
    cellRead (cellWrite m k b) j = if j = k then b else cellRead m j := by
  have p := ((wf_iff m).1 h).1
  unfold cellRead cellWrite
  by_cases hb : b = 0
  · rw [if_pos hb, mget_mdel]
    by_cases e : j = k <;> simp [e, hb]
  · rw [if_neg hb, mget_mset _ _ _ _ p]
    by_cases e : j = k <;> simp [e]

end Sys2Proof.Machine
end

