-- ==== Sys2Proof/WellFormed.lean ====
section
/-! DEFINITION. Which commands are well formed: every index and field within the range the spec gives it. -/

namespace Sys2Proof

/-- A command whose operands are within their ranges. -/
def Instr.wf : Instr → Bool
  | .inputTrip _ _ _ => true
  | .inputRangeExcursion _ => true
  | .holdUpEnd => true
  | .platformEventRecordWrite _ => true
  | .eepromArbitrationRetry _ => true
  | .inputSwitchClose => true
  | .softStartComplete => true
  | .mrstNAssert _ => true
  | .mrstNRelease => true
  | .coldBringUpStart => true
  | .switchSoftStartDone i _ _ => decide (i < 24)
  | .switchSoftStartTimeout i => decide (i < 24)
  | .switchCurrentLimitLatch i => decide (i < 24)
  | .dimmRemovedWhileOn d => decide (d < 16)
  | .bayLatchOpen c => decide (c < 8)
  | .baySwitchDelayedOpen c => decide (c < 8)
  | .presentNChange p _ => decide (p < 12)
  | .mgmtPortLinkChange _ _ => true
  | .j3Send _ ch msg => decide (ch < 1024) && msg.length == 64
  | .j3Done _ ch mseq code => decide (ch < 1024) && decide (mseq < 256) && decide (code < 65536)
  | .phaseLoss r p => decide (r < 12) && decide (p < 7)
  | .rowShort r => decide (r < 12)
  | .rowRetryBegin r => decide (r < 12)
  | .rowRetrySuccess r => decide (r < 12)
  | .stagingStart h _ => decide (h < 2)
  | .stagingHalfRateStart h _ => decide (h < 2)
  | .headerStageClose h => decide (h < 2)
  | .rowUsable r => decide (r < 12)
  | .powerWindowEnd _ => true
  | .sharedRailLost _ => true
  | .sharedRailRetry _ _ => true
  | .vspineLost => true
  | .refLoss => true
  | .clockHold r _ _ => decide (r < 12)
  | .clkStepAtWrite next part _ => decide (next < 8) && decide (part < 3)
  | .stepWithdraw => true
  | .stepChangeTick => true
  | .stepSettled => true
  | .idleEntry r => decide (r < 12)
  | .napEntry r => decide (r < 12)
  | .sleepEntry r => decide (r < 12)
  | .timebaseEventWake r => decide (r < 12)
  | .halfPark h => decide (h < 2)
  | .seamUnparkComplete h => decide (h < 2)
  | .bu0 fail0 fail1 _ _ _ => decide (fail0 < 7) && decide (fail1 < 7)
  | .bu1 _ => true
  | .bu2 _ _ _ _ => true
  | .bu3 _ => true
  | .bu4 _ => true
  | .bu5 _ => true
  | .bu6 _ => true
  | .bu7 _ => true
  | .bu8 _ => true
  | .bu9 => true
  | .bu10 => true
  | .stageTimeout => true
  | .astRunWrite r t _ => decide (r < 12) && decide (t < 4)
  | .astRunFetch r t _ => decide (r < 12) && decide (t < 4)
  | .astQpushWrite r t _ part => decide (r < 12) && decide (t < 4) && decide (part < 3)
  | .nopMark r t i => decide (r < 12) && decide (t < 4) && decide (i < 64)
  | .fence r t i => decide (r < 12) && decide (t < 4) && decide (i < 64)
  | .resv r t i => decide (r < 12) && decide (t < 4) && decide (i < 64)
  | .rels r t i => decide (r < 12) && decide (t < 4) && decide (i < 64)
  | .wload r t i _ => decide (r < 12) && decide (t < 4) && decide (i < 64)
  | .wloadComplete r t i => decide (r < 12) && decide (t < 4) && decide (i < 64)
  | .epi r t i _ => decide (r < 12) && decide (t < 4) && decide (i < 64)
  | .epiComplete r t i => decide (r < 12) && decide (t < 4) && decide (i < 64)
  | .decideSet r t i => decide (r < 12) && decide (t < 4) && decide (i < 64)
  | .group r t i => decide (r < 12) && decide (t < 4) && decide (i < 64)
  | .matv r t i _ => decide (r < 12) && decide (t < 4) && decide (i < 64)
  | .deciderEvaluation r t i w => decide (r < 12) && decide (t < 4) && decide (i < 64) && decide (w < 128)
  | .matvComplete r t i => decide (r < 12) && decide (t < 4) && decide (i < 64)
  | .pairCompare r pair _ => decide (r < 12) && decide (pair < 2)
  | .astWaitTimeout r t i => decide (r < 12) && decide (t < 4) && decide (i < 64)
  | .astRunTimeout r t i => decide (r < 12) && decide (t < 4) && decide (i < 64)
  | .primroseExecute r c bad => decide (r < 12) && decide (c < 8) && decide (bad < 3)
  | .primroseMemoryAccess r c err => decide (r < 12) && decide (c < 8) && decide (err < 3)
  | .rpop r c rd rs1 rs2 => decide (r < 12) && decide (c < 8) && decide (rd < 32) && decide (rs1 < 32) && decide (rs2 < 32)
  | .rpush r c rd rs1 rs2 => decide (r < 12) && decide (c < 8) && decide (rd < 32) && decide (rs1 < 32) && decide (rs2 < 32)
  | .sresv r c rd rs1 rs2 => decide (r < 12) && decide (c < 8) && decide (rd < 32) && decide (rs1 < 32) && decide (rs2 < 32)
  | .sresvDeadline r c => decide (r < 12) && decide (c < 8)
  | .srels r c rd rs1 => decide (r < 12) && decide (c < 8) && decide (rd < 32) && decide (rs1 < 32)
  | .tbwait r c rd rs1 rs2 => decide (r < 12) && decide (c < 8) && decide (rd < 32) && decide (rs1 < 32) && decide (rs2 < 32)
  | .tbwaitEnd r c => decide (r < 12) && decide (c < 8)
  | .wdkick r c => decide (r < 12) && decide (c < 8)
  | .badd r c rd rs1 rs2 => decide (r < 12) && decide (c < 8) && decide (rd < 32) && decide (rs1 < 32) && decide (rs2 < 32)
  | .bscl r c rd rs1 rs2 => decide (r < 12) && decide (c < 8) && decide (rd < 32) && decide (rs1 < 32) && decide (rs2 < 32)
  | .bmax r c rd rs1 rs2 => decide (r < 12) && decide (c < 8) && decide (rd < 32) && decide (rs1 < 32) && decide (rs2 < 32)
  | .blin r c rd rs1 rs2 rs3 => decide (r < 12) && decide (c < 8) && decide (rd < 32) && decide (rs1 < 32) && decide (rs2 < 32) && decide (rs3 < 32)
  | .fhash r c rd rs1 rs2 rs3 fn => decide (r < 12) && decide (c < 8) && decide (rd < 32) && decide (rs1 < 32) && decide (rs2 < 32) && decide (rs3 < 32) && decide (fn < 4)
  | .prmWatchdogExpiry r c => decide (r < 12) && decide (c < 8)
  | .haltedCoreRequestsEnd r c => decide (r < 12) && decide (c < 8)
  | .scoreboardGrant r i _ => decide (r < 12) && decide (i < 80)
  | .dmaCopy r e _ => decide (r < 12) && decide (e < 4)
  | .dmaSkew r e _ => decide (r < 12) && decide (e < 4)
  | .dmaUnskew r e _ => decide (r < 12) && decide (e < 4)
  | .dmaFill r e _ => decide (r < 12) && decide (e < 4)
  | .dmaDescriptorStart r e => decide (r < 12) && decide (e < 4)
  | .dmaComplete r e err _ => decide (r < 12) && decide (e < 4) && decide (err < 3)
  | .dmaCplPop r e => decide (r < 12) && decide (e < 4)
  | .dmaDescriptorTimeout r e _ => decide (r < 12) && decide (e < 4)
  | .ingressTransaction r a _ _ => decide (r < 12) && decide (a < 16)
  | .netTimeoutExpiry kind _ _ => decide (kind < 6)
  | .bankRetEntry r b => decide (r < 12) && decide (b < 40)
  | .bankTransitionComplete r b => decide (r < 12) && decide (b < 40)
  | .bankScrubEnd r b => decide (r < 12) && decide (b < 40)
  | .ucieFlitReceive m seq _ _ cvc ccnt => decide (m < 16) && decide (seq < 1024) && decide (cvc < 4) && decide (ccnt < 16)
  | .memoryAccess _ _ _ _ _ _ => true
  | .pageRemapComplete _ => true
  | .hbmTempRead u _ => decide (u < 8)
  | .ddrScrubCountRead d _ _ => decide (d < 16)
  | .fetchCommand r c => decide (r < 12) && decide (c < 8)
  | .fetchDispatch b e => decide (b < 2) && decide (e < 4)
  | .fetchPool b e => decide (b < 2) && decide (e < 4)
  | .fetchBlockGather b e _ => decide (b < 2) && decide (e < 4)
  | .fetchBlockMove b e _ => decide (b < 2) && decide (e < 4)
  | .rowReadComplete b e _ => decide (b < 2) && decide (e < 4)
  | .fetchComplete b e => decide (b < 2) && decide (e < 4)
  | .migrationPageCopyComplete d => decide (d < 16)
  | .channelTestComplete d _ _ => decide (d < 16)
  | .flashReadComplete b e step => decide (b < 2) && decide (e < 4) && decide (step < 6)
  | .flashBatchCommit _ _ => true
  | .flashProgramEraseComplete c k die fail _ _ _ _ _ => decide (c < 8) && decide (k < 4) && decide (die < 16) && decide (fail < 3)
  | .flashRelocationComplete _ _ c k die _ => decide (c < 8) && decide (k < 4) && decide (die < 16)
  | .flashRetentionExpiry c k _ => decide (c < 8) && decide (k < 4)
  | .flashInterfaceTraining c k _ => decide (c < 8) && decide (k < 4)
  | .flashMapReloadComplete b _ => decide (b < 2)
  | .cardTestComplete c _ _ _ _ => decide (c < 8)
  | .fabricFrameReceive port _ _ _ => decide (port < 12)
  | .fabricControlFlit port ack _ _ lcmd larg => decide (port < 12) && decide (ack < 1024) && decide (lcmd < 3) && decide (larg < 8)
  | .laneSwap port lane _ => decide (port < 12) && decide (lane < 8)
  | .laneSwapEffective port _ => decide (port < 12)
  | .laneReturn port lane _ => decide (port < 12) && decide (lane < 8)
  | .laneBerWindowEnd port _ _ => decide (port < 12)
  | .laneQualificationEnd port _ => decide (port < 12)
  | .fabricPacketForward inPort _ => decide (inPort < 14)
  | .fabricWrite port _ => decide (port < 12)
  | .fabricReadReq port _ => decide (port < 12)
  | .fabricReadRsp port _ => decide (port < 12)
  | .fabricAck port _ => decide (port < 12)
  | .fabricFetch port _ => decide (port < 12)
  | .fabricMsg port _ => decide (port < 12)
  | .fabricToken port _ => decide (port < 12)
  | .fabricPoison port _ => decide (port < 12)
  | .fabricWitrec port _ => decide (port < 12)
  | .fabStallExpiry port => decide (port < 12)
  | .fabRequestTimeout b tag => decide (b < 2) && decide (tag < 65536)
  | .injectionStepEval => true
  | .routeCommitTick => true
  | .routeVersionFree b => decide (b < 2)
  | .bindingSendStart n => decide (n < 65536)
  | .bindingSendComplete n => decide (n < 65536)
  | .portLinkLoss port => decide (port < 12)
  | .portRetrainStart port => decide (port < 12)
  | .portQualificationEnd port _ _ => decide (port < 12)
  | .chaviFrameReceive _ _ seq _ ack => decide (seq < 4096) && decide (ack < 4096)
  | .chaviLinkUp => true
  | .chaviLinkDown cause => decide (cause < 3)
  | .credit _ _ => true
  | .mbxSend _ ch msg => decide (ch < 1024) && msg.length == 64
  | .mbxDone _ ch mseq code => decide (ch < 1024) && decide (mseq < 256) && decide (code < 65536)
  | .dwRead _ _ _ _ => true
  | .hwrite _ win _ _ _ => decide (win < 4096)
  | .hread _ win _ _ _ => decide (win < 4096)
  | .mbxAckWrite n seq code => decide (n < 1024) && decide (seq < 256) && decide (code < 65536)
  | .mbxTakeRead n => decide (n < 1024)
  | .mbxPeerResend n => decide (n < 1024)
  | .reqTail _ ring value rsv => decide (ring < 65536) && decide (value < 65536) && decide (rsv < 1073741824)
  | .reqAdd _ ring value rsv => decide (ring < 65536) && decide (value < 65536) && decide (rsv < 1073741824)
  | .cplHead _ ring value rsv => decide (ring < 65536) && decide (value < 65536) && decide (rsv < 1073741824)
  | .reqTimeout n _ => decide (n < 65536)
  | .jobTimeout job => decide (job < 4294967296)
  | .deviceInfo _ => true
  | .defectMap _ => true
  | .bootLog _ half => decide (half < 256)
  | .powerStatus _ => true
  | .clockStatus _ => true
  | .fabricStatus _ b => decide (b < 256)
  | .flashHealth _ => true
  | .errorLogRead _ _ max => decide (max < 65536)
  | .rowPowerPolicy _ r _ _ _ => decide (r < 256)
  | .rowPower _ r st => decide (r < 256) && decide (st < 256)
  | .rowRearm _ r => decide (r < 256)
  | .bankPower _ r b st => decide (r < 256) && decide (b < 256) && decide (st < 256)
  | .powerCap _ _ _ _ _ => true
  | .stepLimit _ min max => decide (min < 256) && decide (max < 256)
  | .energyReport _ _ _ => true
  | .powerGroup _ op grp _ => decide (op < 256) && decide (grp < 65536)
  | .watchdog _ r slot _ => decide (r < 256) && decide (slot < 256)
  | .programLoad _ r prog flags _ units _ _ => decide (r < 256) && decide (prog < 256) && decide (flags < 256) && decide (units < 65536)
  | .programUnload _ r prog => decide (r < 256) && decide (prog < 256)
  | .selfTest _ u => decide (u < 65536)
  | .unitRecover _ u _ => decide (u < 65536)
  | .timeoutSet _ level _ _ => decide (level < 256)
  | .recalibrate _ r what => decide (r < 256) && decide (what < 256)
  | .defectClear _ u => decide (u < 65536)
  | .restart _ kind => decide (kind < 256)
  | .handoff _ image => decide (image < 256)
  | .handoffImageVerified => true
  | .memClaim _ _ _ => true
  | .memRelease _ _ _ => true
  | .pageFree _ _ _ => true
  | .tableCreate _ _ bridge home type hash _ _ dim fmt fill _ _ _ _ _ _ _ => decide (bridge < 256) && decide (home < 256) && decide (type < 256) && decide (hash < 256) && decide (dim < 65536) && decide (fmt < 256) && decide (fill < 256)
  | .tableUpdate _ _ _ _ => true
  | .tableDestroy _ _ => true
  | .channelDrain _ d _ => decide (d < 256)
  | .channelReturn _ d _ _ => decide (d < 256)
  | .locate _ kind index on => decide (kind < 256) && decide (index < 256) && decide (on < 256)
  | .flashPolicy _ b _ => decide (b < 256)
  | .cardDrain _ c => decide (c < 256)
  | .cardReturn _ c flags _ => decide (c < 256) && decide (flags < 256)
  | .endpointAssign _ ep => decide (ep < 65536)
  | .routeStage _ b _ _ _ => decide (b < 256)
  | .routeCommit _ _ _ => true
  | .mapWindow _ win perm home _ _ _ => decide (win < 65536) && decide (perm < 256) && decide (home < 256)
  | .unmapWindow _ win => decide (win < 65536)
  | .binding _ bind op r b comp fmt flow _ dlen _ slen dst win _ _ _ v k _ notify ndst _ => decide (bind < 65536) && decide (op < 256) && decide (r < 256) && decide (b < 256) && decide (comp < 256) && decide (fmt < 256) && decide (flow < 256) && decide (dlen < 65536) && decide (slen < 65536) && decide (dst < 65536) && decide (win < 65536) && decide (v < 65536) && decide (k < 65536) && decide (notify < 256) && decide (ndst < 65536)
  | .fabricPolicy _ b q1 q2 q3 q4 => decide (b < 256) && decide (q1 < 65536) && decide (q2 < 65536) && decide (q3 < 65536) && decide (q4 < 65536)
  | .channelConfigure _ ch rcv flags smatch rdest rchan => decide (ch < 65536) && decide (rcv < 256) && decide (flags < 256) && decide (smatch < 65536) && decide (rdest < 65536) && decide (rchan < 65536)
  | .ringCreate _ ring owner slots log2 cqtarget cqchan notify dbchavi _ _ _ _ => decide (ring < 65536) && decide (owner < 256) && decide (slots < 256) && decide (log2 < 256) && decide (cqtarget < 256) && decide (cqchan < 65536) && decide (notify < 256) && decide (dbchavi < 256)
  | .ringDestroy _ ring => decide (ring < 65536)
  | .ringModify _ ring slots notify dbchavi _ _ => decide (ring < 65536) && decide (slots < 256) && decide (notify < 256) && decide (dbchavi < 256)
  | .witnessRing _ w pred flags _ _ _ _ => decide (w < 256) && decide (pred < 256) && decide (flags < 256)
  | .witnessSeal _ w => decide (w < 256)
  | .attestQuote _ nonce => nonce.length == 32
  | .debugUnlock _ _ _ => true
  | .keyRevoke _ _ _ => true
  | .replyRetry _ => true
  | .poisonDeadline => true
  | .heldRpushResolve r c => decide (r < 12) && decide (c < 8)
  | .targetedTestStart u => decide (u < 65536)
  | .testNeedsTimeout u => decide (u < 65536)
  | .targetedTestRetry u => decide (u < 65536)
  | .targetedTestEnd u _ _ _ => decide (u < 65536)
  | .slotRecovery _ r t => decide (r < 12) && decide (t < 8)
  | .mgmtWatchdogRestart => true
  | .mgmtWatchdogExpiry _ => true
  | .mcHalt _ => true
  | .failoverResume => true
  | .powerFastCheck _ => true
  | .phaseMarker => true
  | .thermalSensorRead k _ => decide (k < 85)
  | .thermalCeilingRaise => true
  | .peerDiscovery => true
  | .tokenReportPeriod => true
  | .witnessItem _ => true
  | .witnessItemExpiry _ => true
  | .witnessEvaluation _ => true
  | .fetchItemWaitExpiry _ => true
  | .stallHoldExpiry w => decide (w < 16)
  | .witnessEntryWrite w => decide (w < 16)
  | .sealTimer w => decide (w < 16)
  | .sealWrite => true
  | .imgReqResponse idx _ _ _ => decide (idx < 8)
  | .imgReqResend => true
  | .sesHello _ _ _ _ => true
  | .sesOfferSend => true
  | .sesProof _ _ _ _ => true
  | .authLockoutEnd => true
  | .noiseHealthChange _ => true
  | .dbgRead _ _ _ => true
  | .dbgWrite _ _ _ => true
  | .spnAttnClearbelow _ => true
  | .spnTbLowRead _ => true
  | .astPlanesRead r t => decide (r < 12) && decide (t < 4)
  | .scbStatusRead r => decide (r < 12)
  | .clkRowRead r => decide (r < 12)
  | .witCntRead n => decide (n < 16)
  | .registerWrite a v => decide (a < 18446744073709551616) && decide (v < 18446744073709551616)
  | .attnNRelease => true
  | .attnEventDeferred => true
  | .dimmFault d => decide (d < 16)
  | .qualificationSessionRequest port => decide (port < 12)
  | .quoteSigningComplete => true
  | .bridgeReloadComplete b _ => decide (b < 2)
  | .recalibrationComplete _ r _ => decide (r < 12)

end Sys2Proof
end

