-- ==== Sys2Proof/Tests/Slice0.lean ====
section
/-! SUPPORT. Tests: the well-formedness checks, and for every clause of every statement that has hypotheses a state and operands that
meet all of them together. -/

set_option linter.all false
set_option maxRecDepth 10000

namespace Sys2Proof.Tests
set_option Elab.async false
open Sys2Proof Sys2Proof.Machine

/-- A module in operation: rails up, rows active, firmware running. -/
def up : State := { State.reset with
  power := { State.reset.power with pwrOk := true, bu2Done := true, rails := List.replicate 11 { inReg := true }, conv := List.replicate 12 { on := true, st := .on }, j4Ok := true, j3Up := true }
  boot := { stage := 12, st := .ready, bootNo := 1 }
  rows := List.replicate 12 { st := .active, banks := List.replicate 40 { st := .on } }
  dmap := { epoch := 1, rows := List.replicate 12 { ast := [.active, .active, .active, .active, .spare], astSlots := [some 0, some 1, some 2, some 3], prm := List.replicate 8 .active ++ [.spare, .spare], prmSlots := (List.range 8).map some } }
  mem := { units := List.replicate 24 { st := .inService } }
  fab := { State.reset.fab with epBase := some 16, ports := List.replicate 12 { st := .up, laneOk := 0xFF } }
  chavi := { up := true }
  gw := { mc := [.running, .standby], running := some 0 } }
def at_ (tb : Nat) (s : State) : State := s.modClk (fun c => { c with tb := tb })
def sw (i : Nat) (x : Switch) (s : State) : State := s.modPower (fun p => { p with switches := p.switches.set i x })
def cv (r : Nat) (x : Conv) (s : State) : State := s.modPower (fun p => { p with conv := p.conv.set r x })
def hf (h : Nat) (x : Half) (s : State) : State := s.modPower (fun p => { p with halves := p.halves.set h x })
def rl (k : Nat) (x : Rail) (s : State) : State := s.modPower (fun p => { p with rails := p.rails.set k x })
def rw_ (r : Nat) (f : Row → Row) (s : State) : State := s.modRow r f
/-- A word from its fields. -/
def wd (l : List (Nat × Nat)) : BitVec 128 := BitVec.ofNat 128 ((l.map (fun x => x.1 * 2 ^ x.2)).sum)
/-- Tile t of row r, in an otherwise running module. -/
def tl (r t : Nat) (x : Tile) (s : State) : State := rw_ r (fun w => { w with tiles := w.tiles.set t x }) s
/-- A scoreboard entry for everything, read below line 4096 and write above. -/
def cov (r t : Nat) (s : State) : State := rw_ r (fun w => { w with scb := [{ line := 0, len := 512, wr := false, owner := ownAst t, tb := 0 }, { line := 4096, len := 1024, wr := true, owner := ownAst t, tb := 0 }] }) s
/-- Core c of row r. -/
def cr (r c : Nat) (x : Core) (s : State) : State := rw_ r (fun w => { w with cores := w.cores.set c x }) s
/-- A running core with some registers. -/
def regs (l : List (Nat × Nat)) : Core := l.foldl (fun x p => x.setX p.1 p.2) { st := .running, prog := some 0 }
/-- Bytes of a little-endian word. -/
def le (n v : Nat) : List Byte := (List.range n).map (fun i => BitVec.ofNat 8 (v / 256 ^ i))
/-- A ring. -/
def rg (n : Nat) (g : RqRing) (s : State) : State := s.modRings (fun x => { x with rings := mset x.rings n g })

theorem nth_beyond {α : Type} [Inhabited α] (l : List α) (i : Nat) (h : l.length ≤ i) : nth l i = default := by
  simp [nth, List.getD, List.getElem?_eq_none h]

/-- What holds of the 12 rows and of a row that is not there holds of every row. -/
theorem scb_all (s : State) (hl : s.rows.length = 12) (h : ∀ q, q < 12 → ScbOk (s.row q)) (q : Nat) : ScbOk (s.row q) := by
  by_cases hq : q < 12
  · exact h q hq
  · rw [State.row, nth_beyond _ _ (by omega)]; decide

/-- The same of the 16 Witness rings. -/
theorem wit_all (s : State) (hl : s.wit.rings.length = 16) (h : ∀ q, q < 16 → (s.wring q).st ≠ .opened) (q : Nat) :
    (s.wring q).st ≠ .opened := by
  by_cases hq : q < 16
  · exact h q hq
  · rw [State.wring, nth_beyond _ _ (by omega)]; decide

/-! Worked examples of the spec. -/

/-- 00, the worked example of SPN_CAPS: an SV6-M4 reads 0x03CF_1140 once BU1 has run. -/
theorem test_caps_of_an_m4 :
    spnCaps { State.reset with fuse := { variant := .m4 }, boot := { State.reset.boot with capsLoaded := true } } = 0x03CF1140 := by decide

/-- 05, the worked example of row S2: A4 bad by fuse, A1 voted down and failed by the arbiter. The record's states, class, counts and slots. -/
theorem test_row_record_of_s2 :
    (bu3Row { State.reset with fuse := { rows := (List.replicate 12 {}).set 8 { ast := [4] } } } 8 { failVotes := [(2, 1)], arbFail := [1] }).1.toBytes
      = leBytes 4 0x00020030 ++ leBytes 8 0x0000001100000000 ++ leBytes 8 0xFFFFFFFFFF ++ leBytes 1 15 ++ leBytes 1 1 ++ leBytes 1 3
        ++ leBytes 1 8 ++ leBytes 2 0x0ED0 ++ leBytes 4 0x76543210 ++ leBytes 2 0x7FFF := by decide +kernel

/-- The same example: DEFECT_NEW with UNIT 0x1801, ROW_DEGRADED with UNIT 0x5800 and DETAIL 0x0028_0803. -/
theorem test_findings_of_s2 :
    (bu3Row { State.reset with fuse := { rows := (List.replicate 12 {}).set 8 { ast := [4] } } } 8 { failVotes := [(2, 1)], arbFail := [1] }).2.1.map
      (fun f => (f.code, f.unit)) = [(Code.defectNew.val, 0x1801), (Code.rowDegraded.val, 0x5800)] := by decide +kernel

/-- 10, the worked example of the hash FH0 over 1,000,000 rows: x xor s = 1 gives row 618,033, 2 gives row 236,067. -/
theorem test_fhash_rows : fhash 0 1 0 1000000 = 618033 ∧ fhash 0 2 0 1000000 = 236067 := by decide +kernel

/-- 10, the worked example of BLIN: 3.0 × 0.30859375 + 2^−12 rounds up to 238/256, BF16 0x3F6E. -/
theorem test_blin_value : boundOp 3 0x4040 0x3E9E 0x3980 = 0x3F6E := by decide +kernel

/-- The same example's instruction word, 0x68C5_B52B with rd = x10, rs1 = x11, rs2 = x12 and rs3 = x13, run by a core. -/
theorem test_blin_word :
    (match exec (.primroseExecute 11 7 0) (cr 11 7 { regs [(11, 0x4040), (12, 0x3E9E), (13, 0x3980)] with
        lmem := [(0, 0x2B), (1, 0xB5), (2, 0xC5), (3, 0x68)] } up) with
      | .next t => ((t.core 11 7).xr 10).toNat
      | _ => 0) = 0x3F6E := by decide +kernel

/-- 11, the worked example of SKEW: line 0x4_0000 of S1 lies at scratchpad address 0x2400_0000, and DMA0 of S1 has owner code 0x5C. -/
theorem test_scratchpad_address : lnAddr 7 0x40000 = 0x24000000 ∧ ownDma 7 0 = 0x5C := by decide

/-- 06 and 13: a BQ8 row of 128 elements takes 136 bytes, a BQ4 row 72, and a row group of 136-byte rows holds 120. -/
theorem test_row_bytes : storedBytes 128 6 = 136 ∧ storedBytes 128 5 = 72 ∧ groupRows 136 = 120 := by decide

/-- 12, the worked example of the row cache: a set of 192-byte slots takes 1,600 bytes, and the tag line of row 618,033 lies at
0x1020_0058_B240, in stack H2. -/
theorem test_row_cache_set :
    setBytes { rowBytes := 136 } = 1600 ∧ setAddr { rowBytes := 136, part := 4096, partBase := 0x102000000000 } 618033 = 0x10200058B240
      ∧ (match place State.reset 0x10200058B240 with | .mem u _ => u | _ => 99) = 2 := by decide +kernel

/-! The step. -/

/-- A command at the front of the queue is taken and run; an empty queue lets one tick pass. -/
theorem test_step_takes_the_front :
    (match step { up with pending := [.holdUpEnd, .mrstNRelease] } with | .next t => t.pending | _ => []) = [.mrstNRelease]
      ∧ (match step up with | .next t => t.tb | _ => 0) = 1 := by decide +kernel

/-- The step from reset, with nothing pending, keeps memory in its canonical form (both premises of the invariant's statement). -/
theorem test_EveryStepKeepsMemoryCanonical : ∃ s t : State, s.Inv ∧ step s = .next t :=
  ⟨{ State.reset with pending := [.holdUpEnd] }, _, (rfl : Memory.wf ([] : List Host.Cell) = true), rfl⟩

/-! An ill-formed term for each check of Instr.wf, with the first value outside the range, is refused. -/

theorem test_ill_formed_1 : ([
  .switchSoftStartDone 24 default default,
  .switchSoftStartTimeout 24,
  .switchCurrentLimitLatch 24,
  .dimmRemovedWhileOn 16,
  .bayLatchOpen 8,
  .baySwitchDelayedOpen 8,
  .presentNChange 12 default,
  .j3Send default 1024 (List.replicate 64 default),
  .j3Send default 0 [],
  .j3Done default 1024 0 0,
  .j3Done default 0 256 0,
  .j3Done default 0 0 65536,
  .phaseLoss 12 0,
  .phaseLoss 0 7,
  .rowShort 12,
  .rowRetryBegin 12,
  .rowRetrySuccess 12,
  .stagingStart 2 default,
  .stagingHalfRateStart 2 default,
  .headerStageClose 2,
  .rowUsable 12,
  .clockHold 12 default default,
  .clkStepAtWrite 8 0 default,
  .clkStepAtWrite 0 3 default,
  .idleEntry 12,
  .napEntry 12,
  .sleepEntry 12,
  .timebaseEventWake 12,
  .halfPark 2,
  .seamUnparkComplete 2,
  .bu0 7 0 default default default,
  .bu0 0 7 default default default,
  .astRunWrite 12 0 default,
  .astRunWrite 0 4 default,
  .astRunFetch 12 0 default,
  .astRunFetch 0 4 default,
  .astQpushWrite 12 0 default 0,
  .astQpushWrite 0 4 default 0,
  .astQpushWrite 0 0 default 3,
  .nopMark 12 0 0,
  .nopMark 0 4 0,
  .nopMark 0 0 64,
  .fence 12 0 0,
  .fence 0 4 0,
  .fence 0 0 64,
  .resv 12 0 0,
  .resv 0 4 0,
  .resv 0 0 64,
  .rels 12 0 0,
  .rels 0 4 0,
  .rels 0 0 64,
  .wload 12 0 0 default,
  .wload 0 4 0 default,
  .wload 0 0 64 default,
  .wloadComplete 12 0 0,
  .wloadComplete 0 4 0,
  .wloadComplete 0 0 64,
  .epi 12 0 0 default,
  .epi 0 4 0 default,
  .epi 0 0 64 default] : List Instr).all (fun c => !c.wf) = true := by decide +kernel

theorem test_ill_formed_2 : ([
  .epiComplete 12 0 0,
  .epiComplete 0 4 0,
  .epiComplete 0 0 64,
  .decideSet 12 0 0,
  .decideSet 0 4 0,
  .decideSet 0 0 64,
  .group 12 0 0,
  .group 0 4 0,
  .group 0 0 64,
  .matv 12 0 0 default,
  .matv 0 4 0 default,
  .matv 0 0 64 default,
  .deciderEvaluation 12 0 0 0,
  .deciderEvaluation 0 4 0 0,
  .deciderEvaluation 0 0 64 0,
  .deciderEvaluation 0 0 0 128,
  .matvComplete 12 0 0,
  .matvComplete 0 4 0,
  .matvComplete 0 0 64,
  .pairCompare 12 0 default,
  .pairCompare 0 2 default,
  .astWaitTimeout 12 0 0,
  .astWaitTimeout 0 4 0,
  .astWaitTimeout 0 0 64,
  .astRunTimeout 12 0 0,
  .astRunTimeout 0 4 0,
  .astRunTimeout 0 0 64,
  .primroseExecute 12 0 0,
  .primroseExecute 0 8 0,
  .primroseExecute 0 0 3,
  .primroseMemoryAccess 12 0 0,
  .primroseMemoryAccess 0 8 0,
  .primroseMemoryAccess 0 0 3,
  .rpop 12 0 0 0 0,
  .rpop 0 8 0 0 0,
  .rpop 0 0 32 0 0,
  .rpop 0 0 0 32 0,
  .rpop 0 0 0 0 32,
  .rpush 12 0 0 0 0,
  .rpush 0 8 0 0 0,
  .rpush 0 0 32 0 0,
  .rpush 0 0 0 32 0,
  .rpush 0 0 0 0 32,
  .sresv 12 0 0 0 0,
  .sresv 0 8 0 0 0,
  .sresv 0 0 32 0 0,
  .sresv 0 0 0 32 0,
  .sresv 0 0 0 0 32,
  .sresvDeadline 12 0,
  .sresvDeadline 0 8,
  .srels 12 0 0 0,
  .srels 0 8 0 0,
  .srels 0 0 32 0,
  .srels 0 0 0 32,
  .tbwait 12 0 0 0 0,
  .tbwait 0 8 0 0 0,
  .tbwait 0 0 32 0 0,
  .tbwait 0 0 0 32 0,
  .tbwait 0 0 0 0 32,
  .tbwaitEnd 12 0] : List Instr).all (fun c => !c.wf) = true := by decide +kernel

theorem test_ill_formed_3 : ([
  .tbwaitEnd 0 8,
  .wdkick 12 0,
  .wdkick 0 8,
  .badd 12 0 0 0 0,
  .badd 0 8 0 0 0,
  .badd 0 0 32 0 0,
  .badd 0 0 0 32 0,
  .badd 0 0 0 0 32,
  .bscl 12 0 0 0 0,
  .bscl 0 8 0 0 0,
  .bscl 0 0 32 0 0,
  .bscl 0 0 0 32 0,
  .bscl 0 0 0 0 32,
  .bmax 12 0 0 0 0,
  .bmax 0 8 0 0 0,
  .bmax 0 0 32 0 0,
  .bmax 0 0 0 32 0,
  .bmax 0 0 0 0 32,
  .blin 12 0 0 0 0 0,
  .blin 0 8 0 0 0 0,
  .blin 0 0 32 0 0 0,
  .blin 0 0 0 32 0 0,
  .blin 0 0 0 0 32 0,
  .blin 0 0 0 0 0 32,
  .fhash 12 0 0 0 0 0 0,
  .fhash 0 8 0 0 0 0 0,
  .fhash 0 0 32 0 0 0 0,
  .fhash 0 0 0 32 0 0 0,
  .fhash 0 0 0 0 32 0 0,
  .fhash 0 0 0 0 0 32 0,
  .fhash 0 0 0 0 0 0 4,
  .prmWatchdogExpiry 12 0,
  .prmWatchdogExpiry 0 8,
  .haltedCoreRequestsEnd 12 0,
  .haltedCoreRequestsEnd 0 8,
  .scoreboardGrant 12 0 default,
  .scoreboardGrant 0 80 default,
  .dmaCopy 12 0 default,
  .dmaCopy 0 4 default,
  .dmaSkew 12 0 default,
  .dmaSkew 0 4 default,
  .dmaUnskew 12 0 default,
  .dmaUnskew 0 4 default,
  .dmaFill 12 0 default,
  .dmaFill 0 4 default,
  .dmaDescriptorStart 12 0,
  .dmaDescriptorStart 0 4,
  .dmaComplete 12 0 0 default,
  .dmaComplete 0 4 0 default,
  .dmaComplete 0 0 3 default,
  .dmaCplPop 12 0,
  .dmaCplPop 0 4,
  .dmaDescriptorTimeout 12 0 default,
  .dmaDescriptorTimeout 0 4 default,
  .ingressTransaction 12 0 default default,
  .ingressTransaction 0 16 default default,
  .netTimeoutExpiry 6 default default,
  .bankRetEntry 12 0,
  .bankRetEntry 0 40,
  .bankTransitionComplete 12 0] : List Instr).all (fun c => !c.wf) = true := by decide +kernel

theorem test_ill_formed_4 : ([
  .bankTransitionComplete 0 40,
  .bankScrubEnd 12 0,
  .bankScrubEnd 0 40,
  .ucieFlitReceive 16 0 default default 0 0,
  .ucieFlitReceive 0 1024 default default 0 0,
  .ucieFlitReceive 0 0 default default 4 0,
  .ucieFlitReceive 0 0 default default 0 16,
  .hbmTempRead 8 default,
  .ddrScrubCountRead 16 default default,
  .fetchCommand 12 0,
  .fetchCommand 0 8,
  .fetchDispatch 2 0,
  .fetchDispatch 0 4,
  .fetchPool 2 0,
  .fetchPool 0 4,
  .fetchBlockGather 2 0 default,
  .fetchBlockGather 0 4 default,
  .fetchBlockMove 2 0 default,
  .fetchBlockMove 0 4 default,
  .rowReadComplete 2 0 default,
  .rowReadComplete 0 4 default,
  .fetchComplete 2 0,
  .fetchComplete 0 4,
  .migrationPageCopyComplete 16,
  .channelTestComplete 16 default default,
  .flashReadComplete 2 0 0,
  .flashReadComplete 0 4 0,
  .flashReadComplete 0 0 6,
  .flashProgramEraseComplete 8 0 0 0 default default default default default,
  .flashProgramEraseComplete 0 4 0 0 default default default default default,
  .flashProgramEraseComplete 0 0 16 0 default default default default default,
  .flashProgramEraseComplete 0 0 0 3 default default default default default,
  .flashRelocationComplete default default 8 0 0 default,
  .flashRelocationComplete default default 0 4 0 default,
  .flashRelocationComplete default default 0 0 16 default,
  .flashRetentionExpiry 8 0 default,
  .flashRetentionExpiry 0 4 default,
  .flashInterfaceTraining 8 0 default,
  .flashInterfaceTraining 0 4 default,
  .flashMapReloadComplete 2 default,
  .cardTestComplete 8 default default default default,
  .fabricFrameReceive 12 default default default,
  .fabricControlFlit 12 0 default default 0 0,
  .fabricControlFlit 0 1024 default default 0 0,
  .fabricControlFlit 0 0 default default 3 0,
  .fabricControlFlit 0 0 default default 0 8,
  .laneSwap 12 0 default,
  .laneSwap 0 8 default,
  .laneSwapEffective 12 default,
  .laneReturn 12 0 default,
  .laneReturn 0 8 default,
  .laneBerWindowEnd 12 default default,
  .laneQualificationEnd 12 default,
  .fabricPacketForward 14 default,
  .fabricWrite 12 default,
  .fabricReadReq 12 default,
  .fabricReadRsp 12 default,
  .fabricAck 12 default,
  .fabricFetch 12 default,
  .fabricMsg 12 default] : List Instr).all (fun c => !c.wf) = true := by decide +kernel

theorem test_ill_formed_5 : ([
  .fabricToken 12 default,
  .fabricPoison 12 default,
  .fabricWitrec 12 default,
  .fabStallExpiry 12,
  .fabRequestTimeout 2 0,
  .fabRequestTimeout 0 65536,
  .routeVersionFree 2,
  .bindingSendStart 65536,
  .bindingSendComplete 65536,
  .portLinkLoss 12,
  .portRetrainStart 12,
  .portQualificationEnd 12 default default,
  .chaviFrameReceive default default 4096 default 0,
  .chaviFrameReceive default default 0 default 4096,
  .chaviLinkDown 3,
  .mbxSend default 1024 (List.replicate 64 default),
  .mbxSend default 0 [],
  .mbxDone default 1024 0 0,
  .mbxDone default 0 256 0,
  .mbxDone default 0 0 65536,
  .hwrite default 4096 default default default,
  .hread default 4096 default default default,
  .mbxAckWrite 1024 0 0,
  .mbxAckWrite 0 256 0,
  .mbxAckWrite 0 0 65536,
  .mbxTakeRead 1024,
  .mbxPeerResend 1024,
  .reqTail (.chavi default) 65536 0 0,
  .reqTail (.chavi default) 0 65536 0,
  .reqTail (.chavi default) 0 0 1073741824,
  .reqAdd (.chavi default) 65536 0 0,
  .reqAdd (.chavi default) 0 65536 0,
  .reqAdd (.chavi default) 0 0 1073741824,
  .cplHead (.chavi default) 65536 0 0,
  .cplHead (.chavi default) 0 65536 0,
  .cplHead (.chavi default) 0 0 1073741824,
  .reqTimeout 65536 default,
  .jobTimeout 4294967296,
  .bootLog default 256,
  .fabricStatus default 256,
  .errorLogRead default default 65536,
  .rowPowerPolicy default 256 default default default,
  .rowPower default 256 0,
  .rowPower default 0 256,
  .rowRearm default 256,
  .bankPower default 256 0 0,
  .bankPower default 0 256 0,
  .bankPower default 0 0 256,
  .stepLimit default 256 0,
  .stepLimit default 0 256,
  .powerGroup default 256 0 default,
  .powerGroup default 0 65536 default,
  .watchdog default 256 0 default,
  .watchdog default 0 256 default,
  .programLoad default 256 0 0 default 0 default default,
  .programLoad default 0 256 0 default 0 default default,
  .programLoad default 0 0 256 default 0 default default,
  .programLoad default 0 0 0 default 65536 default default,
  .programUnload default 256 0,
  .programUnload default 0 256] : List Instr).all (fun c => !c.wf) = true := by decide +kernel

theorem test_ill_formed_6 : ([
  .selfTest default 65536,
  .unitRecover default 65536 default,
  .timeoutSet default 256 default default,
  .recalibrate default 256 0,
  .recalibrate default 0 256,
  .defectClear default 65536,
  .restart default 256,
  .handoff default 256,
  .tableCreate default default 256 0 0 0 default default 0 0 0 default default default default default default default,
  .tableCreate default default 0 256 0 0 default default 0 0 0 default default default default default default default,
  .tableCreate default default 0 0 256 0 default default 0 0 0 default default default default default default default,
  .tableCreate default default 0 0 0 256 default default 0 0 0 default default default default default default default,
  .tableCreate default default 0 0 0 0 default default 65536 0 0 default default default default default default default,
  .tableCreate default default 0 0 0 0 default default 0 256 0 default default default default default default default,
  .tableCreate default default 0 0 0 0 default default 0 0 256 default default default default default default default,
  .channelDrain default 256 default,
  .channelReturn default 256 default default,
  .locate default 256 0 0,
  .locate default 0 256 0,
  .locate default 0 0 256,
  .flashPolicy default 256 default,
  .cardDrain default 256,
  .cardReturn default 256 0 default,
  .cardReturn default 0 256 default,
  .endpointAssign default 65536,
  .routeStage default 256 default default default,
  .mapWindow default 65536 0 0 default default default,
  .mapWindow default 0 256 0 default default default,
  .mapWindow default 0 0 256 default default default,
  .unmapWindow default 65536,
  .binding default 65536 0 0 0 0 0 0 default 0 default 0 0 0 default default default 0 0 default 0 0 default,
  .binding default 0 256 0 0 0 0 0 default 0 default 0 0 0 default default default 0 0 default 0 0 default,
  .binding default 0 0 256 0 0 0 0 default 0 default 0 0 0 default default default 0 0 default 0 0 default,
  .binding default 0 0 0 256 0 0 0 default 0 default 0 0 0 default default default 0 0 default 0 0 default,
  .binding default 0 0 0 0 256 0 0 default 0 default 0 0 0 default default default 0 0 default 0 0 default,
  .binding default 0 0 0 0 0 256 0 default 0 default 0 0 0 default default default 0 0 default 0 0 default,
  .binding default 0 0 0 0 0 0 256 default 0 default 0 0 0 default default default 0 0 default 0 0 default,
  .binding default 0 0 0 0 0 0 0 default 65536 default 0 0 0 default default default 0 0 default 0 0 default,
  .binding default 0 0 0 0 0 0 0 default 0 default 65536 0 0 default default default 0 0 default 0 0 default,
  .binding default 0 0 0 0 0 0 0 default 0 default 0 65536 0 default default default 0 0 default 0 0 default,
  .binding default 0 0 0 0 0 0 0 default 0 default 0 0 65536 default default default 0 0 default 0 0 default,
  .binding default 0 0 0 0 0 0 0 default 0 default 0 0 0 default default default 65536 0 default 0 0 default,
  .binding default 0 0 0 0 0 0 0 default 0 default 0 0 0 default default default 0 65536 default 0 0 default,
  .binding default 0 0 0 0 0 0 0 default 0 default 0 0 0 default default default 0 0 default 256 0 default,
  .binding default 0 0 0 0 0 0 0 default 0 default 0 0 0 default default default 0 0 default 0 65536 default,
  .fabricPolicy default 256 0 0 0 0,
  .fabricPolicy default 0 65536 0 0 0,
  .fabricPolicy default 0 0 65536 0 0,
  .fabricPolicy default 0 0 0 65536 0,
  .fabricPolicy default 0 0 0 0 65536,
  .channelConfigure default 65536 0 0 0 0 0,
  .channelConfigure default 0 256 0 0 0 0,
  .channelConfigure default 0 0 256 0 0 0,
  .channelConfigure default 0 0 0 65536 0 0,
  .channelConfigure default 0 0 0 0 65536 0,
  .channelConfigure default 0 0 0 0 0 65536,
  .ringCreate default 65536 0 0 0 0 0 0 0 default default default default,
  .ringCreate default 0 256 0 0 0 0 0 0 default default default default,
  .ringCreate default 0 0 256 0 0 0 0 0 default default default default,
  .ringCreate default 0 0 0 256 0 0 0 0 default default default default] : List Instr).all (fun c => !c.wf) = true := by decide +kernel

theorem test_ill_formed_7 : ([
  .ringCreate default 0 0 0 0 256 0 0 0 default default default default,
  .ringCreate default 0 0 0 0 0 65536 0 0 default default default default,
  .ringCreate default 0 0 0 0 0 0 256 0 default default default default,
  .ringCreate default 0 0 0 0 0 0 0 256 default default default default,
  .ringDestroy default 65536,
  .ringModify default 65536 0 0 0 default default,
  .ringModify default 0 256 0 0 default default,
  .ringModify default 0 0 256 0 default default,
  .ringModify default 0 0 0 256 default default,
  .witnessRing default 256 0 0 default default default default,
  .witnessRing default 0 256 0 default default default default,
  .witnessRing default 0 0 256 default default default default,
  .witnessSeal default 256,
  .attestQuote default [],
  .heldRpushResolve 12 0,
  .heldRpushResolve 0 8,
  .targetedTestStart 65536,
  .testNeedsTimeout 65536,
  .targetedTestRetry 65536,
  .targetedTestEnd 65536 default default default,
  .slotRecovery default 12 0,
  .slotRecovery default 0 8,
  .thermalSensorRead 85 default,
  .stallHoldExpiry 16,
  .witnessEntryWrite 16,
  .sealTimer 16,
  .imgReqResponse 8 default default default,
  .astPlanesRead 12 0,
  .astPlanesRead 0 4,
  .scbStatusRead 12,
  .clkRowRead 12,
  .witCntRead 16,
  .registerWrite 18446744073709551616 0,
  .registerWrite 0 18446744073709551616,
  .dimmFault 16,
  .qualificationSessionRequest 12,
  .bridgeReloadComplete 2 default,
  .recalibrationComplete default 12 default] : List Instr).all (fun c => !c.wf) = true := by decide +kernel

theorem test_well_formed_1 : ([
  .switchSoftStartDone 0 default default,
  .switchSoftStartTimeout 0,
  .switchCurrentLimitLatch 0,
  .dimmRemovedWhileOn 0,
  .bayLatchOpen 0,
  .baySwitchDelayedOpen 0,
  .presentNChange 0 default,
  .j3Send default 0 (List.replicate 64 default),
  .j3Done default 0 0 0,
  .phaseLoss 0 0,
  .rowShort 0,
  .rowRetryBegin 0,
  .rowRetrySuccess 0,
  .stagingStart 0 default,
  .stagingHalfRateStart 0 default,
  .headerStageClose 0,
  .rowUsable 0,
  .clockHold 0 default default,
  .clkStepAtWrite 0 0 default,
  .idleEntry 0,
  .napEntry 0,
  .sleepEntry 0,
  .timebaseEventWake 0,
  .halfPark 0,
  .seamUnparkComplete 0,
  .bu0 0 0 default default default,
  .astRunWrite 0 0 default,
  .astRunFetch 0 0 default,
  .astQpushWrite 0 0 default 0,
  .nopMark 0 0 0,
  .fence 0 0 0,
  .resv 0 0 0,
  .rels 0 0 0,
  .wload 0 0 0 default,
  .wloadComplete 0 0 0,
  .epi 0 0 0 default,
  .epiComplete 0 0 0,
  .decideSet 0 0 0,
  .group 0 0 0,
  .matv 0 0 0 default,
  .deciderEvaluation 0 0 0 0,
  .matvComplete 0 0 0,
  .pairCompare 0 0 default,
  .astWaitTimeout 0 0 0,
  .astRunTimeout 0 0 0,
  .primroseExecute 0 0 0,
  .primroseMemoryAccess 0 0 0,
  .rpop 0 0 0 0 0,
  .rpush 0 0 0 0 0,
  .sresv 0 0 0 0 0,
  .sresvDeadline 0 0,
  .srels 0 0 0 0,
  .tbwait 0 0 0 0 0,
  .tbwaitEnd 0 0,
  .wdkick 0 0,
  .badd 0 0 0 0 0,
  .bscl 0 0 0 0 0,
  .bmax 0 0 0 0 0,
  .blin 0 0 0 0 0 0,
  .fhash 0 0 0 0 0 0 0,
  .prmWatchdogExpiry 0 0,
  .haltedCoreRequestsEnd 0 0,
  .scoreboardGrant 0 0 default,
  .dmaCopy 0 0 default,
  .dmaSkew 0 0 default,
  .dmaUnskew 0 0 default,
  .dmaFill 0 0 default,
  .dmaDescriptorStart 0 0,
  .dmaComplete 0 0 0 default,
  .dmaCplPop 0 0,
  .dmaDescriptorTimeout 0 0 default,
  .ingressTransaction 0 0 default default,
  .netTimeoutExpiry 0 default default,
  .bankRetEntry 0 0,
  .bankTransitionComplete 0 0,
  .bankScrubEnd 0 0,
  .ucieFlitReceive 0 0 default default 0 0,
  .hbmTempRead 0 default,
  .ddrScrubCountRead 0 default default,
  .fetchCommand 0 0,
  .fetchDispatch 0 0,
  .fetchPool 0 0,
  .fetchBlockGather 0 0 default,
  .fetchBlockMove 0 0 default,
  .rowReadComplete 0 0 default,
  .fetchComplete 0 0,
  .migrationPageCopyComplete 0,
  .channelTestComplete 0 default default,
  .flashReadComplete 0 0 0,
  .flashProgramEraseComplete 0 0 0 0 default default default default default,
  .flashRelocationComplete default default 0 0 0 default,
  .flashRetentionExpiry 0 0 default,
  .flashInterfaceTraining 0 0 default,
  .flashMapReloadComplete 0 default,
  .cardTestComplete 0 default default default default,
  .fabricFrameReceive 0 default default default,
  .fabricControlFlit 0 0 default default 0 0,
  .laneSwap 0 0 default,
  .laneSwapEffective 0 default,
  .laneReturn 0 0 default] : List Instr).all Instr.wf = true := by decide +kernel

theorem test_well_formed_2 : ([
  .laneBerWindowEnd 0 default default,
  .laneQualificationEnd 0 default,
  .fabricPacketForward 0 default,
  .fabricWrite 0 default,
  .fabricReadReq 0 default,
  .fabricReadRsp 0 default,
  .fabricAck 0 default,
  .fabricFetch 0 default,
  .fabricMsg 0 default,
  .fabricToken 0 default,
  .fabricPoison 0 default,
  .fabricWitrec 0 default,
  .fabStallExpiry 0,
  .fabRequestTimeout 0 0,
  .routeVersionFree 0,
  .bindingSendStart 0,
  .bindingSendComplete 0,
  .portLinkLoss 0,
  .portRetrainStart 0,
  .portQualificationEnd 0 default default,
  .chaviFrameReceive default default 0 default 0,
  .chaviLinkDown 0,
  .mbxSend default 0 (List.replicate 64 default),
  .mbxDone default 0 0 0,
  .hwrite default 0 default default default,
  .hread default 0 default default default,
  .mbxAckWrite 0 0 0,
  .mbxTakeRead 0,
  .mbxPeerResend 0,
  .reqTail (.chavi default) 0 0 0,
  .reqAdd (.chavi default) 0 0 0,
  .cplHead (.chavi default) 0 0 0,
  .reqTimeout 0 default,
  .jobTimeout 0,
  .bootLog default 0,
  .fabricStatus default 0,
  .errorLogRead default default 0,
  .rowPowerPolicy default 0 default default default,
  .rowPower default 0 0,
  .rowRearm default 0,
  .bankPower default 0 0 0,
  .stepLimit default 0 0,
  .powerGroup default 0 0 default,
  .watchdog default 0 0 default,
  .programLoad default 0 0 0 default 0 default default,
  .programUnload default 0 0,
  .selfTest default 0,
  .unitRecover default 0 default,
  .timeoutSet default 0 default default,
  .recalibrate default 0 0,
  .defectClear default 0,
  .restart default 0,
  .handoff default 0,
  .tableCreate default default 0 0 0 0 default default 0 0 0 default default default default default default default,
  .channelDrain default 0 default,
  .channelReturn default 0 default default,
  .locate default 0 0 0,
  .flashPolicy default 0 default,
  .cardDrain default 0,
  .cardReturn default 0 0 default,
  .endpointAssign default 0,
  .routeStage default 0 default default default,
  .mapWindow default 0 0 0 default default default,
  .unmapWindow default 0,
  .binding default 0 0 0 0 0 0 0 default 0 default 0 0 0 default default default 0 0 default 0 0 default,
  .fabricPolicy default 0 0 0 0 0,
  .channelConfigure default 0 0 0 0 0 0,
  .ringCreate default 0 0 0 0 0 0 0 0 default default default default,
  .ringDestroy default 0,
  .ringModify default 0 0 0 0 default default,
  .witnessRing default 0 0 0 default default default default,
  .witnessSeal default 0,
  .attestQuote default (List.replicate 32 default),
  .heldRpushResolve 0 0,
  .targetedTestStart 0,
  .testNeedsTimeout 0,
  .targetedTestRetry 0,
  .targetedTestEnd 0 default default default,
  .slotRecovery default 0 0,
  .thermalSensorRead 0 default,
  .stallHoldExpiry 0,
  .witnessEntryWrite 0,
  .sealTimer 0,
  .imgReqResponse 0 default default default,
  .astPlanesRead 0 0,
  .scbStatusRead 0,
  .clkRowRead 0,
  .witCntRead 0,
  .registerWrite 0 0,
  .dimmFault 0,
  .qualificationSessionRequest 0,
  .bridgeReloadComplete 0 default,
  .recalibrationComplete default 0 default] : List Instr).all Instr.wf = true := by decide +kernel

/-! States and operands that meet the hypotheses of the statements. -/

namespace W01

/-- The hypotheses of InputTripTakesModuleDown can be met, clause by clause. -/
theorem test_InputTripTakesModuleDown :
    (∃ (s : State) (cause vin iin : Nat), s.power.trip = none ∧ s.power.dark = false) ∧
    (∃ (s : State) (i : TripInfo), s.power.trip = some i ∧ i.tb + 1000000 ≤ s.tb) ∧
    (∃ (s : State), s.power.dark = true ∧ s.power.inputSw = .opened) ∧
    (∃ (s : State), s.power.inputSw = .softStart) :=
  ⟨⟨up, 3, 500, 10, by decide +kernel⟩,
   ⟨at_ 1000007 (up.modPower (fun p => { p with trip := some { tb := 7 } })), { tb := 7 }, by decide +kernel⟩,
   ⟨up.modPower (fun p => { p with dark := true, inputSw := .opened }), by decide +kernel⟩,
   ⟨up.modPower (fun p => { p with dark := true, inputSw := .softStart }), by decide +kernel⟩⟩

/-- The hypotheses of TripIgnoresResetAndCommands can be met, clause by clause. -/
theorem test_TripIgnoresResetAndCommands :
    (∃ (s : State) (i : TripInfo), ∃ c, s.power.trip = some i ∧ cmdOrBell c = true) :=
  ⟨up.modPower (fun p => { p with trip := some { tb := 7 } }), { tb := 7 }, .rowPower {} 3 1, by decide +kernel⟩

/-- The hypotheses of MrstResetsTheModule can be met, clause by clause. -/
theorem test_MrstResetsTheModule :
    (∃ (s : State) (ns : Nat), alive s = true ∧ 1000 ≤ ns) ∧
    (∃ (s : State) (ns : Nat), ns < 500) ∧
    (∃ (s : State) (ns : Nat), alive s = true ∧ 500 ≤ ns ∧ ns < 1000) ∧
    (∃ (s : State), s.power.mrstLow = true ∧ s.power.trip = none) ∧
    (∃ (s : State) (n : Nat), s.power.bringUpAt = some n ∧ n ≤ s.tb ∧ s.power.mrstLow = false ∧ s.power.trip = none) :=
  ⟨⟨up, 1000, by decide +kernel⟩,
   ⟨up, 499, by decide +kernel⟩,
   ⟨up, 999, by decide +kernel⟩,
   ⟨up.modPower (fun p => { p with mrstLow := true }), by decide +kernel⟩,
   ⟨at_ 9 (up.modPower (fun p => { p with bringUpAt := some 9 })), 9, by decide +kernel⟩⟩

/-- The hypotheses of EventRecordsWrittenInIndexOrder can be met, clause by clause. -/
theorem test_EventRecordsWrittenInIndexOrder :
    (∃ (s : State) (i : TripInfo), s.eeprom.recordDue = some i ∧ s.eeprom.arbLost = none) ∧
    (∃ (s : State) (i : TripInfo) (k n : Nat), s.eeprom.recordDue = some i ∧ s.eeprom.arbLost = some (k, n) ∧ n + 50000 ≤ s.tb) ∧
    (∃ (s : State) (vin : Nat), alive s = true ∧ s.power.inputSw = .closed ∧ (620 ≤ vin ∧ vin < 660 ∨ 780 < vin ∧ vin ≤ 820)) ∧
    (∃ (s : State) (vin : Nat), 660 ≤ vin ∧ vin ≤ 780) :=
  ⟨⟨up.modEeprom (fun e => { e with recordDue := some {}, hdrIndex := 126 }), {}, by decide +kernel⟩,
   ⟨at_ 50009 (up.modEeprom (fun e => { e with recordDue := some {}, hdrIndex := 126, arbLost := some (3, 9) })), {}, 3, 9, by decide +kernel⟩,
   ⟨up, 620, by decide +kernel⟩,
   ⟨up, 660, by decide +kernel⟩⟩

/-- The hypotheses of SwitchesFollowTheirRules can be met, clause by clause. -/
theorem test_SwitchesFollowTheirRules :
    (∃ (s : State) (i : Nat) (spd train : Bool), i < s.power.switches.length ∧ s.boot.st ≠ .ready ∧ (s.sw i).st = .starting ∧ s.tb ≤ (s.sw i).startedAt + (if i < 16 then 250000 else 500000)) ∧
    (∃ (s : State) (i : Nat), i < s.power.switches.length ∧ (s.sw i).st = .starting ∧ (s.sw i).startedAt + (if i < 16 then 250000 else 500000) < s.tb) ∧
    (∃ (s : State) (i : Nat), i < s.power.switches.length ∧ ((s.sw i).st = .starting ∨ (s.sw i).st = .on)) ∧
    (∃ (s : State) (d : Nat), d < 16 ∧ d < s.power.switches.length ∧ 8 + d < s.mem.units.length ∧ (s.sw d).st = .on) ∧
    (∃ (s : State) (c : Nat), c < s.flash.cards.length ∧ 16 + c < s.power.switches.length ∧ (s.sw (16 + c)).st = .on ∧ (s.sw (16 + c)).openAt = none) ∧
    (∃ (s : State) (c n : Nat), c < s.flash.cards.length ∧ 16 + c < s.power.switches.length ∧ (s.sw (16 + c)).openAt = some n ∧ n ≤ s.tb) :=
  ⟨⟨sw 15 { st := .starting, startedAt := 5 } (at_ 250005 (up.modBoot (fun b => { b with st := .running }))), 15, true, true, by decide +kernel⟩,
   ⟨sw 23 { st := .starting, startedAt := 5 } (at_ 500006 up), 23, by decide +kernel⟩,
   ⟨sw 23 { st := .on, startedAt := 5 } (at_ 500006 up), 23, by decide +kernel⟩,
   ⟨sw 15 { st := .on, present := true } up, 15, by decide +kernel⟩,
   ⟨sw 23 { st := .on, present := true } up, 7, by decide +kernel⟩,
   ⟨at_ 10 (sw 23 { st := .on, present := true, openAt := some 10 } up), 7, 10, by decide +kernel⟩⟩

end W01

namespace W02

/-- The hypotheses of RowConverterFaultsAndRetry can be met, clause by clause. -/
theorem test_RowConverterFaultsAndRetry :
    (∃ (s : State) (r p : Nat), r < 12 ∧ p < 7 ∧ r < s.power.conv.length ∧ (s.conv r).phFail.getLsbD p = false) ∧
    (∃ (s : State) (r : Nat), r < 12 ∧ r < s.power.conv.length ∧ (s.conv r).on = true) ∧
    (∃ (s : State) (r n : Nat), r < s.power.conv.length ∧ (s.conv r).retryAt = some n ∧ (s.conv r).st = .retryWait ∧ n ≤ s.tb ∧ (s.rail .vbus12).inReg = true) ∧
    (∃ (s : State) (r n : Nat), r < s.power.conv.length ∧ (s.conv r).stagedAt = some n ∧ (s.conv r).st = .retryWait ∧ n + 5000000 ≤ s.tb ∧ ratingOf (s.conv r).phFail ≠ 0) :=
  ⟨⟨up, 11, 6, by decide +kernel⟩,
   ⟨up, 11, by decide +kernel⟩,
   ⟨at_ 5 (cv 0 { st := .retryWait, retryAt := some 5 } up), 0, 5, by decide +kernel⟩,
   ⟨at_ 5000005 (cv 11 { st := .retryWait, stagedAt := some 5 } up), 11, 5, by decide +kernel⟩⟩

/-- The hypotheses of StagingServesTheQueueInOrder can be met, clause by clause. -/
theorem test_StagingServesTheQueueInOrder :
    (∃ (s : State) (h i r : Nat) (rest : List Nat), h < s.power.halves.length ∧ r < s.power.conv.length ∧ (s.half h).staging = none ∧ (s.half h).queue = r :: rest ∧ nocUp s h = true ∧ i + 48000 < 1000 * (s.half h).iLim) ∧
    (∃ (s : State) (h i : Nat), h < s.power.halves.length ∧ (1000 * (s.half h).iLim ≤ i + 48000 ∨ nocUp s h = false)) ∧
    (∃ (s : State) (h i r : Nat) (rest : List Nat), h < s.power.halves.length ∧ r < s.power.conv.length ∧ (s.half h).staging = none ∧ (s.half h).queue = r :: rest ∧ nocUp s h = true ∧ (s.half h).headSince + 100000 ≤ s.tb) ∧
    (∃ (s : State) (h : Nat) (g : Staging), h < s.power.halves.length ∧ (s.half h).staging = some g ∧ 1000 * g.next * (if g.half then 2 else 1) ≤ s.tb - g.startTb ∧ g.next < (if g.fromSleep then 2 else 15)) ∧
    (∃ (s : State) (h : Nat) (g : Staging), (s.half h).staging = some g ∧ s.tb - g.startTb < 1000 * g.next * (if g.half then 2 else 1)) ∧
    (∃ (s : State) (r : Nat) (g : Staging), r < s.rows.length ∧ (s.half (halfOf r)).staging = some g ∧ g.row = r ∧ (s.row r).st = .waking ∧ (s.conv r).st ≠ .retryWait ∧ g.next = (if g.fromSleep then 2 else 3) ∧ g.startTb + (if g.fromSleep then 2000 else 3000) * (if g.half then 2 else 1) ≤ s.tb) :=
  ⟨⟨hf 1 { queue := [7, 8] } up, 1, 311999, 7, [8], by decide +kernel⟩,
   ⟨hf 1 { queue := [7, 8] } up, 1, 312000, by decide +kernel⟩,
   ⟨at_ 100003 (hf 1 { queue := [7, 8], headSince := 3 } up), 1, 400000, 7, [8], by decide +kernel⟩,
   ⟨at_ 14003 (hf 1 { staging := some { row := 7, next := 14, startTb := 3 } } up), 1, { row := 7, next := 14, startTb := 3 }, by decide +kernel⟩,
   ⟨at_ 14002 (hf 1 { staging := some { row := 7, next := 14, startTb := 3 } } up), 1, { row := 7, next := 14, startTb := 3 }, by decide +kernel⟩,
   ⟨at_ 3003 (rw_ 11 (fun w => { w with st := .waking }) (hf 1 { staging := some { row := 11, next := 3, startTb := 3 } } up)), 11, { row := 11, next := 3, startTb := 3 }, by decide +kernel⟩⟩

/-- The hypotheses of SharedRailsLostAndRetried can be met, clause by clause. -/
theorem test_SharedRailsLostAndRetried :
    (∃ (s : State) (x : SharedRail), (x = .bc0 ∨ x = .bc1) ∧ (s.rail x).inReg = true) ∧
    (∃ (s : State) (x : SharedRail), (x = .vbrE ∨ x = .vbrW ∨ x = .v3p3 ∨ x = .vhbmN ∨ x = .vhbmS) ∧ s.power.rails.length = 11 ∧ (s.rail x).inReg = true) ∧
    (∃ (s : State) (x : SharedRail) (n : Nat), s.power.rails.length = 11 ∧ (s.rail x).retryAt = some n ∧ n ≤ s.tb) ∧
    (∃ (s : State) (x : SharedRail) (n : Nat), x ≠ .vbus12 ∧ s.power.rails.length = 11 ∧ (s.rail x).retryAt = some n ∧ n ≤ s.tb) ∧
    (∃ (s : State), (s.rail .vspine).inReg = true ∧ s.power.trip = none) :=
  ⟨⟨up, .bc0, by decide +kernel⟩,
   ⟨up, .vbrE, by decide +kernel⟩,
   ⟨at_ 9 (rl 6 { retryAt := some 9 } up), .vhbmS, 9, by decide +kernel⟩,
   ⟨at_ 9 (rl 6 { retryAt := some 9 } up), .vhbmS, 9, by decide +kernel⟩,
   ⟨up, by decide +kernel⟩⟩

end W02

namespace W03

/-- The hypotheses of StepChangesArmWithdrawAndSettle can be met, clause by clause. -/
theorem test_StepChangesArmWithdrawAndSettle :
    (∃ (s : State) (next tick : Nat), alive s = true ∧ s.clk.pend = false) ∧
    (∃ (s : State) (next tick : Nat), alive s = true ∧ s.clk.pend = true) ∧
    (∃ (s : State) (next lo hi : Nat), alive s = true ∧ s.clk.pend = false) ∧
    (∃ (s : State), s.clk.armed = true ∧ s.tb < s.clk.stepAt ∧ s.cap.dropDue = false) ∧
    (∃ (s : State), (s.clk.armed = false ∨ s.clk.stepAt ≤ s.tb)) ∧
    (∃ (s : State), s.clk.armed = true ∧ s.clk.stepAt ≤ s.tb) ∧
    (∃ (s : State), s.clk.pend = true ∧ s.clk.armed = false ∧ s.cap.dropDue = false) :=
  ⟨⟨at_ 100 up, 7, 2600, by decide +kernel⟩,
   ⟨up.modClk (fun c => { c with pend := true }), 7, 2600, by decide +kernel⟩,
   ⟨at_ 100 up, 7, 4294967296, 4294967299, by decide +kernel⟩,
   ⟨up.modClk (fun c => { c with tb := 5, stepAt := 6, armed := true, pend := true }), by decide +kernel⟩,
   ⟨up.modClk (fun c => { c with tb := 6, stepAt := 6, armed := true, pend := true }), by decide +kernel⟩,
   ⟨up.modClk (fun c => { c with tb := 6, stepAt := 6, armed := true, pend := true, next := 3 }), by decide +kernel⟩,
   ⟨up.modClk (fun c => { c with tb := 6, stepAt := 6, armed := false, pend := true, next := 3 }), by decide +kernel⟩⟩

/-- The hypotheses of RowStatesFollowIdling can be met, clause by clause. -/
theorem test_RowStatesFollowIdling :
    (∃ (s : State) (r : Nat), r < 12 ∧ (s.row r).st = .active ∧ rowIdle (s.row r) = true) ∧
    (∃ (s : State) (r : Nat), r < 12 ∧ (s.row r).st = .idle ∧ rowIdle (s.row r) = true ∧ (s.row r).napNow ≠ 0 ∧ (s.row r).idleSince + (s.row r).napNow ≤ s.tb) ∧
    (∃ (s : State) (r : Nat), r < 12 ∧ rowIdle (s.row r) = false) ∧
    (∃ (s : State) (r : Nat), r < 12 ∧ r < s.rows.length ∧ ((s.row r).st = .idle ∨ (s.row r).st = .nap) ∧ rowIdle (s.row r) = true ∧ stagedOut s r = true ∧ (s.row r).target = none ∧ (s.row r).sleepNow ≠ 0 ∧ (s.row r).idleSince + (s.row r).sleepNow ≤ s.tb) ∧
    (∃ (s : State) (r : Nat), r < 12 ∧ r < s.rows.length ∧ ((s.row r).st = .active ∨ (s.row r).st = .idle ∨ (s.row r).st = .nap) ∧ rowIdle (s.row r) = true ∧ stagedOut s r = true ∧ (s.row r).target = some .off) ∧
    (∃ (s : State) (r : Nat), r < 12 ∧ r < s.rows.length ∧ halfOf r < s.power.halves.length ∧ rowIsDark s r = false ∧ rowIsOut s r = false ∧ s.therm.halt = false ∧ (s.row r).st = .sleep ∧ (s.row r).cores.any (fun c => c.wait.any (·.isTb)) = true) :=
  ⟨⟨up, 11, by decide +kernel⟩,
   ⟨at_ 253 (rw_ 11 (fun w => { w with st := .idle, idleSince := 3 }) up), 11, by decide +kernel⟩,
   ⟨rw_ 11 (fun w => { w with tiles := w.tiles.set 3 { queue := [{}] } }) up, 11, by decide +kernel⟩,
   ⟨at_ 50003 (rw_ 11 (fun w => { w with st := .nap, idleSince := 3 }) up), 11, by decide +kernel⟩,
   ⟨rw_ 11 (fun w => { w with target := some .off, scb := [{}] }) up, 11, by decide +kernel⟩,
   ⟨rw_ 11 (fun w => { w with st := .sleep, cores := w.cores.set 0 { st := .waiting, wait := some { isTb := true } } }) up, 11, by decide +kernel⟩⟩

/-- The hypotheses of HalvesParkAndReferenceLossKeepsTimebase can be met, clause by clause. -/
theorem test_HalvesParkAndReferenceLossKeepsTimebase :
    (∃ (s : State) (h : Nat), h < 2 ∧ (s.half h).parked = false ∧ (s.half h).quietSince + 500 ≤ s.tb ∧ (∀ i, i < 6 → (s.row (6 * h + i)).st = .sleep ∨ (s.row (6 * h + i)).st = .off ∨ (s.row (6 * h + i)).st = .dark)) ∧
    (∃ (s : State) (h i : Nat), i < 6 ∧ (s.row (6 * h + i)).st = .active) ∧
    (∃ (s : State) (h n : Nat), h < 2 ∧ h < s.power.halves.length ∧ (s.half h).parked = true ∧ (s.half h).unparkAt = some n ∧ n ≤ s.tb ∧ nocUp s h = true) ∧
    (∃ (s : State), alive s = true ∧ s.clk.refLost = false) ∧
    (∃ (s : State) (r ticks volt : Nat), r < 12 ∧ (s.row r).st = .active) :=
  ⟨⟨at_ 500 ((List.range 12).foldl (fun s r => rw_ r (fun w => { w with st := .sleep }) s) up), 1, by decide +kernel⟩,
   ⟨up, 1, 5, by decide +kernel⟩,
   ⟨at_ 100 (hf 1 { parked := true, unparkAt := some 100 } up), 1, 100, by decide +kernel⟩,
   ⟨up, by decide +kernel⟩,
   ⟨up, 11, 50, 900, by decide +kernel⟩⟩

end W03

namespace W04

def bu (k : Nat) : State := { State.reset with boot := { stage := k, bootNo := 3, stageTb := 5 }, clk := { tb := 90 }, gw := { mc := [.standby, .standby] } }
/-- The hypotheses of EachStageWritesOneRecord can be met, clause by clause. -/
theorem test_EachStageWritesOneRecord :
    (∃ (s : State), s.boot.curHalf < s.boot.halves.length) :=
  ⟨bu 1, by decide +kernel⟩

/-- The hypotheses of BootCoreAndReady can be met, clause by clause. -/
theorem test_BootCoreAndReady :
    (∃ (s : State) (f0 f1 : Nat) (a b : Bool), stageRuns 0 s = true ∧ s.eeprom.arbLost = none ∧ (∀ q ∈ s.wit.rings, q.st ≠ .closing) ∧ s.boot.halves.length = 2 ∧ s.boot.curHalf < 2) ∧
    (∃ (s : State), stageRuns 9 s = true ∧ s.gw.imgReqs = [] ∧ s.chavi.up = true) ∧
    (∃ (s : State), stageRuns 9 s = true ∧ s.gw.imgReqs = [] ∧ s.chavi.up = false ∧ s.power.j4Ok = false ∧ s.boot.curHalf < s.boot.halves.length) ∧
    (∃ (s : State), stageRuns 10 s = true ∧ s.boot.bootCore < 2 ∧ s.gw.mc.length = 2 ∧ s.boot.curHalf < s.boot.halves.length) :=
  ⟨⟨bu 0, 0, 0, false, false, by decide +kernel⟩,
   ⟨(bu 9).modChavi (fun c => { c with up := true }), by decide +kernel⟩,
   ⟨(bu 9).modPower (fun p => { p with j4Ok := false }), by decide +kernel⟩,
   ⟨bu 10, by decide +kernel⟩⟩

/-- The hypotheses of SlotsBoundWestToEast can be met, clause by clause. -/
theorem test_SlotsBoundWestToEast :
    (∃ (s : State) (tests : List RowTest), stageRuns 3 s = true) :=
  ⟨(bu 3).modFuse (fun f => { f with rows := [{ prm := [2], ast := [4] }] }), [{ selfFail := [0, 3, 7, 9] }, { failVotes := [(2, 3)], arbFail := [1], ctl := 1 }], by decide +kernel⟩

end W04

namespace W05

def T0 : Tile := { mode := 2, wsets := [{ pane := 3, slot := 2, wfmt := 0, pw := 1, unit := 0 }, { pane := 4, slot := 2, wfmt := 0, pw := 1, unit := 0 }], panes := List.replicate 16 { epi := some { ofmt := 9 } } }
def qe (w : BitVec 128) : QEntry := { word := w, fword := 3, since := 7 }
def nopw : BitVec 128 := wd [(1, 8), (77, 16)]
def mat : BitVec 128 := wd [(2, 0), (3, 4), (2, 8), (4, 12), (4, 16), (1, 28), (31, 32), (0, 44), (0x1FFFFF, 65), (4096, 86), (0x1FFFFF, 107)]
def math : BitVec 128 := wd [(2, 0), (3, 4), (2, 8), (4, 12), (4, 16), (1, 28), (31, 32), (1, 41), (0, 44), (0x1FFFFF, 65), (0, 86), (0, 107)]
def AQ (t : Nat) (q : List (BitVec 128)) : State := cov 11 t (tl 11 t { T0 with queue := q.map qe } (at_ 900 up))
def AP (q : List (BitVec 128)) : State := cov 11 2 (rw_ 11 (fun w => { w with pairs := w.pairs.set 1 { formed := true, seq := 2, done := 0 }, tiles := (w.tiles.set 2 { T0 with queue := q.map qe, paired := true }).set 3 { T0 with queue := q.map qe, paired := true } }) (at_ 900 up))
def regn (t : Nat) (s : State) : State := rw_ 11 (fun w => { w with progs := [{ num := 1, region := 64, units := 2, aster := [t] }] }) s
def iss (w : BitVec 128) : Issued := { word := w, pane := paneOf w, issuedAt := 9, limit := 50, planes := [0], vecs := List.replicate 4 {}, dptr := 5000 }
def AI (y : Issued) (f : Tile → Tile) : State := cov 11 3 (tl 11 3 (f { T0 with issued := [{}, y] }) (at_ 900 up))
def wl : BitVec 128 := wd [(1, 0), (3, 4), (7, 8), (0, 12), (0, 16), (0, 20), (64, 32)]
def ep : BitVec 128 := wd [(3, 0), (3, 4), (9, 12), (64, 48)]
def armd (m : DecMode) (x : Tile) : Tile := { x with panes := x.panes.set 3 { epi := some { ofmt := 9 }, dec := { mode := m, k := 2, ptr := 5000, cap := 40 } } }
/-- The hypotheses of RunsAndPushesFeedTheQueue can be met, clause by clause. -/
theorem test_RunsAndPushesFeedTheQueue :
    (∃ (s : State) (r t : Nat), ∃ v, rowRuns s r = true ∧ r < s.rows.length ∧ t < (s.row r).tiles.length ∧ (astPos s r t).isSome = true ∧ isFollower (s.tile r t) t = false ∧ (s.tile r t).run = none ∧ (s.tile r t).halted = false ∧ bits v 24 16 ≠ 0 ∧ runInRegion (s.row r) t (bits v 0 21) (bits v 21 2) (bits v 24 16) = true) ∧
    (∃ (s : State) (r t : Nat), ∃ v, rowRuns s r = true ∧ r < s.rows.length ∧ t < (s.row r).tiles.length ∧ (astPos s r t = none ∨ isFollower (s.tile r t) t = true ∨ (s.tile r t).run ≠ none ∨ (s.tile r t).halted = true ∨ bits v 24 16 = 0)) ∧
    (∃ (s : State) (r t : Nat), ∃ c, rowRuns s r = true ∧ r < s.rows.length ∧ t < (s.row r).tiles.length ∧ (s.tile r t).run = some c ∧ (s.tile r t).halted = false ∧ (s.tile r t).stopped = false ∧ isFollower (s.tile r t) t = false ∧ poisonedOver (s.row r) ((fetchSpan c).1 / 4) 1 = false ∧ (s.tile r t).queue.length + (fetchSpan c).2 ≤ 64) ∧
    (∃ (s : State) (r t : Nat), ∃ c, rowRuns s r = true ∧ r < s.rows.length ∧ t < (s.row r).tiles.length ∧ (s.tile r t).run = some c ∧ 64 < (s.tile r t).queue.length + (fetchSpan c).2) ∧
    (∃ (s : State) (r t : Nat), ∃ (w : Nat), rowRuns s r = true ∧ r < s.rows.length ∧ t < (s.row r).tiles.length ∧ (astPos s r t).isSome = true ∧ isFollower (s.tile r t) t = false ∧ (s.tile r t).run = none ∧ (s.tile r t).halted = false ∧ astStatic s r (BitVec.ofNat 128 w) = .ok ∧ (s.tile r t).queue.length < 64 ∧ (s.tile r t).pushWait = []) ∧
    (∃ (s : State) (r t : Nat), ∃ (w : Nat), rowRuns s r = true ∧ r < s.rows.length ∧ t < (s.row r).tiles.length) ∧
    (∃ (s : State) (r t : Nat), ∃ (w : Nat), rowRuns s r = true ∧ r < s.rows.length ∧ t < (s.row r).tiles.length ∧ (astPos s r t).isSome = true ∧ (s.tile r t).run ≠ none) :=
  ⟨⟨regn 3 up, 11, 3, 65 + 3 * 2^21 + 121 * 2^24, by decide +kernel⟩,
   ⟨up, 11, 3, 65 + 3 * 2^21, by decide +kernel⟩,
   ⟨tl 11 3 { run := some { line := 65, word := 3, count := 5, done := 0 } } up, 11, 3, { line := 65, word := 3, count := 5, done := 0 }, by decide +kernel⟩,
   ⟨tl 11 3 { queue := List.replicate 61 {}, run := some { line := 65, word := 3, count := 5, done := 1 } } up, 11, 3, { line := 65, word := 3, count := 5, done := 1 }, by decide +kernel⟩,
   ⟨up, 11, 3, nopw.toNat, by decide +kernel⟩,
   ⟨up, 11, 3, 2^128-1, by decide +kernel⟩,
   ⟨tl 11 3 { run := some { line := 65, word := 3, count := 5, done := 1 } } up, 11, 3, nopw.toNat, by decide +kernel⟩⟩

/-- The hypotheses of AsterClassesIssue can be met, clause by clause. -/
theorem test_AsterClassesIssue :
    (∃ (s : State) (r t i : Nat), r < s.rows.length ∧ t < (s.row r).tiles.length ∧ turnOf s r t i 0 = .go) ∧
    (∃ (s : State) (r t i : Nat), r < s.rows.length ∧ t < (s.row r).tiles.length ∧ turnOf s r t i 8 = .go) ∧
    (∃ (s : State) (r t i : Nat), r < s.rows.length ∧ t < (s.row r).tiles.length ∧ turnOf s r t i 6 = .go ∧ (s.row r).scbPend.any (·.owner == ownAst t) = false ∧ scbVerdict (s.row r) (s.row r).scbPend (resvReq t (nth (s.tile r t).queue i).word s.tb) = .grant) ∧
    (∃ (s : State) (r t i : Nat), r < s.rows.length ∧ t < (s.row r).tiles.length ∧ turnOf s r t i 7 = .go) ∧
    (∃ (s : State) (r t i : Nat), r < s.rows.length ∧ t < (s.row r).tiles.length ∧ turnOf s r t i 4 = .go) ∧
    (∃ (s : State) (r t i : Nat), r < s.rows.length ∧ t < (s.row r).tiles.length ∧ turnOf s r t i 5 = .go) ∧
    (∃ (s : State) (r t i : Nat), r < s.rows.length ∧ t < (s.row r).tiles.length ∧ turnOf s r t i 1 = .go) ∧
    (∃ (s : State) (r t i : Nat), r < s.rows.length ∧ t < (s.row r).tiles.length ∧ turnOf s r t i 3 = .go) ∧
    (∃ (s : State) (r t i : Nat), r < s.rows.length ∧ t < (s.row r).tiles.length ∧ turnOf s r t i 2 = .go) ∧
    (∃ (s : State) (r t i o : Nat), (turnOf s r t i o = .wait ∨ turnOf s r t i o = .notYet)) ∧
    (∃ (s : State) (r t i : Nat) (c : Code), r < s.rows.length ∧ t < (s.row r).tiles.length ∧ turnOf s r t i 2 = .fault c) :=
  ⟨⟨AQ 3 [nopw, nopw], 11, 3, 0, by decide +kernel⟩,
   ⟨AQ 3 [wd [(8, 0), (1, 8), (1, 9)]], 11, 3, 0, by decide +kernel⟩,
   ⟨AQ 3 [wd [(6, 0), (1, 8), (16384, 16), (2, 37)]], 11, 3, 0, by decide +kernel⟩,
   ⟨AQ 3 [wd [(7, 0), (1, 8), (4096, 16), (1024, 37)]], 11, 3, 0, by decide +kernel⟩,
   ⟨AQ 3 [wd [(4, 0), (15, 4), (2, 8), (5, 12), (4096, 64), (9, 85)]], 11, 3, 0, by decide +kernel⟩,
   ⟨AQ 3 [wd [(5, 0), (15, 4), (500, 24), (2^48-1, 80)]], 11, 3, 0, by decide +kernel⟩,
   ⟨AQ 3 [wd [(1, 0), (3, 4), (2, 8), (0, 12), (0, 16), (0, 20), (64, 32)]], 11, 3, 0, by decide +kernel⟩,
   ⟨AQ 3 [wd [(3, 0), (3, 4), (9, 12), (64, 48)]], 11, 3, 0, by decide +kernel⟩,
   ⟨AQ 3 [mat], 11, 3, 0, by decide +kernel⟩,
   ⟨up, 11, 3, 0, 4, by decide +kernel⟩,
   ⟨AQ 3 [wd [(2, 0), (15, 4)]], 11, 3, 0, .astWset, by decide +kernel⟩⟩

/-- The hypotheses of AsterCompletionsTakeEffect can be met, clause by clause. -/
theorem test_AsterCompletionsTakeEffect :
    (∃ (s : State) (r t i : Nat) (y : Issued), r < s.rows.length ∧ t < (s.row r).tiles.length ∧ (s.tile r t).issued[i]? = some y ∧ isFollower (s.tile r t) t = false ∧ opcOf y.word = 1 ∧ y.poisoned = false ∧ y.bad = []) ∧
    (∃ (s : State) (r t i : Nat) (y : Issued), r < s.rows.length ∧ t < (s.row r).tiles.length ∧ (s.tile r t).issued[i]? = some y ∧ isFollower (s.tile r t) t = false ∧ opcOf y.word = 1 ∧ y.poisoned = true) ∧
    (∃ (s : State) (r t i : Nat) (y : Issued), r < s.rows.length ∧ t < (s.row r).tiles.length ∧ (s.tile r t).issued[i]? = some y ∧ isFollower (s.tile r t) t = false ∧ opcOf y.word = 1 ∧ y.poisoned = false ∧ y.bad ≠ []) ∧
    (∃ (s : State) (r t i : Nat) (y : Issued), r < s.rows.length ∧ t < (s.row r).tiles.length ∧ (s.tile r t).issued[i]? = some y ∧ isFollower (s.tile r t) t = false ∧ opcOf y.word = 3 ∧ y.poisoned = false ∧ y.bad = [] ∧ paneOf y.word < (s.tile r t).panes.length) ∧
    (∃ (s : State) (r t i : Nat) (y : Issued), r < s.rows.length ∧ t < (s.row r).tiles.length ∧ (s.tile r t).issued[i]? = some y ∧ isFollower (s.tile r t) t = false ∧ opcOf y.word = 3 ∧ y.poisoned = true ∧ paneOf y.word < (s.tile r t).panes.length) ∧
    (∃ (s : State) (r t i : Nat) (y : Issued), r < s.rows.length ∧ t < (s.row r).tiles.length ∧ (s.tile r t).issued[i]? = some y ∧ isFollower (s.tile r t) t = false ∧ opcOf y.word = 2 ∧ mHold y.word = true ∧ (wsetOf (s.tile r t) y.word).isSome = true) ∧
    (∃ (s : State) (r t i : Nat) (y : Issued), r < s.rows.length ∧ t < (s.row r).tiles.length ∧ (s.tile r t).issued[i]? = some y ∧ isFollower (s.tile r t) t = false ∧ opcOf y.word = 2 ∧ mHold y.word = false ∧ (wsetOf (s.tile r t) y.word).isSome = true ∧ (nth (s.tile r t).panes y.pane).dec.mode = .off) ∧
    (∃ (s : State) (r t i : Nat) (y : Issued), r < s.rows.length ∧ t < (s.row r).tiles.length ∧ (s.tile r t).issued[i]? = some y ∧ isFollower (s.tile r t) t = false ∧ opcOf y.word = 2 ∧ mHold y.word = false ∧ (nth (s.tile r t).panes y.pane).dec.mode ≠ .off ∧ 0 < mV y.word ∧ y.stops = []) :=
  ⟨⟨AI (iss wl) id, 11, 3, 1, iss wl, by decide +kernel⟩,
   ⟨AI { iss wl with poisoned := true } id, 11, 3, 1, { iss wl with poisoned := true }, by decide +kernel⟩,
   ⟨AI { iss wl with bad := [5] } id, 11, 3, 1, { iss wl with bad := [5] }, by decide +kernel⟩,
   ⟨AI (iss ep) id, 11, 3, 1, iss ep, by decide +kernel⟩,
   ⟨AI { iss ep with poisoned := true } id, 11, 3, 1, { iss ep with poisoned := true }, by decide +kernel⟩,
   ⟨AI (iss math) id, 11, 3, 1, iss math, by decide +kernel⟩,
   ⟨AI (iss mat) id, 11, 3, 1, iss mat, by decide +kernel⟩,
   ⟨AI (iss mat) (armd .topk), 11, 3, 1, iss mat, by decide +kernel⟩⟩

/-- The hypotheses of DeciderPairsAndTimeouts can be met, clause by clause. -/
theorem test_DeciderPairsAndTimeouts :
    (∃ (s : State) (r t i w : Nat) (y : Issued) (ws : WSet), r < s.rows.length ∧ t < (s.row r).tiles.length ∧ (s.tile r t).issued[i]? = some y ∧ opcOf y.word = 2 ∧ isFollower (s.tile r t) t = false ∧ wsetOf (s.tile r t) y.word = some ws ∧ mHold y.word = false ∧ (nth (s.tile r t).panes y.pane).dec.mode ≠ .off ∧ 32 * w < mV y.word ∧ w < y.planes.length ∧ nth y.planes w < ws.pw) ∧
    (∃ (s : State) (r t i w : Nat), (s.tile r t).issued[i]? = none) ∧
    (∃ (s : State) (r p : Nat), r < s.rows.length ∧ p < (s.row r).pairs.length ∧ (s.pair r p).formed = true ∧ (s.tile r (2 * p)).paired = true ∧ nextSeq (s.pair r p).done ≠ (s.pair r p).seq ∧ (∀ y ∈ (s.tile r (2 * p)).issued, y.seq ≠ nextSeq (s.pair r p).done)) ∧
    (∃ (s : State) (r p : Nat), r < s.rows.length ∧ 2 * p + 1 < (s.row r).tiles.length ∧ (s.pair r p).formed = true ∧ (s.tile r (2 * p)).paired = true ∧ nextSeq (s.pair r p).done ≠ (s.pair r p).seq) ∧
    (∃ (s : State) (r t i : Nat), r < s.rows.length ∧ t < (s.row r).tiles.length ∧ i < (s.tile r t).queue.length ∧ (s.tile r t).halted = false ∧ isFollower (s.tile r t) t = false ∧ oldest (s.tile r t).queue i = true ∧ (nth (s.tile r t).queue i).since + (nth (s.tile r t).queue i).limit ≤ s.tb) ∧
    (∃ (s : State) (r t i : Nat) (y : Issued), r < s.rows.length ∧ t < (s.row r).tiles.length ∧ (s.tile r t).issued[i]? = some y ∧ isFollower (s.tile r t) t = false ∧ y.issuedAt + y.limit ≤ s.tb) :=
  ⟨⟨AI (iss mat) (armd .topk), 11, 3, 1, 0, iss mat, { pane := 3, slot := 2, wfmt := 0, pw := 1, unit := 0 }, by decide +kernel⟩,
   ⟨up, 11, 3, 0, 0, by decide +kernel⟩,
   ⟨AP [], 11, 1, by decide +kernel⟩,
   ⟨AP [], 11, 1, by decide +kernel⟩,
   ⟨at_ 500007 (AQ 3 [nopw]), 11, 3, 0, by decide +kernel⟩,
   ⟨AI (iss mat) id, 11, 3, 1, iss mat, by decide +kernel⟩⟩

end W05

namespace W06

def C (l : List (Nat × Nat)) : State := cr 11 7 (regs l) (at_ 900 up)
def ent : List Byte := le 64 (2^128 * 7 + 5 * 2^64)
def G : RqRing := { owner := 11, slots := 0x80, log2size := 4, rqBase := 0x200000000000, cqBase := 0x200000001000, pi := 3, ci := 2, tmo := 100 }
def CR (l : List (Nat × Nat)) : State := rg 40 G (memWrite (C l) 0x200000000080 ent)
def rlen (v : Nat) : Nat := v * 2^21
def prog (w : Nat) (l : List (Nat × Nat)) : Core := (regs l).lwrite 0 (le 4 w)
def addi : Nat := 0x13 + 5 * 2^7 + 6 * 2^15 + 0xFFF * 2^20
def sub : Nat := 0x33 + 5 * 2^7 + 6 * 2^15 + 7 * 2^20 + 0x20 * 2^25
def beq : Nat := 0x63 + 6 * 2^15 + 7 * 2^20 + 8 * 2^8
def ldw : Nat := 0x03 + 3 * 2^12 + 5 * 2^7 + 6 * 2^15
def sdw : Nat := 0x23 + 3 * 2^12 + 6 * 2^15 + 7 * 2^20
def mm (w a : Nat) (st : Bool) : State := cr 11 7 { regs [(6, a), (7, 99)] with mem := some { word := w, addr := a, isStore := st } } (memWrite up 0x200000000040 (le 8 0x8877665544332211))
/-- The hypotheses of CustomInstructionsWriteRd can be met, clause by clause. -/
theorem test_CustomInstructionsWriteRd :
    (∃ (x : Core) (rd v k : Nat), x.x.length = 32 ∧ rd < 32) ∧
    (∃ (s : State) (r c rd rs1 rs2 rs3 : Nat), CoreGo s r c ∧ rd < 32 ∧ rs1 < 32 ∧ rs2 < 32 ∧ rs3 < 32) ∧
    (∃ (s : State) (r c rd rs1 rs2 : Nat), coreRuns s r c = false) :=
  ⟨⟨regs [(3, 9)], 31, 77, 31, by decide +kernel⟩,
   ⟨C [(1, 0x3F80), (2, 0x4000), (3, 0x7F7F)], 11, 7, 31, 1, 2, 3, by decide +kernel⟩,
   ⟨up, 11, 7, 3, 1, 2, by decide +kernel⟩⟩

/-- The hypotheses of BoundArithmeticRoundsUp can be met, clause by clause. -/
theorem test_BoundArithmeticRoundsUp :
    (∃ v, v < 65536) ∧
    (∃ (f a b d : Nat) (x y w e : Rat), f < 4 ∧ bndOf (a % 65536) = some x ∧ bndOf (b % 65536) = some y ∧ (f = 3 → bndOf (d % 65536) = some w) ∧ e = (if f = 0 then x + y else if f = 1 then x * y else if f = 2 then (if x ≤ y then y else x) else x * y + w)) ∧
    (∃ (f a b d : Nat), f < 4 ∧ (bndOf (a % 65536) = none ∨ bndOf (b % 65536) = none ∨ f = 3 ∧ bndOf (d % 65536) = none)) ∧
    (∃ (s : State) (r c rd rs1 rs2 rs3 : Nat), CoreGo s r c ∧ 0 < rd ∧ rd < 32 ∧ (s.core r c).x.length = 32) :=
  ⟨⟨0x8001, by decide +kernel⟩,
   ⟨0, 0x3F80, 0x3F81, 0x3F82, 1, (1 + 1/128), 0, (257/128), by decide +kernel⟩,
   ⟨3, 0x3F80, 0x3F81, 0x7F80, by decide +kernel⟩,
   ⟨cr 11 7 { regs [(11, 0x4040), (12, 0x3E9E), (13, 0x3980)] with st := .running } up, 11, 7, 10, 11, 12, 13, by decide +kernel⟩⟩

/-- The hypotheses of RingAndWaitInstructions can be met, clause by clause. -/
theorem test_RingAndWaitInstructions :
    (∃ (s : State) (r c rd rs1 rs2 : Nat), ∃ g, CoreGo s r c ∧ rd < 32 ∧ (((s.core r c).xr rs1).toNat) < 65536 ∧ s.ring (((s.core r c).xr rs1).toNat) = some g ∧ ringAssigned g r c = true ∧ ringHolds s g = true ∧ (((s.core r c).xr rs2).toNat) % 64 = 0 ∧ (((s.core r c).xr rs2).toNat) + 64 ≤ 0x40000 ∧ entryEnds s (memRead s (g.rqAddr g.ci) 64) = none) ∧
    (∃ (s : State) (r c rd rs1 rs2 : Nat), CoreGo s r c ∧ rd < 32 ∧ (((s.core r c).xr rs1).toNat) = 0xFFFFFFFF ∧ (∀ p ∈ s.rings.rings, ringAssigned p.2 r c = false) ∧ (((s.core r c).xr rs2).toNat) % 64 = 0 ∧ (((s.core r c).xr rs2).toNat) + 64 ≤ 0x40000) ∧
    (∃ (s : State) (r c rd rs1 rs2 : Nat), CoreGo s r c ∧ rd < 32 ∧ (((s.core r c).xr rs2).toNat) % 64 ≠ 0) ∧
    (∃ (s : State) (r c rd rs1 rs2 : Nat), ∃ g, CoreGo s r c ∧ rd < 32 ∧ (((s.core r c).xr rs1).toNat) < 65536 ∧ s.ring (((s.core r c).xr rs1).toNat) = some g ∧ ringAssigned g r c = false ∧ (((s.core r c).xr rs2).toNat) + 64 ≤ 0x40000) ∧
    (∃ (s : State) (r c rd rs1 rs2 : Nat), ∃ g, CoreGo s r c ∧ rd < 32 ∧ (((s.core r c).xr rs1).toNat) < 65536 ∧ s.ring (((s.core r c).xr rs1).toNat) = some g ∧ ringAssigned g r c = true ∧ (s.core r c).taint ≠ [] ∧ (((s.core r c).xr rs2).toNat) + 64 ≤ 0x40000) ∧
    (∃ (s : State) (r c rd rs1 rs2 : Nat), CoreGo s r c ∧ rd < 32 ∧ srIllegal (((s.core r c).xr rs1).toNat) = true) ∧
    (∃ (s : State) (r c rd rs1 rs2 : Nat), CoreGo s r c ∧ rd < 32 ∧ srIllegal (((s.core r c).xr rs1).toNat) = false ∧ scbVerdict (s.row r) (s.row r).scbPend { owner := ownPrm c, ranges := [(srLine (((s.core r c).xr rs1).toNat), srLen (((s.core r c).xr rs1).toNat), srWr (((s.core r c).xr rs1).toNat))], tb := s.tb } = .grant) ∧
    (∃ (s : State) (r c rd rs1 rs2 : Nat), CoreGo s r c ∧ rd < 32 ∧ srIllegal (((s.core r c).xr rs1).toNat) = false ∧ s.tb < (((s.core r c).xr rs2).toNat) ∧ scbVerdict (s.row r) (s.row r).scbPend { owner := ownPrm c, ranges := [(srLine (((s.core r c).xr rs1).toNat), srLen (((s.core r c).xr rs1).toNat), srWr (((s.core r c).xr rs1).toNat))], tb := s.tb } = .wait) ∧
    (∃ (s : State) (r c rd rs1 rs2 : Nat), CoreGo s r c ∧ rd < 32 ∧ 1 < (((s.core r c).xr rs2).toNat)) ∧
    (∃ (s : State) (r c rd rs1 rs2 : Nat), CoreGo s r c ∧ rd < 32 ∧ (((s.core r c).xr rs2).toNat) ≤ 1 ∧ (((s.core r c).xr rs1).toNat) ≤ s.tb) ∧
    (∃ (s : State) (r c rd rs1 rs2 : Nat), CoreGo s r c ∧ rd < 32 ∧ (((s.core r c).xr rs2).toNat) = 0 ∧ s.tb < (((s.core r c).xr rs1).toNat)) :=
  ⟨⟨CR [(1, 40), (2, 64)], 11, 7, 31, 1, 2, G, by decide +kernel⟩,
   ⟨C [(1, 0xFFFFFFFF), (2, 64)], 11, 7, 31, 1, 2, by decide +kernel⟩,
   ⟨C [(1, 0xFFFFFFFF), (2, 65)], 11, 7, 31, 1, 2, by decide +kernel⟩,
   ⟨rg 41 { G with slots := 1 } (C [(1, 41), (2, 65)]), 11, 7, 31, 1, 2, { G with slots := 1 }, by decide +kernel⟩,
   ⟨rg 41 G (cr 11 7 { regs [(1, 41), (2, 64)] with taint := [(3, 4)] } up), 11, 7, 31, 1, 2, G, by decide +kernel⟩,
   ⟨C [(1, 7 + rlen 2), (2, 0)], 11, 7, 31, 1, 2, by decide +kernel⟩,
   ⟨C [(1, 8 + rlen 2 + 2^63), (2, 0)], 11, 7, 31, 1, 2, by decide +kernel⟩,
   ⟨rw_ 11 (fun w => { w with scb := [{ line := 8, len := 2, wr := true, owner := 1, tb := 1 }] }) (C [(1, 8 + rlen 2 + 2^63), (2, 901)]), 11, 7, 31, 1, 2, by decide +kernel⟩,
   ⟨C [(1, 7), (2, 2)], 11, 7, 31, 1, 2, by decide +kernel⟩,
   ⟨C [(1, 900), (2, 1)], 11, 7, 31, 1, 2, by decide +kernel⟩,
   ⟨C [(1, 901), (2, 0)], 11, 7, 31, 1, 2, by decide +kernel⟩⟩

/-- The hypotheses of WaitsAndWatchdogEnd can be met, clause by clause. -/
theorem test_WaitsAndWatchdogEnd :
    (∃ (s : State) (r c : Nat) (w : CoreWait), r < s.rows.length ∧ c < (s.row r).cores.length ∧ (s.core r c).wait = some w ∧ w.isTb = false ∧ w.untilTb ≤ s.tb) ∧
    (∃ (s : State) (r c : Nat) (w : CoreWait), r < s.rows.length ∧ c < (s.row r).cores.length ∧ (s.core r c).wait = some w ∧ w.isTb = true ∧ rowRuns s r = true ∧ w.untilTb ≤ s.tb) ∧
    (∃ (s : State) (r c : Nat) (w : CoreWait), (s.core r c).wait = some w ∧ s.tb < w.untilTb ∧ w.ring = false) ∧
    (∃ (s : State) (r c : Nat), r < s.rows.length ∧ c < (s.row r).cores.length ∧ (s.core r c).st = .running ∧ (s.core r c).wdAt ≤ s.tb) ∧
    (∃ (s : State) (r c : Nat), ((s.core r c).st = .waiting ∧ (s.core r c).wait.any (·.isTb) = true ∨ s.tb < (s.core r c).wdAt)) ∧
    (∃ (s : State) (r c n : Nat) (g : RqRing), (s.core r c).st = .halted ∧ s.rings.up = true ∧ s.ring n = some g ∧ g.owner = r ∧ (s.core r c).heldPush = none) :=
  ⟨⟨rw_ 11 (fun w => { w with scbPend := [{ owner := ownPrm 7, ranges := [(8, 1, true)] }, { owner := 1, ranges := [(16, 1, true)] }] }) (cr 11 7 { st := .waiting, wait := some { untilTb := 900, rd := 31 } } (at_ 900 up)), 11, 7, { untilTb := 900, rd := 31 }, by decide +kernel⟩,
   ⟨cr 11 7 { st := .waiting, wait := some { isTb := true, untilTb := 900, rd := 31 } } (at_ 900 up), 11, 7, { isTb := true, untilTb := 900, rd := 31 }, by decide +kernel⟩,
   ⟨cr 11 7 { st := .waiting, wait := some { isTb := true, untilTb := 901, rd := 31 } } (at_ 900 up), 11, 7, { isTb := true, untilTb := 901, rd := 31 }, by decide +kernel⟩,
   ⟨C [], 11, 7, by decide +kernel⟩,
   ⟨cr 11 7 { st := .running, wdAt := 901 } (at_ 900 up), 11, 7, by decide +kernel⟩,
   ⟨rg 40 { G with out := [{ tag := 1, slot := 7 }, { tag := 2, slot := 6 }] } (cr 11 7 { st := .halted } up), 11, 7, 40, { G with out := [{ tag := 1, slot := 7 }, { tag := 2, slot := 6 }] }, by decide +kernel⟩⟩

/-- The hypotheses of PrimroseExecutesAndAccesses can be met, clause by clause. -/
theorem test_PrimroseExecutesAndAccesses :
    (∃ (s : State) (r c raw w len : Nat), CoreGo s r c ∧ fetchInstr (s.core r c) = .ok raw w len ∧ rvOp w = 0x13 ∧ rvF3 w = 0) ∧
    (∃ (s : State) (r c raw w len : Nat), CoreGo s r c ∧ fetchInstr (s.core r c) = .ok raw w len ∧ rvOp w = 0x33 ∧ rvF3 w = 0 ∧ rvF7 w = 0x20) ∧
    (∃ (s : State) (r c raw w len : Nat), CoreGo s r c ∧ fetchInstr (s.core r c) = .ok raw w len ∧ rvOp w = 0x63 ∧ rvF3 w = 0) ∧
    (∃ (s : State) (r c raw : Nat), CoreGo s r c ∧ fetchInstr (s.core r c) = .illegal raw) ∧
    (∃ (s : State) (r c : Nat), coreRuns s r c = false) ∧
    (∃ (s : State) (r c a n d : Nat) (m : PendMem), r < s.rows.length ∧ c < (s.row r).cores.length ∧ (s.core r c).mem = some m ∧ rowRuns s r = true ∧ rvOp m.word = 3 ∧ accsOf (s.core r c) m.word = some [(a, n, false)] ∧ (corePlace r a n = .scratch d ∨ corePlace r a n = .dev d) ∧ accReady s r c a n false = true ∧ accessCode s false d n = .ok) ∧
    (∃ (s : State) (r c a n d l k : Nat) (m : PendMem), r < s.rows.length ∧ c < (s.row r).cores.length ∧ (s.core r c).mem = some m ∧ rowRuns s r = true ∧ rvOp m.word = 0x23 ∧ accsOf (s.core r c) m.word = some [(a, n, true)] ∧ corePlace r a n = .scratch d ∧ accReady s r c a n true = true ∧ linesAt s d n = some (r, l, k) ∧ coreOwns (s.row r) c l = false) :=
  ⟨⟨cr 11 7 (prog addi [(6, 40)]) up, 11, 7, addi, addi, 4, by decide +kernel⟩,
   ⟨cr 11 7 (prog sub [(6, 40), (7, 41)]) up, 11, 7, sub, sub, 4, by decide +kernel⟩,
   ⟨cr 11 7 (prog beq [(6, 40), (7, 40)]) up, 11, 7, beq, beq, 4, by decide +kernel⟩,
   ⟨cr 11 7 (prog 0 []) up, 11, 7, 0, by decide +kernel⟩,
   ⟨up, 11, 7, by decide +kernel⟩,
   ⟨mm ldw (2^63 + 0x200000000040) false, 11, 7, 2^63 + 0x200000000040, 8, 0x200000000040, { word := ldw, addr := 2^63 + 0x200000000040 }, by decide +kernel⟩,
   ⟨mm sdw 0x10000040 true, 11, 7, 0x10000040, 8, coreDev 11 0x10000040, 1, 1, { word := sdw, addr := 0x10000040, isStore := true }, by decide +kernel⟩⟩

end W06

namespace W07

def dS : DmaDesc := { src := 0x200000000040, dst := 64 * 1310720 * 11 + 4096 * 64, len := 192, tag := 9 }
def dR : DmaDesc := { src := 0x200000000040, dst := 0x200000000440, len := 192, tag := 9 }
def dE (x : Dma) : State := rw_ 11 (fun w => { w with dma := w.dma.set 3 x }) (memWrite (at_ 900 up) 0x200000000040 (le 64 77))
def rr (a : List ScbEntry) (p : List ScbReq) (s : State) : State := rw_ 11 (fun w => { w with scb := a, scbPend := p }) s
def wq : ScbReq := { owner := ownPrm 7, ranges := [(16, 2, true)] }
def ig : Ingress := { addr := 64 * 1310720 * 11 + 4096 * 64, bytes := 64, src := 16, pkt := { dst := 16 + 11, src := 2, type := 0, tag := 4, len := 64 }, bridge := 1 }
def uc (x : Ucie) : State := up.modFab (fun f => { f with ucie := f.ucie.set 15 x })
/-- The hypotheses of ScoreboardKeepsRangesExclusive can be met, clause by clause. -/
theorem test_ScoreboardKeepsRangesExclusive :
    (∃ (s : State) (r i : Nat) (b : Bool), (∀ q, ScbOk (s.row q))) ∧
    (∃ (s : State) (r t i : Nat), (∀ q, ScbOk (s.row q))) ∧
    (∃ (s : State) (r c rd a b : Nat), (∀ q, ScbOk (s.row q))) ∧
    (∃ (s : State) (r i c : Nat) (q : ScbReq) (w : CoreWait), r < s.rows.length ∧ c < 8 ∧ c < (s.row r).cores.length ∧ (s.row r).scbPend[i]? = some q ∧ q.owner = ownPrm c ∧ rowRuns s r = true ∧ scbVerdict (s.row r) ((s.row r).scbPend.take i) q = .grant ∧ (s.core r c).wait = some w ∧ w.isTb = false) ∧
    (∃ (s : State) (r i : Nat) (q : ScbReq), r < s.rows.length ∧ (s.row r).scbPend[i]? = some q ∧ rowRuns s r = true ∧ scbVerdict (s.row r) ((s.row r).scbPend.take i) q = .wait) :=
  ⟨⟨rr [{ line := 8, len := 1, wr := true, owner := 1 }] [{ owner := 2, ranges := [(16, 1, true)] }] up, 11, 0, false, scb_all _ (by decide +kernel) (by decide +kernel)⟩,
   ⟨rr [{ line := 8, len := 1, wr := true, owner := 1 }] [] (tl 11 3 { mode := 2, queue := [{ word := wd [(6, 0), (1, 8), (16384, 16), (2, 37)] }] } up), 11, 3, 0, scb_all _ (by decide +kernel) (by decide +kernel)⟩,
   ⟨cr 11 7 (regs [(1, 16384 + 2 * 2^21 + 2^63)]) up, 11, 7, 31, 1, 2, scb_all _ (by decide +kernel) (by decide +kernel)⟩,
   ⟨rr [{ line := 8, len := 1, wr := true, owner := 1 }] [{ owner := 3, ranges := [(32, 1, true)] }, wq] (cr 11 7 { st := .waiting, wait := some { untilTb := 50, rd := 3 } } up), 11, 1, 7, wq, { untilTb := 50, rd := 3 }, by decide +kernel⟩,
   ⟨rw_ 11 (fun w => { w with banks := w.banks.set 0 { st := .ret } }) (rr [{ line := 16, len := 1, wr := true, owner := 1 }] [wq] up), 11, 0, wq, by decide +kernel⟩⟩

/-- The hypotheses of DmaDescriptorsMakeOneRecord can be met, clause by clause. -/
theorem test_DmaDescriptorsMakeOneRecord :
    (∃ (s : State) (r e : Nat) (d : DmaDesc), rowRuns s r = true ∧ (s.row r).st = .active ∧ (s.dmaE r e).queue.length + (s.dmaE r e).held.length < 32 ∧ (s.dmaE r e).subWait = [] ∧ r < s.rows.length ∧ e < (s.row r).dma.length ∧ dmaCheck s r e { d with op := .copy } = .ok) ∧
    (∃ (s : State) (r e : Nat) (d : DmaDesc), rowRuns s r = true ∧ (s.row r).st = .active ∧ (s.dmaE r e).queue.length + (s.dmaE r e).held.length < 32 ∧ (s.dmaE r e).subWait = [] ∧ r < s.rows.length ∧ e < (s.row r).dma.length ∧ dmaCheck s r e { d with op := .skew } = .ok) ∧
    (∃ (s : State) (r e : Nat) (d : DmaDesc), rowRuns s r = true ∧ (s.row r).st = .active ∧ (s.dmaE r e).queue.length + (s.dmaE r e).held.length < 32 ∧ (s.dmaE r e).subWait = [] ∧ r < s.rows.length ∧ e < (s.row r).dma.length ∧ dmaCheck s r e { d with op := .unskew } = .ok) ∧
    (∃ (s : State) (r e : Nat) (d : DmaDesc), rowRuns s r = true ∧ (s.row r).st = .active ∧ (s.dmaE r e).queue.length + (s.dmaE r e).held.length < 32 ∧ (s.dmaE r e).subWait = [] ∧ r < s.rows.length ∧ e < (s.row r).dma.length ∧ dmaCheck s r e { d with op := .fill } = .ok) ∧
    (∃ (s : State) (r e : Nat) (d : DmaDesc), rowRuns s r = true ∧ (s.row r).st = .active ∧ dmaCheck s r e { d with op := .copy } ≠ .ok) ∧
    (∃ (s : State) (r e : Nat) (d : DmaDesc) (rest : List DmaDesc), r < s.rows.length ∧ e < (s.row r).dma.length ∧ (s.dmaE r e).queue = d :: rest ∧ rowRuns s r = true ∧ (s.dmaE r e).active = false ∧ (s.dmaE r e).cpl.length < 64 ∧ (s.dmaE r e).held = [] ∧ dmaAsleep s d = []) ∧
    (∃ (s : State) (r e : Nat), 64 ≤ (s.dmaE r e).cpl.length) ∧
    (∃ (s : State) (r e : Nat) (d : DmaDesc) (rest : List DmaDesc), r < s.rows.length ∧ e < (s.row r).dma.length ∧ (s.dmaE r e).queue = d :: rest ∧ dmaReady s r e = true ∧ dmaHolds s d (s.dmaE r e).taint = false ∧ dmaRoom s d (dmaTaint s d (s.dmaE r e).taint) (s.dmaE r e).taintBad = true ∧ dmaCode s d = .ok ∧ dmaPoisoned s d = false ∧ (s.dmaE r e).cpl.length < 64 ∧ (s.dmaE r e).held = []) ∧
    (∃ (s : State) (r e : Nat) (c : DmaCpl) (rest : List DmaCpl), r < s.rows.length ∧ e < (s.row r).dma.length ∧ (s.dmaE r e).cpl = c :: rest) ∧
    (∃ (s : State) (r e n : Nat) (d : DmaDesc) (rest : List DmaDesc), r < s.rows.length ∧ e < (s.row r).dma.length ∧ (s.dmaE r e).queue = d :: rest ∧ (s.dmaE r e).active = true ∧ (s.dmaE r e).startTb + (s.dmaE r e).limit ≤ s.tb ∧ (s.dmaE r e).cpl.length < 64 ∧ (s.dmaE r e).held = []) :=
  ⟨⟨up, 11, 3, dS, by decide +kernel⟩,
   ⟨up, 11, 3, { dS with len := 0, fmt := 9, v := 3, k := 64, stride := 128 }, by decide +kernel⟩,
   ⟨up, 11, 3, { dS with len := 0, src := 64 * 1310720 * 11, fmt := 9, v := 3, k := 64, stride := 128, dst := 0x200000000440 }, by decide +kernel⟩,
   ⟨up, 11, 3, { dS with src := 0 }, by decide +kernel⟩,
   ⟨up, 11, 3, { dS with len := 0 }, by decide +kernel⟩,
   ⟨dE { queue := [dS, dR] }, 11, 3, dS, [dR], by decide +kernel⟩,
   ⟨dE { queue := [dS, dR], cpl := List.replicate 64 {} }, 11, 3, by decide +kernel⟩,
   ⟨rr [{ line := 4096, len := 1, wr := true, owner := ownDma 11 3 }] [] (dE { queue := [dS, dR], active := true }), 11, 3, dS, [dR], by decide +kernel⟩,
   ⟨dE { cpl := [{ tag := 3 }, { tag := 4 }], held := [{ tag := 5 }] }, 11, 3, { tag := 3 }, [{ tag := 4 }], by decide +kernel⟩,
   ⟨at_ 500000 (dE { queue := [dR, dS], active := true, cpl := List.replicate 63 {} }), 11, 3, 1, dR, [dS], by decide +kernel⟩⟩

/-- The hypotheses of IngressBanksAndLinks can be met, clause by clause. -/
theorem test_IngressBanksAndLinks :
    (∃ (s : State) (r a i : Nat) (g : Ingress), r < s.rows.length ∧ a < 16 ∧ (s.row r).ingress.length = 16 ∧ nth (s.row r).ingress a = none ∧ (s.row r).arrivals[i]? = some g ∧ rowRuns s r = true ∧ (s.row r).st = .active ∧ g.fence = false ∧ g.kind = 0 ∧ g.isWrite = false ∧ g.side = none ∧ accessCode s false g.addr g.bytes = .ok ∧ scbVerdict (s.row r) (s.row r).scbPend (ingReq s.tb a g) = .grant ∧ s.fab.winNext = [] ∧ provOver (s.row r) (g.addr / 64 % 1310720) ((g.addr % 64 + g.bytes + 63) / 64) = []) ∧
    (∃ (s : State) (r a i : Nat) (g : Ingress), (s.row r).arrivals[i]? = none ∧ ingHeld s r a = none ∧ s.fab.winNext = []) ∧
    (∃ (s : State) (r c : Nat) (m : PendMem) (n : Nat), r < s.rows.length ∧ c < (s.row r).cores.length ∧ (s.core r c).mem = some m ∧ m.startTb = some n ∧ n + m.limit ≤ s.tb) ∧
    (∃ (s : State) (r b : Nat), rowRuns s r = true ∧ b < 40 ∧ (s.bank r b).st = .on ∧ (s.bank r b).inTest = false ∧ (s.bank r b).tIdle ≠ 0 ∧ bankUsed (s.row r) b = false ∧ (s.bank r b).idleSince + (s.bank r b).tIdle ≤ s.tb) ∧
    (∃ (s : State) (r b : Nat), bankUsed (s.row r) b = true) ∧
    (∃ (s : State) (r b : Nat), r < 12 ∧ b < 40 ∧ (s.bank r b).st = .entering ∧ (s.bank r b).toOff = false) ∧
    (∃ (s : State) (r b : Nat), r < 12 ∧ b < 40 ∧ r < s.rows.length ∧ b < (s.row r).banks.length ∧ (s.bank r b).st = .scrub ∧ (s.bank r b).cmdOff = false ∧ (∀ k ∈ s.gw.cmds, k.wait ≠ wBank ∧ k.wait ≠ wRowPower)) ∧
    (∃ (s : State) (m q cvc n : Nat), m < 16 ∧ m < s.fab.ucie.length ∧ (nth s.fab.ucie m).up = true ∧ q = (nth s.fab.ucie m).rxSeq) ∧
    (∃ (s : State) (m q cvc n : Nat) (idle : Bool), m < 16 ∧ m < s.fab.ucie.length ∧ (nth s.fab.ucie m).up = true ∧ (nth s.fab.ucie m).replays < 8) ∧
    (∃ (s : State) (m q cvc n : Nat) (idle : Bool), m < 16 ∧ m < s.fab.ucie.length ∧ (nth s.fab.ucie m).up = true ∧ 8 ≤ (nth s.fab.ucie m).replays) :=
  ⟨⟨rw_ 11 (fun w => { w with arrivals := [ig] }) up, 11, 15, 0, ig, by decide +kernel⟩,
   ⟨up, 11, 15, 0, ig, by decide +kernel⟩,
   ⟨cr 11 7 { st := .running, mem := some { addr := 5, startTb := some 0, isStore := true }, mtvec := 0x105 } (at_ 2500 up), 11, 7, { addr := 5, startTb := some 0, isStore := true }, 0, by decide +kernel⟩,
   ⟨at_ 5000 up, 11, 39, by decide +kernel⟩,
   ⟨rr [{ line := 8, len := 1, wr := true, owner := 1 }] [] up, 11, 0, by decide +kernel⟩,
   ⟨rw_ 11 (fun w => { w with banks := w.banks.set 39 { st := .entering, wakeAfter := true } }) up, 11, 39, by decide +kernel⟩,
   ⟨rw_ 11 (fun w => { w with banks := w.banks.set 39 { st := .scrub } }) (memWrite (memWrite up (64 * 1310720 * 12 - 64) (le 8 77)) (64 * 1310720 * 11) (le 8 77)), 11, 39, by decide +kernel⟩,
   ⟨uc { rxSeq := 1023, nakSent := true, replays := 3 }, 15, 1023, 0, 2, by decide +kernel⟩,
   ⟨uc { rxSeq := 1023, replays := 7 }, 15, 3, 0, 2, false, by decide +kernel⟩,
   ⟨uc { rxSeq := 1023, replays := 8 }, 15, 3, 0, 2, true, by decide +kernel⟩⟩

end W07

namespace W08

def A0 : Nat := 0x200000000040
def cpy : State := up.modMem (fun m => { m with bad := [canon up A0 / 64], remap := [(0, { st := .retired, unit := 0, phys := 0, copying := true })] })
def mu (u : Nat) (x : MemUnit) (s : State) : State := s.modMemUnit u (fun _ => x)
def vs1 : Nat := 0x27 + 1 * 2^7 + 6 * 2^15 + 8 * 2^20 + 2^25
def fbytes : List Byte := le 64 (1 + 9 * 2^8 + 5 * 2^32 + 3 * 2^64 + 1 * 2^80 + 2 * 2^96 + A0 * 2^128 + (64 * 1310720 * 11) * 2^256 + (64 * 1310720 * 11 + 4096) * 2^(64*5) + (64 * 1310720 * 11 + 8192) * 2^(64*6) + 64 * 2^(64*7))
def fcore : Core := { regs [(6, 2^63 + 0xC * 2^44 + 4096)] with csr := [(0x300, 0x600)], v := (List.replicate 32 0).set 1 (BitVec.ofNat 512 (leNat fbytes)), mem := some { word := vs1, isStore := true, addr := 2^63 + 0xC * 2^44 + 4096 } }
def pm : PendMem := { word := vs1, isStore := true, addr := 2^63 + 0xC * 2^44 + 4096 }
def tab : Table := { bridge := 1, nrows := 10, dim := 32, rowBytes := 64, rowBase := 0x200000400000 }
def fc : FetchCmd := parseFetch fbytes 11 7
def tb5 (t : Table) (s : State) : State := s.modFetch (fun f => { f with tables := [(5, t)] })
def FE (x : FetchUnit) : State := tb5 tab ((memWrite up A0 (le 16 (3 + 0x3F800000 * 2^64))).modFetch (fun f => { f with bridges := [{}, x] }))
def en (x : FetchRun) : State := FE { engines := [none, none, none, some x] }
def rowb : List Byte := le 64 (0x3F80 + 5 * 2^24 + 127 * 2^32 + 0x12345678 * 2^40)
def en2 (x : FetchRun) : State := memWrite (en x) (0x200000400000 + 3 * 64) rowb
def kv : Table := { bridge := 1, nrows := 10, type := .kv, bsize := 256, mapBase := 0x200000800000 }
def fg (op : Nat) : FetchRun := { cmd := { fc with op := op, flags := 0 } }
def ek (op e : Nat) : State := memWrite (memWrite (memWrite (tb5 kv (en (fg op))) A0 (le 16 (e + (0x200000a00000) * 2^64))) (0x200000800000 + 8 * 3) (le 8 0x200000c00000)) 0x200000c00000 (le 8 77)
def fd (src : Nat) : FetchRun := { cmd := { fc with src := src }, next := 2, curBag := 1, rows := 2 }
/-- The hypotheses of MemoryReadsBackWhatWasWritten can be met, clause by clause. -/
theorem test_MemoryReadsBackWhatWasWritten :
    (∃ (s : State) (a : Nat) (l : List Byte) (k : Nat), (∀ i, i < l.length → canon s (a + i) ≠ k)) ∧
    (∃ (s : State) (a : Nat) (l : List Byte) (i : Nat), i < l.length ∧ (∀ j, i < j → j < l.length → canon s (a + j) ≠ canon s (a + i))) ∧
    (∃ (s : State) (a i j : Nat), a % 64 = 0 ∧ i < 64 ∧ j < 64 ∧ i ≠ j) ∧
    (∃ (s : State) (off : Nat), off < 2 ^ 39 ∧ 256 * (off / 2048) + off % 256 < 47815065600) :=
  ⟨⟨memWrite up A0 (le 8 5), A0 + 8, le 8 (2^64-1), A0, by decide +kernel⟩,
   ⟨memWrite up A0 (le 8 5), A0, le 8 (2^56), 7, by decide +kernel, fun j h1 h2 => absurd h2 (by simp [le]; omega)⟩,
   ⟨up, 0x100000000040, 63, 0, by decide +kernel⟩,
   ⟨up, 0x12345678, by decide +kernel⟩⟩

/-- The hypotheses of MemoryAccessesAnswerAndRetire can be met, clause by clause. -/
theorem test_MemoryAccessesAnswerAndRetire :
    (∃ (s : State) (a u loc : Nat) (data : List Byte), place s a = .mem u loc ∧ accessCode s true a data.length = .ok) ∧
    (∃ (s : State) (a n u loc : Nat), place s a = .mem u loc ∧ accessCode s false a n = .ok) ∧
    (∃ (s : State) (a n u loc : Nat) (c : Code), place s a = .mem u loc ∧ accessCode s false a n = c ∧ c ≠ .ok) ∧
    (∃ (s : State) (a u loc : Nat), place s a = .mem u loc ∧ a % 64 = 0 ∧ accessCode s false a 64 = .ok ∧ (pageEnt s (pageKey u loc)).unit < s.mem.units.length ∧ (pageEnt s (pageKey u loc)).st = .mapped) ∧
    (∃ (s : State) (k : Nat), (pageEnt s k).copying = true ∧ (pageEnt s k).st = .retired ∧ (pageEnt s k).unit < s.mem.units.length ∧ (s.memUnit (pageEnt s k).unit).retired < retireLimit (pageEnt s k).unit) ∧
    (∃ (s : State) (d c : Nat), d < 16 ∧ unitIsOut (s.memUnit (8 + d)).st = false) :=
  ⟨⟨memWrite up A0 (le 8 5), A0 + 1, 0, 65, le 8 (2^63), by decide +kernel⟩,
   ⟨memWrite up A0 (le 8 5), A0, 8, 0, 64, by decide +kernel⟩,
   ⟨up.modMemUnit 0 (fun u => { u with st := .failed }), A0, 8, 0, 64, .unitRetired, by decide +kernel⟩,
   ⟨memWrite up A0 (le 8 5), A0, 0, 64, by decide +kernel⟩,
   ⟨cpy, 0, by decide +kernel⟩,
   ⟨up, 15, 77, by decide +kernel⟩⟩

/-- The hypotheses of ChannelsDrainAndReturn can be met, clause by clause. -/
theorem test_ChannelsDrainAndReturn :
    (∃ (s : State) (d k : Nat) (x : Nat × Nat × Option Nat) (rest : List Nat), d < 16 ∧ 8 + d < s.mem.units.length ∧ (s.memUnit (8 + d)).st = .draining ∧ (s.memUnit (8 + d)).moving = k :: rest ∧ rest ≠ [] ∧ moveTarget s (8 + d) = some x ∧ (∀ l, x.2.2 = some l → l ≠ k)) ∧
    (∃ (s : State) (d : Nat), d < 16 ∧ 8 + d < s.mem.units.length ∧ (s.memUnit (8 + d)).st = .draining ∧ (s.memUnit (8 + d)).moving = [] ∧ d < s.power.switches.length) ∧
    (∃ (s : State) (d k : Nat) (rest : List Nat), d < 16 ∧ 8 + d < s.mem.units.length ∧ k / 65536 = 8 + d ∧ (s.memUnit (8 + d)).st = .returning ∧ (s.memUnit (8 + d)).moving = k :: rest ∧ rest ≠ [] ∧ (s.memUnit (8 + d)).badPhys = [] ∧ s.mem.lostUnits = [] ∧ (∀ e ∈ s.mem.remap, e.2.st ≠ .borrowed)) ∧
    (∃ (s : State) (d : Nat), d < 16 ∧ 8 + d < s.mem.units.length ∧ (s.memUnit (8 + d)).st = .testing ∧ (∀ e ∈ s.mem.remap, e.1 / 65536 ≠ 8 + d)) ∧
    (∃ (s : State) (d reason : Nat) (l : List Nat), d < 16 ∧ 8 + d < s.mem.units.length ∧ d < s.power.switches.length ∧ (s.memUnit (8 + d)).st = .testing ∧ reason ≠ 0) :=
  ⟨⟨mu 23 { st := .draining, moving := [65536 * 23 + 5, 65536 * 23 + 6] } up, 15, 65536 * 23 + 5, (moveTarget (mu 23 { st := .draining, moving := [65536 * 23 + 5, 65536 * 23 + 6] } up) 23).get!, [65536 * 23 + 6], by decide +kernel⟩,
   ⟨mu 23 { st := .draining } (sw 15 { st := .on } up), 15, by decide +kernel⟩,
   ⟨(mu 23 { st := .returning, moving := [65536 * 23 + 5, 65536 * 23 + 6] } up).modMem (fun m => { m with remap := [(65536 * 23 + 5, { unit := 9, phys := 60001 })] }), 15, 65536 * 23 + 5, [65536 * 23 + 6], by decide +kernel⟩,
   ⟨memWrite (mu 23 { st := .testing, retired := 3 } up) (0x400000000000 + 15 * 2^37) (le 8 5), 15, by decide +kernel⟩,
   ⟨mu 23 { st := .testing, retired := 3 } (sw 15 { st := .on } up), 15, 2, [3], by decide +kernel⟩⟩

/-- The hypotheses of FetchCommandsRunToTheirRecord can be met, clause by clause. -/
theorem test_FetchCommandsRunToTheirRecord :
    (∃ (s : State) (r c b : Nat) (l : List Byte) (m : PendMem), r < s.rows.length ∧ c < (s.row r).cores.length ∧ b < s.fetch.bridges.length ∧ (s.core r c).mem = some m ∧ fetchStore s r c = some (b, l) ∧ rowRuns s r = true ∧ bridgeServes s b = true ∧ isLine (parseFetch l r c).cpl = true ∧ nth (s.core r c).fetchOut b < 2) ∧
    (∃ (s : State) (r c b : Nat) (l : List Byte) (m : PendMem), r < s.rows.length ∧ c < (s.row r).cores.length ∧ b < s.fetch.bridges.length ∧ (s.core r c).mem = some m ∧ fetchStore s r c = some (b, l) ∧ rowRuns s r = true ∧ 2 ≤ nth (s.core r c).fetchOut b) ∧
    (∃ (s : State) (b e : Nat) (c : FetchCmd) (rest : List FetchCmd), b < s.fetch.bridges.length ∧ e < 4 ∧ (s.fetchU b).engines.length = 4 ∧ (s.fetchU b).queue = c :: rest ∧ s.engine b e = none ∧ bridgeServes s b = true ∧ s.therm.halt = false) ∧
    (∃ (s : State) (b e x w : Nat) (r : FetchRun) (t0 : Table), b < s.fetch.bridges.length ∧ e < (s.fetchU b).engines.length ∧ working s b e = some (r, t0) ∧ r.cmd.op = 1 ∧ r.next < r.cmd.nids ∧ r.curBag < r.cmd.nbags ∧ r.taint = [] ∧ (∀ g ∈ entryReads r.cmd (t0.type == .keyed) r.next 16, readHeld s g.1 g.2 = false ∧ accessCode s false g.1 g.2 = .ok ∧ linesAt s g.1 g.2 = none) ∧ field (listAt s r.cmd (16 * r.next) 16) 6 2 = r.curBag ∧ resolveEntry s r.cmd t0 r.next (field (listAt s r.cmd (16 * r.next) 16) 0 5) = .row x ∧ w = (if r.cmd.unweighted then 0x3F800000 else field (listAt s r.cmd (16 * r.next) 16) 8 4)) ∧
    (∃ (s : State) (b e x tier : Nat) (r : FetchRun) (t0 : Table) (l : List Byte), b < s.fetch.bridges.length ∧ e < (s.fetchU b).engines.length ∧ s.engine b e = some r ∧ r.pendRow = some x ∧ s.table r.cmd.table = some t0 ∧ r.cmd.witness = false ∧ rowSource s r t0 x = .got tier (some l) ∧ (decodeRow t0.dim l).isSome = true) ∧
    (∃ (s : State) (b e x tier : Nat) (o : Option (List Byte)) (r : FetchRun) (t0 : Table), b < s.fetch.bridges.length ∧ e < (s.fetchU b).engines.length ∧ s.engine b e = some r ∧ r.pendRow = some x ∧ s.table r.cmd.table = some t0 ∧ r.cmd.witness = false ∧ rowSource s r t0 x = .got tier o) ∧
    (∃ (s : State) (b e a : Nat) (r : FetchRun) (t0 : Table), b < s.fetch.bridges.length ∧ e < (s.fetchU b).engines.length ∧ working s b e = some (r, t0) ∧ r.taint = [] ∧ r.next < r.cmd.nids ∧ (∀ g ∈ entryReads r.cmd false r.next 8 ++ entryReads r.cmd false r.next 16, readHeld s g.1 g.2 = false ∧ accessCode s false g.1 g.2 = .ok ∧ linesAt s g.1 g.2 = none) ∧ r.cmd.op = 2 ∧ blockAt s t0 (field (listAt s r.cmd (8 * r.next) 8) 0 5) = some a) ∧
    (∃ (s : State) (b e a : Nat) (r : FetchRun) (t0 : Table), b < s.fetch.bridges.length ∧ e < (s.fetchU b).engines.length ∧ working s b e = some (r, t0) ∧ r.taint = [] ∧ r.next < r.cmd.nids ∧ (∀ g ∈ entryReads r.cmd false r.next 8 ++ entryReads r.cmd false r.next 16, readHeld s g.1 g.2 = false ∧ accessCode s false g.1 g.2 = .ok ∧ linesAt s g.1 g.2 = none) ∧ r.cmd.op = 2) ∧
    (∃ (s : State) (b e a : Nat) (r : FetchRun) (t0 : Table), b < s.fetch.bridges.length ∧ e < (s.fetchU b).engines.length ∧ working s b e = some (r, t0) ∧ r.taint = [] ∧ r.next < r.cmd.nids ∧ (∀ g ∈ entryReads r.cmd false r.next 8 ++ entryReads r.cmd false r.next 16, readHeld s g.1 g.2 = false ∧ accessCode s false g.1 g.2 = .ok ∧ linesAt s g.1 g.2 = none) ∧ r.cmd.op = 3 ∧ blockAt s t0 (field (listAt s r.cmd (16 * r.next) 16) 0 5) = none) ∧
    (∃ (s : State) (b e a : Nat) (r : FetchRun) (t0 : Table), ∃ u loc, b < s.fetch.bridges.length ∧ e < (s.fetchU b).engines.length ∧ working s b e = some (r, t0) ∧ r.taint = [] ∧ r.next < r.cmd.nids ∧ (∀ g ∈ entryReads r.cmd false r.next 8 ++ entryReads r.cmd false r.next 16, readHeld s g.1 g.2 = false ∧ accessCode s false g.1 g.2 = .ok ∧ linesAt s g.1 g.2 = none) ∧ r.cmd.op = 3 ∧ blockAt s t0 (field (listAt s r.cmd (16 * r.next) 16) 0 5) = some a ∧ place s (field (listAt s r.cmd (16 * r.next) 16) 8 8) = .mem u loc ∧ accessCode s true (field (listAt s r.cmd (16 * r.next) 16) 8 8) t0.bsize = .ok ∧ accessCode s true (t0.mapBase + 8 * field (listAt s r.cmd (16 * r.next) 16) 0 5) 8 = .ok) ∧
    (∃ (s : State) (b e : Nat) (r : FetchRun), b < s.fetch.bridges.length ∧ e < (s.fetchU b).engines.length ∧ s.engine b e = some r ∧ r.cmd.src ≠ 0 ∧ fetchDone s b e r = true ∧ bridgeServes s b = true) ∧
    (∃ (s : State) (b e q ln : Nat) (r : FetchRun), b < s.fetch.bridges.length ∧ e < (s.fetchU b).engines.length ∧ s.engine b e = some r ∧ r.cmd.src = 0 ∧ fetchDone s b e r = true ∧ bridgeServes s b = true ∧ q = r.cmd.cpl / 83886080 ∧ ln = r.cmd.cpl / 64 % 1310720 ∧ rowIsOut s q = false ∧ rowIsDark s q = false ∧ rowRuns s q = true ∧ (s.bank q (ln / 32768)).st = .on ∧ (s.row q).scb.all (fun x => rangeOk (ln / 8 * 8, 1, true) x.range) = true ∧ markFits s q r.taint r.taintBad = true ∧ accessCode s true r.cmd.cpl 64 = .ok ∧ (∀ t0, s.table r.cmd.table = some t0 → t0.dying = false) ∧ r.status = 0 ∧ r.failed = 0) ∧
    (∃ (s : State) (b e : Nat) (r : FetchRun), s.engine b e = some r ∧ r.ended = false ∧ r.next < r.cmd.nids) :=
  ⟨⟨cr 11 7 fcore up, 11, 7, 1, fbytes, pm, by decide +kernel⟩,
   ⟨cr 11 7 { fcore with fetchOut := [0, 2] } up, 11, 7, 1, fbytes, pm, by decide +kernel⟩,
   ⟨FE { queue := [fc, {}] }, 1, 3, fc, [{}], by decide +kernel⟩,
   ⟨en { cmd := fc }, 1, 3, 3, 0x3F800000, { cmd := fc }, tab, by decide +kernel⟩,
   ⟨en2 { cmd := fc, pendRow := some 3, pendW := 0x3F800000 }, 1, 3, 3, 1, { cmd := fc, pendRow := some 3, pendW := 0x3F800000 }, tab, rowb, by decide +kernel⟩,
   ⟨en2 { cmd := fc, pendRow := some 3, pendW := 0x3F800000 }, 1, 3, 3, 1, some rowb, { cmd := fc, pendRow := some 3, pendW := 0x3F800000 }, tab, by decide +kernel⟩,
   ⟨ek 2 3, 1, 3, 0x200000c00000, fg 2, kv, by decide +kernel⟩,
   ⟨ek 2 3, 1, 3, 0x200000c00000, fg 2, kv, by decide +kernel⟩,
   ⟨ek 3 11, 1, 3, 0x200000c00000, fg 3, kv, by decide +kernel⟩,
   ⟨ek 3 3, 1, 3, 0x200000c00000, fg 3, kv, 0, 0xa00000, by decide +kernel⟩,
   ⟨en (fd 300), 1, 3, fd 300, by decide +kernel⟩,
   ⟨en (fd 0), 1, 3, 11, 128, fd 0, by decide +kernel⟩,
   ⟨en { fd 0 with next := 0 }, 1, 3, { fd 0 with next := 0 }, by decide +kernel⟩⟩

end W08

namespace W09

def card1 : Card := { st := .inService, serial := 5, chans := List.replicate 4 { st := .inService, spareLeft := 100, spareInit := 100 } }
def F0 (x : Card) : State := (at_ 50000000 up).modFlash (fun f => { f with cards := (List.replicate 8 card1).set 7 x })
def ftab : Table := { bridge := 1, home := .flash, nrows := 1000, dim := 32, rowBytes := 64, epoch := 3 }
def gk : Nat × Nat := (5, 0)
def grp1 : RowGroup := { lost := false, card := 7, chan := 3, die := 2, since := 4 }
def F1 (x : Card) (g : RowGroup) : State := (F0 x).modFlash (fun f => { f with groups := [((5, 0), g)], rows := [((5, 3), le 64 9), ((6, 3), le 64 8)] })
def frun : FetchRun := { cmd := { table := 5, op := 1 }, pendRow := some 3 }
def F2 (g : RowGroup) : State := (F1 card1 g).modFetch (fun f => { f with tables := [(5, ftab)], bridges := [{}, { engines := [none, none, none, some frun] }] })
def bat : Batch := { table := 5, rows := [(3, le 64 77), (0, le 64 78)] }
def F3 : State := (F2 grp1).modFlash (fun f => { f with batches := [bat, { table := 6 }] })
/-- The hypotheses of FlashReadsAndBatchCommit can be met, clause by clause. -/
theorem test_FlashReadsAndBatchCommit :
    (∃ (s : State) (b e x step : Nat) (r : FetchRun) (t0 : Table) (g : RowGroup), b < s.fetch.bridges.length ∧ e < (s.fetchU b).engines.length ∧ s.engine b e = some r ∧ r.pendRow = some x ∧ s.table r.cmd.table = some t0 ∧ t0.home = .flash ∧ r.flashRead = none ∧ mapWaits s b r.cmd.table = false ∧ wayOf s t0 x = none ∧ bridgeServes s b = true ∧ kget s.flash.groups (r.cmd.table, x / groupRows t0.rowBytes) = some g ∧ g.lost = false ∧ chanReadable (s.fchan g.card g.chan).st = true ∧ step < 5) ∧
    (∃ (s : State) (b e x step : Nat) (r : FetchRun) (t0 : Table) (g : RowGroup), b < s.fetch.bridges.length ∧ e < (s.fetchU b).engines.length ∧ s.engine b e = some r ∧ r.pendRow = some x ∧ s.table r.cmd.table = some t0 ∧ t0.home = .flash ∧ r.flashRead = none ∧ mapWaits s b r.cmd.table = false ∧ wayOf s t0 x = none ∧ bridgeServes s b = true ∧ kget s.flash.groups (r.cmd.table, x / groupRows t0.rowBytes) = some g ∧ g.lost = false ∧ chanReadable (s.fchan g.card g.chan).st = true ∧ 5 ≤ step) ∧
    (∃ (s : State) (b e x step : Nat) (r : FetchRun) (t0 : Table) (g : RowGroup), b < s.fetch.bridges.length ∧ e < (s.fetchU b).engines.length ∧ s.engine b e = some r ∧ r.pendRow = some x ∧ s.table r.cmd.table = some t0 ∧ t0.home = .flash ∧ r.flashRead = none ∧ mapWaits s b r.cmd.table = false ∧ wayOf s t0 x = none ∧ bridgeServes s b = true ∧ kget s.flash.groups (r.cmd.table, x / groupRows t0.rowBytes) = some g ∧ g.lost = true) ∧
    (∃ (s : State) (t : Nat) (l : List Nat) (k : Batch) (d : Table), s.flash.batches.find? (·.table == t) = some k ∧ s.table t = some d ∧ d.home = .flash ∧ s.therm.halt = false ∧ l ≠ [] ∧ (∀ p ∈ l, cardBridge (p / 4) = d.bridge ∧ cardWritable (s.card (p / 4)) = true ∧ (s.card (p / 4)).st ≠ .draining ∧ chanWritable (s.fchan (p / 4) (p % 4)).st = true) ∧ (k.rows.map (·.1)).Nodup) :=
  ⟨⟨F2 grp1, 1, 3, 3, 4, frun, ftab, grp1, by decide +kernel⟩,
   ⟨F2 grp1, 1, 3, 3, 5, frun, ftab, grp1, by decide +kernel⟩,
   ⟨F2 { grp1 with lost := true }, 1, 3, 3, 5, frun, ftab, { grp1 with lost := true }, by decide +kernel⟩,
   ⟨F3.modFetch (fun f => { f with updBusy := [5, 6] }), 5, [31, 28], bat, ftab, by decide +kernel⟩⟩

/-- The hypotheses of FlashUpkeepKeepsRows can be met, clause by clause. -/
theorem test_FlashUpkeepKeepsRows :
    (∃ (s : State) (c k die sp pa pm wa : Nat), c < 8 ∧ k < 4 ∧ c < s.flash.cards.length ∧ k < (s.card c).chans.length ∧ cardWritable (s.card c) = true ∧ chanWritable (s.fchan c k).st = true ∧ 0 < sp ∧ pa < 3300 ∧ (s.fchan c k).spareInit ≤ 4 * sp) ∧
    (∃ (s : State) (c k die pa pm wa : Nat), c < 8 ∧ k < 4 ∧ c < s.flash.cards.length ∧ k < (s.card c).chans.length ∧ cardWritable (s.card c) = true ∧ chanWritable (s.fchan c k).st = true ∧ (s.fchan c k).st ≠ .readOnly) ∧
    (∃ (s : State) (t g c k die : Nat) (x : RowGroup), kget s.flash.groups (t, g) = some x ∧ x.lost = false ∧ c < 8 ∧ k < 4 ∧ cardBridge c = cardBridge x.card ∧ cardWritable (s.card c) = true ∧ (s.card c).st ≠ .draining ∧ chanWritable (s.fchan c k).st = true ∧ chanReadable (s.fchan x.card x.chan).st = true ∧ (s.fchan x.card x.chan).st ≠ .readOnly ∧ (s.card x.card).st ≠ .draining) ∧
    (∃ (s : State) (c k : Nat) (g : Nat × Nat), c < s.flash.cards.length ∧ k < (s.card c).chans.length ∧ (groupsOn s c k).contains g = true ∧ (s.fchan c k).st ≠ .readOnly) ∧
    (∃ (s : State) (c k : Nat), c < 8 ∧ k < 4 ∧ c < s.flash.cards.length ∧ k < (s.card c).chans.length ∧ (s.fchan c k).st ≠ .retired ∧ (s.fchan c k).st ≠ .absent ∧ (s.sw (16 + c)).st = .on ∧ (s.fchan c k).lastTrain + 50000000 ≤ s.tb) ∧
    (∃ (s : State) (b t : Nat), mapWaits s b t = true) ∧
    (∃ (s : State) (b t : Nat), mapWaits s b t = false) ∧
    (∃ (s : State) (c ser : Nat), c < 8 ∧ c < s.flash.cards.length ∧ (s.card c).st = .testing ∧ (s.card c).format = false) ∧
    (∃ (s : State) (c ser hdr : Nat), c < 8 ∧ c < s.flash.cards.length ∧ (s.card c).st = .testing ∧ (s.card c).format = false ∧ hdr ≠ 0 ∧ hdr ≠ s.eeprom.ident.serial) ∧
    (∃ (s : State) (c hdr ser reason : Nat) (b : Bool), c < 8 ∧ c < s.flash.cards.length ∧ (s.card c).st = .testing ∧ reason ≠ 0) :=
  ⟨⟨F1 card1 grp1, 7, 3, 2, 25, 3299, 4000, 110, by decide +kernel⟩,
   ⟨F1 card1 grp1, 7, 3, 2, 3299, 4000, 110, by decide +kernel⟩,
   ⟨F1 card1 grp1, 5, 0, 4, 0, 15, grp1, by decide +kernel⟩,
   ⟨F1 card1 grp1, 7, 3, (5, 0), by decide +kernel⟩,
   ⟨sw 23 { st := .on } (F1 card1 grp1), 7, 3, by decide +kernel⟩,
   ⟨up.modFlash (fun f => { f with reloading := [(1, 5), (1, 6), (0, 5)] }), 1, 5, by decide +kernel⟩,
   ⟨up, 1, 5, by decide +kernel⟩,
   ⟨(F1 { card1 with st := .testing } grp1).modEeprom (fun e => { e with ident := { e.ident with serial := 9 } }), 7, 44, by decide +kernel⟩,
   ⟨sw 23 { st := .on } (F1 { card1 with st := .testing } grp1), 7, 44, 3, by decide +kernel⟩,
   ⟨F1 { card1 with st := .testing } grp1, 7, 44, 3, 6, true, by decide +kernel⟩⟩

end W09

namespace W10

def pt (p : Nat) (x : Port) (s : State) : State := s.modFab (fun f => { f with ports := f.ports.set p x })
def U : Port := { st := .up, laneOk := 0x1FF }
def pk : Pkt := { dst := 28, src := 2, type := 1, len := 64, data := le 64 77, win := 3, offset := 128, tag := 9 }
def win1 (h : Nat) (b : Nat) : Window := { isOpen := true, base := b, length := 0x1000, home := h, permR := true, permW := true, srcf := [(2, 0xFFFF)] }
def WN (h b : Nat) : State := up.modFab (fun f => { f with windows := [(3, win1 h b)] })
def RT : State := up.modFab (fun f => { f with bridges := [{ act := true }, { act := true, v0 := [(100, 0x80003)] }] })
/-- The hypotheses of FramesFlitsAndStalls can be met, clause by clause. -/
theorem test_FramesFlitsAndStalls :
    (∃ (s : State) (p c q : Nat), p < s.fab.ports.length ∧ portLive (s.port p).st = true ∧ q = (s.port p).rxSeq) ∧
    (∃ (s : State) (p c : Nat) (l : List Nat), p < s.fab.ports.length ∧ portLive (s.port p).st = true) ∧
    (∃ (s : State) (p c : Nat) (ok : Bool) (l : List Nat), portLive (s.port p).st = false) ∧
    (∃ (s : State) (p ack : Nat) (cs : List Nat), p < s.fab.ports.length ∧ portLive (s.port p).st = true ∧ (s.port p).txq = [] ∧ cs.length = 4 ∧ (s.port p).replayRow ≤ 8 ∧ (s.port p).credTx.length = 4) ∧
    (∃ (s : State) (p : Nat), p < s.fab.ports.length ∧ portLive (s.port p).st = true ∧ (s.port p).replayRow = 8) ∧
    (∃ (s : State) (p : Nat) (x : Pkt), p < s.fab.ports.length ∧ (s.port p).txq = [x] ∧ (s.port p).headSince + 100000 ≤ s.tb) ∧
    (∃ (s : State) (p : Nat), s.tb < (s.port p).headSince + 100000) :=
  ⟨⟨pt 11 { U with rxSeq := 1023, credFreed := [1, 2, 3, 4] } up, 11, 3, 1023, by decide +kernel⟩,
   ⟨pt 11 { U with rxSeq := 0, credFreed := [1, 2, 3, 4] } up, 11, 3, [0, 1], by decide +kernel⟩,
   ⟨pt 11 { U with st := .down } up, 11, 3, true, [0, 1], by decide +kernel⟩,
   ⟨pt 11 { U with txSeq := 40, credSeen := [2^24-1, 2, 3, 4] } up, 11, 39, [1, 2, 2^24 + 5, 9], by decide +kernel⟩,
   ⟨pt 11 { U with replayRow := 8, txSeq := 40, txAcked := 30 } up, 11, by decide +kernel⟩,
   ⟨at_ 100000 (pt 11 { U with txq := [pk], depth := 100 } up), 11, pk, by decide +kernel⟩,
   ⟨up, 11, by decide +kernel⟩⟩

/-- The hypotheses of LanesSwapAndReturn can be met, clause by clause. -/
theorem test_LanesSwapAndReturn :
    (∃ (s : State) (p l : Nat), p < s.fab.ports.length ∧ l < 8 ∧ (s.port p).st = .up ∧ (s.port p).laneOk.getLsbD 8 = true ∧ (s.port p).swapTx = none) ∧
    (∃ (s : State) (p l : Nat), (s.port p).st ≠ .up) ∧
    (∃ (s : State) (p l : Nat), p < s.fab.ports.length ∧ l < 8 ∧ (s.port p).st = .upSpare ∧ (s.port p).spared = some l ∧ (s.port p).swapTx = none) ∧
    (∃ (s : State) (p l : Nat), p < s.fab.ports.length ∧ l < 8 ∧ (s.port p).st = .up ∧ (s.port p).laneOk.getLsbD 8 = true ∧ (s.port p).swapTx = none ∧ (s.port p).swapRx = some (l, true)) ∧
    (∃ (s : State) (p l : Nat), p < s.fab.ports.length ∧ (s.port p).swapTx = some (l, true) ∧ (s.port p).swapRx = some (l, true)) ∧
    (∃ (s : State) (p l : Nat), p < s.fab.ports.length ∧ l < 8 ∧ (s.port p).st = .upSpare ∧ (s.port p).spared = some l ∧ (s.port p).swapTx = none ∧ (s.port p).swapRx = some (l, false)) ∧
    (∃ (s : State) (p l : Nat), p < s.fab.ports.length ∧ l < 8 ∧ (s.port p).st = .up ∧ (s.port p).laneOk.getLsbD 8 = true ∧ (s.port p).swapTx = none ∧ (s.port p).winTb + 50000000 ≤ s.tb) ∧
    (∃ (s : State) (p l : Nat), p < s.fab.ports.length ∧ (s.port p).outLane = some l ∧ (s.port p).outAt + 780000000 ≤ s.tb ∧ portLive (s.port p).st = true ∧ (s.port p).swapTx = none) ∧
    (∃ (s : State) (p : Nat) (b : Bool), (s.port p).outLane = none) :=
  ⟨⟨pt 11 U up, 11, 7, by decide +kernel⟩,
   ⟨pt 11 { U with st := .upSpare } up, 11, 7, by decide +kernel⟩,
   ⟨pt 11 { U with st := .upSpare, spared := some 7 } up, 11, 7, by decide +kernel⟩,
   ⟨(pt 11 { U with swapRx := some (7, true) } up).modDmap (fun d => { d with fab := List.replicate 12 {} }), 11, 7, by decide +kernel⟩,
   ⟨pt 11 { U with swapTx := some (7, true), swapRx := some (7, true) } up, 11, 7, by decide +kernel⟩,
   ⟨pt 11 { U with st := .upSpare, spared := some 7, swapRx := some (7, false) } up, 11, 7, by decide +kernel⟩,
   ⟨at_ 50000000 (pt 11 { U with winReplays := 300 } up), 11, 7, by decide +kernel⟩,
   ⟨at_ 780000000 (pt 11 { U with st := .upSpare, spared := some 7, outLane := some 7 } up), 11, 7, by decide +kernel⟩,
   ⟨up, 11, true, by decide +kernel⟩⟩

/-- The hypotheses of PacketsPerformOrForward can be met, clause by clause. -/
theorem test_PacketsPerformOrForward :
    (∃ (s : State) (port i a : Nat) (p : Pkt), port < 12 ∧ s.fab.bridges.length = 2 ∧ portLive (s.port port).st = true ∧ epIndex s p.dst = some i ∧ 12 ≤ i ∧ i < 15 ∧ pktFault { p with type := 1 } = none ∧ bridgeUp s (performer (portBridge port) i) = true ∧ p.prov = false ∧ winCheck s p.win p.wepoch (some i) p.src true p.offset p.len = .ok ∧ a = pktAddr s p ∧ accessCode s true a p.len = .ok) ∧
    (∃ (s : State) (port i a : Nat) (p : Pkt), port < 12 ∧ s.fab.bridges.length = 2 ∧ portLive (s.port port).st = true ∧ epIndex s p.dst = some i ∧ 12 ≤ i ∧ i < 15 ∧ pktFault { p with type := 2 } = none ∧ bridgeUp s (performer (portBridge port) i) = true ∧ winCheck s p.win p.wepoch (some i) p.src false p.offset p.len = .ok ∧ a = pktAddr s p ∧ accessCode s false a p.len = .ok) ∧
    (∃ (s : State) (port i : Nat) (p : Pkt) (c : Code), port < 12 ∧ s.fab.bridges.length = 2 ∧ portLive (s.port port).st = true ∧ epIndex s p.dst = some i ∧ i < 15 ∧ pktFault { p with type := 1 } = none ∧ bridgeUp s (performer (portBridge port) i) = true ∧ winCheck s p.win p.wepoch (some i) p.src true p.offset p.len = c ∧ c ≠ .ok) ∧
    (∃ (s : State) (port i : Nat) (p : Pkt), port < 12 ∧ i < 12 ∧ i < s.rows.length ∧ portLive (s.port port).st = true ∧ epIndex s p.dst = some i ∧ pktFault { p with type := 1 } = none ∧ bridgeUp s (portBridge port) = true ∧ winCheck s p.win p.wepoch (some i) p.src true p.offset p.len = .ok) ∧
    (∃ (s : State) (port c : Nat) (p : Pkt) (e : Nat), port < 12 ∧ portLive (s.port port).st = true ∧ s.fab.epBase = some e ∧ epIndex s p.dst = none ∧ malformed p = false ∧ routeOf s (portBridge port) p = some c ∧ c < 6 ∧ 6 * portBridge port + c < s.fab.ports.length ∧ portLive (s.port (6 * portBridge port + c)).st = true ∧ (s.port (6 * portBridge port + c)).txq = [] ∧ (∀ v, v < 4 → 65536 ≤ nth (s.port (6 * portBridge port + c)).credTx v) ∧ 1 < p.ttl ∧ p.len ≤ 4096) ∧
    (∃ (s : State) (port c : Nat) (p : Pkt) (e : Nat), port < 12 ∧ port < s.fab.ports.length ∧ portLive (s.port port).st = true ∧ s.fab.epBase = some e ∧ epIndex s p.dst = none ∧ malformed p = false ∧ routeOf s (portBridge port) p = some c ∧ c < 6 ∧ p.ttl ≤ 1) ∧
    (∃ (s : State) (port : Nat) (p : Pkt), port < 12 ∧ portLive (s.port port).st = false) :=
  ⟨⟨WN 12 0x200000000000, 11, 12, 0x200000000080, pk, by decide +kernel⟩,
   ⟨memWrite (WN 13 0x200000000000) 0x200000000080 (le 8 5), 0, 13, 0x200000000080, { pk with dst := 29, type := 2, data := [] }, by decide +kernel⟩,
   ⟨WN 13 0x200000000000, 0, 12, pk, .windowDenied, by decide +kernel⟩,
   ⟨WN 11 (64 * 1310720 * 11), 0, 11, { pk with dst := 27 }, by decide +kernel⟩,
   ⟨pt 6 { U with credTx := List.replicate 4 65536 } (pt 9 { U with credTx := List.replicate 4 65536 } RT), 11, (routeOf RT 1 { pk with dst := 100 }).get!, { pk with dst := 100 }, 16, by decide +kernel⟩,
   ⟨RT, 11, (routeOf RT 1 { pk with dst := 100 }).get!, { pk with dst := 100, ttl := 1 }, 16, by decide +kernel⟩,
   ⟨pt 11 { U with st := .down } up, 11, pk, by decide +kernel⟩⟩

end W10

namespace W11

def pt (p : Nat) (x : Port) (s : State) : State := s.modFab (fun f => { f with ports := f.ports.set p x })
def U : Port := { st := .up, laneOk := 0x1FF }
def br (b : Nat) (x : Bridge) (s : State) : State := s.modFab (fun f => { f with bridges := f.bridges.set b x })
def ak : Pkt := { dst := 28, src := 50, type := 4, tag := 9, status := 3 }
def tk (o : Nat) : Tracked := { tag := 9, dst := 50, src := 28, owner := o, arg := 7, type := 1, tb := 1, limit := 100 }
def bd : Binding := { row := 11, bridge := 1, dline := 8, dlen := 1, dst := 50, win := 3, sending := true, left := 3 }
def bn (x : Binding) (s : State) : State := s.modFab (fun f => { f with bindings := [(7, x)] })
def fp : Pkt := { dst := 29, src := 50, type := 6, tag := 9, len := 128, data := le 128 77 }
def ch (n : Nat) (x : Chan) (s : State) : State := s.modMbx (fun m => { m with chans := mset m.chans n x })
def mp : Pkt := { dst := 17, src := 50, type := 7, tag := 9, len := 64, data := le 64 77, offset := 1023 }
def tkn (g f ts gr : Nat) : Pkt := { dst := 30, src := 50, type := 8, tag := 9, len := 32, data := le 32 (g + f * 2^16 + ts * 2^32 + gr * 2^64 + 777 * 2^96) }
def cp (x : Cap) (s : State) : State := s.modCap (fun _ => x)
def pp (v : Nat) : Pkt := { dst := 17, src := 50, type := 9, tag := 9, len := 16, data := le 16 (0x00030004 + v * 2^32) }
/-- The hypotheses of ResponsesCompleteRequests can be met, clause by clause. -/
theorem test_ResponsesCompleteRequests :
    (∃ (s : State) (port i c : Nat) (p : Pkt) (u : Tracked), AtEndpoint s port i { p with type := 4 } ∧ findTracked s (portBridge port) p = some (c, u) ∧ u.owner = 0 ∧ (s.bridge c).fenced = []) ∧
    (∃ (s : State) (port i c : Nat) (p : Pkt) (u : Tracked), AtEndpoint s port i { p with type := 3 } ∧ findTracked s (portBridge port) p = some (c, u) ∧ u.owner = 8 ∧ (s.bridge c).fenced = []) ∧
    (∃ (s : State) (port i : Nat) (p : Pkt), AtEndpoint s port i { p with type := 3 } ∧ findTracked s (portBridge port) p = none) ∧
    (∃ (s : State) (port i : Nat) (p : Pkt), AtEndpoint s port i { p with type := 4 } ∧ findTracked s (portBridge port) p = none) ∧
    (∃ (s : State) (b tag : Nat) (u : Tracked), b < s.fab.bridges.length ∧ (s.bridge b).tracked.find? (fun t => t.tag == tag && decide (t.tb + t.limit ≤ s.tb)) = some u ∧ u.owner = 8 ∧ (s.bridge b).fenced = [] ∧ (s.chan (eventChan s)).rcv ≠ .fabricPeer) ∧
    (∃ (s : State) (b tag : Nat), (∀ u ∈ (s.bridge b).tracked, s.tb < u.tb + u.limit)) :=
  ⟨⟨bn bd (br 1 { tracked := [tk 0] } up), 11, 12, 1, ak, tk 0, by decide +kernel⟩,
   ⟨br 1 { tracked := [tk 8] } up, 11, 12, 1, ak, tk 8, by decide +kernel⟩,
   ⟨br 1 { tracked := [tk 8] } up, 11, 12, { ak with tag := 8 }, by decide +kernel⟩,
   ⟨br 1 { tracked := [tk 8] } up, 11, 12, { ak with tag := 8 }, by decide +kernel⟩,
   ⟨at_ 101 (br 1 { tracked := [tk 8] } up), 1, 9, tk 8, by decide +kernel⟩,
   ⟨at_ 100 (br 1 { tracked := [tk 8] } up), 1, 9, by decide +kernel⟩⟩

/-- The hypotheses of ServicesTakeTheirPackets can be met, clause by clause. -/
theorem test_ServicesTakeTheirPackets :
    (∃ (s : State) (port i : Nat) (p : Pkt), AtEndpoint s port i { p with type := 6 } ∧ (i = 12 ∨ i = 13) ∧ s.fetch.bridges.length = 2 ∧ countIf (fun c => !c.isLocal) (s.fetchU (i - 12)).queue < 64) ∧
    (∃ (s : State) (port i : Nat) (p : Pkt), AtEndpoint s port i { p with type := 6 } ∧ (i = 12 ∨ i = 13) ∧ s.fetch.bridges.length = 2 ∧ 64 ≤ countIf (fun c => !c.isLocal) (s.fetchU (i - 12)).queue) ∧
    (∃ (s : State) (port i : Nat) (p : Pkt), AtEndpoint s port i { p with type := 7 } ∧ p.win = 0xFFFF ∧ p.wepoch = 0 ∧ p.offset < 1024 ∧ mbxCheck s p.offset (0x4000 + p.src / 16 % 4096) = .ok ∧ (s.chan p.offset).rcv = .mgmtCore) ∧
    (∃ (s : State) (port i : Nat) (p : Pkt), ∃ c, AtEndpoint s port i { p with type := 7 } ∧ p.win = 0xFFFF ∧ p.wepoch = 0 ∧ p.offset < 1024 ∧ mbxCheck s p.offset (0x4000 + p.src / 16 % 4096) = c ∧ c ≠ .ok) ∧
    (∃ (s : State) (port : Nat) (p : Pkt), AtEndpoint s port 14 { p with type := 8 } ∧ field p.data 2 2 < 2 ∧ field p.data 0x14 12 = 0 ∧ s.cap.group ≠ some (field p.data 0 2)) ∧
    (∃ (s : State) (port : Nat) (p : Pkt), AtEndpoint s port 14 { p with type := 8 } ∧ field p.data 2 2 < 2 ∧ field p.data 0x14 12 = 0 ∧ s.cap.group = some (field p.data 0 2) ∧ mget s.cap.seenTseq p.src = some (field p.data 4 4)) ∧
    (∃ (s : State) (port : Nat) (p : Pkt), AtEndpoint s port 14 { p with type := 8 } ∧ field p.data 2 2 < 2 ∧ field p.data 0x14 12 = 0 ∧ s.cap.group = some (field p.data 0 2) ∧ mget s.cap.seenTseq p.src ≠ some (field p.data 4 4) ∧ field p.data 8 4 ≠ 0 ∧ s.cap.reconTb = none ∧ 1400000 < s.cap.share + field p.data 8 4) ∧
    (∃ (s : State) (port : Nat) (p : Pkt), AtEndpoint s port 14 { p with type := 8 } ∧ field p.data 2 2 < 2 ∧ field p.data 0x14 12 = 0 ∧ s.cap.group = some (field p.data 0 2) ∧ mget s.cap.seenTseq p.src ≠ some (field p.data 4 4) ∧ field p.data 8 4 = 0 ∧ s.cap.share ≤ 1400000) ∧
    (∃ (s : State) (port i : Nat) (p : Pkt), AtEndpoint s port i { p with type := 9 } ∧ field p.data 4 1 ≤ 1 ∧ field p.data 5 11 = 0) ∧
    (∃ (s : State) (port : Nat) (p : Pkt), AtEndpoint s port 15 { p with type := 0xA } ∧ p.len % 24 = 0) ∧
    (∃ (s : State) (port : Nat) (p : Pkt), portLive (s.port port).st = false) :=
  ⟨⟨up, 0, 13, fp, by decide +kernel⟩,
   ⟨up.modFetch (fun f => { f with bridges := [{ queue := List.replicate 64 { src := 5 } }, {}] }), 11, 12, { fp with dst := 28 }, by decide +kernel⟩,
   ⟨ch 63 { enabled := true, shared := true, sender := 0x4003, classMatch := true, smatch := 0x4003 } up, 0, 1, { mp with offset := 63 }, by decide +kernel⟩,
   ⟨up, 0, 1, mp, .mbxNoChannel, by decide +kernel⟩,
   ⟨cp { group := some 5 } up, 0, tkn 6 1 3 0, by decide +kernel⟩,
   ⟨cp { group := some 5, seenTseq := [(50, 3)] } up, 0, tkn 5 1 3 0, by decide +kernel⟩,
   ⟨cp { group := some 5, seenTseq := [(50, 3)], share := 1399999 } up, 0, tkn 5 1 4 2, by decide +kernel⟩,
   ⟨cp { group := some 5, seenTseq := [(50, 3)], share := 1400000, roster := [{ ep := 48 }] } up, 0, tkn 5 1 4 0, by decide +kernel⟩,
   ⟨up, 0, 1, pp 1, by decide +kernel⟩,
   ⟨up, 0, { dst := 31, src := 50, type := 10, len := 48, data := le 48 9 }, by decide +kernel⟩,
   ⟨pt 11 { U with st := .down } up, 11, fp, by decide +kernel⟩⟩

/-- The hypotheses of RoutesSwitchAndSendsComplete can be met, clause by clause. -/
theorem test_RoutesSwitchAndSendsComplete :
    (∃ (s : State), s.fab.bridges.length = 2 ∧ (s.bridge 0).armedAt.any (fun t => decide (t ≤ s.tb)) = true ∧ (s.bridge 1).armedAt.isSome = true) ∧
    (∃ (s : State), (∀ x ∈ s.fab.bridges, x.armedAt.any (fun t => decide (t ≤ s.tb)) = false)) ∧
    (∃ (s : State) (b z : Nat), b < s.fab.bridges.length ∧ (s.bridge b).other = .draining ∧ (s.bridge b).zeroSince = some z ∧ z + 500 ≤ s.tb) ∧
    (∃ (s : State) (b : Nat), b < s.fab.bridges.length ∧ (s.bridge b).other = .draining ∧ (s.bridge b).zeroSince = none ∧ (s.bridge b).commitTb + (s.bridge b).drainLim ≤ s.tb) ∧
    (∃ (s : State) (b : Nat), (s.bridge b).other ≠ .draining) ∧
    (∃ (s : State) (n : Nat) (x : Binding), s.binding n = some x ∧ x.halted = false ∧ x.sending = false ∧ x.row < s.rows.length ∧ bridgeUp s x.bridge = true ∧ (s.row x.row).watch.filter (·.bind == n) ≠ [] ∧ (∀ w ∈ (s.row x.row).watch, w.bind = n → w.seen = true) ∧ countIf (fun p => p.2.sending && p.2.bridge == x.bridge) s.fab.bindings < 16) ∧
    (∃ (s : State) (n : Nat) (x : Binding), s.binding n = some x ∧ x.sending = true ∧ x.left = 0 ∧ sendReads s n = false ∧ notifyOut s n = false ∧ mget s.fab.bindNext n = none ∧ x.badCode = 0 ∧ x.tagBad = false ∧ x.tags = [] ∧ x.notify = none) ∧
    (∃ (s : State) (n : Nat) (x : Binding), s.binding n = some x ∧ x.sending = true ∧ x.left = 0 ∧ sendReads s n = false ∧ notifyOut s n = false ∧ mget s.fab.bindNext n = none ∧ x.badCode ≠ 0) ∧
    (∃ (s : State) (n : Nat) (x : Binding), ∃ d w, s.binding n = some x ∧ x.sending = true ∧ x.left = 0 ∧ sendReads s n = false ∧ notifyOut s n = false ∧ mget s.fab.bindNext n = none ∧ x.badCode = 0 ∧ x.tagBad = false ∧ x.tags = [] ∧ x.notify = some (d, w) ∧ (s.bridge x.bridge).tracked = [] ∧ (s.bridge x.bridge).fenced = [] ∧ s.fab.epBase ≠ none ∧ x.bridge < s.fab.bridges.length) ∧
    (∃ (s : State) (n : Nat), s.binding n = none) :=
  ⟨⟨at_ 9 (br 0 { other := .staged, armedAt := some 9 } (br 1 { other := .staged, armedAt := some 9 } up)), by decide +kernel⟩,
   ⟨at_ 8 (br 0 { other := .staged, armedAt := some 9 } (br 1 { other := .staged, armedAt := some 9 } up)), by decide +kernel⟩,
   ⟨at_ 509 (br 1 { other := .draining, zeroSince := some 9 } up), 1, 9, by decide +kernel⟩,
   ⟨at_ 50009 (br 1 { other := .draining, commitTb := 9, inflight := 3 } up), 1, by decide +kernel⟩,
   ⟨up, 1, by decide +kernel⟩,
   ⟨rw_ 11 (fun w => { w with watch := [{ bind := 7, seen := true }, { bind := 8 }] }) (bn { bd with sending := false } up), 7, { bd with sending := false }, by decide +kernel⟩,
   ⟨bn { bd with left := 0 } up, 7, { bd with left := 0 }, by decide +kernel⟩,
   ⟨bn { bd with left := 0, badCode := 3 } up, 7, { bd with left := 0, badCode := 3 }, by decide +kernel⟩,
   ⟨bn { bd with left := 0, notify := some (60, 99) } up, 7, { bd with left := 0, notify := some (60, 99) }, 60, 99, by decide +kernel⟩,
   ⟨up, 7, by decide +kernel⟩⟩

/-- The hypotheses of PortsLoseAndRegainTheirLinks can be met, clause by clause. -/
theorem test_PortsLoseAndRegainTheirLinks :
    (∃ (s : State) (p : Nat), p < s.fab.ports.length ∧ (portLive (s.port p).st = true ∨ (s.port p).st = .retraining)) ∧
    (∃ (s : State) (p : Nat), portLive (s.port p).st = false ∧ (s.port p).st ≠ .retraining) ∧
    (∃ (s : State) (p d : Nat), p < s.fab.ports.length ∧ ((s.port p).st = .downRuntime ∨ (s.port p).st = .down) ∧ (s.port p).downAt = some d ∧ d ≤ s.tb ∧ nth s.power.presentN p = false ∧ (s.bridge (portBridge p)).inReset = false ∧ (s.bridge (portBridge p)).out = false) ∧
    (∃ (s : State) (p d : Nat), (s.port p).downAt = some d ∧ s.tb < d) ∧
    (∃ (s : State) (p : Nat) (l : BitVec 9), p < s.fab.ports.length ∧ (s.port p).st = .retraining ∧ portResult l = (.up, none)) ∧
    (∃ (s : State) (p : Nat) (l : BitVec 9), ∃ k, p < s.fab.ports.length ∧ (s.port p).st = .retraining ∧ portResult l = (.upSpare, some k)) ∧
    (∃ (s : State) (p : Nat) (l : BitVec 9), p < s.fab.ports.length ∧ (s.port p).st = .retraining ∧ (portResult l).1 = .down) ∧
    (∃ (s : State) (p : Nat) (l : BitVec 9), p < s.fab.ports.length ∧ (s.port p).st = .retraining) ∧
    (∃ (s : State) (p : Nat) (l : BitVec 9) (b : Bool), (s.port p).st ≠ .retraining) ∧
    (∃ (s : State) (p : Nat) (h : Bool), portLive (s.port p).st = false ∧ (s.port p).st ≠ .retraining) ∧
    (∃ (s : State) (p : Nat), p < s.fab.ports.length ∧ portLive (s.port p).st = true) :=
  ⟨⟨pt 11 U up, 11, by decide +kernel⟩,
   ⟨pt 11 { U with st := .down } up, 11, by decide +kernel⟩,
   ⟨(at_ 9 (pt 11 { U with st := .downRuntime, downAt := some 9 } up)).modPower (fun p => { p with presentN := List.replicate 12 false }), 11, 9, by decide +kernel⟩,
   ⟨at_ 8 (pt 11 { U with st := .downRuntime, downAt := some 9 } up), 11, 9, by decide +kernel⟩,
   ⟨pt 11 { U with st := .retraining } up, 11, 0xFF, by decide +kernel⟩,
   ⟨pt 11 { U with st := .retraining } up, 11, 0x17F, 7, by decide +kernel⟩,
   ⟨pt 11 { U with st := .retraining } up, 11, 0x07F, by decide +kernel⟩,
   ⟨pt 11 { U with st := .retraining } up, 11, 0x1FF, by decide +kernel⟩,
   ⟨up, 11, 0x1FF, true, by decide +kernel⟩,
   ⟨pt 11 { U with st := .down } up, 11, true, by decide +kernel⟩,
   ⟨up, 11, by decide +kernel⟩⟩

end W11

namespace W12

def pt (p : Nat) (x : Port) (s : State) : State := s.modFab (fun f => { f with ports := f.ports.set p x })
def br (b : Nat) (x : Bridge) (s : State) : State := s.modFab (fun f => { f with bridges := f.bridges.set b x })
def ch (n : Nat) (x : Chan) (s : State) : State := s.modMbx (fun m => { m with chans := mset m.chans n x })
def hh : ChaviHdr := { tag := 77 }
def msg : List Byte := le 64 5
def sess (s : State) : State := s.modSec (fun x => { x with session := 5 })
def wn (h b : Nat) (s : State) : State := s.modFab (fun f => { f with windows := [(3, { isOpen := true, base := b, length := 0x1000, home := h, permR := true, permW := true, srcf := [(0xFFFF, 0xFFFF)] })] })
def w0 (h b : Nat) : Window := { isOpen := true, base := b, length := 0x1000, home := h, permR := true, permW := true, srcf := [(0xFFFF, 0xFFFF)] }
def G : RqRing := { owner := 11, slots := 0x80, log2size := 4, rqBase := 0x200000000000, cqBase := 0x200000001000, pi := 3, ci := 2, cpi := 6, cci := 2, tmo := 100, dbChavi := true }
def R1 : State := rg 40 G up
def GO : RqRing := { G with out := [{ tag := 1, slot := 6 }, { tag := 2, slot := 7, job := 5, popTb := 1, tmo := 100 }] }
/-- The hypotheses of MessagesAreHeldAndTaken can be met, clause by clause. -/
theorem test_MessagesAreHeldAndTaken :
    (∃ (s : State) (h : ChaviHdr) (n : Nat) (m : List Byte), PlainLink s h ∧ HostQuiet s ∧ mbxCheck s n 0x1000 = .ok ∧ (s.chan n).rcv = .mgmtCore) ∧
    (∃ (s : State) (h : ChaviHdr) (n : Nat) (m : List Byte), ∃ c, PlainLink s h ∧ HostQuiet s ∧ mbxCheck s n 0x1000 = c ∧ c ≠ .ok) ∧
    (∃ (s : State) (h : ChaviHdr) (n q k : Nat), PlainLink s h ∧ HostQuiet s ∧ s.boot.mbxMode = false ∧ secureEnd s ≤ n ∧ n < nChans s ∧ (s.chan n).enabled = true ∧ (s.chan n).rcv = .chaviHost ∧ (s.chan n).full = true ∧ q = (s.chan n).mseq) ∧
    (∃ (s : State) (mac n : Nat) (m : List Byte), j3Works s = true ∧ alive s = true ∧ mbxCheck s n (0x3000 + mac % 0x1000) = .ok ∧ (s.chan n).rcv = .mgmtCore) ∧
    (∃ (s : State) (mac n q k : Nat), j3Works s = true ∧ alive s = true ∧ s.boot.mbxMode = false ∧ secureEnd s ≤ n ∧ n < nChans s ∧ (s.chan n).enabled = true ∧ (s.chan n).rcv = .mgmtNet ∧ (s.chan n).full = true ∧ q = (s.chan n).mseq) ∧
    (∃ (s : State) (n q k : Nat), alive s = true ∧ s.boot.mbxMode = false ∧ (s.chan n).full = true ∧ q = (s.chan n).mseq) ∧
    (∃ (s : State) (n q k : Nat), alive s = true ∧ s.boot.mbxMode = false ∧ (s.chan n).full = true ∧ q ≠ (s.chan n).mseq) ∧
    (∃ (s : State) (n : Nat), alive s = true ∧ n < nChans s ∧ s.boot.mbxMode = true) ∧
    (∃ (s : State) (n : Nat), alive s = true ∧ n < nChans s ∧ s.boot.mbxMode = false) ∧
    (∃ (s : State) (n : Nat), alive s = true ∧ (s.chan n).full = true ∧ (s.chan n).rcv = .fabricPeer ∧ (s.chan n).peerTb + 50000 ≤ s.tb ∧ s.fab.epBase ≠ none ∧ 0 < s.fab.bridges.length ∧ (s.bridge 0).tracked.length < 8192) ∧
    (∃ (s : State) (n : Nat), s.tb < (s.chan n).peerTb + 50000) :=
  ⟨⟨ch 20 { enabled := true, shared := true, mseq := 255, full := true } up, hh, 20, msg, by decide +kernel⟩,
   ⟨ch 20 { enabled := true, classMatch := true, smatch := 0x1000, mseq := 255, full := true } up, hh, 20, msg, .mbxFull, by decide +kernel⟩,
   ⟨ch 20 { enabled := true, rcv := .chaviHost, mseq := 255, full := true } up, hh, 20, 255, 3, by decide +kernel⟩,
   ⟨ch 20 { enabled := true, shared := true, mseq := 255 } up, 0xABCDEF012345, 20, msg, by decide +kernel⟩,
   ⟨ch 20 { enabled := true, rcv := .mgmtNet, mseq := 255, full := true } up, 5, 20, 255, 3, by decide +kernel⟩,
   ⟨ch 20 { enabled := true, rcv := .mgmtNet, mseq := 255, full := true } up, 20, 255, 3, by decide +kernel⟩,
   ⟨ch 20 { enabled := true, rcv := .mgmtNet, mseq := 255, full := true } up, 20, 254, 3, by decide +kernel⟩,
   ⟨(ch 20 { enabled := true, rcv := .mgmtNet, mseq := 255, full := true } up).modBoot (fun b => { b with mbxMode := true }), 20, by decide +kernel⟩,
   ⟨ch 20 { enabled := true, rcv := .mgmtNet, mseq := 255, full := true } up, 20, by decide +kernel⟩,
   ⟨at_ 50000 (ch 20 { enabled := true, rcv := .fabricPeer, rdest := 60, rchan := 4, mseq := 255, full := true } up), 20, by decide +kernel⟩,
   ⟨up, 20, by decide +kernel⟩⟩

/-- The hypotheses of ChaviLinkKeepsItsOrder can be met, clause by clause. -/
theorem test_ChaviLinkKeepsItsOrder :
    (∃ (s : State) (a : Nat), cageOn s = true) ∧
    (∃ (s : State) (i k : Bool) (q a : Nat), cageOn s = true ∧ s.chavi.replays < 8) ∧
    (∃ (s : State) (i k : Bool) (q a : Nat), cageOn s = true ∧ s.chavi.up = true ∧ s.chavi.replays = 8) ∧
    (∃ (s : State) (h : ChaviHdr) (f : Nat), cageOn s = true ∧ h.crcOk = true ∧ h.layoutOk = true ∧ s.chavi.up = false) ∧
    (∃ (s : State) (h : ChaviHdr) (f : Nat), cageOn s = true ∧ h.crcOk = true ∧ h.layoutOk = true) ∧
    (∃ (s : State) (h : ChaviHdr) (f : Nat), h.crcOk = false) ∧
    (∃ (s : State), s.chavi.up = false ∧ s.chavi.credSeen = true ∧ cageOn s = true) ∧
    (∃ (s : State), s.chavi.credSeen = false) ∧
    (∃ (s : State), alive s = true ∧ s.chavi.up = true) ∧
    (∃ (s : State) (h : ChaviHdr) (n : Nat) (m : List Byte), linkUp s = true ∧ s.sec.session = 0 ∧ h.crcOk = false ∧ h.enc = false) ∧
    (∃ (s : State) (h : ChaviHdr) (n : Nat) (m : List Byte), linkUp s = true ∧ s.sec.session ≠ 0 ∧ h.crcOk = true ∧ h.layoutOk = true ∧ h.enc = false) :=
  ⟨⟨up.modChavi (fun c => { c with rxSeq := 4095, replays := 3 }), 9, by decide +kernel⟩,
   ⟨up.modChavi (fun c => { c with rxSeq := 0, replays := 7 }), true, true, 3, 9, by decide +kernel⟩,
   ⟨sess (up.modChavi (fun c => { c with rxSeq := 0, replays := 8 })), true, true, 3, 9, by decide +kernel⟩,
   ⟨up.modChavi (fun c => { c with up := false }), hh, 2^32 + 9, by decide +kernel⟩,
   ⟨sess (up.modChavi (fun c => { c with txq := [{ type := 8 }] })), hh, 2^32 + 9, by decide +kernel⟩,
   ⟨up, { hh with crcOk := false }, 9, by decide +kernel⟩,
   ⟨up.modChavi (fun c => { c with up := false, credSeen := true }), by decide +kernel⟩,
   ⟨up.modChavi (fun c => { c with up := false }), by decide +kernel⟩,
   ⟨at_ 500 (sess up), by decide +kernel⟩,
   ⟨up, { hh with crcOk := false }, 9, msg, by decide +kernel⟩,
   ⟨sess up, hh, 9, msg, by decide +kernel⟩⟩

/-- The hypotheses of HostWindowsReachMemory can be met, clause by clause. -/
theorem test_HostWindowsReachMemory :
    (∃ (s : State) (h : ChaviHdr) (o n : Nat) (b : List Nat), PlainLink s h ∧ o % 8 = 0 ∧ n % 8 = 0 ∧ 8 ≤ n ∧ n ≤ 256) ∧
    (∃ (s : State) (h : ChaviHdr) (o n : Nat) (b : List Nat), PlainLink s h ∧ (o % 8 ≠ 0 ∨ n % 8 ≠ 0 ∨ n < 8 ∨ 256 < n)) ∧
    (∃ (s : State) (o i : Nat), i < 32) ∧
    (∃ (s : State) (h : ChaviHdr) (w o e a : Nat) (l : List Byte) (x : Window), PlainLink s h ∧ 1 ≤ l.length ∧ l.length ≤ 4096 ∧ winCheck s w e none 0xFFFF true o l.length = .ok ∧ mget s.fab.windows w = some x ∧ 12 ≤ x.home ∧ bridgeUp s (x.home - 12) = true ∧ a = x.base + o ∧ accessCode s true a l.length = .ok) ∧
    (∃ (s : State) (h : ChaviHdr) (w o e : Nat) (l : List Byte) (x : Window), PlainLink s h ∧ 1 ≤ l.length ∧ l.length ≤ 4096 ∧ winCheck s w e none 0xFFFF true o l.length = .ok ∧ mget s.fab.windows w = some x ∧ x.home < 12 ∧ x.home < s.rows.length) ∧
    (∃ (s : State) (h : ChaviHdr) (w o e : Nat) (l : List Byte) (c : Code), PlainLink s h ∧ 1 ≤ l.length ∧ l.length ≤ 4096 ∧ winCheck s w e none 0xFFFF true o l.length = c ∧ c ≠ .ok) ∧
    (∃ (s : State) (h : ChaviHdr) (w o e n a : Nat) (x : Window), PlainLink s h ∧ 1 ≤ n ∧ n ≤ 16 ∧ winCheck s w e none 0xFFFF false o (256 * n) = .ok ∧ mget s.fab.windows w = some x ∧ 12 ≤ x.home ∧ bridgeUp s (x.home - 12) = true ∧ a = x.base + o ∧ accessCode s false a (256 * n) = .ok) :=
  ⟨⟨up, hh, 0x40, 256, [3], by decide +kernel⟩,
   ⟨up, hh, 0x40, 264, [3], by decide +kernel⟩,
   ⟨up, 0x40, 31, by decide +kernel⟩,
   ⟨wn 13 0x200000000000 up, hh, 3, 0xFC0, 0, 0x200000000FC0, msg, w0 13 0x200000000000, by decide +kernel⟩,
   ⟨wn 11 (64 * 1310720 * 11) up, hh, 3, 0xFC0, 0, msg, w0 11 (64 * 1310720 * 11), by decide +kernel⟩,
   ⟨wn 13 0x200000000000 up, hh, 3, 0xFC1, 0, msg, .windowRange, by decide +kernel⟩,
   ⟨memWrite (wn 13 0x200000000000 up) 0x200000000F00 msg, hh, 3, 0, 0, 16, 0x200000000000, w0 13 0x200000000000, by decide +kernel⟩⟩

/-- The hypotheses of DoorbellsAndRequestTimers can be met, clause by clause. -/
theorem test_DoorbellsAndRequestTimers :
    (∃ (s : State) (h : ChaviHdr) (n v : Nat) (g : RqRing), BellOk s h n g ∧ v < 65536 ∧ dbInRange g 0 v = true) ∧
    (∃ (s : State) (h : ChaviHdr) (n v : Nat) (g : RqRing), BellOk s h n g ∧ v < 65536 ∧ dbInRange g 1 v = true) ∧
    (∃ (s : State) (h : ChaviHdr) (n v : Nat) (g : RqRing), BellOk s h n g ∧ v < 65536 ∧ dbInRange g 2 v = true) ∧
    (∃ (s : State) (h : ChaviHdr) (n v : Nat) (g : RqRing), BellOk s h n g ∧ v < 65536 ∧ dbInRange g 0 v = false) ∧
    (∃ (s : State) (h : ChaviHdr) (n v r : Nat), PlainLink s h ∧ HostQuiet s ∧ s.boot.st = .ready ∧ n < 65536 ∧ s.ring n = none ∧ v < 65536) ∧
    (∃ (s : State) (port i n v r : Nat) (p : Pkt), AtEndpoint s port i { p with type := 5, len := 8, data := leBytes 8 (bellWord 0 n v r) } ∧ i ≠ 12 ∧ s.power.trip = none) ∧
    (∃ (s : State) (n i : Nat) (g : RqRing) (q : Req), s.ring n = some g ∧ g.out[i]? = some q ∧ s.rings.up = true ∧ q.tmo ≠ 0 ∧ q.popTb + q.tmo ≤ s.tb) ∧
    (∃ (s : State) (n i : Nat) (g : RqRing) (q : Req), s.ring n = some g ∧ g.out[i]? = some q ∧ s.tb < q.popTb + q.tmo) ∧
    (∃ (s : State) (j d : Nat), mget s.gw.jobAt j = some d ∧ d ≤ s.tb ∧ s.rings.up = true) ∧
    (∃ (s : State) (j : Nat), mget s.gw.jobAt j = none) :=
  ⟨⟨R1, hh, 40, 18, G, by decide +kernel⟩,
   ⟨R1, hh, 40, 15, G, by decide +kernel⟩,
   ⟨R1, hh, 40, 6, G, by decide +kernel⟩,
   ⟨R1, hh, 40, 19, G, by decide +kernel⟩,
   ⟨up, hh, 40, 19, 0, by decide +kernel⟩,
   ⟨up, 0, 13, 40, 5, 0, { dst := 29, src := 50, tag := 8 }, by decide +kernel⟩,
   ⟨at_ 101 (rg 40 GO up), 40, 1, GO, { tag := 2, slot := 7, job := 5, popTb := 1, tmo := 100 }, by decide +kernel⟩,
   ⟨at_ 100 (rg 40 GO up), 40, 1, GO, { tag := 2, slot := 7, job := 5, popTb := 1, tmo := 100 }, by decide +kernel⟩,
   ⟨at_ 100 ((rg 40 GO up).modGw (fun g => { g with jobAt := [(5, 100)] })), 5, 100, by decide +kernel⟩,
   ⟨up, 5, by decide +kernel⟩⟩

end W12

namespace W13

def ch (n : Nat) (x : Chan) (s : State) : State := s.modMbx (fun m => { m with chans := mset m.chans n x })
def cl (s : State) : State := s.modMem (fun m => { m with claimed := [1, 2, 3] })
def h : CmdHdr := { chan := 20, ctag := 77, resptr := 0x200000200000, resmax := 65536 }
def hs : CmdHdr := { h with chan := 3 }
def V : State := cl (at_ 900 up)
def ry : Retry := { rchan := 21, msg := le 64 7, since := 100, tries := 15 }
def sd : Chan := { enabled := true, classMatch := true, smatch := 0x7000 }
def BL : State := V.modBoot (fun b => { b with halves := [[{ stage := 3 }], [{ stage := 4, finds := [{ code := 5 }] }]] })
def rs (st : RowSt) : State := rw_ 11 (fun w => { w with st := st }) V
/-- The hypotheses of CommandsWaitAreRefusedOrAnswered can be met, clause by clause. -/
theorem test_CommandsWaitAreRefusedOrAnswered :
    (∃ (s : State) (h : CmdHdr) (r st b l : Nat), alive s = true ∧ (gwServes s = false ∨ 8 ≤ s.gw.cmds.length)) ∧
    (∃ (s : State) (h : CmdHdr) (r st : Nat) (k : Cmd), alive s = true ∧ k ∈ s.gw.cmds ∧ k.obj = objRow r) ∧
    (∃ (s : State) (h : CmdHdr) (l j v : Nat) (c : Code), gwServes s = true ∧ s.gw.cmds.length < 8 ∧ (∀ k ∈ s.gw.cmds, k.obj ≠ objDevice) ∧ (∀ w ∈ s.gw.waiting, w.1 ≠ objDevice) ∧ gwCheck s h true 0 = c ∧ c ≠ .ok) ∧
    (∃ (s : State) (h : CmdHdr) (l j v : Nat) (c : Code), gwServes s = true ∧ s.gw.cmds.length < 8 ∧ (∀ k ∈ s.gw.cmds, k.obj ≠ objDevice) ∧ (∀ w ∈ s.gw.waiting, w.1 ≠ objDevice) ∧ gwCheck s h false 1024 = c ∧ c ≠ .ok) ∧
    (∃ (s : State) (h : CmdHdr) (a b : Nat), GwGo s h false 0 objDevice ∧ a ≤ b ∧ b ≤ 7 ∧ h.rchan = 0xFFFF ∧ (s.chan h.chan).full = true ∧ s.boot.mbxMode = true) ∧
    (∃ (s : State) (h : CmdHdr) (a b : Nat), GwGo s h false 0 objDevice ∧ a ≤ b ∧ b ≤ 7 ∧ h.rchan = 0xFFFF ∧ (s.chan h.chan).full = true ∧ s.boot.mbxMode = false) ∧
    (∃ (s : State) (i : Nat) (x : Retry), s.gw.retries[i]? = some x ∧ gwServes s = true ∧ x.since + 50000 * (x.tries + 1) ≤ s.tb ∧ mbxCheck s x.rchan (gwStamp s) = .ok) ∧
    (∃ (s : State) (i : Nat) (x : Retry), s.gw.retries[i]? = some x ∧ gwServes s = true ∧ x.since + 50000 * (x.tries + 1) ≤ s.tb ∧ mbxCheck s x.rchan (gwStamp s) = .mbxFull ∧ x.tries < 999) ∧
    (∃ (s : State) (i : Nat) (x : Retry), s.gw.retries[i]? = some x ∧ gwServes s = true ∧ x.since + 50000 * (x.tries + 1) ≤ s.tb ∧ mbxCheck s x.rchan (gwStamp s) = .mbxFull ∧ 999 ≤ x.tries) ∧
    (∃ (s : State) (i : Nat), s.gw.retries[i]? = none) :=
  ⟨⟨V.modGw (fun g => { g with failAt := some 5 }), h, 11, 1, 2, 3, by decide +kernel⟩,
   ⟨V.modGw (fun g => { g with cmds := [{ obj := objRow 11 }] }), h, 11, 1, { obj := objRow 11 }, by decide +kernel⟩,
   ⟨V, h, 0, 1, 2, .cmdDenied, by decide +kernel⟩,
   ⟨V, { h with resmax := 0 }, 0, 1, 2, .cmdIllegal, by decide +kernel⟩,
   ⟨(ch 20 { full := true, mseq := 9 } V).modBoot (fun b => { b with mbxMode := true }), h, 0, 7, by decide +kernel⟩,
   ⟨ch 20 { full := true, mseq := 9 } V, h, 0, 7, by decide +kernel⟩,
   ⟨ch 21 sd (at_ 800100 (V.modGw (fun g => { g with retries := [{}, ry] }))), 1, ry, by decide +kernel⟩,
   ⟨ch 21 { sd with full := true } (at_ 800100 (V.modGw (fun g => { g with retries := [{}, ry] }))), 1, ry, by decide +kernel⟩,
   ⟨ch 21 { sd with full := true } (at_ 50000100 (V.modGw (fun g => { g with retries := [{}, { ry with tries := 999 }] }))), 1, { ry with tries := 999 }, by decide +kernel⟩,
   ⟨V, 1, by decide +kernel⟩⟩

/-- The hypotheses of StatusCommandsWriteTheirData can be met, clause by clause. -/
theorem test_StatusCommandsWriteTheirData :
    (∃ (s : State) (h : CmdHdr), GwGo s h false 1024 objDevice) ∧
    (∃ (s : State) (h : CmdHdr), GwGo s h false 512 objDevice) ∧
    (∃ (s : State) (h : CmdHdr), GwGo s h false (bootLogHalf s 1).length objDevice ∧ bootLogHalf s 1 ≠ []) ∧
    (∃ (s : State) (h : CmdHdr), GwGo s h false (bootLogHalf s 0).length objDevice ∧ bootLogHalf s 0 ≠ []) ∧
    (∃ (s : State) (h : CmdHdr), GwGo s h false 408 objDevice) ∧
    (∃ (s : State) (h : CmdHdr), GwGo s h false 112 objDevice) ∧
    (∃ (s : State) (h : CmdHdr) (b : Nat), GwGo s h false 56 (objBridge b) ∧ b < 2) ∧
    (∃ (s : State) (h : CmdHdr), GwGo s h false 1280 objDevice ∧ hasFlash s = true) ∧
    (∃ (s : State) (h : CmdHdr), GwGo s h false 1280 objDevice ∧ hasFlash s = false) ∧
    (∃ (s : State) (h : CmdHdr) (a m : Nat), GwGo s h false (64 * (logFrom s a m).length) objDevice ∧ logFrom s a m ≠ []) :=
  ⟨⟨V, h, by decide +kernel⟩,
   ⟨V, h, by decide +kernel⟩,
   ⟨BL, h, by decide +kernel⟩,
   ⟨BL, h, by decide +kernel⟩,
   ⟨V, h, by decide +kernel⟩,
   ⟨V.modClk (fun c => { c with rowCnt := List.replicate 12 { chold := 3 } }), h, by decide +kernel⟩,
   ⟨V, h, 1, by decide +kernel⟩,
   ⟨V, h, by decide +kernel⟩,
   ⟨V.modFuse (fun f => { f with variant := .m4 }), h, by decide +kernel⟩,
   ⟨V.modErr (fun e => { e with log := [{ recno := 1, code := 5 }, { recno := 2, code := 6 }], next := 3 }), h, 1, 9, by decide +kernel⟩⟩

/-- The hypotheses of RowAndBankCommands can be met, clause by clause. -/
theorem test_RowAndBankCommands :
    (∃ (s : State) (h : CmdHdr) (r a b c : Nat), GwGo s h false 0 (objRow r) ∧ (r < 12 ∨ r = 0xFF) ∧ policyOk a 50 50000 = true ∧ policyOk b 2500 (2 ^ 32 - 2) = true ∧ policyOk c 500 (2 ^ 32 - 2) = true) ∧
    (∃ (s : State) (h : CmdHdr) (r : Nat), GwGo s h false 0 (objRow r) ∧ r < 12 ∧ r < s.rows.length ∧ rowIsOut s r = false ∧ rowIsDark s r = false ∧ (s.row r).st = .active) ∧
    (∃ (s : State) (h : CmdHdr) (r : Nat), GwGo s h false 0 (objRow r) ∧ r < 12 ∧ r < s.rows.length ∧ rowIsOut s r = false ∧ rowIsDark s r = false ∧ (s.row r).st = .sleep) ∧
    (∃ (s : State) (h : CmdHdr) (r : Nat), GwGo s h false 0 (objRow r) ∧ r < 12 ∧ r < s.rows.length ∧ rowIsOut s r = false ∧ rowIsDark s r = false ∧ (s.row r).st = .active ∧ rowInUse s r = false) ∧
    (∃ (s : State) (h : CmdHdr) (r : Nat), GwGo s h false 0 (objRow r) ∧ r < 12 ∧ r < s.rows.length ∧ rowIsOut s r = false ∧ rowIsDark s r = false ∧ (s.row r).st = .sleep ∧ rowInUse s r = false) ∧
    (∃ (s : State) (h : CmdHdr) (r : Nat), GwGo s h false 0 (objRow r) ∧ r < 12 ∧ r < s.rows.length ∧ rowIsOut s r = false ∧ rowIsDark s r = false ∧ (s.row r).st = .nap ∧ s.therm.halt = false) ∧
    (∃ (s : State) (h : CmdHdr) (r : Nat), GwGo s h false 0 (objRow r) ∧ r < 12 ∧ r < s.rows.length ∧ rowIsOut s r = false ∧ rowIsDark s r = false ∧ (s.row r).st = .sleep ∧ s.therm.halt = false) ∧
    (∃ (s : State) (h : CmdHdr) (r : Nat), GwGo s h false 0 (objRow r) ∧ r < 12 ∧ r < s.rows.length ∧ rowIsOut s r = false ∧ rowIsDark s r = false ∧ rowInUse s r = true) ∧
    (∃ (s : State) (h : CmdHdr) (r st : Nat), GwGo s h false 0 (objRow r) ∧ r < 12 ∧ st ≤ 2 ∧ rowIsOut s r = true) ∧
    (∃ (s : State) (h : CmdHdr) (r st : Nat), GwGo s h false 0 (objRow r) ∧ r < 12 ∧ st ≤ 2 ∧ rowIsOut s r = false ∧ rowIsDark s r = true) ∧
    (∃ (s : State) (h : CmdHdr) (r : Nat), GwGo s h false 0 (objRow r) ∧ r < 12 ∧ r < s.power.conv.length ∧ r < s.rows.length ∧ (s.conv r).st = .dark) ∧
    (∃ (s : State) (h : CmdHdr) (r : Nat), GwGo s h false 0 (objRow r) ∧ r < 12 ∧ r < s.power.conv.length ∧ r < s.rows.length ∧ (s.conv r).st ≠ .dark) ∧
    (∃ (s : State) (h : CmdHdr) (r b : Nat), GwGo s h false 0 (objBank r b) ∧ r < 12 ∧ b < 40 ∧ r < s.rows.length ∧ b < (s.row r).banks.length ∧ rowIsOut s r = false ∧ rowRuns s r = true ∧ stagedOut s r = true ∧ (s.bank r b).st = .on ∧ bankUsed (s.row r) b = false ∧ (s.bank r b).inTest = false) ∧
    (∃ (s : State) (h : CmdHdr) (r b : Nat), GwGo s h false 0 (objBank r b) ∧ r < 12 ∧ b < 40 ∧ r < s.rows.length ∧ b < (s.row r).banks.length ∧ rowIsOut s r = false ∧ rowRuns s r = true ∧ stagedOut s r = true ∧ (s.bank r b).st = .on ∧ bankUsed (s.row r) b = true) ∧
    (∃ (s : State) (h : CmdHdr) (r b : Nat), GwGo s h false 0 (objBank r b) ∧ r < 12 ∧ b < 40 ∧ r < s.rows.length ∧ b < (s.row r).banks.length ∧ rowIsOut s r = false ∧ rowRuns s r = true ∧ stagedOut s r = true ∧ (s.bank r b).st = .on) ∧
    (∃ (s : State) (h : CmdHdr) (r b : Nat), GwGo s h false 0 (objBank r b) ∧ r < 12 ∧ b < 40 ∧ r < s.rows.length ∧ b < (s.row r).banks.length ∧ rowIsOut s r = false ∧ rowRuns s r = true ∧ stagedOut s r = true ∧ (s.bank r b).st = .off) ∧
    (∃ (s : State) (h : CmdHdr) (r c p : Nat), GwGo s h false 0 (objRow r) ∧ r < 12 ∧ c < 8 ∧ r < s.rows.length ∧ c < (s.row r).cores.length ∧ 50 ≤ p ∧ p ≤ 500000 ∧ rowIsOut s r = false ∧ rowIsDark s r = false ∧ prmPos s r c ≠ none) :=
  ⟨⟨V, h, 0xFF, 50, 2500, 500, by decide +kernel⟩,
   ⟨V, h, 11, by decide +kernel⟩,
   ⟨rs .sleep, h, 11, by decide +kernel⟩,
   ⟨V, h, 11, by decide +kernel⟩,
   ⟨rs .sleep, h, 11, by decide +kernel⟩,
   ⟨rs .nap, h, 11, by decide +kernel⟩,
   ⟨rs .sleep, h, 11, by decide +kernel⟩,
   ⟨rw_ 11 (fun w => { w with progs := [{ num := 1 }] }) V, h, 11, by decide +kernel⟩,
   ⟨rw_ 11 (fun w => { w with rowOut := true }) V, h, 11, 2, by decide +kernel⟩,
   ⟨rs .dark, h, 11, 2, by decide +kernel⟩,
   ⟨cv 11 { st := .dark } (rs .dark), h, 11, by decide +kernel⟩,
   ⟨V, h, 11, by decide +kernel⟩,
   ⟨V, h, 11, 39, by decide +kernel⟩,
   ⟨rw_ 11 (fun w => { w with scb := [{ line := 8, len := 1 }] }) V, h, 11, 0, by decide +kernel⟩,
   ⟨V, h, 11, 39, by decide +kernel⟩,
   ⟨rw_ 11 (fun w => { w with banks := w.banks.set 39 { st := .off } }) V, h, 11, 39, by decide +kernel⟩,
   ⟨V, h, 11, 7, 500000, by decide +kernel⟩⟩

/-- The hypotheses of PowerTimerAndRestartCommands can be met, clause by clause. -/
theorem test_PowerTimerAndRestartCommands :
    (∃ (s : State) (h : CmdHdr) (m p a b : Nat), GwGo s h false 0 objDevice ∧ (m = 0 ∨ 200000 ≤ m ∧ m ≤ 1400000) ∧ (p = 0 ∨ 150000 ≤ p ∧ p ≤ 1000000) ∧ (a = 0 ∨ 60 ≤ a ∧ a ≤ 504) ∧ (b = 0 ∨ 60 ≤ b ∧ b ≤ 504)) ∧
    (∃ (s : State) (h : CmdHdr) (m p : Nat), GwGo s h false 0 objDevice ∧ 0 < m ∧ m < 200000) ∧
    (∃ (s : State) (h : CmdHdr) (a b : Nat), GwGo s h false 0 objDevice ∧ a ≤ b ∧ b ≤ 7) ∧
    (∃ (s : State) (h : CmdHdr) (j a n : Nat), n = (energyFit s j a h.resmax).length ∧ GwGo s h false (max 128 (64 + 64 * n)) objDevice) ∧
    (∃ (s : State) (h : CmdHdr) (g b : Nat), GwGo s h true 0 objGroup ∧ 200000 ≤ b ∧ b ≤ 1400000 ∧ s.cap.group = none ∧ s.fab.epBase ≠ none) ∧
    (∃ (s : State) (h : CmdHdr) (g b : Nat), GwGo s h true 0 objGroup ∧ 200000 ≤ b ∧ b ≤ 1400000 ∧ s.cap.group ≠ none) ∧
    (∃ (s : State) (h : CmdHdr) (g b : Nat), GwGo s h true 0 objGroup ∧ s.cap.group = some g) ∧
    (∃ (s : State) (h : CmdHdr) (g b : Nat), GwGo s h true 0 objGroup ∧ s.cap.group = some g) ∧
    (∃ (s : State) (h : CmdHdr) (l j v : Nat), GwGo s h true 0 objDevice ∧ timeoutOk l v = true) ∧
    (∃ (s : State) (h : CmdHdr) (r : Nat), GwGo s h false 0 objDevice ∧ (r < 12 ∨ r = 0xFF)) ∧
    (∃ (s : State) (h : CmdHdr) (u : Nat), GwGo s h true 0 objDevice ∧ (u = 0 ∨ uClass u ≠ 0)) ∧
    (∃ (s : State) (h : CmdHdr), GwGo s h true 0 objDevice ∧ (∀ w, (s.wring w).st ≠ .opened)) :=
  ⟨⟨V, h, 200000, 0, 504, 60, by decide +kernel⟩,
   ⟨V, h, 199999, 0, by decide +kernel⟩,
   ⟨V, h, 7, 7, by decide +kernel⟩,
   ⟨V.modCap (fun c => { c with intervals := [{ start := 1, stop := 5, jobs := [3] }] }), h, 0xFFFFFFFF, 0, 1, by decide +kernel⟩,
   ⟨V, hs, 5, 200000, by decide +kernel⟩,
   ⟨V.modCap (fun c => { c with group := some 4 }), hs, 5, 200000, by decide +kernel⟩,
   ⟨V.modCap (fun c => { c with group := some 5 }), hs, 5, 200000, by decide +kernel⟩,
   ⟨V.modCap (fun c => { c with group := some 5 }), hs, 5, 200000, by decide +kernel⟩,
   ⟨V, hs, 0, 0, 2500, by decide +kernel⟩,
   ⟨V, h, 0xFF, by decide +kernel⟩,
   ⟨V, hs, 0, by decide +kernel⟩,
   ⟨V, hs, (by decide +kernel), wit_all _ (by decide +kernel) (by decide +kernel)⟩⟩

end W13

namespace W14

def ch (n : Nat) (x : Chan) (s : State) : State := s.modMbx (fun m => { m with chans := mset m.chans n x })
def cl (s : State) : State := s.modMem (fun m => { m with claimed := [1, 2, 3] })
def h : CmdHdr := { chan := 20, ctag := 77, resptr := 0x200000200000, resmax := 65536 }
def hs : CmdHdr := { h with chan := 3 }
def V : State := cl (at_ 900 up)
def rs (st : RowSt) : State := rw_ 11 (fun w => { w with st := st }) V
def wr (a : Nat) (l : List Byte) (s : State) : State := memWrite s a l
def sec (k sl off len dest : Nat) : List Byte := le 1 k ++ le 1 sl ++ le 2 0 ++ le 4 off ++ le 4 len ++ le 4 dest
def img : List Byte := let a := le 4 0x4950444B ++ le 2 1 ++ le 2 3 ++ List.replicate 52 0; let b := sec 1 2 112 16 0 ++ sec 2 1 128 8 0 ++ sec 3 0 136 64 9000 ++ List.replicate 16 0 ++ le 4 0x13 ++ le 4 0x6F ++ List.replicate 64 5; a ++ le 4 (crc32 (a ++ le 4 0 ++ b)) ++ b
def IM : State := wr 0x200000400000 img V
def pg : Prog := { num := 7, aster := [2], prm := [1], region := 8, units := 1 }
def PG : State := rw_ 11 (fun w => { w with progs := [pg], cores := w.cores.set 1 { st := .running, prog := some 7 } }) V
def LP : State := V.modMem (fun m => { m with remap := [(4, { st := .lost, unit := 0, phys := 4 })] })
def TA : Table := tableArgs 1 0 0 0xFF 0 100 32 5 0 0 0x200000400000 0 0 0 0
def TF : Table := tableArgs 0 2 1 2 7 1000 2048 6 2 0 0 0 0 0 0
def VC : State := (List.range 8).foldl (fun s c => s.modCard c (fun x => { x with st := .inService, chans := List.replicate 4 { st := .inService } })) V
def TK : Table := tableArgs 0 0 3 0xFF 0 10 0 0 0 0 0 0 0 4096 0x200000400000
def ent (i : Nat) : List Byte := le 8 i ++ le 3 7 ++ le 1 5 ++ List.replicate 20 3
def TU : State := wr 0x200000600000 (ent 5 ++ ent 6 ++ ent 5) (V.modFetch (fun f => { f with tables := [(9, TA)] }))
def TF1 : Table := { TF with nrows := 1, dim := 32, rowBytes := 40 }
def entF (i : Nat) : List Byte := le 8 i ++ le 3 7 ++ le 1 6 ++ List.replicate 36 3
def TUF : State := wr 0x200000600000 (entF 0) (VC.modFetch (fun f => { f with tables := [(9, TF1)] }))
def TQ : State := TU.modFetch (fun f => { f with bridges := f.bridges.set 1 { (f.bridges.getD 1 default) with queue := [{ table := 9 }] } })
def mu (u : Nat) (st : UnitFine) (s : State) : State := s.modMemUnit u (fun x => { x with st := st })
def RT : State := wr 0x200000600000 (le 4 1 ++ le 4 0xD) V
def SGD : State := (V.modBridge 1 (fun x => { x with other := .staged })).modBridge 0 (fun x => { x with other := .staged })
def WN : State := V.modFab (fun f => { f with windows := [(4095, { isOpen := true, base := 0x200000400000, length := 64, home := 12, epoch := 0xFFFFFFFF })] })
def bn : Binding := { row := 11, dlen := 1 }
def BN (x : Binding) : State := V.modFab (fun f => { f with bindings := [(65535, x)] })
def rr : RqRing := { owner := 11, slots := 2 }
def wo (f : WitRing → WitRing) : State := V.modWit (fun w => { w with rings := w.rings.set 15 (f { st := .opened, base := 0x400000400000, len := 0x400000 }) })
/-- The hypotheses of ProgramsTestsAndRecoveries can be met, clause by clause. -/
theorem test_ProgramsTestsAndRecoveries :
    (∃ (s : State) (h : CmdHdr) (r p f a u src n : Nat), GwGo s h false 0 (objProg r p) ∧ r < 12 ∧ r < s.rows.length ∧ f ≤ 1 ∧ a % 8 = 0 ∧ 0 < u ∧ u ≤ 4095 ∧ a + 16 * u ≤ 1310720 ∧ loadCode s r p (f == 1) a u src n = .ok ∧ rowRuns s r = true ∧ banksUp s r = true ∧ loadBankCode s r a u (memRead s src n) = .ok ∧ loadWaits (s.row r) a u (memRead s src n) = false) ∧
    (∃ (s : State) (h : CmdHdr) (r p f a u src n : Nat), GwGo s h false 0 (objProg r p) ∧ r < 12 ∧ f ≤ 1 ∧ a % 8 = 0 ∧ 0 < u ∧ u ≤ 4095 ∧ a + 16 * u ≤ 1310720 ∧ loadCode s r p (f == 1) a u src n ≠ .ok) ∧
    (∃ (s : State) (h : CmdHdr) (r n : Nat) (p : Prog), GwGo s h false 0 (objProg r n) ∧ r < 12 ∧ r < s.rows.length ∧ (s.row r).progs.find? (·.num == n) = some p ∧ progInUse s r p = false ∧ (∀ k ∈ progTiles p, tileBusy (s.tile r k) = false ∧ (s.tile r k).paired = false)) ∧
    (∃ (s : State) (h : CmdHdr) (r n : Nat) (p : Prog), GwGo s h false 0 (objProg r n) ∧ r < 12 ∧ r < s.rows.length ∧ (s.row r).progs.find? (·.num == n) = some p ∧ progInUse s r p = true) ∧
    (∃ (s : State) (h : CmdHdr) (r n : Nat) (p : Prog), GwGo s h false 0 (objProg r n) ∧ r < 12 ∧ r < s.rows.length ∧ (s.row r).progs.find? (·.num == n) = none) ∧
    (∃ (s : State) (h : CmdHdr) (u : Nat), GwGo s h false 0 (objUnit u) ∧ testUnitOk u = true ∧ testAbsent s u = false ∧ (inRow u = true → rowIsOut s (uRowOf u) = false ∧ rowIsDark s (uRowOf u) = false)) ∧
    (∃ (s : State) (h : CmdHdr) (b : Bool) (p : Nat), GwGo s h false 0 (objUnit (uPort p)) ∧ p < 12 ∧ p < s.fab.ports.length ∧ portFitted s p = true ∧ (s.port p).st = .downRuntime ∧ bridgeUp s (portBridge p) = true ∧ nth s.power.presentN p = false) ∧
    (∃ (s : State) (h : CmdHdr) (b : Bool) (r : Nat), GwGo s h false 0 (objRow r) ∧ r < 12 ∧ r < s.rows.length ∧ rowIsOut s r = false ∧ rowIsDark s r = false ∧ rowRuns s r = true ∧ banksUp s r = true ∧ markRoom (s.row r) (countIf (·.wr) (s.row r).scb) = true) ∧
    (∃ (s : State) (h : CmdHdr) (c : Bool) (b : Nat), GwGo s h false 0 (objBridge b) ∧ b < 2 ∧ b < s.fab.bridges.length ∧ (s.bridge b).out = false ∧ (s.bridge b).inReset = false) ∧
    (∃ (s : State) (h : CmdHdr) (r p k : Nat), GwGo s h false 0 (objUnit (uAst r p)) ∧ r < 12 ∧ p < 5 ∧ rowIsOut s r = false ∧ rowIsDark s r = false ∧ posBad (posState s true r p) = false ∧ posState s true r p ≠ .lost ∧ posState s true r p ≠ .inTest ∧ posSlot s true r p = some k ∧ slotHalted s true r k = false ∧ (spareOf s true r).isSome = true) ∧
    (∃ (s : State) (h : CmdHdr) (m : Nat), GwGo s h true 0 (objUnit (uMc 0)) ∧ standbyCore s = some m) ∧
    (∃ (s : State) (h : CmdHdr) (m : Nat), ∃ i, GwGo s h true 0 (objUnit (uMc 0)) ∧ standbyCore s = some m ∧ i < 8) ∧
    (∃ (s : State) (i c : Nat), s.gw.handoff = some (i, 1) ∧ s.gw.running = some c ∧ c < 2 ∧ s.gw.mc.length = 2 ∧ gwServes s = true ∧ nth s.gw.mc (1 - c) = .standby) ∧
    (∃ (s : State), s.gw.handoff = none) :=
  ⟨⟨IM, h, 11, 7, 0, 8, 1, 0x200000400000, 200, by decide +kernel⟩,
   ⟨V, h, 11, 7, 0, 8, 1, 0x200000400000, 200, by decide +kernel⟩,
   ⟨PG, h, 11, 7, pg, by decide +kernel⟩,
   ⟨rg 4 { owner := 11, slots := 2 } PG, h, 11, 7, pg, by decide +kernel⟩,
   ⟨V, h, 11, 7, pg, by decide +kernel⟩,
   ⟨V, h, uAst 11 4, by decide +kernel⟩,
   ⟨(V.modPort 11 (fun p => { p with st := .downRuntime, downAt := some 4 })).modPower (fun p => { p with presentN := p.presentN.set 11 false }), h, false, 11, by decide +kernel⟩,
   ⟨tl 11 3 { halted := true } (rw_ 11 (fun w => { w with scb := [{ line := 8, len := 8, wr := true, owner := 1 }] }) PG), h, false, 11, by decide +kernel⟩,
   ⟨V.modBridge 1 (fun x => { x with v0 := [(4, 5)] }), h, false, 1, by decide +kernel⟩,
   ⟨V, h, 11, 3, 3, by decide +kernel⟩,
   ⟨V, hs, 1, by decide +kernel⟩,
   ⟨V, hs, 1, 7, by decide +kernel⟩,
   ⟨V.modGw (fun g => { g with handoff := some (0xFF, 1), imageIdx := 3 }), 0xFF, 0, by decide +kernel⟩,
   ⟨V, by decide +kernel⟩⟩

/-- The hypotheses of MemoryAndTableCommands can be met, clause by clause. -/
theorem test_MemoryAndTableCommands :
    (∃ (s : State) (h : CmdHdr) (a n : Nat), GwGo s h false 0 objDevice ∧ rangeLegal s a n = true ∧ rangeAbsent s a = false ∧ (∀ k ∈ pagesOfRange s a n, k ∉ s.mem.claimed ∧ (pageEnt s k).st ≠ .borrowed ∧ (pageEnt s k).st ≠ .lost)) ∧
    (∃ (s : State) (h : CmdHdr) (a n k : Nat), GwGo s h false 0 objDevice ∧ rangeLegal s a n = true ∧ rangeAbsent s a = false ∧ k ∈ pagesOfRange s a n ∧ k ∈ s.mem.claimed) ∧
    (∃ (s : State) (h : CmdHdr) (a n : Nat), GwGo s h false 0 objDevice ∧ rangeLegal s a n = true ∧ rangeAbsent s a = false ∧ (∀ k ∈ pagesOfRange s a n, k ∈ s.mem.claimed ∧ k ∉ usedPages s)) ∧
    (∃ (s : State) (h : CmdHdr) (a n k : Nat), GwGo s h false 0 objDevice ∧ rangeLegal s a n = true ∧ rangeAbsent s a = false ∧ k ∈ pagesOfRange s a n ∧ k ∉ s.mem.claimed) ∧
    (∃ (s : State) (h : CmdHdr) (a n : Nat), ∃ u, GwGo s h false 0 objDevice ∧ rangeLegal s a n = true ∧ rangeAbsent s a = false ∧ (∀ k ∈ pagesOfRange s a n, (pageEnt s k).st = .lost → k / 65536 < 8 → (s.memUnit (k / 65536)).st ≠ .failed) ∧ freeAll ((pagesOfRange s a n).filter (fun k => (pageEnt s k).st == .lost)) s = some u) ∧
    (∃ (s : State) (h : CmdHdr) (a n : Nat), GwGo s h false 0 objDevice ∧ rangeLegal s a n = true ∧ rangeAbsent s a = false ∧ (∀ k ∈ pagesOfRange s a n, (pageEnt s k).st = .lost → k / 65536 < 8 → (s.memUnit (k / 65536)).st ≠ .failed) ∧ freeAll ((pagesOfRange s a n).filter (fun k => (pageEnt s k).st == .lost)) s = none) ∧
    (∃ (s : State) (h : CmdHdr) (n b ho ty ha se nr di fm fi pa rb kb pb bs mb mi : Nat) (d : Table), GwGo s h false 0 (objTable n) ∧ d = tableArgs b ho ty ha se nr di fm fi pa rb kb pb bs mb ∧ ho ≤ 2 ∧ ty ≤ 3 ∧ tableLegal d mi = true ∧ (d.home = .flash → hasFlash s = true) ∧ tablePlaced s d = true ∧ (d.home = .ddr → d.type ≠ .kv → ∀ k ∈ pagesOf s rb 1, k / 65536 < 8 + nDdr s) ∧ h.argPtr = none ∧ (∀ g ∈ createClaims d mi, extentClaimed s g.1 g.2 = true) ∧ (s.bridge b).out = false ∧ s.table n = none ∧ s.fetch.tables.length < 4096 ∧ (d.home = .flash → reservedCap s b + 16384 * tableGroups d ≤ writableCap s b ∧ mapNeed d ≤ (mapRoom s b (mapNeed d)).length) ∧ (pa ≠ 0 → ∀ k ∈ pagesOf s (partExtent d).1 (partExtent d).2, (pageEnt s k).st ≠ .borrowed) ∧ (d.type = .kv → accessCode s false mi (8 * nr) = .ok ∧ accessCode s true mb (8 * nr) = .ok)) ∧
    (∃ (s : State) (h : CmdHdr) (n c a k : Nat) (d : Table) (es : List (Nat × Nat × List Byte)), GwGo s h false 0 (objTable n) ∧ s.table n = some d ∧ d.type ≠ .kv ∧ (s.bridge d.bridge).out = false ∧ accessCode s false a (c * entryBytes d) = .ok ∧ es = (List.range c).map (fun i => batchEntry d (memRead s (a + i * entryBytes d) (entryBytes d))) ∧ (∀ e ∈ es, e.1 < d.nrows ∧ rowFmt e.2.2 = d.fmt) ∧ d.home ≠ .flash ∧ batchCode s d (lastEntries es) = .ok ∧ k = ((d.epoch + 1) % 2 ^ 32 + 1) % 2 ^ 32) ∧
    (∃ (s : State) (h : CmdHdr) (n c a k : Nat) (d : Table) (es : List (Nat × Nat × List Byte)), GwGo s h false 0 (objTable n) ∧ s.table n = some d ∧ d.type ≠ .kv ∧ (s.bridge d.bridge).out = false ∧ accessCode s false a (c * entryBytes d) = .ok ∧ es = (List.range c).map (fun i => batchEntry d (memRead s (a + i * entryBytes d) (entryBytes d))) ∧ (∀ e ∈ es, e.1 < d.nrows ∧ rowFmt e.2.2 = d.fmt) ∧ d.home = .flash ∧ groupShort s n d ((lastEntries es).map (·.1)) = false) ∧
    (∃ (s : State) (h : CmdHdr) (n : Nat), GwGo s h false 0 (objTable n) ∧ s.table n = none) ∧
    (∃ (s : State) (h : CmdHdr) (n : Nat), ∃ d, GwGo s h false 0 (objTable n) ∧ s.table n = some d ∧ tableInUse s n = false) ∧
    (∃ (s : State) (h : CmdHdr) (n : Nat), ∃ d, GwGo s h false 0 (objTable n) ∧ s.table n = some d ∧ tableInUse s n = true) :=
  ⟨⟨V, h, 0x200000800000, 0x400000, by decide +kernel⟩,
   ⟨V, h, 0x200000200000, 0x400000, 2, by decide +kernel⟩,
   ⟨V, h, 0x200000200000, 0x400000, by decide +kernel⟩,
   ⟨V, h, 0x200000600000, 0x400000, 4, by decide +kernel⟩,
   ⟨LP, h, 0x200000600000, 0x400000, (freeAll [4] LP).getD V, by decide +kernel⟩,
   ⟨LP.modMemUnit 0 (fun u => { u with badPhys := (List.range 88).map (22800 + ·) }), h, 0x200000600000, 0x400000, by decide +kernel⟩,
   ⟨V, h, 9, 1, 0, 0, 0xFF, 0, 100, 32, 5, 0, 0, 0x200000400000, 0, 0, 0, 0, 0, TA, by decide +kernel⟩,
   ⟨TU, h, 9, 3, 0x200000600000, 2, TA, ((List.range 3).map (fun i => batchEntry TA (memRead TU (0x200000600000 + i * entryBytes TA) (entryBytes TA)))), by decide +kernel⟩,
   ⟨TUF, h, 9, 1, 0x200000600000, 2, TF1, ((List.range 1).map (fun i => batchEntry TF1 (memRead TUF (0x200000600000 + i * entryBytes TF1) (entryBytes TF1)))), by decide +kernel⟩,
   ⟨V, h, 9, by decide +kernel⟩,
   ⟨TU, h, 9, TA, by decide +kernel⟩,
   ⟨TQ, h, 9, TA, by decide +kernel⟩⟩

/-- The hypotheses of ChannelCardAndFabricCommands can be met, clause by clause. -/
theorem test_ChannelCardAndFabricCommands :
    (∃ (s : State) (h : CmdHdr) (d r : Nat), GwGo s h false 0 (objMem d) ∧ d < 16 ∧ d < nDdr s ∧ rateOk r = true ∧ 8 + d < s.mem.units.length ∧ ((s.memUnit (8 + d)).st = .inService ∨ (s.memUnit (8 + d)).st = .degraded) ∧ roomFor s (8 + d) (drainPages s (8 + d)).length = true) ∧
    (∃ (s : State) (h : CmdHdr) (d r : Nat), GwGo s h false 0 (objMem d) ∧ d < 16 ∧ d < nDdr s ∧ rateOk r = true ∧ 8 + d < s.mem.units.length ∧ ((s.memUnit (8 + d)).st = .drained ∨ (s.memUnit (8 + d)).st = .failed) ∧ lostPages s (8 + d) = false ∧ (s.sw d).st = .off ∧ d < s.power.switches.length) ∧
    (∃ (s : State) (h : CmdHdr) (d r : Nat), GwGo s h false 0 (objMem d) ∧ d < 16 ∧ d < nDdr s ∧ rateOk r = true ∧ 8 + d < s.mem.units.length ∧ (s.memUnit (8 + d)).st = .inService) ∧
    (∃ (s : State) (h : CmdHdr) (i o : Nat), GwGo s h false 0 objDevice ∧ i < nDdr s ∧ i < 16 ∧ i < s.power.switches.length ∧ o ≤ 1 ∧ (s.sw i).st = .off) ∧
    (∃ (s : State) (h : CmdHdr) (i o : Nat), GwGo s h false 0 objDevice ∧ i < nDdr s ∧ i < 16 ∧ i < s.power.switches.length ∧ o ≤ 1 ∧ (s.sw i).st = .on) ∧
    (∃ (s : State) (h : CmdHdr) (b r : Nat), GwGo s h false 0 (objBridge b) ∧ b < 2 ∧ 500 ≤ r ∧ r ≤ 4000 ∧ hasFlash s = true) ∧
    (∃ (s : State) (h : CmdHdr) (c f : Nat), GwGo s h false 0 (objCard c) ∧ c < 8 ∧ f ≤ 1 ∧ c < s.flash.cards.length ∧ hasFlash s = true ∧ 16 + c < s.power.switches.length ∧ (s.card c).st = .inService ∧ reservedCap s (cardBridge c) + heldOn s c ≤ otherCap s c ∧ heldOn s c ≠ 0) ∧
    (∃ (s : State) (h : CmdHdr) (c f : Nat), GwGo s h false 0 (objCard c) ∧ c < 8 ∧ f ≤ 1 ∧ c < s.flash.cards.length ∧ hasFlash s = true ∧ 16 + c < s.power.switches.length ∧ (s.card c).st = .inService ∧ reservedCap s (cardBridge c) + heldOn s c ≤ otherCap s c ∧ heldOn s c = 0) ∧
    (∃ (s : State) (h : CmdHdr) (c f : Nat), GwGo s h false 0 (objCard c) ∧ c < 8 ∧ f ≤ 1 ∧ c < s.flash.cards.length ∧ hasFlash s = true ∧ 16 + c < s.power.switches.length ∧ (s.card c).st = .drained ∧ (s.sw (16 + c)).st = .off) ∧
    (∃ (s : State) (h : CmdHdr) (c f : Nat), GwGo s h false 0 (objCard c) ∧ c < 8 ∧ f ≤ 1 ∧ c < s.flash.cards.length ∧ hasFlash s = true ∧ 16 + c < s.power.switches.length ∧ (s.card c).st = .inService) ∧
    (∃ (s : State) (h : CmdHdr) (e : Nat), GwGo s h true 0 objDevice ∧ e % 16 = 0 ∧ e < 0xFFF0 ∧ (s.fab.epBase = none ∨ s.fab.epBase = some e)) ∧
    (∃ (s : State) (h : CmdHdr) (e : Nat), ∃ x, GwGo s h true 0 objDevice ∧ e % 16 = 0 ∧ e < 0xFFF0 ∧ s.fab.epBase = some x ∧ x ≠ e) ∧
    (∃ (s : State) (h : CmdHdr) (b f n a : Nat), GwGo s h true 0 objRoutes ∧ b < 2 ∧ b < s.fab.bridges.length ∧ f + n ≤ 65536 ∧ accessCode s false a (4 * n) = .ok ∧ (∀ i, i < n → routeLegal (BitVec.ofNat 32 (leNat (memRead s (a + 4 * i) 4))) = true) ∧ (s.bridge b).other ≠ .draining) ∧
    (∃ (s : State) (h : CmdHdr) (b f n a : Nat), GwGo s h true 0 objRoutes ∧ b < 2 ∧ b < s.fab.bridges.length ∧ f + n ≤ 65536 ∧ accessCode s false a (4 * n) = .ok ∧ (∀ i, i < n → routeLegal (BitVec.ofNat 32 (leNat (memRead s (a + 4 * i) 4))) = true) ∧ (s.bridge b).other = .draining) ∧
    (∃ (s : State) (h : CmdHdr) (k d : Nat), GwGo s h true 0 objRoutes ∧ (d = 0 ∨ 100 ≤ d ∧ d ≤ 100000) ∧ s.tb + 50 ≤ k ∧ (∀ x ∈ s.fab.bridges, x.other = .staged)) ∧
    (∃ (s : State) (h : CmdHdr) (k d : Nat), GwGo s h true 0 objRoutes ∧ d = 0 ∧ k < s.tb + 50) ∧
    (∃ (s : State) (h : CmdHdr) (w p o a n e : Nat) (l : List (Nat × Nat)), GwGo s h false 0 (objWin w) ∧ w < 4096 ∧ windowLegal s p o a n l = true ∧ rangeAbsent s a = false ∧ (a / 2 ^ 44 = 0 ∨ extentClaimed s a n = true) ∧ winBusy s w = false ∧ e = (winEpoch s w + 1) % 2 ^ 32) ∧
    (∃ (s : State) (h : CmdHdr) (w e : Nat) (x : Window), GwGo s h false 0 (objWin w) ∧ w < 4096 ∧ mget s.fab.windows w = some x ∧ x.isOpen = true ∧ e = (x.epoch + 1) % 2 ^ 32 ∧ winBusy s w = false) ∧
    (∃ (s : State) (h : CmdHdr) (w e : Nat) (x : Window), GwGo s h false 0 (objWin w) ∧ w < 4096 ∧ mget s.fab.windows w = some x ∧ x.isOpen = true ∧ e = (x.epoch + 1) % 2 ^ 32 ∧ winBusy s w = true) ∧
    (∃ (s : State) (h : CmdHdr) (n b fl dl ln d w e o : Nat), GwGo s h false 0 (objBind n) ∧ n < 65536 ∧ b < 2 ∧ fl < 256 ∧ unitRange dl ln = true ∧ w < 4096 ∧ e < 2 ^ 32 ∧ o < 2 ^ 40 ∧ h.argPtr = none ∧ s.fab.bindings.length < 1024) ∧
    (∃ (s : State) (h : CmdHdr) (n : Nat) (x : Binding), GwGo s h false 0 (objBind n) ∧ h.argPtr = none ∧ s.binding n = some x ∧ x.sending = false) ∧
    (∃ (s : State) (h : CmdHdr) (n : Nat) (x : Binding), GwGo s h false 0 (objBind n) ∧ h.argPtr = none ∧ s.binding n = some x ∧ x.sending = true) ∧
    (∃ (s : State) (h : CmdHdr) (n : Nat) (x : Binding), GwGo s h false 0 (objBind n) ∧ h.argPtr = none ∧ s.binding n = some x ∧ x.halted = true ∧ touchesRetired s x = false) ∧
    (∃ (s : State) (h : CmdHdr) (b q1 q2 q3 q4 : Nat), GwGo s h false 0 (objBridge b) ∧ b < 2 ∧ b < s.fab.bridges.length ∧ q1 < q2 ∧ q2 < q3 ∧ q3 < q4 ∧ q4 ≤ 512) :=
  ⟨⟨V, h, 15, 0, by decide +kernel⟩,
   ⟨mu 23 .drained V, h, 15, 0, by decide +kernel⟩,
   ⟨V, h, 15, 0, by decide +kernel⟩,
   ⟨V, h, 15, 1, by decide +kernel⟩,
   ⟨sw 15 { st := .on } V, h, 15, 1, by decide +kernel⟩,
   ⟨V, h, 1, 500, by decide +kernel⟩,
   ⟨VC.modFlash (fun f => { f with groups := [((9, 0), { lost := false, card := 7 })] }), h, 7, 1, by decide +kernel⟩,
   ⟨sw 23 { st := .on } VC, h, 7, 1, by decide +kernel⟩,
   ⟨VC.modCard 7 (fun x => { x with st := .drained }), h, 7, 1, by decide +kernel⟩,
   ⟨VC, h, 7, 1, by decide +kernel⟩,
   ⟨V, hs, 16, by decide +kernel⟩,
   ⟨V, hs, 32, 16, by decide +kernel⟩,
   ⟨RT, hs, 1, 65534, 2, 0x200000600000, by decide +kernel⟩,
   ⟨RT.modBridge 1 (fun x => { x with other := .draining }), hs, 1, 65534, 2, 0x200000600000, by decide +kernel⟩,
   ⟨SGD, hs, 950, 0, by decide +kernel⟩,
   ⟨SGD, hs, 949, 0, by decide +kernel⟩,
   ⟨V, h, 4095, 1, 12, 0x200000400000, 64, 1, [(3, 0xFFFF)], by decide +kernel⟩,
   ⟨WN, h, 4095, 0, { isOpen := true, base := 0x200000400000, length := 64, home := 12, epoch := 0xFFFFFFFF }, by decide +kernel⟩,
   ⟨WN.modBridge 0 (fun x => { x with holdBuf := [({ win := 4095 }, 5)] }), h, 4095, 0, { isOpen := true, base := 0x200000400000, length := 64, home := 12, epoch := 0xFFFFFFFF }, by decide +kernel⟩,
   ⟨V, h, 65535, 1, 255, 1310712, 1, 40, 4095, 9, 64, by decide +kernel⟩,
   ⟨BN bn, h, 65535, bn, by decide +kernel⟩,
   ⟨BN { bn with sending := true }, h, 65535, { bn with sending := true }, by decide +kernel⟩,
   ⟨BN { bn with halted := true }, h, 65535, { bn with halted := true }, by decide +kernel⟩,
   ⟨V, h, 1, 1, 2, 3, 512, by decide +kernel⟩⟩

/-- The hypotheses of ChannelRingAndSecurityCommands can be met, clause by clause. -/
theorem test_ChannelRingAndSecurityCommands :
    (∃ (s : State) (h : CmdHdr) (n v f m d k : Nat), GwGo s h true 0 (objChan n) ∧ n < nChans s ∧ v ≤ 3 ∧ f ≤ 7 ∧ k < 1024 ∧ (v ≠ 3 → d = 0 ∧ k = 0) ∧ (2 ≤ v → secureEnd s ≤ n)) ∧
    (∃ (s : State) (h : CmdHdr) (n o sl lg no db rq cq m : Nat) (ds : List (Nat × Nat)), GwGo s h false 0 (objRing n) ∧ n < 65536 ∧ o < 12 ∧ lg ≤ 12 ∧ ringFields sl no db ds m = true ∧ (∀ g ∈ ringExtents true rq cq (64 * 2 ^ lg), ringBase s g.1 g.2 = true ∧ rangeAbsent s g.1 = false ∧ extentClaimed s g.1 g.2 = true) ∧ s.ring n = none ∧ countIf (fun p => p.2.owner == o) s.rings.rings < 8192 ∧ rowIsOut s o = false ∧ rowIsDark s o = false ∧ (∀ c, c < 8 → bit sl c = true → prmPos s o c ≠ none) ∧ accessCode s true cq (64 * 2 ^ lg) = .ok) ∧
    (∃ (s : State) (h : CmdHdr) (n : Nat) (g : RqRing), GwGo s h false 0 (objRing n) ∧ s.ring n = some g ∧ ringBusy s n g = false) ∧
    (∃ (s : State) (h : CmdHdr) (n : Nat) (g : RqRing), GwGo s h false 0 (objRing n) ∧ s.ring n = some g ∧ ringBusy s n g = true) ∧
    (∃ (s : State) (h : CmdHdr) (n : Nat) (g : RqRing), ∃ sl no db ds m, GwGo s h false 0 (objRing n) ∧ s.ring n = some g ∧ ringFields sl no db ds m = true) ∧
    (∃ (s : State) (h : CmdHdr) (n : Nat), GwGo s h false 0 (objRing n) ∧ s.ring n = none) ∧
    (∃ (s : State) (h : CmdHdr) (w : Nat), ∃ p f n th b l, GwGo s h false 0 (objWit w) ∧ w < 16 ∧ w < s.wit.rings.length ∧ hasWitness s = true ∧ l ≠ 0 ∧ witLegal s p f n th b l = true ∧ rangeAbsent s b = false ∧ (s.wring w).st = .closed ∧ (∀ k ∈ pagesOf s b l, k ∉ s.mem.claimed ∧ (pageEnt s k).st ≠ .borrowed) ∧ accessCode s true b 64 = .ok) ∧
    (∃ (s : State) (h : CmdHdr) (w : Nat), GwGo s h false 0 (objWit w) ∧ w < 16 ∧ w < s.wit.rings.length ∧ hasWitness s = true ∧ (s.wring w).st = .opened) ∧
    (∃ (s : State) (h : CmdHdr) (w : Nat), GwGo s h false 0 (objWit w) ∧ w < 16 ∧ w < s.wit.rings.length ∧ hasWitness s = true ∧ (s.wring w).st = .opened) ∧
    (∃ (s : State) (h : CmdHdr) (w : Nat), GwGo s h false 0 (objWit w) ∧ w < 16 ∧ w < s.wit.rings.length ∧ hasWitness s = true ∧ (s.wring w).st ≠ .opened) ∧
    (∃ (s : State) (h : CmdHdr) (x : List Byte), GwGo s h false (384 + 96 * s.sec.log.length + 49856) 0) ∧
    (∃ (s : State) (h : CmdHdr) (x g : List Byte), GwGo s h false 0 objDevice) ∧
    (∃ (s : State) (h : CmdHdr) (x g : List Byte), GwGo s h true 0 objDevice) :=
  ⟨⟨V, hs, 63, 3, 7, 0xF000, 40, 1023, by decide +kernel⟩,
   ⟨V, h, 65535, 11, 0x81, 2, 1, 0, 0x200000400000, 0x200000600000, 500, [(0, 0), (0, 0)], by decide +kernel⟩,
   ⟨rg 5 rr V, h, 5, rr, by decide +kernel⟩,
   ⟨rg 5 { rr with out := [default] } V, h, 5, { rr with out := [default] }, by decide +kernel⟩,
   ⟨rg 5 rr V, h, 5, rr, 255, 1, 1, [(1, 2), (3, 4)], 99, by decide +kernel⟩,
   ⟨V, h, 5, by decide +kernel⟩,
   ⟨V, h, 15, 2, 3, 0, 0, 0x400000400000, 0x400000, by decide +kernel⟩,
   ⟨wo id, h, 15, by decide +kernel⟩,
   ⟨wo id, h, 15, by decide +kernel⟩,
   ⟨V, h, 15, by decide +kernel⟩,
   ⟨V, h, List.replicate 32 1, by decide +kernel⟩,
   ⟨V, h, List.replicate 128 1, [], by decide +kernel⟩,
   ⟨V, hs, [], [], by decide +kernel⟩⟩

end W14

namespace W15

def ch (n : Nat) (x : Chan) (s : State) : State := s.modMbx (fun m => { m with chans := mset m.chans n x })
def h : CmdHdr := { chan := 20, ctag := 77, resptr := 0x200000200000, resmax := 65536 }
def V : State := (at_ 900000 up).modMem (fun m => { m with claimed := [1, 2, 3] })
def HP (x : Core) : State := rg 5 { owner := 11, slots := 0x80, log2size := 2, rqBase := 0x200000400000, cqBase := 0x200000600000 } (cr 11 7 { x with st := .running, heldPush := some (5, List.replicate 64 0, 3) } V)
def te (x : Test) (s : State) : State := s.modGw (fun g => { g with tests := [{ unit := 1 }, x] })
def t6 : Test := { unit := uMem 7, recNo := 3, since := 5 }
def t3 : Test := { unit := uBank 11 39, recNo := 3, since := 5 }
def tD : Test := { unit := uMc 1, running := true }
def rc : Recovery := { ast := true, row := 11, slot := 3, unit := uAst 11 3, outcome := .pass, action := 1, recNo := 4 }
def ck (f : Clk → Clk) (s : State) : State := s.modClk f
def gs : State := (V.modCap (fun c => { c with group := some 5, roster := [{ ep := 32, missed := 2 }, { ep := 48, missed := 1 }], tseq := 9, share := 900000 })).modBridge 0 (fun x => { x with v0 := [(35, 0x80001), (36, 0x80001), (19, 0x80001)] })
/-- The hypotheses of TestsRecoveriesAndFailover can be met, clause by clause. -/
theorem test_TestsRecoveriesAndFailover :
    (∃ (s : State) (r c n rd : Nat) (e : List Byte), (s.core r c).heldPush = some (n, e, rd) ∧ r < s.rows.length ∧ c < (s.row r).cores.length ∧ (s.core r c).taint = [] ∧ (s.core r c).taintBad = false ∧ (s.core r c).st = .running) ∧
    (∃ (s : State) (r c n rd : Nat) (e : List Byte), (s.core r c).heldPush = some (n, e, rd) ∧ r < s.rows.length ∧ c < (s.row r).cores.length ∧ (s.core r c).taint ≠ [] ∧ (s.core r c).taintBad = false) ∧
    (∃ (s : State) (r c n rd : Nat) (e : List Byte), (s.core r c).heldPush = some (n, e, rd) ∧ r < s.rows.length ∧ c < (s.row r).cores.length ∧ (s.core r c).taintBad = true) ∧
    (∃ (s : State) (u : Nat) (x : Test), s.test u = some x ∧ gwServes s = true ∧ x.running = false ∧ x.retryAt = none ∧ (uClass u = 6 ∨ uClass u = 7)) ∧
    (∃ (s : State) (u : Nat) (x : Test), s.test u = some x ∧ gwServes s = true ∧ x.running = false ∧ x.retryAt = none ∧ uClass u = 3 ∧ uRowOf u < 12 ∧ rowRuns s (uRowOf u) = true ∧ bankUsed (s.row (uRowOf u)) (uIdx u) = false ∧ uRowOf u < s.rows.length ∧ uIdx u < (s.row (uRowOf u)).banks.length) ∧
    (∃ (s : State) (u : Nat) (x : Test), ∃ d, s.test u = some x ∧ gwServes s = true ∧ x.running = false ∧ x.retryAt = some d ∧ d ≤ s.tb ∧ (uClass u = 6 ∨ uClass u = 7)) ∧
    (∃ (s : State) (u : Nat) (x : Test), ∃ d, s.test u = some x ∧ gwServes s = true ∧ x.running = false ∧ x.retryAt = some d ∧ s.tb < d) ∧
    (∃ (s : State) (u : Nat) (x : Test), ∃ p, s.test u = some x ∧ gwServes s = true ∧ x.running = false ∧ x.placed = some p ∧ p + 500000 ≤ s.tb ∧ x.untest < 2) ∧
    (∃ (s : State) (u : Nat) (x : Test), ∃ p, s.test u = some x ∧ gwServes s = true ∧ x.running = false ∧ x.placed = some p ∧ p + 500000 ≤ s.tb ∧ 2 ≤ x.untest ∧ uClass u = 6) ∧
    (∃ (s : State) (u : Nat) (x : Test), ∃ p, s.test u = some x ∧ gwServes s = true ∧ x.running = false ∧ x.placed = some p ∧ s.tb < p + 500000) ∧
    (∃ (s : State) (u : Nat) (x : Test) (rt : RowTest) (l : List Nat), ∃ (p : Bool), s.test u = some x ∧ x.running = true ∧ x.unit = u ∧ (uClass u = 6 ∨ uClass u = 7)) ∧
    (∃ (s : State) (u : Nat) (x : Test) (rt : RowTest) (l : List Nat), s.test u = some x ∧ x.running = true ∧ x.unit = u ∧ uClass u = 3 ∧ uRowOf u < s.rows.length ∧ uIdx u < (s.row (uRowOf u)).banks.length ∧ (s.bank (uRowOf u) (uIdx u)).st ≠ .retired) ∧
    (∃ (s : State) (u : Nat) (x : Test) (rt : RowTest) (l : List Nat), s.test u = some x ∧ x.running = true ∧ x.unit = u ∧ uClass u = 0xD ∧ uIdx u < s.gw.mc.length) ∧
    (∃ (s : State) (u : Nat) (p : Bool) (rt : RowTest) (l : List Nat), s.test u = none) ∧
    (∃ (s : State) (r k : Nat) (x : Recovery), recoveryOf s true r k = some x ∧ gwServes s = true ∧ rowIsDark s r = false ∧ rowIsOut s r = false ∧ rowRuns s r = true ∧ recoverWaits s true r k = false ∧ (s.tile r k).paired = false ∧ (astPos s r k).isSome = true ∧ (s.tile r k).halted = true ∧ r < s.rows.length ∧ k < (s.row r).tiles.length) ∧
    (∃ (s : State) (a : Bool) (r k : Nat), recoveryOf s a r k = none) ∧
    (∃ (s : State), gwServes s = true) ∧
    (∃ (s : State) (c : Nat) (d : Bool), s.gw.running = some c ∧ c < 2 ∧ s.gw.mc.length = 2 ∧ alive s = true ∧ s.boot.st = .ready ∧ s.gw.failAt = none ∧ nth s.gw.mc (1 - c) = .standby) ∧
    (∃ (s : State) (c : Nat) (d : Bool), s.gw.running = some c ∧ c < 2 ∧ s.gw.mc.length = 2 ∧ alive s = true ∧ s.boot.st = .ready ∧ s.gw.failAt = none ∧ nth s.gw.mc (1 - c) = .standby ∧ s.gw.wdAt ≤ s.tb) ∧
    (∃ (s : State) (c : Nat) (d : Bool), s.gw.running = some c ∧ c < 2 ∧ s.gw.mc.length = 2 ∧ alive s = true ∧ s.boot.st = .ready ∧ s.gw.failAt = none ∧ nth s.gw.mc (1 - c) ≠ .standby ∧ mcGood s c = true) ∧
    (∃ (s : State) (c : Nat) (d : Bool), s.gw.running = some c ∧ c < 2 ∧ s.gw.mc.length = 2 ∧ alive s = true ∧ s.boot.st = .ready ∧ s.gw.failAt = none ∧ nth s.gw.mc (1 - c) ≠ .standby ∧ mcGood s c = false) ∧
    (∃ (s : State) (c : Nat) (d : Bool), s.gw.running = some c ∧ c < 2 ∧ s.gw.mc.length = 2 ∧ alive s = true ∧ s.boot.st = .ready ∧ s.gw.failAt = none ∧ s.tb < s.gw.wdAt) ∧
    (∃ (s : State) (c n : Nat), s.gw.failAt = some n ∧ s.gw.running = some c ∧ alive s = true) ∧
    (∃ (s : State), s.gw.failAt = none) :=
  ⟨⟨HP {}, 11, 7, 5, 3, List.replicate 64 0, by decide +kernel⟩,
   ⟨HP { taint := [(1, 2)] }, 11, 7, 5, 3, List.replicate 64 0, by decide +kernel⟩,
   ⟨HP { taintBad := true }, 11, 7, 5, 3, List.replicate 64 0, by decide +kernel⟩,
   ⟨te t6 V, uMem 7, t6, by decide +kernel⟩,
   ⟨te t3 V, uBank 11 39, t3, by decide +kernel⟩,
   ⟨te { t6 with retryAt := some 900000 } V, uMem 7, { t6 with retryAt := some 900000 }, 900000, by decide +kernel⟩,
   ⟨te { t6 with retryAt := some 900001 } V, uMem 7, { t6 with retryAt := some 900001 }, 900001, by decide +kernel⟩,
   ⟨te { t3 with placed := some 400000, untest := 1 } V, uBank 11 39, { t3 with placed := some 400000, untest := 1 }, 400000, by decide +kernel⟩,
   ⟨te { t6 with placed := some 400000, untest := 2 } V, uMem 7, { t6 with placed := some 400000, untest := 2 }, 400000, by decide +kernel⟩,
   ⟨te { t6 with placed := some 400001, untest := 2 } V, uMem 7, { t6 with placed := some 400001, untest := 2 }, 400001, by decide +kernel⟩,
   ⟨te { t6 with running := true } V, uMem 7, { t6 with running := true }, {}, [], true, by decide +kernel⟩,
   ⟨te { t3 with running := true } V, uBank 11 39, { t3 with running := true }, {}, [], by decide +kernel⟩,
   ⟨te tD V, uMc 1, tD, {}, [], by decide +kernel⟩,
   ⟨V, 3, true, {}, [], by decide +kernel⟩,
   ⟨tl 11 3 { halted := true, fault := 7, queue := [default] } (V.modGw (fun g => { g with recovering := [rc] })), 11, 3, rc, by decide +kernel⟩,
   ⟨V, true, 11, 3, by decide +kernel⟩,
   ⟨V, by decide +kernel⟩,
   ⟨V, 0, true, by decide +kernel⟩,
   ⟨V, 0, false, by decide +kernel⟩,
   ⟨V.modGw (fun g => { g with mc := [.running, .failed] }), 0, false, by decide +kernel⟩,
   ⟨(V.modGw (fun g => { g with mc := [.running, .failed] })).modDmap (fun d => { d with mc0 := false }), 0, false, by decide +kernel⟩,
   ⟨V.modGw (fun g => { g with wdAt := 900001 }), 0, false, by decide +kernel⟩,
   ⟨V.modGw (fun g => { g with failAt := some 5 }), 0, 5, by decide +kernel⟩,
   ⟨V, by decide +kernel⟩⟩

/-- The hypotheses of PowerAndTemperatureControl can be met, clause by clause. -/
theorem test_PowerAndTemperatureControl :
    (∃ (s : State) (m : FastMeans), alive s = true ∧ s.boot.st = .ready ∧ s.clk.cur ≠ 0 ∧ s.clk.pend = false ∧ fastFails m s = true) ∧
    (∃ (s : State) (m : FastMeans), alive s = true ∧ s.boot.st = .ready ∧ s.clk.cur ≠ 0 ∧ s.clk.pend = false ∧ fastFails m s = false) ∧
    (∃ (s : State) (r k p d : Nat) (l : List (Nat × Nat × Nat × Nat)), s.cap.markers = (r, k, p, d) :: l ∧ r < s.rows.length ∧ k < (s.row r).tiles.length ∧ s.clk.armed = true) ∧
    (∃ (s : State) (r k p d : Nat) (l : List (Nat × Nat × Nat × Nat)), s.cap.markers = (r, k, p, d) :: l ∧ r < s.rows.length ∧ k < (s.row r).tiles.length) ∧
    (∃ (s : State), s.cap.markers = []) ∧
    (∃ (s : State) (k : Nat) (v : Int), alive s = true ∧ k < 61) ∧
    (∃ (s : State) (k : Nat) (v : Int), (85 ≤ k ∨ alive s = false)) ∧
    (∃ (s : State) (u : Nat) (v : Int), alive s = true ∧ u < 8 ∧ u < s.mem.units.length ∧ unitIsOut (s.memUnit u).st = false) ∧
    (∃ (s : State) (d : Nat), s.therm.coolSince = some d ∧ s.cap.thermCeil < 7 ∧ d + 500000 ≤ s.tb) ∧
    (∃ (s : State) (d : Nat), s.therm.coolSince = some d ∧ s.cap.thermCeil < 7 ∧ s.tb < d + 500000) ∧
    (∃ (s : State) (w : PowerWindow), alive s = true ∧ s.tb % 50000 = 0 ∧ 0 < s.tb) ∧
    (∃ (s : State) (w : PowerWindow), s.tb % 50000 ≠ 0) ∧
    (∃ (s : State), groupServes s = true ∧ s.cap.discTb = none) ∧
    (∃ (s : State), groupServes s = true ∧ s.cap.reportTb = none) ∧
    (∃ (s : State) (d : Nat), s.cap.reportTb = some d ∧ s.tb < d + 500000) ∧
    (∃ (s : State) (d : Nat), s.cap.discTb = some d ∧ s.tb < d + 50000000) :=
  ⟨⟨ck (fun c => { c with cur := 3, next := 3 }) V, { input := 9000000 }, by decide +kernel⟩,
   ⟨ck (fun c => { c with cur := 3, next := 3 }) V, {}, by decide +kernel⟩,
   ⟨ck (fun c => { c with armed := true }) (V.modCap (fun c => { c with markers := [(11, 3, 9, 77)] })), 11, 3, 9, 77, [], by decide +kernel⟩,
   ⟨V.modCap (fun c => { c with markers := [(11, 3, 9, 77)] }), 11, 3, 9, 77, [], by decide +kernel⟩,
   ⟨V, by decide +kernel⟩,
   ⟨V, 48, 440, by decide +kernel⟩,
   ⟨V, 85, 3, by decide +kernel⟩,
   ⟨V, 7, 345, by decide +kernel⟩,
   ⟨(V.modTherm (fun t => { t with coolSince := some 400000 })).modCap (fun c => { c with thermCeil := 6 }), 400000, by decide +kernel⟩,
   ⟨(V.modTherm (fun t => { t with coolSince := some 400001 })).modCap (fun c => { c with thermCeil := 6 }), 400001, by decide +kernel⟩,
   ⟨V, { avg := List.replicate 45 1, peak := List.replicate 45 70000, volt := List.replicate 45 3, energy := 900 }, by decide +kernel⟩,
   ⟨at_ 900001 V, {}, by decide +kernel⟩,
   ⟨gs, by decide +kernel⟩,
   ⟨gs, by decide +kernel⟩,
   ⟨gs.modCap (fun c => { c with reportTb := some 400001 }), 400001, by decide +kernel⟩,
   ⟨gs.modCap (fun c => { c with discTb := some 400001 }), 400001, by decide +kernel⟩⟩

end W15

namespace W16

def V : State := (at_ 90000000 up).modMem (fun m => { m with claimed := [1, 2, 3] })
def wt (f : Wit → Wit) : State := V.modWit f
def wo (f : WitRing → WitRing) (s : State) : State := s.modWit (fun w => { w with rings := w.rings.set 15 (f { st := .opened, base := 0x400000400000, len := 0x400000, produced := 64, bounds := [64], eseq := 1, prev := List.replicate 64 1, prevSeal := List.replicate 64 0 }) })
def it : ItemHeld := { fetch := some default }
def big : ItemHeld := { dec := some { (default : DItem) with rlen := 98304 } }
def ce (w : Nat) : List Byte := List.replicate 0x28 0 ++ le 4 7 ++ le 4 0x3F800000 ++ List.replicate 14 0 ++ le 1 w ++ le 1 0
def cp (w : Nat) : WitCpl := { ring := 5, entry := ce w, tb := 89999999 }
def HC (w : Nat) (s : State) : State := rg 5 { owner := 11 } (s.modRings (fun r => { r with witHeld := [{ cp 0 with tb := 90000000, ring := 4 }, cp w] }))
def ce1 : List Byte := List.replicate 0x28 0 ++ le 4 7 ++ le 4 0x3F800000 ++ le 4 0 ++ le 2 0 ++ le 2 9 ++ le 2 0 ++ le 2 0 ++ le 2 3 ++ le 1 15 ++ le 1 0
def cw (t : Nat) : WitCpl := { ring := 5, entry := ce1, tb := t }
def HW (t : Nat) : State := rg 5 { owner := 11 } ((wo id V).modRings (fun r => { r with witHeld := [cw t] }))
def hr (t : Nat) : WitStalled := { (default : WitStalled) with since := t }
def en (k : Nat) : WitEntry := { kind := k, body := List.replicate 100 3 }
def EW (k : Nat) (f : WitRing → WitRing) : State := wo (fun g => f { g with buf := [en k] }) V
def wrap (g : WitRing) : WitRing := { g with produced := 0x400000 - 64 - 64, consumed := 0x400000 - 64 - 64 }
def SS (x : WitSign) : State := (wo id V).modWit (fun w => { w with signing := some x })
def IM (n : Nat) : State := V.modGw (fun g => { g with handoff := some (4, 0), imgReqs := [(4, 0, 40000000, n)] })
def H0 : ChaviHdr := { tag := 9 }
def PF (n : Nat) (b : List (Nat × List Byte)) : State := V.modSec (fun s => { s with offer := some (7, 1, [4, 5]), failRun := n, proofBuf := b })
def pb : List (Nat × List Byte) := (List.range 7).map (fun i => (4096 * i, List.replicate 4096 5))
def H1 : ChaviHdr := { tag := 9, enc := true, ctr := 5 }
def DS (n : Nat) : State := V.modSec (fun s => { s with session := 4, scope := BitVec.ofNat 3 n, ctrRx := some 4 })
def qq : Quote := { cmd := 6, resptr := 0x200000200000, body := [1, 2, 3] }
def at1 (f : Attn → Attn) : State := V.modAttn f
/-- The hypotheses of WitnessItemsRecordsAndSeals can be met, clause by clause. -/
theorem test_WitnessItemsRecordsAndSeals :
    (∃ (s : State) (i : Nat) (x : ItemHeld), s.wit.inbox[i]? = some x ∧ s.wit.late = [] ∧ itemBytes s + itemSize x ≤ 0x600000) ∧
    (∃ (s : State) (i : Nat) (x : ItemHeld), s.wit.inbox[i]? = some x ∧ s.wit.late = [] ∧ 0x600000 < itemBytes s + itemSize x) ∧
    (∃ (s : State) (i : Nat) (x : ItemHeld), s.wit.items[i]? = some x ∧ x.tb + 5000000 ≤ s.tb) ∧
    (∃ (s : State) (i : Nat) (x : ItemHeld), s.wit.items[i]? = some x ∧ s.tb < x.tb + 5000000) ∧
    (∃ (s : State) (i : Nat) (c : WitCpl), s.rings.witHeld[i]? = some c ∧ s.rings.up = true ∧ cplReady s c = true ∧ s.rings.witHeld.any (fun d => cplReady s d && cplBefore d c) = false ∧ 16 ≤ (trailerOf c.entry).wring ∧ s.wit.rings.length = 16) ∧
    (∃ (s : State) (i : Nat) (c : WitCpl), ∃ (w : Nat), s.rings.witHeld[i]? = some c ∧ s.rings.up = true ∧ cplReady s c = true ∧ s.rings.witHeld.any (fun d => cplReady s d && cplBefore d c) = false ∧ w = (trailerOf c.entry).wring ∧ w < 16 ∧ w < s.wit.rings.length ∧ (s.wring w).st ≠ .opened) ∧
    (∃ (s : State) (i : Nat) (c : WitCpl), ∃ w g, s.rings.witHeld[i]? = some c ∧ s.rings.up = true ∧ cplReady s c = true ∧ s.rings.witHeld.any (fun d => cplReady s d && cplBefore d c) = false ∧ w = (trailerOf c.entry).wring ∧ w < 16 ∧ w < s.wit.rings.length ∧ (s.wring w).st = .opened ∧ s.ring c.ring = some g) ∧
    (∃ (s : State) (i : Nat) (c : WitCpl), s.rings.witHeld[i]? = some c ∧ s.rings.up = true ∧ cplReady s c = false ∧ c.tb + 5000 ≤ s.tb) ∧
    (∃ (s : State) (i : Nat) (c : WitCpl), s.rings.witHeld[i]? = some c ∧ s.rings.up = true ∧ cplReady s c = false ∧ s.tb < c.tb + 5000) ∧
    (∃ (s : State) (w : Nat) (x : WitStalled) (l : List WitStalled), (s.wring w).heldRecs = x :: l ∧ w < s.wit.rings.length ∧ x.since + 5000000 ≤ s.tb) ∧
    (∃ (s : State) (w : Nat) (x : WitStalled) (l : List WitStalled), (s.wring w).heldRecs = x :: l ∧ w < s.wit.rings.length ∧ s.tb < x.since + 5000000) ∧
    (∃ (s : State) (w : Nat) (e : WitEntry) (g : WitRing), g = s.wring w ∧ w < s.wit.rings.length ∧ nextEntry s w = some e ∧ g.st ≠ .failed ∧ entryFits g e.elen (if e.kind = 3 then 50048 else 50048 + 128) = true ∧ pathUsable s g.base = true ∧ (putEntry w (e.bytes w g) s).1 = .ok) ∧
    (∃ (s : State) (w : Nat), nextEntry s w = none) ∧
    (∃ (s : State) (w : Nat), (s.wring w).st = .opened ∧ 0 < (s.wring w).sinceSeal ∧ s.wit.signing = none ∧ s.wit.sealQueue = [] ∧ (s.wring w).sealTb + 50000000 ≤ s.tb) ∧
    (∃ (s : State) (w : Nat), (s.wring w).st = .opened ∧ 0 < (s.wring w).sinceSeal ∧ s.wit.signing = none ∧ s.wit.sealQueue = [] ∧ s.tb < (s.wring w).sealTb + 50000000) ∧
    (∃ (s : State) (x : WitSign), s.wit.signing = some x ∧ x.ring < s.wit.rings.length ∧ entryFits (s.wring x.ring) 50048 0 = true ∧ pathUsable s (s.wring x.ring).base = true ∧ (putEntry x.ring (sealHead s x ++ Config.slhSign s.fuse.seed (sealHead s x)) s).1 = .ok) ∧
    (∃ (s : State), s.wit.signing = none) :=
  ⟨⟨wt (fun w => { w with inbox := [it, it] }), 1, it, by decide +kernel⟩,
   ⟨wt (fun w => { w with inbox := [it, big] }), 1, big, by decide +kernel⟩,
   ⟨wt (fun w => { w with items := [it, { it with tb := 85000000 }] }), 1, { it with tb := 85000000 }, by decide +kernel⟩,
   ⟨wt (fun w => { w with items := [it, { it with tb := 85000001 }] }), 1, { it with tb := 85000001 }, by decide +kernel⟩,
   ⟨HC 16 V, 1, cp 16, by decide +kernel⟩,
   ⟨HC 15 V, 1, cp 15, 15, by decide +kernel⟩,
   ⟨HC 15 (wo (fun g => { g with pred := 1, thr := 0x3F000000 }) V), 1, cp 15, 15, { owner := 11 }, by decide +kernel⟩,
   ⟨HW 89995000, 0, cw 89995000, by decide +kernel⟩,
   ⟨HW 89995001, 0, cw 89995001, by decide +kernel⟩,
   ⟨wo (fun g => { g with heldRecs := [hr 85000000, hr 3] }) V, 15, hr 85000000, [hr 3], by decide +kernel⟩,
   ⟨wo (fun g => { g with heldRecs := [hr 85000001, hr 3] }) V, 15, hr 85000001, [hr 3], by decide +kernel⟩,
   ⟨EW 1 id, 15, en 1, (EW 1 id).wring 15, by decide +kernel⟩,
   ⟨V, 15, by decide +kernel⟩,
   ⟨wo (fun g => { g with sinceSeal := 1, sealTb := 40000000 }) V, 15, by decide +kernel⟩,
   ⟨wo (fun g => { g with sinceSeal := 1, sealTb := 40000001 }) V, 15, by decide +kernel⟩,
   ⟨SS { ring := 15, last := some 0 }, { ring := 15, last := some 0 }, by decide +kernel⟩,
   ⟨V, by decide +kernel⟩⟩

/-- The hypotheses of ImagesSessionsAndDebug can be met, clause by clause. -/
theorem test_ImagesSessionsAndDebug :
    (∃ (s : State) (i o n tk : Nat) (l : List Byte), linkUp s = true ∧ gwServes s = true ∧ s.gw.handoff = some (i, 0) ∧ s.gw.imgReqs = [(i, o, tk, n)] ∧ l ≠ [] ∧ l.length ≤ 4096) ∧
    (∃ (s : State) (i o n tk : Nat) (l : List Byte), linkUp s = true ∧ gwServes s = true ∧ s.gw.handoff = some (i, 0) ∧ s.gw.imgReqs = [(i, o, tk, n)]) ∧
    (∃ (s : State) (i o n tk : Nat) (l : List Byte), linkUp s = true ∧ gwServes s = true ∧ s.gw.handoff = some (i, 0) ∧ s.gw.imgReqs = [(i, o, tk, n)] ∧ tk + 50000000 ≤ s.tb ∧ n < 3) ∧
    (∃ (s : State) (i o n tk : Nat) (l : List Byte), linkUp s = true ∧ gwServes s = true ∧ s.gw.handoff = some (i, 0) ∧ s.gw.imgReqs = [(i, o, tk, n)] ∧ tk + 50000000 ≤ s.tb ∧ 3 ≤ n) ∧
    (∃ (s : State) (i o n tk : Nat) (l : List Byte), linkUp s = true ∧ gwServes s = true ∧ s.gw.handoff = some (i, 0) ∧ s.gw.imgReqs = [(i, o, tk, n)] ∧ s.tb < tk + 50000000) ∧
    (∃ (s : State) (i o : Nat) (a : Bool) (l : List Byte), s.gw.imgReqs = []) ∧
    (∃ (s : State) (h : ChaviHdr) (o : Nat) (l : List Byte), linkUp s = true ∧ clearFront h = .ok ∧ fragFits 1632 1632 o l = true ∧ helloShut s = true ∧ s.sec.session = 0) ∧
    (∃ (s : State) (h : ChaviHdr) (o : Nat) (l : List Byte), linkUp s = true ∧ clearFront h = .ok ∧ fragFits 1632 1632 o l = true ∧ helloShut s = false ∧ s.sec.helloBuf = [] ∧ l.length < 1632) ∧
    (∃ (s : State) (h : ChaviHdr) (o : Nat) (l : List Byte), linkUp s = true ∧ clearFront h = .ok ∧ fragFits 1632 1632 o l = true ∧ helloShut s = false ∧ s.sec.helloBuf = [] ∧ o = 0 ∧ l.length = 1632 ∧ field l 32 1 < s.gw.nhkey) ∧
    (∃ (s : State) (m : List Byte), s.sec.hello = some (0, m) ∧ linkUp s = true ∧ s.sec.session = 0) ∧
    (∃ (s : State), s.sec.hello = none) ∧
    (∃ (s : State) (h : ChaviHdr) (o no k : Nat) (t1 l : List Byte), linkUp s = true ∧ s.sec.session = 0 ∧ clearFront h = .ok ∧ fragFits 29792 29792 o l = true ∧ s.sec.offer = some (no, k, t1) ∧ assembled 29792 (mset s.sec.proofBuf o l) = none) ∧
    (∃ (s : State) (h : ChaviHdr) (o no k : Nat) (t1 l : List Byte), ∃ g, linkUp s = true ∧ s.sec.session = 0 ∧ clearFront h = .ok ∧ fragFits 29792 29792 o l = true ∧ s.sec.offer = some (no, k, t1) ∧ assembled 29792 (mset s.sec.proofBuf o l) = some g) ∧
    (∃ (s : State) (d : Nat), s.sec.lockUntil = some d ∧ d ≤ s.tb) ∧
    (∃ (s : State) (d : Nat), s.sec.lockUntil = some d ∧ s.tb < d) ∧
    (∃ (s : State) (b : Bool), alive s = true ∧ s.sec.noiseFail ≠ b) ∧
    (∃ (s : State) (b : Bool), s.sec.noiseFail = b) ∧
    (∃ (s : State) (h : ChaviHdr) (a n d u loc : Nat) (l : List Byte), SecureLink s h ∧ dbgFits a n = true ∧ mgmtPlace a = .device d ∧ place s d = .mem u loc ∧ s.sec.scope.getLsbD 0 = true ∧ accessCode s false d n = .ok) ∧
    (∃ (s : State) (h : ChaviHdr) (a n d u loc : Nat) (l : List Byte), SecureLink s h ∧ dbgFits a n = true ∧ mgmtPlace a = .device d ∧ place s d = .mem u loc ∧ s.sec.scope.getLsbD 1 = true ∧ l.length = n ∧ accessCode s true d n = .ok) ∧
    (∃ (s : State) (h : ChaviHdr) (a n d u loc : Nat) (l : List Byte), SecureLink s h ∧ dbgFits a n = true ∧ mgmtPlace a = .device d ∧ place s d = .mem u loc ∧ s.sec.scope.getLsbD 0 = false) ∧
    (∃ (s : State) (h : ChaviHdr) (a : Nat) (l : List Byte), PlainLink s h) ∧
    (∃ (s : State) (q : Quote) (l : List Quote), s.sec.quotes = q :: l ∧ gwServes s = true ∧ s.sec.hello = none) ∧
    (∃ (s : State), s.sec.quotes = []) :=
  ⟨⟨IM 2, 4, 0, 2, 40000000, [1, 2, 3], by decide +kernel⟩,
   ⟨IM 2, 4, 0, 2, 40000000, [], by decide +kernel⟩,
   ⟨IM 2, 4, 0, 2, 40000000, [], by decide +kernel⟩,
   ⟨IM 3, 4, 0, 3, 40000000, [], by decide +kernel⟩,
   ⟨at_ 89999999 (IM 3), 4, 0, 3, 40000000, [], by decide +kernel⟩,
   ⟨V, 4, 0, false, [3], by decide +kernel⟩,
   ⟨V.modSec (fun s => { s with lockUntil := some 5 }), H0, 0, [1, 2], by decide +kernel⟩,
   ⟨V.modSec (fun s => { s with session := 4 }), H0, 0, [1, 2], by decide +kernel⟩,
   ⟨V.modGw (fun g => { g with nhkey := 2 }), H0, 0, List.replicate 1632 1, by decide +kernel⟩,
   ⟨V.modSec (fun s => { s with hello := some (0, List.replicate 1632 1), nextSession := 4095 }), List.replicate 1632 1, by decide +kernel⟩,
   ⟨V, by decide +kernel⟩,
   ⟨PF 0 [], H0, 0, 7, 1, [4, 5], [1, 2], by decide +kernel⟩,
   ⟨PF 4 pb, H0, 28672, 7, 1, [4, 5], List.replicate 1120 5, (List.replicate 29792 5), by decide +kernel⟩,
   ⟨V.modSec (fun s => { s with lockUntil := some 90000000 }), 90000000, by decide +kernel⟩,
   ⟨V.modSec (fun s => { s with lockUntil := some 90000001 }), 90000001, by decide +kernel⟩,
   ⟨V, true, by decide +kernel⟩,
   ⟨V, false, by decide +kernel⟩,
   ⟨DS 3, H1, 2^63 + 0x200000400000, 64, 0x200000400000, 0, 0x400000, [], by decide +kernel⟩,
   ⟨DS 3, H1, 2^63 + 0x200000400000, 64, 0x200000400000, 0, 0x400000, List.replicate 64 9, by decide +kernel⟩,
   ⟨DS 2, H1, 2^63 + 0x200000400000, 64, 0x200000400000, 0, 0x400000, List.replicate 64 9, by decide +kernel⟩,
   ⟨V, H0, 2^63 + 0x200000400000, List.replicate 64 9, by decide +kernel⟩,
   ⟨(V.modSec (fun s => { s with quotes := [qq, { qq with cmd := 7 }] })).modGw (fun g => { g with cmds := [{ id := 6, opcode := 0xA01, wait := wQuote, arg := 6, chan := 20, rchan := 21, ctag := 8 }, { id := 7, wait := wQuote, arg := 7 }] }), qq, [{ qq with cmd := 7 }], by decide +kernel⟩,
   ⟨V, by decide +kernel⟩⟩

/-- The hypotheses of RegistersAndReturningUnits can be met, clause by clause. -/
theorem test_RegistersAndReturningUnits :
    (∃ (s : State) (n : Nat), alive s = true) ∧
    (∃ (s : State), alive s = true) ∧
    (∃ (s : State), alive s = true) ∧
    (∃ (s : State) (r : Nat), ∃ k, r < 12 ∧ r < s.rows.length ∧ rowRuns s r = true ∧ (s.row r).st = .active ∧ k < 4 ∧ k < (s.row r).tiles.length) ∧
    (∃ (s : State) (r : Nat), r < 12 ∧ r < s.rows.length ∧ rowRuns s r = true ∧ (s.row r).st = .active) ∧
    (∃ (s : State) (r : Nat), alive s = true ∧ r < 12) ∧
    (∃ (s : State) (n : Nat), alive s = true ∧ n < 16 ∧ n < s.wit.rings.length) ∧
    (∃ (s : State) (a b v : Nat), alive s = true ∧ a % 8 = 0 ∧ b < 9 ∧ b < s.attn.cause.length ∧ mgmtPlace a = .spine (0x150 + 8 * b)) ∧
    (∃ (s : State) (a r o v : Nat), alive s = true ∧ a % 8 = 0 ∧ mgmtPlace a = .row r o ∧ rowRuns s r = false ∧ rowIsDark s r = true) ∧
    (∃ (s : State) (a v : Nat), a % 8 ≠ 0) ∧
    (∃ (s : State) (d : Nat), s.attn.lowSince = some d ∧ summary s = 0 ∧ d + 5000 ≤ s.tb) ∧
    (∃ (s : State) (d : Nat), s.attn.lowSince = some d ∧ summary s = 0 ∧ s.tb < d + 5000) ∧
    (∃ (s : State), s.attn.deferred = true ∧ linkUp s = true ∧ attnSpaced s = false ∧ s.sec.session = 0 ∧ summary s ≠ s.attn.lastSent) ∧
    (∃ (s : State), s.attn.deferred = false) ∧
    (∃ (s : State) (d : Nat), alive s = true ∧ d < 16 ∧ 8 + d < s.mem.units.length ∧ (s.memUnit (8 + d)).st = .inService) ∧
    (∃ (s : State) (d : Nat), (s.memUnit (8 + d)).st = .failed) ∧
    (∃ (s : State) (p : Nat), alive s = true ∧ p < s.fab.ports.length ∧ portFitted s p = true ∧ nth s.power.presentN p = false ∧ bridgeUp s (portBridge p) = true ∧ s.boot.st = .ready ∧ (s.port p).st ≠ .retraining ∧ (s.port p).st ≠ .absent) ∧
    (∃ (s : State) (b : Nat) (l : List CardTest), alive s = true ∧ b < 2 ∧ b < s.fab.bridges.length ∧ ((s.bridge b).inReset = true ∨ (s.bridge b).out = true) ∧ bridgePowered s b = true) ∧
    (∃ (s : State) (b : Nat) (l : List CardTest), (s.bridge b).inReset = false ∧ (s.bridge b).out = false) ∧
    (∃ (s : State) (r : Nat) (v : Int), r ∈ s.clk.recalRows ∧ rowRuns s r = true ∧ s.clk.pend = false) ∧
    (∃ (s : State) (r d : Nat) (v : Int), s.clk.recalSensors = some d ∧ d + 4000000 ≤ s.tb) ∧
    (∃ (s : State) (r d : Nat) (v : Int), s.clk.recalSensors = some d ∧ s.tb < d + 4000000) :=
  ⟨⟨at1 (fun a => { a with cause := [1, 2, 3, 1, 1, 1, 1, 1, 1], lastRec := [3, 4, 5, 6, 7, 8, 0, 1, 2] }), 5, by decide +kernel⟩,
   ⟨at_ (2^40 + 7) V, by decide +kernel⟩,
   ⟨(at_ (2^40 + 7) V).modClk (fun c => { c with tbHiLatch := some 3 }), by decide +kernel⟩,
   ⟨tl 11 3 { planesRun := 5, planesSkip := 7 } V, 11, 3, by decide +kernel⟩,
   ⟨rw_ 11 (fun w => { w with hiwat := 4, fullSeen := true }) V, 11, by decide +kernel⟩,
   ⟨V.modClk (fun c => { c with rowCnt := List.replicate 12 { chold := 4 } }), 11, by decide +kernel⟩,
   ⟨V.modWit (fun w => { w with rings := List.replicate 16 { captured := 3, dropped := 5, itemsLost := 9 } }), 15, by decide +kernel⟩,
   ⟨at1 (fun a => { a with cause := List.replicate 9 0x3F }), 0x1000000190, 8, 5, by decide +kernel⟩,
   ⟨rw_ 11 (fun w => { w with st := .dark }) V, 2^28 + 0x1000000000 + 11 * 65536, 11, 0, 5, by decide +kernel⟩,
   ⟨V, 12, 5, by decide +kernel⟩,
   ⟨at1 (fun a => { a with lowSince := some 89995000 }), 89995000, by decide +kernel⟩,
   ⟨at1 (fun a => { a with lowSince := some 89995001 }), 89995001, by decide +kernel⟩,
   ⟨at1 (fun a => { a with deferred := true, cause := List.replicate 9 1 }), by decide +kernel⟩,
   ⟨V, by decide +kernel⟩,
   ⟨V, 15, by decide +kernel⟩,
   ⟨V.modMemUnit 23 (fun u => { u with st := .failed }), 15, by decide +kernel⟩,
   ⟨V.modPower (fun p => { p with presentN := p.presentN.set 11 false }), 11, by decide +kernel⟩,
   ⟨V.modBridge 1 (fun x => { x with inReset := true, v1 := [(3, 4)], committed := [(5, 6)], act := true }), 1, [], by decide +kernel⟩,
   ⟨V, 1, [], by decide +kernel⟩,
   ⟨V.modClk (fun c => { c with recalRows := [3, 11] }), 11, -20, by decide +kernel⟩,
   ⟨V.modClk (fun c => { c with recalSensors := some 86000000 }), 11, 86000000, 3, by decide +kernel⟩,
   ⟨V.modClk (fun c => { c with recalSensors := some 86000001 }), 11, 86000001, 3, by decide +kernel⟩⟩

end W16

namespace W17

def V : State := at_ 900000 up
/-- The hypotheses of StepRunsTheFrontCommand can be met, clause by clause. -/
theorem test_StepRunsTheFrontCommand :
    (∃ (s : State), s.pending = [] ∧ s.chavi.waiting = [] ∧ s.rings.up = false ∧ s.gw.cmds = [] ∧ s.gw.waiting = [] ∧ s.clk.tbRunning = true) ∧
    (∃ (s : State) (n w : Nat), decodeTableWord n w = none) :=
  ⟨⟨V.modRings (fun r => { r with up := false }), by decide +kernel⟩,
   ⟨V, 3, 4, by decide +kernel⟩⟩

end W17

end Sys2Proof.Tests
end

section
/-! SUPPORT. The module and its connectors (02): what an update of one unit of a list reads back, and what the operations
shared by the commands of this chapter leave as it is. -/

namespace Sys2Proof.Machine

/-! A list of units after an update of one of them. -/

theorem nth_modify_self {α : Type} [Inhabited α] {l : List α} {i : Nat} (f : α → α) (h : i < l.length) :
    nth (l.modify i f) i = f (nth l i) := by
  simp [nth, h]

theorem nth_modify_of_ne {α : Type} [Inhabited α] (l : List α) {i j : Nat} (f : α → α) (h : j ≠ i) :
    nth (l.modify i f) j = nth l j := by
  simp [nth, h.symm]

theorem nth_mapIdx {α : Type} [Inhabited α] {l : List α} {k : Nat} (f : Nat → α → α) (h : k < l.length) :
    nth (l.mapIdx f) k = f k (nth l k) := by
  simp [nth, h]

theorem nth_replicate {α : Type} [Inhabited α] {n k : Nat} (x : α) (h : k < n) : nth (List.replicate n x) k = x := by
  simp [nth, h]

theorem nth_of_length_le {α : Type} [Inhabited α] {l : List α} {k : Nat} (h : l.length ≤ k) : nth l k = default := by
  simp [nth, h]

/-- A position that the function leaves alone holds what it held, inside the list or not. -/
theorem nth_mapIdx_fixed {α : Type} [Inhabited α] (l : List α) {k : Nat} {f : Nat → α → α} (h : ∀ x, f k x = x) :
    nth (l.mapIdx f) k = nth l k := by
  by_cases hk : k < l.length
  · rw [nth_mapIdx f hk, h]
  · simp [nth, hk]

/-! What an error record leaves as it is: everything but the logger, the attention tree and the paths of its report. -/

theorem errRecord_keeps (x : Rec) (s : State) : Keeps [.fab, .chavi, .mbx, .gw, .err, .sec, .attn, .out] s (errRecord x s) :=
  (keeps_errRecord x s (List.Subset.refl _)).2 Keeps.rfl'

section
variable (x : Rec) (s : State)
@[simp] theorem errRecord_power : (errRecord x s).power = s.power := errRecord_keeps x s .power (by decide)
@[simp] theorem errRecord_clk : (errRecord x s).clk = s.clk := errRecord_keeps x s .clk (by decide)
@[simp] theorem errRecord_tb : (errRecord x s).tb = s.tb := congrArg Clk.tb (errRecord_clk x s)
@[simp] theorem errRecord_fuse : (errRecord x s).fuse = s.fuse := errRecord_keeps x s .fuse (by decide)
@[simp] theorem errRecord_eeprom : (errRecord x s).eeprom = s.eeprom := errRecord_keeps x s .eeprom (by decide)
@[simp] theorem errRecord_dmap : (errRecord x s).dmap = s.dmap := errRecord_keeps x s .dmap (by decide)
@[simp] theorem errRecord_mem : (errRecord x s).mem = s.mem := errRecord_keeps x s .mem (by decide)
@[simp] theorem errRecord_flash : (errRecord x s).flash = s.flash := errRecord_keeps x s .flash (by decide)
@[simp] theorem errRecord_fresh : (errRecord x s).fresh = s.fresh := errRecord_keeps x s .fresh (by decide)
@[simp] theorem errRecord_pending : (errRecord x s).pending = s.pending := errRecord_keeps x s .pending (by decide)
end

end Sys2Proof.Machine
end

section
/-! PROOFS. The state after reset (02 R40; 03 R75; 05 R116; 12 R305). -/

namespace Sys2Proof.Machine

/-- Every row of the module after reset is empty, those it does not have included. -/
theorem reset_row_empty (r : Nat) : (State.reset.row r).scb = [] ∧ (State.reset.row r).progs = [] := by
  by_cases h : r < 12
  · have e : State.reset.row r = {} := nth_replicate ({} : Row) h
    rw [e]
    exact ⟨rfl, rfl⟩
  · have e : State.reset.row r = default := nth_of_length_le (List.length_replicate.trans_le (Nat.le_of_not_lt h))
    rw [e]
    exact ⟨rfl, rfl⟩

/-- Memory with no byte listed reads as 0 everywhere (log 8). -/
theorem memRead_of_no_cells {s : State} (h : s.mem.cells = []) (a n : Nat) : memRead s a n = List.replicate n 0 := by
  simp [memRead, h, cellRead, mget, List.map_const']

/-- Settles O59: each field has its reset value; the rows and the memory are empty wherever one looks. -/
theorem resetLeavesTheModuleUnstarted : Obligations.ResetLeavesTheModuleUnstarted :=
  ⟨reset_inv, rfl, rfl, rfl, rfl, rfl, List.length_replicate, reset_row_empty, rfl, rfl, rfl, rfl,
    memRead_of_no_cells rfl⟩

end Sys2Proof.Machine
end

section
/-! PROOFS. Trips, MRST_N and the event records (02). -/

namespace Sys2Proof.Machine

/-! Trips (02 R27 to R33). -/

/-- From a trip on, nothing that asks whether the module is alive acts (02 R33). -/
theorem alive_eq_false_of_trip {s : State} {i : TripInfo} (h : s.power.trip = some i) : alive s = false := by
  simp [alive, h]

theorem gwCommand_of_not_alive {s : State} (h : alive s = false) (c : Instr) (hd : CmdHdr) (op : Nat) (sec : Bool) (need o : Nat)
    (body : State → Done) : gwCommand c hd op sec need o body s = .next s := by
  unfold gwCommand
  rw [if_pos h]

theorem chaviReq_of_not_alive {s : State} (h : alive s = false) (hd : ChaviHdr) (arg n : Nat) (go : State → State) :
    chaviReq hd arg n go s = .next s := by
  unfold chaviReq linkUp
  rw [if_pos (by simp [h])]

theorem ringBell_of_trip {s : State} {i : TripInfo} (h : s.power.trip = some i) (path : BellPath) (word : Nat) :
    ringBell path word s = .next s := by
  cases path with
  | chavi hd => exact chaviReq_of_not_alive (alive_eq_false_of_trip h) ..
  | fabric port p => simp [ringBell, h]

/-- Every command of Gwynpin goes through its front door; the doorbells have their own. -/
theorem exec_cmdOrBell_of_trip {s : State} {i : TripInfo} (h : s.power.trip = some i) (c : Instr) (hc : cmdOrBell c = true) :
    exec c s = .next s := by
  have ha := alive_eq_false_of_trip h
  cases c <;> simp only [cmdOrBell, Bool.false_eq_true] at hc
  case reqTail => exact ringBell_of_trip h ..
  case reqAdd => exact ringBell_of_trip h ..
  case cplHead => exact ringBell_of_trip h ..
  case powerCap =>
    simp only [exec, execPowerCap]
    exact gwCommand_of_not_alive ha ..
  all_goals
    simp only [exec]
    exact gwCommand_of_not_alive ha ..

theorem execMrstNAssert_of_not_alive {s : State} (h : alive s = false) (ns : Nat) : execMrstNAssert ns s = .next s := by
  unfold execMrstNAssert
  rw [if_pos h]

/-- Settles O2: a module that has tripped is not alive, and each of these commands asks for that first. -/
theorem tripIgnoresResetAndCommands : Obligations.TripIgnoresResetAndCommands := by
  intro s i h
  have ha := alive_eq_false_of_trip h
  refine ⟨fun ns => execMrstNAssert_of_not_alive ha ns, ?release, ?coldStart, exec_cmdOrBell_of_trip h, fun mac ch msg => ?j3Send,
    fun hd ch msg => chaviReq_of_not_alive ha ..⟩
  case release => simp [exec, execMrstNRelease, h]
  case coldStart =>
    show execColdBringUpStart s = _
    unfold execColdBringUpStart
    split
    · exact if_neg (by simp [h])
    · rfl
  case j3Send => simp [exec, execJ3Send, ha]

/-! What a loss of the rails leaves as it was, and what of the rows and the rails it leaves (02 R31, R37). -/

section
variable (s : State)
@[simp] theorem railsDown_fuse : (railsDown s).fuse = s.fuse := rfl
@[simp] theorem railsDown_records : (railsDown s).eeprom.records = s.eeprom.records := rfl
@[simp] theorem railsDown_flashRows : (railsDown s).flash.rows = s.flash.rows := rfl
@[simp] theorem railsDown_dmap : (railsDown s).dmap = s.dmap := rfl
@[simp] theorem railsDown_fresh : (railsDown s).fresh = s.fresh := rfl
@[simp] theorem railsDown_pending : (railsDown s).pending = s.pending := rfl
end

theorem reset_row_off {w : Row} (h : w ∈ State.reset.rows) : w.st = .off ∧ w.scb = [] := by
  have e : w = {} := List.eq_of_mem_replicate h
  rw [e]
  exact ⟨rfl, rfl⟩

/-- Of a list of rails of which some go down, those that do are out of regulation. -/
theorem rail_down {l : List Rail} {k : Nat} {p : Nat → Prop} [DecidablePred p] (h : k < l.length) (hp : ¬ p k) :
    (nth (l.mapIdx (fun i x => if p i then x else {})) k).inReg = false := by
  rw [nth_mapIdx _ h, if_neg hp]

theorem rail_kept (l : List Rail) {k : Nat} {p : Nat → Prop} [DecidablePred p] (hp : p k) :
    nth (l.mapIdx (fun i x => if p i then x else {})) k = nth l k :=
  nth_mapIdx_fixed l (fun _ => if_pos hp)

/-- Settles O1: the trip and the end of hold-up lose what the rails carried; the record and the stores they name are kept. -/
theorem inputTripTakesModuleDown : Obligations.InputTripTakesModuleDown := by
  refine ⟨fun s cause vin iin ht hd => ?trip, fun s i hi hl => ?dark, fun s hd ho => ?close, fun s hs => ?softStart⟩
  case trip =>
    have untripped : ¬ (s.power.trip.isSome ∨ s.power.dark = true) := by simp [ht, hd]
    simp only [exec, execInputTrip, if_neg untripped]
    refine ⟨_, rfl, rfl, rfl, fun k hk hl => ?down, fun k hk => ?kept, rfl, rfl, rfl, rfl, fun w hw => reset_row_off hw, ?records, ?fuse,
      errRecord_tb _ s, ?flash, ?dmap, ?fresh, ?pending⟩
    case down =>
      simp only [errRecord_power]
      exact rail_down (p := (8 ≤ ·)) hl (Nat.not_le.2 hk)
    case kept =>
      simp only [errRecord_power]
      exact rail_kept (p := (8 ≤ ·)) _ hk
    all_goals simp
  case dark =>
    simp only [exec, execHoldUpEnd, hi, if_pos hl]
    refine ⟨_, rfl, rfl, rfl, fun x hx => ?_, rfl, rfl, rfl, rfl, rfl, rfl, rfl⟩
    rw [List.eq_of_mem_replicate hx]
  case close => exact if_pos ⟨hd, ho⟩
  case softStart => exact if_pos hs

/-! MRST_N (02 R36 to R38). -/

/-- The module while MRST_N is low (02 R37). -/
def mrstReset (s : State) : State :=
  { railsDown s with
    power := { (railsDown s).power with mrstLow := true, inputSw := s.power.inputSw }
    attn := { (railsDown s).attn with hiZ := true } }

theorem execMrstNAssert_of_long {s : State} {ns : Nat} (ha : alive s = true) (h : 1000 ≤ ns) :
    execMrstNAssert ns s = .next (mrstReset s) := by
  have hw : ¬ (500 ≤ ns ∧ ns < 1000) := by omega
  simp only [execMrstNAssert, ha, Bool.true_eq_false, if_false, if_neg hw, h, true_or, if_true, mrstReset]

theorem execMrstNAssert_of_short (s : State) {ns : Nat} (h : ns < 500) : execMrstNAssert ns s = .next s := by
  have hw : ¬ (500 ≤ ns ∧ ns < 1000) := by omega
  have hr : ¬ (1000 ≤ ns ∨ 500 ≤ ns ∧ s.draw.1 % 2 = 1) := by omega
  simp only [execMrstNAssert, if_neg hw, if_neg hr, ite_self]

/-- In the window in which either may happen, a free value decides (log 11). -/
theorem execMrstNAssert_of_between {s : State} {ns : Nat} (ha : alive s = true) (lo : 500 ≤ ns) (hi : ns < 1000) :
    execMrstNAssert ns s = .next (if s.draw.1 % 2 = 1 then mrstReset s.draw.2 else s.draw.2) := by
  have hn : ¬ 1000 ≤ ns := by omega
  simp only [execMrstNAssert, ha, Bool.true_eq_false, if_false, lo, hi, hn, true_and, false_or, and_self, if_true, mrstReset]
  split <;> rfl

/-- Settles O3: a low is long, short, or in the window in which a drawn value decides between these two. -/
theorem mrstResetsTheModule : Obligations.MrstResetsTheModule := by
  refine ⟨fun s ns ha hns => ?long, fun s ns hns => execMrstNAssert_of_short s hns, fun s ns ha lo hi => ?between,
    fun s hm ht => if_pos ⟨hm, ht⟩, fun s n hb hn hm ht => ?coldStart⟩
  case long =>
    exact ⟨mrstReset s, execMrstNAssert_of_long ha hns, rfl, rfl, rfl, rfl, fun k hk hl => rail_down (p := (· = 10)) hl hk,
      rail_kept (p := (· = 10)) _ rfl, rfl, rfl, rfl, rfl, rfl, rfl, rfl, rfl⟩
  case between =>
    have drawn : exec (.mrstNAssert ns) s = _ := execMrstNAssert_of_between ha lo hi
    have reset : exec (.mrstNAssert 1000) s.draw.2 = .next (mrstReset s.draw.2) := execMrstNAssert_of_long ha (Nat.le_refl _)
    by_cases odd : s.draw.1 % 2 = 1
    · exact .inr (by rw [drawn, if_pos odd]; exact reset.symm)
    · exact .inl (by rw [drawn, if_neg odd]; rfl)
  case coldStart =>
    simp only [exec, execColdBringUpStart, hb]
    exact if_pos ⟨hn, hm, ht⟩

/-! Event records (02 R28, R58 to R61). -/

/-- Settles O4, by the state of the bus arbitration and the number of retries made. -/
theorem eventRecordsWrittenInIndexOrder : Obligations.EventRecordsWrittenInIndexOrder := by
  refine ⟨fun s i hd ha => ⟨?write, ?lost⟩, fun s i k n hd ha hn => ⟨?retry, fun hk => ?again, fun hk => ?abandoned⟩,
    fun s vin ha hc hv => if_pos ⟨ha, hc, hv⟩, fun s vin lo hi => if_neg ?inRange⟩
  case write => simp [exec, execPlatformEventRecordWrite, hd, ha, writeEvent, State.modEeprom]
  case lost => simp [exec, execPlatformEventRecordWrite, hd, ha, State.modEeprom]
  case retry => simp [exec, execEepromArbitrationRetry, hd, ha, Nat.not_lt.2 hn, writeEvent, State.modEeprom]
  case again =>
    have more : k + 1 < 5 := by omega
    simp [exec, execEepromArbitrationRetry, ha, Nat.not_lt.2 hn, more, State.modEeprom]
  case abandoned =>
    have spent : ¬ k + 1 < 5 := by omega
    simp [exec, execEepromArbitrationRetry, hd, ha, Nat.not_lt.2 hn, spent, State.modEeprom]
  case inRange => omega

end Sys2Proof.Machine
end

section
/-! PROOFS. The slot and bay switches (02 R43 to R49). -/

namespace Sys2Proof.Machine

section
variable {s t : State} {i j : Nat}

/-! A switch after an update of one of them. -/

theorem sw_of_power (h : t.power = s.power) (j : Nat) : t.sw j = s.sw j := congrArg (fun p : Power => nth p.switches j) h

theorem sw_modSw_self (f : Switch → Switch) (h : i < s.power.switches.length) : (s.modSw i f).sw i = f (s.sw i) := nth_modify_self f h

theorem sw_modSw_of_ne (f : Switch → Switch) (h : j ≠ i) : (s.modSw i f).sw j = s.sw j := nth_modify_of_ne _ f h

@[simp] theorem modSw_switches_length (f : Switch → Switch) : (s.modSw i f).power.switches.length = s.power.switches.length :=
  List.length_modify ..

theorem switchFault_sw_self (h : i < s.power.switches.length) :
    (switchFault i s).sw i = { s.sw i with st := .fault, openAt := none } :=
  (sw_of_power (errRecord_power _ _) i).trans (sw_modSw_self _ h)

theorem switchFault_sw_of_ne (h : j ≠ i) : (switchFault i s).sw j = s.sw j :=
  (sw_of_power (errRecord_power _ _) j).trans (sw_modSw_of_ne _ h)

theorem switchOff_sw_self (h : i < s.power.switches.length) : (switchOff i s).sw i = { s.sw i with st := .off, openAt := none } :=
  sw_modSw_self _ h

theorem switchOff_sw_of_ne (h : j ≠ i) : (switchOff i s).sw j = s.sw j := sw_modSw_of_ne _ h

theorem switchFault_mem (i : Nat) (s : State) : (switchFault i s).mem = s.mem := errRecord_mem ..

/-! What the unit behind a switch does when it fails: the switches keep their states. -/

theorem memUnitFail_power (u reason : Nat) (s : State) : (memUnitFail u reason s).power = s.power :=
  (keeps_memUnitFail u reason s (List.Subset.refl _)).2 Keeps.rfl' .power (by decide)

theorem cardFail_power (c reason : Nat) (s : State) : (cardFail c reason s).power = s.power :=
  (keeps_cardFail c reason s (List.Subset.refl _)).2 Keeps.rfl' .power (by decide)

theorem failBatches_power (p : Nat → Bool) (s : State) : (failBatches p s).power = s.power :=
  (keeps_failBatches p s (List.Subset.refl _)).2 Keeps.rfl' .power (by decide)

/-- The switch latches FAULT whatever happens to its channel or card, and the other switches keep their states. -/
theorem faulted_of_power (h : i < s.power.switches.length) (e : t.power = (switchFault i s).power) :
    (t.sw i).st = .fault ∧ ∀ j, j ≠ i → t.sw j = s.sw j :=
  ⟨by rw [sw_of_power e, switchFault_sw_self h], fun j hj => (sw_of_power e j).trans (switchFault_sw_of_ne hj)⟩

/-! A channel or a card that fails. -/

theorem mapUnits_mem (us : List Nat) (s : State) : (mapUnits us s).mem = s.mem :=
  (keeps_mapUnits us s (List.Subset.refl _)).2 Keeps.rfl' .mem (by decide)

theorem mapCheck_mem (s : State) : (mapCheck s).mem = s.mem :=
  (keeps_mapCheck s (List.Subset.refl _)).2 Keeps.rfl' .mem (by decide)

/-- What a stack or channel that leaves service changes in the memory (12 R331). -/
theorem memUnitFail_mem (u reason : Nat) (s : State) : (memUnitFail u reason s).mem = { s.mem with
    lostUnits := addNew s.mem.lostUnits u
    remap := s.mem.remap.filter (fun p => p.1 / 65536 != u || (decide (8 ≤ u) && p.2.unit != u))
    units := s.mem.units.modify u (fun x => { x with st := .failed, outReason := reason, moving := [] }) } := by
  unfold memUnitFail
  rw [errRecord_mem, mapCheck_mem, mapUnits_mem]
  rfl

theorem memUnitFail_unit_failed {u : Nat} (reason : Nat) (h : u < s.mem.units.length) : ((memUnitFail u reason s).memUnit u).st = .failed := by
  rw [State.memUnit, memUnitFail_mem, nth_modify_self _ h]

theorem mem_addNew_self (l : List Nat) (x : Nat) : x ∈ addNew l x := by
  unfold addNew
  split
  · next h => simpa using h
  · simp

theorem memUnitFail_lostUnits (u reason : Nat) (s : State) : u ∈ (memUnitFail u reason s).mem.lostUnits := by
  rw [memUnitFail_mem]
  exact mem_addNew_self ..

/-- A page of a unit that failed is LOST where no entry of its own stands for it (12 R331). -/
theorem pageEnt_lost {k : Nat} (hk : mget s.mem.remap k = none) (hu : k / 65536 ∈ s.mem.lostUnits) : (pageEnt s k).st = .lost := by
  simp [pageEnt, hk, hu]

theorem failBatches_cards (p : Nat → Bool) (s : State) : (failBatches p s).flash.cards = s.flash.cards := by
  have k : Keeps [.mem, .fab, .chavi, .mbx, .gw, .sec, .out] (rollBack p s) (failBatches p s) := by simp [failBatches]
  have f : (failBatches p s).flash = (rollBack p s).flash := k .flash (by decide)
  rw [f]
  rfl

theorem mapCards_flash (s : State) : (mapCards s).flash = s.flash :=
  (keeps_mapCards s (List.Subset.refl _)).2 Keeps.rfl' .flash (by decide)

theorem cardFail_card_failed {c : Nat} (reason : Nat) (h : c < s.flash.cards.length) : ((cardFail c reason s).card c).st = .failed := by
  have e : (cardFail c reason s).flash.cards = s.flash.cards.modify c (fun x => { x with st := .failed }) := by
    unfold cardFail cardRecord
    rw [errRecord_flash, failBatches_cards, mapCards_flash]
    rfl
  rw [State.card, e, nth_modify_self _ h]

/-! What the commands do to the switches, as far as they go on. -/

theorem execSwitchSoftStartTimeout_late (hs : (s.sw i).st = .starting)
    (hlate : (s.sw i).startedAt + (if i < 16 then 250000 else 500000) < s.tb) :
    ∃ t, execSwitchSoftStartTimeout i s = .next t ∧ t.power = (switchFault i s).power := by
  unfold execSwitchSoftStartTimeout
  rw [if_pos ⟨hs, hlate⟩]
  dsimp only
  split
  · exact ⟨_, rfl, rfl⟩
  · split
    · exact ⟨_, rfl, memUnitFail_power ..⟩
    · exact ⟨_, rfl, cardFail_power ..⟩

theorem execSwitchCurrentLimitLatch_powered (hs : (s.sw i).st = .starting ∨ (s.sw i).st = .on) :
    ∃ t, execSwitchCurrentLimitLatch i s = .next t ∧ t.power = (switchFault i s).power := by
  unfold execSwitchCurrentLimitLatch
  rw [if_pos hs]
  dsimp only
  split
  · exact ⟨_, rfl, memUnitFail_power ..⟩
  · exact ⟨_, rfl, cardFail_power ..⟩

/-- The latch of a bay whose switch is ON opens: the switch is to open 100 ms later, and the card takes no new program (02 R49). -/
theorem execBayLatchOpen_on {c : Nat} (hl : 16 + c < s.power.switches.length) (hs : (s.sw (16 + c)).st = .on)
    (ho : (s.sw (16 + c)).openAt = none) :
    ∃ t, execBayLatchOpen c s = .next t
      ∧ t.power = (s.modSw (16 + c) (fun w => { w with latchOpen := true, openAt := some (s.tb + 5000000) })).power
      ∧ t.flash.cards = s.flash.cards.modify c (fun x => { x with noWrites := true }) := by
  have on : ((s.modSw (16 + c) (fun w => { w with latchOpen := true })).sw (16 + c)).st = .on
      ∧ ((s.modSw (16 + c) (fun w => { w with latchOpen := true })).sw (16 + c)).openAt = none := by
    rw [sw_modSw_self _ hl]
    exact ⟨hs, ho⟩
  unfold execBayLatchOpen
  refine ⟨_, if_pos on, ?_, ?_⟩
  · rw [errRecord_power, failBatches_power]
    simp only [State.modCard, State.modSw, State.modFlash_power, State.modPower_power, List.modify_modify_eq]
    rfl
  · rw [errRecord_flash, failBatches_cards]
    rfl

end

/-- Settles O5: each command moves its own switch first; what its channel or card then does leaves the switches alone. -/
theorem switchesFollowTheirRules : Obligations.SwitchesFollowTheirRules := by
  refine ⟨fun s i spd train hi hb hs hin => ?started, fun s i hi hs hlate => ?timeout, fun s i hi hs => ?latched,
    fun s d hd hl hu hs => ?removed, fun s c hc hl hs ho => ?latchOpen, fun s c n hc hl ho hn => ?delayedOpen⟩
  case started =>
    refine ⟨(s.modSw i (fun w => { w with st := .on })).modDom (21 + i) (fun d => { d with st := .on }), ?_, ?_,
      fun j hj => sw_modSw_of_ne _ hj, by simp⟩
    · exact (if_pos ⟨hs, hin⟩).trans (if_pos hb)
    · exact congrArg Switch.st (sw_modSw_self _ hi)
  case timeout =>
    obtain ⟨t, e, p⟩ := execSwitchSoftStartTimeout_late hs hlate
    exact ⟨t, e, faulted_of_power hi p⟩
  case latched =>
    obtain ⟨t, e, p⟩ := execSwitchCurrentLimitLatch_powered hs
    exact ⟨t, e, faulted_of_power hi p⟩
  case removed =>
    have e : ∀ j, (memUnitFail (8 + d) 5 (switchFault d (s.modSw d (fun w => { w with present := false })))).sw j
        = (switchFault d (s.modSw d (fun w => { w with present := false }))).sw j := sw_of_power (memUnitFail_power ..)
    have latched := switchFault_sw_self (s := s.modSw d (fun w => { w with present := false })) (i := d) (by simpa using hl)
    refine ⟨_, if_pos ⟨hd, hs⟩, ?_, ?_, memUnitFail_unit_failed 5 ?_, memUnitFail_lostUnits .., fun k hk hr => ?_, fun j hj => ?_⟩
    · rw [e, latched]
    · rw [e, latched, sw_modSw_self _ hl]
    · rw [switchFault_mem]
      exact hu
    · exact pageEnt_lost hr (hk ▸ memUnitFail_lostUnits ..)
    · rw [e, switchFault_sw_of_ne hj, sw_modSw_of_ne _ hj]
  case latchOpen =>
    obtain ⟨t, e, p, f⟩ := execBayLatchOpen_on hl hs ho
    refine ⟨t, e, ?_, ?_, ?_, fun j hj => (sw_of_power p j).trans (sw_modSw_of_ne _ hj)⟩
    · rw [sw_of_power p, sw_modSw_self _ hl, hs]
    · rw [sw_of_power p, sw_modSw_self _ hl]
    · rw [State.card, f, nth_modify_self _ hc]
  case delayedOpen =>
    have e : ∀ j, (cardFail c 0 (switchOff (16 + c) s)).sw j = (switchOff (16 + c) s).sw j := sw_of_power (cardFail_power ..)
    refine ⟨cardFail c 0 (switchOff (16 + c) s), ?_, ?_, cardFail_card_failed 0 hc, fun j hj => ?_⟩
    · simp only [exec, execBaySwitchDelayedOpen, ho, if_pos hn]
    · rw [e, switchOff_sw_self hl]
    · rw [e, switchOff_sw_of_ne hj]

end Sys2Proof.Machine
end

section
/-! PROOFS. The ports: loss, retraining, qualification and PRESENT_N (02 R50; 05 R136 to R138; 14 R396). -/

namespace Sys2Proof.Machine

section
variable {s t : State}

/-! A port after an update of one of them. -/

theorem port_of_ports (h : t.fab.ports = s.fab.ports) (k : Nat) : t.port k = s.port k := congrArg (nth · k) h

theorem port_modPort_self {p : Nat} (f : Port → Port) (h : p < s.fab.ports.length) : (s.modPort p f).port p = f (s.port p) :=
  nth_modify_self f h

theorem port_modPort_of_ne {p k : Nat} (f : Port → Port) (h : k ≠ p) : (s.modPort p f).port k = s.port k := nth_modify_of_ne _ f h

/-! What leaves every port as it is: an injection at a bridge, a message, an error record, the end of a command. -/

theorem each_ports {α : Type} (l : List α) {f : α → State → State} (h : ∀ x t, (f x t).fab.ports = t.fab.ports) (s : State) :
    (each l f s).fab.ports = s.fab.ports := by
  induction l generalizing s with
  | nil => rfl
  | cons x l ih => exact (ih (f x s)).trans (h x s)

theorem inject_ports (b : Nat) (p : Pkt) (owner arg : Nat) (s : State) : (inject b p owner arg s).fab.ports = s.fab.ports := by
  unfold inject
  split
  · rfl
  · dsimp only
    split <;> rfl

theorem answer_ports (b : Nat) (p : Pkt) (c : Code) (data : List Byte) (s : State) : (answer b p c data s).fab.ports = s.fab.ports := by
  unfold answer
  split
  · exact inject_ports ..
  · rfl

theorem deliver_ports (n : Nat) (s : State) : (deliver n s).fab.ports = s.fab.ports := by
  unfold deliver
  dsimp only
  split
  · rfl
  · exact congrArg Fab.ports ((keeps_deliverHost n s (List.Subset.refl _)).2 Keeps.rfl' .fab (by decide))
  · split <;> rfl
  · exact inject_ports ..

theorem mbxWrite_ports (n : Nat) (msg : List Byte) (sid : Nat) (s : State) : (mbxWrite n msg sid s).2.fab.ports = s.fab.ports := by
  unfold mbxWrite
  split
  · exact deliver_ports ..
  · rfl

theorem attnSettle_fab (s : State) : (attnSettle s).fab = s.fab :=
  (keeps_attnSettle s (List.Subset.refl _)).2 Keeps.rfl' .fab (by decide)

theorem errRecord_ports (x : Rec) (s : State) : (errRecord x s).fab.ports = s.fab.ports := by
  have logged : ∀ u n, (errRecord.go x u n).fab.ports = u.fab.ports := by
    intro u n
    unfold errRecord.go
    dsimp only
    rw [attnSettle_fab]
    simp only [apply_ite State.fab, apply_ite Fab.ports, State.modGw_fab, mbxWrite_ports, ite_self]
    split
    · split <;> rfl
    · rfl
  unfold errRecord
  dsimp only
  split
  · split
    · rfl
    · exact logged ..
  · exact logged ..

theorem writeReply_ports (rchan : Nat) (msg : List Byte) (s : State) : (writeReply rchan msg s).fab.ports = s.fab.ports := by
  have w := mbxWrite_ports rchan msg (gwStamp s) s
  unfold writeReply
  split
  · rfl
  · split
    · rfl
    · next e => rwa [e] at w

theorem mbxAck_fab (n seq code : Nat) (s : State) : (mbxAck n seq code s).fab = s.fab :=
  (keeps_mbxAck n seq code s (List.Subset.refl _)).2 Keeps.rfl' .fab (by decide)

theorem finish_ports (op : Nat) (h : CmdHdr) (mseq : Nat) (c : Code) (inline data : List Byte) (s : State) :
    (finish op h mseq c inline data s).fab.ports = s.fab.ports := by
  unfold finish
  dsimp only
  rw [mbxAck_fab, State.modGw_fab, writeReply_ports]
  split <;> rfl

theorem completeCmd_ports (k : Cmd) (c : Code) (inline data : List Byte) (s : State) :
    (completeCmd k c inline data s).fab.ports = s.fab.ports := by
  unfold completeCmd
  dsimp only
  rw [finish_ports]
  rfl

theorem completeWait_ports (w a : Nat) (c : Code) (inline data : List Byte) (s : State) :
    (completeWait w a c inline data s).fab.ports = s.fab.ports := by
  unfold completeWait
  rw [each_ports]
  exact fun k t => completeCmd_ports k ..

/-! A packet that is looked up again leaves by a live port (14 R376): a port that is not live stays as it is. -/

theorem drainGo_port_of_ne {port k : Nat} (h : k ≠ port) (n : Nat) (s : State) : (drainGo n port s).port k = s.port k := by
  induction n generalizing s with
  | zero => rfl
  | succ n ih =>
    unfold drainGo
    dsimp only
    split
    · rfl
    · split
      · exact (ih _).trans (port_modPort_of_ne _ h)
      · rfl

theorem enqueue_port_of_ne {port k : Nat} (h : k ≠ port) (p : Pkt) (s : State) : (enqueue port p s).port k = s.port k :=
  (drainGo_port_of_ne h ..).trans (port_modPort_of_ne _ h)

theorem routeOf_live {b c : Nat} {p : Pkt} (h : routeOf s b p = some c) (hc : c ≠ 0xD) : portLive (s.port (6 * b + c)).st = true := by
  have live := List.find?_some h
  simpa [codeLive, hc] using live

theorem enqueue_port_of_not_live {b c k : Nat} {p q : Pkt} (h : routeOf s b p = some c) (hc : c ≠ 0xD)
    (hk : portLive (s.port k).st = false) : (enqueue (6 * b + c) q s).port k = s.port k := by
  refine enqueue_port_of_ne (fun e => ?_) q s
  rw [e, routeOf_live h hc] at hk
  cases hk

/-- A discard of a packet that came from no port is recorded for its bridge. -/
theorem discardRecord_ports (b : Nat) (c : Code) (p : Pkt) (s : State) : (discardRecord 12 b c p s).fab.ports = s.fab.ports :=
  errRecord_ports ..

theorem forwardPkt_port_of_not_live {k : Nat} (n b : Nat) (p : Pkt) (hk : portLive (s.port k).st = false) :
    (forwardPkt n 12 b p s).port k = s.port k := by
  have discarded (b : Nat) (c : Code) : (answer b p c [] (discardRecord 12 b c p s)).port k = s.port k :=
    port_of_ports ((answer_ports ..).trans (discardRecord_ports ..)) k
  induction n generalizing b with
  | zero => rfl
  | succ n ih =>
    unfold forwardPkt
    split
    · exact discarded ..
    · split
      · exact ih _
      · exact discarded ..
    · next c hc hr =>
      split
      · exact discarded ..
      · exact enqueue_port_of_not_live hr (fun e => hc e) hk

theorem each_port_of_not_live {α : Type} {k : Nat} (l : List α) {f : α → State → State}
    (h : ∀ x t, portLive (t.port k).st = false → (f x t).port k = t.port k) (hk : portLive (s.port k).st = false) :
    (each l f s).port k = s.port k := by
  induction l generalizing s with
  | nil => rfl
  | cons x l ih =>
    have e := h x s hk
    exact (ih (by rw [e]; exact hk)).trans e

/-- What a loss leaves of a port (14 R396). -/
def lostPort (q : Port) (tb : Nat) : Port := { q with
  st := .downRuntime, downAt := some (tb + 50000000), txq := [], replay := [], depth := 0, swapTx := none, swapRx := none,
  outLane := none, spared := none, replayRow := 0, rxDiscarding := false }

theorem modDmapE_fab (f : DMap → DMap) (s : State) : (s.modDmapE f).fab = s.fab :=
  (keeps_State_modDmapE s f (List.Subset.refl _)).2 Keeps.rfl' .fab (by decide)

theorem portLoss_port_self {p : Nat} (h : p < s.fab.ports.length) : (portLoss p s).port p = lostPort (s.port p) s.tb := by
  have lost (g) : ((s.modPort p (lostPort · s.tb)).modDmapE g).port p = lostPort (s.port p) s.tb :=
    (port_of_ports (congrArg Fab.ports (modDmapE_fab ..)) p).trans (port_modPort_self _ h)
  unfold portLoss
  dsimp only
  rw [port_of_ports (errRecord_ports ..), each_port_of_not_live]
  · exact lost _
  · intro x t hk
    split
    · split
      · exact forwardPkt_port_of_not_live _ _ _ hk
      · exact port_of_ports (answer_ports ..) p
    · next c hc hr => exact enqueue_port_of_not_live hr (fun e => hc e) hk
    · exact port_of_ports (answer_ports ..) p
  · exact (congrArg (fun q : Port => portLive q.st) (lost _)).trans rfl

theorem portLoss_power (p : Nat) (s : State) : (portLoss p s).power = s.power :=
  (keeps_portLoss p s (List.Subset.refl _)).2 Keeps.rfl' .power (by decide)

/-! The end of a qualification (05 R136 to R138). -/

theorem qualify_ports_length (p : Nat) (st : PortState) (lanes : BitVec 9) (spared : Option Nat) (s : State) :
    (qualify p st lanes spared s).fab.ports.length = s.fab.ports.length := List.length_modify ..

theorem qualify_port_self {p : Nat} (st : PortState) (lanes : BitVec 9) (spared : Option Nat) (h : p < s.fab.ports.length) :
    (qualify p st lanes spared s).port p = { st := st, laneOk := lanes, spared := spared, winTb := s.tb } := nth_modify_self _ h

theorem completed_ports (w a : Nat) (d : DMap) (t : State) :
    (completeWait w a .ok [] [] (epochSince d t)).fab.ports = t.fab.ports :=
  (completeWait_ports ..).trans (congrArg Fab.ports ((keeps_epochSince d t (List.Subset.refl _)).2 Keeps.rfl' .fab (by decide)))

section
variable {p : Nat} {l : BitVec 9} (hp : p < s.fab.ports.length) (hr : (s.port p).st = .retraining)
include hp hr

theorem execPortQualificationEnd_up {x : Option Nat} (hl : portResult l = (.up, x)) :
    ∃ t, execPortQualificationEnd p l true s = .next t ∧ t.port p = { st := .up, laneOk := l, spared := none, winTb := s.tb } := by
  refine ⟨_, if_neg (fun c => c hr), ?_⟩
  rw [port_of_ports (completed_ports ..)]
  simp only [hl, Bool.true_eq_false, if_false]
  exact qualify_port_self _ _ _ hp

theorem execPortQualificationEnd_spare {k : Nat} (hl : portResult l = (.upSpare, some k)) :
    ∃ t, execPortQualificationEnd p l true s = .next t ∧ t.port p = { st := .upSpare, laneOk := l, spared := some k, winTb := s.tb } := by
  refine ⟨_, if_neg (fun c => c hr), ?_⟩
  rw [port_of_ports (completed_ports ..)]
  simp only [hl, Bool.true_eq_false, if_false]
  exact (port_of_ports (errRecord_ports ..) p).trans (qualify_port_self _ _ _ hp)

/-- Without a partner, or with too few lanes, the port stays down for 10 s (14 R396; 18 R507). -/
theorem execPortQualificationEnd_down {partner : Bool} (hl : partner = true → (portResult l).1 = .down) :
    ∃ t, execPortQualificationEnd p l partner s = .next t
      ∧ t.port p = { st := .down, laneOk := if partner then l else 0, winTb := s.tb, downAt := some (s.tb + 500000000) } := by
  have failed (x : Rec) (lanes : BitVec 9) (n : Nat) :
      (errRecord x ((qualify p .down lanes none s).modPort p (fun q => { q with downAt := some n }))).port p
        = { st := .down, laneOk := lanes, winTb := s.tb, downAt := some n } := by
    have there : p < (qualify p .down lanes none s).fab.ports.length := by rwa [qualify_ports_length]
    rw [port_of_ports (errRecord_ports ..), port_modPort_self _ there, qualify_port_self _ _ _ hp]
  refine ⟨_, if_neg (fun c => c hr), ?_⟩
  rw [port_of_ports (completed_ports ..)]
  cases partner with
  | false => exact failed ..
  | true =>
    have e : portResult l = (.down, (portResult l).2) := Prod.ext (hl rfl) rfl
    rw [e]
    exact failed ..

end

end

/-- Settles O39: a lost port takes no packet that its queue gives up, and no record or answer touches a port. -/
theorem portsLoseAndRegainTheirLinks : Obligations.PortsLoseAndRegainTheirLinks := by
  refine ⟨fun s p hp h => ?loss, fun s p hl hr => ?noLoss, fun s p d hp hs hd hle hn hi ho => ?retrain, fun s p d hd hlt => ?early,
    fun s p l hp hr => ⟨fun hl => ?up, fun k hl => ?spare, fun hl => ?down, ?noPartner⟩, by decide, fun s p l b hr => if_pos hr,
    fun s p h hl hr => ?pin, fun s p hp hl => ?unplugged⟩
  case loss =>
    refine ⟨portLoss p s, if_pos (by simpa using h), ?_⟩
    rw [portLoss_port_self hp]
    exact ⟨rfl, rfl, rfl, rfl⟩
  case noLoss => exact if_neg (by simp [hl, hr])
  case retrain =>
    exact ⟨_, if_pos ⟨hs, by simp [hd, hle], hn, hi, ho⟩, port_modPort_self _ hp, fun k hk => port_modPort_of_ne _ hk, by simp⟩
  case early => exact if_neg (by simp [hd, hlt])
  case up =>
    obtain ⟨t, e, q⟩ := execPortQualificationEnd_up hp hr hl
    exact ⟨t, e, by simp [q]⟩
  case spare =>
    obtain ⟨t, e, q⟩ := execPortQualificationEnd_spare hp hr hl
    exact ⟨t, e, by simp [q]⟩
  case down =>
    obtain ⟨t, e, q⟩ := execPortQualificationEnd_down hp hr (fun _ => hl)
    exact ⟨t, e, by simp [q]⟩
  case noPartner =>
    obtain ⟨t, e, q⟩ := execPortQualificationEnd_down (l := l) hp hr (partner := false) (fun c => nomatch c)
    exact ⟨t, e, by simp [q]⟩
  case pin =>
    refine ⟨s.modPower (fun w => { w with presentN := w.presentN.set p h }), if_neg (fun c => ?_), rfl, by simp⟩
    rcases c.2 with c | c
    · exact absurd (hl.symm.trans c) (by decide)
    · exact hr c
  case unplugged =>
    refine ⟨_, if_pos ⟨rfl, .inl hl⟩, ?_, ?_⟩
    · exact congrArg Port.st (portLoss_port_self (s := s.modPower _) hp)
    · rw [portLoss_power]
      rfl

end Sys2Proof.Machine
end

section
/-! PROOFS. The row converters (03 R64, R81 to R84), and what an update of one unit of the power tree reads back. -/

namespace Sys2Proof.Machine

/-- A change made once for each member of a list leaves alone what it leaves alone for every one. -/
theorem each_fixed {α β : Type} (l : List α) {f : α → State → State} (g : State → β) (h : ∀ x t, g (f x t) = g t) (s : State) :
    g (each l f s) = g s := by
  induction l generalizing s with
  | nil => rfl
  | cons x l ih => exact (ih (f x s)).trans (h x s)

section
variable {s t : State} {h r : Nat} {x : SharedRail}

/-! A converter, half, rail or row after an update of one of them: that one as the update leaves it, the others as they were. -/

theorem conv_of_modify {f : Conv → Conv} (e : t.power.conv = s.power.conv.modify r f) (hr : r < s.power.conv.length) :
    t.conv r = f (s.conv r) ∧ ∀ q, q ≠ r → t.conv q = s.conv q :=
  ⟨(congrArg (nth · r) e).trans (nth_modify_self f hr), fun q hq => (congrArg (nth · q) e).trans (nth_modify_of_ne _ f hq)⟩

theorem half_of_modify {f : Half → Half} (e : t.power.halves = s.power.halves.modify h f) (hh : h < s.power.halves.length) :
    t.half h = f (s.half h) ∧ ∀ k, k ≠ h → t.half k = s.half k :=
  ⟨(congrArg (nth · h) e).trans (nth_modify_self f hh), fun k hk => (congrArg (nth · k) e).trans (nth_modify_of_ne _ f hk)⟩

theorem rail_of_rails (e : t.power.rails = s.power.rails) (x : SharedRail) : t.rail x = s.rail x := congrArg (nth · (railIdx x)) e

theorem rail_modRail_self (f : Rail → Rail) (hx : railIdx x < s.power.rails.length) : (s.modRail x f).rail x = f (s.rail x) :=
  nth_modify_self f hx

theorem row_of_rows (e : t.rows = s.rows) (r : Nat) : t.row r = s.row r := congrArg (nth · r) e

theorem row_of_modify {f : Row → Row} (e : t.rows = s.rows.modify r f) (hr : r < s.rows.length) :
    t.row r = f (s.row r) ∧ RowsBut r s t :=
  ⟨(congrArg (nth · r) e).trans (nth_modify_self f hr), fun q hq => (congrArg (nth · q) e).trans (nth_modify_of_ne _ f hq)⟩

@[simp] theorem modConv_convs (s : State) (r : Nat) (f : Conv → Conv) : (s.modConv r f).power.conv = s.power.conv.modify r f := rfl
@[simp] theorem modHalf_convs (s : State) (h : Nat) (f : Half → Half) : (s.modHalf h f).power.conv = s.power.conv := rfl
@[simp] theorem modRow_power (s : State) (r : Nat) (f : Row → Row) : (s.modRow r f).power = s.power := rfl

/-! What the ends of commands, of a row's rings and of a class change leave of the power tree. -/

@[simp] theorem completeWait_power (w a : Nat) (c : Code) (inline data : List Byte) (s : State) :
    (completeWait w a c inline data s).power = s.power :=
  (keeps_completeWait w a c inline data s (List.Subset.refl _)).2 Keeps.rfl' .power (by decide)

@[simp] theorem rowPowerFail_power (r : Nat) (c : Code) (s : State) : (rowPowerFail r c s).power = s.power :=
  (keeps_rowPowerFail r c s (List.Subset.refl _)).2 Keeps.rfl' .power (by decide)

@[simp] theorem classUpdate_power (r : Nat) (s : State) : (classUpdate r s).power = s.power :=
  (keeps_classUpdate r s (List.Subset.refl _)).2 Keeps.rfl' .power (by decide)

@[simp] theorem endRowRings_power (r : Nat) (s : State) : (endRowRings r s).power = s.power :=
  (keeps_endRowRings r s (List.Subset.refl _)).2 Keeps.rfl' .power (by decide)

@[simp] theorem rowRecord_power (r : Nat) (code : Code) (detail action : Nat) (s : State) : (rowRecord r code detail action s).power = s.power :=
  errRecord_power ..

/-! The converters as the operations on rows leave them. -/

/-- PWR_OK is a level of the supervisor: no converter follows it. -/
@[simp] theorem pwrOkUpdate_convs (s : State) : (pwrOkUpdate s).power.conv = s.power.conv := rfl

@[simp] theorem setConv_convs (r : Nat) (st : PwrState) (on : Bool) (s : State) :
    (setConv r st on s).power.conv = s.power.conv.modify r (fun c => { c with st := st, on := on }) := rfl

/-- A row that goes dark switches its converter off; its rings, contents and staging are not converters. -/
@[simp] theorem darken_convs (r : Nat) (st : PwrState) (s : State) :
    (darken r st s).power.conv = s.power.conv.modify r (fun c => { c with st := st, on := false }) := by
  simp [darken, unloadAll, loseRow, dropCells, leaveQueue, poisonRow]

@[simp] theorem darken_tb (r : Nat) (st : PwrState) (s : State) : (darken r st s).tb = s.tb :=
  congrArg Clk.tb ((keeps_darken r st s (List.Subset.refl _)).2 Keeps.rfl' .clk (by decide))

@[simp] theorem joinQueue_convs (r : Nat) (s : State) : (joinQueue r s).power.conv = s.power.conv := by
  unfold joinQueue
  split <;> rfl

@[simp] theorem joinQueue_rails (r : Nat) (s : State) : (joinQueue r s).power.rails = s.power.rails := by
  unfold joinQueue
  split <;> rfl

/-- The rating of Table 3.2, by the phases in service. -/
theorem ratingOf_eq (ph : BitVec 7) : ratingOf ph = (let n := 7 - ((List.range 7).filter ph.getLsbD).length
    if 6 ≤ n then 84000 else if n = 5 then 70000 else if n = 4 then 56000 else 0) := by
  simp only [ratingOf, countIf, List.filter_map, List.length_map, Function.id_comp]

/-! The commands on a row's converter: the converters they leave, as far as they go on (03 R64, R81 to R84). -/

/-- The phases out of service after the loss of phase `p` as well (03 R64). -/
def phasesOut (p : Nat) (c : Conv) : BitVec 7 := c.phFail ||| BitVec.ofNat 7 (2 ^ p)

/-- A converter with the phases `ph` out of service, at the rating of Table 3.2. -/
def rated (ph : BitVec 7) (c : Conv) : Conv := { c with phFail := ph, ratingMa := ratingOf ph }

/-- A converter that runs goes on, CAPPED below six phases; one that is off, or in its retry, keeps its state. -/
def runOn (r : Nat) (ph : BitVec 7) (s : State) : State :=
  if (s.conv r).st = .on ∨ (s.conv r).st = .capped then setConv r (convOnSt ph) (s.conv r).on s else s

theorem runOn_convs (r : Nat) (ph : BitVec 7) (s : State) : ∃ f : Conv → Conv, (runOn r ph s).power.conv = s.power.conv.modify r f
    ∧ ∀ c, (f c).phFail = c.phFail ∧ (f c).ratingMa = c.ratingMa := by
  unfold runOn
  split
  · exact ⟨_, rfl, fun _ => ⟨rfl, rfl⟩⟩
  · exact ⟨id, by simp, fun _ => ⟨rfl, rfl⟩⟩

section
variable {p : Nat} (hr : r < 12) (hp : p < 7) (hb : (s.conv r).phFail.getLsbD p = false)
include hr hp hb

/-- With three or fewer phases the row is DARK without a retry. -/
theorem execPhaseLoss_dark (h0 : ratingOf (phasesOut p (s.conv r)) = 0) : ∃ t, execPhaseLoss r p s = .next t
    ∧ t.power.conv = s.power.conv.modify r (fun c => { rated (phasesOut p (s.conv r)) c with st := .dark, on := false, retryAt := none }) := by
  refine ⟨_, (if_pos ⟨hr, hp, hb⟩).trans (if_pos h0), ?_⟩
  simp [List.modify_modify_eq, Function.comp_def, rated, phasesOut]

/-- With four or more the row runs on at its new rating. -/
theorem execPhaseLoss_rated (h0 : ratingOf (phasesOut p (s.conv r)) ≠ 0) : ∃ (t : State) (f : Conv → Conv), execPhaseLoss r p s = .next t
    ∧ t.power.conv = s.power.conv.modify r f
    ∧ ∀ c, (f c).phFail = phasesOut p (s.conv r) ∧ (f c).ratingMa = ratingOf (phasesOut p (s.conv r)) := by
  obtain ⟨f, e, hf⟩ := runOn_convs r (phasesOut p (s.conv r)) (s.modConv r (rated (phasesOut p (s.conv r))))
  refine ⟨rowRecord r .phaseLost p 0 (runOn r (phasesOut p (s.conv r)) (s.modConv r (rated (phasesOut p (s.conv r))))), _,
    (if_pos ⟨hr, hp, hb⟩).trans (if_neg h0), ?_, fun c => hf (rated (phasesOut p (s.conv r)) c)⟩
  rw [rowRecord_power, e]
  exact List.modify_modify_eq ..

end

/-- A short takes the row down, for one second or, its automatic retry spent, until it is re-armed. -/
theorem execRowShort_on (hr : r < 12) (ho : (s.conv r).on = true) :
    ∃ t, execRowShort r s = .next t ∧ t.power.conv = s.power.conv.modify r (fun c => { c with
      st := if (s.conv r).retryUsed then .dark else .retryWait, on := false
      retryAt := if (s.conv r).retryUsed then none else some (s.tb + 50000000), stagedAt := none, halfThr := false }) := by
  refine ⟨_, if_pos ⟨hr, ho⟩, ?_⟩
  cases (s.conv r).retryUsed <;> simp [List.modify_modify_eq, Function.comp_def]

/-- A retry starts the converter with half its threshold, and the row waits for its headers. -/
theorem retryBegin_convs (r : Nat) (s : State) : (retryBegin r s).power.conv = s.power.conv.modify r (fun c => { c with
    st := .retryWait, on := true, retryAt := none, retryUsed := true, halfThr := true, stagedAt := none }) := by
  simp [retryBegin, List.modify_modify_eq, Function.comp_def]

/-- A retry that has held for 100 ms gives the thresholds back. -/
theorem execRowRetrySuccess_staged {n : Nat} (ha : (s.conv r).stagedAt = some n) (hs : (s.conv r).st = .retryWait)
    (hn : n + 5000000 ≤ s.tb) (h0 : ratingOf (s.conv r).phFail ≠ 0) :
    ∃ t, execRowRetrySuccess r s = .next t ∧ t.power.conv = s.power.conv.modify r (fun c => { c with
      st := convOnSt (s.conv r).phFail, on := true, halfThr := false, stagedAt := none }) := by
  simp only [execRowRetrySuccess, ha, if_pos (And.intro hs (And.intro hn h0))]
  refine ⟨_, rfl, ?_⟩
  simp [List.modify_modify_eq, Function.comp_def]

end

/-- Settles O6: each command updates one converter of the list, and what else it does touches none. -/
theorem rowConverterFaultsAndRetry : Obligations.RowConverterFaultsAndRetry := by
  refine ⟨fun s r p hr hp hl hb => ?phase, ratingOf_eq, fun s r hr hl ho => ?short, fun s r n hl ha hs hn hv => ?retry,
    fun s r n hl ha hs hn h0 => ?success⟩
  case phase =>
    by_cases h0 : ratingOf (phasesOut p (s.conv r)) = 0
    · obtain ⟨t, e, c⟩ := execPhaseLoss_dark hr hp hb h0
      obtain ⟨self, others⟩ := conv_of_modify c hl
      exact ⟨t, e, by rw [self]; rfl, by rw [self]; rfl, fun _ => by rw [self]; exact ⟨rfl, rfl, rfl⟩, others⟩
    · obtain ⟨t, f, e, c, hf⟩ := execPhaseLoss_rated hr hp hb h0
      obtain ⟨self, others⟩ := conv_of_modify c hl
      obtain ⟨out, rating⟩ := hf (s.conv r)
      exact ⟨t, e, by rw [self, out]; rfl, by rw [self, out, rating], fun d => absurd (by rwa [self, out] at d) h0, others⟩
  case short =>
    obtain ⟨t, e, c⟩ := execRowShort_on hr ho
    obtain ⟨self, others⟩ := conv_of_modify c hl
    exact ⟨t, e, by rw [self], by rw [self], by rw [self], by rw [self], others⟩
  case retry =>
    obtain ⟨self, others⟩ := conv_of_modify (retryBegin_convs r s) hl
    refine ⟨retryBegin r s, ?_, by rw [self], by rw [self], by rw [self], by rw [self]; rfl, by rw [self], others, by simp⟩
    simp only [exec, execRowRetryBegin, ha, if_pos (And.intro hs (And.intro hn hv))]
  case success =>
    obtain ⟨t, e, c⟩ := execRowRetrySuccess_staged ha hs hn h0
    obtain ⟨self, others⟩ := conv_of_modify c hl
    exact ⟨t, e, by rw [self], by rw [self], by rw [self], others⟩

end Sys2Proof.Machine
end

section
/-! PROOFS. Header staging (03 R66 to R70, Tables 3.3 and 3.4). -/

namespace Sys2Proof.Machine

section
variable {s t : State} {h i r : Nat} {g : Staging} {rest : List Nat}

/-- A refresh of I_HALF (03 R69). -/
def measured (h i : Nat) (s : State) : State := s.modHalf h (fun x => { x with iHalf := i })

theorem measured_half (hh : h < s.power.halves.length) : (measured h i s).half h = { s.half h with iHalf := i } :=
  (half_of_modify (t := measured h i s) (f := fun x => { x with iHalf := i }) rfl hh).1

/-- The staging of a row that has reached the head of its half's queue; a row in its retry goes at half rate (03 R67, R70, R82). -/
def stagingOf (s : State) (r : Nat) (half : Bool) : Staging :=
  { row := r, fromSleep := (s.row r).fromSleep, half := half || (s.conv r).st == .retryWait, next := 0, startTb := s.tb }

/-- The staging takes the row from the queue and notes its rate with the row's converter. -/
def stagingBegun (h r : Nat) (rest : List Nat) (half : Bool) (s : State) : State :=
  (s.modHalf h (fun x => { x with queue := rest, headSince := s.tb, staging := some (stagingOf s r half) })).modConv r
    (fun c => { c with halfRate := half || (s.conv r).st == .retryWait })

theorem startStaging_cons (half : Bool) (hq : (s.half h).queue = r :: rest) : startStaging h half s = stagingBegun h r rest half s := by
  simp only [startStaging, hq]
  rfl

theorem stagingBegun_measured (rest : List Nat) (half : Bool) (hh : h < s.power.halves.length) (hr : r < s.power.conv.length)
    (ht : t = stagingBegun h r rest half (measured h i s)) :
    (t.half h).queue = rest ∧ (t.half h).staging = some (stagingOf s r half) ∧ (t.conv r).halfRate = (half || (s.conv r).st == .retryWait)
      ∧ (∀ k, k ≠ h → t.half k = s.half k) ∧ Keeps [.power] s t := by
  subst ht
  obtain ⟨self, others⟩ := half_of_modify (t := stagingBegun h r rest half (measured h i s)) (List.modify_modify_eq ..) hh
  exact ⟨by rw [self]; rfl, by rw [self]; rfl, by rw [(conv_of_modify rfl hr).1]; rfl, others, by simp [stagingBegun, measured]⟩

/-! The commands that start a staging (03 R68 to R70, Table 3.9). -/

section
variable (hh : h < s.power.halves.length) (hs : (s.half h).staging = none) (hq : (s.half h).queue = r :: rest) (hn : nocUp s h = true)
include hh hs hq hn

/-- Nothing stages in the half, and a row waits. -/
theorem measured_waits : ((measured h i s).half h).staging = none ∧ ((measured h i s).half h).queue = r :: rest
    ∧ ((measured h i s).half h).queue ≠ [] ∧ nocUp (measured h i s) h = true := by
  rw [measured_half hh]
  exact ⟨hs, hq, by simp [hq], hn⟩

theorem execStagingStart_room (hi : i + 48000 < 1000 * (s.half h).iLim) :
    execStagingStart h i s = .next (stagingBegun h r rest false (measured h i s)) := by
  obtain ⟨hs', hq', hw, hn'⟩ := measured_waits (i := i) hh hs hq hn
  have hl : ((measured h i s).half h).iLim = (s.half h).iLim := by rw [measured_half hh]
  exact (if_pos ⟨hs', hw, hn', hl.symm ▸ hi⟩).trans (congrArg _ (startStaging_cons false hq'))

theorem execStagingHalfRateStart_late (ht : (s.half h).headSince + 100000 ≤ s.tb) :
    execStagingHalfRateStart h i s = .next (stagingBegun h r rest true (measured h i s)) := by
  obtain ⟨hs', hq', hw, hn'⟩ := measured_waits (i := i) hh hs hq hn
  have hl : ((measured h i s).half h).headSince = (s.half h).headSince := by rw [measured_half hh]
  exact (if_pos ⟨hs', hw, hn', hl.symm ▸ ht⟩).trans (congrArg _ (startStaging_cons true hq'))

end

/-- Without the condition on the current, or without VNOC, only the measurement is new. -/
theorem execStagingStart_noRoom (hh : h < s.power.halves.length) (hi : 1000 * (s.half h).iLim ≤ i + 48000 ∨ nocUp s h = false) :
    execStagingStart h i s = .next (measured h i s) := by
  refine if_neg fun ⟨_, _, hn, hl⟩ => ?_
  have hl : i + 48000 < 1000 * ((measured h i s).half h).iLim := hl
  rw [measured_half hh] at hl
  rcases hi with hi | hi
  · exact absurd hl (Nat.not_lt.2 hi)
  · exact absurd (hi.symm.trans hn) (by decide)

/-! The close of a stage, and the row that becomes usable (03 R66, R67, Table 3.4). -/

/-- The banks of a stage begin their scrub and the next stage is due. -/
def stageClosed (h : Nat) (g : Staging) (s : State) : State :=
  (s.modRow g.row (fun w => { w with banks := w.banks.mapIdx (fun i b =>
    if (stageBanks g.next).contains i && b.st != .retired then { b with st := .scrub } else b) })).modHalf h
      (fun x => { x with staging := some { g with next := g.next + 1 } })

theorem execHeaderStageClose_due (hg : (s.half h).staging = some g) (hd : stageTick g ≤ s.tb - g.startTb)
    (hn : g.next < (if g.fromSleep then 2 else 15)) : execHeaderStageClose h s = .next (stageClosed h g s) := by
  have more : g.next < (if g.fromSleep then 2 else 16) ∧ (!g.fromSleep && g.next == 15) = false := by
    cases sleep : g.fromSleep with
    | true => exact ⟨by simpa [sleep] using hn, rfl⟩
    | false =>
      have below : g.next < 15 := by simpa [sleep] using hn
      exact ⟨Nat.lt_succ_of_lt below, beq_false_of_ne (Nat.ne_of_lt below)⟩
  obtain ⟨more, notLast⟩ := more
  simp only [execHeaderStageClose, hg, if_pos (And.intro hd more), notLast, Bool.false_eq_true, if_false]
  rfl

theorem execHeaderStageClose_early (hg : (s.half h).staging = some g) (hd : s.tb - g.startTb < stageTick g) :
    execHeaderStageClose h s = .next s := by
  simp only [execHeaderStageClose, hg]
  exact if_neg (fun c => absurd c.1 (Nat.not_le.2 hd))

theorem rowPowerCheck_rows (r : Nat) (s : State) : (rowPowerCheck r s).rows = s.rows :=
  (keeps_rowPowerCheck r s (List.Subset.refl _)).2 Keeps.rfl' .rows (by decide)

/-- The timers of core accesses are nothing of the row's own state. -/
theorem startTimers_row_st (s : State) (r : Nat) : ((startTimers s).row r).st = (s.row r).st := by
  by_cases hr : r < s.rows.length
  · exact (congrArg Row.st (nth_mapIdx (l := s.rows) _ hr)).trans rfl
  · simp [startTimers, State.row, nth, hr]

theorem execRowUsable_due (hr : r < s.rows.length) (hg : (s.half (halfOf r)).staging = some g) (hrow : g.row = r)
    (hw : (s.row r).st = .waking) (hc : (s.conv r).st ≠ .retryWait) (hn : g.next = (if g.fromSleep then 2 else 3))
    (hd : g.startTb + (if g.fromSleep then 2000 else 3000) * (if g.half then 2 else 1) ≤ s.tb) :
    ∃ t, execRowUsable r s = .next t ∧ (t.row r).st = .active := by
  unfold execRowUsable
  rw [hg]
  refine ⟨_, (if_pos ⟨hrow, hw, hn.ge, hd⟩).trans (if_neg ?_), ?_⟩
  · split <;> exact hc
  · rw [startTimers_row_st, row_of_rows (rowPowerCheck_rows ..), (row_of_modify rfl ?_).1]
    split <;> exact hr
end

/-- Settles O7: a staging is one update of its half and of one converter, from the state with the new measurement. -/
theorem stagingServesTheQueueInOrder : Obligations.StagingServesTheQueueInOrder := by
  refine ⟨fun s h i r rest hh hr hs hq hn hi => ?start, fun s h i hh hi => ?noRoom, fun s h i r rest hh hr hs hq hn ht => ?halfRate,
    fun s h g hh hg hd hn => ?close, fun s h g hg hd => execHeaderStageClose_early hg hd,
    fun s r g hr hg hrow hw hc hn hd => execRowUsable_due hr hg hrow hw hc hn hd⟩
  case start => exact ⟨_, execStagingStart_room hh hs hq hn hi, stagingBegun_measured rest false hh hr rfl⟩
  case noRoom => exact ⟨_, execStagingStart_noRoom hh hi, by rw [measured_half hh], by rw [measured_half hh], by simp [measured]⟩
  case halfRate => exact ⟨_, execStagingHalfRateStart_late hh hs hq hn ht, stagingBegun_measured rest true hh hr rfl⟩
  case close =>
    obtain ⟨self, others⟩ := half_of_modify (t := stageClosed h g s) rfl hh
    exact ⟨_, execHeaderStageClose_due hg hd hn, by rw [self], others, by simp [stageClosed]⟩
end Sys2Proof.Machine
end

section
/-! PROOFS. The shared rails (03 R85, Table 3.9). -/

namespace Sys2Proof.Machine

section
variable {s : State} {x : SharedRail}

theorem rail_lt_of_inReg (hx : (s.rail x).inReg = true) : railIdx x < s.power.rails.length := by
  by_contra hl
  rw [State.rail, nth_of_length_le (Nat.not_lt.1 hl)] at hx
  cases hx

/-- A counted rail out of regulation keeps PWR_OK low (03 R63; 02 R39). -/
theorem pwrOkUpdate_low (h2 : 2 ≤ railIdx x) (hl : railIdx x < s.power.rails.length) (ho : (s.rail x).inReg = false) :
    (pwrOkUpdate s).power.pwrOk = false := by
  have counted : s.rail x ∈ s.power.rails.drop 2 := by
    rw [List.mem_drop_iff_getElem]
    exact ⟨railIdx x - 2, by omega, by simp [State.rail, nth, Nat.add_sub_cancel' h2, hl]⟩
  have out : (s.power.rails.drop 2).all (·.inReg) = false := List.all_eq_false.2 ⟨_, counted, by simp [ho]⟩
  simp [pwrOkUpdate, countedOk, out]

theorem nth_set_of_ne {α : Type} [Inhabited α] (l : List α) {i j : Nat} (a : α) (h : j ≠ i) : nth (l.set i a) j = nth l j := by
  simp [nth, h.symm]

/-! The loss of a shared rail (03 R85, Table 3.9). -/

/-- The rail itself after its loss: a bus converter has no retry, another rail one, after 1 s. -/
def railOut (x : SharedRail) (s : State) : State := s.modRail x (fun q => { q with
  inReg := false, retryAt := if x ≠ .bc0 ∧ x ≠ .bc1 ∧ (s.rail x).retryUsed = false then some (s.tb + 50000000) else none })

theorem execSharedRailLost_inReg (hx : (s.rail x).inReg = true) (hv : x ≠ .vspine) :
    execSharedRailLost x s = .next (railRecord (railDom x) (pwrOkUpdate (railEffect x (railOut x s)))) := if_pos ⟨hx, hv⟩

theorem railRecord_power (n : Nat) (s : State) : (railRecord n s).power = s.power := errRecord_power ..

theorem bridgeLost_power (b : Nat) (s : State) : (bridgeLost b s).power = s.power :=
  (keeps_bridgeLost b s (List.Subset.refl _)).2 Keeps.rfl' .power (by decide)

theorem edgeLost_power (e : Nat) (s : State) : (edgeLost e s).power = s.power :=
  (keeps_edgeLost e s (List.Subset.refl _)).2 Keeps.rfl' .power (by decide)

/-- Stacks and bridges that go down with their rail are no rails. -/
theorem railEffect_power (hx : x = .vbrE ∨ x = .vbrW ∨ x = .v3p3 ∨ x = .vhbmN ∨ x = .vhbmS) (s : State) :
    (railEffect x s).power = s.power := by
  rcases hx with rfl | rfl | rfl | rfl | rfl
  all_goals simp only [railEffect, bridgeLost_power, edgeLost_power]

theorem railOut_rail (hl : railIdx x < s.power.rails.length) : (railOut x s).rail x = { s.rail x with
    inReg := false, retryAt := if x ≠ .bc0 ∧ x ≠ .bc1 ∧ (s.rail x).retryUsed = false then some (s.tb + 50000000) else none } :=
  rail_modRail_self _ hl

/-- The rails that a lost bus converter leaves, and the cap on the input. -/
theorem execSharedRailLost_converter (hx : x = .bc0 ∨ x = .bc1) (hr : (s.rail x).inReg = true) :
    ∃ t, execSharedRailLost x s = .next t ∧ t.power.inputCap850 = true ∧ t.power.rails = (railOut x s).power.rails := by
  refine ⟨_, execSharedRailLost_inReg hr (by rcases hx with rfl | rfl <;> simp), ?_⟩
  rw [railRecord_power]
  rcases hx with rfl | rfl <;> exact ⟨rfl, rfl⟩

/-- A capped input limits the module to 850 W (19, Table 19.1). -/
theorem moduleLimit_le_of_cap (h : s.power.inputCap850 = true) : moduleLimit s ≤ 850000 := by
  unfold moduleLimit
  rw [if_pos h]
  exact Nat.min_le_right ..

/-! The one retry of a shared rail. -/

/-- What returns with a rail other than VBUS12 changes no rail. -/
theorem railReturn_rails (hx : x ≠ .vbus12) (s : State) : (railReturn x s).power.rails = s.power.rails := by
  have waiting : ∀ (rs : List Nat) (u : State), (each rs (fun r s => if (rowIsDark s r && !retryBegun s r) || rowIsOut s r then s
      else joinQueue r (s.modRow r (fun w => { w with st := .waking, fromSleep := false }))) u).power.rails = u.power.rails := by
    refine fun rs u => each_fixed rs (·.power.rails) (fun r v => ?_) u
    split
    · rfl
    · simp
  cases x with
  | vbus12 => exact absurd rfl hx
  | vnocN =>
    simp only [railReturn, waiting]
    rfl
  | vnocS =>
    simp only [railReturn, waiting]
    rfl
  | _ => rfl

/-- The rail after its retry: no other follows. -/
def railTried (x : SharedRail) (ok : Bool) (s : State) : State :=
  s.modRail x (fun q => { q with retryUsed := true, retryAt := none, inReg := ok })

theorem execSharedRailRetry_due {n : Nat} (ok : Bool) (ha : (s.rail x).retryAt = some n) (hn : n ≤ s.tb) :
    execSharedRailRetry x ok s = .next (if ok then pwrOkUpdate (railReturn x (railTried x ok s)) else railRecord (railDom x) (railTried x ok s)) := by
  simp only [execSharedRailRetry, ha, if_pos hn, railTried]
  cases ok <;> rfl

theorem railIdx_lt (x : SharedRail) : railIdx x < 11 := by cases x <;> decide

theorem railTried_rail (ok : Bool) (hl : s.power.rails.length = 11) :
    (railTried x ok s).rail x = { s.rail x with retryUsed := true, retryAt := none, inReg := ok } :=
  rail_modRail_self _ (hl ▸ railIdx_lt x)

end

/-- Settles O8: what a rail takes down with it is no rail, and a counted rail that is out keeps PWR_OK low; VSPINE by its losses. -/
theorem sharedRailsLostAndRetried : Obligations.SharedRailsLostAndRetried := by
  refine ⟨fun s x hx hr => ?converter, fun s x hx hl hr => ?lost, fun s x n hl ha hn => ?failed, fun s x n hx hl ha hn => ?returned,
    fun s hr ht => ?vspine⟩
  case converter =>
    obtain ⟨t, e, cap, rails⟩ := execSharedRailLost_converter hx hr
    have self := (rail_of_rails rails x).trans (railOut_rail (rail_lt_of_inReg hr))
    have noRetry : ¬ (x ≠ .bc0 ∧ x ≠ .bc1 ∧ (s.rail x).retryUsed = false) := fun c => hx.elim c.1 c.2.1
    exact ⟨t, e, cap, by rw [self], by rw [self]; exact if_neg noRetry, moduleLimit_le_of_cap cap⟩
  case lost =>
    have names : 2 ≤ railIdx x ∧ x ≠ .vspine ∧ x ≠ .bc0 ∧ x ≠ .bc1 := by rcases hx with rfl | rfl | rfl | rfl | rfl <;> decide
    obtain ⟨counted, hv, h0, h1⟩ := names
    have there : railIdx x < s.power.rails.length := hl ▸ railIdx_lt x
    have lost : (railEffect x (railOut x s)).power = (railOut x s).power := railEffect_power hx _
    have self := (rail_of_rails (congrArg Power.rails lost) x).trans (railOut_rail there)
    have low : (pwrOkUpdate (railEffect x (railOut x s))).power.pwrOk = false :=
      pwrOkUpdate_low counted (by rw [lost]; exact (List.length_modify ..).symm ▸ there) (congrArg Rail.inReg self)
    refine ⟨_, execSharedRailLost_inReg hr hv, ?_⟩
    rw [railRecord_power, rail_of_rails (congrArg Power.rails (railRecord_power ..)), show (pwrOkUpdate _).rail x = _ from self]
    refine ⟨rfl, low, ?_⟩
    cases (s.rail x).retryUsed <;> simp [h0, h1]
  case failed =>
    have self := (rail_of_rails (congrArg Power.rails (railRecord_power (railDom x) (railTried x false s))) x).trans (railTried_rail false hl)
    exact ⟨_, execSharedRailRetry_due false ha hn, by rw [if_neg nofun, self], by rw [if_neg nofun, self],
      by rw [if_neg nofun, self]⟩
  case returned =>
    have self := (rail_of_rails (railReturn_rails hx (railTried x true s)) x).trans (railTried_rail true hl)
    exact ⟨pwrOkUpdate (railReturn x (railTried x true s)), execSharedRailRetry_due true ha hn, congrArg Rail.inReg self,
      congrArg Rail.retryAt self, congrArg Rail.retryUsed self⟩
  case vspine =>
    by_cases h0 : s.power.vspineLosses = 0
    · refine ⟨_, (if_pos ⟨hr, ht⟩).trans (if_pos h0), rfl, rfl, rfl, rfl, fun k hk => ?_, fun _ => ⟨rfl, rfl⟩, fun c => absurd h0 c, rfl, rfl, rfl⟩
      show (nth ((List.replicate 11 ({} : Rail)).set 10 { inReg := true }) k).inReg = false
      rw [nth_set_of_ne _ _ (by omega), nth_replicate _ (by omega)]
    · refine ⟨_, (if_pos ⟨hr, ht⟩).trans (if_neg h0), rfl, rfl, rfl, rfl, fun k hk => ?_, fun c => absurd c h0, fun _ => ⟨rfl, rfl⟩, rfl, rfl, rfl⟩
      exact congrArg Rail.inReg (nth_replicate _ (by omega))

end Sys2Proof.Machine
end

section
/-! PROOFS. How Gwynpin takes and answers a command (16 R438 to R441), and the commands for rows and banks (03 R83; 04 R104, R601; 10 R258; 11 R287, R288). -/

namespace Sys2Proof.Machine

section
variable {s t : State} {h : CmdHdr} {sec : Bool} {op need o : Nat} {self : Instr} {body : State → Done} {e : State → State}

/-! A command that Gwynpin takes at once (16 R438 to R441). The take changes the mailbox alone, and the meaning is that of the state
with the mailbox as the take leaves it. -/

/-- The state in which the meaning of a taken command starts: in streaming mode the take has cleared FULL (15 R411). -/
def cmdTaken (h : CmdHdr) (s : State) : State := if s.boot.mbxMode then s.setChan h.chan { s.chan h.chan with full := false } else s

theorem cmdTaken_eq_modMbx (h : CmdHdr) (s : State) : ∃ m, cmdTaken h s = s.modMbx m := by
  unfold cmdTaken
  split
  · exact ⟨_, rfl⟩
  · exact ⟨id, rfl⟩

/-- How a taken command ends, by what its meaning answers. -/
def cmdEnds (self : Instr) (h : CmdHdr) (op o mseq : Nat) : Done → Res
  | .now c inline data t => .next (finish op h mseq c inline data t)
  | .after t post => .next (post (finish op h mseq .ok [] [] t))
  | .hold t => .next (t.modGw (fun g => { g with waiting := g.waiting ++ [(o, self)] }))
  | .later w a t => .next (t.modGw (fun g => { g with
      cmds := g.cmds ++ [{ id := g.nextId, opcode := op, chan := h.chan, mseq := mseq, ctag := h.ctag, rchan := h.rchan,
                           resptr := h.resptr, resmax := h.resmax, wait := w, obj := o, arg := a }]
      journal := g.journal ++ [g.nextId], nextId := g.nextId + 1 }))

theorem gwCommand_taken (g : GwGo s h sec need o) :
    ∃ m, gwCommand self h op sec need o body s = cmdEnds self h op o (s.chan h.chan).mseq (body (s.modMbx m)) := by
  obtain ⟨serves, place, free, checks⟩ := g
  have live : alive s ≠ false := by
    simp only [gwServes, Bool.and_eq_true] at serves
    simp [serves.1.1.1]
  have starts : ¬ (gwServes s = false ∨ 8 ≤ s.gw.cmds.length ∨ (o ≠ 0 ∧ (s.gw.cmds.any (·.obj == o) ∨ s.gw.waiting.any (·.1 == o)))) := by
    rintro (c | c | ⟨c, d⟩)
    · exact absurd (serves.symm.trans c) (by decide)
    · omega
    · obtain ⟨hc, hw⟩ := free.resolve_left c
      rcases d with d | d
      · obtain ⟨k, hk, he⟩ := List.any_eq_true.1 d
        exact hc k hk (beq_iff_eq.1 he)
      · obtain ⟨k, hk, he⟩ := List.any_eq_true.1 d
        exact hw k hk (beq_iff_eq.1 he)
  obtain ⟨m, hm⟩ := cmdTaken_eq_modMbx h s
  have checked : gwCheck (cmdTaken h s) h sec need = .ok := by rw [hm]; exact checks
  refine ⟨m, ?_⟩
  unfold gwCommand
  rw [if_neg live, if_neg starts]
  change (match gwCheck (cmdTaken h s) h sec need with | .ok => _ | c => _) = _
  rw [checked, ← hm]
  rfl

/-! How a meaning that answers at once, or later, ends. -/

theorem mbxAck_gw (n seq code : Nat) (s : State) : (mbxAck n seq code s).gw = s.gw :=
  (keeps_mbxAck n seq code s (List.Subset.refl _)).2 Keeps.rfl' .gw (by decide)

theorem finish_replied (mseq : Nat) (c : Code) (inline : List Byte) (ht : t.tb = s.tb) :
    Replied s (finish op h mseq c inline [] t) h op c inline [] := by
  unfold Replied finish
  rw [mbxAck_gw, ← ht]
  rfl

theorem finish_keeps (mseq : Nat) (c : Code) (inline : List Byte) (t : State) : Keeps gwF t (finish op h mseq c inline [] t) := by
  unfold finish gwF
  simp

/-- A command answered at once: its reply is written and the effect `e` of its meaning stands. -/
theorem gwCommand_answers {c : Code} {inline : List Byte} (g : GwGo s h sec need o)
    (hb : ∀ m, body (s.modMbx m) = .now c inline [] (e (s.modMbx m))) (ht : ∀ m, (e (s.modMbx m)).tb = s.tb) :
    ∃ t m, gwCommand self h op sec need o body s = .next t ∧ Replied s t h op c inline [] ∧ Keeps gwF (e (s.modMbx m)) t := by
  obtain ⟨m, hm⟩ := gwCommand_taken (self := self) (op := op) (body := body) g
  rw [hb m] at hm
  exact ⟨_, m, hm, finish_replied _ c inline (ht m), finish_keeps _ _ _ _⟩

/-- A command answered at once that has no effect of its own. -/
theorem gwCommand_refuses {c : Code} (g : GwGo s h sec need o) (hb : ∀ m, body (s.modMbx m) = .now c [] [] (s.modMbx m)) :
    ∃ t, gwCommand self h op sec need o body s = .next t ∧ Replied s t h op c [] [] ∧ Keeps gwF s t := by
  obtain ⟨t, m, he, hr, hk⟩ := gwCommand_answers (self := self) (op := op) (e := id) g hb (fun _ => rfl)
  exact ⟨t, he, hr, Keeps.trans (t := s.modMbx m) (by simp [gwF]) hk⟩

/-- A command that waits for an event: it is in progress and the effect `e` of its meaning stands. -/
theorem gwCommand_accepts {w a : Nat} (g : GwGo s h sec need o) (hb : ∀ m, body (s.modMbx m) = .later w a (e (s.modMbx m)))
    (hg : ∀ m, (e (s.modMbx m)).gw = s.gw) :
    ∃ t m, gwCommand self h op sec need o body s = .next t ∧ Accepted s t h op w a o ∧ Keeps [.gw] (e (s.modMbx m)) t := by
  obtain ⟨m, hm⟩ := gwCommand_taken (self := self) (op := op) (body := body) g
  rw [hb m] at hm
  refine ⟨_, m, hm, ⟨_, List.mem_append_right _ (List.mem_singleton_self _), congrArg Gw.nextId (hg m), rfl, rfl, rfl, rfl, rfl, rfl, rfl⟩, by simp⟩

end

section
variable {s t : State} {h : CmdHdr} {r b c : Nat} {m : Mbx → Mbx}

/-! What a command for a row or a bank asks of the state is nothing of the mailbox. -/

@[simp] theorem modMbx_row (s : State) (m : Mbx → Mbx) (r : Nat) : (s.modMbx m).row r = s.row r := rfl
@[simp] theorem modMbx_bank (s : State) (m : Mbx → Mbx) (r b : Nat) : (s.modMbx m).bank r b = s.bank r b := rfl
@[simp] theorem modMbx_conv (s : State) (m : Mbx → Mbx) (r : Nat) : (s.modMbx m).conv r = s.conv r := rfl
@[simp] theorem modMbx_rowIsOut (s : State) (m : Mbx → Mbx) (r : Nat) : rowIsOut (s.modMbx m) r = rowIsOut s r := rfl
@[simp] theorem modMbx_rowIsDark (s : State) (m : Mbx → Mbx) (r : Nat) : rowIsDark (s.modMbx m) r = rowIsDark s r := rfl
@[simp] theorem modMbx_rowInUse (s : State) (m : Mbx → Mbx) (r : Nat) : rowInUse (s.modMbx m) r = rowInUse s r := rfl
@[simp] theorem modMbx_rowRuns (s : State) (m : Mbx → Mbx) (r : Nat) : rowRuns (s.modMbx m) r = rowRuns s r := rfl
@[simp] theorem modMbx_stagedOut (s : State) (m : Mbx → Mbx) (r : Nat) : stagedOut (s.modMbx m) r = stagedOut s r := rfl
@[simp] theorem modMbx_prmPos (s : State) (m : Mbx → Mbx) (r c : Nat) : prmPos (s.modMbx m) r c = prmPos s r c := rfl

theorem rowIsDark_eq_false (hd : rowIsDark s r = false) : (s.row r).st ≠ .dark ∧ (s.conv r).st ≠ .retryWait ∧ (s.conv r).st ≠ .dark := by
  simpa [rowIsDark, and_assoc] using hd

theorem rowRuns_not_dark (hr : rowRuns s r = true) : rowIsDark s r = false := by
  simp only [rowRuns, Bool.and_eq_true, Bool.not_eq_true'] at hr
  exact hr.1.2

/-! The wake of a row by command (04 R105, R106). -/

@[simp] theorem joinQueue_rows (r : Nat) (s : State) : (joinQueue r s).rows = s.rows := by
  unfold joinQueue
  split <;> rfl

theorem wakeRow_keeps (r : Nat) (s : State) : Keeps [.power, .rows] s (wakeRow r s) :=
  (keeps_wakeRow r s (List.Subset.refl _)).2 Keeps.rfl'

/-- A wake is a matter of the row's own state: its cores, and the other rows, are as before. -/
theorem wakeRow_rows (r : Nat) (s : State) : ∃ f : Row → Row, (wakeRow r s).rows = s.rows.modify r f ∧ ∀ w, (f w).cores = w.cores := by
  have same (u : State) (e : u.rows = s.rows) : ∃ f : Row → Row, u.rows = s.rows.modify r f ∧ ∀ w, (f w).cores = w.cores :=
    ⟨id, by simp [e], fun _ => rfl⟩
  unfold wakeRow
  split
  · exact same _ rfl
  · unfold startWake
    split
    · exact same _ rfl
    · split
      · exact ⟨_, rfl, fun _ => rfl⟩
      · exact ⟨_, rfl, fun _ => rfl⟩
      · exact ⟨_, joinQueue_rows .., fun _ => rfl⟩
      · exact ⟨_, joinQueue_rows .., fun _ => rfl⟩
      · exact same _ rfl

section
variable (hd : rowIsDark s r = false) (ho : rowIsOut s r = false) (hh : s.therm.halt = false)
include hd ho hh

/-- A row in service, and no thermal halt: nothing hinders its wake. -/
theorem wake_unhindered :
    ¬ (rowIsDark s r || rowIsOut s r) = true ∧ ¬ (rowIsDark s r || rowIsOut s r || s.therm.halt) = true := by
  simp [hd, ho, hh]

/-- Its half is touched, then its own wake starts. -/
theorem wakeRow_of_nap (hn : (s.row r).st = .nap) :
    wakeRow r s = (touchHalf (halfOf r) s).modRow r (fun w => { w with st := .active, idleSince := s.tb }) := by
  obtain ⟨served, awake⟩ := wake_unhindered hd ho hh
  refine (if_neg served).trans ((if_neg awake).trans ?_)
  simp only [show ((touchHalf (halfOf r) s).row r).st = .nap from hn]
  rfl

theorem wakeRow_of_sleep (hn : (s.row r).st = .sleep) : wakeRow r s
    = joinQueue r ((touchHalf (halfOf r) s).modRow r (fun w => { w with st := .waking, fromSleep := w.st == .sleep })) := by
  obtain ⟨served, awake⟩ := wake_unhindered hd ho hh
  refine (if_neg served).trans ((if_neg awake).trans ?_)
  simp only [show ((touchHalf (halfOf r) s).row r).st = .sleep from hn]

end

/-! The rows as the operations of these commands leave them. -/

theorem rowPowerCheck_keeps (r : Nat) (s : State) : Keeps [.mem, .fab, .chavi, .mbx, .gw, .sec, .out] s (rowPowerCheck r s) :=
  (keeps_rowPowerCheck r s (List.Subset.refl _)).2 Keeps.rfl'

/-- A row that goes to OFF by command holds nothing any more (04 R108). -/
theorem rowToOff_row (hr : r < s.rows.length) : ((rowToOff r s).row r).st = .off ∧ ((rowToOff r s).row r).scb = [] := by
  obtain ⟨self, -⟩ := row_of_modify (t := rowToOff r s) (List.modify_modify_eq ..) hr
  rw [self]
  exact ⟨rfl, rfl⟩

theorem retryBegin_keeps (r : Nat) (s : State) : Keeps [.power, .rows] s (retryBegin r s) :=
  (keeps_retryBegin r s (List.Subset.refl _)).2 Keeps.rfl'

theorem retryBegin_row_st (hr : r < s.rows.length) : ((retryBegin r s).row r).st = .waking := by
  have rows : (retryBegin r s).rows = s.rows.modify r (fun w => { w with st := .waking, fromSleep := false }) := joinQueue_rows ..
  rw [(row_of_modify rows hr).1]

/-- The policy values of one row, or of all of them (04 R104; 11 R287). -/
def policySet (r a b c : Nat) (s : State) : State := s.modRows (·.mapIdx (fun i w => if r = 0xFF ∨ i = r then
  { w with tNap := keepOr a w.tNap, tSleep := keepOr b w.tSleep, tBank := keepOr c w.tBank } else w))

theorem policySet_row {a b c i : Nat} (hi : i < s.rows.length) (h : r = 0xFF ∨ i = r) : (policySet r a b c s).row i
    = { s.row i with tNap := keepOr a (s.row i).tNap, tSleep := keepOr b (s.row i).tSleep, tBank := keepOr c (s.row i).tBank } :=
  (nth_mapIdx (l := s.rows) _ hi).trans (if_pos h)

theorem policySet_rowsBut {a b c : Nat} (h : r ≠ 0xFF) : RowsBut r s (policySet r a b c s) :=
  fun q hq => nth_mapIdx_fixed s.rows (fun _ => if_neg (by simp [h, hq]))

theorem RowsBut.of_rows {u : State} (e : u.rows = t.rows) (h : RowsBut r s t) : RowsBut r s u := fun q hq => (row_of_rows e q).trans (h q hq)

theorem bank_of_rows (e : t.rows = s.rows) (r b : Nat) : t.bank r b = s.bank r b := congrArg (fun w : Row => nth w.banks b) (row_of_rows e r)

/-- A bank of a row, after an update of it. -/
theorem bank_modBank_self (f : Bank → Bank) (hr : r < s.rows.length) (hb : b < (s.row r).banks.length) :
    (s.modBank r b f).bank r b = f (s.bank r b) := by
  rw [State.bank, (row_of_modify (t := s.modBank r b f) rfl hr).1]
  exact nth_modify_self f hb

end

section
variable {s : State} {h : CmdHdr} {r st b c p w a : Nat} {e : State → State}

/-! ROW_POWER (04 R108, R601): a row that is neither OUT nor DARK, and for OFF not in use, comes to its own cases. -/

section
variable (g : GwGo s h false 0 (objRow r)) (hr : r < 12) (hst : st ≤ 2)
include g hr hst

theorem execRowPower_out (ho : rowIsOut s r = true) :
    ∃ t, execRowPower h r st s = .next t ∧ Replied s t h 0x0202 .unitRetired [] [] ∧ Keeps gwF s t :=
  gwCommand_refuses g (fun m => by simp [hr, hst, ho])

variable (ho : rowIsOut s r = false)
include ho

theorem execRowPower_dark (hd : rowIsDark s r = true) :
    ∃ t, execRowPower h r st s = .next t ∧ Replied s t h 0x0202 .rowDark [] [] ∧ Keeps gwF s t :=
  gwCommand_refuses g (fun m => by simp [hr, hst, ho, hd])

variable (hd : rowIsDark s r = false)
include hd

omit hst in
theorem execRowPower_inUse (hu : rowInUse s r = true) :
    ∃ t, execRowPower h r 1 s = .next t ∧ Replied s t h 0x0202 .rowInUse [] [] ∧ Keeps gwF s t :=
  gwCommand_refuses g (fun m => by simp [hr, ho, hd, (rowIsDark_eq_false hd).2.1, hu])

variable (hu : st = 1 → rowInUse s r = false)
include hu

theorem execRowPower_answers (hb : ∀ m, rowPowerGo r st (s.modMbx m) = .now .ok [] [] (e (s.modMbx m))) (ht : ∀ m, (e (s.modMbx m)).tb = s.tb) :
    ∃ t m, execRowPower h r st s = .next t ∧ Replied s t h 0x0202 .ok [] [] ∧ Keeps gwF (e (s.modMbx m)) t := by
  have legal : ¬ (12 ≤ r ∨ 2 < st) := by omega
  have free : ¬ (st = 1 ∧ rowInUse s r = true) := fun c => absurd ((hu c.1).symm.trans c.2) (by decide)
  exact gwCommand_answers g (fun m => by simp [legal, free, ho, hd, (rowIsDark_eq_false hd).2.1, hb m]) ht

theorem execRowPower_accepts (hb : ∀ m, rowPowerGo r st (s.modMbx m) = .later wRowPower (256 * r + st) (e (s.modMbx m))) (hg : ∀ m, (e (s.modMbx m)).gw = s.gw) :
    ∃ t m, execRowPower h r st s = .next t ∧ Accepted s t h 0x0202 wRowPower (256 * r + st) (objRow r) ∧ Keeps [.gw] (e (s.modMbx m)) t := by
  have legal : ¬ (12 ≤ r ∨ 2 < st) := by omega
  have free : ¬ (st = 1 ∧ rowInUse s r = true) := fun c => absurd ((hu c.1).symm.trans c.2) (by decide)
  exact gwCommand_accepts g (fun m => by simp [legal, free, ho, hd, (rowIsDark_eq_false hd).2.1, hb m]) hg

end

/-! The other commands, as far as they are legal. -/

/-- ROW_POWER_POLICY (04 R104; 11 R287). -/
theorem execRowPowerPolicy_sets {a b c : Nat} (g : GwGo s h false 0 (objRow r)) (hr : r < 12 ∨ r = 0xFF) (ha : policyOk a 50 50000 = true)
    (hb : policyOk b 2500 (2 ^ 32 - 2) = true) (hc : policyOk c 500 (2 ^ 32 - 2) = true) :
    ∃ t m, execRowPowerPolicy h r a b c s = .next t ∧ Replied s t h 0x0201 .ok [] [] ∧ Keeps gwF (policySet r a b c (s.modMbx m)) t := by
  have known : ¬ (12 ≤ r ∧ r ≠ 0xFF) := by omega
  exact gwCommand_answers g (fun m => if_neg (by simp only [known, ha, hb, hc]; decide)) (fun m => rfl)

/-- ROW_REARM of a row that is DARK: the retry starts at once, its automatic one available again (03 R83). -/
theorem execRowRearm_dark (g : GwGo s h false 0 (objRow r)) (hr : r < 12) (hd : (s.conv r).st = .dark) :
    ∃ t m, execRowRearm h r s = .next t ∧ Accepted s t h 0x0203 wRearm r (objRow r)
      ∧ Keeps [.gw] (retryBegin r ((s.modMbx m).modConv r (fun c => { c with retryUsed := false }))) t :=
  gwCommand_accepts (e := fun u => retryBegin r (u.modConv r (fun c => { c with retryUsed := false }))) g
    (fun m => by simp [hr, hd]) (fun m => retryBegin_keeps r _ .gw (by decide))

theorem execRowRearm_notDark (g : GwGo s h false 0 (objRow r)) (hr : r < 12) (hd : (s.conv r).st ≠ .dark) :
    ∃ t, execRowRearm h r s = .next t ∧ Replied s t h 0x0203 .unitBusy [] [] ∧ Keeps gwF s t :=
  gwCommand_refuses g (fun m => by simp [hr, hd])

section
variable (g : GwGo s h false 0 (objBank r b)) (hr : r < 12) (hb : b < 40) (ho : rowIsOut s r = false) (hrun : rowRuns s r = true)
  (hs : stagedOut s r = true)
include g hr hb ho hrun hs

/-- BANK_POWER of a row that runs and whose banks are staged comes to the bank's own cases (11 R288, R289). -/
theorem execBankPower_refuses {c : Code} (hst : st ≤ 1) (hret : (s.bank r b).st ≠ .retired)
    (hd : ∀ m, (if st = 0 then bankOff r b (s.modMbx m) else bankOn r b (s.modMbx m)) = .now c [] [] (s.modMbx m)) :
    ∃ t, execBankPower h r b st s = .next t ∧ Replied s t h 0x0204 c [] [] ∧ Keeps gwF s t := by
  have hdark := rowRuns_not_dark hrun
  have legal : ¬ (12 ≤ r ∨ 40 ≤ b ∨ 1 < st) := by omega
  exact gwCommand_refuses g (fun m => by simp [legal, ho, hret, hdark, (rowIsDark_eq_false hdark).2.1, hrun, hs, hd m])

theorem execBankPower_accepts {f : Bank → Bank} (hst : st ≤ 1) (hret : (s.bank r b).st ≠ .retired)
    (hd : ∀ m, (if st = 0 then bankOff r b (s.modMbx m) else bankOn r b (s.modMbx m)) = .later w (40 * r + b) ((s.modMbx m).modBank r b f)) :
    ∃ t, execBankPower h r b st s = .next t ∧ Accepted s t h 0x0204 w (40 * r + b) (objBank r b) ∧ t.rows = (s.modBank r b f).rows := by
  have hdark := rowRuns_not_dark hrun
  have legal : ¬ (12 ≤ r ∨ 40 ≤ b ∨ 1 < st) := by omega
  obtain ⟨t, m, e, ha, hk⟩ : ∃ t m, execBankPower h r b st s = .next t ∧ Accepted s t h 0x0204 w (40 * r + b) (objBank r b)
      ∧ Keeps [.gw] ((s.modMbx m).modBank r b f) t :=
    gwCommand_accepts (e := (·.modBank r b f)) g
      (fun m => by simp [legal, ho, hret, hdark, (rowIsDark_eq_false hdark).2.1, hrun, hs, hd m]) (fun m => rfl)
  exact ⟨t, e, ha, hk .rows (by decide)⟩

end

/-- WATCHDOG of a bound slot: the row is woken and the period set (10 R258; 04 R105). -/
theorem execWatchdog_sets (g : GwGo s h false 0 (objRow r)) (hr : r < 12) (hc : c < 8) (lo : 50 ≤ p) (hi : p ≤ 500000)
    (ho : rowIsOut s r = false) (hd : rowIsDark s r = false) (hp : prmPos s r c ≠ none) :
    ∃ t m, execWatchdog h r c p s = .next t ∧ Replied s t h 0x0209 .ok [] []
      ∧ Keeps gwF ((wakeRow r (s.modMbx m)).modCore r c (fun x => { x with period := p })) t := by
  have legal : ¬ (12 ≤ r ∨ 8 ≤ c ∨ p < 50 ∨ 500000 < p) := by omega
  exact gwCommand_answers (e := fun u => (wakeRow r u).modCore r c (fun x => { x with period := p })) g
    (fun m => by simp [legal, ho, hd, hp]) (fun m => congrArg Clk.tb (wakeRow_keeps r (s.modMbx m) .clk (by decide)))

end

/-- Settles O46: a taken command ends as its meaning does, and each meaning updates one row, bank or core. -/
theorem rowAndBankCommands : Obligations.RowAndBankCommands := by
  refine ⟨fun s h r a b c g hr ha hb hc => ?policy,
    fun s h r g hr hl ho hd => ⟨fun hs => ?sleep, fun hs => ?asleep, fun hs hu => ?off, fun hs hu => ?offAsleep,
      fun hs hh => ?wakeNap, fun hs hh => ?wakeSleep,
      execRowPower_inUse g hr ho hd⟩,
    fun s h r st g hr hst => ⟨execRowPower_out g hr hst, execRowPower_dark g hr hst⟩,
    fun s h r g hr hc hl => ⟨fun hd => ?rearm, fun hd => ?notDark⟩,
    fun s h r b g hr hb hl hbl ho hrun hs => ⟨fun hst hu hin => ?bankOff, fun hst hu => ?bankUsed, fun hst => ?bankOn, fun hst => ?bankWake⟩,
    fun s h r c p g hr hc hl hcl lo hi ho hd hp => ?watchdog⟩
  case policy =>
    obtain ⟨t, m, e, ha, hk⟩ := execRowPowerPolicy_sets g hr ha hb hc
    have rows : t.rows = (policySet r a b c (s.modMbx m)).rows := hk .rows (by decide)
    refine ⟨t, e, ha, Keeps.trans (t := policySet r a b c (s.modMbx m)) (by simp [policySet, gwF])
      (hk.mono (List.subset_cons_self ..)), fun i hi hri => ?_, fun hne => ?_⟩
    · exact (row_of_rows rows i).trans (policySet_row (s := s.modMbx m) hi hri)
    · exact (policySet_rowsBut (s := s.modMbx m) hne).of_rows rows
  case sleep =>
    obtain ⟨t, m, e, ha, hk⟩ := execRowPower_accepts (st := 0) (e := (·.modRow r (fun w => { w with target := some .sleep })))
      g hr (by decide) ho hd nofun
      (fun m => by simp [rowPowerGo, hs]) (fun m => rfl)
    obtain ⟨self, others⟩ := row_of_modify (s := s) (t := t) (hk .rows (by decide)) hl
    exact ⟨t, e, ha, self, others⟩
  case asleep =>
    obtain ⟨t, m, e, ha, hk⟩ := execRowPower_answers (st := 0) (e := id) g hr (by decide) ho hd nofun
      (fun m => by simp [rowPowerGo, hs]) (fun m => rfl)
    exact ⟨t, e, ha, Keeps.trans (t := s.modMbx m) (by simp [gwF]) hk⟩
  case off =>
    obtain ⟨t, m, e, ha, hk⟩ := execRowPower_accepts (st := 1) (e := (·.modRow r (fun w => { w with target := some .off })))
      g hr (by decide) ho hd (fun _ => hu)
      (fun m => by simp [rowPowerGo, hs]) (fun m => rfl)
    obtain ⟨self, -⟩ := row_of_modify (s := s) (t := t) (hk .rows (by decide)) hl
    exact ⟨t, e, ha, self⟩
  case offAsleep =>
    obtain ⟨t, m, e, ha, hk⟩ := execRowPower_answers (st := 1) (e := fun u => rowPowerCheck r (rowToOff r u)) g hr (by decide) ho hd (fun _ => hu)
      (fun m => by simp [rowPowerGo, hs]) (fun m => congrArg Clk.tb (rowPowerCheck_keeps r (rowToOff r (s.modMbx m)) .clk (by decide)))
    have rows : t.rows = (rowToOff r (s.modMbx m)).rows := (hk .rows (by decide)).trans (rowPowerCheck_keeps r _ .rows (by decide))
    obtain ⟨off, empty⟩ := rowToOff_row (s := s.modMbx m) hl
    exact ⟨t, e, ha, by rw [row_of_rows rows, off], by rw [row_of_rows rows, empty]⟩
  case wakeNap =>
    obtain ⟨t, m, e, ha, hk⟩ := execRowPower_answers (st := 2) (e := wakeRow r) g hr (by decide) ho hd nofun (fun m => by simp [rowPowerGo, hs])
      (fun m => congrArg Clk.tb (wakeRow_keeps r (s.modMbx m) .clk (by decide)))
    have rows := (hk .rows (by decide)).trans (congrArg State.rows (wakeRow_of_nap (s := s.modMbx m) hd ho hh hs))
    exact ⟨t, e, ha, by rw [(row_of_modify (s := s) rows hl).1]⟩
  case wakeSleep =>
    obtain ⟨t, m, e, ha, hk⟩ := execRowPower_accepts (st := 2) (e := wakeRow r) g hr (by decide) ho hd nofun (fun m => by simp [rowPowerGo, hs])
      (fun m => wakeRow_keeps r (s.modMbx m) .gw (by decide))
    have rows := (hk .rows (by decide)).trans ((congrArg State.rows (wakeRow_of_sleep (s := s.modMbx m) hd ho hh hs)).trans (joinQueue_rows ..))
    exact ⟨t, e, ha, by rw [(row_of_modify (s := s) rows hl).1]⟩
  case rearm =>
    obtain ⟨t, m, e, ha, hk⟩ := execRowRearm_dark g hr hd
    have convs := (congrArg Power.conv (hk .power (by decide))).trans (retryBegin_convs ..)
    obtain ⟨self, -⟩ := conv_of_modify (s := s) (convs.trans (List.modify_modify_eq ..)) hc
    refine ⟨t, e, ha, by rw [self]; rfl, by rw [self]; rfl, by rw [self]; rfl, ?_⟩
    exact (congrArg Row.st (row_of_rows (hk .rows (by decide)) r)).trans (retryBegin_row_st hl)
  case notDark => exact execRowRearm_notDark g hr hd
  case bankOff =>
    obtain ⟨t, e, ha, rows⟩ := execBankPower_accepts (st := 0) (w := wBankOff) (f := fun k => { k with st := .entering, toOff := true })
      g hr hb ho hrun hs (by decide) (by simp [hst]) (fun m => by simp [bankOff, hst, hu, hin])
    obtain ⟨-, others⟩ := row_of_modify (s := s) rows hl
    exact ⟨t, e, ha, by rw [bank_of_rows rows, bank_modBank_self _ hl hbl], others⟩
  case bankUsed => exact execBankPower_refuses (st := 0) g hr hb ho hrun hs (by decide) (by simp [hst]) (fun m => by simp [bankOff, hst, hu])
  case bankOn => exact execBankPower_refuses (st := 1) g hr hb ho hrun hs (by decide) (by simp [hst]) (fun m => by simp [bankOn, hst])
  case bankWake =>
    obtain ⟨t, e, ha, rows⟩ := execBankPower_accepts (st := 1) (w := wBank) (f := fun k => { k with st := .waking, fromOff := true })
      g hr hb ho hrun hs (by decide) (by simp [hst]) (fun m => by simp [bankOn, hst])
    exact ⟨t, e, ha, by rw [bank_of_rows rows, bank_modBank_self _ hl hbl]⟩
  case watchdog =>
    obtain ⟨t, m, e, ha, hk⟩ := execWatchdog_sets g hr hc lo hi ho hd hp
    obtain ⟨f, woken, cores⟩ := wakeRow_rows r (s.modMbx m)
    have rows := (hk .rows (by decide)).trans (congrArg (fun l : List Row => l.modify r _) woken)
    obtain ⟨self, others⟩ := row_of_modify (s := s) (rows.trans (List.modify_modify_eq ..)) hl
    refine ⟨t, e, ha, ?_, others⟩
    have there : c < (f (s.row r)).cores.length := by rw [cores]; exact hcl
    rw [State.core, self]
    exact (nth_modify_self _ there).trans (by rw [cores]; rfl)

end Sys2Proof.Machine
end

section
/-! PROOFS. Power and temperature control (03 R78; 12 R310; 19 R513 to R532). -/

namespace Sys2Proof.Machine

section
variable {s t : State}

/-! The controller (19 R512 to R516): what the ceiling changes is the arming of a step and the controller's own fields. -/

@[simp] theorem errRecord_cap (x : Rec) (s : State) : (errRecord x s).cap = s.cap := errRecord_keeps x s .cap (by decide)
@[simp] theorem errRecord_therm (x : Rec) (s : State) : (errRecord x s).therm = s.therm := errRecord_keeps x s .therm (by decide)

theorem armCeiling_drop {n : Nat} (hn : n < s.clk.cur) (hp : s.clk.pend = false) : armCeiling n s = armStep n s :=
  (if_neg (Nat.ne_of_lt hn)).trans ((if_pos hn).trans (if_pos hp))

theorem armStep_drop {n : Nat} (hn : n < s.clk.cur) :
    armStep n s = s.modClk (fun c => { c with next := n, stepAt := s.tb + 50, pend := true, armed := true }) := by
  have lead : (if s.clk.cur < n then 2500 else 50) = 50 := if_neg (Nat.not_lt.2 (Nat.le_of_lt hn))
  simp [armStep, State.modClk, lead]

/-- The controller's state without what an evaluation of the ceiling sets. -/
def capRest (c : Cap) : Cap := { c with ceiling := 0, limit := 0, last515 := none, dropDue := false }

theorem armCeiling_cap (n : Nat) (s : State) : capRest (armCeiling n s).cap = capRest s.cap := by
  have withdrawn : (withdrawStep s).cap = s.cap := by
    unfold withdrawStep
    split <;> rfl
  unfold armCeiling
  split
  · rfl
  · split
    · split
      · rfl
      · split
        · exact congrArg capRest withdrawn
        · rfl
    · split <;> rfl

theorem ceilingEval_cap (s : State) : capRest (ceilingEval s).cap = capRest s.cap := by
  unfold ceilingEval
  split
  · rfl
  · refine (armCeiling_cap ..).trans ?_
    split
    · rw [errRecord_cap]
      rfl
    · rfl

theorem ceilingEval_keeps (s : State) : Keeps [.clk, .fab, .chavi, .mbx, .gw, .err, .cap, .sec, .attn, .out] s (ceilingEval s) :=
  (keeps_ceilingEval s (List.Subset.refl _)).2 Keeps.rfl'

theorem execPowerFastCheck_fails {m : FastMeans} (ha : alive s = true) (hb : s.boot.st = .ready) (hc : s.clk.cur ≠ 0) (hp : s.clk.pend = false)
    (hf : fastFails m s = true) : execPowerFastCheck m s = .next ((s.modClk (fun c => { c with
      next := s.clk.cur - 1, stepAt := s.tb + 50, pend := true, armed := true })).modCap (fun c => { c with lastDrop := some s.tb })) := by
  have lower : s.clk.cur - 1 < s.clk.cur := by omega
  unfold execPowerFastCheck
  rw [if_pos ⟨ha, hb, hc, hf⟩, armCeiling_drop lower hp, armStep_drop lower]

/-! Markers (19 R517). -/

/-- The oldest marker on its way has reached its slot. -/
def markerTaken (r k p d : Nat) (l : List (Nat × Nat × Nat × Nat)) (s : State) : State :=
  (s.modTile r k (fun x => { x with phase := p })).modCap (fun c => { c with
    markers := l, phases := if p = 0 then c.phases else phaseSeen p d c.phases })

theorem execPhaseMarker_cons {r k p d : Nat} {l : List (Nat × Nat × Nat × Nat)} (hm : s.cap.markers = (r, k, p, d) :: l) :
    execPhaseMarker s = .next (if s.clk.armed then markerTaken r k p d l s else ceilingEval (markerTaken r k p d l s)) := by
  simp only [execPhaseMarker, hm]
  rfl

theorem tile_of_rows (e : t.rows = s.rows) (r k : Nat) : t.tile r k = s.tile r k := congrArg (fun w : Row => nth w.tiles k) (row_of_rows e r)

theorem modTile_tile_self {r k : Nat} (f : Tile → Tile) (hr : r < s.rows.length) (hk : k < (s.row r).tiles.length) :
    (s.modTile r k f).tile r k = f (s.tile r k) := by
  rw [State.tile, (row_of_modify (t := s.modTile r k f) rfl hr).1]
  exact nth_modify_self f hk

theorem modTile_tile_of_ne {r k q : Nat} (f : Tile → Tile) (hr : r < s.rows.length) (hq : q ≠ k) : (s.modTile r k f).tile r q = s.tile r q := by
  rw [State.tile, (row_of_modify (t := s.modTile r k f) rfl hr).1]
  exact nth_modify_of_ne _ f hq

/-! Readings and the thermal halt (19 R520, R523). -/

theorem mget_mset_self {α : Type} (m : List (Nat × α)) (k : Nat) (v : α) : mget (mset m k v) k = some v := by
  induction m with
  | nil => simp [mset, mget]
  | cons d l ih =>
    obtain ⟨j, w⟩ := d
    by_cases lt : k < j
    · simp [mset, mget, lt]
    · by_cases eq : k = j
      · simp [mset, mget, eq]
      · have ne : j ≠ k := fun e => eq e.symm
        simp [mset, mget, lt, eq, ne, ih]

theorem nth_map {α β : Type} [Inhabited α] [Inhabited β] {l : List α} {k : Nat} (f : α → β) (h : k < l.length) : nth (l.map f) k = f (nth l k) := by
  simp [nth, h]

/-- The filter of a sensor once a reading has entered it. -/
def sampled (k : Nat) (v : Int) (s : State) : List (Nat × List Int) :=
  mset s.therm.samples k ((taken s k v :: (mget s.therm.samples k).getD []).take (filtLen k))

theorem readings_of_samples {k n : Nat} {v : Int} (e : t.therm.samples = sampled k v s) :
    readings t k n = ((taken s k v :: (mget s.therm.samples k).getD []).take (filtLen k)).take n := by
  rw [readings, e, sampled, mget_mset_self]
  rfl

theorem senseIn_samples (k : Nat) (v : Int) (s : State) : (senseIn k v s).therm.samples = sampled k v s := by
  unfold senseIn
  simp only [apply_ite State.therm, apply_ite Therm.samples]
  repeat' split
  all_goals rfl

theorem senseIn_halt (k : Nat) (v : Int) (s : State) : (senseIn k v s).therm.halt = s.therm.halt := by
  unfold senseIn
  repeat' split
  all_goals rfl

theorem senseIn_clk (k : Nat) (v : Int) (s : State) : (senseIn k v s).clk = s.clk :=
  (keeps_senseIn k v s (List.Subset.refl _)).2 Keeps.rfl' .clk (by decide)

theorem senseIn_rows (k : Nat) (v : Int) (s : State) : (senseIn k v s).rows = s.rows := by
  unfold senseIn
  repeat' split
  all_goals rfl

/-- A reading of a die, bridge or stack as it bears on the thermal ceiling (19 R521). -/
def sensed (k : Nat) (v : Int) (s : State) : State :=
  (senseIn k v s).modTherm (fun t => { t with
    hot := t.hot || (k != 48 && isHot (senseIn k v s) k)
    coolSince := if allCool (senseIn k v s) then some (t.coolSince.getD (senseIn k v s).tb) else none })

theorem sense_die {k : Nat} (v : Int) (ha : alive s = true) (hk : k < 61) : sense k v s =
    if atLeast (readings (sensed k v s) k (critLen k)) (critAt k) && !s.therm.halt then thermalHalt k (sensed k v s) else sensed k v s := by
  have heard : ¬ (alive s = false ∨ nSensors ≤ k ∨ 61 ≤ k ∧ (s.sw (k - 61)).st ≠ .on) := by
    rintro (c | c | c)
    · exact absurd (ha.symm.trans c) (by decide)
    · have far : 85 ≤ k := c
      omega
    · omega
  unfold sense
  rw [if_neg heard, ← senseIn_halt k v s]
  exact if_pos hk

theorem offNow_keeps (r : Nat) (s : State) : Keeps [.power, .rows, .mem, .fab, .chavi, .mbx, .rings, .gw, .err, .sec, .attn, .out] s (offNow r s) :=
  (keeps_offNow r s (List.Subset.refl _)).2 Keeps.rfl'

theorem thermalHalt_therm (k : Nat) (s : State) : (thermalHalt k s).therm = { s.therm with halt := true } := by
  have kept := each_fixed (List.range 12) State.therm (fun r u => offNow_keeps r u .therm (by decide)) (s.modTherm (fun t => { t with halt := true }))
  unfold thermalHalt
  simp only [errRecord_therm, State.modMem_therm, State.modClk_therm, kept, State.modTherm_therm]

/-- What a reading of a die, bridge or stack leaves in the filters. -/
theorem sense_samples {k : Nat} (v : Int) (ha : alive s = true) (hk : k < 61) : (sense k v s).therm.samples = sampled k v s := by
  rw [sense_die v ha hk]
  split
  · rw [thermalHalt_therm]
    exact senseIn_samples ..
  · exact senseIn_samples ..

theorem taken_of_not_row {k : Nat} (s : State) (v : Int) (hk : 48 ≤ k) : taken s k v = v := if_neg (fun c => absurd c.1 (Nat.not_lt.2 hk))

theorem thermalHalt_clk (k : Nat) (s : State) : (thermalHalt k s).clk = { s.clk with cur := 0, next := 0, pend := false, armed := false } := by
  have kept := each_fixed (List.range 12) State.clk (fun r u => offNow_keeps r u .clk (by decide)) (s.modTherm (fun t => { t with halt := true }))
  unfold thermalHalt
  simp only [errRecord_clk, State.modMem_clk, State.modClk_clk, kept, State.modTherm_clk]

/-! The stacks and channels as a row in OFF leaves them: its completions and its contents are bytes of memory (04 R108; 17 R482). -/

theorem mbxWrite_mem (n : Nat) (msg : List Byte) (sid : Nat) (s : State) : (mbxWrite n msg sid s).2.mem = s.mem :=
  (keeps_mbxWrite n msg sid s (List.Subset.refl _)).2 Keeps.rfl' .mem (by decide)

theorem chaviSend_mem (p : ChaviOut) (s : State) : (chaviSend p s).mem = s.mem :=
  (keeps_chaviSend p s (List.Subset.refl _)).2 Keeps.rfl' .mem (by decide)

theorem writeCpl_units (n : Nat) (e : List Byte) (s : State) : (writeCpl n e s).mem.units = s.mem.units := by
  unfold writeCpl
  split
  · rfl
  · next g _ =>
    have written : (if accessCode s true (g.cqAddr g.cpi) 64 = .ok then memWrite s (g.cqAddr g.cpi) (stampCpl g s.tb e) else s).mem.units
        = s.mem.units := by split <;> rfl
    dsimp only
    split
    · rw [chaviSend_mem]
      exact written
    · exact written

theorem deliverCpl_units (n : Nat) (g : RqRing) (e : List Byte) (st : Nat) (s : State) : (deliverCpl n g e st s).2.mem.units = s.mem.units := by
  unfold deliverCpl
  split
  · next ch _ =>
    split
    · rfl
    · exact congrArg Mem.units (mbxWrite_mem ..)
  · split
    · rfl
    · exact writeCpl_units ..

theorem postDevice_units (n : Nat) (e : List Byte) (st : Nat) (s : State) : (postDevice n e st s).mem.units = s.mem.units := by
  unfold postDevice
  split
  · rfl
  · next g _ =>
    have delivered := deliverCpl_units n g e st s
    dsimp only
    split
    · rfl
    · split
      · rfl
      · split
        · next d => rwa [d] at delivered
        · rfl
        · rw [errRecord_mem]

theorem endRequests_units (n : Nat) (p : Req → Bool) (c : Code) (s : State) : (endRequests n p c s).mem.units = s.mem.units := by
  unfold endRequests
  split
  · rfl
  · exact each_fixed _ (·.mem.units) (fun _ _ => postDevice_units ..) _

theorem endUnpopped_units (k n : Nat) (c : Code) (s : State) : (endUnpopped k n c s).mem.units = s.mem.units := by
  induction k generalizing s with
  | zero => rfl
  | succ k ih =>
    unfold endUnpopped
    split
    · rfl
    · split
      · rfl
      · exact (ih _).trans (postDevice_units ..)

theorem endRowRings_units (r : Nat) (s : State) : (endRowRings r s).mem.units = s.mem.units :=
  each_fixed _ (·.mem.units) (fun _ _ => (endUnpopped_units ..).trans (endRequests_units ..)) s

theorem forceOff_units (r : Nat) (s : State) : (forceOff r s).mem.units = s.mem.units := by
  have ended := endRowRings_units r (poisonRow r s)
  unfold forceOff
  dsimp only
  split <;> exact ended

theorem completeCmd_mem (k : Cmd) (c : Code) (s : State) : (completeCmd k c [] [] s).mem = s.mem := by
  unfold completeCmd
  exact finish_keeps _ _ _ _ .mem (by decide)

theorem completeWait_mem (w a : Nat) (c : Code) (s : State) : (completeWait w a c [] [] s).mem = s.mem :=
  each_fixed _ State.mem (fun k u => completeCmd_mem k c u) s

theorem rowPowerCheck_mem (r : Nat) (s : State) : (rowPowerCheck r s).mem = s.mem := by
  have banks (u : State) : (each (List.range 40) (fun b s => if (s.bank r b).st == .off then completeWait wBankOff (40 * r + b) .ok [] [] s else s) u).mem
      = u.mem := by
    refine each_fixed _ State.mem (fun b v => ?_) u
    split
    · exact completeWait_mem ..
    · rfl
  simp only [rowPowerCheck, apply_ite State.mem, completeWait_mem, banks, ite_self]

theorem offNow_units (r : Nat) (s : State) : (offNow r s).mem.units = s.mem.units :=
  (congrArg Mem.units (rowPowerCheck_mem ..)).trans (forceOff_units r s)

theorem thermalHalt_units (k : Nat) (s : State) :
    (thermalHalt k s).mem.units = s.mem.units.map (fun x => { x with selfRefresh := x.st != .absent }) := by
  have kept := each_fixed (List.range 12) (·.mem.units) (fun r u => offNow_units r u) (s.modTherm (fun t => { t with halt := true }))
  unfold thermalHalt
  simp only [errRecord_mem, State.modMem_mem, State.modClk_mem, kept, State.modTherm_mem]

theorem filtLen_stack (u : Nat) : filtLen (53 + u) = 4 := by
  have spine : 53 + u ≠ 48 := by omega
  simp [filtLen, spine]

/-- A stack's readout becomes its temperature: the mean of the last four (12 R310; 19, Table 19.3). -/
theorem senseIn_stack_units {u : Nat} (v : Int) (hu : u < 8) : ∃ fast, (senseIn (53 + u) v s).mem.units
    = s.mem.units.modify u (fun x => { x with temp := meanOf (readings (senseIn (53 + u) v s) (53 + u) 4), refreshFast := fast }) := by
  have row : ¬ 53 + u < 48 := by omega
  have spine : 53 + u ≠ 48 := by omega
  have bridge : ¬ 53 + u < 53 := by omega
  have stack : 53 + u < 61 := by omega
  have same : readings (senseIn (53 + u) v s) (53 + u) 4 = readings (s.modTherm (fun t => { t with samples := sampled (53 + u) v s })) (53 + u) (filtLen (53 + u)) := by
    rw [readings, senseIn_samples, filtLen_stack]
    rfl
  refine ⟨decide (fastRefreshAt ≤ meanOf (readings (senseIn (53 + u) v s) (53 + u) 4)), ?_⟩
  rw [same]
  unfold senseIn
  rw [if_neg row, if_neg spine, if_neg bridge, if_pos stack, Nat.add_sub_cancel_left]
  rfl

theorem sense_stack {u : Nat} (v : Int) (ha : alive s = true) (hu : u < 8) (hl : u < s.mem.units.length) :
    ((sense (53 + u) v s).memUnit u).temp = meanOf (readings (sense (53 + u) v s) (53 + u) 4) := by
  obtain ⟨fast, units⟩ := senseIn_stack_units (s := s) v hu
  have temp : ((sensed (53 + u) v s).memUnit u).temp = meanOf (readings (sensed (53 + u) v s) (53 + u) 4) := by
    rw [State.memUnit, show (sensed (53 + u) v s).mem.units = _ from units, nth_modify_self _ hl]
    rfl
  rw [sense_die v ha (by omega)]
  split
  · have there : u < (sensed (53 + u) v s).mem.units.length := by
      rw [show (sensed (53 + u) v s).mem.units = _ from units, List.length_modify]
      exact hl
    rw [State.memUnit, thermalHalt_units, nth_map _ there, readings, thermalHalt_therm]
    exact temp
  · exact temp

/-! Windows (03 R78; 19 R521, R524). -/

/-- The domains after a window: their sequence numbers move on, and those that are fitted take its measurements. -/
def domWindow (w : PowerWindow) (s : State) : State := s.modPower (fun p => { p with dom := p.dom.mapIdx (fun n d =>
  let d := { d with seq := (d.seq + 1) % 256 }
  if domFitted s n then { d with avg := sat 16 (nth w.avg n), peak := sat 16 (nth w.peak n), volt := sat 16 (nth w.volt n) }
  else { d with st := .absent }) })

/-- What the controller learns from a window (19 R518). -/
def windowLearnt (w : PowerWindow) (s : State) : State :=
  let s := s.modCap (fun c => { c with rowCur := (List.range 12).map (fun r => nth w.avg (5 + r)) })
  if s.tb < s.cap.lastStepTb + 50000 ∧ s.cap.lastStepTb ≠ 0 then s
  else s.modCap (fun c => (List.range 12).foldl (fun c r => learnRow w s.clk.cur r c) c)

theorem execPowerWindowEnd_due (w : PowerWindow) (ha : alive s = true) (hm : s.tb % 50000 = 0) (h0 : 0 < s.tb) :
    execPowerWindowEnd w s = .next ((ceilingEval (thermWindow (recordEnergy w.energy (windowLearnt w (domWindow w s))))).modCap (fun c => { c with
      win := lastN 100 (c.win ++ [(domMw (ceilingEval (thermWindow (recordEnergy w.energy (windowLearnt w (domWindow w s))))) 0, c.limit == 1)]) })) :=
  if_pos ⟨ha, hm, h0⟩

theorem learnRow_meter (w : PowerWindow) (st r : Nat) (c : Cap) : (learnRow w st r c).meter = c.meter := by
  unfold learnRow
  dsimp only
  split <;> rfl

theorem windowLearnt_meter (w : PowerWindow) (s : State) : (windowLearnt w s).cap.meter = s.cap.meter := by
  have learnt (l : List Nat) (st : Nat) (c : Cap) : (l.foldl (fun c r => learnRow w st r c) c).meter = c.meter := by
    induction l generalizing c with
    | nil => rfl
    | cons r l ih => exact (ih _).trans (learnRow_meter ..)
  unfold windowLearnt
  dsimp only
  split
  · rfl
  · exact learnt ..

theorem attnSettle_keeps (s : State) : Keeps [.chavi, .sec, .attn, .out] s (attnSettle s) :=
  (keeps_attnSettle s (List.Subset.refl _)).2 Keeps.rfl'

@[simp] theorem attnSettle_cap (s : State) : (attnSettle s).cap = s.cap := attnSettle_keeps s .cap (by decide)
@[simp] theorem attnSettle_therm (s : State) : (attnSettle s).therm = s.therm := attnSettle_keeps s .therm (by decide)

theorem thermWindow_meter (s : State) : (thermWindow s).cap.meter = s.cap.meter := by
  unfold thermWindow
  simp only [apply_ite State.cap, apply_ite Cap.meter, State.modTherm_cap, errRecord_cap, attnSettle_cap, State.modCap_cap, ite_self]

theorem windowLearnt_power (w : PowerWindow) (s : State) : (windowLearnt w s).power = s.power := by
  unfold windowLearnt
  dsimp only
  split <;> rfl

theorem recordEnergy_power (e : Nat) (s : State) : (recordEnergy e s).power = s.power :=
  (keeps_recordEnergy e s (List.Subset.refl _)).2 Keeps.rfl' .power (by decide)

theorem thermWindow_power (s : State) : (thermWindow s).power = s.power :=
  (keeps_thermWindow s (List.Subset.refl _)).2 Keeps.rfl' .power (by decide)

/-- The energy of a window is metered (19 R524); the domains are those of the window. -/
theorem execPowerWindowEnd_measures (w : PowerWindow) (ha : alive s = true) (hm : s.tb % 50000 = 0) (h0 : 0 < s.tb) :
    ∃ t, execPowerWindowEnd w s = .next t ∧ t.cap.meter = (s.cap.meter + w.energy) % 2 ^ 64 ∧ t.power = (domWindow w s).power := by
  refine ⟨_, execPowerWindowEnd_due w ha hm h0, ?_, ?_⟩
  · have evaluated := congrArg Cap.meter (ceilingEval_cap (thermWindow (recordEnergy w.energy (windowLearnt w (domWindow w s)))))
    refine evaluated.trans ((thermWindow_meter _).trans ?_)
    exact congrArg (fun m => (m + w.energy) % 2 ^ 64) (windowLearnt_meter w (domWindow w s))
  · have evaluated := ceilingEval_keeps (thermWindow (recordEnergy w.energy (windowLearnt w (domWindow w s)))) .power (by decide)
    exact evaluated.trans ((thermWindow_power _).trans ((recordEnergy_power ..).trans (windowLearnt_power ..)))

/-- A domain of the power tree after a window (03 R78). -/
theorem domWindow_dom {n : Nat} (w : PowerWindow) (hn : n < s.power.dom.length) :
    (nth (domWindow w s).power.dom n).seq = ((nth s.power.dom n).seq + 1) % 256
    ∧ (domFitted s n = true → (nth (domWindow w s).power.dom n).avg = sat 16 (nth w.avg n) ∧ (nth (domWindow w s).power.dom n).peak = sat 16 (nth w.peak n)
      ∧ (nth (domWindow w s).power.dom n).volt = sat 16 (nth w.volt n)) := by
  have here := nth_mapIdx (l := s.power.dom) (fun n d =>
    if domFitted s n then ({ d with seq := (d.seq + 1) % 256, avg := sat 16 (nth w.avg n), peak := sat 16 (nth w.peak n), volt := sat 16 (nth w.volt n) } : PwrDom)
    else { d with seq := (d.seq + 1) % 256, st := .absent }) hn
  change nth (domWindow w s).power.dom n = _ at here
  rw [here]
  split
  · exact ⟨rfl, fun _ => ⟨rfl, rfl, rfl⟩⟩
  · next unfit => exact ⟨rfl, fun fit => absurd fit unfit⟩

/-! The power group (19 R530 to R532). -/

theorem inject_keeps (b : Nat) (p : Pkt) (owner arg : Nat) (s : State) : Keeps [.fab] s (inject b p owner arg s) :=
  (keeps_inject b p owner arg s (List.Subset.refl _)).2 Keeps.rfl'

/-- A token changes the fabric, and of the controller its sequence number. -/
theorem sendToken_cap (ep grant : Nat) (s : State) : (sendToken ep grant s).cap = { s.cap with tseq := (s.cap.tseq + 1) % 2 ^ 32 } := by
  unfold sendToken
  dsimp only
  rw [State.modCap_cap, inject_keeps _ _ _ _ _ .cap (by decide)]

theorem sendToken_clk (ep grant : Nat) (s : State) : (sendToken ep grant s).clk = s.clk :=
  (keeps_sendToken ep grant s (List.Subset.refl _)).2 Keeps.rfl' .clk (by decide)

/-- A request without FENCE that finds a tracking place leaves at once (14 R370, R383). -/
theorem inject_last {b : Nat} {p : Pkt} (owner arg : Nat) (he : s.fab.epBase ≠ none) (hf : p.fence = false)
    (hb : b < s.fab.bridges.length) (ht : (s.bridge b).tracked.length < 8192) :
    lastInj (inject b p owner arg s) b = some (stampPkt (s.bridge b) p) := by
  have goes : mustHold (s.bridge b) p = false := by simp [mustHold, hf, Nat.not_le.2 ht]
  unfold inject lastInj
  rw [if_neg he]
  simp only [goes, Bool.false_eq_true, if_false]
  rw [State.bridge, show ∀ f : Bridge → Bridge, (s.modBridge b f).fab.bridges = s.fab.bridges.modify b f from fun _ => rfl, nth_modify_self _ hb]
  simp

theorem slackOf_congr (runs : t.cap.slackRuns = s.cap.slackRuns) (clk : t.clk = s.clk) : slackOf t = slackOf s := by
  simp only [slackOf, State.tb, runs, clk]

/-- A round of discovery begins: a peer that left two rounds unanswered leaves the roster (19 R530). -/
def discovering (s : State) : State := s.modCap (fun c => { c with
  discTb := some s.tb
  roster := (c.roster.filter (fun p => decide (p.missed < 2))).map (fun p => { p with missed := p.missed + 1 }) })

/-- A report period begins (19 R531). -/
def reporting (s : State) : State := s.modCap (fun c => { c with reportTb := some s.tb })

/-- The round itself is nothing a token says (14, Table 14.8). -/
theorem tokenBytes_discovering (grant : Nat) (s : State) : tokenBytes (discovering s) grant = tokenBytes s grant := by
  have slack := slackOf_congr (s := s) (t := discovering s) rfl rfl
  simp only [tokenBytes, slack]
  rfl

theorem sendToken_last {ep grant : Nat} (he : s.fab.epBase ≠ none) (hb : 0 < s.fab.bridges.length) (ht : (s.bridge 0).tracked.length < 8192) :
    (lastInj (sendToken ep grant s) 0).map (fun p => (p.type, p.dst, p.data)) = some (8, ep + 14, tokenBytes s grant) := by
  have sent := inject_last (p := { dst := ep + 14, src := endpoint s 14, type := 8, len := 32, data := tokenBytes s grant }) 2 s.cap.tseq he rfl hb ht
  rw [show lastInj (sendToken ep grant s) 0 = _ from sent]
  rfl

/-- A grant of `g` mW to a peer leaves the member's own share at once (19 R532). -/
def granted (p : Peer) (g : Nat) (s : State) : State := (sendToken p.ep g s).modCap (fun c => { c with
  share := c.share - g, grants := c.grants ++ [(s.cap.tseq, g, c.reconCount)], lastGrantTb := some s.tb })

theorem grantGo_cases (s : State) : grantGo s = s ∨ ∃ p g, grantGo s = ceilingEval (granted p g s) ∧ 2500000 ≤ slackOf s ∧ g ≤ s.cap.share - 200000 := by
  unfold grantGo
  dsimp only
  split
  · exact .inl rfl
  · next c =>
    split
    · exact .inl rfl
    · next p _ =>
      split
      · exact .inl rfl
      · exact .inr ⟨p, _, rfl, Nat.le_of_not_lt (fun d => c (.inr (.inl d))), Nat.min_le_right ..⟩

theorem granted_share (p : Peer) (g : Nat) (s : State) :
    (ceilingEval (granted p g s)).cap.share = s.cap.share - g ∧ (ceilingEval (granted p g s)).cap.reportTb = s.cap.reportTb := by
  have rest := ceilingEval_cap (granted p g s)
  have cap : (granted p g s).cap = { s.cap with
      tseq := (s.cap.tseq + 1) % 2 ^ 32, share := s.cap.share - g, grants := s.cap.grants ++ [(s.cap.tseq, g, s.cap.reconCount)], lastGrantTb := some s.tb } := by
    rw [granted, State.modCap_cap, sendToken_cap]
  rw [cap] at rest
  exact ⟨congrArg Cap.share rest, (congrArg Cap.reportTb rest).trans rfl⟩

/-- The one grant never leaves a member below 200 W, and nothing is granted without 50 ms of slack (19 R531, R532). -/
theorem grantGo_share (s : State) : (grantGo s).cap.reportTb = s.cap.reportTb ∧ (grantGo s).cap.share ≤ s.cap.share
    ∧ (200000 ≤ s.cap.share → 200000 ≤ (grantGo s).cap.share) ∧ (slackOf s < 2500000 → (grantGo s).cap.share = s.cap.share) := by
  rcases grantGo_cases s with e | ⟨p, g, e, slack, within⟩
  · rw [e]
    exact ⟨rfl, Nat.le_refl _, id, fun _ => rfl⟩
  · obtain ⟨share, report⟩ := granted_share p g s
    rw [e, share, report]
    exact ⟨rfl, Nat.sub_le .., fun _ => by omega, fun c => by omega⟩

theorem execPeerDiscovery_due (hg : groupServes s = true) (hd : s.cap.discTb = none) :
    execPeerDiscovery s = .next (each (peerBlocks s) (fun e => sendToken e 0) (discovering s)) := by
  have due : ¬ (groupServes s = false ∨ s.cap.discTb.any (fun t => decide (s.tb < t + 50000000)) = true) := by simp [hg, hd]
  exact if_neg due

theorem execPeerDiscovery_early {d : Nat} (hd : s.cap.discTb = some d) (hlt : s.tb < d + 50000000) : execPeerDiscovery s = .next s := by
  have early : s.cap.discTb.any (fun t => decide (s.tb < t + 50000000)) = true := by
    rw [hd, Option.any_some, decide_eq_true_eq]
    exact hlt
  unfold execPeerDiscovery
  rw [if_pos (.inr early)]

/-- The tokens of a report leave the share and the quiet ticks as they are. -/
theorem tokens_keep (l : List Peer) (s : State) :
    (each l (fun p => sendToken p.ep 0) s).cap.share = s.cap.share ∧ (each l (fun p => sendToken p.ep 0) s).cap.reportTb = s.cap.reportTb
      ∧ slackOf (each l (fun p => sendToken p.ep 0) s) = slackOf s := by
  have slack (u : State) (ep : Nat) : slackOf (sendToken ep 0 u) = slackOf u := slackOf_congr (by rw [sendToken_cap]) (sendToken_clk ep 0 u)
  exact ⟨each_fixed l (·.cap.share) (fun p u => by rw [sendToken_cap]) s,
    each_fixed l (·.cap.reportTb) (fun p u => by rw [sendToken_cap]) s, each_fixed l slackOf (fun p u => slack u p.ep) s⟩

theorem execTokenReportPeriod_due (hg : groupServes s = true) (hd : s.cap.reportTb = none) :
    execTokenReportPeriod s = .next (grantGo (each s.cap.roster (fun p => sendToken p.ep 0) (reporting s))) := by
  have due : ¬ (groupServes s = false ∨ s.cap.reportTb.any (fun t => decide (s.tb < t + 500000)) = true) := by simp [hg, hd]
  exact if_neg due

theorem execTokenReportPeriod_early {d : Nat} (hd : s.cap.reportTb = some d) (hlt : s.tb < d + 500000) : execTokenReportPeriod s = .next s := by
  have early : s.cap.reportTb.any (fun t => decide (s.tb < t + 500000)) = true := by
    rw [hd, Option.any_some, decide_eq_true_eq]
    exact hlt
  unfold execTokenReportPeriod
  rw [if_pos (.inr early)]

theorem groupServes_epBase (hg : groupServes s = true) : s.fab.epBase ≠ none := by
  simp only [groupServes, Bool.and_eq_true] at hg
  exact Option.isSome_iff_ne_none.1 hg.2

end

/-- Settles O53: an evaluation of the ceiling keeps the rest of the controller, and a thermal halt keeps the filters and the stacks. -/
theorem powerAndTemperatureControl : Obligations.PowerAndTemperatureControl := by
  refine ⟨fun s m ha hb hc hp => ⟨fun hf => ?fails, fun hf => ?holds⟩, fun s r k p d l hm hr hk => ⟨fun harm => ?armed, ?taken⟩,
    fun s hm => ?noMarker, fun s k v ha hk => ?sensor, fun s k v hk => ?deaf,
    fun s u v ha hu hl ho => ?stack, fun s d hd hc => ⟨fun hle => ?raise, fun hlt => ?early⟩, fun s w ha hm h0 => ?window,
    fun s w hm => if_neg (fun c => hm c.2.1), fun s hg hd => ?discovery, fun s hg hd => ?report,
    fun s d hd hlt => execTokenReportPeriod_early hd hlt, fun s d hd hlt => execPeerDiscovery_early hd hlt⟩
  case fails =>
    exact ⟨_, execPowerFastCheck_fails ha hb hc hp hf, rfl, rfl, by simp⟩
  case holds => exact if_neg (fun c => absurd (hf.symm.trans c.2.2.2) (by decide))
  case armed =>
    refine ⟨markerTaken r k p d l s, (execPhaseMarker_cons hm).trans (by rw [if_pos harm]), modTile_tile_self _ hr hk, rfl,
      fun q hq => modTile_tile_of_ne _ hr hq, (row_of_modify rfl hr).2, by simp [markerTaken]⟩
  case taken =>
    have phase : ((markerTaken r k p d l s).tile r k).phase = p := congrArg Tile.phase (modTile_tile_self _ hr hk)
    refine ⟨_, execPhaseMarker_cons hm, ?_⟩
    split
    · exact ⟨phase, rfl⟩
    · exact ⟨(congrArg Tile.phase (tile_of_rows (ceilingEval_keeps _ .rows (by decide)) r k)).trans phase, congrArg Cap.markers (ceilingEval_cap _)⟩
  case noMarker =>
    show execPhaseMarker s = _
    simp only [execPhaseMarker, hm]
  case sensor =>
    have filter := readings_of_samples (n := filtLen k) (sense_samples (s := s) v ha hk)
    have crit : readings (sense k v s) k (critLen k) = readings (sensed k v s) k (critLen k) := by
      rw [readings, readings, sense_samples v ha hk, show (sensed k v s).therm.samples = _ from senseIn_samples k v s]
    refine ⟨sense k v s, rfl, by rw [filter, List.take_take, Nat.min_self], fun hh hc => ?_, fun hh hc => ?_⟩
    · rw [crit] at hc
      rw [sense_die v ha hk, if_pos (by simp [hc, hh]), thermalHalt_therm, thermalHalt_clk]
      exact ⟨rfl, rfl, rfl⟩
    · rw [crit] at hc
      rw [sense_die v ha hk, if_neg (by simp [hc])]
      exact ⟨(senseIn_halt k v s).trans hh, senseIn_clk k v s, senseIn_rows k v s⟩
  case deaf => exact congrArg Host.Outcome.next (if_pos (hk.symm.imp_right .inl))
  case stack =>
    have head : (readings (sense (53 + u) v s) (53 + u) 4).head? = some v := by
      rw [readings_of_samples (sense_samples v ha (by omega)), taken_of_not_row s v (by omega), filtLen_stack]
      rfl
    exact ⟨sense (53 + u) v s, if_pos ⟨hu, ho⟩, sense_stack v ha hu hl, head⟩
  case raise =>
    simp only [exec, execThermalCeilingRaise, hd, if_pos (And.intro hle hc)]
    exact ⟨_, rfl, by rw [attnSettle_cap]; rfl, by rw [attnSettle_therm]; rfl⟩
  case early =>
    simp only [exec, execThermalCeilingRaise, hd]
    exact if_neg (fun c => absurd c.1 (Nat.not_le.2 hlt))
  case window =>
    obtain ⟨t, e, meter, power⟩ := execPowerWindowEnd_measures w ha hm h0
    exact ⟨t, e, meter, fun n hn => by rw [power]; exact domWindow_dom w hn⟩
  case discovery =>
    refine ⟨_, execPeerDiscovery_due hg hd, ?_, ?_, fun e he hb ht => ?_⟩
    · exact each_fixed _ (·.cap.discTb) (fun e u => by rw [sendToken_cap]) _
    · exact each_fixed _ (·.cap.roster) (fun e u => by rw [sendToken_cap]) _
    · rw [he]
      refine ⟨?_, congrArg Cap.tseq (sendToken_cap e 0 _)⟩
      rw [← tokenBytes_discovering 0 s]
      exact sendToken_last (groupServes_epBase hg) hb ht
  case report =>
    obtain ⟨share, report, slack⟩ := tokens_keep s.cap.roster (reporting s)
    obtain ⟨sent, less, floor, quiet⟩ := grantGo_share (each s.cap.roster (fun p => sendToken p.ep 0) (reporting s))
    rw [share] at less floor quiet
    rw [slack, slackOf_congr (s := s) (t := reporting s) rfl rfl] at quiet
    exact ⟨_, execTokenReportPeriod_due hg hd, sent.trans report, less, floor, quiet⟩

end Sys2Proof.Machine
end

section
/-! PROOFS. V/F step changes (04 R98, R99, R101, R102). -/

namespace Sys2Proof.Machine

section
variable {s : State}

/-! A write of NEXT changes neither PEND nor the word held for CLK_STEP_AT, and nothing of the power tree. -/

theorem writeNext_free (hp : s.clk.pend = false) (n : Nat) : writeNext n s = s.modClk (fun c => { c with next := n % 8 }) :=
  if_neg (by simp [hp])

theorem writeNext_pending (hp : s.clk.pend = true) (n : Nat) : writeNext n s = s := if_pos hp

theorem writeNext_power (n : Nat) (s : State) : (writeNext n s).power = s.power := by
  unfold writeNext
  split <;> rfl

theorem writeNext_pend (n : Nat) (s : State) : (writeNext n s).clk.pend = s.clk.pend := by
  unfold writeNext
  split <;> rfl

theorem writeNext_atLow (n : Nat) (s : State) : (writeNext n s).clk.atLow = s.clk.atLow := by
  unfold writeNext
  split <;> rfl

theorem alive_of_power {t : State} (h : t.power = s.power) : alive t = alive s := by
  simp only [alive, h]

/-! An arming write, by PEND and the lead time (04 R98). -/

theorem armWrite_pending (hp : s.clk.pend = true) (tick : Nat) : armWrite tick s = s.modClk (fun c => { c with busy := true }) := if_pos hp

theorem armWrite_free (hp : s.clk.pend = false) (tick : Nat) :
    armWrite tick s = { s with clk := if tick < s.tb + (if s.clk.cur < s.clk.next then 2500 else 50) then { s.clk with late := true }
      else { s.clk with stepAt := tick, pend := true, armed := true } } := by
  unfold armWrite
  rw [if_neg (by simp [hp])]
  exact (apply_ite (fun c => ({ s with clk := c } : State)) _ _ _).symm

/-! The write of CLK_STEP_AT in one piece, and by its low and high words (04 R102). -/

section
variable (ha : alive s = true)
include ha

theorem execClkStepAtWrite_whole (next tick : Nat) : execClkStepAtWrite next 0 tick s = .next (armWrite tick (writeNext next s)) :=
  if_neg (by simp [ha])

theorem execClkStepAtWrite_low (next lo : Nat) :
    execClkStepAtWrite next 1 lo s = .next ((writeNext next s).modClk (fun c => { c with atLow := lo % 2 ^ 32 })) :=
  if_neg (by simp [ha])

theorem execClkStepAtWrite_high (next hi : Nat) :
    execClkStepAtWrite next 2 hi s = execClkStepAtWrite next 0 (s.clk.atLow + 2 ^ 32 * (hi % 2 ^ 32)) s := by
  rw [execClkStepAtWrite_whole ha, ← writeNext_atLow next s]
  exact if_neg (by simp [ha])

end

/-- A withdrawal or a settling after which no drop is due leaves the controller alone (19 R514). -/
theorem dropIfDue_of_not_due (h : s.cap.dropDue = false) : dropIfDue s = s := if_neg (by simp [h])

theorem withdrawStep_armed (ha : s.clk.armed = true) (ht : s.tb < s.clk.stepAt) :
    withdrawStep s = s.modClk (fun c => { c with pend := false, armed := false }) := if_pos ⟨ha, ht⟩

end

/-- Settles O9: by PEND for the writes, and by whether a change is armed for the withdrawal, the tick and the settling. -/
theorem stepChangesArmWithdrawAndSettle : Obligations.StepChangesArmWithdrawAndSettle := by
  refine ⟨fun s next tick ha hp => ?armed, fun s next tick ha hp => ?busy, fun s next lo hi ha hp => ?halves,
    fun s ha ht hd => ?withdrawn, fun s h => if_neg ?notArmed, fun s ha ht => if_pos ⟨ha, ht⟩, fun s hp ha hd => ?settled⟩
  case armed =>
    refine (execClkStepAtWrite_whole ha next tick).trans ?_
    rw [armWrite_free ((writeNext_pend next s).trans hp), writeNext_free hp]
    rfl
  case busy =>
    refine (execClkStepAtWrite_whole ha next tick).trans ?_
    rw [writeNext_pending hp, armWrite_pending hp]
    rfl
  case halves =>
    have live : alive (writeNext next s) = true := (alive_of_power (writeNext_power next s)).trans ha
    exact ⟨_, execClkStepAtWrite_low ha next lo, (writeNext_pend next s).trans hp, rfl,
      execClkStepAtWrite_high (s := (writeNext next s).modClk _) live next hi⟩
  case withdrawn =>
    refine (if_pos ⟨ha, ht⟩).trans ?_
    rw [withdrawStep_armed ha ht, dropIfDue_of_not_due (s := s.modClk _) hd]
    rfl
  case notArmed =>
    rintro ⟨armed, early⟩
    rcases h with h | h
    · exact absurd (h.symm.trans armed) (by decide)
    · exact absurd early (Nat.not_lt.2 h)
  case settled => exact (if_pos ⟨hp, ha⟩).trans (congrArg _ (dropIfDue_of_not_due hd))

end Sys2Proof.Machine
end

section
/-! PROOFS. Row states (04 R103 to R105, R601). -/

namespace Sys2Proof.Machine

section
variable {s : State} {r : Nat}

/-! The end of a row's idling (04 R104, R601). -/

section
variable (hr : r < 12) (hidle : rowIdle (s.row r) = true) (hs : stagedOut s r = true)
include hr hidle hs

/-- T_SLEEP of continuous idling, and no ROW_POWER that asks for another state. -/
theorem execSleepEntry_idled (hst : (s.row r).st = .idle ∨ (s.row r).st = .nap) (ht : (s.row r).target = none) (h0 : (s.row r).sleepNow ≠ 0)
    (hle : (s.row r).idleSince + (s.row r).sleepNow ≤ s.tb) :
    execSleepEntry r s = .next (rowPowerCheck r (s.modRow r (fun w => { w with st := .sleep }))) := by
  have inactive : (s.row r).st ≠ .active := by rcases hst with h | h <;> simp [h]
  refine (if_pos ⟨hr, .inr hst, hidle, hs⟩).trans ?_
  simp only [ht]
  exact if_pos ⟨inactive, h0, hle⟩

/-- The first idle moment after ROW_POWER to OFF. -/
theorem execSleepEntry_off (hst : (s.row r).st = .active ∨ (s.row r).st = .idle ∨ (s.row r).st = .nap) (ht : (s.row r).target = some .off) :
    execSleepEntry r s = .next (rowPowerCheck r (rowToOff r s)) := by
  refine (if_pos ⟨hr, hst, hidle, hs⟩).trans ?_
  simp only [ht]

end

/-- A row that is not idle enters none of the states of idling. -/
theorem entries_of_not_idle (h : rowIdle (s.row r) = false) :
    execIdleEntry r s = .next s ∧ execNapEntry r s = .next s ∧ execSleepEntry r s = .next s :=
  ⟨if_neg (by simp [h]), if_neg (by simp [h]), if_neg (by simp [h])⟩

/-- Of the row that goes to OFF by command, the banks keep at most that they are retired; no other row is touched. -/
theorem rowToOff_banks (hr : r < s.rows.length) :
    (∀ b ∈ ((rowToOff r s).row r).banks, b.st = .off ∨ b.st = .retired) ∧ RowsBut r s (rowToOff r s) := by
  obtain ⟨self, others⟩ := row_of_modify (t := rowToOff r s) (List.modify_modify_eq ..) hr
  refine ⟨fun b hb => ?_, others⟩
  rw [self] at hb
  obtain ⟨k, -, rfl⟩ := List.mem_map.1 hb
  split
  · next retired => exact .inr (beq_iff_eq.1 retired)
  · exact .inl rfl

/-! The wake by a timebase event (04 R105). -/

theorem startWake_of_sleep (hd : rowIsDark s r = false) (ho : rowIsOut s r = false) (hh : s.therm.halt = false) (hs : (s.row r).st = .sleep) :
    startWake r s = joinQueue r (s.modRow r (fun w => { w with st := .waking, fromSleep := w.st == .sleep })) := by
  refine (if_neg (wake_unhindered hd ho hh).2).trans ?_
  simp only [hs]

/-- A row that joins its half's queue waits there, or is the one that stages (03 R68, R71). -/
theorem joinQueue_waits (hh : s.therm.halt = false) (hl : halfOf r < s.power.halves.length) :
    r ∈ ((joinQueue r s).half (halfOf r)).queue ∨ ((joinQueue r s).half (halfOf r)).staging.any (·.row == r) = true := by
  have joins : joinQueue r s = _ := if_neg (by simp [hh])
  rw [joins, (half_of_modify rfl hl).1]
  split
  · next there => simpa using there
  · exact .inl (List.mem_append_right _ (List.mem_singleton_self r))

theorem startWake_keeps (r : Nat) (s : State) : Keeps [.rows, .power] s (startWake r s) := (keeps_startWake r s (by decide)).2 Keeps.rfl'

end

/-- Settles O10: each command updates its own row, and the end of a ROW_POWER or a place in a queue is nothing of the rows. -/
theorem rowStatesFollowIdling : Obligations.RowStatesFollowIdling := by
  refine ⟨fun s r hr hst hi => if_pos ⟨hr, hst, hi⟩, fun s r hr hst hi h0 hle => if_pos ⟨hr, hst, hi, h0, hle⟩,
    fun s r _ hi => entries_of_not_idle hi, fun s r hr hl hst hi hs ht h0 hle => ?sleep, fun s r hr hl hst hi hs ht => ?off,
    fun s r hr hl hhl hd ho hh hst hw => ?wake⟩
  case sleep =>
    obtain ⟨self, others⟩ := row_of_modify (s := s) (rowPowerCheck_rows r (s.modRow r (fun w => { w with st := .sleep }))) hl
    exact ⟨_, execSleepEntry_idled hr hi hs hst ht h0 hle, by rw [self], others⟩
  case off =>
    obtain ⟨off, empty⟩ := rowToOff_row hl
    obtain ⟨banks, others⟩ := rowToOff_banks hl
    have same : (rowPowerCheck r (rowToOff r s)).row r = (rowToOff r s).row r := row_of_rows (rowPowerCheck_rows ..) r
    exact ⟨_, execSleepEntry_off hr hi hs hst ht, by rw [same, off], by rw [same, empty], by rwa [same],
      others.of_rows (rowPowerCheck_rows ..)⟩
  case wake =>
    have woken := startWake_of_sleep hd ho hh hst
    obtain ⟨self, others⟩ := row_of_modify (s := s) ((congrArg State.rows woken).trans (joinQueue_rows ..)) hl
    refine ⟨startWake r s, if_pos ⟨hr, hw⟩, by rw [self], by rw [self, hst]; rfl, ?_, others, startWake_keeps r s⟩
    rw [woken]
    exact joinQueue_waits hh hhl

end Sys2Proof.Machine
end

section
/-! PROOFS. Halves, the reference and clock holds (04 R89, R92, R109 to R112). -/

namespace Sys2Proof.Machine

section
variable {s : State} {h r : Nat}

/-! A half parks when its six rows let it (04 R110). -/

theorem rowParks_iff (w : RowSt) : rowParks w = true ↔ w = .sleep ∨ w = .off ∨ w = .dark := by
  simp [rowParks, or_assoc]

theorem rowsPark_iff (s : State) (h : Nat) : (List.range 6).all (fun i => rowParks (s.row (6 * h + i)).st) = true
    ↔ ∀ i, i < 6 → (s.row (6 * h + i)).st = .sleep ∨ (s.row (6 * h + i)).st = .off ∨ (s.row (6 * h + i)).st = .dark := by
  simp only [List.all_eq_true, List.mem_range, rowParks_iff]

/-! A half unparks (04 R111): the timers that start with it are nothing of the power tree. -/

/-- A half as it is usable again. -/
def unparkedHalf (tb : Nat) (x : Half) : Half := { x with parked := false, unparkAt := none, quietSince := tb }

def unparked (h : Nat) (s : State) : State := s.modHalf h (unparkedHalf s.tb)

theorem execSeamUnparkComplete_due {n : Nat} (hh : h < 2) (hp : (s.half h).parked = true) (ha : (s.half h).unparkAt = some n) (hn : n ≤ s.tb)
    (hv : nocUp s h = true) : execSeamUnparkComplete h s = .next (startTimers (unparked h s)) := by
  simp only [execSeamUnparkComplete, ha]
  exact if_pos ⟨hh, hp, hn, hv⟩

theorem startTimers_unparked_half (hl : h < s.power.halves.length) :
    (startTimers (unparked h s)).half h = unparkedHalf s.tb (s.half h)
    ∧ ∀ k, k ≠ h → (startTimers (unparked h s)).half k = s.half k :=
  half_of_modify (f := unparkedHalf s.tb) rfl hl

/-! Clock holds (04 R92, R109). -/

/-- A hold of a row that runs counts, and is recorded if it lasts longer than 50 tb. -/
theorem execClockHold_running (hr : r < 12) (hst : (s.row r).st = .active ∨ (s.row r).st = .idle) (ticks volt : Nat) :
    execClockHold r ticks volt s = .next (let u := s.modClkRow r (fun c => { c with chold := sat 8 (c.chold + 1) })
      if 50 < ticks then errRecord { code := .clockHold, unit := uRow r, op := 0x12, platform := true, leaf := .ev 3 1, detail := ticks + 2 ^ 32 * volt } u
      else u) := by
  refine (if_pos ⟨hr, hst⟩).trans ?_
  dsimp only
  split <;> rfl

end

/-- Settles O11: a half is parked or not by its rows and its quiet time; a record leaves the clock as it is. -/
theorem halvesParkAndReferenceLossKeepsTimebase : Obligations.HalvesParkAndReferenceLossKeepsTimebase := by
  refine ⟨fun s h hh hp hq hrows => if_pos ⟨hh, hp, hq, (rowsPark_iff s h).2 hrows⟩, fun s h i hi hact => if_neg ?awake,
    fun s h n hh hl hp ha hn hv => ?unpark, fun s ha hr => ?refLoss, fun s r ticks volt hr hst => execClockHold_running hr (.inl hst) ticks volt⟩
  case awake =>
    rintro ⟨-, -, -, park⟩
    have parks := (rowsPark_iff s h).1 park i hi
    simp [hact] at parks
  case unpark =>
    obtain ⟨self, others⟩ := startTimers_unparked_half hl
    exact ⟨_, execSeamUnparkComplete_due hh hp ha hn hv, by rw [self]; rfl, by rw [self]; rfl, others, by simp [unparked, State.modHalf]⟩
  case refLoss =>
    exact ⟨_, if_pos ⟨ha, hr⟩, errRecord_clk .., by simp⟩

end Sys2Proof.Machine
end

section
/-! PROOFS. A step of the machine (04 R86; logs 16, 77). -/

namespace Sys2Proof.Machine

section
variable {s : State}

/-! Nothing to resume: no request of the host, no ring, no command in progress and none that waits. -/

theorem hostIdle_of_none_waiting (h : s.chavi.waiting = []) : hostIdle s = none := by
  simp only [hostIdle, h]

theorem ringIdle_of_down (h : s.rings.up = false) : ringIdle s = none := if_pos h

theorem cmdIdle_of_no_cmds (h : s.gw.cmds = []) : cmdIdle s = none := by
  simp only [cmdIdle, h, List.findSome?_nil]

theorem startable_of_none_waiting (h : s.gw.waiting = []) : startable s = none := by
  simp only [startable, h, startable.go, ite_self]

theorem idle_eq_tick (hc : s.chavi.waiting = []) (hr : s.rings.up = false) (hg : s.gw.cmds = []) (hw : s.gw.waiting = []) :
    idle s = .next (tickTimebase s) := by
  simp only [idle, hostIdle_of_none_waiting hc, ringIdle_of_down hr, cmdIdle_of_no_cmds hg, startable_of_none_waiting hw, Option.orElse_none]

theorem step_of_empty (h : s.pending = []) : step s = idle s := by
  simp only [step, h]

/-! A tick (04 R86). -/

theorem tickTimebase_tb (h : s.clk.tbRunning = true) : (tickTimebase s).tb = (s.tb + 1) % 2 ^ 64 := by
  have ticks : tickTimebase s = _ := if_pos h
  rw [ticks]
  rfl

theorem tickTimebase_keeps (s : State) : Keeps [.clk, .cap] s (tickTimebase s) := (keeps_tickTimebase s (List.Subset.refl _)).2 Keeps.rfl'

/-- A table word that spells no command leaves the queue as it is (log 77). -/
theorem withFetchWord_of_decode_none {n w : Nat} (h : decodeTableWord n w = none) : s.withFetchWord n w = s := by
  simp only [State.withFetchWord, h]

end

/-- Settles O57: by the front of the queue; an empty queue with nothing to resume lets a tick pass. -/
theorem stepRunsTheFrontCommand : Obligations.StepRunsTheFrontCommand :=
  ⟨fun _ _ _ => rfl,
    fun s hp hc hr hg hw hb => ⟨tickTimebase s, (step_of_empty hp).trans (idle_eq_tick hc hr hg hw), tickTimebase_tb hb, tickTimebase_keeps s⟩,
    fun _ _ _ => withFetchWord_of_decode_none⟩

end Sys2Proof.Machine
end

section
/-! PROOFS. The stages of bring-up and the boot log (05 R116 to R144; 21 R557). -/

namespace Sys2Proof.Machine

section
variable {s t u : State} {k : Nat} {l : List Fld} {st : StageStatus} {fs : List Finding}

/-! The record of a stage (05 R121). -/

/-- What the record of a stage is made of, and where it goes: u is still in the stage that runs in s. -/
structure SameStage (s u : State) : Prop where
  halves : u.boot.halves = s.boot.halves
  curHalf : u.boot.curHalf = s.boot.curHalf
  stage : u.boot.stage = s.boot.stage
  st : u.boot.st = s.boot.st
  stageTb : u.boot.stageTb = s.boot.stageTb
  bootNo : u.boot.bootNo = s.boot.bootNo
  tb : u.tb = s.tb

/-- The work of a stage touches neither the boot state nor the clocks. -/
def stageF : List Fld :=
  [.power, .rows, .fuse, .eeprom, .dmap, .mem, .fetch, .flash, .fab, .chavi, .mbx, .rings, .gw, .err, .cap, .therm, .wit, .sec, .attn, .out, .fresh]

theorem Keeps.sameStage (h : Keeps stageF s u) : SameStage s u := by
  have boot : u.boot = s.boot := h .boot (by decide)
  have clk : u.clk = s.clk := h .clk (by decide)
  constructor <;> simp only [boot, State.tb, clk]

theorem SameStage.trans (h : SameStage s t) (g : SameStage t u) : SameStage s u where
  halves := g.halves.trans h.halves
  curHalf := g.curHalf.trans h.curHalf
  stage := g.stage.trans h.stage
  st := g.st.trans h.st
  stageTb := g.stageTb.trans h.stageTb
  bootNo := g.bootNo.trans h.bootNo
  tb := g.tb.trans h.tb

/-- The record that the end of the running stage writes. -/
def stageRec (st : StageStatus) (fs : List Finding) (s : State) : BootRec :=
  { stage := s.boot.stage, status := st, warm := s.boot.warm, bootCore := s.boot.bootCore, tbStart := s.boot.stageTb,
    tbEnd := s.tb, bootNo := s.boot.bootNo, finds := recFinds s (s.boot.pendFinds ++ fs) }

theorem recFinds_length_le (s : State) (l : List Finding) : (recFinds s l).length ≤ 254 := by
  unfold recFinds
  split
  · assumption
  · simp only [List.length_append, List.length_take, List.length_singleton]
    omega

theorem sendFrames_boot (l : List (List Byte)) (s : State) : (each l (fun f s => s.send (.j3Boot f)) s).boot = s.boot := by
  have k : Keeps [.out] s (each l (fun f s => s.send (.j3Boot f)) s) := by simp [State.send]
  exact k .boot (by decide)

/-- The record is appended to the current half; its frames on J3 are nothing of the boot state. -/
theorem stageRecord_boot (st : StageStatus) (fs : List Finding) (s : State) : (stageRecord st fs s).boot
    = { s.boot with halves := s.boot.halves.modify s.boot.curHalf (· ++ [stageRec st fs s]), pendFinds := [] } := by
  unfold stageRecord
  dsimp only
  split
  · exact sendFrames_boot ..
  · rfl

theorem stageRecord_tb (st : StageStatus) (fs : List Finding) (s : State) : (stageRecord st fs s).tb = s.tb :=
  congrArg Clk.tb ((keeps_stageRecord st fs s (List.Subset.refl _)).2 Keeps.rfl' .clk (by decide))

theorem stageNext_boot (st : StageStatus) (fs : List Finding) (s : State) : (stageNext st fs s).boot
    = { s.boot with halves := s.boot.halves.modify s.boot.curHalf (· ++ [stageRec st fs s]), pendFinds := [],
                    stage := s.boot.stage + 1, stageTb := s.tb } := by
  simp only [stageNext, State.modBoot_boot, stageRecord_boot]

theorem stagePass_eq_stageNext (fs : List Finding) (s : State) : ∃ st, st ≠ .stopped ∧ stagePass fs s = stageNext st fs s := by
  unfold stagePass
  split
  · exact ⟨.pass, nofun, rfl⟩
  · exact ⟨.passFindings, nofun, rfl⟩

theorem allOff_boot (s : State) : (allOff s).boot = s.boot := (keeps_allOff s (List.Subset.refl _)).2 Keeps.rfl' .boot (by decide)
theorem setBootLeaf_boot (n : Nat) (s : State) : (setBootLeaf n s).boot = s.boot :=
  (keeps_setBootLeaf n s (List.Subset.refl _)).2 Keeps.rfl' .boot (by decide)
theorem setBootLeaf_rows (n : Nat) (s : State) : (setBootLeaf n s).rows = s.rows :=
  (keeps_setBootLeaf n s (List.Subset.refl _)).2 Keeps.rfl' .rows (by decide)

theorem stageStop_boot (fs : List Finding) (s : State) : (stageStop fs s).boot
    = { s.boot with halves := s.boot.halves.modify s.boot.curHalf (· ++ [stageRec .stopped fs s]), pendFinds := [], st := .stopped } := by
  simp only [stageStop, setBootLeaf_boot, State.modBoot_boot, allOff_boot, stageRecord_boot]

/-! How a stage ends (05 R117, R121). -/

theorem stageRuns_iff : stageRuns k s = true ↔ alive s = true ∧ s.power.bringUpAt = none ∧ s.power.inputSw = .closed ∧ s.boot.st = .running
    ∧ s.boot.stage = k ∧ s.tb ≤ s.boot.stageTb + 50000 * stageLimitMs k := by
  simp [stageRuns, and_assoc]

section
variable (hc : s.boot.curHalf < s.boot.halves.length) (h : SameStage s u)
include hc h

/-- One record of the stage in the current half, and no other change of the log. -/
theorem stageEnds_of_boot (hk : s.boot.stage = k) (hh : t.boot.halves = u.boot.halves.modify u.boot.curHalf (· ++ [stageRec st fs u]))
    (hs : (st ≠ .stopped ∧ t.boot.st = .running ∧ t.boot.stage = k + 1 ∧ t.boot.stageTb = s.tb) ∨ (st = .stopped ∧ t.boot.st = .stopped)) :
    StageEnds k s t := by
  rw [h.halves, h.curHalf] at hh
  refine ⟨⟨stageRec st fs u, ?_, h.stage.trans hk, h.stageTb, h.tb, h.bootNo, recFinds_length_le .., hs⟩, fun i hi => ?_⟩
  · rw [hh]; exact nth_modify_self _ hc
  · rw [hh]; exact nth_modify_of_ne _ _ hi

theorem stageNext_ends (hr : stageRuns k s = true) (hst : st ≠ .stopped) : StageEnds k s (stageNext st fs u) := by
  obtain ⟨-, -, -, running, stage, -⟩ := stageRuns_iff.1 hr
  refine stageEnds_of_boot hc h stage (st := st) (fs := fs) ?_ (.inl ⟨hst, ?_, ?_, ?_⟩) <;> rw [stageNext_boot]
  · exact h.st.trans running
  · exact congrArg (· + 1) (h.stage.trans stage)
  · exact h.tb

theorem stagePass_ends (hr : stageRuns k s = true) : StageEnds k s (stagePass fs u) := by
  obtain ⟨st, hst, e⟩ := stagePass_eq_stageNext fs u
  rw [e]
  exact stageNext_ends hc h hr hst

theorem stageStop_ends (hk : s.boot.stage = k) : StageEnds k s (stageStop fs u) := by
  refine stageEnds_of_boot hc h hk (st := .stopped) (fs := fs) ?_ (.inr ⟨rfl, ?_⟩) <;> rw [stageStop_boot]

end

theorem stageStop_halves_length (h : SameStage s u) : (stageStop fs u).boot.halves.length = s.boot.halves.length := by
  rw [stageStop_boot, ← h.halves]
  exact List.length_modify ..

theorem stagePass_halves_length (h : SameStage s u) : (stagePass fs u).boot.halves.length = s.boot.halves.length := by
  obtain ⟨st, -, e⟩ := stagePass_eq_stageNext fs u
  rw [e, stageNext_boot, ← h.halves]
  exact List.length_modify ..

/-! A stage that stops takes the rows to OFF (05 R118); a DARK row stays DARK. -/

theorem modRow_rows_of_modify {r : Nat} {f : Row → Row} (e : t.rows = s.rows.modify r f) (g : Row → Row) :
    (t.modRow r g).rows = s.rows.modify r (g ∘ f) := (congrArg (·.modify r g) e).trans (List.modify_modify_eq ..)

theorem rowToOff_rows_of_modify {r : Nat} {f : Row → Row} (e : t.rows = s.rows.modify r f) :
    ∃ g : Row → Row, (rowToOff r t).rows = s.rows.modify r g ∧ ∀ w, (g w).st = .off :=
  ⟨_, modRow_rows_of_modify (t := loseRow r (leaveQueue r t)) (modRow_rows_of_modify (t := leaveQueue r t) e _) _, fun _ => rfl⟩

theorem forceOff_rows (r : Nat) (s : State) : ∃ f : Row → Row, (forceOff r s).rows = s.rows.modify r f ∧ ∀ w, (f w).st = .off ∨ (f w).st = .dark := by
  have ended : (endRowRings r (poisonRow r s)).rows = (poisonRow r s).rows :=
    (keeps_endRowRings r (poisonRow r s) (List.Subset.refl _)).2 Keeps.rfl' .rows (by decide)
  obtain ⟨g, rows, off⟩ := rowToOff_rows_of_modify ended
  have unloaded := modRow_rows_of_modify (modRow_rows_of_modify rows
    (fun w => { w with progs := [], tiles := w.tiles.map (fun t => { t with paired := false }), pairs := [{}, {}] }))
    (fun w => { w with endsWork := true })
  unfold forceOff
  dsimp only
  split
  · exact ⟨_, modRow_rows_of_modify unloaded _, fun w => .inr rfl⟩
  · exact ⟨_, unloaded, fun w => .inl (off w)⟩

theorem each_forceOff_row_st {r : Nat} (l : List Nat) (hl : r < s.rows.length) (h : r ∈ l ∨ (s.row r).st = .off ∨ (s.row r).st = .dark) :
    ((each l forceOff s).row r).st = .off ∨ ((each l forceOff s).row r).st = .dark := by
  induction l generalizing s with
  | nil => exact h.resolve_left List.not_mem_nil
  | cons q l ih =>
    obtain ⟨f, rows, off⟩ := forceOff_rows q s
    refine ih (s := forceOff q s) (by rw [rows, List.length_modify]; exact hl) ?_
    by_cases hq : r = q
    · subst hq
      rw [(row_of_modify rows hl).1]
      exact .inr (off _)
    · rw [State.row, rows, nth_modify_of_ne _ _ hq]
      exact h.imp_left (fun m => (List.mem_cons.1 m).resolve_left hq)

theorem allOff_row_st {r : Nat} (hr : r < 12) (hl : r < s.rows.length) : ((allOff s).row r).st = .off ∨ ((allOff s).row r).st = .dark :=
  each_forceOff_row_st _ hl (.inl (List.mem_range.2 hr))

theorem stageRecord_rows (st : StageStatus) (fs : List Finding) (s : State) : (stageRecord st fs s).rows = s.rows :=
  (keeps_stageRecord st fs s (List.Subset.refl _)).2 Keeps.rfl' .rows (by decide)

theorem stageStop_row_st {r : Nat} (hr : r < 12) (hl : r < s.rows.length) :
    ((stageStop fs s).row r).st = .off ∨ ((stageStop fs s).row r).st = .dark := by
  have rows : (stageStop fs s).rows = (allOff (stageRecord .stopped fs s)).rows := by
    simp only [stageStop, setBootLeaf_rows, State.modBoot_rows]
  have recorded : r < (stageRecord .stopped fs s).rows.length := by rw [stageRecord_rows]; exact hl
  rw [row_of_rows rows]
  exact allOff_row_st hr recorded

end

section
variable {s t u : State} {k : Nat} {l : List Fld} {st : StageStatus} {fs : List Finding}

theorem Runs.ite {p : State → Prop} {c : Prop} [Decidable c] {a b : Res} (ha : c → Runs p a) (hb : ¬ c → Runs p b) :
    Runs p (if c then a else b) := by
  split
  · exact ha ‹_›
  · exact hb ‹_›

/-- A fold that collects findings beside the state keeps what each of its steps keeps. -/
theorem keeps_foldl_fst {α : Type} {xs : List α} {f : State × List Finding → α → State × List Finding}
    (h : ∀ p x, Keeps l s p.1 → Keeps l s (f p x).1) {p : State × List Finding} (hp : Keeps l s p.1) : Keeps l s (xs.foldl f p).1 := by
  induction xs generalizing p with
  | nil => exact hp
  | cons x xs ih => exact ih (h p x hp)

/-! Each stage: what it does before its end keeps it the running stage. -/

/-- What BU1 has done once the fuse words are good (05 R125). -/
def bu1Begun (s : State) : State :=
  bu1Measure (((s.modBoot (fun b => { b with capsLoaded := true })).modClk (fun c => { c with trims := s.fuse.trims })).modSec
    (fun c => { c with keysDerived := true }))

theorem bu1Begun_sameStage (s : State) : SameStage s (bu1Begun s) :=
  SameStage.trans (t := (s.modBoot (fun b => { b with capsLoaded := true })).modClk (fun c => { c with trims := s.fuse.trims }))
    ⟨rfl, rfl, rfl, rfl, rfl, rfl, rfl⟩ (Keeps.sameStage (by simp [bu1Begun, stageF]))

/-- The stage ends, and the log has as many halves as before. -/
def StageEndsKeepingHalves (k : Nat) (s t : State) : Prop := StageEnds k s t ∧ t.boot.halves.length = s.boot.halves.length

/-- What BU3 has done of the bring-up's own state: the defects to be cleared are no longer carried (05 R141). -/
def bu3Begun (s : State) : State :=
  s.modBoot (fun b => { b with carried := b.carried.filter (fun c => !b.clearReq.contains 0 && !b.clearReq.contains c.1), clearReq := [] })

theorem bu3Begun_sameStage (s : State) : SameStage s (bu3Begun s) := ⟨rfl, rfl, rfl, rfl, rfl, rfl, rfl⟩

section
variable (hc : s.boot.curHalf < s.boot.halves.length)
include hc

theorem execBu1_ends (hr : stageRuns 1 s = true) (w : Option Nat) : Runs (StageEndsKeepingHalves 1 s) (execBu1 w s) := by
  obtain ⟨-, -, -, -, stage, -⟩ := stageRuns_iff.1 hr
  have pass {fs u} (h : SameStage s u) : StageEndsKeepingHalves 1 s (stagePass fs u) := ⟨stagePass_ends hc h hr, stagePass_halves_length h⟩
  have stop {fs u} (h : SameStage s u) : StageEndsKeepingHalves 1 s (stageStop fs u) := ⟨stageStop_ends hc h stage, stageStop_halves_length h⟩
  have begun (p : Power → Power) : SameStage s ((bu1Begun s).modPower p) := (bu1Begun_sameStage s).trans (Keeps.sameStage (by simp [stageF]))
  unfold execBu1
  rw [if_neg (by simp [hr])]
  cases w with
  | some w => exact ⟨_, rfl, stop (Keeps.sameStage Keeps.rfl')⟩
  | none =>
    dsimp only
    rw [← bu1Begun]
    exact Runs.ite (fun _ => ⟨_, rfl, pass (begun _)⟩) (fun _ => Runs.ite (fun _ => ⟨_, rfl, pass (begun _)⟩) (fun _ => ⟨_, rfl, stop (begun _)⟩))

theorem execBu2_ends (hr : stageRuns 2 s = true) (trips : List SharedRail) (rowTrips present swFaults : List Nat) :
    Runs (StageEnds 2 s) (execBu2 trips rowTrips present swFaults s) := by
  obtain ⟨-, -, -, -, stage, -⟩ := stageRuns_iff.1 hr
  unfold execBu2
  rw [if_neg (by simp [hr])]
  refine Runs.ite (fun _ => ⟨_, rfl, stageStop_ends hc (Keeps.sameStage ?_) stage⟩)
    (fun _ => ⟨_, rfl, stagePass_ends hc (Keeps.sameStage ?_) hr⟩) <;> simp [stageF]

theorem execBu3_ends (hr : stageRuns 3 s = true) (tests : List RowTest) : Runs (StageEnds 3 s) (execBu3 tests s) := by
  obtain ⟨-, -, -, -, stage, -⟩ := stageRuns_iff.1 hr
  unfold execBu3
  rw [if_neg (by simp [hr])]
  refine Runs.ite (fun _ => ⟨_, rfl, stagePass_ends hc ((bu3Begun_sameStage s).trans (Keeps.sameStage ?_)) hr⟩)
    (fun _ => ⟨_, rfl, stageStop_ends hc ((bu3Begun_sameStage s).trans (Keeps.sameStage ?_)) stage⟩) <;> simp [stageF, bu3Begun]

theorem execBu4_ends (hr : stageRuns 4 s = true) (bad : List Nat) : Runs (StageEnds 4 s) (execBu4 bad s) := by
  unfold execBu4
  rw [if_neg (by simp [hr])]
  exact ⟨_, rfl, stagePass_ends hc (Keeps.sameStage (by simp [stageF])) hr⟩

/-- BU5 and BU6: SKIPPED, or a test of each unit that is not trusted (05 R134, R143). -/
theorem memStage_ends (hr : stageRuns k s = true) (us : List Nat) (res : List MemTest) : StageEnds k s (memStage us res s) := by
  unfold memStage
  dsimp only
  split
  · exact stageNext_ends hc (Keeps.sameStage (by simp [stageF])) hr nofun
  · refine stagePass_ends hc (Keeps.sameStage ((keeps_mapUnits _ _ (by simp [stageF])).2 (keeps_foldl_fst (fun p x hp => ?_) ?_))) hr
    · exact (keeps_testMem _ _ (by simp [stageF])).2 hp
    · simp [stageF]

theorem execBu5_ends (hr : stageRuns 5 s = true) (res : List MemTest) : Runs (StageEnds 5 s) (execBu5 res s) := by
  unfold execBu5
  rw [if_neg (by simp [hr])]
  exact ⟨_, rfl, memStage_ends hc hr ..⟩

theorem execBu6_ends (hr : stageRuns 6 s = true) (res : List MemTest) : Runs (StageEnds 6 s) (execBu6 res s) := by
  unfold execBu6
  rw [if_neg (by simp [hr])]
  exact ⟨_, rfl, memStage_ends hc hr ..⟩

theorem execBu7_ends (hr : stageRuns 7 s = true) (res : List CardTest) : Runs (StageEnds 7 s) (execBu7 res s) := by
  unfold execBu7
  rw [if_neg (by simp [hr])]
  refine Runs.ite (fun _ => ?_) (fun _ => Runs.ite (fun _ => ?_) (fun _ => ?_))
  · exact ⟨_, rfl, stageNext_ends hc (Keeps.sameStage Keeps.rfl') hr nofun⟩
  · exact ⟨_, rfl, stageNext_ends hc (Keeps.sameStage (by simp [stageF])) hr nofun⟩
  · refine ⟨_, rfl, stagePass_ends hc (Keeps.sameStage ((keeps_mapCards _ (by simp [stageF])).2 (keeps_foldl_fst (fun p x hp => ?_) ?_))) hr⟩
    · exact (keeps_scanCard _ _ (by simp [stageF])).2 hp
    · simp [stageF]

theorem execBu8_ends (hr : stageRuns 8 s = true) (res : List PortTest) : Runs (StageEnds 8 s) (execBu8 res s) := by
  unfold execBu8
  rw [if_neg (by simp [hr])]
  refine ⟨_, rfl, stagePass_ends hc (Keeps.sameStage ((keeps_epochSince _ _ (by simp [stageF])).2
    (keeps_foldl_fst (fun p x hp => ?_) Keeps.rfl'))) hr⟩
  exact (keeps_bu8Port _ _ _ (by simp [stageF])).2 hp

theorem execStageTimeout_ends (ha : alive s = true) (hb : s.power.bringUpAt = none) (hi : s.power.inputSw = .closed) (hs : s.boot.st = .running)
    (hl : s.boot.stageTb + 50000 * stageLimitMs s.boot.stage < s.tb) :
    ∃ t, execStageTimeout s = .next t ∧ StageEnds s.boot.stage s t ∧ t.boot.st = .stopped
      ∧ ∀ r, r < 12 → r < s.rows.length → (t.row r).st = .off ∨ (t.row r).st = .dark :=
  ⟨_, if_pos ⟨ha, hb, hi, hs, hl⟩, stageStop_ends hc (Keeps.sameStage (by simp [stageF])) rfl, by rw [stageStop_boot],
    fun _ hr hw => stageStop_row_st hr hw⟩

end

/-- A stage that does not run leaves the state as it is. -/
theorem stage_idle (hr : stageRuns k s = false) : (k = 1 → ∀ w, exec (.bu1 w) s = .next s) ∧ (k = 3 → ∀ l, exec (.bu3 l) s = .next s)
    ∧ (k = 10 → exec .bu10 s = .next s) :=
  ⟨fun e _ => if_pos (e ▸ hr), fun e _ => if_pos (e ▸ hr), fun e => if_pos (e ▸ hr)⟩

end

/-- Settles O12: what a stage does before its end leaves the boot state of the running stage, and its end writes the record. -/
theorem eachStageWritesOneRecord : Obligations.EachStageWritesOneRecord := fun _ hc =>
  ⟨execBu1_ends hc, execBu2_ends hc, execBu3_ends hc, execBu4_ends hc, execBu5_ends hc, execBu6_ends hc, execBu7_ends hc, execBu8_ends hc, fun _ => stage_idle, execStageTimeout_ends hc⟩

end Sys2Proof.Machine
end

section
/-! PROOFS. The boot core, the image and the end of bring-up (05 R116, R120, R144; 21 R557). -/

namespace Sys2Proof.Machine

section
variable {s t u : State} {f0 f1 : Nat} {a b : Bool} {fs : List Finding}

/-! BU0 (05 R116, R120). -/

theorem measure_keeps (event arg detail : Nat) (digest : List Byte) (s : State) : Keeps [.sec] s (measure event arg detail digest s) :=
  (keeps_measure event arg detail digest s (List.Subset.refl _)).2 Keeps.rfl'

theorem measure_boot (event arg detail : Nat) (digest : List Byte) (s : State) : (measure event arg detail digest s).boot = s.boot :=
  measure_keeps event arg detail digest s .boot (by decide)

theorem measure_dmap (event arg detail : Nat) (digest : List Byte) (s : State) : (measure event arg detail digest s).dmap = s.dmap :=
  measure_keeps event arg detail digest s .dmap (by decide)

theorem mapMc_boot (x y : Bool) (s : State) : (mapMc x y s).boot = s.boot :=
  (keeps_mapMc x y s (List.Subset.refl _)).2 Keeps.rfl' .boot (by decide)

theorem mapMc_cores (x y : Bool) (s : State) : (mapMc x y s).dmap.mc0 = x ∧ (mapMc x y s).dmap.mc1 = y := by
  unfold mapMc State.modDmapE epochSince
  split <;> exact ⟨rfl, rfl⟩

/-- The core that BU0 chooses: MC0 when it passes, else MC1 when that passes (05 R116). -/
def bootCoreOf (f0 f1 : Nat) : Nat := if f0 = 0 then 0 else if f1 = 0 then 1 else 0

/-- The half of the log that a bring-up takes: the older one (05 R120). -/
def olderHalf (s : State) : Nat := if s.boot.bootNo = 0 then 0 else 1 - s.boot.curHalf

theorem bu0Begin_boot (s : State) : (bu0Begin f0 f1 a b s).boot
    = { (if s.boot.warm then bootLogStart s else coldStart a b (bootLogStart s)).boot with bootCore := bootCoreOf f0 f1 } := by
  have warm : (bootLogStart s).boot.warm = s.boot.warm := rfl
  unfold bu0Begin
  dsimp only
  rw [warm]
  split <;> simp only [measure_boot, mapMc_boot, State.modGw_boot, State.modBoot_boot, bootCoreOf]

/-- The log of the new bring-up is empty, and the stage that runs is as it was. -/
theorem bu0Begin_log (s : State) : (bu0Begin f0 f1 a b s).boot.bootNo = s.boot.bootNo + 1 ∧ (bu0Begin f0 f1 a b s).boot.curHalf = olderHalf s
    ∧ (bu0Begin f0 f1 a b s).boot.halves = s.boot.halves.set (olderHalf s) [] ∧ (bu0Begin f0 f1 a b s).boot.st = s.boot.st
    ∧ (bu0Begin f0 f1 a b s).boot.stage = s.boot.stage ∧ (bu0Begin f0 f1 a b s).boot.bootCore = bootCoreOf f0 f1 := by
  rw [bu0Begin_boot]
  split <;> exact ⟨rfl, rfl, rfl, rfl, rfl, rfl⟩

/-- A cold bring-up samples the straps, a warm restart keeps what was sampled (02 R40; 05 R142). -/
theorem bu0Begin_straps (s : State) :
    (s.boot.warm = false → (bu0Begin f0 f1 a b s).boot.slotId = s.power.straps % 64 ∧ (bu0Begin f0 f1 a b s).boot.mbxMode = s.power.mbxModePin)
    ∧ (s.boot.warm = true → (bu0Begin f0 f1 a b s).boot.slotId = s.boot.slotId ∧ (bu0Begin f0 f1 a b s).boot.mbxMode = s.boot.mbxMode) := by
  rw [bu0Begin_boot]
  refine ⟨fun cold => ?_, fun warm => ?_⟩
  · rw [if_neg (by simp [cold])]
    exact ⟨rfl, rfl⟩
  · rw [if_pos warm]
    exact ⟨rfl, rfl⟩

theorem bu0Begin_cores (s : State) : (bu0Begin f0 f1 a b s).dmap.mc0 = (f0 == 0) ∧ (bu0Begin f0 f1 a b s).dmap.mc1 = (f1 == 0) := by
  unfold bu0Begin
  dsimp only
  split
  · exact mapMc_cores ..
  · rw [measure_dmap]
    exact mapMc_cores ..

theorem stagePass_dmap (fs : List Finding) (s : State) : (stagePass fs s).dmap = s.dmap :=
  (keeps_stagePass fs s (List.Subset.refl _)).2 Keeps.rfl' .dmap (by decide)
theorem stageStop_dmap (fs : List Finding) (s : State) : (stageStop fs s).dmap = s.dmap :=
  (keeps_stageStop fs s (List.Subset.refl _)).2 Keeps.rfl' .dmap (by decide)

theorem stagePass_boot (fs : List Finding) (s : State) : ∃ st, (stagePass fs s).boot
    = { s.boot with halves := s.boot.halves.modify s.boot.curHalf (· ++ [stageRec st fs s]), pendFinds := [],
                    stage := s.boot.stage + 1, stageTb := s.tb } := by
  obtain ⟨st, -, e⟩ := stagePass_eq_stageNext fs s
  exact ⟨st, by rw [e, stageNext_boot]⟩

/-- The half that a bring-up has just cleared holds one record once the stage's record is written. -/
theorem nth_cleared_record {l : List (List BootRec)} {h : Nat} (r : BootRec) (hl : h < l.length) :
    (nth ((l.set h []).modify h (· ++ [r])) h).length = 1 := by
  have here : h < (l.set h []).length := by rw [List.length_set]; exact hl
  rw [nth_modify_self _ here]
  simp [nth, hl]

theorem olderHalf_lt (h2 : s.boot.halves.length = 2) : olderHalf s < s.boot.halves.length := by
  unfold olderHalf
  split <;> omega

section
variable (hr : stageRuns 0 s = true) (ha : s.eeprom.arbLost = none) (hw : ∀ q ∈ s.wit.rings, q.st ≠ .closing)
include hr ha hw

theorem bu0_unhindered : ¬ (stageRuns 0 s = false ∨ s.eeprom.arbLost.isSome = true ∨ (s.boot.warm && s.wit.rings.any (·.st == .closing)) = true) := by
  have closed : s.wit.rings.any (·.st == .closing) = false := by simpa using hw
  simp [hr, ha, closed]

theorem execBu0_stops (h0 : f0 ≠ 0) (h1 : f1 ≠ 0) : ∃ fs u, execBu0 f0 f1 a b false s = .next (stageStop fs u)
    ∧ u.boot = { (bu0Begin f0 f1 a b s).boot with vspineLost := false, bootCore := 0 } ∧ u.dmap = (bu0Begin f0 f1 a b s).dmap :=
  ⟨_, _, (if_neg (bu0_unhindered hr ha hw)).trans ((if_neg (by simp)).trans (if_pos ⟨h0, h1⟩)), rfl, rfl⟩

theorem execBu0_passes (h : f0 = 0 ∨ f1 = 0) : ∃ fs u, execBu0 f0 f1 a b false s = .next (stagePass fs u)
    ∧ u.boot = { (bu0Begin f0 f1 a b s).boot with vspineLost := false } ∧ u.dmap = (bu0Begin f0 f1 a b s).dmap :=
  ⟨_, _, (if_neg (bu0_unhindered hr ha hw)).trans ((if_neg (by simp)).trans (if_neg (by tauto))), rfl, rfl⟩

end
end

section
variable {s t u : State} {f0 f1 : Nat} {a b : Bool} {fs : List Finding}

/-! BU9 (21 R557). -/

theorem imgRequest_boot (idx off resends : Nat) (s : State) : (imgRequest idx off resends s).boot = s.boot :=
  (keeps_imgRequest idx off resends s (List.Subset.refl _)).2 Keeps.rfl' .boot (by decide)

section
variable (hr : stageRuns 9 s = true) (hq : s.gw.imgReqs = [])
include hr hq

theorem execBu9_asks (hu : s.chavi.up = true) :
    ∃ t, execBu9 s = .next t ∧ t.gw.imgReqs = [(0, 0, s.tb, 0)] ∧ t.boot = s.boot :=
  ⟨_, (if_neg (by simp [hr, hq])).trans (if_pos hu), rfl, imgRequest_boot ..⟩

theorem execBu9_stops (hu : s.chavi.up = false) (hj : s.power.j4Ok = false) : ∃ t, execBu9 s = .next t ∧ t.boot.st = .stopped :=
  ⟨_, (if_neg (by simp [hr, hq])).trans ((if_neg (by simp [hu])).trans (if_pos hj)), by rw [stageStop_boot]⟩

end

/-! BU10 (05 R144). -/

theorem setBootLeaf_gw (n : Nat) (s : State) : (setBootLeaf n s).gw = s.gw :=
  (keeps_setBootLeaf n s (List.Subset.refl _)).2 Keeps.rfl' .gw (by decide)
theorem stageRecord_gw (st : StageStatus) (fs : List Finding) (s : State) : (stageRecord st fs s).gw = s.gw :=
  (keeps_stageRecord st fs s (List.Subset.refl _)).2 Keeps.rfl' .gw (by decide)

/-- The management cores once core c runs Gwynpin: the other good core stands by (05 R144). -/
def gwStarted (c : Nat) (tb : Nat) (g : Gw) : Gw :=
  { g with running := some c, mc := (g.mc.set c .running).modify (1 - c) (fun m => if m == .failed then .failed else .standby)
           wdAt := tb + g.tmoMgmt, failAt := none }

theorem gwStarted_mc {c tb : Nat} {g : Gw} (hc : c < 2) (hl : g.mc.length = 2) : nth (gwStarted c tb g).mc c = .running
    ∧ (nth (gwStarted c tb g).mc (1 - c) = .standby ∨ nth (gwStarted c tb g).mc (1 - c) = .failed) := by
  have other : c ≠ 1 - c := by omega
  have there : 1 - c < (g.mc.set c .running).length := by rw [List.length_set]; omega
  refine ⟨?_, ?_⟩
  · rw [gwStarted, nth_modify_of_ne _ _ other]
    simp [nth, hl, hc]
  · rw [gwStarted, nth_modify_self _ there]
    split
    · exact .inr rfl
    · exact .inl rfl

theorem execBu10_ready (hr : stageRuns 10 s = true) : ∃ t st, execBu10 s = .next t ∧ st ≠ .stopped ∧ t.gw = gwStarted s.boot.bootCore s.tb s.gw
    ∧ t.boot = { s.boot with halves := s.boot.halves.modify s.boot.curHalf (· ++ [stageRec st [] s]), pendFinds := [], st := .ready } := by
  refine ⟨_, if s.boot.pendFinds.isEmpty then .pass else .passFindings, if_neg (by simp [hr]), ?_, ?_, ?_⟩
  · split <;> nofun
  · rw [setBootLeaf_gw, State.modBoot_gw, stageRecord_gw]
    rfl
  · rw [setBootLeaf_boot, State.modBoot_boot, stageRecord_boot]
    rfl

end

/-- Settles O13: BU0 ends as BU0 begins, by whether a core passes; BU9 by the link; BU10 starts the boot core. -/
theorem bootCoreAndReady : Obligations.BootCoreAndReady := by
  refine ⟨fun s f0 f1 a b hr ha hw h2 hc => ?bu0, fun s hr hq hu => execBu9_asks hr hq hu, fun s hr hq hu hj _ => execBu9_stops hr hq hu hj,
    fun s hr hc hl hh => ?bu10⟩
  case bu0 =>
    obtain ⟨bootNo, curHalf, halves, running, stage, core⟩ := bu0Begin_log (f0 := f0) (f1 := f1) (a := a) (b := b) s
    obtain ⟨cold, warm⟩ := bu0Begin_straps (f0 := f0) (f1 := f1) (a := a) (b := b) s
    obtain ⟨mc0, mc1⟩ := bu0Begin_cores (f0 := f0) (f1 := f1) (a := a) (b := b) s
    obtain ⟨-, -, -, hst, -, -⟩ := stageRuns_iff.1 hr
    by_cases hf : f0 = 0 ∨ f1 = 0
    · obtain ⟨fs, u, e, boot, dmap⟩ := execBu0_passes (a := a) (b := b) hr ha hw hf
      obtain ⟨st, passed⟩ := stagePass_boot fs u
      rw [boot] at passed
      refine ⟨_, e, ?_⟩
      rw [passed, stagePass_dmap, dmap]
      dsimp only
      rw [bootNo, curHalf, halves, stage, running, core]
      refine ⟨rfl, rfl, nth_cleared_record _ (olderHalf_lt h2), fun h => if_pos h, fun h h' => (if_neg h).trans (if_pos h'), fun _ => ⟨hst, rfl⟩,
        fun h h' => absurd hf (by tauto), mc0, mc1, cold, warm⟩
    · obtain ⟨h0, h1⟩ := not_or.1 hf
      obtain ⟨fs, u, e, boot, dmap⟩ := execBu0_stops (a := a) (b := b) hr ha hw h0 h1
      refine ⟨_, e, ?_⟩
      rw [stageStop_boot, stageStop_dmap, boot, dmap]
      dsimp only
      rw [bootNo, curHalf, halves, stage]
      exact ⟨rfl, rfl, nth_cleared_record _ (olderHalf_lt h2), fun h => absurd h h0, fun _ h => absurd h h1, fun h => absurd h hf,
        fun _ _ => rfl, mc0, mc1, cold, warm⟩
  case bu10 =>
    obtain ⟨t, st, e, hst, gw, boot⟩ := execBu10_ready hr
    obtain ⟨-, -, -, -, stage, -⟩ := stageRuns_iff.1 hr
    obtain ⟨run, other⟩ := gwStarted_mc (tb := s.tb) hc hl
    refine ⟨t, e, ?_⟩
    rw [gw, boot]
    exact ⟨rfl, rfl, run, rfl, other, _, nth_modify_self _ hh, stage, hst⟩

end Sys2Proof.Machine
end

section
/-! PROOFS. The status commands and the data they write at RESPTR (05 R124, R139, R140; 13 R361; 16 R446, Tables 16.3, 16.4; 17 R469;
22 R592). -/

namespace Sys2Proof.Machine

/-! Byte counts. -/

@[simp] theorem leBytes_length (n v : Nat) : (leBytes n v).length = n := by
  induction n generalizing v with
  | zero => rfl
  | succ n ih => simp [leBytes, ih]

/-- Records of n bytes each, one after another. -/
theorem flatMap_length {α : Type} {l : List α} {f : α → List Byte} {n : Nat} (h : ∀ x ∈ l, (f x).length = n) :
    (l.flatMap f).length = n * l.length := by
  rw [List.length_flatMap, List.map_congr_left h, List.map_const', List.sum_replicate, smul_eq_mul, Nat.mul_comm]

/-- Words for units counted from 0 begin with the word of unit 0. -/
theorem take_words {n k : Nat} {f : Nat → List Byte} (l : List Byte) (h : (f 0).length = k) :
    (((List.range (n + 1)).flatMap f) ++ l).take k = f 0 := by
  rw [List.range_succ_eq_map, List.flatMap_cons, List.append_assoc]
  exact List.take_left' h

theorem ErrRec.bytes_length (e : ErrRec) : e.bytes.length = 64 := by
  simp [ErrRec.bytes]

theorem cardRec_length (s : State) (c free : Nat) : (cardRec s c free).length = 32 := by
  simp [cardRec]

theorem fchanRec_length (s : State) (c k : Nat) : (fchanRec s c k).length = 32 := by
  simp [fchanRec]

section
variable {s t : State} {h : CmdHdr} {sec : Bool} {op need o a : Nat} {self : Instr} {body : State → Done} {e : State → State}
  {inline data : List Byte} {l : List Fld}

/-! What a write of memory depends on: the bytes that are there, and the fuses that say which units there are (12 R305). -/

theorem memWrite_mem_congr (hm : t.mem = s.mem) (hf : t.fuse = s.fuse) (a : Nat) (l : List Byte) : (memWrite t a l).mem = (memWrite s a l).mem := by
  have place_eq (b : Nat) : place t b = place s b := by simp only [place, hf]
  have canon_eq : canon t = canon s := funext fun b => by simp only [canon, place_eq]
  have cells_eq (m : List Host.Cell) : writeCells t m a l = writeCells s m a l := by
    induction l generalizing m a with
    | nil => rfl
    | cons b l ih => simp only [writeCells, canon_eq, ih]
  have covers_eq : coversUnit t a l.length = coversUnit s a l.length := funext fun u => by simp only [coversUnit, canon_eq]
  simp only [memWrite, State.modMem_mem, hm, cells_eq, covers_eq]

theorem memWrite_nil_mem (s : State) (a : Nat) : (memWrite s a []).mem = s.mem := by
  have uncovered (u : Nat) : coversUnit s a 0 u = false := rfl
  simp [memWrite, writeCells, uncovered]

/-! A command answered at once, with data (16 R438, Table 16.2). -/

theorem writeReply_keeps (rchan : Nat) (msg : List Byte) (s : State) : Keeps gwF s (writeReply rchan msg s) :=
  (keeps_writeReply rchan msg s (List.Subset.refl _)).2 Keeps.rfl'

theorem finish_replied_data (mseq : Nat) (c : Code) (inline data : List Byte) (ht : t.tb = s.tb) :
    Replied s (finish op h mseq c inline data t) h op c inline data := by
  have tb : (if data.isEmpty then t else memWrite t h.resptr data).tb = s.tb := by
    split <;> exact ht
  unfold Replied finish
  rw [mbxAck_gw, State.modGw_gw, tb]

theorem finish_mem (mseq : Nat) (c : Code) (inline data : List Byte) (t : State) :
    (finish op h mseq c inline data t).mem = (memWrite t h.resptr data).mem := by
  have written : (if data.isEmpty then t else memWrite t h.resptr data).mem = (memWrite t h.resptr data).mem := by
    split
    · next empty => rw [List.isEmpty_iff.1 empty, memWrite_nil_mem]
    · rfl
  have acked (u : State) (n : Nat) : (mbxAck h.chan mseq n u).mem = u.mem :=
    (keeps_mbxAck h.chan mseq n u (List.Subset.refl _)).2 Keeps.rfl' .mem (by decide)
  unfold finish
  rw [acked, State.modGw_mem, ← written]
  exact writeReply_keeps _ _ _ .mem (by decide)

/-- A command answered at once with data: the data lie at RESPTR, and the effect `e` of its meaning, which is nothing of the memory,
stands. -/
theorem gwCommand_answers_data (g : GwGo s h sec need o) (hb : ∀ m, body (s.modMbx m) = .now .ok inline data (e (s.modMbx m)))
    (ht : ∀ m, (e (s.modMbx m)).tb = s.tb) (hm : ∀ m, (e (s.modMbx m)).mem = s.mem) (hf : ∀ m, (e (s.modMbx m)).fuse = s.fuse) :
    ∃ t m, gwCommand self h op sec need o body s = .next t ∧ RepliedData s t h op inline data data.length
      ∧ Keeps (.mem :: gwF) (e (s.modMbx m)) t := by
  obtain ⟨m, he⟩ := gwCommand_taken (self := self) (op := op) (body := body) g
  rw [hb m] at he
  exact ⟨_, m, he, ⟨finish_replied_data _ _ _ _ (ht m), rfl, (finish_mem ..).trans (memWrite_mem_congr (hm m) (hf m) ..)⟩,
    (keeps_finish _ _ _ _ _ _ _ (List.Subset.refl _)).2 Keeps.rfl'⟩

/-- One that reads and has no effect of its own. -/
theorem gwCommand_reads (g : GwGo s h sec need o) (hb : ∀ m, body (s.modMbx m) = .now .ok inline data (s.modMbx m)) :
    ∃ t, gwCommand self h op sec need o body s = .next t ∧ RepliedData s t h op inline data data.length ∧ Keeps (.mem :: gwF) s t := by
  obtain ⟨t, m, he, hr, hk⟩ := gwCommand_answers_data (self := self) (op := op) (e := id) g hb (fun _ => rfl) (fun _ => rfl) (fun _ => rfl)
  exact ⟨t, he, hr, Keeps.trans (t := s.modMbx m) (by simp [gwF]) hk⟩

end

section
variable {s t : State} {h : CmdHdr} {b half start max : Nat}

/-! The commands, as far as they are legal. -/

theorem execDeviceInfo_reads (g : GwGo s h false 1024 objDevice) : ∃ t, execDeviceInfo h s = .next t
    ∧ RepliedData s t h 0x0101 (leBytes 4 (spnCaps s) ++ leBytes 4 s.dmap.epoch) (deviceInfo s) (deviceInfo s).length ∧ Keeps (.mem :: gwF) s t :=
  gwCommand_reads g (fun _ => rfl)

theorem execDefectMap_reads (g : GwGo s h false 512 objDevice) : ∃ t, execDefectMap h s = .next t
    ∧ RepliedData s t h 0x0102 (leBytes 4 s.dmap.epoch) (dmapBytes s) (dmapBytes s).length ∧ Keeps (.mem :: gwF) s t :=
  gwCommand_reads g (fun _ => rfl)

/-- The previous bring-up's half is read without an effect. -/
theorem execBootLog_previous (g : GwGo s h false (bootLogHalf s 1).length objDevice) : ∃ t, execBootLog h 1 s = .next t
    ∧ RepliedData s t h 0x0103 [] (bootLogHalf s 1) (bootLogHalf s 1).length ∧ Keeps (.mem :: gwF) s t :=
  gwCommand_reads g (fun _ => rfl)

/-- The read of the current half clears the bring-up leaf (22 R593). -/
def bootLogSeen (s : State) : State := attnSettle (s.modAttn (fun a => { a with cause := a.cause.modify 0 (w1c · 1) }))

theorem bootLogSeen_keeps (s : State) : Keeps [.chavi, .sec, .attn, .out] s (bootLogSeen s) := by simp [bootLogSeen]

theorem execBootLog_current (g : GwGo s h false (bootLogHalf s 0).length objDevice) : ∃ t, execBootLog h 0 s = .next t
    ∧ RepliedData s t h 0x0103 [] (bootLogHalf s 0) (bootLogHalf s 0).length ∧ Keeps (.attn :: .mem :: gwF) s t := by
  obtain ⟨t, m, he, hr, hk⟩ : ∃ t m, execBootLog h 0 s = .next t
      ∧ RepliedData s t h 0x0103 [] (bootLogHalf s 0) (bootLogHalf s 0).length ∧ Keeps (.mem :: gwF) (bootLogSeen (s.modMbx m)) t :=
    gwCommand_answers_data (e := bootLogSeen) g (fun _ => rfl) (fun m => congrArg Clk.tb (bootLogSeen_keeps (s.modMbx m) .clk (by decide)))
      (fun m => bootLogSeen_keeps (s.modMbx m) .mem (by decide)) (fun m => bootLogSeen_keeps (s.modMbx m) .fuse (by decide))
  exact ⟨t, he, hr, Keeps.trans (t := bootLogSeen (s.modMbx m)) (by simp [bootLogSeen, gwF]) (hk.mono (by decide))⟩

/-- The bytes of POWER_STATUS (16 R446). -/
def powerBytes (s : State) : List Byte :=
  (List.range 12).flatMap (fun r => leBytes 4 (pwrRow s r)) ++ (List.range 45).flatMap (fun n => leBytes 8 (pwrDom s n))

theorem powerBytes_length (s : State) : (powerBytes s).length = 408 := by
  rw [powerBytes, List.length_append, flatMap_length (fun _ _ => leBytes_length ..), flatMap_length (fun _ _ => leBytes_length ..)]
  simp

theorem powerBytes_take (s : State) : (powerBytes s).take 4 = leBytes 4 (pwrRow s 0) :=
  take_words (f := fun r => leBytes 4 (pwrRow s r)) _ (leBytes_length ..)

theorem execPowerStatus_reads (g : GwGo s h false 408 objDevice) : ∃ t, execPowerStatus h s = .next t
    ∧ RepliedData s t h 0x0104 [] (powerBytes s) (powerBytes s).length ∧ Keeps (.mem :: gwF) s t :=
  gwCommand_reads g (fun _ => rfl)

/-- The bytes of CLOCK_STATUS (16 R446), and the clearing of the RC fields by its read (04 R109). -/
def clockBytes (s : State) : List Byte :=
  leBytes 4 (clkStep s) ++ leBytes 4 0 ++ leBytes 8 s.clk.stepAt ++ (List.range 12).flatMap (fun r => leBytes 8 (clkRowWord s r))

def countsCleared (s : State) : State := s.modClk (fun c => { c with rowCnt := c.rowCnt.map (fun _ => {}) })

theorem clockBytes_length (s : State) : (clockBytes s).length = 112 := by
  rw [clockBytes, List.length_append, flatMap_length (fun _ _ => leBytes_length ..)]
  simp

theorem countsCleared_clkRow (s : State) (r : Nat) : (countsCleared s).clkRow r = {} := by
  by_cases hr : r < s.clk.rowCnt.length
  · exact nth_map (fun _ => ({} : ClkRow)) hr
  · exact nth_of_length_le (by simpa [countsCleared] using hr)

theorem execClockStatus_reads (g : GwGo s h false 112 objDevice) : ∃ t m, execClockStatus h s = .next t
    ∧ RepliedData s t h 0x0105 [] (clockBytes s) (clockBytes s).length ∧ Keeps (.mem :: gwF) (countsCleared (s.modMbx m)) t :=
  gwCommand_answers_data (e := countsCleared) g (fun _ => rfl) (fun _ => rfl) (fun _ => rfl) (fun _ => rfl)

/-- The bytes of FABRIC_STATUS (16 R446). -/
def fabricBytes (s : State) (b : Nat) : List Byte := leBytes 8 (fabRoute s b) ++ (List.range 6).flatMap (fun p => leBytes 8 (fabPort s (6 * b + p)))

theorem fabricBytes_length (s : State) (b : Nat) : (fabricBytes s b).length = 56 := by
  rw [fabricBytes, List.length_append, flatMap_length (fun _ _ => leBytes_length ..)]
  simp

theorem execFabricStatus_reads (g : GwGo s h false 56 (objBridge b)) (hb : b < 2) : ∃ t, execFabricStatus h b s = .next t
    ∧ RepliedData s t h 0x0106 [] (fabricBytes s b) (fabricBytes s b).length ∧ Keeps (.mem :: gwF) s t :=
  gwCommand_reads g (fun _ => if_neg (by omega))

/-- The bytes of FLASH_HEALTH (13 R361), and the restart of the counts since the last read. -/
def flashBytes (s : State) : List Byte :=
  (List.range 8).flatMap (fun c => cardRec s c (Config.freeNat (s.fresh + c)) ++ (List.range 4).flatMap (fchanRec s c))

def healthRead (s : State) : State := (s.modFresh (· + 8)).modFlash (fun f => { f with cards := f.cards.map (fun c => { c with
  chans := c.chans.map (fun k => { k with retry := 0, recon := 0, failed := 0 }) }) })

theorem flashBytes_length (s : State) : (flashBytes s).length = 1280 := by
  have card (c : Nat) : (cardRec s c (Config.freeNat (s.fresh + c)) ++ (List.range 4).flatMap (fchanRec s c)).length = 160 := by
    rw [List.length_append, cardRec_length, flatMap_length (fun k _ => fchanRec_length s c k)]
    rfl
  rw [flashBytes, flatMap_length (fun c _ => card c)]
  rfl

theorem nth_map_of_default {α : Type} [Inhabited α] {l : List α} {f : α → α} (h : f default = default) (k : Nat) : nth (l.map f) k = f (nth l k) := by
  by_cases hk : k < l.length
  · exact nth_map f hk
  · rw [nth_of_length_le (by simpa using hk), nth_of_length_le (by omega), h]

theorem healthRead_fchan (s : State) (c k : Nat) :
    (healthRead s).fchan c k = { s.fchan c k with retry := 0, recon := 0, failed := 0 } := by
  have card : (healthRead s).card c = { s.card c with chans := (s.card c).chans.map (fun k => { k with retry := 0, recon := 0, failed := 0 }) } :=
    nth_map_of_default (f := fun c : Card => { c with chans := c.chans.map (fun k => { k with retry := 0, recon := 0, failed := 0 }) }) rfl c
  rw [State.fchan, card]
  exact nth_map_of_default rfl k

theorem execFlashHealth_reads (g : GwGo s h false 1280 objDevice) (hf : hasFlash s = true) : ∃ t m, execFlashHealth h s = .next t
    ∧ RepliedData s t h 0x0107 [] (flashBytes s) (flashBytes s).length ∧ Keeps (.mem :: gwF) (healthRead (s.modMbx m)) t :=
  gwCommand_answers_data (e := healthRead) g (fun m => if_neg (by simp [show hasFlash (s.modMbx m) = true from hf]))
    (fun _ => rfl) (fun _ => rfl) (fun _ => rfl)

theorem execFlashHealth_absent (g : GwGo s h false 1280 objDevice) (hf : hasFlash s = false) :
    ∃ t, execFlashHealth h s = .next t ∧ Replied s t h 0x0107 .unitAbsent [] [] ∧ Keeps gwF s t :=
  gwCommand_refuses g (fun _ => if_pos hf)

/-- The read of the records clears the leaves of the branches whose last record it has returned (22 R592). -/
def logRead (start max : Nat) (s : State) : State := clearBelow (min (logNext s start max) s.err.next) s

theorem logRead_keeps (start max : Nat) (s : State) : Keeps [.chavi, .sec, .attn, .out] s (logRead start max s) := by simp [logRead]

theorem execErrorLogRead_reads (g : GwGo s h false (64 * (logFrom s start max).length) objDevice) : ∃ t, execErrorLogRead h start max s = .next t
    ∧ RepliedData s t h 0x0108 (leBytes 8 (logNext s start max)) ((logFrom s start max).flatMap ErrRec.bytes) (64 * (logFrom s start max).length)
    ∧ Keeps (.attn :: .mem :: gwF) s t := by
  obtain ⟨t, m, he, hr, hk⟩ : ∃ t m, execErrorLogRead h start max s = .next t
      ∧ RepliedData s t h 0x0108 (leBytes 8 (logNext s start max)) ((logFrom s start max).flatMap ErrRec.bytes)
          ((logFrom s start max).flatMap ErrRec.bytes).length
      ∧ Keeps (.mem :: gwF) (logRead start max (s.modMbx m)) t :=
    gwCommand_answers_data (e := logRead start max) g (fun _ => rfl)
      (fun m => congrArg Clk.tb (logRead_keeps start max (s.modMbx m) .clk (by decide)))
      (fun m => logRead_keeps start max (s.modMbx m) .mem (by decide)) (fun m => logRead_keeps start max (s.modMbx m) .fuse (by decide))
  rw [flatMap_length (fun r _ => r.bytes_length)] at hr
  exact ⟨t, he, hr, Keeps.trans (t := logRead start max (s.modMbx m)) (by simp [logRead, gwF]) (hk.mono (by decide))⟩

end

/-- Settles O45: each command answers with the bytes of its builder, whose length is the one it checks RESPTR for. -/
theorem statusCommandsWriteTheirData : Obligations.StatusCommandsWriteTheirData := by
  refine ⟨fun s h g => execDeviceInfo_reads g, fun s h g => execDefectMap_reads g, fun s h g _ => execBootLog_previous g,
    fun s h g _ => execBootLog_current g, fun s h g => ?power, fun s h g => ?clock, fun s h b g hb => ?fabric,
    fun s h g => ⟨fun hf => ?flash, execFlashHealth_absent g⟩, fun s h a m g _ => execErrorLogRead_reads g⟩
  case power =>
    obtain ⟨t, e, hr, hk⟩ := execPowerStatus_reads g
    exact ⟨t, e, ⟨_, powerBytes_length s ▸ hr, powerBytes_take s⟩, hk⟩
  case clock =>
    obtain ⟨t, m, e, hr, hk⟩ := execClockStatus_reads g
    have clk : t.clk = (countsCleared (s.modMbx m)).clk := hk .clk (by decide)
    refine ⟨t, e, ⟨_, clockBytes_length s ▸ hr, ?_⟩, fun r => ?_, (congrArg Clk.tb clk).trans rfl,
      Keeps.trans (t := countsCleared (s.modMbx m)) (by simp [countsCleared, gwF]) (hk.mono (by decide))⟩
    · simp only [clockBytes, List.append_assoc]
      exact List.take_left' (leBytes_length ..)
    · rw [State.clkRow, clk]
      exact countsCleared_clkRow (s.modMbx m) r
  case fabric =>
    obtain ⟨t, e, hr, hk⟩ := execFabricStatus_reads g hb
    exact ⟨t, e, ⟨_, fabricBytes_length s b ▸ hr, List.take_left' (leBytes_length ..)⟩, hk⟩
  case flash =>
    obtain ⟨t, m, e, hr, hk⟩ := execFlashHealth_reads g hf
    have flash : t.flash = (healthRead (s.modMbx m)).flash := hk .flash (by decide)
    have fchan (c k : Nat) : t.fchan c k = { s.fchan c k with retry := 0, recon := 0, failed := 0 } :=
      (congrArg (fun f : Flash => nth (nth f.cards c).chans k) flash).trans (healthRead_fchan (s.modMbx m) c k)
    refine ⟨t, e, ⟨_, flashBytes_length s ▸ hr⟩, fun c k => by rw [fchan]; exact ⟨rfl, rfl⟩,
      Keeps.trans (t := healthRead (s.modMbx m)) (by simp [healthRead, gwF]) (hk.mono (by decide))⟩

end Sys2Proof.Machine
end

section
/-! PROOFS. The commands for power, timers, calibration, defects and restart (05 R141, R142; 18 R484, R489, R506; 19 R512, R528, R529,
R533). -/

namespace Sys2Proof.Machine

section
variable {s t : State} {h : CmdHdr} {sec : Bool} {op need o : Nat} {self : Instr} {body : State → Done} {e post : State → State}

/-! What the answer to a command leaves of Gwynpin and of the measurements: it adds the reply, and at most one retry. -/

theorem mbxWrite_gw (n : Nat) (msg : List Byte) (sid : Nat) (s : State) : (mbxWrite n msg sid s).2.gw = s.gw :=
  (keeps_mbxWrite n msg sid s (List.Subset.refl _)).2 Keeps.rfl' .gw (by decide)

theorem writeReply_gw (rchan : Nat) (msg : List Byte) (s : State) : ∃ r, (writeReply rchan msg s).gw = { s.gw with retries := r } := by
  have same : ∃ r, s.gw = { s.gw with retries := r } := ⟨s.gw.retries, rfl⟩
  unfold writeReply
  split
  · exact same
  · have written := mbxWrite_gw rchan msg (gwStamp s) s
    split
    · exact ⟨_, rfl⟩
    · next u _ e => rw [e] at written; rw [written]; exact same

theorem finish_gw (mseq : Nat) (c : Code) (inline : List Byte) (t : State) :
    ∃ r y, (finish op h mseq c inline [] t).gw = { t.gw with retries := r, lastReply := y } := by
  obtain ⟨r, e⟩ := writeReply_gw h.rchan (replyMsg op h.ctag c.val t.tb 0 inline) t
  unfold finish
  rw [mbxAck_gw, State.modGw_gw]
  simp only [List.isEmpty_nil, if_true, List.length_nil, e]
  exact ⟨_, _, rfl⟩

theorem chaviEmit_nmeas (p : ChaviOut) (s : State) : (chaviEmit p s).sec.nmeas = s.sec.nmeas := by
  have ended (c : Prop) [Decidable c] : (if c then endSession s else s).sec.nmeas = s.sec.nmeas := by split <;> rfl
  unfold chaviEmit
  dsimp only
  generalize hu : (if s.sec.session ≠ 0 ∧ 2 ^ 48 ≤ s.sec.ctrTx then endSession s else s) = u
  have same : u.sec.nmeas = s.sec.nmeas := hu ▸ ended _
  split
  · exact same
  · split
    · exact same
    · exact same

theorem chaviDrain_nmeas (n : Nat) (s : State) : (chaviDrain n s).sec.nmeas = s.sec.nmeas := by
  induction n generalizing s with
  | zero => rfl
  | succ n ih =>
    unfold chaviDrain
    split
    · rfl
    · dsimp only
      split
      · rw [ih, chaviEmit_nmeas]; rfl
      · rfl

theorem chaviSend_nmeas (p : ChaviOut) (s : State) : (chaviSend p s).sec.nmeas = s.sec.nmeas := by
  unfold chaviSend
  split
  · rfl
  · split
    · exact chaviEmit_nmeas ..
    · exact chaviDrain_nmeas ..

theorem deliver_nmeas (n : Nat) (s : State) : (deliver n s).sec.nmeas = s.sec.nmeas := by
  unfold deliver
  dsimp only
  split
  · rfl
  · unfold deliverHost
    dsimp only
    split
    · exact chaviSend_nmeas ..
    · rfl
  · split <;> rfl
  · exact congrArg Sec.nmeas (inject_keeps _ _ _ _ _ .sec (by decide))

theorem mbxWrite_nmeas (n : Nat) (msg : List Byte) (sid : Nat) (s : State) : (mbxWrite n msg sid s).2.sec.nmeas = s.sec.nmeas := by
  unfold mbxWrite
  split
  · exact deliver_nmeas ..
  · rfl

theorem finish_nmeas (mseq : Nat) (c : Code) (inline : List Byte) (t : State) : (finish op h mseq c inline [] t).sec.nmeas = t.sec.nmeas := by
  have acked (u : State) (n : Nat) : (mbxAck h.chan mseq n u).sec = u.sec :=
    (keeps_mbxAck h.chan mseq n u (List.Subset.refl _)).2 Keeps.rfl' .sec (by decide)
  have replied (msg : List Byte) : (writeReply h.rchan msg t).sec.nmeas = t.sec.nmeas := by
    have written := mbxWrite_nmeas h.rchan msg (gwStamp t) t
    unfold writeReply
    split
    · rfl
    · split
      · rfl
      · next u _ e => rw [e] at written; exact written
  unfold finish
  rw [acked, State.modGw_sec]
  exact replied _

/-- A command whose effect applies once it has been answered. -/
theorem gwCommand_answers_then (g : GwGo s h sec need o) (hb : ∀ m, body (s.modMbx m) = .after (s.modMbx m) post) :
    ∃ u, gwCommand self h op sec need o body s = .next (post u) ∧ Replied s u h op .ok [] [] ∧ Keeps gwF s u ∧ u.sec.nmeas = s.sec.nmeas := by
  obtain ⟨m, he⟩ := gwCommand_taken (self := self) (op := op) (body := body) g
  rw [hb m] at he
  refine ⟨_, he, finish_replied _ _ _ rfl, Keeps.trans (t := s.modMbx m) (by simp [gwF]) (finish_keeps _ _ _ _), ?_⟩
  exact finish_nmeas ..

end

section
variable {s t : State} {h : CmdHdr} {m p a b g j v l r u n : Nat}

/-! Commands whose whole effect is an update of the controller, or of the clocks but not the timebase. -/

section
variable {sec : Bool} {op need o : Nat} {self : Instr} {body : State → Done}

theorem gwCommand_sets_cap {f : Cap → Cap} (g : GwGo s h sec need o) (hb : ∀ m, body (s.modMbx m) = .now .ok [] [] ((s.modMbx m).modCap f)) :
    ∃ t, gwCommand self h op sec need o body s = .next t ∧ Replied s t h op .ok [] [] ∧ t.cap = f s.cap ∧ Keeps (.cap :: gwF) s t := by
  obtain ⟨t, m, e, hr, hk⟩ := gwCommand_answers (self := self) (op := op) (e := (·.modCap f)) g hb (fun _ => rfl)
  exact ⟨t, e, hr, hk .cap (by decide), Keeps.trans (t := (s.modMbx m).modCap f) (by simp [gwF]) (hk.mono (by decide))⟩

theorem gwCommand_sets_clk {f : Clk → Clk} (g : GwGo s h sec need o) (ht : (f s.clk).tb = s.tb)
    (hb : ∀ m, body (s.modMbx m) = .now .ok [] [] ((s.modMbx m).modClk f)) :
    ∃ t, gwCommand self h op sec need o body s = .next t ∧ Replied s t h op .ok [] [] ∧ t.clk = f s.clk ∧ Keeps (.clk :: gwF) s t := by
  obtain ⟨t, m, e, hr, hk⟩ := gwCommand_answers (self := self) (op := op) (e := (·.modClk f)) g hb (fun _ => ht)
  exact ⟨t, e, hr, hk .clk (by decide), Keeps.trans (t := (s.modMbx m).modClk f) (by simp [gwF]) (hk.mono (by decide))⟩

end

/-! POWER_CAP and STEP_LIMIT (19 R512). -/

/-- The effect of POWER_CAP: each value is set, or kept where 0 is given. -/
def capSet (m p a b : Nat) (s : State) : State :=
  ((s.modCap (fun c => { c with module := if m = 0 then c.module else m, package := if p = 0 then c.package else p })).modHalf 0
    (fun x => { x with iLim := if a = 0 then x.iLim else a })).modHalf 1 (fun x => { x with iLim := if b = 0 then x.iLim else b })

theorem capSet_half (hl : 1 < s.power.halves.length) : ((capSet m p a b s).half 0).iLim = (if a = 0 then (s.half 0).iLim else a)
    ∧ ((capSet m p a b s).half 1).iLim = (if b = 0 then (s.half 1).iLim else b) := by
  have first : 0 < s.power.halves.length := by omega
  have second : 1 < (s.power.halves.modify 0 (fun x => { x with iLim := if a = 0 then x.iLim else a })).length := by rw [List.length_modify]; exact hl
  have halves : (capSet m p a b s).power.halves = (s.power.halves.modify 0 (fun x => { x with iLim := if a = 0 then x.iLim else a })).modify 1
      (fun x => { x with iLim := if b = 0 then x.iLim else b }) := rfl
  simp only [State.half, halves]
  constructor
  · rw [nth_modify_of_ne _ _ (by decide), nth_modify_self _ first]
  · rw [nth_modify_self _ second, nth_modify_of_ne _ _ (by decide)]

/-- Within the range of a value, or 0 to keep it. -/
def capOk (v lo hi : Nat) : Bool := v == 0 || (decide (lo ≤ v) && decide (v ≤ hi))

theorem capOk_of_range {lo hi : Nat} (h : v = 0 ∨ lo ≤ v ∧ v ≤ hi) : capOk v lo hi = true := by
  simpa [capOk] using h

def capBody (m p a b : Nat) (s : State) : Done :=
  if capOk m 200000 1400000 && capOk p 150000 1000000 && capOk a 60 504 && capOk b 60 504 then .now .ok [] [] (capSet m p a b s)
  else .now .cmdIllegal [] [] s

theorem execPowerCap_eq (h : CmdHdr) (m p a b : Nat) (s : State) :
    execPowerCap h m p a b s = gwCommand (.powerCap h m p a b) h 0x0205 false 0 objDevice (capBody m p a b) s := rfl

theorem execPowerCap_sets (g : GwGo s h false 0 objDevice) (hm : capOk m 200000 1400000 = true) (hp : capOk p 150000 1000000 = true)
    (ha : capOk a 60 504 = true) (hb : capOk b 60 504 = true) :
    ∃ t x, execPowerCap h m p a b s = .next t ∧ Replied s t h 0x0205 .ok [] [] ∧ Keeps gwF (capSet m p a b (s.modMbx x)) t := by
  rw [execPowerCap_eq]
  exact gwCommand_answers g (fun _ => if_pos (by rw [hm, hp, ha, hb]; rfl)) (fun _ => rfl)

theorem execPowerCap_refuses (g : GwGo s h false 0 objDevice) (hm : capOk m 200000 1400000 = false) :
    ∃ t, execPowerCap h m p a b s = .next t ∧ Replied s t h 0x0205 .cmdIllegal [] [] ∧ Keeps gwF s t := by
  rw [execPowerCap_eq]
  exact gwCommand_refuses g (fun _ => if_neg (by simp [hm]))

theorem execStepLimit_sets (g : GwGo s h false 0 objDevice) (hab : a ≤ b) (hb : b ≤ 7) :
    ∃ t, execStepLimit h a b s = .next t ∧ Replied s t h 0x0206 .ok [] [] ∧ t.cap = { s.cap with stepMin := a, stepMax := b }
      ∧ Keeps (.cap :: gwF) s t :=
  gwCommand_sets_cap (f := fun c => { c with stepMin := a, stepMax := b }) g (fun _ => if_pos ⟨hab, hb⟩)

/-! ENERGY_REPORT (19 R528). -/

theorem energyRec_length (v : Interval) (k : Nat) : (energyRec v k).length = 64 := by
  have jobs : ((v.jobs.drop (8 * k)).take 8 ++ List.replicate (8 - ((v.jobs.drop (8 * k)).take 8).length) 0xFFFFFFFF).length = 8 := by
    rw [List.length_append, List.length_replicate]
    have := List.length_take_le 8 (v.jobs.drop (8 * k))
    omega
  simp only [energyRec, List.length_append, leBytes_length]
  rw [flatMap_length (fun _ _ => leBytes_length ..), jobs]

theorem energyHeader_length (s : State) (j a n : Nat) : (energyHeader s j a n).length = 64 := by
  simp [energyHeader]

theorem energyFit_length {x : Nat × List Byte} (hx : x ∈ energyFit s j a n) : x.2.length = 64 := by
  obtain ⟨v, -, hv⟩ := List.mem_flatMap.1 (List.mem_of_mem_take hx)
  obtain ⟨k, -, rfl⟩ := List.mem_map.1 hv
  exact energyRec_length v k

/-- The bytes of the report: its header and the records that fit. -/
def energyBytes (s : State) (j a n : Nat) : List Byte := energyHeader s j a n ++ (energyFit s j a n).flatMap (·.2)

theorem energyBytes_length (s : State) (j a n : Nat) : (energyBytes s j a n).length = 64 + 64 * (energyFit s j a n).length := by
  rw [energyBytes, List.length_append, energyHeader_length, flatMap_length (fun x hx => energyFit_length hx)]

theorem execEnergyReport_reads (g : GwGo s h false (max 128 (64 + 64 * (energyFit s j a h.resmax).length)) objDevice) :
    ∃ t x, execEnergyReport h j a s = .next t ∧ RepliedData s t h 0x0207 [] (energyBytes s j a h.resmax) (energyBytes s j a h.resmax).length
      ∧ Keeps (.mem :: gwF) ((s.modMbx x).modFresh (· + 1)) t :=
  gwCommand_answers_data (e := (·.modFresh (· + 1))) g (fun _ => rfl) (fun _ => rfl) (fun _ => rfl) (fun _ => rfl)

/-! POWER_GROUP (19 R529, R533). -/

section
variable (go : GwGo s h true 0 objGroup)
include go

theorem execPowerGroup_joins (lo : 200000 ≤ b) (hi : b ≤ 1400000) (hg : s.cap.group = none) (hp : s.fab.epBase ≠ none) :
    ∃ t, execPowerGroup h 0 g b s = .next t ∧ Replied s t h 0x0208 .ok [] []
      ∧ t.cap = { s.cap with group := some g, share := b, roster := [], seenTseq := [], grants := [] } ∧ Keeps (.cap :: gwF) s t := by
  have inRange : ¬ (b < 200000 ∨ 1400000 < b) := by omega
  exact gwCommand_sets_cap (f := fun c => { c with group := some g, share := b, roster := [], seenTseq := [], grants := [] }) go
    (fun _ => by simp [groupJoin, inRange, hg, hp])

theorem execPowerGroup_joined (lo : 200000 ≤ b) (hi : b ≤ 1400000) (hg : s.cap.group ≠ none) :
    ∃ t, execPowerGroup h 0 g b s = .next t ∧ Replied s t h 0x0208 .unitBusy [] [] ∧ Keeps gwF s t := by
  have inRange : ¬ (b < 200000 ∨ 1400000 < b) := by omega
  have busy : s.cap.group.isSome = true := Option.isSome_iff_ne_none.2 hg
  exact gwCommand_refuses go (fun _ => by simp [groupJoin, inRange, busy])

theorem execPowerGroup_leaves (hg : s.cap.group = some g) :
    ∃ t, execPowerGroup h 1 g 0 s = .next t ∧ Replied s t h 0x0208 .ok [] []
      ∧ t.cap = { s.cap with group := none, share := 0, roster := [], grants := [] } ∧ Keeps (.cap :: gwF) s t :=
  gwCommand_sets_cap (f := fun c => { c with group := none, share := 0, roster := [], grants := [] }) go (fun _ => by simp [groupLeave, hg])

theorem execPowerGroup_reconciles (hg : s.cap.group = some g) :
    ∃ t, execPowerGroup h 2 g b s = .next t ∧ Replied s t h 0x0208 .ok [] []
      ∧ t.cap = { s.cap with share := b, reconTb := some s.tb, reconCount := s.cap.reconCount + 1 } ∧ Keeps (.cap :: gwF) s t :=
  gwCommand_sets_cap (f := fun c => { c with share := b, reconTb := some s.tb, reconCount := c.reconCount + 1 }) go
    (fun _ => (if_neg (not_not.2 hg)).trans rfl)

end

/-! TIMEOUT_SET (18 R484, R489). -/

theorem gwCommand_answers_gw {sec : Bool} {op need o : Nat} {self : Instr} {body : State → Done} {e : State → State} {c : Code} {inline : List Byte}
    (g : GwGo s h sec need o) (hb : ∀ m, body (s.modMbx m) = .now c inline [] (e (s.modMbx m))) (ht : ∀ m, (e (s.modMbx m)).tb = s.tb) :
    ∃ t m y z, gwCommand self h op sec need o body s = .next t ∧ Replied s t h op c inline [] ∧ Keeps gwF (e (s.modMbx m)) t
      ∧ t.gw = { (e (s.modMbx m)).gw with retries := y, lastReply := z } := by
  obtain ⟨m, hm⟩ := gwCommand_taken (self := self) (op := op) (body := body) g
  rw [hb m] at hm
  obtain ⟨y, z, gw⟩ := finish_gw (op := op) (h := h) (s.chan h.chan).mseq c inline (e (s.modMbx m))
  exact ⟨_, m, y, z, hm, finish_replied _ c inline (ht m), finish_keeps _ _ _ _, gw⟩

theorem execTimeoutSet_sets (g : GwGo s h true 0 objDevice) (hv : timeoutOk l v = true) :
    ∃ t y z, execTimeoutSet h l j v s = .next t ∧ Replied s t h 0x0305 .ok [] [] ∧ Keeps gwF s t
      ∧ t.gw = { setTimeout l j v s.gw with retries := y, lastReply := z } := by
  obtain ⟨t, m, y, z, e, ha, hk, gw⟩ : ∃ t m y z, execTimeoutSet h l j v s = .next t ∧ Replied s t h 0x0305 .ok [] []
      ∧ Keeps gwF ((s.modMbx m).modGw (setTimeout l j v)) t ∧ t.gw = { setTimeout l j v s.gw with retries := y, lastReply := z } :=
    gwCommand_answers_gw (e := (·.modGw (setTimeout l j v))) g (fun _ => if_pos hv) (fun _ => rfl)
  exact ⟨t, y, z, e, ha, Keeps.trans (t := (s.modMbx m).modGw (setTimeout l j v)) (by simp [gwF]) hk, gw⟩

/-- A job's new limit: its expiry is cleared and its timer not yet armed; 0 removes the limit (18 R489). -/
theorem setTimeout_job (j v : Nat) (w : Gw) : mget (setTimeout 5 j v w).jobAt j = none ∧ j ∉ (setTimeout 5 j v w).jobExpired
    ∧ (v ≠ 0 → mget (setTimeout 5 j v w).jobTmo j = some v) ∧ (v = 0 → mget (setTimeout 5 j v w).jobTmo j = none) := by
  refine ⟨?_, ?_, fun hv => ?_, fun hv => ?_⟩
  · exact (mget_mdel ..).trans (if_pos rfl)
  · simp [setTimeout]
  · simp only [setTimeout, if_neg hv]
    exact mget_mset_self ..
  · simp only [setTimeout, if_pos hv]
    exact (mget_mdel ..).trans (if_pos rfl)

/-! RECALIBRATE and DEFECT_CLEAR (18 R505, R506; 05 R141). -/

/-- The rows of a RECALIBRATE: a DARK or OUT row is skipped. -/
def recalRowsOf (r : Nat) (s : State) : List Nat := (List.range 12).filter (fun k => (r == 0xFF || k == r) && !rowIsDark s k && !rowIsOut s k)

theorem mem_recalRowsOf {k : Nat} : k ∈ recalRowsOf r s ↔ k < 12 ∧ (r = 0xFF ∨ k = r) ∧ rowIsDark s k = false ∧ rowIsOut s k = false := by
  simp [recalRowsOf, and_assoc]

theorem mem_addNew {α : Type} [BEq α] [LawfulBEq α] {l : List α} {x y : α} : y ∈ addNew l x ↔ y ∈ l ∨ y = x := by
  unfold addNew
  split
  · next hx => exact ⟨.inl, fun hy => hy.elim id (fun e => e ▸ List.contains_iff_mem.1 hx)⟩
  · simp

theorem mem_foldl_addNew {α : Type} [BEq α] [LawfulBEq α] {l xs : List α} {y : α} : y ∈ xs.foldl addNew l ↔ y ∈ l ∨ y ∈ xs := by
  induction xs generalizing l with
  | nil => simp
  | cons x xs ih => rw [List.foldl_cons, ih, mem_addNew, List.mem_cons, or_assoc]

theorem execRecalibrate_sensors (g : GwGo s h false 0 objDevice) (hr : r < 12 ∨ r = 0xFF) :
    ∃ t, execRecalibrate h r 1 s = .next t ∧ Replied s t h 0x0306 .ok [] []
      ∧ t.clk = { s.clk with recalSensors := some (s.clk.recalSensors.getD s.tb) } ∧ Keeps (.clk :: gwF) s t := by
  have known : ¬ ((12 ≤ r ∧ r ≠ 0xFF) ∨ 1 < 1) := by omega
  exact gwCommand_sets_clk (f := fun c => { c with recalSensors := some (c.recalSensors.getD s.tb) }) g rfl
    (fun _ => (if_neg known).trans (if_pos rfl))

theorem execRecalibrate_rows (g : GwGo s h false 0 objDevice) (hr : r < 12 ∨ r = 0xFF) :
    ∃ t, execRecalibrate h r 0 s = .next t ∧ Replied s t h 0x0306 .ok [] []
      ∧ t.clk = { s.clk with recalRows := (recalRowsOf r s).foldl addNew s.clk.recalRows } ∧ Keeps (.clk :: gwF) s t := by
  have known : ¬ ((12 ≤ r ∧ r ≠ 0xFF) ∨ 1 < 0) := by omega
  exact gwCommand_sets_clk (f := fun c => { c with recalRows := (recalRowsOf r s).foldl addNew c.recalRows }) g rfl
    (fun _ => (if_neg known).trans (if_neg (by decide)))

theorem execDefectClear_sets (g : GwGo s h true 0 objDevice) (hu : u = 0 ∨ uClass u ≠ 0) :
    ∃ t x, execDefectClear h u s = .next t ∧ Replied s t h 0x0307 .ok [] []
      ∧ Keeps gwF ((s.modMbx x).modBoot (fun b => { b with clearReq := addNew b.clearReq u })) t :=
  gwCommand_answers (e := (·.modBoot (fun b => { b with clearReq := addNew b.clearReq u }))) g (fun _ => if_neg (by tauto)) (fun _ => rfl)

/-! RESTART (05 R142). -/

theorem measure_nmeas (event arg detail : Nat) (digest : List Byte) (s : State) :
    (measure event arg detail digest s).sec.nmeas = sat 32 (s.sec.nmeas + 1) := by
  unfold measure
  rw [State.modSec_sec]
  dsimp only
  split
  · split <;> rfl
  · rfl

/-- The measurement of a warm restart (21, Table 21.5). -/
def restartMeasured (s : State) : State := measure 0x09 0 s.boot.bootNo (Config.shake256 (List.replicate 64 0)) s

theorem restartMeasured_keeps (s : State) : Keeps [.sec] s (restartMeasured s) := measure_keeps 0x09 0 s.boot.bootNo _ s

theorem restartMeasured_nmeas (s : State) : (restartMeasured s).sec.nmeas = sat 32 (s.sec.nmeas + 1) := measure_nmeas ..

/-- Where no Witness ring is opened, a warm restart is a measurement, the self-refresh of the memories and the start of BU0. -/
theorem warmRestart_of_no_ring (hw : ∀ w, (s.wring w).st ≠ .opened) : warmRestart s
    = ((restartMeasured s).modMem (fun m => { m with units := m.units.map (fun x => { x with selfRefresh := x.st != .absent }) })).modBoot
        (fun b => { b with stage := 0, st := .running, warm := true, stageTb := (restartMeasured s).tb }) := by
  have none_open : (List.range 16).filter (fun w => (s.wring w).st == .opened) = [] :=
    List.filter_eq_nil_iff.2 (fun w _ => by simp [hw w])
  unfold warmRestart
  rw [none_open]
  rfl

theorem execRestart_restarts (g : GwGo s h true 0 objDevice) (hw : ∀ w, (s.wring w).st ≠ .opened) :
    ∃ t, execRestart h 0 s = .next t ∧ Replied s t h 0x0308 .ok [] []
      ∧ t.boot = { s.boot with stage := 0, st := .running, warm := true, stageTb := s.tb } ∧ t.mem.cells = s.mem.cells
      ∧ t.sec.nmeas = sat 32 (s.sec.nmeas + 1) ∧ Keeps (.boot :: .mem :: gwF) s t := by
  obtain ⟨u, e, hr, hk, hn⟩ : ∃ u, execRestart h 0 s = .next (warmRestart u) ∧ Replied s u h 0x0308 .ok [] [] ∧ Keeps gwF s u
      ∧ u.sec.nmeas = s.sec.nmeas := gwCommand_answers_then g (fun _ => if_neg (by decide))
  have wit : u.wit = s.wit := hk .wit (by decide)
  have restarted := warmRestart_of_no_ring (s := u) (fun w => by rw [State.wring, wit]; exact hw w)
  have measured := restartMeasured_keeps u
  have clk : (restartMeasured u).clk = s.clk := Eq.trans (measured .clk (by decide)) (hk .clk (by decide))
  have boot : (restartMeasured u).boot = s.boot := Eq.trans (measured .boot (by decide)) (hk .boot (by decide))
  have mem : (restartMeasured u).mem = s.mem := Eq.trans (measured .mem (by decide)) (hk .mem (by decide))
  have gw : (restartMeasured u).gw = u.gw := measured .gw (by decide)
  refine ⟨_, e, ?_, ?_, ?_, ?_, ?_⟩ <;> rw [restarted]
  · exact (congrArg Gw.lastReply gw).trans hr
  · simp only [State.modBoot_boot, State.modMem_boot, boot, State.tb, clk]
  · simp only [State.modBoot_mem, State.modMem_mem, mem]
  · simp only [State.modBoot_sec, State.modMem_sec, restartMeasured_nmeas, hn]
  · exact Keeps.trans (hk.mono (by decide))
      ((keeps_modBoot _ (by decide)).2 ((keeps_modMem _ (by decide)).2 (measured.mono (by decide))))

end

/-- Settles O47: each command updates the fields it names, and its answer none of them. -/
theorem powerTimerAndRestartCommands : Obligations.PowerTimerAndRestartCommands := by
  refine ⟨fun s h m p a b g hm hp ha hb => ?cap, fun s h m p g lo hi => execPowerCap_refuses g ?low, fun s h a b g hab hb => execStepLimit_sets g hab hb,
    fun s h j a n hn g => ?energy, fun s h k b g => ⟨fun lo hi hg hp => ?join, execPowerGroup_joined g, fun hg => ?leave, fun hg => ?reconcile⟩,
    fun s h l j v g hv => ?timeout, fun s h r g hr => ⟨?sensors, ?rows⟩, fun s h u g hu => ?clear, fun s h g hw => execRestart_restarts g hw⟩
  case cap =>
    obtain ⟨t, x, e, hr, hk⟩ := execPowerCap_sets g (capOk_of_range hm) (capOk_of_range hp) (capOk_of_range ha) (capOk_of_range hb)
    have power : t.power = (capSet m p a b (s.modMbx x)).power := hk .power (by decide)
    refine ⟨t, e, hr, hk .cap (by decide), fun hl => ?_, Keeps.trans (t := capSet m p a b (s.modMbx x)) (by simp [capSet, gwF]) (hk.mono (by decide))⟩
    simp only [State.half, power]
    exact capSet_half (s := s.modMbx x) hl
  case low =>
    have outside : ¬ (m = 0 ∨ 200000 ≤ m ∧ m ≤ 1400000) := by omega
    simpa [capOk] using outside
  case energy =>
    subst hn
    obtain ⟨t, x, e, hr, hk⟩ := execEnergyReport_reads g
    exact ⟨t, e, ⟨_, energyBytes_length s j a h.resmax ▸ hr⟩, hk .cap (by decide), Keeps.trans (by simp [gwF]) (hk.mono (by decide))⟩
  case join =>
    obtain ⟨t, e, hr, cap, hk⟩ := execPowerGroup_joins g lo hi hg hp
    exact ⟨t, e, hr, by rw [cap], by rw [cap], hk⟩
  case leave =>
    obtain ⟨t, e, hr, cap, hk⟩ := execPowerGroup_leaves g hg
    exact ⟨t, e, hr, by rw [cap], by rw [cap], hk⟩
  case reconcile =>
    obtain ⟨t, e, hr, cap, hk⟩ := execPowerGroup_reconciles g hg
    exact ⟨t, e, hr, by rw [cap], by rw [cap], hk⟩
  case timeout =>
    obtain ⟨t, y, z, e, hr, hk, gw⟩ := execTimeoutSet_sets (j := j) g hv
    refine ⟨t, e, hr, hk, ?_, ?_, ?_, ?_, ?_, ?job⟩ <;> rw [gw] <;> rintro rfl
    case job => exact setTimeout_job j v s.gw
    all_goals rfl
  case sensors =>
    obtain ⟨t, e, hr, clk, hk⟩ := execRecalibrate_sensors g hr
    exact ⟨t, e, hr, by rw [clk], hk⟩
  case rows =>
    obtain ⟨t, e, hr, clk, hk⟩ := execRecalibrate_rows g hr
    refine ⟨t, e, hr, hk, fun k => ?_⟩
    rw [clk]
    exact mem_foldl_addNew.trans (or_congr Iff.rfl mem_recalRowsOf)
  case clear =>
    obtain ⟨t, x, e, hr, hk⟩ := execDefectClear_sets g hu
    exact ⟨t, e, hr, hk .boot (by decide), Keeps.trans (by simp [gwF]) (hk.mono (by decide))⟩

end Sys2Proof.Machine
end

section
/-! SUPPORT. The tiles of a row (08): what an update of one tile, of the rest of its row, the mirror of a pair and a halt leave of that
tile and of the other rows. -/

namespace Sys2Proof.Machine

variable {s s0 t u : State} {r k i o : Nat}

/-! The other rows: each lemma strips one operation on row r from the state a RowsBut goal is about. -/

@[simp] theorem RowsBut.rfl' : RowsBut r s s := fun _ _ => rfl

theorem rowsBut_congr (h : RowsBut r s t) : RowsBut r s0 t ↔ RowsBut r s0 s :=
  ⟨fun g q hq => (h q hq).symm.trans (g q hq), fun g q hq => (h q hq).trans (g q hq)⟩

theorem rowsBut_of_rows (e : t.rows = s.rows) : RowsBut r s0 t ↔ RowsBut r s0 s := rowsBut_congr (RowsBut.rfl'.of_rows e)

@[simp] theorem rowsBut_ite (c : Prop) [Decidable c] (a b : State) :
    RowsBut r s0 (if c then a else b) ↔ (if c then RowsBut r s0 a else RowsBut r s0 b) := by split <;> rfl

@[simp] theorem rowsBut_modRow (f : Row → Row) : RowsBut r s0 (s.modRow r f) ↔ RowsBut r s0 s :=
  rowsBut_congr fun _ hq => nth_modify_of_ne _ f hq

@[simp] theorem rowsBut_modTile (f : Tile → Tile) : RowsBut r s0 (s.modTile r k f) ↔ RowsBut r s0 s := rowsBut_modRow _

/-! A tile that stands in the lists of the state, and its updates. -/

/-- The state has row r, and the row has tile k. -/
def HasTile (s : State) (r k : Nat) : Prop := r < s.rows.length ∧ k < (s.row r).tiles.length

theorem hasTile_of_rows (e : t.rows = s.rows) : HasTile t r k ↔ HasTile s r k := by
  simp [HasTile, State.row, e]

/-- An update of the row that keeps its number of tiles keeps the tile where it is. -/
theorem hasTile_modRow (f : Row → Row) (hf : (f (s.row r)).tiles.length = (s.row r).tiles.length) :
    HasTile (s.modRow r f) r k ↔ HasTile s r k := by
  have len : (s.modRow r f).rows.length = s.rows.length := List.length_modify ..
  refine and_congr (by rw [len]) ?_
  by_cases hr : r < s.rows.length
  · rw [(row_of_modify (t := s.modRow r f) rfl hr).1, hf]
  · simp only [State.row, nth_of_length_le (Nat.le_of_not_lt hr), nth_of_length_le (len ▸ Nat.le_of_not_lt hr)]

@[simp] theorem hasTile_modTile (j : Nat) (f : Tile → Tile) : HasTile (s.modTile r j f) r k ↔ HasTile s r k :=
  hasTile_modRow _ (List.length_modify ..)

@[simp] theorem tile_modTile (h : HasTile s r k) (f : Tile → Tile) : (s.modTile r k f).tile r k = f (s.tile r k) :=
  modTile_tile_self f h.1 h.2

@[simp] theorem modTile_cap (f : Tile → Tile) : (s.modTile r k f).cap = s.cap := rfl

theorem row_modRow (h : HasTile s r k) (f : Row → Row) : (s.modRow r f).row r = f (s.row r) := (row_of_modify rfl h.1).1

theorem row_modTile (h : HasTile s r k) (j : Nat) (f : Tile → Tile) :
    (s.modTile r j f).row r = { s.row r with tiles := (s.row r).tiles.modify j f } := row_modRow h _

/-- What an update leaves of the row's tiles, it leaves of the tile. -/
theorem tile_modRow (h : HasTile s r k) {f : Row → Row} (hf : (f (s.row r)).tiles = (s.row r).tiles) :
    (s.modRow r f).tile r k = s.tile r k := by
  rw [State.tile, row_modRow h, hf, State.tile]

/-- An update of the row beside its tiles, and then one of a tile. -/
theorem modRow_modTile (h : HasTile s r k) {f : Row → Row} (hf : (f (s.row r)).tiles = (s.row r).tiles) (g : Tile → Tile) :
    HasTile ((s.modRow r f).modTile r k g) r k ∧ ((s.modRow r f).modTile r k g).tile r k = g (s.tile r k)
      ∧ (((s.modRow r f).modTile r k g).row r).scb = (f (s.row r)).scb := by
  have has : HasTile (s.modRow r f) r k := (hasTile_modRow f (congrArg List.length hf)).2 h
  exact ⟨(hasTile_modTile ..).2 has, by rw [tile_modTile has, tile_modRow h hf], by rw [row_modTile has, row_modRow h]⟩

/-! Phase markers are nothing of the rows. -/

@[simp] theorem rowsBut_modCap (f : Cap → Cap) : RowsBut r s0 (s.modCap f) ↔ RowsBut r s0 s := rowsBut_of_rows rfl

@[simp] theorem hasTile_modCap (f : Cap → Cap) : HasTile (s.modCap f) r k ↔ HasTile s r k := hasTile_of_rows rfl

@[simp] theorem tile_modCap (f : Cap → Cap) : (s.modCap f).tile r k = s.tile r k := rfl

/-! The mirror of a pair changes the follower's tile alone (08 R205). -/

theorem mirror_cases (r k : Nat) (s : State) : mirror r k s = s ∨ ∃ f, mirror r k s = s.modTile r (k + 1) f := by
  by_cases lead : isLeader (s.tile r k) k = true
  · exact .inr ⟨_, if_pos lead⟩
  · exact .inl (if_neg lead)

@[simp] theorem rowsBut_mirror : RowsBut r s0 (mirror r k s) ↔ RowsBut r s0 s := by
  obtain e | ⟨f, e⟩ := mirror_cases r k s <;> simp [e]

@[simp] theorem tile_mirror (h : HasTile s r k) : (mirror r k s).tile r k = s.tile r k := by
  obtain e | ⟨f, e⟩ := mirror_cases r k s
  · rw [e]
  · rw [e, modTile_tile_of_ne f h.1 (Nat.ne_of_lt (Nat.lt_succ_self k))]

@[simp] theorem scb_mirror (h : HasTile s r k) : ((mirror r k s).row r).scb = (s.row r).scb := by
  obtain e | ⟨f, e⟩ := mirror_cases r k s
  · rw [e]
  · rw [e, row_modTile h]

@[simp] theorem mirror_cap : (mirror r k s).cap = s.cap :=
  (keeps_mirror r k s (List.Subset.refl _)).2 Keeps.rfl' .cap (by decide)

@[simp] theorem mirror_wit : (mirror r k s).wit = s.wit :=
  (keeps_mirror r k s (List.Subset.refl _)).2 Keeps.rfl' .wit (by decide)

/-! Error records are nothing of the rows. -/

@[simp] theorem errRecord_rows (x : Rec) (s : State) : (errRecord x s).rows = s.rows := errRecord_keeps x s .rows (by decide)

@[simp] theorem rowsBut_errRecord (x : Rec) : RowsBut r s0 (errRecord x s) ↔ RowsBut r s0 s := rowsBut_of_rows (errRecord_rows x s)

@[simp] theorem hasTile_errRecord (x : Rec) : HasTile (errRecord x s) r k ↔ HasTile s r k := hasTile_of_rows (errRecord_rows x s)

@[simp] theorem tile_errRecord (x : Rec) : (errRecord x s).tile r k = s.tile r k := tile_of_rows (errRecord_rows x s) r k

/-! Halting (08 R220). -/

/-- A tile that a fault has halted. -/
def haltedTile (c : Code) (fword : Nat) (x : Tile) : Tile := { x with halted := true, fault := c.val, fwordF := fword, run := none }

section
variable (c : Code) (fword op detail : Nat)

@[simp] theorem rowsBut_haltOne (j : Nat) : RowsBut r s0 (haltOne r j c fword op detail s) ↔ RowsBut r s0 s := by
  simp [haltOne]

@[simp] theorem rowsBut_haltTile (j : Nat) : RowsBut r s0 (haltTile r j c fword op detail s) ↔ RowsBut r s0 s := by
  simp [haltTile]

@[simp] theorem hasTile_haltOne (j : Nat) : HasTile (haltOne r j c fword op detail s) r k ↔ HasTile s r k := by
  unfold haltOne
  rw [hasTile_errRecord, hasTile_modTile, hasTile_modRow _ rfl]

@[simp] theorem hasTile_haltTile (j : Nat) : HasTile (haltTile r j c fword op detail s) r k ↔ HasTile s r k := by
  unfold haltTile
  split <;> simp

theorem tile_haltOne (h : HasTile s r k) : (haltOne r k c fword op detail s).tile r k = haltedTile c fword (s.tile r k) := by
  unfold haltOne
  rw [tile_errRecord, tile_modTile ((hasTile_modRow _ rfl).2 h), tile_modRow h rfl]
  rfl

theorem tile_haltOne_of_ne {j : Nat} (h : HasTile s r k) (hk : k ≠ j) : (haltOne r j c fword op detail s).tile r k = s.tile r k := by
  unfold haltOne
  rw [tile_errRecord, modTile_tile_of_ne _ ((hasTile_modRow _ rfl).2 h).1 hk, tile_modRow h rfl]

/-- A tile that is no follower halts itself, and if it leads a pair its follower as well. -/
theorem tile_haltTile (h : HasTile s r k) (hf : isFollower (s.tile r k) k = false) :
    (haltTile r k c fword op detail s).tile r k = haltedTile c fword (s.tile r k) := by
  unfold haltTile
  split
  · next paired =>
    have even : k / 2 * 2 = k := by
      simp only [isFollower, paired, Bool.true_and, beq_eq_false_iff_ne] at hf
      omega
    rw [even, tile_haltOne_of_ne _ _ _ _ ((hasTile_haltOne ..).2 h) (Nat.ne_of_lt (Nat.lt_succ_self k)), tile_haltOne _ _ _ _ h]
  · exact tile_haltOne _ _ _ _ h

end

end Sys2Proof.Machine
end

section
/-! PROOFS. AST_RUN and AST_QPUSH (08 R201 to R205, R222, R223; 17 R480). -/

namespace Sys2Proof.Machine

variable {s : State} {r k : Nat}

/-! An access to a row that runs is performed there, once an idle row runs again (04 R105). -/

/-- What a row says of its tiles and of the programs loaded for them is as it was. -/
def KeepsTiles (f : Row → Row) : Prop := ∀ w, (f w).tiles = w.tiles ∧ (f w).progs = w.progs

theorem startWake_of_runs (hr : rowRuns s r = true) : ∃ f : Row → Row, startWake r s = s.modRow r f ∧ KeepsTiles f := by
  have asleep : (s.row r).st ≠ .sleep ∧ (s.row r).st ≠ .off := by
    constructor <;> intro e <;> simp [rowRuns, e] at hr
  have same : s = s.modRow r id := by simp [State.modRow, State.modRows]
  unfold startWake
  split
  · exact ⟨id, same, fun _ => ⟨rfl, rfl⟩⟩
  · split
    · exact ⟨_, rfl, fun _ => ⟨rfl, rfl⟩⟩
    · exact ⟨_, rfl, fun _ => ⟨rfl, rfl⟩⟩
    · next e => exact absurd e asleep.1
    · next e => exact absurd e asleep.2
    · exact ⟨id, same, fun _ => ⟨rfl, rfl⟩⟩

theorem atRow_of_runs (hr : rowRuns s r = true) (go : State → State) :
    ∃ f, atRow r go s = .next (go (s.modRow r f)) ∧ KeepsTiles f := by
  obtain ⟨f, e, hf⟩ := startWake_of_runs hr
  exact ⟨f, by simp [atRow, hr, e], hf⟩

section
variable {f : Row → Row} (hf : KeepsTiles f)
include hf

theorem KeepsTiles.hasTile : HasTile (s.modRow r f) r k ↔ HasTile s r k := hasTile_modRow f (congrArg List.length (hf _).1)

theorem KeepsTiles.tile (h : HasTile s r k) : (s.modRow r f).tile r k = s.tile r k := tile_modRow h (hf _).1

theorem KeepsTiles.runInRegion (h : HasTile s r k) (line word count : Nat) :
    runInRegion ((s.modRow r f).row r) k line word count = runInRegion (s.row r) k line word count := by
  simp only [row_modRow h, Machine.runInRegion, (hf _).2]

end

/-! What a run or a push makes of the tile. -/

theorem tile_runWrite_starts (h : HasTile s r k) {line word count : Nat} (hp : (astPos s r k).isSome = true)
    (hf : isFollower (s.tile r k) k = false) (hr : (s.tile r k).run = none) (hh : (s.tile r k).halted = false) (hc : count ≠ 0)
    (hg : runInRegion (s.row r) k line word count = true) :
    (runWrite r k line word count s).tile r k
      = { s.tile r k with run := some { line := line, word := word, count := count }, fault := 0, fwordF := 0 } := by
  unfold runWrite
  rw [if_neg (by simp [Option.isSome_iff_ne_none.1 hp, hf, hr, hh, hc, hg]), tile_mirror (by simp [h]), tile_modTile h]

theorem tile_runWrite_refused (h : HasTile s r k) {line word count : Nat} (hw : astPos s r k = none ∨ isFollower (s.tile r k) k = true
      ∨ (s.tile r k).run ≠ none ∨ (s.tile r k).halted = true ∨ count = 0) :
    (runWrite r k line word count s).tile r k = { s.tile r k with runRefused := true } := by
  have refused : (astPos s r k).isNone = true ∨ isFollower (s.tile r k) k = true ∨ (s.tile r k).run.isSome = true
      ∨ (s.tile r k).halted = true ∨ count = 0 ∨ runInRegion (s.row r) k line word count = false := by
    rw [Option.isNone_iff_eq_none, Option.isSome_iff_ne_none]
    tauto
  unfold runWrite
  rw [if_pos refused, tile_modTile h]

@[simp] theorem rowsBut_runWrite {s0 : State} (line word count : Nat) : RowsBut r s0 (runWrite r k line word count s) ↔ RowsBut r s0 s := by
  simp [runWrite]

theorem tile_push_queued (h : HasTile s r k) {w : BitVec 128} (hp : (astPos s r k).isSome = true) (hf : isFollower (s.tile r k) k = false)
    (hr : (s.tile r k).run = none) (hh : (s.tile r k).halted = false) (hw : astStatic s r w = .ok) (hq : (s.tile r k).queue.length < 64)
    (hn : (s.tile r k).pushWait = []) : (push r k w s).tile r k = { s.tile r k with
      queue := (s.tile r k).queue ++ [{ word := w, since := s.tb, limit := s.gw.tmoAst }], fault := 0, fwordF := 0 } := by
  unfold push
  rw [if_neg (by simp [Option.isSome_iff_ne_none.1 hp]), if_neg (by simp [hf, hr]), if_neg (by simp [hh])]
  simp only [hw]
  rw [tile_mirror (by simp [h]), tile_modTile h, if_pos ⟨hq, by simp [hn]⟩]

theorem tile_push_busy (h : HasTile s r k) (w : BitVec 128) (hp : (astPos s r k).isSome = true) (hr : (s.tile r k).run ≠ none) :
    (push r k w s).tile r k = { s.tile r k with pushRefused := true, pcode := Code.astBusy.val } := by
  unfold push
  rw [if_neg (by simp [Option.isSome_iff_ne_none.1 hp]), if_pos (.inr (Option.isSome_iff_ne_none.2 hr)), tile_modTile h]

@[simp] theorem rowsBut_push {s0 : State} (w : BitVec 128) : RowsBut r s0 (push r k w s) ↔ RowsBut r s0 s := by
  simp only [push]
  repeat' split
  all_goals simp

/-! The fetcher (08 R202). -/

theorem execAstRunFetch_fetches {c : RunCtl} (hr : rowRuns s r = true) (hc : (s.tile r k).run = some c) (hh : (s.tile r k).halted = false)
    (hs : (s.tile r k).stopped = false) (hf : isFollower (s.tile r k) k = false)
    (hp : poisonedOver (s.row r) ((fetchSpan c).1 / 4) 1 = false) (hq : (s.tile r k).queue.length + (fetchSpan c).2 ≤ 64) :
    execAstRunFetch r k none s = .next (mirror r k (fetchWords r k c (fetchSpan c).2 s)) := by
  simp [execAstRunFetch, hc, hr, hh, hs, hf, hp, Nat.not_lt.2 hq]

theorem execAstRunFetch_no_room {c : RunCtl} (hc : (s.tile r k).run = some c) (hq : 64 < (s.tile r k).queue.length + (fetchSpan c).2)
    (b : Option Nat) : execAstRunFetch r k b s = .next s := by
  simp [execAstRunFetch, hc, hq]

/-- The words of a line lie behind the queue, and the run counts them. -/
theorem tile_fetchWords (h : HasTile s r k) (c : RunCtl) (n : Nat) : ∃ l : List QEntry, l.length = n
    ∧ (fetchWords r k c n s).tile r k = { s.tile r k with
        queue := (s.tile r k).queue ++ l, run := if c.done + n = c.count then none else some { c with done := c.done + n } } :=
  ⟨_, by simp, tile_modTile h _⟩

@[simp] theorem rowsBut_fetchWords {s0 : State} (c : RunCtl) (n : Nat) : RowsBut r s0 (fetchWords r k c n s) ↔ RowsBut r s0 s :=
  rowsBut_modTile _

/-- Settles O15: each access finds the tile as it was before the row woke, and changes that tile as its rule says. -/
theorem runsAndPushesFeedTheQueue : Obligations.RunsAndPushesFeedTheQueue := by
  intro s r k hrun hr hk
  have h : HasTile s r k := ⟨hr, hk⟩
  refine ⟨fun v hp hf hn hh hc hg => ?run, fun v hw => ?refused, fun c hc hh hs hf hp hq => ?fetch,
    fun c hc hq b => execAstRunFetch_no_room hc hq b, fun w hp hf hn hh hw hq hpw => ?push, fun w => ?low, fun w hp hn => ?busy⟩
  case run =>
    obtain ⟨f, e, kt⟩ := atRow_of_runs hrun (runWrite r k (bits v 0 21) (bits v 21 2) (bits v 24 16))
    refine ⟨_, e, by simp, by simp, ?_⟩
    rw [tile_runWrite_starts (kt.hasTile.2 h) hp (by rwa [kt.tile h]) (by rwa [kt.tile h]) (by rwa [kt.tile h]) hc
      (by rwa [kt.runInRegion h]), kt.tile h]
  case refused =>
    obtain ⟨f, e, kt⟩ := atRow_of_runs hrun (runWrite r k (bits v 0 21) (bits v 21 2) (bits v 24 16))
    refine ⟨_, e, ?_, by simp, by simp⟩
    rw [tile_runWrite_refused (kt.hasTile.2 h) (by rwa [kt.tile h]), kt.tile h]
  case fetch =>
    obtain ⟨l, len, tile⟩ := tile_fetchWords h c (fetchSpan c).2
    have has : HasTile (fetchWords r k c (fetchSpan c).2 s) r k := (hasTile_modTile ..).2 h
    refine ⟨_, execAstRunFetch_fetches hrun hc hh hs hf hp hq, by simp, by simp, ?_⟩
    rw [tile_mirror has, tile]
    exact ⟨by simp [len], by simp, rfl⟩
  case push =>
    obtain ⟨f, e, kt⟩ := atRow_of_runs hrun (push r k (BitVec.ofNat 128 w))
    refine ⟨_, e, by simp, by simp, ?_⟩
    rw [tile_push_queued (kt.hasTile.2 h) hp (by rwa [kt.tile h]) (by rwa [kt.tile h]) (by rwa [kt.tile h]) hw (by rwa [kt.tile h])
      (by rwa [kt.tile h]), kt.tile h]
    rfl
  case low =>
    obtain ⟨f, e, kt⟩ := atRow_of_runs hrun (·.modTile r k (fun x => { x with pushLow := BitVec.ofNat 64 w }))
    refine ⟨_, e, ?_, by simp⟩
    rw [tile_modTile (kt.hasTile.2 h), kt.tile h]
  case busy =>
    obtain ⟨f, e, kt⟩ := atRow_of_runs hrun (push r k (BitVec.ofNat 128 w))
    refine ⟨_, e, ?_, by simp, by simp⟩
    rw [tile_push_busy (kt.hasTile.2 h) _ hp (by rwa [kt.tile h]), kt.tile h]

end Sys2Proof.Machine
end

section
/-! PROOFS. The Aster classes at issue (08 R206 to R220). -/

namespace Sys2Proof.Machine

variable {s s0 : State} {r k i o fw : Nat} {w : BitVec 128} {go : BitVec 128 → Nat → State → State}

/-! An attempt to issue, by what it finds (08 R219, R220). -/

theorem tryIssue_go (g : turnOf s r k i o = .go) : tryIssue r k i o go s
    = .next (mirror r k (go (nth (s.tile r k).queue i).word (nth (s.tile r k).queue i).fword s)) := by
  simp only [tryIssue, g]

theorem tryIssue_idle (g : turnOf s r k i o = .wait ∨ turnOf s r k i o = .notYet) : tryIssue r k i o go s = .next s := by
  obtain g | g := g <;> simp only [tryIssue, g]

theorem tryIssue_fault {c : Code} (g : turnOf s r k i o = .fault c) : tryIssue r k i o go s
    = .next (mirror r k (haltTile r k c (nth (s.tile r k).queue i).fword (astOp o) 0 s)) := by
  simp only [tryIssue, g]

/-- A follower executes its leader's stream and issues nothing of its own (08 R205). -/
theorem turnOf_follower (hf : isFollower (s.tile r k) k = true) : turnOf s r k i o = .notYet := by
  simp [turnOf, hf]

/-- What issues is of the class asked for, and has passed the issue checks. -/
theorem turnOf_go_checked (g : turnOf s r k i o = .go) : opcOf (nth (s.tile r k).queue i).word = o ∧ issueFault s r k i = .ok := by
  simp only [turnOf] at g
  split at g
  · cases g
  · next here =>
    simp only [not_or, not_not] at here
    obtain ⟨-, cls, -⟩ := here
    refine ⟨cls, ?_⟩
    split at g
    · assumption
    · cases g

/-- A MATV that passes the issue checks finds its weight set (08, Table 8.8). -/
theorem wsetOf_of_issueFault_ok (ho : opcOf (nth (s.tile r k).queue i).word = 2) (hf : issueFault s r k i = .ok) :
    ∃ ws, wsetOf (s.tile r k) (nth (s.tile r k).queue i).word = some ws := by
  rw [← Option.ne_none_iff_exists']
  intro absent
  by_cases outside : (paneScope (opcOf (nth (s.tile r k).queue i).word)
      && decide (paneCount (s.tile r k).mode ≤ paneOf (nth (s.tile r k).queue i).word)) = true
  · have fault : issueFault s r k i = .astPane := if_pos outside
    cases hf.symm.trans fault
  · have fault : issueFault s r k i = .astWset := (if_neg outside).trans (if_pos (by simp [ho, absent]))
    cases hf.symm.trans fault

/-! What leaves the queue takes nothing else of the tile with it. -/

section
variable (tb tmo : Nat) (x : Tile)
@[simp] theorem dequeue_issued : (dequeue tb tmo i x).issued = x.issued := rfl
@[simp] theorem dequeue_wsets : (dequeue tb tmo i x).wsets = x.wsets := rfl
@[simp] theorem dequeue_mode : (dequeue tb tmo i x).mode = x.mode := rfl
@[simp] theorem dequeue_panes : (dequeue tb tmo i x).panes = x.panes := rfl
end

/-- With no failing byte an instruction that reads leaves the queue, and the tile's taint grows. -/
theorem issueRead_nil (op : Nat) : issueRead r k i op [] s = s.modTile r k (fun x =>
    { dequeue s.tb s.gw.tmoAst i x with taint := taintAfter s r k (queuedExtents (s.tile r k) i) }) := rfl

/-! The scoreboard and the provisional table are nothing of the tiles. -/

theorem scbRequest_grant {x : Row} {tb : Nat} {q : ScbReq} (hv : scbVerdict x x.scbPend q = .grant) :
    scbRequest tb q x = (.grant, scbEnter tb q x) := by
  simp only [scbRequest, hv]

@[simp] theorem clearPoisoned_tiles (g : Nat × Nat × Bool) (x : Row) : (clearPoisoned g x).tiles = x.tiles := by
  unfold clearPoisoned
  split <;> rfl

@[simp] theorem clearPoisoned_scb (g : Nat × Nat × Bool) (x : Row) : (clearPoisoned g x).scb = x.scb := by
  unfold clearPoisoned
  split <;> rfl

@[simp] theorem provWrite_tiles (taint : List (Nat × Nat)) (bad : Bool) (l n : Nat) (x : Row) : (provWrite taint bad l n x).tiles = x.tiles := by
  unfold provWrite
  split <;> rfl

/-- The row once a RESV's entry is granted (08 R208; 11 R268; 17 R463). -/
def resvGranted (s : State) (k : Nat) (w : BitVec 128) (x : Row) : Row :=
  clearPoisoned (rvLine w, rvLen w, rvWr w) (scbEnter s.tb (resvReq k w s.tb) x)

/-- The row once a RELS has freed the entry it names (08 R209). -/
def relsFreed (s : State) (k : Nat) (w : BitVec 128) : Row → Row :=
  scbFreeIf s.tb (fun e => e.owner == ownAst k && e.line == rvLine w && e.len == rvLen w && e.wr == rvWr w)

theorem goResv_grants (hp : (s.row r).scbPend.any (·.owner == ownAst k) = false)
    (hv : scbVerdict (s.row r) (s.row r).scbPend (resvReq k w s.tb) = .grant) :
    goResv r k i w fw s = (s.modRow r (fun _ => resvGranted s k w (s.row r))).modTile r k (dequeue s.tb s.gw.tmoAst i) := by
  unfold goResv
  rw [if_neg (by simp [hp]), scbRequest_grant hv]
  rfl

@[simp] theorem rowsBut_matvProv (j seq : Nat) (es : List (Nat × Nat × Bool)) (taint : List (Nat × Nat)) (bad : Bool) :
    RowsBut r s0 (matvProv r j seq es taint bad s) ↔ RowsBut r s0 s := rowsBut_modRow _

theorem provWrites_tiles (taint : List (Nat × Nat)) (bad : Bool) (es : List (Nat × Nat × Bool)) (x : Row) :
    (es.foldl (fun w g => provWrite taint bad g.1 g.2.1 w) x).tiles = x.tiles := by
  induction es generalizing x with
  | nil => rfl
  | cons g es ih => exact (ih _).trans (provWrite_tiles ..)

@[simp] theorem hasTile_matvProv (j seq : Nat) (es : List (Nat × Nat × Bool)) (taint : List (Nat × Nat)) (bad : Bool) :
    HasTile (matvProv r j seq es taint bad s) r k ↔ HasTile s r k := hasTile_modRow _ (congrArg List.length (provWrites_tiles ..))

@[simp] theorem tile_matvProv (h : HasTile s r k) (j seq : Nat) (es : List (Nat × Nat × Bool)) (taint : List (Nat × Nat)) (bad : Bool) :
    (matvProv r j seq es taint bad s).tile r k = s.tile r k := tile_modRow h (provWrites_tiles ..)

/-! What a MATV does to its tile (08 R214, R217; 07 R174). -/

/-- It runs, has left the queue, and its pane's chain is open exactly if it holds its accumulators. -/
structure MatvStarted (tb tmo i : Nat) (w : BitVec 128) (x y : Tile) : Prop where
  issued : y.issued.length = x.issued.length + 1
  queue : y.queue = (dequeue tb tmo i x).queue
  chain : paneOf w < x.panes.length → (nth y.panes (paneOf w)).chain.isSome = mHold w

theorem MatvStarted.of_updates {tb tmo : Nat} {x y : Tile} {z : Issued} {g : Pane → Pane} (issued : y.issued = x.issued ++ [z])
    (queue : y.queue = (dequeue tb tmo i x).queue) (panes : y.panes = x.panes.modify (paneOf w) g)
    (hg : ∀ q, (g q).chain.isSome = mHold w) : MatvStarted tb tmo i w x y where
  issued := by simp [issued]
  queue := queue
  chain hp := by rw [panes, nth_modify_self _ hp, hg]

theorem goMatv_starts (h : HasTile s r k) {ws : WSet} (hw : wsetOf (s.tile r k) w = some ws) :
    HasTile (goMatv r k i [] w fw s) r k
      ∧ MatvStarted s.tb s.gw.tmoAst i w (s.tile r k) ((goMatv r k i [] w fw s).tile r k) := by
  simp only [goMatv, hw, issueRead_nil]
  split
  · simp only [hasTile_modTile, hasTile_matvProv, hasTile_modRow, tile_modTile, tile_matvProv, tile_modRow, h, true_and]
    exact .of_updates rfl rfl rfl (fun q => by cases mHold w <;> rfl)
  · simp only [hasTile_modTile, hasTile_matvProv, tile_modTile, tile_matvProv, h, true_and]
    exact .of_updates rfl rfl rfl (fun q => by cases mHold w <;> rfl)

theorem rowsBut_goMatv {ws : WSet} (hw : wsetOf (s.tile r k) w = some ws) : RowsBut r s (goMatv r k i [] w fw s) := by
  simp [goMatv, hw, issueRead_nil]

/-! The other classes: what leaves the queue, and what it leaves behind. -/

theorem goNop_eq : goNop r k i w fw s = (s.modTile r k (dequeue s.tb s.gw.tmoAst i)).modCap (fun c => { c with
    markers := c.markers ++ if wf w 8 1 = 1 then [(r, k, wf w 16 16, s.tb)] else [] }) := by
  unfold goNop
  split
  · rfl
  · simp [State.modCap, State.modTile, State.modRow, State.modRows]

/-- Settles O16: an attempt that finds the turn changes the tile as its class says, and no other row. -/
theorem asterClassesIssue : Obligations.AsterClassesIssue := by
  refine ⟨fun s r t i hr ht => ?issues, fun s r t i o g => ?waits, fun s r t i c hr ht g l => ?faults⟩
  case issues =>
    have h : HasTile s r t := ⟨hr, ht⟩
    refine ⟨fun g => ?nop, fun g => ?fence, fun g hp hv => ?resv, fun g => ?rels, fun g => ?decide, fun g => ?group, fun g => ?wload,
      fun g => ?epi, fun g => ?matv⟩
    case nop =>
      refine ⟨_, tryIssue_go g, ?_, ?_, ?_, ?_⟩ <;> rw [goNop_eq] <;> simp [h]
    case fence =>
      refine ⟨_, tryIssue_go g, by simp, by simp [goFence], fun set => ?_, fun unset => ?_⟩
      · simp [goFence, h, set]
      · simp [goFence, h, unset]
    case resv =>
      obtain ⟨has, tile, scb⟩ := modRow_modTile h (f := fun _ => resvGranted s t (nth (s.tile r t).queue i).word (s.row r))
        (clearPoisoned_tiles ..) (dequeue s.tb s.gw.tmoAst i)
      refine ⟨_, tryIssue_go g, ?_, ?_, ?_, ?_⟩ <;> rw [goResv_grants hp hv]
      · simp
      · simp
      · rw [scb_mirror has, scb]
        exact clearPoisoned_scb ..
      · rw [tile_mirror has, tile]
    case rels =>
      obtain ⟨has, -, scb⟩ := modRow_modTile h (f := relsFreed s t (nth (s.tile r t).queue i).word) rfl (dequeue s.tb s.gw.tmoAst i)
      exact ⟨_, tryIssue_go g, by simp, by simp [goRels], (scb_mirror has).trans scb⟩
    case decide =>
      refine ⟨_, tryIssue_go g, by simp, by simp [goDecide], by simp [goDecide, h], fun hp => ?_⟩
      simp [goDecide, h, nth_modify_self, hp]
    case group =>
      refine ⟨_, tryIssue_go g, by simp, by simp [goGroup], fun hp => ?_⟩
      simp [goGroup, h, nth_modify_self, hp]
    case wload =>
      refine ⟨_, tryIssue_go g, by simp [goWload, issueRead_nil], by simp [goWload, issueRead_nil], fun z hz => ?_, ?_⟩
      · simpa [goWload, issueRead_nil, h, and_comm] using hz
      · simp [goWload, issueRead_nil, h]
    case epi =>
      refine ⟨_, tryIssue_go g, ?_, ?_, ?_, ?_⟩ <;> simp [goEpi, issueRead_nil, h]
    case matv =>
      obtain ⟨cls, ok⟩ := turnOf_go_checked g
      obtain ⟨ws, hw⟩ := wsetOf_of_issueFault_ok cls ok
      obtain ⟨has, started⟩ := goMatv_starts (i := i) (fw := (nth (s.tile r t).queue i).fword) h hw
      refine ⟨_, tryIssue_go g, rowsBut_mirror.2 (rowsBut_goMatv hw), ?_⟩
      rw [tile_mirror has]
      exact ⟨started.issued, started.queue, started.chain⟩
  case waits =>
    refine ⟨?_, ?_, ?_, ?_, ?_, ?_, ?_, ?_, ?_⟩
    all_goals
      rintro rfl
      intros
      exact tryIssue_idle g
  case faults =>
    have h : HasTile s r t := ⟨hr, ht⟩
    have leads : isFollower (s.tile r t) t = false := by
      by_contra follows
      cases g.symm.trans (turnOf_follower (eq_true_of_ne_false follows))
    refine ⟨_, tryIssue_fault g, ?_⟩
    rw [tile_mirror (by simp [h]), tile_haltTile _ _ _ _ h leads]
    exact ⟨rfl, rfl, rfl, rfl, by simp⟩

end Sys2Proof.Machine
end

section
/-! PROOFS. WLOAD, EPI and MATV completions (08 R204, R211, R212, R217; 17 R456, R463). -/

namespace Sys2Proof.Machine

variable {s s0 : State} {r k i o : Nat} {x : Tile} {y : Issued}

theorem issuedOf_of_class (hy : x.issued[i]? = some y) (ho : opcOf y.word = o) : issuedOf x o i = some y := by
  simp [issuedOf, hy, ho]

theorem dropIssued_length (hi : i < x.issued.length) : (dropIssued i x).issued.length + 1 = x.issued.length := by
  simp only [dropIssued, List.length_eraseIdx_of_lt hi]
  omega

/-! WLOAD (08 R211). -/

/-- The state with the planes and scale units of a WLOAD stored and the loader free. -/
def loaded (s : State) (r k i : Nat) (w : BitVec 128) : State := s.modTile r k (fun x => dropIssued i (storeSet s r w x))

/-- The weight set that a WLOAD makes valid. -/
def loadedSet (w : BitVec 128) : WSet := { pane := paneOf w, slot := wlSlot w, wfmt := wlFmt w, pw := wlPw w, unit := wlUnit w }

section
variable (hy : (s.tile r k).issued[i]? = some y) (hl : isFollower (s.tile r k) k = false) (ho : opcOf y.word = 1)
include hy hl ho

theorem execWloadComplete_sets (hp : y.poisoned = false) (hb : y.bad = []) : execWloadComplete r k i s
    = .next (mirror r k ((loaded s r k i y.word).modTile r k (fun x => { x with wsets := x.wsets ++ [loadedSet y.word] }))) := by
  simp [execWloadComplete, issuedOf_of_class hy ho, hl, hp, hb, loaded, loadedSet]

theorem execWloadComplete_poisoned (hp : y.poisoned = true) : execWloadComplete r k i s
    = .next (mirror r k (haltTile r k .poisoned y.fword 1 0 (loaded s r k i y.word))) := by
  simp [execWloadComplete, issuedOf_of_class hy ho, hl, hp, loaded]

theorem execWloadComplete_parity (hp : y.poisoned = false) (hb : y.bad ≠ []) : execWloadComplete r k i s
    = .next (mirror r k (haltTile r k .parityError y.fword 1 0 (loaded s r k i y.word))) := by
  simp [execWloadComplete, issuedOf_of_class hy ho, hl, hp, hb, loaded]

end

@[simp] theorem hasTile_loaded (w : BitVec 128) : HasTile (loaded s r k i w) r k ↔ HasTile s r k := hasTile_modTile ..

@[simp] theorem rowsBut_loaded (w : BitVec 128) : RowsBut r s0 (loaded s r k i w) ↔ RowsBut r s0 s := rowsBut_modTile _

theorem tile_loaded (h : HasTile s r k) (w : BitVec 128) : (loaded s r k i w).tile r k = dropIssued i (storeSet s r w (s.tile r k)) :=
  tile_modTile h _

/-- A source that failed halts the tile, and the set stays out of use. -/
theorem tile_loaded_halts (h : HasTile s r k) (hl : isFollower (s.tile r k) k = false) (c : Code) (w : BitVec 128) :
    (mirror r k (haltTile r k c y.fword 1 0 (loaded s r k i w))).tile r k
      = haltedTile c y.fword (dropIssued i (storeSet s r w (s.tile r k))) := by
  rw [tile_mirror (by simp [h]), tile_haltTile _ _ _ _ (by simp [h]) (by rw [tile_loaded h]; exact hl), tile_loaded h]

/-! EPI (08 R212). -/

/-- The state with the pane's settings as the EPI leaves them, and the loader free. -/
def epiEnded (s : State) (r k i p : Nat) (e : Option EpiSet) : State :=
  (s.modTile r k (dropIssued i)).modTile r k (fun x => { x with panes := x.panes.modify p (fun q => { q with epi := e }) })

section
variable (hy : (s.tile r k).issued[i]? = some y) (hl : isFollower (s.tile r k) k = false) (ho : opcOf y.word = 3)
include hy hl ho

theorem execEpiComplete_sets (hp : y.poisoned = false) (hb : y.bad = []) : execEpiComplete r k i s
    = .next (mirror r k (epiEnded s r k i (paneOf y.word) (some (epiSet s r (paneSize (s.tile r k).mode) y.word)))) := by
  simp [execEpiComplete, issuedOf_of_class hy ho, hl, hp, hb, epiEnded]

theorem execEpiComplete_poisoned (hp : y.poisoned = true) : execEpiComplete r k i s
    = .next (mirror r k (haltTile r k .poisoned y.fword 1 0 (epiEnded s r k i (paneOf y.word) none))) := by
  simp [execEpiComplete, issuedOf_of_class hy ho, hl, hp, epiEnded]

end

@[simp] theorem hasTile_epiEnded (p : Nat) (e : Option EpiSet) : HasTile (epiEnded s r k i p e) r k ↔ HasTile s r k := by
  simp [epiEnded]

theorem tile_epiEnded (h : HasTile s r k) (p : Nat) (e : Option EpiSet) : (epiEnded s r k i p e).tile r k
    = { dropIssued i (s.tile r k) with panes := (s.tile r k).panes.modify p (fun q => { q with epi := e }) } := by
  unfold epiEnded
  rw [tile_modTile ((hasTile_modTile ..).2 h), tile_modTile h]
  rfl

/-! MATV (08 R217; 07 R174; 20 R535). -/

/-- The state with the vectors of a MATV written, unless the Decider or an earlier attempt has written them (07 R189; 09 R230). -/
def vectorsWritten (s : State) (r k : Nat) (y : Issued) (ws : WSet) : State :=
  if (nth (s.tile r k).panes y.pane).dec.mode ≠ .off ∨ y.written then s
  else each (List.range (mV y.word)) (fun v => finishVec (feedOf s r y) r k (s.tile r k) y ws v ws.pw []
    (allPlanes (feedOf s r y) (s.tile r k) ws y.word v (nth y.vecs v))) s

/-- Finished vectors are bytes of memory and items of the Witness unit. -/
theorem vectorsWritten_keeps (ws : WSet) : Keeps [.mem, .wit] s (vectorsWritten s r k y ws) := by
  unfold vectorsWritten
  split
  · exact Keeps.rfl'
  · exact (keeps_each _ _ (fun v t => keeps_finishVec _ _ _ _ _ _ _ _ _ _ t (List.Subset.refl _)) s).2 Keeps.rfl'

theorem vectorsWritten_rows (ws : WSet) : (vectorsWritten s r k y ws).rows = s.rows := vectorsWritten_keeps ws .rows (by decide)

/-- The state once the entry of the MATV says that its vectors are written. -/
def matvWritten (s : State) (r k i : Nat) (y : Issued) (ws : WSet) : State :=
  (vectorsWritten s r k y ws).modTile r k (fun z => { z with issued := z.issued.modify i (fun q => { q with written := true }) })

@[simp] theorem hasTile_matvWritten (ws : WSet) : HasTile (matvWritten s r k i y ws) r k ↔ HasTile s r k :=
  (hasTile_modTile ..).trans (hasTile_of_rows (vectorsWritten_rows ws))

@[simp] theorem rowsBut_matvWritten (ws : WSet) : RowsBut r s0 (matvWritten s r k i y ws) ↔ RowsBut r s0 s :=
  (rowsBut_modTile _).trans (rowsBut_of_rows (vectorsWritten_rows ws))

theorem tile_matvWritten (h : HasTile s r k) (ws : WSet) : (matvWritten s r k i y ws).tile r k
    = { s.tile r k with issued := (s.tile r k).issued.modify i (fun q => { q with written := true }) } := by
  unfold matvWritten
  rw [tile_modTile ((hasTile_of_rows (vectorsWritten_rows ws)).2 h), tile_of_rows (vectorsWritten_rows ws)]

theorem matvWritten_keeps (ws : WSet) : Keeps [.rows, .mem, .wit] s (matvWritten s r k i y ws) :=
  (keeps_State_modTile _ _ _ _ (by decide)).2 ((vectorsWritten_keeps ws).mono (by decide))

theorem itemsWait_of_wit {t u : State} (e : u.wit = t.wit) (p : Nat) : itemsWait u r k p = itemsWait t r k p := by
  simp only [itemsWait, e]

/-- A held link's accumulators join its pane's chain, and its entry goes (07 R174). -/
def linkHeld (s : State) (r i : Nat) (x : Tile) (y : Issued) (ws : WSet) (z : Tile) : Tile :=
  { dropIssued i z with panes := z.panes.modify y.pane (fun q => { q with chain := q.chain.map (fun c => { c with
      vecs := (List.range (mV y.word)).map (fun v => allPlanes (feedOf s r y) x ws y.word v (nth y.vecs v)) }) }) }

section
variable (hy : (s.tile r k).issued[i]? = some y) (hl : isFollower (s.tile r k) k = false) (ho : opcOf y.word = 2)
include hy hl ho

theorem execMatvComplete_holds {ws : WSet} (hw : wsetOf (s.tile r k) y.word = some ws) (hh : mHold y.word = true) :
    execMatvComplete r k i s = .next (mirror r k (s.modTile r k (linkHeld s r i (s.tile r k) y ws))) := by
  simp only [execMatvComplete, issuedOf_of_class hy ho, hw, hl, hh, Bool.false_eq_true, if_false, if_true]
  rfl

theorem execMatvComplete_unarmed {ws : WSet} (hw : wsetOf (s.tile r k) y.word = some ws) (hh : mHold y.word = false)
    (hd : (nth (s.tile r k).panes y.pane).dec.mode = .off) : execMatvComplete r k i s
      = if itemsWait (matvWritten s r k i y ws) r k y.pane then .next (mirror r k (matvWritten s r k i y ws))
        else .next (mirror r k ((matvWritten s r k i y ws).modTile r k (dropIssued i))) := by
  simp only [execMatvComplete, issuedOf_of_class hy ho, hw, hl, hh, Bool.false_eq_true, if_false]
  exact if_neg (by simp [hd])

/-- An armed one waits for the vectors that have not stopped (09 R225). -/
theorem execMatvComplete_waits (hh : mHold y.word = false) (hd : (nth (s.tile r k).panes y.pane).dec.mode ≠ .off) (hv : 0 < mV y.word)
    (hs : y.stops = []) : execMatvComplete r k i s = .next s := by
  have first : ∃ v, v < mV y.word := ⟨0, hv⟩
  cases hw : wsetOf (s.tile r k) y.word with
  | none => simp [execMatvComplete, issuedOf_of_class hy ho, hw]
  | some ws => simp [execMatvComplete, issuedOf_of_class hy ho, hw, hl, hh, hd, hs, first]

end

/-- Settles O17: each completion changes its own tile; what failed halts it, and what is written is nothing of the rows. -/
theorem asterCompletionsTakeEffect : Obligations.AsterCompletionsTakeEffect := by
  intro s r t i y hr ht hy hl
  have h : HasTile s r t := ⟨hr, ht⟩
  refine ⟨fun ho hp hb => ?set, fun ho hp => ?poisoned, fun ho hp hb => ?parity, fun ho hp hb hn => ?epi, fun ho hp hn => ?epiPoisoned,
    fun ho hh hw => ?held, fun ho hh hw hd => ?unarmed, fun ho hh hd hv hs => execMatvComplete_waits hy hl ho hh hd hv hs⟩
  case set =>
    refine ⟨_, execWloadComplete_sets hy hl ho hp hb, by simp [loaded], by simp, ?_⟩
    rw [tile_mirror (by simp [h]), tile_modTile (by simp [h]), tile_loaded h]
    exact ⟨rfl, rfl, rfl⟩
  case poisoned =>
    refine ⟨_, execWloadComplete_poisoned hy hl ho hp, ?_⟩
    rw [tile_loaded_halts h hl]
    exact ⟨rfl, rfl, rfl, by simp⟩
  case parity =>
    refine ⟨_, execWloadComplete_parity hy hl ho hp hb, ?_⟩
    rw [tile_loaded_halts h hl]
    exact ⟨rfl, rfl, rfl⟩
  case epi =>
    refine ⟨_, execEpiComplete_sets hy hl ho hp hb, by simp [epiEnded], by simp [epiEnded], ?_⟩
    rw [tile_mirror (by simp [h]), tile_epiEnded h]
    exact ⟨by rw [nth_modify_self _ hn], by rw [nth_modify_self _ hn], rfl⟩
  case epiPoisoned =>
    refine ⟨_, execEpiComplete_poisoned hy hl ho hp, ?_⟩
    rw [tile_mirror (by simp [h]), tile_haltTile _ _ _ _ (by simp [h]) (by rw [tile_epiEnded h]; exact hl), tile_epiEnded h]
    exact ⟨rfl, congrArg Pane.epi (nth_modify_self _ hn)⟩
  case held =>
    obtain ⟨ws, hw⟩ := Option.isSome_iff_exists.1 hw
    refine ⟨_, execMatvComplete_holds hy hl ho hw hh, by simp, by simp, ?_⟩
    rw [tile_mirror (by simp [h]), tile_modTile h]
    refine ⟨rfl, fun hp => ?_⟩
    rw [linkHeld, nth_modify_self _ hp, Option.map_map]
    rfl
  case unarmed =>
    obtain ⟨ws, hw⟩ := Option.isSome_iff_exists.1 hw
    obtain ⟨hi, -⟩ := List.getElem?_eq_some_iff.1 hy
    have e := execMatvComplete_unarmed hy hl ho hw hh hd
    by_cases wait : itemsWait (matvWritten s r t i y ws) r t y.pane = true
    · refine ⟨_, e.trans (if_pos wait), by simp, by simp [matvWritten_keeps], fun quiet => ?_, fun _ => ?_⟩
      · cases quiet.symm.trans ((itemsWait_of_wit mirror_wit _).trans wait)
      · rw [tile_mirror (by simp [h]), tile_matvWritten h]
        exact List.length_modify ..
    · refine ⟨_, e.trans (if_neg wait), by simp, by simp [matvWritten_keeps], fun _ => ?_, fun busy => ?_⟩
      · rw [tile_mirror (by simp [h]), tile_modTile (by simp [h]), tile_matvWritten h, dropIssued_length (by simpa using hi)]
        exact List.length_modify ..
      · exact absurd ((itemsWait_of_wit mirror_wit _).symm.trans busy) wait

end Sys2Proof.Machine
end

section
/-! PROOFS. The Decider's evaluations, the comparisons of pairs and the timeouts of tiles (09 R225 to R230; 17 R461, R462; 18 R487). -/

namespace Sys2Proof.Machine

variable {s t u : State} {r k i o p q v w : Nat} {y z : Issued} {ws : WSet}

theorem nth_of_getElem? {α : Type} [Inhabited α] {l : List α} {a : α} (h : l[i]? = some a) : nth l i = a := by
  simp [nth, h]

/-! The entry of an armed MATV while the vectors of a wave are evaluated (09 R225, R228). -/

/-- The vector has stopped. -/
def vecStopped (y : Issued) (v : Nat) : Bool := y.stops.any (·.1 == v)

/-- From s to u the tile's entry y has become z: the same instruction with the same planes counted, and what had stopped has stopped. -/
structure Evaluated (r k i : Nat) (y z : Issued) (s u : State) : Prop where
  hasTile : HasTile u r k
  rows : RowsBut r s u
  entry : (u.tile r k).issued[i]? = some z
  word : z.word = y.word
  planes : z.planes = y.planes
  stops : y.stops ⊆ z.stops

theorem Evaluated.refl (h : HasTile s r k) (hy : (s.tile r k).issued[i]? = some y) : Evaluated r k i y y s s :=
  ⟨h, .rfl', hy, rfl, rfl, List.Subset.refl _⟩

theorem Evaluated.trans {a : Issued} (h : Evaluated r k i y z s t) (g : Evaluated r k i z a t u) : Evaluated r k i y a s u where
  hasTile := g.hasTile
  rows _ hq := (g.rows _ hq).trans (h.rows _ hq)
  entry := g.entry
  word := g.word.trans h.word
  planes := g.planes.trans h.planes
  stops _ he := g.stops (h.stops he)

theorem Evaluated.vecStopped (h : Evaluated r k i y z s u) (hv : vecStopped y v = true) : vecStopped z v = true := by
  obtain ⟨e, he, hev⟩ := List.any_eq_true.1 hv
  exact List.any_eq_true.2 ⟨e, h.stops he, hev⟩

theorem finishVec_rows (f : Feed) (x : Tile) (y : Issued) (ws : WSet) (v n : Nat) (cs : List Col) (a : VecAcc) (s : State) :
    (finishVec f r k x y ws v n cs a s).rows = s.rows :=
  (keeps_finishVec f r k x y ws v n cs a s (List.Subset.refl _)).2 Keeps.rfl' .rows (by decide)

/-- An evaluation leaves a vector that has stopped alone; of another it rewrites the entry and counts the plane, on the follower too,
and what a vector leaves that stops, which each does after the last plane, is nothing of the rows. -/
theorem evalVec_cases (hy : issuedOf (s.tile r k) 2 i = some y) (f : Feed) (x : Tile) (ws : WSet) (n v : Nat) :
    (vecStopped y v = true ∧ evalVec f r k i x ws n v s = s) ∨
    ∃ (g : Issued → Issued) (c d : Tile → Tile), (g y).word = y.word ∧ (g y).planes = y.planes ∧ y.stops ⊆ (g y).stops
      ∧ (n = ws.pw → vecStopped (g y) v = true) ∧ (∀ l, (c l).issued = l.issued.modify i g)
      ∧ ((evalVec f r k i x ws n v s).rows = (s.modTile r k c).rows
        ∨ (evalVec f r k i x ws n v s).rows = ((s.modTile r k c).modTile r (k + 1) d).rows) := by
  by_cases hv : vecStopped y v = true
  · exact .inl ⟨hv, by simp only [evalVec, hy]; exact if_pos hv⟩
  · right
    unfold evalVec
    simp -zeta only [hy]
    lift_lets
    extract_lets p a e cs isTh stop upd cnt s₁ s₂
    rw [if_neg (show ¬ y.stops.any (·.1 == v) = true from hv)]
    have stops : (upd y).stops = if stop then y.stops ++ [(v, n)] else y.stops := rfl
    have rows : (if stop then finishVec f r k x (upd y) ws v n cs a s₂ else s₂).rows = s₂.rows := by
      split
      · exact finishVec_rows ..
      · rfl
    refine ⟨upd, fun l => cnt { l with issued := l.issued.modify i upd }, cnt, rfl, rfl, ?grows, fun last => ?stops, fun _ => rfl, ?rows⟩
    case grows =>
      rw [stops]
      split
      · exact List.subset_append_left ..
      · exact List.Subset.refl _
    case stops =>
      have all : stop = true := by simp [stop, last]
      simp [vecStopped, stops, all]
    case rows =>
      rw [rows]
      by_cases paired : x.paired = true
      · exact .inr (congrArg State.rows (if_pos paired))
      · exact .inl (congrArg State.rows (if_neg paired))

/-- The evaluation of one vector: its entry goes on, and after the last plane the vector has stopped. -/
theorem evalVec_evaluates (h : HasTile s r k) (hy : (s.tile r k).issued[i]? = some y) (ho : opcOf y.word = 2) (f : Feed) (x : Tile)
    (ws : WSet) (n v : Nat) :
    ∃ z, Evaluated r k i y z s (evalVec f r k i x ws n v s) ∧ (n = ws.pw → vecStopped z v = true) := by
  obtain ⟨hv, e⟩ | ⟨g, c, d, word, planes, stops, last, issued, rows⟩ := evalVec_cases (issuedOf_of_class hy ho) f x ws n v
  · exact ⟨y, by rw [e]; exact .refl h hy, fun _ => hv⟩
  · have entry : ((s.modTile r k c).tile r k).issued[i]? = some (g y) := by
      rw [tile_modTile h, issued, List.getElem?_modify_eq, hy]
      rfl
    refine ⟨g y, ?_, last⟩
    obtain e | e := rows
    · exact ⟨(hasTile_of_rows e).2 (by simp [h]), (rowsBut_of_rows e).2 (by simp), by rw [tile_of_rows e, entry], word, planes, stops⟩
    · refine ⟨(hasTile_of_rows e).2 (by simp [h]), (rowsBut_of_rows e).2 (by simp), ?_, word, planes, stops⟩
      rw [tile_of_rows e, modTile_tile_of_ne d ((hasTile_modTile ..).2 h).1 (Nat.ne_of_lt (Nat.lt_succ_self k)), entry]

/-- The evaluation of the vectors of a wave, one after the other. -/
theorem each_evalVec_evaluates (f : Feed) (x : Tile) (ws : WSet) (n : Nat) (l : List Nat) (h : HasTile s r k)
    (hy : (s.tile r k).issued[i]? = some y) (ho : opcOf y.word = 2) :
    ∃ z, Evaluated r k i y z s (each l (evalVec f r k i x ws n) s) ∧ (n = ws.pw → ∀ v ∈ l, vecStopped z v = true) := by
  induction l generalizing s y with
  | nil => exact ⟨y, .refl h hy, fun _ _ hv => absurd hv List.not_mem_nil⟩
  | cons v l ih =>
    obtain ⟨z, first, stop⟩ := evalVec_evaluates h hy ho f x ws n v
    obtain ⟨a, rest, stops⟩ := ih first.hasTile first.entry (by rw [first.word, ho])
    refine ⟨a, first.trans rest, fun last q hq => ?_⟩
    obtain rfl | hq := List.mem_cons.1 hq
    · exact rest.vecStopped (stop last)
    · exact stops last q hq

/-! An evaluation of a wave (09 R225). -/

/-- The state once the entry counts the wave's next plane. -/
def planeCounted (s : State) (r k i w n : Nat) : State :=
  s.modTile r k (fun z => { z with issued := z.issued.modify i (fun q => { q with planes := q.planes.set w n }) })

/-- The vectors of a wave. -/
def waveVecs (y : Issued) (w : Nat) : List Nat := ((List.range 32).map (· + 32 * w)).filter (fun v => decide (v < mV y.word))

theorem mem_waveVecs (lo : 32 * w ≤ v) (hi : v < 32 * w + 32) (hv : v < mV y.word) : v ∈ waveVecs y w := by
  simp only [waveVecs, List.mem_filter, List.mem_map, List.mem_range, decide_eq_true_eq]
  exact ⟨⟨v - 32 * w, by omega, by omega⟩, hv⟩

@[simp] theorem hasTile_planeCounted (w n : Nat) : HasTile (planeCounted s r k i w n) r k ↔ HasTile s r k := hasTile_modTile ..

@[simp] theorem rowsBut_planeCounted (w n : Nat) : RowsBut r t (planeCounted s r k i w n) ↔ RowsBut r t s := rowsBut_modTile _

theorem planeCounted_entry (h : HasTile s r k) (hy : (s.tile r k).issued[i]? = some y) (w n : Nat) :
    ((planeCounted s r k i w n).tile r k).issued[i]? = some { y with planes := y.planes.set w n } := by
  rw [planeCounted, tile_modTile h, List.getElem?_modify_eq, hy]
  rfl

theorem execDeciderEvaluation_evaluates (hy : (s.tile r k).issued[i]? = some y) (ho : opcOf y.word = 2)
    (hl : isFollower (s.tile r k) k = false) (hw : wsetOf (s.tile r k) y.word = some ws) (hh : mHold y.word = false)
    (hd : (nth (s.tile r k).panes y.pane).dec.mode ≠ .off) (hv : 32 * w < mV y.word) (hp : nth y.planes w < ws.pw) :
    execDeciderEvaluation r k i w s = .next (mirror r k (each (waveVecs y w)
      (evalVec (feedOf s r y) r k i (s.tile r k) ws (nth y.planes w + 1)) (planeCounted s r k i w (nth y.planes w + 1)))) := by
  simp only [execDeciderEvaluation, issuedOf_of_class hy ho, hw]
  rw [if_neg (by simp [hl, hh, hd, Nat.not_le.2 hv, Nat.not_lt.2 (Nat.succ_le_of_lt hp)])]
  rfl

theorem execDeciderEvaluation_absent (hy : (s.tile r k).issued[i]? = none) (w : Nat) : execDeciderEvaluation r k i w s = .next s := by
  simp [execDeciderEvaluation, issuedOf, hy]

/-! What a verdict does to the rows (17 R461, R462). -/

theorem row_of_map {g : Row → Row} (e : t.rows = s.rows.map g) (hr : r < s.rows.length) : t.row r = g (s.row r) :=
  (congrArg (nth · r) e).trans (nth_map g hr)

theorem modRow_rows_length (g : Row → Row) : (s.modRow r g).rows.length = s.rows.length := List.length_modify ..

theorem sendVerdicts_rows (o q : Nat) (d : Verdict) (s : State) : (sendVerdicts o q d s).rows = s.rows :=
  (keeps_sendVerdicts o q d s (List.Subset.refl _)).2 Keeps.rfl' .rows (by decide)

/-- What a verdict makes of a row. -/
def verdictRow (o q : Nat) : Verdict → Row → Row
  | .confirmed => confirmRows o q
  | .poisoned => poisonRows o q

/-- The state once row r is changed by g and a verdict on its pair has gone out. -/
def verdictGiven (o q : Nat) (d : Verdict) (r : Nat) (g : Row → Row) (s : State) : State :=
  sendVerdicts o q d (applyVerdict o q d (s.modRow r g))

section
variable (d : Verdict) (g : Row → Row)

theorem verdictGiven_rows : (verdictGiven o q d r g s).rows = (s.modRow r g).rows.map (verdictRow o q d) := by
  refine (sendVerdicts_rows ..).trans ?_
  cases d with
  | confirmed => rfl
  | poisoned => rfl

theorem row_verdictGiven (hr : r < s.rows.length) : (verdictGiven o q d r g s).row r = verdictRow o q d (g (s.row r)) := by
  rw [row_of_map (verdictGiven_rows d g) (by rwa [modRow_rows_length]), (row_of_modify rfl hr).1]

@[simp] theorem verdictRow_pairs (x : Row) : (verdictRow o q d x).pairs = x.pairs := by
  cases d with
  | confirmed => rfl
  | poisoned => rfl

/-- A verdict leaves every tile in its place and paired as it was. -/
theorem verdictRow_tiles (x : Row) : ∃ c : Tile → Tile, (verdictRow o q d x).tiles = x.tiles.map c ∧ ∀ l, (c l).paired = l.paired := by
  cases d with
  | confirmed => exact ⟨_, rfl, fun _ => rfl⟩
  | poisoned => exact ⟨_, rfl, fun l => by split <;> rfl⟩

theorem verdictGiven_tile (h : HasTile s r k) (hg : (g (s.row r)).tiles = (s.row r).tiles) :
    HasTile (verdictGiven o q d r g s) r k ∧ ((verdictGiven o q d r g s).tile r k).paired = (s.tile r k).paired := by
  obtain ⟨c, tiles, paired⟩ := verdictRow_tiles (o := o) (q := q) d (g (s.row r))
  rw [hg] at tiles
  have row := row_verdictGiven (o := o) (q := q) d g h.1
  refine ⟨⟨?_, ?_⟩, ?_⟩
  · rw [verdictGiven_rows, List.length_map, modRow_rows_length]
    exact h.1
  · rw [row, tiles, List.length_map]
    exact h.2
  · rw [State.tile, row, tiles, nth_map c h.2, paired, State.tile]

end

/-! The comparisons of a pair (17 R461, R462). -/

/-- The state once the pair's next unresolved sequence is confirmed. -/
def pairConfirmed (s : State) (r p : Nat) : State :=
  let q := nextSeq (s.pair r p).done
  verdictGiven (originOf (provTag s r p q)) q .confirmed r (fun x => { x with pairs := x.pairs.modify p (fun z => { z with done := q }) }) s

theorem pair_pairConfirmed (hr : r < s.rows.length) (hp : p < (s.row r).pairs.length) :
    (pairConfirmed s r p).pair r p = { s.pair r p with done := nextSeq (s.pair r p).done } := by
  rw [State.pair, pairConfirmed, row_verdictGiven _ _ hr, verdictRow_pairs]
  exact nth_modify_self _ hp

theorem pairFails_tile (h : HasTile s r k) (p : Nat) :
    HasTile (pairFails r p s) r k ∧ ((pairFails r p s).tile r k).paired = (s.tile r k).paired :=
  verdictGiven_tile .poisoned (fun x => { x with pairs := x.pairs.modify p (fun z => { z with done := (z.seq + 0x7FFF - 2) % 0x7FFF + 1 }) })
    h rfl

section
variable (hf : (s.pair r p).formed = true) (hl : (s.tile r (2 * p)).paired = true) (hs : nextSeq (s.pair r p).done ≠ (s.pair r p).seq)
include hf hl hs

theorem execPairCompare_passes (done : ∀ y ∈ (s.tile r (2 * p)).issued, y.seq ≠ nextSeq (s.pair r p).done) :
    execPairCompare r p true s = .next (pairConfirmed s r p) := by
  have quiet : (s.tile r (2 * p)).issued.any (fun y => y.seq == nextSeq (s.pair r p).done && !y.written) = false :=
    List.any_eq_false.2 fun y hy => by simp [done y hy]
  simp only [execPairCompare, hf, hl, hs, quiet]
  rfl

theorem execPairCompare_fails : execPairCompare r p false s = .next (haltTile r (2 * p) .poisoned 0xFFFF 3 0 (pairFails r p s)) := by
  simp only [execPairCompare, hf, hl, hs]
  rfl

end

/-- The follower of a pair halts with its leader (08 R220). -/
theorem tile_haltTile_follower (h : HasTile s r (k + 1)) (even : k % 2 = 0) (paired : (s.tile r k).paired = true) (c : Code)
    (fword op detail : Nat) :
    (haltTile r k c fword op detail s).tile r (k + 1) = haltedTile c fword (s.tile r (k + 1)) := by
  have lead : k / 2 * 2 = k := by omega
  rw [haltTile, if_pos paired, lead, tile_haltOne _ _ _ _ ((hasTile_haltOne ..).2 h),
    tile_haltOne_of_ne _ _ _ _ h (Nat.ne_of_gt (Nat.lt_succ_self k))]

/-! The timeouts (18 R487). -/

theorem execAstWaitTimeout_halts (hi : i < (s.tile r k).queue.length) (hh : (s.tile r k).halted = false)
    (hl : isFollower (s.tile r k) k = false) (ho : oldest (s.tile r k).queue i = true)
    (due : (nth (s.tile r k).queue i).since + (nth (s.tile r k).queue i).limit ≤ s.tb) :
    execAstWaitTimeout r k i s = .next (mirror r k (haltTile r k .astTimeout (nth (s.tile r k).queue i).fword
      (astOp (opcOf (nth (s.tile r k).queue i).word)) 0 s)) := by
  unfold execAstWaitTimeout
  exact if_neg (by simp [hi, hh, hl, ho, due])

theorem execAstRunTimeout_halts (hy : (s.tile r k).issued[i]? = some y) (hl : isFollower (s.tile r k) k = false)
    (due : y.issuedAt + y.limit ≤ s.tb) : execAstRunTimeout r k i s
      = .next (mirror r k (haltTile r k .astTimeout y.fword (astOp (opcOf y.word)) 0 (s.modTile r k (dropIssued i)))) := by
  simp only [execAstRunTimeout, hy]
  exact if_neg (by simp [hl, due])

theorem mirror_haltTile_mem (c : Code) (fword op detail : Nat) (s : State) : (mirror r k (haltTile r k c fword op detail s)).mem = s.mem := by
  have keeps : Keeps [.rows, .fab, .chavi, .mbx, .gw, .err, .sec, .attn, .out] s (mirror r k (haltTile r k c fword op detail s)) := by simp
  exact keeps .mem (by decide)

/-- Settles O18: an evaluation rewrites its own entry, a comparison resolves its own pair, and a timeout halts its own tile. -/
theorem deciderPairsAndTimeouts : Obligations.DeciderPairsAndTimeouts := by
  refine ⟨fun s r t i w y ws hr ht hy ho hl hw hh hd hv hwave hp => ?evaluation,
    fun s r t i w hy => execDeciderEvaluation_absent hy w,
    fun s r p hr hp hf hl hs done => ⟨_, execPairCompare_passes hf hl hs done, ?pass⟩,
    fun s r p hr hp hf hl hs => ⟨_, execPairCompare_fails hf hl hs, ?failure⟩,
    fun s r t i hr ht hi hh hl ho due => ⟨_, execAstWaitTimeout_halts hi hh hl ho due, ?wait⟩,
    fun s r t i y hr ht hy hl due => ⟨_, execAstRunTimeout_halts hy hl due, ?run⟩⟩
  case evaluation =>
    have h : HasTile s r t := ⟨hr, ht⟩
    obtain ⟨z, ran, stops⟩ := each_evalVec_evaluates (feedOf s r y) (s.tile r t) ws (nth y.planes w + 1) (waveVecs y w)
      ((hasTile_planeCounted ..).2 h) (planeCounted_entry h hy w (nth y.planes w + 1)) ho
    refine ⟨_, execDeciderEvaluation_evaluates hy ho hl hw hh hd hv hp, ?_, ?_, ?_⟩
    · exact rowsBut_mirror.2 ((rowsBut_congr ran.rows).2 (by simp))
    · simp [planeCounted]
    · rw [tile_mirror ran.hasTile, nth_of_getElem? ran.entry]
      exact ⟨ran.planes, ran.stops, fun last v lo hi hm => stops last v (mem_waveVecs lo hi hm)⟩
  case pass =>
    rw [pair_pairConfirmed hr hp]
    exact ⟨rfl, rfl⟩
  case failure =>
    obtain ⟨lead, leads⟩ := pairFails_tile (k := 2 * p) ⟨hr, Nat.lt_of_succ_lt hp⟩ p
    obtain ⟨follower, -⟩ := pairFails_tile (k := 2 * p + 1) ⟨hr, hp⟩ p
    rw [tile_haltTile _ _ _ _ lead (by simp [isFollower]),
      tile_haltTile_follower follower (Nat.mul_mod_right 2 p) (leads.trans hl)]
    exact ⟨rfl, rfl, rfl⟩
  case wait =>
    have h : HasTile s r t := ⟨hr, ht⟩
    rw [tile_mirror (by simp [h]), tile_haltTile _ _ _ _ h hl]
    exact ⟨rfl, rfl, by simp, mirror_haltTile_mem ..⟩
  case run =>
    have h : HasTile (s.modTile r t (dropIssued i)) r t := (hasTile_modTile ..).2 ⟨hr, ht⟩
    have tile : (s.modTile r t (dropIssued i)).tile r t = dropIssued i (s.tile r t) := tile_modTile ⟨hr, ht⟩ _
    rw [tile_mirror (by simp [h]), tile_haltTile _ _ _ _ h (by rw [tile]; exact hl), tile]
    exact ⟨rfl, rfl, rfl, by simp, mirror_haltTile_mem ..⟩

end Sys2Proof.Machine
end

section
/-! SUPPORT. The cores of a row (10): what an update of one core, or of the rest of its row, leaves of that core, and what an
instruction of a core that goes meets. -/

namespace Sys2Proof.Machine

variable {s s0 t : State} {r c : Nat}

/-! A core that stands in the lists of the state, and its updates. -/

/-- The state has row r, and the row has core c. -/
def HasCore (s : State) (r c : Nat) : Prop := r < s.rows.length ∧ c < (s.row r).cores.length

theorem row_modRow_self (hr : r < s.rows.length) (f : Row → Row) : (s.modRow r f).row r = f (s.row r) := (row_of_modify rfl hr).1

theorem row_modCore (hr : r < s.rows.length) (j : Nat) (f : Core → Core) :
    (s.modCore r j f).row r = { s.row r with cores := (s.row r).cores.modify j f } := row_modRow_self hr _

theorem hasCore_modRow {f : Row → Row} (h : HasCore s r c) (hf : (f (s.row r)).cores.length = (s.row r).cores.length) :
    HasCore (s.modRow r f) r c :=
  ⟨(modRow_rows_length f).symm ▸ h.1, by rw [row_modRow_self h.1, hf]; exact h.2⟩

theorem hasCore_modCore (h : HasCore s r c) (j : Nat) (f : Core → Core) : HasCore (s.modCore r j f) r c :=
  hasCore_modRow h (List.length_modify ..)

theorem core_of_rows (e : t.rows = s.rows) (r c : Nat) : t.core r c = s.core r c := congrArg (fun w : Row => nth w.cores c) (row_of_rows e r)

theorem core_modCore (h : HasCore s r c) (f : Core → Core) : (s.modCore r c f).core r c = f (s.core r c) := by
  rw [State.core, row_modCore h.1]
  exact nth_modify_self f h.2

theorem core_modCore_of_ne (hr : r < s.rows.length) {j : Nat} (h : j ≠ c) (f : Core → Core) : (s.modCore r c f).core r j = s.core r j := by
  rw [State.core, row_modCore hr]
  exact nth_modify_of_ne _ f h

/-- What an update leaves of the row's cores, it leaves of each core. -/
theorem core_modRow (hr : r < s.rows.length) {f : Row → Row} (hf : (f (s.row r)).cores = (s.row r).cores) (j : Nat) :
    (s.modRow r f).core r j = s.core r j := by
  rw [State.core, row_modRow_self hr, hf, State.core]

theorem modify_congr {α : Type} [Inhabited α] {l : List α} {i : Nat} {f g : α → α} (h : f (nth l i) = g (nth l i)) :
    l.modify i f = l.modify i g := by
  induction l generalizing i with
  | nil => simp
  | cons x l ih =>
    cases i with
    | zero => simpa [nth] using h
    | succ i => simpa using ih (by simpa [nth] using h)

/-! Two updates of a row, or of a core, are one when they agree on it as it is. -/

theorem modRow_congr {f g : Row → Row} (h : f (s.row r) = g (s.row r)) : s.modRow r f = s.modRow r g :=
  congrArg (fun l => s.modRows fun _ => l) (modify_congr h)

theorem modCore_congr {f g : Core → Core} (h : f (s.core r c) = g (s.core r c)) : s.modCore r c f = s.modCore r c g := by
  have cores : (s.row r).cores.modify c f = (s.row r).cores.modify c g := modify_congr h
  exact modRow_congr (by simp only [cores])

theorem modCore_modCore (f g : Core → Core) : (s.modCore r c f).modCore r c g = s.modCore r c (g ∘ f) := by
  simp only [State.modCore, State.modRow, State.modRows, List.modify_modify_eq]
  congr 2
  funext w
  simp [List.modify_modify_eq]

@[simp] theorem rowsBut_modCore (j : Nat) (f : Core → Core) : RowsBut r s0 (s.modCore r j f) ↔ RowsBut r s0 s := rowsBut_modRow _

/-! A write of an integer register (10 R242). -/

theorem xr_setX_self (x : Core) {rd : Nat} (v : Nat) (h0 : rd ≠ 0) (hl : rd < x.x.length) : (x.setX rd v).xr rd = BitVec.ofNat 64 v := by
  simp [Core.setX, Core.xr, nth, h0, hl]

theorem xr_setX_of_ne (x : Core) {rd k : Nat} (v : Nat) (hk : k ≠ rd) : (x.setX rd v).xr k = x.xr k := by
  unfold Core.setX
  split
  · rfl
  · simp only [Core.xr, nth_set_of_ne _ _ hk]

section
variable (x : Core) (rd v : Nat)

/-- A write of a register changes the registers alone. -/
theorem setX_eq : ∃ l, x.setX rd v = { x with x := l } := by
  unfold Core.setX
  split
  · exact ⟨x.x, rfl⟩
  · exact ⟨_, rfl⟩

@[simp] theorem setX_st : (x.setX rd v).st = x.st := by obtain ⟨l, e⟩ := setX_eq x rd v; rw [e]
@[simp] theorem setX_pc : (x.setX rd v).pc = x.pc := by obtain ⟨l, e⟩ := setX_eq x rd v; rw [e]
@[simp] theorem setX_wait : (x.setX rd v).wait = x.wait := by obtain ⟨l, e⟩ := setX_eq x rd v; rw [e]
@[simp] theorem setX_period : (x.setX rd v).period = x.period := by obtain ⟨l, e⟩ := setX_eq x rd v; rw [e]
end

/-! An instruction of a core that goes (10 R257; 04 R105). -/

theorem CoreGo.hasCore (h : CoreGo s r c) : HasCore s r c := by
  obtain ⟨-, -, hr, hc⟩ := h
  exact ⟨hr, hc⟩

theorem startWake_of_active (h : (s.row r).st = .active) : startWake r s = s := by
  simp [startWake, h]

theorem atCore_goes (h : CoreGo s r c) (f : State → Ran) : atCore r c f s = .next ((f s).finish r c) := by
  obtain ⟨runs, active, -⟩ := h
  rw [atCore, if_pos runs, startWake_of_active active]

theorem atCore_done (h : CoreGo s r c) {f : State → Ran} (hf : f s = .done t) : atCore r c f s = .next t := by
  rw [atCore_goes h, hf]
  rfl

theorem atCore_trap (h : CoreGo s r c) {f : State → Ran} {cause tval : Nat} (hf : f s = .trap cause tval t) :
    atCore r c f s = .next (t.modCore r c (fun x => x.trap cause tval)) := by
  rw [atCore_goes h, hf]
  rfl

theorem atCore_idle (h : coreRuns s r c = false) (f : State → Ran) : atCore r c f s = .next s := if_neg (by simp [h])

/-- A module at tick 1 whose rows run, each with x for its core 0. -/
def rowsRunning (x : Core) : State := { State.reset with
  clk := { tb := 1 }
  rows := List.replicate 12 { st := .active, cores := [x], banks := List.replicate 40 { st := .on } }
  dmap := { rows := List.replicate 12 { prmSlots := [some 0] } } }

end Sys2Proof.Machine
end

section
/-! PROOFS. The register custom instructions (10 R246, R251, R253, R254, R259). -/

namespace Sys2Proof.Machine

variable {s : State} {r c rd rs1 rs2 rs3 : Nat}

/-! What the instructions compute, from their words (10, Table 10.3). -/

section
variable (hd : rd < 32) (h1 : rs1 < 32) (h2 : rs2 < 32)
include hd h1 h2

/-- An R-type word is made of its fields. -/
theorem encR_fields {op f3 : Nat} (ho : op < 128) (h3 : f3 < 8) (f7 : Nat) : rvOp (encR op f3 f7 rd rs1 rs2) = op
    ∧ rvRd (encR op f3 f7 rd rs1 rs2) = rd ∧ rvF3 (encR op f3 f7 rd rs1 rs2) = f3 ∧ rvRs1 (encR op f3 f7 rd rs1 rs2) = rs1
    ∧ rvRs2 (encR op f3 f7 rd rs1 rs2) = rs2 ∧ encR op f3 f7 rd rs1 rs2 / 2 ^ 25 = f7 := by
  simp only [rvOp, rvRd, rvF3, rvRs1, rvRs2, bits, encR]
  omega

theorem doCustom_bound {f3 : Nat} (h3 : f3 < 3) : doCustom r c (encR 0x2B f3 0 rd rs1 rs2) s
    = .done (retire r c rd (boundOp f3 ((s.core r c).xr rs1).toNat ((s.core r c).xr rs2).toNat 0) 4 s) := by
  obtain ⟨eo, ed, e3, e1, e2, top⟩ := encR_fields hd h1 h2 (op := 0x2B) (f3 := f3) (by decide) (by omega) 0
  have e7 : rvF7 (encR 0x2B f3 0 rd rs1 rs2) = 0 := by rw [rvF7, bits, top]; rfl
  simp [doCustom, eo, ed, e3, e1, e2, e7, h3]

theorem doCustom_blin (h3 : rs3 < 32) : doCustom r c (encR 0x2B 3 (4 * rs3) rd rs1 rs2) s
    = .done (retire r c rd (boundOp 3 ((s.core r c).xr rs1).toNat ((s.core r c).xr rs2).toNat ((s.core r c).xr rs3).toNat) 4 s) := by
  obtain ⟨eo, ed, e3, e1, e2, top⟩ := encR_fields hd h1 h2 (op := 0x2B) (f3 := 3) (by decide) (by decide) (4 * rs3)
  have f2 : bits (encR 0x2B 3 (4 * rs3) rd rs1 rs2) 25 2 = 0 := by rw [bits, top]; omega
  have er3 : rvRs3 (encR 0x2B 3 (4 * rs3) rd rs1 rs2) = rs3 := by simp only [rvRs3, bits]; omega
  simp [doCustom, eo, ed, e3, e1, e2, f2, er3]

theorem doCustom_fhash (h3 : rs3 < 32) {fn : Nat} (hf : fn < 3) : doCustom r c (encR 0x2B 4 (4 * rs3 + fn) rd rs1 rs2) s
    = .done (retire r c rd (fhash fn ((s.core r c).xr rs1).toNat ((s.core r c).xr rs2).toNat ((s.core r c).xr rs3).toNat) 4 s) := by
  obtain ⟨eo, ed, e3, e1, e2, top⟩ := encR_fields hd h1 h2 (op := 0x2B) (f3 := 4) (by decide) (by decide) (4 * rs3 + fn)
  have f2 : bits (encR 0x2B 4 (4 * rs3 + fn) rd rs1 rs2) 25 2 = fn := by rw [bits, top]; omega
  have er3 : rvRs3 (encR 0x2B 4 (4 * rs3 + fn) rd rs1 rs2) = rs3 := by simp only [rvRs3, bits]; omega
  simp [doCustom, eo, ed, e3, e1, e2, f2, er3, Nat.ne_of_lt hf]

end

theorem doCustom_wdkick : doCustom r c 0x500B s = .done (s.modCore r c (fun x => (x.kick s.tb).adv 4)) := rfl

/-- Settles O19: a core that goes finds the state as it is, and each instruction's word gives back the registers it was made of. -/
theorem customInstructionsWriteRd : Obligations.CustomInstructionsWriteRd := by
  refine ⟨fun x rd v k hl hd => ?write, fun s r c rd rs1 rs2 rs3 go hd h1 h2 h3 => ?go,
    fun s r c rd rs1 rs2 idle => ⟨atCore_idle idle _, atCore_idle idle _⟩⟩
  case write =>
    split
    · next h0 => exact if_pos h0
    · next h0 =>
      split
      · next e => subst e; exact xr_setX_self x v h0 (hl ▸ hd)
      · next ne => exact xr_setX_of_ne x v ne
  case go =>
    exact ⟨atCore_done go (doCustom_bound hd h1 h2 (by decide)), atCore_done go (doCustom_bound hd h1 h2 (by decide)),
      atCore_done go (doCustom_bound hd h1 h2 (by decide)), atCore_done go (doCustom_blin hd h1 h2 h3),
      fun fn hf => atCore_done go (doCustom_fhash hd h1 h2 h3 hf), atCore_done go doCustom_wdkick,
      fun hit => atCore_done go (if_pos hit), fun miss => atCore_done go (if_neg (by simpa using miss))⟩

/-! Bound arithmetic (10 R253). -/

/-- A register number past 31 runs over into the next field of the word. -/
theorem execBadd_rs1_over (r c rd rs1 rs2 : Nat) (s : State) : execBadd r c rd (rs1 + 32) rs2 s = execBadd r c rd rs1 (rs2 + 1) s := by
  have word : encR 0x2B 0 0 rd (rs1 + 32) rs2 = encR 0x2B 0 0 rd rs1 (rs2 + 1) := by simp only [encR]; omega
  rw [execBadd, word, execBadd]

/-- A core that runs with 1.0 in x1. -/
def oneInX1 : Core := { st := .running, x := (List.replicate 32 0).set 1 0x3F80 }

/-- Refutes O20: the last clause puts no bound on rs1, rs2 and rs3, and BADD of x32 and x0 has the word of BADD of x0 and x1. Where
x1 holds 1.0 the two cannot both be the sum of their operands. -/
theorem not_boundArithmeticRoundsUp : ¬ Obligations.BoundArithmeticRoundsUp := by
  rintro ⟨-, -, -, writes⟩
  have go : CoreGo (rowsRunning oneInX1) 0 0 := by decide
  obtain ⟨⟨t, past, sum32, -⟩, -⟩ := writes (rowsRunning oneInX1) 0 0 2 32 0 0 go (by decide) (by decide) (by decide)
  obtain ⟨⟨u, within, sum1, -⟩, -⟩ := writes (rowsRunning oneInX1) 0 0 2 0 1 0 go (by decide) (by decide) (by decide)
  obtain rfl : t = u := Host.Outcome.next.inj (past.symm.trans ((execBadd_rs1_over 0 0 2 0 0 _).trans within))
  exact absurd (sum32.symm.trans sum1) (by decide +kernel)

end Sys2Proof.Machine
end

section
/-! PROOFS. Rings and waits at a core (10 R247 to R252; 11 R269; 15 R427). -/

namespace Sys2Proof.Machine

variable {s t : State} {r c rd a b n k : Nat} {g : RqRing}

/-! A ring after an update of one of them. -/

theorem mget_mmod {α : Type} (m : List (Nat × α)) (k j : Nat) (f : α → α) :
    mget (mmod m k f) j = if j = k then (mget m j).map f else mget m j := by
  induction m with
  | nil => simp [mmod, mget]
  | cons d m ih =>
    obtain ⟨i, v⟩ := d
    unfold mmod at ih
    by_cases e : i = j
    · by_cases hk : j = k <;> simp [mmod, mget, e, hk]
    · by_cases hk : i = k
      · subst hk
        simp [mmod, mget, e, Ne.symm e, ih]
      · simp [mmod, mget, e, hk, ih]

theorem ring_of_rings (e : t.rings.rings = s.rings.rings) (n : Nat) : t.ring n = s.ring n := congrArg (mget · n) e

theorem ring_modRing (s : State) (k n : Nat) (f : RqRing → RqRing) :
    (s.modRing k f).ring n = if n = k then (s.ring n).map f else s.ring n := mget_mmod ..

/-! RPOP (10 R247; 15 R427). -/

/-- A ring whose head is to be delivered loses no entry to the engine (18 R489). -/
theorem purgeHead_of_delivered (hg : s.ring n = some g) (he : entryEnds s (memRead s (g.rqAddr g.ci) 64) = none) (k : Nat) :
    purgeHead k n s = s := by
  cases k with
  | zero => rfl
  | succ k => simp [purgeHead, hg, he]

theorem popEntry_entry : (popEntry n c g s).1 = memRead s (g.rqAddr g.ci) 64 := by
  simp only [popEntry]
  split <;> rfl

theorem popEntry_keeps : Keeps [.rings, .gw] s (popEntry n c g s).2 := by simp

theorem popEntry_ring (hg : s.ring n = some g) :
    ∃ q, (popEntry n c g s).2.ring n = some { g with ci := (g.ci + 1) % 65536, out := g.out ++ [q] } := by
  have rings : ∃ q, (popEntry n c g s).2.rings = (s.modRing n (fun g => { g with ci := (g.ci + 1) % 65536, out := g.out ++ [q] })).rings := by
    simp only [popEntry]
    split <;> exact ⟨_, rfl⟩
  obtain ⟨q, e⟩ := rings
  exact ⟨q, by rw [ring_of_rings (congrArg _ e), ring_modRing, if_pos rfl, hg]; rfl⟩

/-- The core that has popped e from ring n, with the ring's number and the entries left in rd. -/
def popped (x : Core) (rd b n left : Nat) (e : List Byte) : Core :=
  ({ x.lwrite b e with lastRing := n }.setX rd (2 ^ 16 * n + 2 ^ 32 * (left % 2 ^ 12))).adv 4

section
variable (aligned : b % 64 = 0) (fits : b + 64 ≤ 0x40000)
include aligned fits

theorem doRpop_takes (ha : a < 65536) (hg : s.ring a = some g) (assigned : ringAssigned g r c = true) (holds : ringHolds s g = true)
    (he : entryEnds s (memRead s (g.rqAddr g.ci) 64) = none) : doRpop r c rd a b s
      = .done ((popEntry a c g s).2.modCore r c (fun x => popped x rd b a (g.count - 1) (popEntry a c g s).1)) := by
  have head : (if s.rings.up = true then purgeHead g.count a s else s) = s := by rw [purgeHead_of_delivered hg he, ite_self]
  have small : a ≠ 0xFFFFFFFF := by omega
  simp only [doRpop, if_neg (not_not.2 aligned), if_neg (Nat.not_lt.2 fits), if_neg small, if_pos ha, hg, assigned, if_true, head, holds]
  have low : a % 2 ^ 16 = a := Nat.mod_eq_of_lt ha
  rw [retire, modCore_modCore, low]
  simp [popped, Function.comp_def, Code.val]

theorem doRpop_selects_none (ha : a = 0xFFFFFFFF) (unassigned : ∀ p ∈ s.rings.rings, ringAssigned p.2 r c = false) :
    doRpop r c rd a b s = .done (retire r c rd (Code.ringEmpty.val + 2 ^ 16 * (s.draw.1 % 2 ^ 16)) 4 s.draw.2) := by
  have assigned : s.rings.rings.filter (fun p => ringAssigned p.2 r c) = [] := List.filter_eq_nil_iff.2 (by simpa using unassigned)
  have ready : s.rings.rings.filter (fun p => ringAssigned p.2 r c && ringHolds s p.2) = [] :=
    List.filter_eq_nil_iff.2 fun p hp => by simp [unassigned p hp]
  simp only [doRpop, if_neg (not_not.2 aligned), if_neg (Nat.not_lt.2 fits), if_pos ha, assigned]
  simp [each, nextRing, ready]

end

/-! RPUSH (10 R249; 17 R467). -/

section
variable (fits : b + 64 ≤ 0x40000) (ha : a < 65536) (hg : s.ring a = some g)
include fits ha hg

theorem doRpush_refused (other : ringAssigned g r c = false) :
    doRpush r c rd a b s = .done (retire r c rd Code.ringNotOwned.val 4 s) := by
  simp [doRpush, Nat.not_lt.2 fits, ha, hg, other]

theorem doRpush_held (assigned : ringAssigned g r c = true) (tainted : (s.core r c).taint ≠ []) : doRpush r c rd a b s
    = .done (s.modCore r c (fun x => { x with heldPush := some (a, lread (s.core r c) b 64, rd) })) := by
  simp [doRpush, Nat.not_lt.2 fits, ha, hg, assigned, tainted]

end

/-! SRESV (10 R250; 11 R269). -/

/-- The request that an SRESV with a in rs1 makes. -/
def sresvReq (s : State) (c a : Nat) : ScbReq := { owner := ownPrm c, ranges := [(srLine a, srLen a, srWr a)], tb := s.tb }

/-- The row once the request has been granted (11 R268; 17 R463). -/
def sresvGranted (s : State) (c a : Nat) (w : Row) : Row := clearPoisoned (srLine a, srLen a, srWr a) (scbEnter s.tb (sresvReq s c a) w)

/-- The row once the request waits (11 R269, R287). -/
def sresvPending (s : State) (c a : Nat) (w : Row) : Row := (scbRequest s.tb (sresvReq s c a) w).2

theorem clearPoisoned_cores (x : Nat × Nat × Bool) (w : Row) : (clearPoisoned x w).cores = w.cores := by
  unfold clearPoisoned
  split <;> rfl

theorem scbRequest_wait {w : Row} {tb : Nat} {q : ScbReq} (hv : scbVerdict w w.scbPend q = .wait) : (scbRequest tb q w).1 = .wait
    ∧ (scbRequest tb q w).2.cores = w.cores ∧ (scbRequest tb q w).2.scb = w.scb ∧ (scbRequest tb q w).2.scbPend = w.scbPend ++ [q] := by
  simp [scbRequest, hv, wakeBanks]

section
variable (legal : srIllegal a = false)
include legal

theorem doSresv_grants (hv : scbVerdict (s.row r) (s.row r).scbPend (sresvReq s c a) = .grant) :
    doSresv r c rd a b s = .done (retire r c rd Code.ok.val 4 (s.modRow r (sresvGranted s c a))) := by
  have same : s.modRow r (fun _ => sresvGranted s c a (s.row r)) = s.modRow r (sresvGranted s c a) := modRow_congr rfl
  have verdict := scbRequest_grant (tb := s.tb) hv
  rw [sresvReq] at verdict
  simp [doSresv, legal, verdict, ← same, sresvGranted, sresvReq]

theorem doSresv_waits (hb : s.tb < b) (hv : scbVerdict (s.row r) (s.row r).scbPend (sresvReq s c a) = .wait) : doSresv r c rd a b s
    = .done ((s.modRow r (sresvPending s c a)).modCore r c (fun x =>
        { x with st := .waiting, wait := some { isTb := false, untilTb := b, rd := rd } }.adv 4)) := by
  have same : s.modRow r (fun _ => sresvPending s c a (s.row r)) = s.modRow r (sresvPending s c a) := modRow_congr rfl
  have verdict : scbRequest s.tb (sresvReq s c a) (s.row r) = (.wait, sresvPending s c a (s.row r)) := Prod.ext (scbRequest_wait hv).1 rfl
  rw [sresvReq] at verdict
  simp [doSresv, legal, verdict, ← same, Nat.not_le.2 hb]

end

/-! TBWAIT (10 R252, R259). -/

theorem doTbwait_ends {w : Nat} (hb : b ≤ 1) (reached : a ≤ s.tb) : doTbwait r c rd a b w s
    = .done (s.modCore r c (fun x => { (x.setX rd (tbwaitVal s r c)).adv 4 with wdAt := s.tb + 1000 * x.period })) := by
  have kicked : (fun x => { (x.setX rd (tbwaitVal s r c)).adv 4 with wdAt := s.tb + 1000 * x.period })
      = (fun x => x.kick s.tb) ∘ (fun x : Core => (x.setX rd (tbwaitVal s r c)).adv 4) := by
    funext x
    simp [Core.kick, Core.adv]
  rw [doTbwait, if_neg (Nat.not_lt.2 hb), if_pos (.inl reached), retire, modCore_modCore, kicked]

theorem doTbwait_waits {w : Nat} (hb : b = 0) (later : s.tb < a) : doTbwait r c rd a b w s = .done (s.modCore r c (fun x => { x with
    st := .waiting, wdLeft := x.wdAt - s.tb, wait := some { isTb := true, untilTb := a, ring := false, rd := rd }, pc := x.pc + 4 })) := by
  subst hb
  rw [doTbwait, if_neg (by decide), if_neg (by simp [later])]
  rfl

/-- Settles O21: a core that goes finds the state as it is, and what each instruction then does is one of its cases. -/
theorem ringAndWaitInstructions : Obligations.RingAndWaitInstructions := by
  intro s r c rd rs1 rs2 go hd x a b
  have core : HasCore s r c := go.hasCore
  refine ⟨fun g ha hg assigned holds aligned fits delivered => ?pop,
    fun ha unassigned aligned fits => atCore_done go (doRpop_selects_none aligned fits ha unassigned),
    fun misaligned => atCore_trap go (if_pos misaligned), fun g ha hg other fits => atCore_done go (doRpush_refused fits ha hg other),
    fun g ha hg assigned tainted fits => ?held, fun illegal => atCore_done go (if_pos illegal), fun legal grant => ?grant,
    fun legal hb wait => ?wait, fun hb => atCore_trap go (if_pos hb), fun hb reached => atCore_done go (doTbwait_ends hb reached),
    fun hb later => atCore_done go (doTbwait_waits hb later)⟩
  case pop =>
    have rows : (popEntry a c g s).2.rows = s.rows := popEntry_keeps .rows (by decide)
    obtain ⟨q, ring⟩ := popEntry_ring (c := c) hg
    refine ⟨_, atCore_done go (doRpop_takes aligned fits ha hg assigned holds delivered), ?_, ?_, ?_, ?_⟩
    · rw [core_modCore (by rwa [HasCore, State.row, rows]), core_of_rows rows, popEntry_entry]
      rfl
    · exact congrArg (Option.map _) ring
    · exact (congrArg (Option.map _) ring).trans (by simp)
    · simp
  case held =>
    exact (atCore_done go (doRpush_held fits ha hg assigned tainted)).trans (congrArg _ (modCore_congr rfl))
  case grant =>
    have cores : (sresvGranted s c a (s.row r)).cores = (s.row r).cores := clearPoisoned_cores ..
    refine ⟨_, atCore_done go (doSresv_grants legal grant), ?_, ?_, by simp [retire], by simp [retire]⟩
    · rw [retire, core_modCore (hasCore_modRow core (congrArg _ cores)), core_modRow core.1 cores]
    · rw [retire, row_modCore (hasCore_modRow core (congrArg _ cores)).1, row_modRow_self core.1]
      exact clearPoisoned_scb ..
  case wait =>
    obtain ⟨-, cores, scb, pend⟩ := scbRequest_wait (tb := s.tb) wait
    have grown : HasCore (s.modRow r (sresvPending s c a)) r c := hasCore_modRow core (congrArg _ cores)
    refine ⟨_, atCore_done go (doSresv_waits legal hb wait), ?_, ?_, ?_, ?_, by simp⟩
    · rw [core_modCore grown]; rfl
    · rw [core_modCore grown]; rfl
    · rw [row_modCore grown.1, row_modRow_self core.1]
      simp [sresvPending, sresvReq, pend]
    · rw [row_modCore grown.1, row_modRow_self core.1]
      exact scb

end Sys2Proof.Machine
end

section
/-! PROOFS. What ends a wait and what halts a core (10 R250, R252, R259, R261). -/

namespace Sys2Proof.Machine

variable {s t : State} {r c : Nat} {w : CoreWait}

/-! SRESV_DEADLINE (10 R250). -/

/-- The requests of core c are withdrawn from the row's scoreboard. -/
def withdrawn (c : Nat) (x : Row) : Row := { x with scbPend := x.scbPend.filter (·.owner != ownPrm c) }

theorem withdrawn_owner (c : Nat) (x : Row) : ∀ q ∈ (withdrawn c x).scbPend, q.owner ≠ ownPrm c := by
  simp [withdrawn]

theorem core_endSresv (h : HasCore s r c) (hw : (s.core r c).wait = some w) (kind : w.isTb = false) (k : Code) :
    (endSresv r c k s).core r c = { s.core r c with wait := none, st := .running }.setX w.rd k.val := by
  rw [endSresv, core_modCore h]
  simp [hw, kind]

theorem execSresvDeadline_due (hw : (s.core r c).wait = some w) (kind : w.isTb = false) (due : w.untilTb ≤ s.tb) :
    execSresvDeadline r c s = .next (endSresv r c (sresvLate (s.row r)) (s.modRow r (withdrawn c))) := by
  simp only [execSresvDeadline, hw]
  exact if_pos ⟨kind, due⟩

/-! TBWAIT_END (10 R252, R259). -/

theorem startWake_rows (r : Nat) (s : State) : ∃ f : Row → Row, (startWake r s).rows = s.rows.modify r f ∧ ∀ x, (f x).cores = x.cores := by
  have same : s.rows = s.rows.modify r id := (List.modify_id ..).symm
  unfold startWake
  split
  · exact ⟨id, same, fun _ => rfl⟩
  · split
    · exact ⟨_, rfl, fun _ => rfl⟩
    · exact ⟨_, rfl, fun _ => rfl⟩
    · exact ⟨_, joinQueue_rows .., fun _ => rfl⟩
    · exact ⟨_, joinQueue_rows .., fun _ => rfl⟩
    · exact ⟨id, same, fun _ => rfl⟩

/-- The wake of a row is nothing of its cores. -/
theorem startWake_core (h : HasCore s r c) : HasCore (startWake r s) r c ∧ (startWake r s).core r c = s.core r c := by
  obtain ⟨f, rows, cores⟩ := startWake_rows r s
  have e : (startWake r s).rows = (s.modRow r f).rows := rows
  rw [core_of_rows e, core_modRow h.1 (cores _), HasCore, e, row_of_rows e]
  exact ⟨hasCore_modRow h (congrArg _ (cores _)), rfl⟩

/-- The core that a TBWAIT has ended for, with its status v in rd. -/
def tbwaitOver (s : State) (w : CoreWait) (v : Nat) (x : Core) : Core := ({ x with wait := none, st := .running }.setX w.rd v).kick s.tb

theorem execTbwaitEnd_due (hw : (s.core r c).wait = some w) (kind : w.isTb = true) (runs : rowRuns s r = true) (due : w.untilTb ≤ s.tb) :
    execTbwaitEnd r c s = .next ((startWake r s).modCore r c (tbwaitOver s w (tbwaitVal s r c))) := by
  simp only [execTbwaitEnd, hw]
  exact if_pos ⟨kind, runs, .inl due⟩

theorem waits_until_tick (hw : (s.core r c).wait = some w) (early : s.tb < w.untilTb) (ring : w.ring = false) :
    execSresvDeadline r c s = .next s ∧ execTbwaitEnd r c s = .next s := by
  simp [execSresvDeadline, execTbwaitEnd, hw, Nat.not_le.2 early, ring]

/-! PRM_WATCHDOG_EXPIRY and halts (10 R259, R260). -/

/-- A halted core. -/
def haltedCore (k : Code) (x : Core) : Core := { x with st := .halted, hcode := k.val, wait := none, mem := none }

section
variable (k : Code)

theorem haltCore_rows (s : State) : (haltCore r c k s).rows = ((s.modRow r (withdrawn c)).modCore r c (haltedCore k)).rows :=
  errRecord_rows ..

theorem core_haltCore (h : HasCore s r c) : (haltCore r c k s).core r c = haltedCore k (s.core r c) := by
  rw [core_of_rows (haltCore_rows k s), core_modCore (hasCore_modRow h rfl), core_modRow h.1 rfl]

theorem core_haltCore_of_ne (hr : r < s.rows.length) {j : Nat} (h : j ≠ c) : (haltCore r c k s).core r j = s.core r j := by
  rw [core_of_rows (haltCore_rows k s), core_modCore_of_ne (by rwa [modRow_rows_length]) h, core_modRow hr rfl]

theorem row_haltCore (hr : r < s.rows.length) : (haltCore r c k s).row r
    = { withdrawn c (s.row r) with cores := (s.row r).cores.modify c (haltedCore k) } := by
  rw [row_of_rows (haltCore_rows k s), row_modCore (by rwa [modRow_rows_length]), row_modRow_self hr]
  rfl

@[simp] theorem rowsBut_haltCore {s0 : State} : RowsBut r s0 (haltCore r c k s) ↔ RowsBut r s0 s := by
  rw [rowsBut_of_rows (haltCore_rows k s)]
  simp

end

theorem execPrmWatchdogExpiry_due (running : (s.core r c).st = .running) (due : (s.core r c).wdAt ≤ s.tb) :
    execPrmWatchdogExpiry r c s = .next (haltCore r c .prmWatchdog (s.modCore r c (fun x => { x with wdog := true }))) :=
  if_pos ⟨.inl running, due⟩

theorem execPrmWatchdogExpiry_idle (h : (s.core r c).st = .waiting ∧ (s.core r c).wait.any (·.isTb) = true ∨ s.tb < (s.core r c).wdAt) :
    execPrmWatchdogExpiry r c s = .next s := by
  refine if_neg ?_
  rintro ⟨counts, due⟩
  obtain ⟨waiting, tb⟩ | early := h
  · simp [waiting, tb] at counts
  · exact absurd due (Nat.not_le.2 early)

/-! HALTED_CORE_REQUESTS_END (10 R261): an error completion changes nothing of the outstanding requests. -/

/-- The outstanding requests of ring n. -/
def outOf (s : State) (n : Nat) : Option (List Req) := (s.ring n).map (·.out)

theorem outOf_of_rings (e : t.rings = s.rings) (n : Nat) : outOf t n = outOf s n := by
  rw [outOf, ring_of_rings (congrArg _ e), outOf]

theorem outOf_modRing (s : State) (k n : Nat) {f : RqRing → RqRing} (hf : ∀ g, (f g).out = g.out) : outOf (s.modRing k f) n = outOf s n := by
  rw [outOf, ring_modRing, outOf]
  split
  · simp [Function.comp_def, hf]
  · rfl

theorem mbxWrite_rings (k : Nat) (msg : List Byte) (sid : Nat) (s : State) : (mbxWrite k msg sid s).2.rings = s.rings :=
  (keeps_mbxWrite k msg sid s (List.Subset.refl _)).2 Keeps.rfl' .rings (by decide)

theorem chaviSend_rings (p : ChaviOut) (s : State) : (chaviSend p s).rings = s.rings :=
  (keeps_chaviSend p s (List.Subset.refl _)).2 Keeps.rfl' .rings (by decide)

theorem errRecord_rings (x : Rec) (s : State) : (errRecord x s).rings = s.rings := errRecord_keeps x s .rings (by decide)

theorem writeCpl_outOf (k : Nat) (e : List Byte) (s : State) (n : Nat) : outOf (writeCpl k e s) n = outOf s n := by
  unfold writeCpl
  split
  · rfl
  · next g _ =>
    have written : outOf (if accessCode s true (g.cqAddr g.cpi) 64 = .ok then memWrite s (g.cqAddr g.cpi) (stampCpl g s.tb e) else s) n
        = outOf s n := by split <;> rfl
    dsimp only
    split
    · rw [outOf_of_rings (chaviSend_rings ..), outOf_modRing, written]
      exact fun _ => rfl
    · rw [outOf_modRing, written]
      exact fun _ => rfl

theorem deliverCpl_outOf (k : Nat) (g : RqRing) (e : List Byte) (st : Nat) (s : State) (n : Nat) :
    outOf (deliverCpl k g e st s).2 n = outOf s n := by
  unfold deliverCpl
  split
  · split
    · rfl
    · exact outOf_of_rings (mbxWrite_rings ..) n
  · split
    · rfl
    · exact writeCpl_outOf ..

theorem postDevice_outOf (k : Nat) (e : List Byte) (st : Nat) (s : State) (n : Nat) : outOf (postDevice k e st s) n = outOf s n := by
  unfold postDevice
  split
  · rfl
  · next g _ =>
    have delivered := deliverCpl_outOf k g e st s n
    have held : outOf (s.modRing k (fun g => { g with held := g.held ++ [(e, st)] })) n = outOf s n := outOf_modRing _ _ _ fun _ => rfl
    dsimp only
    split
    · rfl
    · split
      · exact held
      · split
        · next d => rwa [d] at delivered
        · exact held
        · exact outOf_of_rings (errRecord_rings ..) n

theorem endRequests_outOf (k : Nat) (p : Req → Bool) (code : Code) (s : State) (n : Nat) : outOf (endRequests k p code s) n
    = if n = k then (outOf s n).map (List.filter (fun q => !p q)) else outOf s n := by
  unfold endRequests
  split
  · next absent =>
    split
    · next e => simp [outOf, e, absent]
    · rfl
  · next g _ =>
    refine (each_fixed _ (outOf · n) (fun _ _ => postDevice_outOf ..) _).trans ?_
    rw [outOf, ring_modRing, outOf]
    split
    · simp [Function.comp_def]
    · rfl

theorem each_endRequests_outOf (l : List (Nat × RqRing)) (p : Req → Bool) (code : Code) {n : Nat} {o : List Req} (ho : outOf s n = some o)
    (hn : (∃ g, (n, g) ∈ l) ∨ o.filter (fun q => !p q) = o) :
    outOf (each l (fun x => endRequests x.1 p code) s) n = some (o.filter (fun q => !p q)) := by
  induction l generalizing s o with
  | nil =>
    obtain ⟨g, h⟩ | done := hn
    · exact absurd h List.not_mem_nil
    · rw [done]; exact ho
  | cons x l ih =>
    have step := endRequests_outOf x.1 p code s n
    by_cases e : n = x.1
    · rw [if_pos e, ho] at step
      refine (ih step (.inr ?_)).trans ?_ <;> simp
    · rw [if_neg e, ho] at step
      refine ih step (hn.imp_left ?_)
      rintro ⟨g, h⟩
      obtain h | h := List.mem_cons.1 h
      · exact absurd (congrArg Prod.fst h) e
      · exact ⟨g, h⟩

theorem endRequests_rows (k : Nat) (p : Req → Bool) (code : Code) (s : State) : (endRequests k p code s).rows = s.rows :=
  (keeps_endRequests k p code s (List.Subset.refl _)).2 Keeps.rfl' .rows (by decide)

theorem mem_of_mget {α : Type} {m : List (Nat × α)} {k : Nat} {v : α} (h : mget m k = some v) : (k, v) ∈ m := by
  induction m with
  | nil => simp [mget] at h
  | cons d m ih =>
    obtain ⟨i, x⟩ := d
    unfold mget at h
    split at h
    · next e =>
      cases h
      exact e ▸ List.mem_cons_self
    · exact List.mem_cons_of_mem _ (ih h)

/-- The rings of row r, whose requests of core c end. -/
def ringsOf (s : State) (r : Nat) : List (Nat × RqRing) := s.rings.rings.filter (fun p => p.2.owner == r)

theorem execHaltedCoreRequestsEnd_ends (halted : (s.core r c).st = .halted) (up : s.rings.up = true) (free : (s.core r c).heldPush = none) :
    execHaltedCoreRequestsEnd r c s
      = .next (each (ringsOf s r) (fun p => endRequests p.1 (fun q => q.slot == c) (hcodeOf (s.core r c).hcode)) s) := by
  have kept (q : Req) : (some q != none) = true := rfl
  simp [execHaltedCoreRequestsEnd, halted, up, free, ringsOf, kept]

/-- Settles O22: a deadline, a tick and an expiry update one core and withdraw its requests, and an end of requests takes them out of the
row's rings alone. -/
theorem waitsAndWatchdogEnd : Obligations.WaitsAndWatchdogEnd := by
  refine ⟨fun s r c w hr hc hw kind due => ?deadline, fun s r c w hr hc hw kind runs due => ?tick,
    fun s r c w hw early ring => waits_until_tick hw early ring, fun s r c hr hc running due => ?watchdog,
    fun s r c h => execPrmWatchdogExpiry_idle h, fun s r c n g halted up hg owner free => ?requests⟩
  case deadline =>
    have core : (s.modRow r (withdrawn c)).core r c = s.core r c := core_modRow hr rfl c
    have has : HasCore (s.modRow r (withdrawn c)) r c := hasCore_modRow ⟨hr, hc⟩ rfl
    have self := core_endSresv has (core ▸ hw) kind (sresvLate (s.row r))
    have row : (endSresv r c (sresvLate (s.row r)) (s.modRow r (withdrawn c))).row r = _ := row_modCore has.1 c _
    rw [row_modRow_self hr] at row
    refine ⟨_, execSresvDeadline_due hw kind due, by rw [self]; simp, by rw [self]; simp, fun h0 hl => ?_, ?_, by rw [row]; rfl, by simp, ?_⟩
    · rw [self, xr_setX_self _ _ h0 (by rwa [core]), sresvLate, apply_ite Code.val]
    · rw [row]; exact withdrawn_owner c _
    · simp [endSresv]
  case tick =>
    obtain ⟨has, core⟩ := startWake_core (r := r) (c := c) ⟨hr, hc⟩
    have self := core_modCore has (tbwaitOver s w (tbwaitVal s r c))
    rw [core] at self
    refine ⟨_, execTbwaitEnd_due hw kind runs due, ?_, ?_, ?_, ?_, by simp⟩
    all_goals simp [self, tbwaitOver, Core.kick]
  case watchdog =>
    have has : HasCore s r c := ⟨hr, hc⟩
    have has' : HasCore (s.modCore r c (fun x => { x with wdog := true })) r c := hasCore_modCore has c _
    have self := core_haltCore .prmWatchdog has'
    rw [core_modCore has] at self
    have row := row_haltCore (c := c) .prmWatchdog has'.1
    rw [row_modCore hr] at row
    refine ⟨_, execPrmWatchdogExpiry_due running due, by rw [self]; rfl, by rw [self]; rfl, by rw [self]; rfl, ?_, by rw [row]; rfl,
      by rw [self]; rfl, fun k hk => ?_, by simp⟩
    · rw [row]; exact withdrawn_owner c _
    · rw [core_haltCore_of_ne _ has'.1 hk, core_modCore_of_ne hr hk]
  case requests =>
    have out : outOf s n = some g.out := congrArg _ hg
    have mem : (n, g) ∈ ringsOf s r := List.mem_filter.2 ⟨mem_of_mget hg, by simpa using owner⟩
    exact ⟨_, execHaltedCoreRequestsEnd_ends halted up free, each_endRequests_outOf _ _ _ out (.inl ⟨g, mem⟩),
      each_fixed _ State.rows (fun _ _ => endRequests_rows ..) s⟩

end Sys2Proof.Machine
end

section
/-! PROOFS. Memory accesses of a core (10 R244; 11 R287). -/

namespace Sys2Proof.Machine

/-- LD x5, 0(x6). -/
def ldWord : Nat := 0x03 + 2 ^ 7 * 5 + 2 ^ 12 * 3 + 2 ^ 15 * 6

/-- A core whose LD of device address 0, the first line of row 0, is outstanding. -/
def loadsRow0 : Core := { st := .running, x := (List.replicate 32 0).set 6 (BitVec.ofNat 64 (2 ^ 63)),
                          mem := some { word := ldWord, addr := 2 ^ 63 } }

/-- Refutes O23: a load leaves every row but the core's own as it is only if it reads no other row's scratchpad. The core of row 1 loads
from row 0, and the idle time of the bank there starts again at the tick of the access (11 R287). -/
theorem not_primroseExecutesAndAccesses : ¬ Obligations.PrimroseExecutesAndAccesses := by
  rintro ⟨-, -, -, loads, -⟩
  obtain ⟨t, run, -, -, -, -, others⟩ := loads (rowsRunning loadsRow0) 1 0 (2 ^ 63) 8 0 { word := ldWord, addr := 2 ^ 63 }
    (by decide) (by decide) rfl (by decide) (by decide) (by decide) (.inr (by decide)) (by decide +kernel) (by decide +kernel)
  obtain ⟨u, ran, touched⟩ : Runs (fun t => (t.bank 0 0).idleSince = 1) (exec (.primroseMemoryAccess 1 0 0) (rowsRunning loadsRow0)) :=
    ⟨_, rfl, by decide +kernel⟩
  obtain rfl : t = u := Host.Outcome.next.inj (run.symm.trans ran)
  have untouched : (t.bank 0 0).idleSince = 0 := by
    rw [State.bank, others 0 (by decide)]
    rfl
  exact absurd (untouched.symm.trans touched) (by decide)

end Sys2Proof.Machine
end

section
/-! SUPPORT. The scoreboard of a row (11 R268, R269): a grant keeps it free of conflicts between owners, and so does everything that
adds no entry. -/

namespace Sys2Proof.Machine

variable {s t : State} {w v : Row} {r k e tb : Nat} {q : ScbReq}

/-! What is done to the provisional table of a row changes nothing else of it (17 R459, R463). -/

theorem foldl_prov {α : Type} {f : Row → α → Row} (hf : ∀ w x, ∃ p, f w x = { w with prov := p }) (l : List α) (w : Row) :
    ∃ p, l.foldl f w = { w with prov := p } := by
  induction l generalizing w with
  | nil => exact ⟨w.prov, rfl⟩
  | cons x l ih =>
    obtain ⟨p, e⟩ := hf w x
    obtain ⟨p', e'⟩ := ih (f w x)
    exact ⟨p', by rw [List.foldl_cons, e', e]⟩

theorem clearPoisoned_eq (g : Nat × Nat × Bool) (w : Row) : ∃ p, clearPoisoned g w = { w with prov := p } := by
  unfold clearPoisoned
  split
  · exact ⟨_, rfl⟩
  · exact ⟨w.prov, rfl⟩

theorem clearPoisoned_foldl_eq (gs : List (Nat × Nat × Bool)) (w : Row) :
    ∃ p, gs.foldl (fun w g => clearPoisoned g w) w = { w with prov := p } := foldl_prov (fun w g => clearPoisoned_eq g w) gs w

theorem provWrite_eq (taint : List (Nat × Nat)) (bad : Bool) (l n : Nat) (w : Row) : ∃ p, provWrite taint bad l n w = { w with prov := p } := by
  unfold provWrite
  split
  · exact ⟨w.prov, rfl⟩
  · exact ⟨_, rfl⟩

/-! The rule of compatibility (11 R269). -/

theorem rangeOk_comm (a b : Nat × Nat × Bool) : rangeOk a b = rangeOk b a := by
  simp only [rangeOk, rangesOverlap, Bool.and_comm]

/-- What is granted conflicts with no entry. -/
theorem rangeOk_of_grant {older : List ScbReq} (hv : scbVerdict w older q = .grant) {g : Nat × Nat × Bool} (hg : g ∈ q.ranges)
    {x : ScbEntry} (hx : x ∈ w.scb) : rangeOk g x.range = true := by
  unfold scbVerdict at hv
  dsimp only at hv
  split at hv
  · cases hv
  · split at hv
    · split at hv <;> cases hv
    · split at hv
      · cases hv
      · split at hv
        · cases hv
        · split at hv
          · next compatible =>
            simp only [Bool.and_eq_true, List.all_eq_true] at compatible
            exact (compatible g hg).1 x hx
          · cases hv

theorem ScbOk.of_subset (h : ScbOk w) (sub : v.scb ⊆ w.scb) : ScbOk v := fun e he f hf => h e (sub he) f (sub hf)

/-- Entries of one owner that conflict with none there leave the scoreboard free of conflicts between owners. -/
theorem scbOk_scbEnter (h : ScbOk w) (hg : ∀ g ∈ q.ranges, ∀ x ∈ w.scb, rangeOk g x.range = true) : ScbOk (scbEnter tb q w) := by
  have entered {x : ScbEntry} (hx : x ∈ (scbEnter tb q w).scb) : x ∈ w.scb ∨ x.owner = q.owner ∧ x.range ∈ q.ranges := by
    obtain old | new := List.mem_append.1 hx
    · exact .inl old
    · obtain ⟨g, hg, rfl⟩ := List.mem_map.1 new
      exact .inr ⟨rfl, hg⟩
  intro x hx y hy other
  obtain hx | ⟨ox, hx⟩ := entered hx <;> obtain hy | ⟨oy, hy⟩ := entered hy
  · exact h x hx y hy other
  · rw [rangeOk_comm]
    exact hg _ hy x hx
  · exact hg _ hx y hy
  · exact absurd (ox.trans oy.symm) other

theorem scbOk_scbRequest (h : ScbOk w) : ScbOk (scbRequest tb q w).2 := by
  unfold scbRequest
  split
  · exact h
  · next hv => exact scbOk_scbEnter h fun g hg x hx => rangeOk_of_grant hv hg hx
  · exact h

/-! The rows of a module. -/

/-- No row's scoreboard holds a conflict between owners. -/
def Exclusive (s : State) : Prop := ∀ q, ScbOk (s.row q)

theorem Exclusive.of_rows (h : Exclusive s) (e : t.rows = s.rows) : Exclusive t := fun q => by rw [row_of_rows e]; exact h q

theorem Exclusive.modRow (h : Exclusive s) {f : Row → Row} (hf : ScbOk (f (s.row r))) : Exclusive (s.modRow r f) := by
  intro q
  by_cases hr : r < s.rows.length
  · obtain ⟨self, others⟩ := row_of_modify (t := s.modRow r f) rfl hr
    by_cases hq : q = r
    · rw [hq, self]; exact hf
    · rw [others q hq]; exact h q
  · have same : (s.modRow r f).rows = s.rows := List.modify_eq_self (Nat.le_of_not_lt hr)
    rw [row_of_rows same]
    exact h q

theorem Exclusive.modRow_of_scb (h : Exclusive s) {f : Row → Row} (hf : (f (s.row r)).scb ⊆ (s.row r).scb) : Exclusive (s.modRow r f) :=
  h.modRow ((h r).of_subset hf)

theorem Exclusive.modTile {f : Tile → Tile} (h : Exclusive s) : Exclusive (s.modTile r k f) := h.modRow_of_scb fun _ hx => hx
theorem Exclusive.modCore {f : Core → Core} (h : Exclusive s) : Exclusive (s.modCore r k f) := h.modRow_of_scb fun _ hx => hx
theorem Exclusive.modDma {f : Dma → Dma} (h : Exclusive s) : Exclusive (s.modDma r k f) := h.modRow_of_scb fun _ hx => hx

theorem Exclusive.errRecord {x : Rec} (h : Exclusive s) : Exclusive (errRecord x s) := h.of_rows (errRecord_rows x s)

theorem scbFreeOwner_subset (o : Nat) (w : Row) : (scbFreeOwner tb o w).scb ⊆ w.scb := List.filter_subset_self w.scb

/-- What a grant enters into a row, the row's scoreboard takes without a conflict (11 R269; 17 R463). -/
theorem Exclusive.modRow_clearPoisoned (h : Exclusive s) (hw : ScbOk w) (gs : List (Nat × Nat × Bool)) :
    Exclusive (s.modRow r (fun _ => gs.foldl (fun w g => clearPoisoned g w) w)) := by
  obtain ⟨p, e⟩ := clearPoisoned_foldl_eq gs w
  exact h.modRow (by rw [e]; exact hw)

/-! Tiles and cores: a mirror, a halt and a wake add no entry. -/

theorem Exclusive.mirror (h : Exclusive s) : Exclusive (mirror r k s) := by
  obtain e | ⟨f, e⟩ := mirror_cases r k s
  · rwa [e]
  · rw [e]; exact h.modTile

theorem Exclusive.haltOne {c : Code} {fword op detail : Nat} (h : Exclusive s) : Exclusive (haltOne r k c fword op detail s) :=
  (h.modRow_of_scb fun _ hx => hx).modTile.errRecord

theorem Exclusive.haltTile {c : Code} {fword op detail : Nat} (h : Exclusive s) : Exclusive (haltTile r k c fword op detail s) := by
  unfold Machine.haltTile
  split
  · exact h.haltOne.haltOne
  · exact h.haltOne

theorem Exclusive.startWake (h : Exclusive s) : Exclusive (startWake r s) := by
  unfold Machine.startWake
  split
  · exact h
  · split
    · exact h.modRow_of_scb fun _ hx => hx
    · exact h.modRow_of_scb fun _ hx => hx
    · exact (h.modRow_of_scb fun _ hx => hx).of_rows (joinQueue_rows ..)
    · exact (h.modRow_of_scb fun _ hx => hx).of_rows (joinQueue_rows ..)
    · exact h

/-! DMA engines (11 R278, R280). -/

theorem Exclusive.freeEverywhere {o : Nat} (h : Exclusive s) : Exclusive (freeEverywhere o s) := by
  intro q
  by_cases hq : q < s.rows.length
  · rw [row_of_map rfl hq]
    dsimp only
    split
    · exact (h q).of_subset (scbFreeOwner_subset ..)
    · exact h q
  · have out : (Machine.freeEverywhere o s).row q = s.row q := by
      simp only [State.row, Machine.freeEverywhere, State.modRows_rows]
      rw [nth_of_length_le (by simpa using hq), nth_of_length_le (Nat.le_of_not_lt hq)]
    rw [out]
    exact h q

theorem Exclusive.dmaEnd {c : Code} {n : Nat} (h : Exclusive s) : Exclusive (dmaEnd r e c n s) := by
  unfold Machine.dmaEnd
  split
  · exact h
  · exact h.freeEverywhere.modDma

theorem Exclusive.dmaRequest {n : Nat} (h : Exclusive s) : Exclusive (dmaRequest n r e s) := by
  induction n generalizing s with
  | zero => exact h
  | succ n ih =>
    unfold Machine.dmaRequest
    dsimp only
    split
    · exact h
    · next d _ _ =>
      split
      · exact h.modDma
      · next q _ =>
        split
        · exact h
        · split
          · exact h.dmaEnd.errRecord
          · split
            · exact h.dmaEnd.errRecord
            · have placed := scbOk_scbRequest (tb := s.tb) (q := { owner := ownDma r e, ranges := rowRanges d q, tb := s.tb }) (h q)
              split
              · next hv => exact ih (h.modRow_clearPoisoned (by rwa [hv] at placed) _)
              · next hv => exact (h.modRow (by rwa [hv] at placed)).modDma
              · exact h.dmaEnd.errRecord

/-! Ingress agents (11 R291 to R293). -/

theorem ingAnswer_rows (g : Ingress) (c : Code) (data : List Byte) (s : State) : (ingAnswer g c data s).rows = s.rows :=
  (keeps_ingAnswer g c data s (List.Subset.refl _)).2 Keeps.rfl' .rows (by decide)

theorem ingRefuse_rows (r : Nat) (g : Ingress) (c : Code) (s : State) : (ingRefuse r g c s).rows = s.rows :=
  (keeps_ingRefuse r g c s (List.Subset.refl _)).2 Keeps.rfl' .rows (by decide)

theorem sendGo_rows (n : Nat) (s : State) : (sendGo n s).rows = s.rows :=
  (keeps_sendGo n s (List.Subset.refl _)).2 Keeps.rfl' .rows (by decide)

theorem Exclusive.provLines {g : Ingress} (h : Exclusive s) : Exclusive (provLines r g s) := by
  have wrote {taint : List (Nat × Nat)} {bad : Bool} {l n : Nat} : Exclusive (s.modRow r (provWrite taint bad l n)) := by
    obtain ⟨p, e⟩ := provWrite_eq taint bad l n (s.row r)
    exact h.modRow (by rw [e]; exact h r)
  unfold Machine.provLines
  dsimp only
  split
  · exact wrote
  · split
    · exact h
    · exact wrote
    · exact h.modRow_of_scb fun _ hx => hx

/-- The row once its agent a is free again, with what it held of the scoreboard. -/
def agentFreed (tb a : Nat) (w : Row) : Row := scbFreeOwner tb (ownIng a) { w with ingress := w.ingress.set a none }

theorem Exclusive.modRow_agentFreed {a : Nat} (h : Exclusive s) : Exclusive (s.modRow r (agentFreed tb a)) :=
  h.modRow_of_scb (scbFreeOwner_subset (ownIng a) { s.row r with ingress := (s.row r).ingress.set a none })

/-- Whatever becomes of its transaction, the agent is freed; before that the rows change only where lines are written. -/
theorem ingPerform_cases (r a : Nat) (g : Ingress) (bad : Bool) (s : State) : ∃ u : State, ingPerform r a g bad s = u.modRow r (agentFreed u.tb a)
    ∧ (u.rows = s.rows ∨ u.rows = (provLines r g (memWrite s g.addr g.data)).rows) := by
  unfold ingPerform
  dsimp only
  split_ifs
  · exact ⟨_, rfl, .inl ((ingAnswer_rows ..).trans (errRecord_rows ..))⟩
  · exact ⟨_, rfl, .inl ((ingAnswer_rows ..).trans (errRecord_rows ..))⟩
  · exact ⟨_, rfl, .inl (ingRefuse_rows ..)⟩
  · exact ⟨_, rfl, .inl (sendGo_rows ..)⟩
  · exact ⟨_, rfl, .inr (ingAnswer_rows ..)⟩
  · exact ⟨_, rfl, .inl (ingAnswer_rows ..)⟩
  · exact ⟨_, rfl, .inl (ingAnswer_rows ..)⟩

theorem Exclusive.ingPerform {a : Nat} {g : Ingress} {bad : Bool} (h : Exclusive s) : Exclusive (ingPerform r a g bad s) := by
  have written : Exclusive (memWrite s g.addr g.data) := h.of_rows rfl
  obtain ⟨u, e, rows | rows⟩ := ingPerform_cases r a g bad s
  · rw [e]; exact (h.of_rows rows).modRow_agentFreed
  · rw [e]; exact (written.provLines.of_rows rows).modRow_agentFreed

end Sys2Proof.Machine
end

section
/-! PROOFS. The scoreboard grants only compatible ranges (11 R269). -/

namespace Sys2Proof.Machine

variable {s : State} {r i : Nat} {q : ScbReq}

/-! What a grant or a refusal does for its owner. -/

theorem Exclusive.grantOwner {bad : Bool} (h : Exclusive s) : Exclusive (grantOwner r q bad s) := by
  unfold Machine.grantOwner
  dsimp only
  split
  · split
    · exact h.modTile.mirror
    · exact h
  · split
    · exact h.modCore
    · split
      · split
        · split
          · exact h
          · exact h.ingPerform
        · exact h
      · split
        · exact h.dmaRequest
        · exact h

theorem Exclusive.refuseOwner {c : Code} (h : Exclusive s) : Exclusive (refuseOwner r q c s) := by
  unfold Machine.refuseOwner
  dsimp only
  split
  · exact h
  · split
    · exact h.modCore
    · split
      · split
        · exact Exclusive.of_rows (h.modRow_of_scb fun _ hx => hx) (ingRefuse_rows ..)
        · exact h
      · exact h.dmaEnd.errRecord

/-! The requests: an Aster RESV, a Primrose SRESV and one that waited. -/

theorem Exclusive.goResv {k fw : Nat} {w : BitVec 128} (h : Exclusive s) : Exclusive (goResv r k i w fw s) := by
  unfold Machine.goResv
  have placed := scbOk_scbRequest (tb := s.tb) (q := resvReq k w s.tb) (h r)
  split
  · exact h
  · split
    · next hv =>
      exact Exclusive.modTile (h.modRow (by rw [hv] at placed; exact placed.of_subset (by simp)))
    · next hv => exact h.modRow (by rwa [hv] at placed)
    · exact h.haltTile

theorem execResv_exclusive (h : Exclusive s) (k : Nat) : Runs Exclusive (execResv r k i s) := by
  unfold execResv
  match g : turnOf s r k i 6 with
  | .go => exact ⟨_, tryIssue_go g, h.goResv.mirror⟩
  | .fault c => exact ⟨_, tryIssue_fault g, h.haltTile.mirror⟩
  | .wait => exact ⟨s, tryIssue_idle (.inl g), h⟩
  | .notYet => exact ⟨s, tryIssue_idle (.inr g), h⟩

theorem Exclusive.doSresv {c rd a b : Nat} (h : Exclusive s) : Exclusive ((doSresv r c rd a b s).finish r c) := by
  have placed := scbOk_scbRequest (tb := s.tb) (q := { owner := ownPrm c, ranges := [(srLine a, srLen a, srWr a)], tb := s.tb }) (h r)
  unfold Machine.doSresv
  dsimp only
  split
  · exact h.modCore
  · split
    · next hv =>
      exact Exclusive.modCore (h.modRow (by rw [hv] at placed; exact placed.of_subset (by simp)))
    · exact h.modCore
    · next hv =>
      split
      · exact h.modCore
      · exact Exclusive.modCore (h.modRow (by rwa [hv] at placed))

theorem execSresv_exclusive (h : Exclusive s) (c rd rs1 rs2 : Nat) : Runs Exclusive (execSresv r c rd rs1 rs2 s) := by
  unfold execSresv atCore
  split
  · exact ⟨_, rfl, h.startWake.doSresv⟩
  · exact ⟨s, rfl, h⟩

/-- The row once its request at place i has been granted (11 R268, R269; 17 R463). -/
def grantEntered (tb i : Nat) (q : ScbReq) (w : Row) : Row :=
  q.ranges.foldl (fun w g => clearPoisoned g w) (scbEnter tb q { w with scbPend := w.scbPend.eraseIdx i })

section
variable (hq : (s.row r).scbPend[i]? = some q) (runs : rowRuns s r = true)
include hq runs

theorem execScoreboardGrant_grants (bad : Bool) (hv : scbVerdict (s.row r) ((s.row r).scbPend.take i) q = .grant) :
    execScoreboardGrant r i bad s = .next (grantOwner r q bad (s.modRow r (grantEntered s.tb i q))) := by
  have same : s.modRow r (fun _ => grantEntered s.tb i q (s.row r)) = s.modRow r (grantEntered s.tb i q) := modRow_congr rfl
  rw [← same]
  simp [execScoreboardGrant, hq, runs, hv, grantEntered]

theorem execScoreboardGrant_waits (bad : Bool) (hv : scbVerdict (s.row r) ((s.row r).scbPend.take i) q = .wait) :
    execScoreboardGrant r i bad s = .next (s.modRow r (wakeBanks (q.ranges.flatMap (fun g => banksOf g.1 g.2.1)))) := by
  simp [execScoreboardGrant, hq, runs, hv]

theorem execScoreboardGrant_refuses (bad : Bool) {c : Code} (hv : scbVerdict (s.row r) ((s.row r).scbPend.take i) q = .refuse c) :
    execScoreboardGrant r i bad s = .next (refuseOwner r q c (s.modRow r (fun w => { w with scbPend := w.scbPend.eraseIdx i }))) := by
  simp [execScoreboardGrant, hq, runs, hv]

end

/-- What a grant leaves of its row beside the entry: the provisional table and the pending requests change, and no unit does. -/
theorem grantEntered_eq (tb i : Nat) (q : ScbReq) (w : Row) :
    ∃ p, grantEntered tb i q w = { scbEnter tb q { w with scbPend := w.scbPend.eraseIdx i } with prov := p } := clearPoisoned_foldl_eq _ _

theorem execScoreboardGrant_exclusive (h : Exclusive s) (bad : Bool) : Runs Exclusive (execScoreboardGrant r i bad s) := by
  match hq : (s.row r).scbPend[i]? with
  | none => exact ⟨s, by simp [execScoreboardGrant, hq], h⟩
  | some q =>
    match runs : rowRuns s r with
    | false => exact ⟨s, by simp [execScoreboardGrant, hq, runs], h⟩
    | true =>
      match hv : scbVerdict (s.row r) ((s.row r).scbPend.take i) q with
      | .wait => exact ⟨_, execScoreboardGrant_waits hq runs bad hv, h.modRow_of_scb fun _ hx => hx⟩
      | .refuse c => exact ⟨_, execScoreboardGrant_refuses hq runs bad hv, Exclusive.refuseOwner (h.modRow_of_scb fun _ hx => hx)⟩
      | .grant =>
        obtain ⟨p, e⟩ := grantEntered_eq s.tb i q (s.row r)
        have entered : ScbOk (scbEnter s.tb q { s.row r with scbPend := (s.row r).scbPend.eraseIdx i }) :=
          scbOk_scbEnter (h r) fun g hg x hx => rangeOk_of_grant hv hg hx
        exact ⟨_, execScoreboardGrant_grants hq runs bad hv, (h.modRow (by rw [e]; exact entered)).grantOwner⟩

/-- Settles O24: a grant enters what conflicts with no entry, and everything else that a request sets going adds none. -/
theorem scoreboardKeepsRangesExclusive : Obligations.ScoreboardKeepsRangesExclusive := by
  refine ⟨fun s r i b h => execScoreboardGrant_exclusive h b, fun s r t i h => execResv_exclusive h t,
    fun s r c rd a b h => execSresv_exclusive h c rd a b, fun s r i c q w hr hc hcl hq ho runs hv hw kind => ?granted,
    fun s r i q hr hq runs hv => ?waits⟩
  case granted =>
    obtain ⟨p, e⟩ := grantEntered_eq s.tb i q (s.row r)
    have core : HasCore (s.modRow r (grantEntered s.tb i q)) r c := hasCore_modRow ⟨hr, hcl⟩ (by rw [e]; rfl)
    have kept : (s.modRow r (grantEntered s.tb i q)).core r c = s.core r c := core_modRow hr (by rw [e]; rfl) c
    have owner : ∀ u, grantOwner r q false u = endSresv r c .ok u := by
      intro u
      have place : ownPrm c - 8 = c := Nat.add_sub_cancel_left ..
      unfold grantOwner
      rw [ho, if_neg (by simp [ownPrm]; omega), if_pos (by simp [ownPrm]; omega), place]
    have run := execScoreboardGrant_grants hq runs false hv
    rw [owner] at run
    refine ⟨_, run, ?_, ?_, ?_, by simp [endSresv], by simp [endSresv]⟩
    · rw [core_endSresv core (kept ▸ hw) kind]; simp
    · rw [core_endSresv core (kept ▸ hw) kind]; simp
    · rw [endSresv, row_modCore core.1, row_modRow_self hr, e]
      rfl
  case waits =>
    refine ⟨_, execScoreboardGrant_waits hq runs false hv, ?_, ?_, by simp, by simp, fun b hb ret touched => ?_⟩
    · rw [row_modRow_self hr]; rfl
    · rw [row_modRow_self hr]; rfl
    · rw [row_modRow_self hr, wakeBanks, nth_mapIdx _ hb]
      exact congrArg Bank.st (if_pos (by rw [touched, ret]; rfl))

end Sys2Proof.Machine
end

section
/-! PROOFS. DMA descriptors: submission, start, one completion record, pop, timeout (11 R277 to R284; 18 R484). -/

namespace Sys2Proof.Machine

variable {s t : State} {r e n : Nat} {d : DmaDesc} {rest : List DmaDesc} {c : Code}

/-! The engines of the rows. -/

/-- The DMA engines, row by row. -/
def State.dmas (s : State) : List (List Dma) := s.rows.map (·.dma)

/-- An update that keeps what g reads off the element it changes keeps what g reads off the list. -/
theorem map_modify_of_fixed {α β : Type} [Inhabited α] {g : α → β} {f : α → α} {l : List α} {i : Nat} (hf : g (f (nth l i)) = g (nth l i)) :
    (l.modify i f).map g = l.map g := by
  induction l generalizing i with
  | nil => simp
  | cons x l ih =>
    cases i with
    | zero => simpa [nth] using hf
    | succ i => simpa using ih (by simpa [nth] using hf)

theorem dmas_of_rows (h : t.rows = s.rows) : t.dmas = s.dmas := by rw [State.dmas, h, State.dmas]

theorem dmas_modRow {k : Nat} {f : Row → Row} (hf : (f (s.row k)).dma = (s.row k).dma) : (s.modRow k f).dmas = s.dmas :=
  map_modify_of_fixed (g := Row.dma) hf

theorem dma_of_dmas (h : t.dmas = s.dmas) (r : Nat) : (t.row r).dma = (s.row r).dma := by
  have engines (u : State) : (u.row r).dma = u.dmas.getD r (default : Row).dma := by
    simp only [State.dmas, State.row, nth, List.getD_eq_getElem?_getD, List.getElem?_map]
    cases u.rows[r]? <;> rfl
  rw [engines, h, ← engines]

theorem dmaE_of_dmas (h : t.dmas = s.dmas) (r e : Nat) : t.dmaE r e = s.dmaE r e := congrArg (nth · e) (dma_of_dmas h r)

/-- The state has row r, and the row has engine e. -/
def HasDma (s : State) (r e : Nat) : Prop := r < s.rows.length ∧ e < (s.row r).dma.length

theorem HasDma.of_dmas (has : HasDma s r e) (h : t.dmas = s.dmas) : HasDma t r e := by
  have length : t.rows.length = s.rows.length := by simpa [State.dmas] using congrArg List.length h
  exact ⟨length ▸ has.1, (dma_of_dmas h r).symm ▸ has.2⟩

theorem dmaE_modDma (has : HasDma s r e) (f : Dma → Dma) : (s.modDma r e f).dmaE r e = f (s.dmaE r e) := by
  rw [State.dmaE, State.modDma, row_modRow_self has.1]
  exact nth_modify_self f has.2

theorem HasDma.modDma (has : HasDma s r e) (f : Dma → Dma) : HasDma (s.modDma r e f) r e := by
  refine ⟨(modRow_rows_length ..).symm ▸ has.1, ?_⟩
  rw [State.modDma, row_modRow_self has.1]
  simpa using has.2

theorem modDma_congr {f g : Dma → Dma} (h : f (s.dmaE r e) = g (s.dmaE r e)) : s.modDma r e f = s.modDma r e g := by
  have engines : (s.row r).dma.modify e f = (s.row r).dma.modify e g := modify_congr h
  exact modRow_congr (by simp only [engines])

/-! Submission (11 R279, R282). -/

theorem dmaSubmit_queues (hc : dmaCheck s r e d = .ok) (room : (s.dmaE r e).queue.length + (s.dmaE r e).held.length < 32)
    (free : (s.dmaE r e).subWait = []) : dmaSubmit r e d s = s.modDma r e (fun x => { x with queue := x.queue ++ [d] }) := by
  simp only [dmaSubmit, hc]
  exact modDma_congr (if_pos ⟨room, by rw [free]; rfl⟩)

theorem dmaSubmit_refuses (hc : dmaCheck s r e d ≠ .ok) :
    dmaSubmit r e d s = s.modDma r e (fun x => { x with subRefused := true, scode := (dmaCheck s r e d).val }) := by
  unfold dmaSubmit
  split
  · next ok => exact absurd ok hc
  · rfl

theorem atRow_active (runs : rowRuns s r = true) (active : (s.row r).st = .active) (f : State → State) : atRow r f s = .next (f s) := by
  rw [atRow, if_pos runs, startWake_of_active active]

/-! The end of the descriptor at the head (11 R280, R281). -/

theorem freeEverywhere_dmas (o : Nat) (s : State) : (freeEverywhere o s).dmas = s.dmas := by
  simp only [State.dmas, freeEverywhere, State.modRows_rows, List.map_map]
  refine List.map_congr_left fun w _ => ?_
  dsimp only [Function.comp]
  split <;> rfl

theorem freeEverywhere_owner (o : Nat) (s : State) : ∀ w ∈ (freeEverywhere o s).rows, ∀ x ∈ w.scb, x.owner ≠ o := by
  intro w hw x hx
  obtain ⟨v, -, rfl⟩ := List.mem_map.1 hw
  dsimp only at hx
  split at hx
  · simpa using (List.mem_filter.1 hx).2
  · next absent => exact fun e => absent (List.any_eq_true.2 ⟨x, hx, by simp [e]⟩)

/-- The record that descriptor d makes when it ends with code c and n lines written. -/
def dmaRec (s : State) (d : DmaDesc) (c : Code) (n : Nat) : DmaCpl := { tag := d.tag, status := c.val, done := n, tb := s.tb, byCore := d.byCore }

theorem dmaEnd_of_queue (h : (s.dmaE r e).queue = d :: rest) : dmaEnd r e c n s = (freeEverywhere (ownDma r e) s).modDma r e (fun x =>
    drainSub (Dma.finish { x with queue := rest, active := false, waitResv := false } (dmaRec s d c n))) := by
  simp only [dmaEnd, h]
  rfl

theorem dmaEnd_owner (h : (s.dmaE r e).queue = d :: rest) : ∀ w ∈ (dmaEnd r e c n s).rows, ∀ x ∈ w.scb, x.owner ≠ ownDma r e := by
  intro w hw x hx
  have scbs : (dmaEnd r e c n s).rows.map Row.scb = (freeEverywhere (ownDma r e) s).rows.map Row.scb := by
    rw [dmaEnd_of_queue h]
    exact map_modify_of_fixed rfl
  have there := List.mem_map_of_mem (f := Row.scb) hw
  rw [scbs] at there
  obtain ⟨v, hv, same⟩ := List.mem_map.1 there
  exact freeEverywhere_owner _ s v hv x (same ▸ hx)

theorem dmaEnd_mem (r e : Nat) (c : Code) (n : Nat) (s : State) : (dmaEnd r e c n s).mem = s.mem :=
  (keeps_dmaEnd r e c n s (List.Subset.refl _)).2 Keeps.rfl' .mem (by decide)

theorem dmaRecord_rows (r e : Nat) (c : Code) (s : State) : (dmaRecord r e c s).rows = s.rows := errRecord_rows ..

section
variable (has : HasDma s r e) (hq : (s.dmaE r e).queue = d :: rest) (room : (s.dmaE r e).cpl.length < 64) (free : (s.dmaE r e).held = [])
include has hq room free

/-- With room in the FIFO, the descriptor's end adds its record there. -/
theorem dmaEnd_record (c : Code) (n : Nat) : ((dmaEnd r e c n s).dmaE r e).active = false
    ∧ ((dmaEnd r e c n s).dmaE r e).cpl = (s.dmaE r e).cpl ++ [dmaRec s d c n] := by
  have freed := freeEverywhere_dmas (ownDma r e) s
  rw [dmaEnd_of_queue hq, dmaE_modDma (has.of_dmas freed), dmaE_of_dmas freed]
  simp [drainSub, Dma.finish, room, free]

theorem dmaRecord_dmaEnd (c : Code) (n : Nat) : ((dmaRecord r e c (dmaEnd r e c n s)).dmaE r e).active = false
    ∧ ((dmaRecord r e c (dmaEnd r e c n s)).dmaE r e).cpl = (s.dmaE r e).cpl ++ [dmaRec s d c n] := by
  rw [dmaE_of_dmas (dmas_of_rows (dmaRecord_rows ..))]
  exact dmaEnd_record has hq room free c n

end

/-! The requests of the descriptor at the head (11 R278): it runs on, and waits or not, or it ends with one record. -/

/-- The engine goes on with its descriptor, or has ended it with one record. -/
def RunsOrEnds (x y : Dma) : Prop := (∃ b, y = { x with waitResv := b }) ∨ y.active = false ∧ y.cpl.length = x.cpl.length + 1

theorem scbRequest_dma (tb : Nat) (q : ScbReq) (w : Row) : (scbRequest tb q w).2.dma = w.dma := by
  unfold scbRequest
  split <;> rfl

theorem clearPoisoned_foldl_dma (gs : List (Nat × Nat × Bool)) (w : Row) : (gs.foldl (fun w g => clearPoisoned g w) w).dma = w.dma := by
  obtain ⟨p, e⟩ := clearPoisoned_foldl_eq gs w
  rw [e]

theorem dmaRequest_runsOrEnds (k : Nat) (has : HasDma s r e) (hq : (s.dmaE r e).queue = d :: rest) (room : (s.dmaE r e).cpl.length < 64)
    (free : (s.dmaE r e).held = []) : RunsOrEnds (s.dmaE r e) ((dmaRequest k r e s).dmaE r e) := by
  induction k generalizing s with
  | zero => exact .inl ⟨_, rfl⟩
  | succ k ih =>
    have ended (c : Code) : RunsOrEnds (s.dmaE r e) ((dmaRecord r e c (dmaEnd r e c 0 s)).dmaE r e) := by
      obtain ⟨idle, cpl⟩ := dmaRecord_dmaEnd has hq room free c 0
      exact .inr ⟨idle, by simp [cpl]⟩
    simp only [dmaRequest, hq]
    split
    · exact .inl ⟨false, dmaE_modDma has _⟩
    · next q _ =>
      have placed := scbRequest_dma s.tb { owner := ownDma r e, ranges := rowRanges d q, tb := s.tb } (s.row q)
      split
      · exact .inl ⟨_, rfl⟩
      · split
        · exact ended _
        · split
          · exact ended _
          · split
            · next w hv =>
              rw [hv] at placed
              have kept : (s.modRow q (fun _ => (rowRanges d q).foldl (fun w x => clearPoisoned x w) w)).dmas = s.dmas :=
                dmas_modRow ((clearPoisoned_foldl_dma ..).trans placed)
              rw [← dmaE_of_dmas kept] at hq room free ⊢
              exact ih (has.of_dmas kept) hq room free
            · next w hv =>
              rw [hv] at placed
              have kept : (s.modRow q (fun _ => w)).dmas = s.dmas := dmas_modRow placed
              exact .inl ⟨true, by rw [dmaE_modDma (has.of_dmas kept), dmaE_of_dmas kept]⟩
            · exact ended _

theorem execDmaDescriptorStart_takes (hq : (s.dmaE r e).queue = d :: rest) (runs : rowRuns s r = true) (idle : (s.dmaE r e).active = false)
    (room : (s.dmaE r e).cpl.length < 64) (free : (s.dmaE r e).held = []) (awake : dmaAsleep s d = []) : execDmaDescriptorStart r e s
      = .next (dmaRequest 13 r e (s.modDma r e (fun x => { x with active := true, waitResv := true, startTb := s.tb, limit := s.gw.tmoDma }))) := by
  simp only [execDmaDescriptorStart, hq]
  rw [if_neg (by simp [runs, idle, free, room]), if_neg (by simp [awake])]

theorem execDmaDescriptorStart_full (full : 64 ≤ (s.dmaE r e).cpl.length) : execDmaDescriptorStart r e s = .next s := by
  unfold execDmaDescriptorStart
  dsimp only
  split
  · rfl
  · exact if_pos (.inr (.inr (.inl full)))

/-! What a descriptor writes (11 R277; 17 R460): memory, and the provisional tables of the rows. -/

theorem each_memWrite_mem_congr (hm : t.mem = s.mem) (hf : t.fuse = s.fuse) (l : List (Nat × List Byte)) :
    (each l (fun p s => memWrite s p.1 p.2) t).mem = (each l (fun p s => memWrite s p.1 p.2) s).mem := by
  induction l generalizing s t with
  | nil => exact hm
  | cons p l ih => exact ih (memWrite_mem_congr hm hf ..) hf

section
variable (d : DmaDesc) (taint : List (Nat × Nat)) (bad : Bool) (l : List (Nat × List Byte))

theorem dmaWrite_mem (s : State) : (dmaWrite d taint bad l s).mem = (each l (fun p s => memWrite s p.1 p.2) s).mem := by
  unfold dmaWrite
  dsimp only
  split
  · rfl
  · exact each_fixed _ State.mem (by intros; rfl) _

theorem dmaWrite_dmas (s : State) : (dmaWrite d taint bad l s).dmas = s.dmas := by
  have stored : (each l (fun p s => memWrite s p.1 p.2) s).dmas = s.dmas := each_fixed l State.dmas (by intros; rfl) s
  unfold dmaWrite
  dsimp only
  split
  · exact stored
  · refine (each_fixed _ State.dmas (fun q u => dmas_modRow ?_) _).trans stored
    obtain ⟨p, e⟩ := foldl_prov (fun w (g : Nat × Nat) => provWrite_eq taint bad g.1 g.2 w) (dmaMarks d l q) (u.row q)
    rw [e]

theorem dmaWrite_keeps (s : State) : Keeps [.rows, .mem] s (dmaWrite d taint bad l s) :=
  (keeps_dmaWrite d taint bad l s (List.Subset.refl _)).2 Keeps.rfl'

theorem dmaWrite_tb (s : State) : (dmaWrite d taint bad l s).tb = s.tb := congrArg Clk.tb (dmaWrite_keeps d taint bad l s .clk (by decide))
end

/-! The end of a descriptor that holds every grant, and the timeout. -/

/-- The state once descriptor d has written its lines, before its record is made. -/
def dmaWritten (r e : Nat) (d : DmaDesc) (s : State) : State :=
  dmaWrite d (dmaTaint s d (s.dmaE r e).taint) (s.dmaE r e).taintBad (dmaData s d)
    (s.modDma r e (fun x => { x with taint := dmaTaint s d (s.dmaE r e).taint }))

theorem execDmaComplete_ok (hq : (s.dmaE r e).queue = d :: rest) (ready : dmaReady s r e = true) (holds : dmaHolds s d (s.dmaE r e).taint = false)
    (fits : dmaRoom s d (dmaTaint s d (s.dmaE r e).taint) (s.dmaE r e).taintBad = true) (code : dmaCode s d = .ok) (clean : dmaPoisoned s d = false) :
    execDmaComplete r e 0 0 s = .next (dmaEnd r e .ok (dmaData s d).length (dmaWritten r e d s)) := by
  simp only [execDmaComplete, hq]
  rw [if_neg (by simp [ready, holds, fits])]
  simp [code, clean, dmaWritten]

theorem dmaWritten_mem : (dmaWritten r e d s).mem = (dmaWrite d (dmaTaint s d (s.dmaE r e).taint) (s.dmaE r e).taintBad (dmaData s d) s).mem := by
  rw [dmaWritten, dmaWrite_mem, dmaWrite_mem]
  exact each_memWrite_mem_congr (by rfl) (by rfl) _

theorem dmaWritten_dmaE (has : HasDma s r e) : HasDma (dmaWritten r e d s) r e
    ∧ (dmaWritten r e d s).dmaE r e = { s.dmaE r e with taint := dmaTaint s d (s.dmaE r e).taint } := by
  have kept : (dmaWritten r e d s).dmas = _ := dmaWrite_dmas ..
  exact ⟨(has.modDma _).of_dmas kept, by rw [dmaE_of_dmas kept, dmaE_modDma has]⟩

theorem execDmaDescriptorTimeout_due (hq : (s.dmaE r e).queue = d :: rest) (active : (s.dmaE r e).active = true)
    (due : (s.dmaE r e).startTb + (s.dmaE r e).limit ≤ s.tb) (n : Nat) : ∃ l, execDmaDescriptorTimeout r e n s
      = .next (dmaRecord r e .dmaTimeout (dmaEnd r e .dmaTimeout l.length (dmaWrite d (s.dmaE r e).taint (s.dmaE r e).taintBad l s))) := by
  simp only [execDmaDescriptorTimeout, hq]
  rw [if_neg (by simp [active, due])]
  exact ⟨_, rfl⟩

/-! DMA_CPL_POP (11 R281, R284). -/

theorem dmaPop_pops {x : Dma} {c : DmaCpl} {rest : List DmaCpl} (h : x.cpl = c :: rest) :
    (dmaPop x).cpl = rest ++ x.held.take 1 ∧ (dmaPop x).held = x.held.drop 1 := by
  unfold dmaPop drainSub
  rw [h]
  dsimp only
  split
  · next held => simp [held]
  · next held => simp [held]

/-- Settles O25: what an engine makes of its descriptor touches no other engine, and its end makes one record. -/
theorem dmaDescriptorsMakeOneRecord : Obligations.DmaDescriptorsMakeOneRecord := by
  refine ⟨fun s r e d runs active room free hr he => ?submits, fun s r e d runs active bad => ?refuses,
    fun s r e d rest hr he hq runs idle room free awake => ?starts, fun s r e full => execDmaDescriptorStart_full full,
    fun s r e d rest hr he hq ready holds fits code clean room free => ?completes, fun s r e c rest hr he hc => ?pops,
    fun s r e n d rest hr he hq active due room free => ?timeout⟩
  case submits =>
    have queued {x : DmaDesc} (hc : dmaCheck s r e x = .ok) : atRow r (dmaSubmit r e x) s
        = .next (s.modDma r e (fun y => { y with queue := y.queue ++ [x] })) := by
      rw [atRow_active runs active, dmaSubmit_queues hc room free]
    exact ⟨queued, queued, queued, queued⟩
  case refuses =>
    exact (atRow_active runs active _).trans (congrArg _ (dmaSubmit_refuses bad))
  case starts =>
    have taken := dmaE_modDma ⟨hr, he⟩ (fun x => { x with active := true, waitResv := true, startTb := s.tb, limit := s.gw.tmoDma })
    have outcome := dmaRequest_runsOrEnds (d := d) (rest := rest) 13 (HasDma.modDma ⟨hr, he⟩ _)
      (by rw [taken]; exact hq) (by rw [taken]; exact room) (by rw [taken]; exact free)
    rw [taken] at outcome
    refine ⟨_, execDmaDescriptorStart_takes hq runs idle room free awake, ?_⟩
    obtain ⟨b, on⟩ | ⟨off, cpl⟩ := outcome
    · rw [on]
      exact ⟨rfl, fun _ => ⟨rfl, rfl, hq⟩⟩
    · rw [off, cpl]
      exact ⟨rfl, fun on => by cases on⟩
  case completes =>
    obtain ⟨has, engine⟩ := dmaWritten_dmaE (d := d) ⟨hr, he⟩
    have queue : ((dmaWritten r e d s).dmaE r e).queue = d :: rest := by rw [engine]; exact hq
    obtain ⟨idle, cpl⟩ := dmaEnd_record has queue (by rw [engine]; exact room) (by rw [engine]; exact free) .ok (dmaData s d).length
    refine ⟨_, execDmaComplete_ok hq ready holds fits code clean, idle, ?_, ?_, ?_, ?_⟩
    · rw [cpl, engine, dmaRec, dmaWritten, dmaWrite_tb]
      rfl
    · exact dmaEnd_owner queue
    · exact (dmaEnd_mem ..).trans dmaWritten_mem
    · simp [dmaWritten]
  case pops =>
    obtain ⟨cpl, held⟩ := dmaPop_pops hc
    have engine : ∀ o, ((s.modDma r e dmaPop).send o).dmaE r e = dmaPop (s.dmaE r e) := fun _ => dmaE_modDma ⟨hr, he⟩ dmaPop
    refine ⟨_, rfl, ?_, ?_, ?_, ?_, ?_⟩
    · rw [hc]; rfl
    · rw [engine, cpl]
    · rw [engine, held]
    · simp [State.send]
    · exact (rowsBut_of_rows (s := s.modDma r e dmaPop) rfl).2 ((rowsBut_modRow _).2 RowsBut.rfl')
  case timeout =>
    obtain ⟨l, run⟩ := execDmaDescriptorTimeout_due hq active due n
    have kept := dmaWrite_dmas d (s.dmaE r e).taint (s.dmaE r e).taintBad l s
    have engine := dmaE_of_dmas kept r e
    obtain ⟨idle, cpl⟩ := dmaRecord_dmaEnd (HasDma.of_dmas ⟨hr, he⟩ kept) (by rw [engine]; exact hq) (by rw [engine]; exact room)
      (by rw [engine]; exact free) .dmaTimeout l.length
    exact ⟨_, run, idle, by simp [cpl, engine], by simp [cpl, dmaRec]⟩

end Sys2Proof.Machine
end

section
/-! PROOFS. Ingress agents, network timeouts, bank retention, scrub and UCIe flits (11 R286 to R289, R291, R303; 18 R486). -/

namespace Sys2Proof.Machine

variable {s t : State} {r a b i m : Nat} {g : Ingress}

/-! What a packet or a record that the module sends changes of the fabric: the bridges alone. -/

theorem inject_fab (b : Nat) (p : Pkt) (owner arg : Nat) (s : State) : ∃ l, (inject b p owner arg s).fab = { s.fab with bridges := l } := by
  unfold inject
  split
  · exact ⟨s.fab.bridges, rfl⟩
  · dsimp only
    split <;> exact ⟨_, rfl⟩

theorem answer_fab (b : Nat) (p : Pkt) (c : Code) (data : List Byte) (s : State) : ∃ l, (answer b p c data s).fab = { s.fab with bridges := l } := by
  unfold answer
  split
  · exact inject_fab ..
  · exact ⟨s.fab.bridges, rfl⟩

theorem deliver_fab (n : Nat) (s : State) : ∃ l, (deliver n s).fab = { s.fab with bridges := l } := by
  unfold deliver
  dsimp only
  split
  · exact ⟨s.fab.bridges, rfl⟩
  · exact ⟨s.fab.bridges, (keeps_deliverHost n s (List.Subset.refl _)).2 Keeps.rfl' .fab (by decide)⟩
  · split <;> exact ⟨s.fab.bridges, rfl⟩
  · exact inject_fab ..

theorem mbxWrite_fab (n : Nat) (msg : List Byte) (sid : Nat) (s : State) : ∃ l, (mbxWrite n msg sid s).2.fab = { s.fab with bridges := l } := by
  unfold mbxWrite
  split
  · exact deliver_fab ..
  · exact ⟨s.fab.bridges, rfl⟩

theorem errRecord_fab (x : Rec) (s : State) : ∃ l, (errRecord x s).fab = { s.fab with bridges := l } := by
  have logged : ∀ u n, u.fab = s.fab → ∃ l, (errRecord.go x u n).fab = { s.fab with bridges := l } := by
    intro u n e
    unfold errRecord.go
    dsimp only
    rw [attnSettle_fab]
    simp only [apply_ite State.fab, State.modGw_fab, ite_self]
    split
    · split <;> exact ⟨u.fab.bridges, by rw [← e]; rfl⟩
    · rw [← e]
      exact mbxWrite_fab ..
  unfold errRecord
  dsimp only
  split
  · split
    · exact ⟨s.fab.bridges, rfl⟩
    · exact logged _ _ rfl
  · exact logged _ _ rfl

/-- What an answer puts on the fabric depends on the fabric, the tick and the timeouts. -/
theorem answer_fab_congr (hf : t.fab = s.fab) (hc : t.clk = s.clk) (hg : t.gw = s.gw) (b : Nat) (p : Pkt) (c : Code) (data : List Byte) :
    (answer b p c data t).fab = (answer b p c data s).fab := by
  have bridge : t.bridge b = s.bridge b := by rw [State.bridge, hf, State.bridge]
  have tracked (q : Pkt) : track t q 0 0 = track s q 0 0 := by rw [track, track, State.tb, hc, hg, State.tb]
  unfold answer inject
  simp only [hf, bridge, tracked, apply_ite State.fab, State.modBridge, State.modFab_fab]

/-! What an access is answered (11 R293; 12 R309). -/

theorem accessCode_congr (hm : t.mem = s.mem) (hf : t.fuse = s.fuse) (hc : t.power.conv = s.power.conv)
    (hr : ∀ q, (t.row q).rowOut = (s.row q).rowOut ∧ (t.row q).st = (s.row q).st ∧ (t.row q).banks = (s.row q).banks) (wr : Bool) (a n : Nat) :
    accessCode t wr a n = accessCode s wr a n := by
  have places (x : Nat) : place t x = place s x := by simp only [place, hf]
  have keys (x : Nat) : canon t x = canon s x := by simp only [canon, places]
  have pages (k : Nat) : pageEnt t k = pageEnt s k := by simp only [pageEnt, hm]
  have out (q : Nat) : rowIsOut t q = rowIsOut s q := (hr q).1
  have dark (q : Nat) : rowIsDark t q = rowIsDark s q := by simp only [rowIsDark, State.conv, hc, (hr q).2.1]
  have bank (q b : Nat) : t.bank q b = s.bank q b := by simp only [State.bank, (hr q).2.2]
  have units (u : Nat) : unitCode t wr a n u = unitCode s wr a n u := by
    simp only [unitCode, places, keys, pages, out, dark, bank, State.memUnit, hm]
    rfl
  have same : unitCode t wr a n = unitCode s wr a n := funext units
  rw [accessCode, same, accessCode]

/-! An arriving read that its row grants (11 R291). -/

theorem inService_of_runs (runs : rowRuns s r = true) : rowIsOut s r = false ∧ rowIsDark s r = false := by
  simp only [rowRuns, Bool.and_eq_true, Bool.not_eq_true'] at runs
  obtain ⟨⟨⟨-, served⟩, lit⟩, -⟩ := runs
  exact ⟨served, lit⟩

/-- A transfer for an active row touches its half alone (04 R111). -/
theorem wakeRow_of_active (served : rowIsOut s r = false) (lit : rowIsDark s r = false) (active : (s.row r).st = .active) :
    wakeRow r s = touchHalf (halfOf r) s := by
  rw [wakeRow, if_neg (by simp [served, lit])]
  exact startWake_of_active active

theorem modRow_modRow (f g : Row → Row) : (s.modRow r f).modRow r g = s.modRow r (g ∘ f) := by
  simp only [State.modRow, State.modRows, List.modify_modify_eq]

/-- The row's router once its transaction at place i has left it. -/
def arrivalLeft (i : Nat) (w : Row) : Row := { w with arrivals := w.arrivals.eraseIdx i }

/-- The row once agent a has taken that transaction with a grant. -/
def ingTaken (tb a i : Nat) (g : Ingress) (w : Row) : Row :=
  (ingReq tb a g).ranges.foldl (fun w x => clearPoisoned x w)
    { scbEnter tb (ingReq tb a g) (arrivalLeft i w) with ingress := w.ingress.set a (some g) }

/-- The module then: the half that a transfer has reached is awake (04 R111). -/
def ingTakes (r a i : Nat) (g : Ingress) (s : State) : State := (touchHalf (halfOf r) s).modRow r (ingTaken s.tb a i g)

theorem ingTakes_row (hr : r < s.rows.length) : (ingTakes r a i g s).row r = ingTaken s.tb a i g (s.row r) :=
  row_modRow_self (s := touchHalf (halfOf r) s) hr _

theorem ingTakes_rowsBut : RowsBut r s (ingTakes r a i g s) := (rowsBut_modRow _).2 RowsBut.rfl'

theorem agentFreed_arrivals (tb a : Nat) (w : Row) : (agentFreed tb a w).arrivals = w.arrivals := rfl

theorem agentFreed_ingress (tb a : Nat) (w : Row) : (agentFreed tb a w).ingress = w.ingress.set a none := rfl

theorem agentFreed_owner (tb a : Nat) (w : Row) : ∀ x ∈ (agentFreed tb a w).scb, x.owner ≠ ownIng a :=
  fun x hx => by simpa using (List.mem_filter.1 hx).2

theorem windowsSettle_of_none (h : s.fab.winNext = []) : windowsSettle s = s := by
  rw [windowsSettle, h]
  rfl

theorem ingHeld_of_free (h : nth (s.row r).ingress a = none) : ingHeld s r a = none := by
  rw [ingHeld, h]

theorem provOver_of_prov {v w : Row} (h : v.prov = w.prov) (l n : Nat) : provOver v l n = provOver w l n := by
  rw [provOver, h, provOver]

theorem answer_keeps (b : Nat) (p : Pkt) (c : Code) (data : List Byte) (s : State) : Keeps [.fab] s (answer b p c data s) :=
  (keeps_answer b p c data s (List.Subset.refl _)).2 Keeps.rfl'

/-- At place i of the router of row r, which is active, waits a fabric read of lines that nobody's output is provisional on; the row
grants its range to agent a, which is free. -/
structure ReadGranted (s : State) (r a i : Nat) (g : Ingress) : Prop where
  row : r < s.rows.length
  agent : a < 16
  free : nth (s.row r).ingress a = none
  here : (s.row r).arrivals[i]? = some g
  runs : rowRuns s r = true
  active : (s.row r).st = .active
  first : g.fence = false
  kind : g.kind = 0
  read : g.isWrite = false
  plain : g.side = none
  code : accessCode s false g.addr g.bytes = .ok
  verdict : scbVerdict (s.row r) (s.row r).scbPend (ingReq s.tb a g) = .grant
  clean : provOver (s.row r) (g.addr / 64 % 1310720) ((g.addr % 64 + g.bytes + 63) / 64) = []

/-- The module once the read has been answered and its agent freed. -/
def ingRead (r a i : Nat) (g : Ingress) (s : State) : State :=
  (answer g.bridge g.pkt .ok (memRead s g.addr g.bytes) (ingTakes r a i g s)).modRow r (agentFreed s.tb a)

theorem ingRead_rowsBut : RowsBut r s (ingRead r a i g s) := by
  rw [ingRead, rowsBut_modRow, rowsBut_of_rows (answer_keeps _ _ _ _ _ .rows (by decide))]
  exact ingTakes_rowsBut

theorem ingRead_fab : (ingRead r a i g s).fab = (answer g.bridge g.pkt .ok (memRead s g.addr g.bytes) s).fab :=
  answer_fab_congr (by rfl) (by rfl) (by rfl) ..

theorem ingRead_mem : (ingRead r a i g s).mem = s.mem := answer_keeps _ _ _ _ _ .mem (by decide)

namespace ReadGranted

variable (h : ReadGranted s r a i g)
include h

/-- A read clears no POISONED line (17 R463). -/
theorem ingTaken_eq : ingTaken s.tb a i g (s.row r)
    = { scbEnter s.tb (ingReq s.tb a g) (arrivalLeft i (s.row r)) with ingress := (s.row r).ingress.set a (some g) } := by
  simp [ingTaken, ingReq, h.read, h.plain, clearPoisoned]

/-- The agent takes the read with its grant, and performs it unless it must hold it. -/
theorem ingressStep_takes : ingressStep r a i false s = .next (if ingHolds (ingTakes r a i g s) r g then ingTakes r a i g s
    else ingPerform r a g false (ingTakes r a i g s)) := by
  obtain ⟨served, lit⟩ := inService_of_runs h.runs
  have row : (s.modRow r (arrivalLeft i)).row r = arrivalLeft i (s.row r) := row_modRow_self h.row _
  have woken : wakeRow r (s.modRow r (arrivalLeft i)) = (touchHalf (halfOf r) s).modRow r (arrivalLeft i) :=
    wakeRow_of_active (by rw [rowIsOut, row]; exact served) (by rw [rowIsDark, row]; exact lit) (by rw [row]; exact h.active)
  have verdict : scbRequest s.tb (ingReq s.tb a g) ((wakeRow r (s.modRow r (arrivalLeft i))).row r)
      = (.grant, scbEnter s.tb (ingReq s.tb a g) (arrivalLeft i (s.row r))) := by
    rw [woken, row_modRow_self (s := touchHalf (halfOf r) s) h.row]
    exact scbRequest_grant h.verdict
  have taken : (wakeRow r (s.modRow r (arrivalLeft i))).modRow r (fun _ => ingTaken s.tb a i g (s.row r)) = ingTakes r a i g s := by
    rw [woken, modRow_modRow]
    exact modRow_congr rfl
  unfold arrivalLeft at verdict taken
  unfold ingressStep
  dsimp only
  rw [ingHeld_of_free h.free, h.here]
  dsimp only
  rw [if_neg (by simp [served]), if_neg (by simp [lit]), if_neg (by simp [h.runs]), if_neg (by simp [h.first, h.free, h.agent]),
    if_neg (by simp [h.read, h.code]), verdict, ← taken]
  rfl

theorem ingTakes_clean : provOver ((ingTakes r a i g s).row r) (g.addr / 64 % 1310720) ((g.addr % 64 + g.bytes + 63) / 64) = [] := by
  have prov : ((ingTakes r a i g s).row r).prov = (s.row r).prov := by
    rw [ingTakes_row h.row, h.ingTaken_eq]
    rfl
  rw [provOver_of_prov prov, h.clean]

/-- What decides on accesses is no matter of the transactions on their way. -/
theorem ingTakes_code : accessCode (ingTakes r a i g s) false g.addr g.bytes = .ok := by
  refine (accessCode_congr (by rfl) (by rfl) (by rfl) (fun q => ?_) ..).trans h.code
  by_cases hq : q = r
  · rw [hq, ingTakes_row h.row, h.ingTaken_eq]
    simp [scbEnter, arrivalLeft]
  · rw [ingTakes_rowsBut q hq]
    exact ⟨rfl, rfl, rfl⟩

theorem ingHolds_false : ingHolds (ingTakes r a i g s) r g = false := by
  simp [ingHolds, h.kind, h.read, provOrigins, h.ingTakes_clean]

theorem ingPerform_eq : ingPerform r a g false (ingTakes r a i g s) = ingRead r a i g s := by
  have tick : (answer g.bridge g.pkt .ok (memRead s g.addr g.bytes) (ingTakes r a i g s)).tb = s.tb :=
    congrArg Clk.tb (answer_keeps _ _ _ _ _ .clk (by decide))
  have bytes : memRead (ingTakes r a i g s) g.addr g.bytes = memRead s g.addr g.bytes := rfl
  simp [ingPerform, ingAnswer, h.kind, h.read, h.plain, h.ingTakes_code, poisonedOver, h.ingTakes_clean, bytes, tick]
  rfl

theorem execIngressTransaction_eq (settled : s.fab.winNext = []) : execIngressTransaction r a i false s = .next (ingRead r a i g s) := by
  have step := h.ingressStep_takes
  rw [if_neg (by simp [h.ingHolds_false]), h.ingPerform_eq] at step
  obtain ⟨l, fab⟩ := answer_fab g.bridge g.pkt .ok (memRead s g.addr g.bytes) s
  have none_waits : (ingRead r a i g s).fab.winNext = [] := by rw [ingRead_fab, fab]; exact settled
  simp only [execIngressTransaction, step]
  exact congrArg _ (windowsSettle_of_none none_waits)

theorem ingRead_row : (ingRead r a i g s).row r = agentFreed s.tb a (ingTaken s.tb a i g (s.row r)) := by
  have rows := answer_keeps g.bridge g.pkt .ok (memRead s g.addr g.bytes) (ingTakes r a i g s) .rows (by decide)
  have length : (ingTakes r a i g s).rows.length = s.rows.length := modRow_rows_length (s := touchHalf (halfOf r) s) _
  rw [ingRead, row_modRow_self (by rw [rows, length]; exact h.row), row_of_rows rows, ingTakes_row h.row]

end ReadGranted

/-! A core's access that outlives its timeout (18 R486). -/

theorem mget_mset_of_ne {α : Type} (l : List (Nat × α)) {k j : Nat} (v : α) (h : j ≠ k) : mget (mset l k v) j = mget l j := by
  induction l with
  | nil => simp [mset, mget, h.symm]
  | cons d l ih =>
    obtain ⟨k', w⟩ := d
    simp only [mset]
    split
    · simp [mget, h.symm]
    · split
      · next e => simp [mget, ← e, h.symm]
      · simp only [mget, ih]

/-- The core once its access has been given up. -/
def accessFaulted (m : PendMem) (x : Core) : Core := { x.trap (if m.isStore then 7 else 5) m.addr with mem := none }

theorem accessFaulted_cause (m : PendMem) (x : Core) : (accessFaulted m x).csrv 0x342 = if m.isStore then 7 else 5 := by
  simp only [accessFaulted, Core.trap, Core.csrv, Core.setCsr, mget_mset_self, mget_mset_of_ne _ _ (show 0x342 ≠ 0x300 by decide),
    mget_mset_of_ne _ _ (show 0x342 ≠ 0x343 by decide), Option.getD_some]
  split <;> rfl

theorem accessFaulted_pc (m : PendMem) (x : Core) : (accessFaulted m x).pc = BitVec.ofNat 64 (x.mtvec.toNat / 4 * 4) := by
  simp only [accessFaulted, Core.trap, Core.setCsr]

/-! Banks (11 R286 to R289). -/

theorem bank_modBank (hr : r < s.rows.length) (hb : b < (s.row r).banks.length) (f : Bank → Bank) : (s.modBank r b f).bank r b = f (s.bank r b) := by
  rw [State.bank, State.modBank, row_modRow_self hr]
  exact nth_modify_self f hb

theorem cellRead_filter (p : Nat → Bool) (l : List Host.Cell) (k : Nat) :
    cellRead (l.filter (fun c => !p c.1)) k = if p k then 0 else cellRead l k := by
  unfold cellRead
  induction l with
  | nil => simp [mget]
  | cons c l ih =>
    obtain ⟨j, v⟩ := c
    by_cases e : j = k
    · subst e
      cases hp : p j <;> simp_all [mget]
    · cases hp : p j <;> simp_all [mget]

/-- The bank's commands have been answered when it has come to ON. -/
def bankAnswered (r b : Nat) (s : State) : State :=
  rowPowerCheck r (completeWait wBank (40 * r + b) .ok [] [] (s.modBank r b (fun k =>
    { k with st := .on, idleSince := s.tb, tIdle := (s.row r).tBank, fromOff := false, wakeAfter := false })))

theorem bankAnswered_rows (r b : Nat) (s : State) : (bankAnswered r b s).rows = (s.modBank r b (fun k =>
    { k with st := .on, idleSince := s.tb, tIdle := (s.row r).tBank, fromOff := false, wakeAfter := false })).rows :=
  (rowPowerCheck_rows ..).trans ((keeps_completeWait _ _ _ _ _ _ (List.Subset.refl _)).2 Keeps.rfl' .rows (by decide))

theorem bankAnswered_mem (r b : Nat) (s : State) : (bankAnswered r b s).mem = s.mem := (rowPowerCheck_mem ..).trans (completeWait_mem ..)

section
variable (hr : r < s.rows.length) (hb : b < (s.row r).banks.length)
include hr hb

theorem bankAnswered_bank : (bankAnswered r b s).bank r b
    = { s.bank r b with st := .on, idleSince := s.tb, tIdle := (s.row r).tBank, fromOff := false, wakeAfter := false } := by
  rw [State.bank, row_of_rows (bankAnswered_rows r b s)]
  exact bank_modBank hr hb _

/-- With no BANK_POWER OFF waiting, a bank that has come to ON stays there. -/
theorem bankIsOn_stays (on : (s.bank r b).cmdOff = false) : bankIsOn r b s = bankAnswered r b s := by
  have kept : ((bankAnswered r b s).bank r b).cmdOff = false := by rw [bankAnswered_bank hr hb]; exact on
  exact if_neg fun waits => absurd (kept.symm.trans waits.2) (by decide)

end

/-! UCIe flits (11 R302, R303). -/

/-- An update of the state of one UCIe module. -/
def modUcie (m : Nat) (f : Ucie → Ucie) (s : State) : State := s.modFab (fun x => { x with ucie := x.ucie.modify m f })

theorem ucie_modUcie (hm : m < s.fab.ucie.length) (f : Ucie → Ucie) : nth (modUcie m f s).fab.ucie m = f (nth s.fab.ucie m) :=
  nth_modify_self f hm

section
variable (fitted : m < 16) (up : (nth s.fab.ucie m).up = true) {n cvc : Nat} {idle : Bool}
include fitted up

theorem execUcieFlitReceive_inOrder : execUcieFlitReceive m (nth s.fab.ucie m).rxSeq false true cvc n s
    = .next ((modUcie m (fun u => { u with rxSeq := (u.rxSeq + 1) % 1024, nakSent := false, replays := 0 })
        (modUcie m (fun u => { u with credits := u.credits.modify cvc (· + n) }) s)).send (.ucie m false (nth s.fab.ucie m).rxSeq)) := by
  unfold execUcieFlitReceive
  dsimp only
  rw [if_neg (by simp [up, fitted]), if_neg (by simp), if_neg (by simp), if_pos rfl]
  rfl

theorem execUcieFlitReceive_replayed (few : (nth s.fab.ucie m).replays < 8) (q : Nat) : execUcieFlitReceive m q idle false cvc n s
    = .next ((modUcie m (fun u => { u with nakSent := true, replays := u.replays + 1 }) s).send (.ucie m true (nth s.fab.ucie m).rxSeq)) := by
  unfold execUcieFlitReceive
  dsimp only
  rw [if_neg (by simp [up, fitted]), if_pos rfl, if_neg (by omega)]
  rfl

theorem execUcieFlitReceive_down (many : 8 ≤ (nth s.fab.ucie m).replays) (q : Nat) : ∃ x, execUcieFlitReceive m q idle false cvc n s
    = .next (errRecord x (modUcie m (fun u => { u with up := false }) s)) := by
  unfold execUcieFlitReceive
  dsimp only
  rw [if_neg (by simp [up, fitted]), if_pos rfl, if_pos (by omega)]
  exact ⟨_, rfl⟩

end

/-- Settles O26: each command changes the row, the bank or the module it names, and what it answers or records changes neither. -/
theorem ingressBanksAndLinks : Obligations.IngressBanksAndLinks := by
  refine ⟨fun s r a i g hr ha hl free here runs active first kind read plain code hv settled clean => ?performs,
    fun s r a i g here held settled => ?nothing, fun s r c m n hr hc hm started due => ?outlives,
    fun s r b runs hb on rest idle unused due => if_pos ⟨runs, hb, on, rest, idle, unused, due⟩,
    fun s r b used => if_neg (by simp [used]), fun s r b hr hb entering kept => ?enters,
    fun s r b hr hb hrl hbl scrub off _ => ?scrubs, fun s m q cvc n fitted hm up hq => ?inOrder,
    fun s m q cvc n idle fitted hm up few => ?replayed, fun s m q cvc n idle fitted hm up many => ?down⟩
  case performs =>
    have h : ReadGranted s r a i g := ⟨hr, ha, free, here, runs, active, first, kind, read, plain, code, hv, clean⟩
    refine ⟨ingRead r a i g s, h.execIngressTransaction_eq settled, ?_, ?_, ?_, ingRead_fab, ingRead_mem, ingRead_rowsBut⟩ <;> rw [h.ingRead_row]
    · rw [agentFreed_arrivals, h.ingTaken_eq]
      simp [scbEnter, arrivalLeft]
    · rw [agentFreed_ingress, h.ingTaken_eq]
      simp [nth, hl, ha]
    · exact agentFreed_owner _ _ _
  case nothing =>
    have step : ingressStep r a i false s = .next s := by simp only [ingressStep, here, held]
    show execIngressTransaction r a i false s = _
    simp only [execIngressTransaction, step, windowsSettle_of_none settled]
  case outlives =>
    have core : HasCore s r c := ⟨hr, hc⟩
    have run : ∃ x, execNetTimeoutExpiry 0 r c s = .next (errRecord x (s.modCore r c (accessFaulted m))) := by
      simp only [execNetTimeoutExpiry, hm]
      rw [if_pos (by simp [started, due])]
      exact ⟨_, rfl⟩
    obtain ⟨x, run⟩ := run
    have faulted : (errRecord x (s.modCore r c (accessFaulted m))).core r c = accessFaulted m (s.core r c) := by
      rw [core_of_rows (errRecord_rows ..), core_modCore core]
    refine ⟨_, run, ?_, ?_, ?_, by simp, errRecord_mem ..⟩ <;> rw [faulted]
    · rfl
    · exact accessFaulted_cause ..
    · exact accessFaulted_pc ..
  case enters =>
    show execBankTransitionComplete r b s = _
    unfold execBankTransitionComplete
    dsimp only
    rw [if_neg (by omega), if_neg (by simp [kept]), if_pos entering]
  case scrubs =>
    have run : execBankScrubEnd r b s = .next (bankAnswered r b (dropCells (bankKey r b) s)) :=
      (if_pos ⟨hr, hb, scrub⟩).trans (congrArg _ (bankIsOn_stays hrl hbl off))
    have read (k : Nat) : cellRead (bankAnswered r b (dropCells (bankKey r b) s)).mem.cells k
        = if bankKey r b k then 0 else cellRead s.mem.cells k := by
      rw [bankAnswered_mem]
      exact cellRead_filter ..
    refine ⟨_, run, ?_, fun k hk => ?_, fun k hk => ?_, ?_⟩
    · exact congrArg Bank.st (bankAnswered_bank (s := dropCells (bankKey r b) s) hrl hbl)
    · simp [read, hk]
    · simp [read, hk]
    · rw [rowsBut_of_rows (bankAnswered_rows ..)]
      exact (rowsBut_modRow _).2 RowsBut.rfl'
  case inOrder =>
    subst hq
    have module := ucie_modUcie (m := m) (s := modUcie m (fun u => { u with credits := u.credits.modify cvc (· + n) }) s)
      (by simpa [modUcie] using hm) (fun u => { u with rxSeq := (u.rxSeq + 1) % 1024, nakSent := false, replays := 0 })
    rw [ucie_modUcie hm] at module
    refine ⟨_, execUcieFlitReceive_inOrder fitted up, ?_, ?_, ?_, rfl, by simp [modUcie, State.send]⟩
    · exact congrArg Ucie.rxSeq module
    · exact congrArg Ucie.replays module
    · exact congrArg Ucie.nakSent module
  case replayed =>
    have module := ucie_modUcie hm (fun u => { u with nakSent := true, replays := u.replays + 1 })
    refine ⟨_, execUcieFlitReceive_replayed fitted up few q, ?_, ?_, ?_, rfl, by simp [modUcie, State.send]⟩
    · exact congrArg Ucie.nakSent module
    · exact congrArg Ucie.replays module
    · exact (congrArg Ucie.rxSeq module).trans rfl
  case down =>
    obtain ⟨x, run⟩ := execUcieFlitReceive_down fitted up (n := n) (cvc := cvc) (idle := idle) many q
    obtain ⟨l, fab⟩ := errRecord_fab x (modUcie m (fun u => { u with up := false }) s)
    refine ⟨_, run, ?_⟩
    rw [fab]
    exact congrArg Ucie.up (ucie_modUcie hm _)

end Sys2Proof.Machine
end

section
/-! SUPPORT. Memory's canonical form under the shared operations (log 8). A state is sound when it differs from
one that meets the invariant in other fields than memory alone; an operation that leaves memory alone is then a `Keeps` goal, and only the writes need the laws of memory. -/

namespace Sys2Proof.Machine

/-- Every field but the memory. -/
def memless : List Fld :=
  [.power, .clk, .rows, .fuse, .eeprom, .boot, .dmap, .fetch, .flash, .fab, .chavi, .mbx, .rings, .gw, .err, .cap, .therm, .wit, .sec, .attn, .out, .fresh, .pending]

@[simp] theorem mem_memless (f : Fld) : f ∈ memless ↔ f ≠ .mem := by cases f <;> decide

/-- The state holds the memory of one that meets the invariant. -/
abbrev Sound (t : State) : Prop := ∃ u : State, u.Inv ∧ Keeps memless u t

theorem sound_iff {s : State} : Sound s ↔ s.Inv := by
  constructor
  · rintro ⟨u, h, k⟩
    exact inv_of_cells (congrArg Mem.cells (k .mem (by simp))) h
  · intro h
    exact ⟨s, h, Keeps.rfl'⟩

@[simp] theorem sound_ite {c : Prop} [Decidable c] {P Q : State → Prop} :
    (∃ u : State, u.Inv ∧ (if c then P u else Q u)) ↔ if c then (∃ u : State, u.Inv ∧ P u) else ∃ u : State, u.Inv ∧ Q u := by
  split <;> rfl

theorem Sound.map {s t : State} (h : Sound s) (hi : s.Inv → t.Inv) : Sound t := sound_iff.2 (hi (sound_iff.1 h))

@[simp] theorem memWrite_sound {s : State} (a : Nat) (l : List Byte) (h : Sound s) : Sound (memWrite s a l) := h.map (memWrite_inv a l)

@[simp] theorem memZero_sound {s : State} (a n : Nat) (h : Sound s) : Sound (memZero s a n) := h.map (memZero_inv a n)

@[simp] theorem dropCells_sound {s : State} (p : Nat → Bool) (h : Sound s) : Sound (dropCells p s) := h.map (dropCells_inv p)

@[simp] theorem modMem_sound {s : State} (f : Mem → Mem) (hf : ∀ m, (f m).cells = m.cells) : Sound (s.modMem f) ↔ Sound s := by
  simp only [sound_iff, State.Inv, State.modMem_mem, hf]

@[simp] theorem modMemUnit_sound {s : State} (u : Nat) (f : MemUnit → MemUnit) : Sound (s.modMemUnit u f) ↔ Sound s := by
  unfold State.modMemUnit
  exact modMem_sound _ fun _ => rfl

@[simp] theorem each_sound {α : Type} (xs : List α) (g : α → State → State) {s : State}
    (hg : ∀ x t, Sound t → Sound (g x t)) (h : Sound s) : Sound (each xs g s) := by
  induction xs generalizing s with
  | nil => exact h
  | cons x xs ih => exact ih (hg x s h)

/-- What a command's meaning ends in is sound. -/
def Done.Sound : Done → Prop
  | .now _ _ _ t => Machine.Sound t
  | .later _ _ t => Machine.Sound t
  | .hold t => Machine.Sound t
  | .after t post => Machine.Sound t ∧ ∀ u, Machine.Sound u → Machine.Sound (post u)

/-- What an instruction of a core ends in is sound. -/
def Ran.Sound : Ran → Prop
  | .done t => Machine.Sound t
  | .trap _ _ t => Machine.Sound t

/-- What an access of a core ends in is sound. -/
def Acc1.Sound : Acc1 → Prop
  | .ok _ t => Machine.Sound t
  | .trap _ _ t => Machine.Sound t

@[simp] theorem Done.sound_now {t : State} (c i d) : (Done.now c i d t).Sound ↔ Machine.Sound t := Iff.rfl

@[simp] theorem Done.sound_later {t : State} (c i) : (Done.later c i t).Sound ↔ Machine.Sound t := Iff.rfl

@[simp] theorem Done.sound_hold {t : State} : (Done.hold t).Sound ↔ Machine.Sound t := Iff.rfl

@[simp] theorem Done.sound_after {t : State} (p) : (Done.after t p).Sound ↔ Machine.Sound t ∧ ∀ u, Machine.Sound u → Machine.Sound (p u) := Iff.rfl

@[simp] theorem Ran.sound_done {t : State} : (Ran.done t).Sound ↔ Machine.Sound t := Iff.rfl

@[simp] theorem Ran.sound_trap {t : State} (c i) : (Ran.trap c i t).Sound ↔ Machine.Sound t := Iff.rfl

@[simp] theorem Acc1.sound_ok {t : State} (l) : (Acc1.ok l t).Sound ↔ Machine.Sound t := Iff.rfl

@[simp] theorem Acc1.sound_trap {t : State} (c i) : (Acc1.trap c i t).Sound ↔ Machine.Sound t := Iff.rfl

@[simp] theorem Done.sound_ite {c : Prop} [Decidable c] {a b : Done} : (if c then a else b).Sound ↔ if c then a.Sound else b.Sound := by split <;> rfl

@[simp] theorem Ran.sound_ite {c : Prop} [Decidable c] {a b : Ran} : (if c then a else b).Sound ↔ if c then a.Sound else b.Sound := by split <;> rfl

@[simp] theorem Acc1.sound_ite {c : Prop} [Decidable c] {a b : Acc1} : (if c then a else b).Sound ↔ if c then a.Sound else b.Sound := by split <;> rfl

variable {s : State}


/-! Vectors, completion entries and the end of requests and rows. -/

@[simp] theorem startRetire_sound (k : Nat) (hs : Sound s) : Sound (startRetire k s) := by
  unfold startRetire
  simp [Sound, hs]

@[simp] theorem writeVec_sound (r : Nat) (l : List (Nat × List Byte)) (hs : Sound s) : Sound (writeVec r l s) :=
  each_sound _ _ (fun _ _ => memWrite_sound _ _) hs

@[simp] theorem finishVec_sound (f : Feed) (r t : Nat) (x : Tile) (y : Issued) (ws : WSet) (v k : Nat) (cs : List Col) (a : VecAcc) (hs : Sound s) : Sound (finishVec f r t x y ws v k cs a s) := by
  unfold finishVec
  dsimp only
  repeat' split
  all_goals simp [Sound, hs]

@[simp] theorem evalVec_sound (f : Feed) (r t i : Nat) (x : Tile) (ws : WSet) (k v : Nat) (hs : Sound s) : Sound (evalVec f r t i x ws k v s) := by
  unfold evalVec
  dsimp only
  repeat' split
  all_goals simp [Sound, hs]

@[simp] theorem writeCpl_sound (n : Nat) (e : List Byte) (hs : Sound s) : Sound (writeCpl n e s) := by
  unfold writeCpl
  dsimp only
  repeat' split
  all_goals simp [Sound, hs]

@[simp] theorem deliverCpl_sound (n : Nat) (g : RqRing) (e : List Byte) (stamp : Nat) (hs : Sound s) : Sound (deliverCpl n g e stamp s).2 := by
  unfold deliverCpl
  repeat' split
  all_goals simp [Sound, hs]

@[simp] theorem postDevice_sound (n : Nat) (e : List Byte) (stamp : Nat) (hs : Sound s) : Sound (postDevice n e stamp s) := by
  unfold postDevice
  dsimp only
  split
  · exact hs
  next g _ =>
  have delivered := deliverCpl_sound n g e stamp hs
  repeat' split
  · exact hs
  · simpa [Sound] using hs
  · next heq => rw [heq] at delivered; exact delivered
  · simpa [Sound] using hs
  · simpa [Sound] using hs

@[simp] theorem endUnpopped_sound (k n : Nat) (c : Code) (hs : Sound s) : Sound (endUnpopped k n c s) := by
  induction k generalizing s with
  | zero => exact hs
  | succ k ih =>
    unfold endUnpopped
    dsimp only
    repeat' split
    · exact hs
    · exact hs
    · exact ih (postDevice_sound _ _ _ (by simp [Sound, hs]))

@[simp] theorem endRequests_sound (n : Nat) (p : Req → Bool) (c : Code) (hs : Sound s) : Sound (endRequests n p c s) := by
  unfold endRequests
  dsimp only
  split
  · exact hs
  · exact each_sound _ _ (fun q _ => postDevice_sound n _ _) (by simpa [Sound] using hs)

@[simp] theorem endRowRings_sound (r : Nat) (hs : Sound s) : Sound (endRowRings r s) :=
  each_sound _ _ (fun _ _ ht => endUnpopped_sound _ _ _ (endRequests_sound _ _ _ ht)) hs

@[simp] theorem loseRow_sound (r : Nat) (hs : Sound s) : Sound (loseRow r s) := by
  unfold loseRow
  simp [Sound, hs]

@[simp] theorem rowToOff_sound (r : Nat) (hs : Sound s) : Sound (rowToOff r s) := by
  unfold rowToOff
  simp [Sound, hs]

@[simp] theorem forceOff_sound (r : Nat) (hs : Sound s) : Sound (forceOff r s) := by
  have off : Sound (rowToOff r (endRowRings r (poisonRow r s))) := rowToOff_sound r (endRowRings_sound r (by simp [Sound, hs]))
  unfold forceOff
  simp [Sound, off]

@[simp] theorem allOff_sound (hs : Sound s) : Sound (allOff s) := each_sound _ _ (fun r _ => forceOff_sound r) hs

@[simp] theorem stageStop_sound (fs : List Finding) (hs : Sound s) : Sound (stageStop fs s) := by
  unfold stageStop
  simp [Sound, hs]

@[simp] theorem finish_sound (op : Nat) (h : CmdHdr) (mseq : Nat) (c : Code) (inline data : List Byte) (hs : Sound s) : Sound (finish op h mseq c inline data s) := by
  unfold finish
  simp [Sound, hs]

@[simp] theorem completeCmd_sound (k : Cmd) (c : Code) (inline data : List Byte) (hs : Sound s) : Sound (completeCmd k c inline data s) := by
  unfold completeCmd
  simp [Sound, hs]

@[simp] theorem completeWait_sound (w a : Nat) (c : Code) (inline data : List Byte) (hs : Sound s) : Sound (completeWait w a c inline data s) :=
  each_sound _ _ (fun k _ => completeCmd_sound k c inline data) hs

@[simp] theorem failBatches_sound (p : Nat → Bool) (hs : Sound s) : Sound (failBatches p s) :=
  each_sound _ _ (fun t _ => completeWait_sound wBatch t _ _ _) (by simpa [Sound] using hs)

@[simp] theorem cardFail_sound (c reason : Nat) (hs : Sound s) : Sound (cardFail c reason s) := by
  unfold cardFail
  simp [Sound, hs]

/-! Memory units, tables, fetches and the loss of a supply. -/

@[simp] theorem memMark_sound (a : Nat) (hs : Sound s) : Sound (memMark a s) := by
  unfold memMark
  dsimp only
  split <;> simp [Sound, hs]

@[simp] theorem memMeets_sound (op : Nat) (gs : List (Nat × Nat)) (hs : Sound s) : Sound (memMeets op gs s) := by
  unfold memMeets
  dsimp only
  repeat' split
  all_goals simp [Sound, hs]

@[simp] theorem tableGone_sound (t : Nat) (hs : Sound s) : Sound (tableGone t s) := by
  unfold tableGone
  dsimp only
  repeat' split
  all_goals simp [Sound, hs]

@[simp] theorem writeFetchRecord_sound (b : Nat) (r : FetchRun) (hs : Sound s) : Sound (writeFetchRecord b r s) := by
  unfold writeFetchRecord
  simp [Sound, hs]

@[simp] theorem fetchesDown_sound (b : Nat) (local_ : Bool) (hs : Sound s) : Sound (fetchesDown b local_ s) :=
  each_sound _ _ (fun t _ => tableGone_sound t) (each_sound _ _ (fun _ _ => writeFetchRecord_sound b _) (by simpa [Sound] using hs))

@[simp] theorem bindSettle_sound (n : Nat) (hs : Sound s) : Sound (bindSettle n s) := by
  unfold bindSettle
  repeat' split
  all_goals simp [Sound, hs]

@[simp] theorem bridgeStop_sound (b : Nat) (hs : Sound s) : Sound (bridgeStop b s) := by
  unfold bridgeStop
  extract_lets s₁ gone s₂ s₃ s₄ s₅
  have down : Sound s₁ := each_sound _ _ (fun p t ht => by split <;> simp [Sound, ht]) hs
  have dropped : Sound s₃ := by simpa [s₃, s₂, Sound] using down
  have settled : Sound s₄ := each_sound _ _ (fun n _ => bindSettle_sound n) dropped
  have disarmed : Sound s₅ := by
    unfold s₅
    split
    · exact completeWait_sound _ _ _ _ _ (by simpa [Sound] using settled)
    · exact settled
  simpa [Sound] using disarmed

@[simp] theorem bridgeLost_sound (b : Nat) (hs : Sound s) : Sound (bridgeLost b s) := by
  unfold bridgeLost
  extract_lets s₁ s₂ s₃ s₄
  have stopped : Sound s₂ := failBatches_sound _ (bridgeStop_sound b (fetchesDown_sound b true hs))
  have lost : Sound s₃ := by
    refine each_sound _ _ (fun u t ht => ?_) stopped
    split
    · exact ht
    · exact (modMemUnit_sound _ _).2 (dropCells_sound _ ht)
  have mapped : Sound s₄ := by simpa [s₄, Sound] using lost
  split <;> simp [Sound, mapped]

@[simp] theorem rowPowerCheck_sound (r : Nat) (hs : Sound s) : Sound (rowPowerCheck r s) := by
  unfold rowPowerCheck
  extract_lets w s₁ s₂
  have asleep : Sound s₁ := by unfold s₁; split <;> simp [Sound, hs]
  have off : Sound s₂ := by
    unfold s₂
    split
    · exact each_sound _ _ (fun b t ht => by split <;> simp [Sound, ht]) (completeWait_sound _ _ _ _ _ asleep)
    · exact asleep
  split
  · exact completeWait_sound _ _ _ _ _ off
  · exact off

@[simp] theorem offNow_sound (r : Nat) (hs : Sound s) : Sound (offNow r s) := by
  unfold offNow
  simp [Sound, hs]

@[simp] theorem rowSupplyLost_sound (r : Nat) (hs : Sound s) : Sound (rowSupplyLost r s) := by
  unfold rowSupplyLost
  simp [Sound, hs]

@[simp] theorem memUnitFail_sound (u reason : Nat) (hs : Sound s) : Sound (memUnitFail u reason s) := by
  unfold memUnitFail
  simp [Sound, hs]

@[simp] theorem stackLost_sound (u reason : Nat) (hs : Sound s) : Sound (stackLost u reason s) := by
  unfold stackLost
  simp [Sound, hs]

@[simp] theorem edgeLost_sound (e : Nat) (hs : Sound s) : Sound (edgeLost e s) := each_sound _ _ (fun u _ => stackLost_sound u 4) hs

@[simp] theorem nocLost_sound (h : Nat) (hs : Sound s) : Sound (nocLost h s) := by
  unfold nocLost
  have off := each_sound ((List.range 6).map (· + 6 * h)) (fun r s => (offNow r s).modConv r (fun c => { c with stagedAt := none }))
    (fun r t ht => by simpa [Sound] using offNow_sound r ht) hs
  simpa [Sound] using off

theorem inputLost_sound (hs : Sound s) : Sound (each ((List.range 24).filter (fun i => (s.sw i).st == .on || (s.sw i).st == .starting)) (fun i s =>
      let s := switchOff i s
      if i < 16 then memUnitFail (8 + i) 5 s else cardFail (i - 16) 5 s) s) := by
  refine each_sound _ _ (fun i t ht => ?_) hs
  have off : Sound (switchOff i t) := by simpa [Sound] using ht
  dsimp only
  split
  · exact memUnitFail_sound _ _ off
  · exact cardFail_sound _ _ off

@[simp] theorem railEffect_sound (x : SharedRail) (hs : Sound s) : Sound (railEffect x s) := by
  cases x with
  | vbus12 =>
    have rows : Sound (each (List.range 12) rowSupplyLost s) := each_sound _ _ (fun r _ => rowSupplyLost_sound r) hs
    have spines := bridgeLost_sound 1 (edgeLost_sound 1 (edgeLost_sound 0 (nocLost_sound 1 (nocLost_sound 0 rows))))
    simpa [railEffect, Sound] using inputLost_sound spines
  | _ => simp [railEffect, Sound, hs]

@[simp] theorem bu2Rail_sound (trips : List SharedRail) (x : SharedRail) (hs : Sound s) : Sound (bu2Rail trips x s) := by
  unfold bu2Rail
  simp [Sound, hs]

@[simp] theorem darken_sound (r : Nat) (st : PwrState) (hs : Sound s) : Sound (darken r st s) := by
  have ended : Sound (endRowRings r (poisonRow r (setConv r st false s))) := endRowRings_sound r (by simpa [Sound] using hs)
  have lost : Sound (loseRow r (leaveQueue r (endRowRings r (poisonRow r (setConv r st false s))))) :=
    loseRow_sound r (by simpa [Sound] using ended)
  simpa [darken, Sound] using lost

/-! The stages of the bring-up. -/

@[simp] theorem bu2Stage_sound (r : Nat) (hs : Sound s) : Sound (bu2Stage r s) := by
  have lost := loseRow_sound r hs
  unfold bu2Stage
  dsimp only
  split
  · simpa [Sound] using lost
  · exact forceOff_sound r (by simpa [Sound] using lost)

@[simp] theorem bu2Row_sound (trips : List Nat) (r : Nat) (hs : Sound s) : Sound (bu2Row trips r s) := by
  have cleared (f : Conv → Conv) : Sound (s.modConv r f) := by simpa [Sound] using hs
  unfold bu2Row
  dsimp only
  split
  · exact cleared _
  · refine each_sound _ _ (fun _ _ ht => by simpa [Sound] using ht) ?_
    split
    · exact darken_sound r _ (cleared _)
    · exact bu2Stage_sound r (cleared _)

@[simp] theorem restartTests_sound (hs : Sound s) : Sound (restartTests s) :=
  each_sound _ _ (fun x _ => completeWait_sound wRecover x.unit _ _ _) (by simpa [Sound] using hs)

@[simp] theorem retirePage_sound (k : Nat) (hs : Sound s) : Sound (retirePage k s) := by
  unfold retirePage
  dsimp only
  repeat' split
  all_goals simp [Sound, hs]

@[simp] theorem testMem_sound (t : MemTest) (hs : Sound s) : Sound (testMem t s).1 := by
  unfold testMem
  extract_lets u s₁ s₂ reason fs s₃ s₄ s₅
  have emptied : Sound s₁ := dropCells_sound _ (by simpa [Sound] using hs)
  have retired : Sound s₃ := each_sound _ _ (fun _ _ => retirePage_sound _) ((modMemUnit_sound _ _).2 emptied)
  have failed : Sound s₄ := (modMem_sound _ (by intro; rfl)).2 retired
  split
  · show Sound s₅
    unfold s₅
    split <;> simp [Sound, failed]
  · exact (modMemUnit_sound _ _).2 retired

theorem memTests_sound (res : List MemTest) (us : List Nat) (p : State × List Finding) (hp : Sound p.1) :
    Sound (us.foldl (fun (p : State × List Finding) u =>
      let t := (res.find? (·.unit == u)).getD { unit := u }
      let q := testMem { t with reason := (memSupply p.1 u).getD t.reason } p.1
      (q.1, p.2 ++ q.2)) p).1 := by
  induction us generalizing p with
  | nil => exact hp
  | cons u us ih => exact ih _ (testMem_sound _ hp)

@[simp] theorem memStage_sound (us : List Nat) (res : List MemTest) (hs : Sound s) : Sound (memStage us res s) := by
  unfold memStage
  extract_lets here todo s₁ s₂ p
  have away : Sound s₁ := each_sound _ _ (fun _ _ => (modMemUnit_sound _ _).2) hs
  have trusted : Sound s₂ := each_sound _ _ (fun _ _ => (modMemUnit_sound _ _).2) away
  have tested : Sound p.1 := memTests_sound res todo _ trusted
  split
  · simpa [Sound] using trusted
  · simpa [Sound] using tested

@[simp] theorem purgeHead_sound (k n : Nat) (hs : Sound s) : Sound (purgeHead k n s) := by
  induction k generalizing s with
  | zero => exact hs
  | succ k ih =>
    unfold purgeHead
    dsimp only
    repeat' split
    · exact hs
    · exact hs
    · exact ih (postDevice_sound _ _ _ (by simp [Sound, hs]))
    · exact hs

/-! Rings and the host's accesses. -/

@[simp] theorem newEntries_sound (n : Nat) (g : RqRing) (hs : Sound s) : Sound (newEntries n g s) := by
  unfold newEntries
  dsimp only
  repeat' split
  all_goals simp [Sound, hs]

@[simp] theorem drainHeld_sound (k n : Nat) (hs : Sound s) : Sound (drainHeld k n s) := by
  induction k generalizing s with
  | zero => exact hs
  | succ k ih =>
    unfold drainHeld
    dsimp only
    split
    · exact hs
    · next g _ =>
      split
      · exact hs
      · next e st rest _ =>
        have freed : Sound (s.modRing n fun g => { g with held := rest }) := by simpa [Sound] using hs
        have delivered := deliverCpl_sound n { g with held := rest } e st freed
        split
        · exact hs
        · split
          · next heq => rw [heq] at delivered; exact ih delivered
          · exact hs
          · exact ih (by simpa [Sound] using freed)

@[simp] theorem doorbell_sound (frm : DbFrom) (word : Nat) (hs : Sound s) : Sound (doorbell frm word s).2 := by
  unfold doorbell
  dsimp only
  repeat' split
  all_goals simp [Sound, hs]

@[simp] theorem hostBell_sound (q : HostReq) (hs : Sound s) : Sound (hostBell q s) := by
  unfold hostBell
  simp [Sound, hs]

@[simp] theorem hostPerform_sound (q : HostReq) (hs : Sound s) : Sound (hostPerform q s) := by
  unfold hostPerform
  repeat' split
  all_goals simp [Sound, hs]

@[simp] theorem hostArrive_sound (q : HostReq) (hs : Sound s) : Sound (hostArrive q s) := by
  unfold hostArrive
  simp [Sound, hs]

@[simp] theorem hostAccess_sound (h : ChaviHdr) (wr : Bool) (win off len arg : Nat) (data : List Byte) (hs : Sound s) : Sound (hostAccess h wr win off len arg data s) := by
  unfold hostAccess
  dsimp only
  repeat' split
  all_goals simp [Sound, hs]

@[simp] theorem hostWindow_sound (h : ChaviHdr) (wr : Bool) (win off wepoch len arg : Nat) (data : List Byte) (hs : Sound s) : Sound (hostWindow h wr win off wepoch len arg data s) := by
  unfold hostWindow
  repeat' split
  all_goals simp [Sound, hs]

@[simp] theorem dmaWrite_sound (d : DmaDesc) (taint : List (Nat × Nat)) (bad : Bool) (l : List (Nat × List Byte)) (hs : Sound s) : Sound (dmaWrite d taint bad l s) := by
  have written := each_sound l (fun p s => memWrite s p.1 p.2) (fun _ _ => memWrite_sound _ _) hs
  simp only [dmaWrite]
  split
  · exact written
  · simpa [Sound] using written

@[simp] theorem ingPerform_sound (r a : Nat) (g : Ingress) (bad : Bool) (hs : Sound s) : Sound (ingPerform r a g bad s) := by
  unfold ingPerform
  simp [Sound, hs]

/-! The fabric. -/

@[simp] theorem windowsSettle_sound (hs : Sound s) : Sound (windowsSettle s) := by
  refine each_sound _ _ (fun p t ht => ?_) hs
  dsimp only
  split
  · exact ht
  · simpa [Sound] using completeWait_sound _ _ _ _ _ (by simpa [Sound] using ht)

@[simp] theorem memPerform_sound (b : Nat) (p : Pkt) (a : Nat) (hs : Sound s) : Sound (memPerform b p a s) := by
  unfold memPerform
  dsimp only
  repeat' split
  all_goals simp [Sound, hs]

@[simp] theorem windowGo_sound (b i : Nat) (p : Pkt) (hs : Sound s) : Sound (windowGo b i p s) := by
  unfold windowGo
  dsimp only
  repeat' split
  all_goals simp [Sound, hs]

@[simp] theorem windowReq_sound (b i : Nat) (p : Pkt) (hs : Sound s) : Sound (windowReq b i p s) := by
  unfold windowReq
  repeat' split
  all_goals simp [Sound, hs]

@[simp] theorem sendOver_sound (n : Nat) (hs : Sound s) : Sound (sendOver n s) := by
  unfold sendOver
  simp [Sound, hs]

@[simp] theorem requestDone_sound (t : Tracked) (status : Nat) (hs : Sound s) : Sound (requestDone t status s) := by
  unfold requestDone
  repeat' split
  all_goals simp [Sound, hs]

@[simp] theorem responseIn_sound (b : Nat) (p : Pkt) (hs : Sound s) : Sound (responseIn b p s) := by
  unfold responseIn
  repeat' split
  all_goals simp [Sound, hs]

@[simp] theorem doorbellPkt_sound (b i : Nat) (p : Pkt) (hs : Sound s) : Sound (doorbellPkt b i p s) := by
  unfold doorbellPkt
  dsimp only
  repeat' split
  all_goals simp [Sound, hs]

@[simp] theorem verdictHeld_sound (b tag : Nat) (v : Verdict) (hs : Sound s) : Sound (verdictHeld b tag v s) := by
  refine each_sound _ _ (fun h t ht => ?_) (by simpa [Sound] using hs)
  cases v with
  | confirmed => exact memPerform_sound b h.1 _ ht
  | poisoned => simpa [Sound] using ht

@[simp] theorem poisonPkt_sound (port b : Nat) (p : Pkt) (hs : Sound s) : Sound (poisonPkt port b p s) := by
  unfold poisonPkt
  dsimp only
  split
  · simpa [Sound] using hs
  · refine windowsSettle_sound ?_
    simpa [Sound] using verdictHeld_sound b _ _ (by simpa [Sound] using hs)

@[simp] theorem deliverPkt_sound (port b i : Nat) (p : Pkt) (hs : Sound s) : Sound (deliverPkt port b i p s) := by
  unfold deliverPkt
  dsimp only
  repeat' split
  all_goals simp [Sound, hs]

@[simp] theorem injectOut_sound (b : Nat) (hs : Sound s) : Sound (injectOut b s) := by
  unfold injectOut
  dsimp only
  repeat' split
  all_goals simp [Sound, hs]

/-! Cards, tables, programs and resets. -/

@[simp] theorem endSlotRequests_sound (r c : Nat) (code : Code) (hs : Sound s) : Sound (endSlotRequests r c code s) :=
  each_sound _ _ (fun p _ => endRequests_sound p.1 _ code) hs

@[simp] theorem restoreSlotCore_sound (r c relrec : Nat) (hs : Sound s) : Sound (restoreSlotCore r c relrec s) := by
  unfold restoreSlotCore
  simp [Sound, hs]

@[simp] theorem recoveryDone_sound (x : Recovery) (hs : Sound s) : Sound (recoveryDone x s) := by
  unfold recoveryDone
  simp [Sound, hs]

@[simp] theorem fetchEnd_sound (b e : Nat) (hs : Sound s) : Sound (fetchEnd b e s) := by
  unfold fetchEnd
  dsimp only
  repeat' split
  all_goals simp [Sound, hs]

@[simp] theorem cardFollow_sound (c : Nat) (hs : Sound s) : Sound (cardFollow c s) := by
  unfold cardFollow
  repeat' split
  all_goals simp [Sound, hs]

@[simp] theorem fchanSet_sound (c k : Nat) (st : FChanState) (reason : Nat) (hs : Sound s) : Sound (fchanSet c k st reason s) := by
  unfold fchanSet
  extract_lets s₁ s₂ s₃
  have moved : Sound s₂ := by
    unfold s₂ s₁
    split <;> simp [Sound, hs]
  have failed : Sound s₃ := by
    unfold s₃
    split
    · exact failBatches_sound _ moved
    · exact moved
  split
  · exact hs
  · exact cardFollow_sound c failed

@[simp] theorem cacheUpdate_sound (t : Table) (x : Nat) (bytes : List Byte) (hs : Sound s) : Sound (cacheUpdate t x bytes s) := by
  unfold cacheUpdate
  repeat' split
  all_goals simp [Sound, hs]

@[simp] theorem applyRows_sound (t : Nat) (d : Table) (rows : List (Nat × List Byte)) (keys : List (Nat × Nat)) (hs : Sound s) : Sound (applyRows t d rows keys s) := by
  have placed (p : Nat × List Byte) (u : State) (hu : Sound u) : Sound (cacheUpdate d p.1 p.2
      (if d.home = .flash then u.modFlash (fun f => { f with rows := kset f.rows (t, p.1) p.2 }) else memWrite u (d.rowBase + p.1 * d.rowBytes) p.2)) := by
    refine cacheUpdate_sound _ _ _ ?_
    split <;> simp [Sound, hu]
  have keyed := each_sound keys (fun p s => memWrite s (d.keyBase + 8 * p.1) (leBytes 8 p.2)) (fun _ _ => memWrite_sound _ _) (each_sound rows _ placed hs)
  unfold applyRows
  simpa [Sound] using keyed

@[simp] theorem batchDone_sound (t : Nat) (hs : Sound s) : Sound (batchDone t s) := by
  unfold batchDone
  simp [Sound, hs]

@[simp] theorem joinDrains_sound (ks : List Nat) (hs : Sound s) : Sound (joinDrains ks s) := by
  unfold joinDrains
  simp [Sound, hs]

@[simp] theorem claimPages_sound (ks : List Nat) (hs : Sound s) : Sound (claimPages ks s) := by
  unfold claimPages
  simp [Sound, hs]

@[simp] theorem zeroTags_sound (t : Table) (hs : Sound s) : Sound (zeroTags t s) := by
  refine each_sound _ _ (fun x u hu => ?_) hs
  split
  · exact memZero_sound _ _ hu
  · exact hu

@[simp] theorem tablePlace_sound (n : Nat) (t : Table) (mapInit : Nat) (hs : Sound s) : Sound (tablePlace n t mapInit s) := by
  unfold tablePlace
  extract_lets part maps s₁ s₂ s₃
  have tagged : Sound s₂ := zeroTags_sound t (claimPages_sound _ hs)
  have mapped : Sound s₃ := by
    unfold s₃
    split
    · exact memWrite_sound _ _ tagged
    · exact tagged
  simpa [Sound] using mapped

@[simp] theorem rowPowerFail_sound (r : Nat) (c : Code) (hs : Sound s) : Sound (rowPowerFail r c s) :=
  each_sound _ _ (fun _ _ ht => completeWait_sound _ _ _ _ _ (completeWait_sound _ _ _ _ _ ht))
    (each_sound _ _ (fun _ _ ht => completeWait_sound _ _ _ _ _ ht) hs)

@[simp] theorem loadWrite_sound (r region : Nat) (img : List Byte) (hs : Sound s) : Sound (loadWrite r region img s) :=
  each_sound _ _ (fun _ _ => memWrite_sound _ _) (each_sound _ _ (fun _ _ => memWrite_sound _ _) hs)

@[simp] theorem loadGo_sound (r prog : Nat) (paired : Bool) (region units src len : Nat) (hs : Sound s) : Sound (loadGo r prog paired region units src len s) := by
  unfold loadGo
  simp [Sound, hs]

@[simp] theorem resetCore_sound (r c : Nat) (code : Code) (hs : Sound s) : Sound (resetCore r c code s) := by
  unfold resetCore
  simp [Sound, hs]

@[simp] theorem unloadDone_sound (r prog : Nat) (hs : Sound s) : Sound (unloadDone r prog s) := by
  unfold unloadDone
  repeat' split
  all_goals simp [Sound, hs]

@[simp] theorem warmRestart_sound (hs : Sound s) : Sound (warmRestart s) := by
  unfold warmRestart
  simp [Sound, hs]

@[simp] theorem rowReset_sound (r : Nat) (hs : Sound s) : Sound (rowReset r s) := by
  have ended := each_sound (s.rings.rings.filter (fun p => p.2.owner == r)) (fun p => endRequests p.1 (fun _ => true) .poisoned)
    (fun p _ => endRequests_sound p.1 _ _) hs
  unfold rowReset
  simpa [Sound] using ended

@[simp] theorem bridgeReset_sound (b : Nat) (hs : Sound s) : Sound (bridgeReset b s) := by
  unfold bridgeReset
  extract_lets s₁ s₂ s₃ s₄
  have down : Sound s₁ := failBatches_sound _ (fetchesDown_sound b false hs)
  have refreshed : Sound s₂ := each_sound _ _ (fun _ _ => (modMemUnit_sound _ _).2) down
  have stopped : Sound s₃ := by simpa [s₃, Sound] using bridgeStop_sound b refreshed
  refine windowsSettle_sound ?_
  unfold s₄
  split <;> simp [Sound, stopped]

@[simp] theorem railsDown_sound : Sound (railsDown s) := sound_iff.2 rfl

@[simp] theorem vspineDown_sound : Sound (vspineDown s) := sound_iff.2 rfl

/-! Errors and moves of memory pages. -/

@[simp] theorem memUncorr_sound (a : Nat) (hs : Sound s) : Sound (memUncorr a s) := by
  unfold memUncorr
  dsimp only
  repeat' split
  all_goals simp [Sound, hs]

@[simp] theorem memCorr_sound (k : Nat) (hs : Sound s) : Sound (memCorr k s) := by
  unfold memCorr
  simp [Sound, hs]

@[simp] theorem movePage_sound (k : Nat) (t : Nat × Nat × Option Nat) (hs : Sound s) : Sound (movePage k t s) := by
  unfold movePage
  exact (modMem_sound _ fun _ => by dsimp only; split <;> rfl).2 hs

@[simp] theorem releaseLender_sound (e : PageEnt) (hs : Sound s) : Sound (releaseLender e s) := by
  unfold releaseLender
  exact (modMem_sound _ fun _ => by split <;> rfl).2 hs

@[simp] theorem returnPage_sound (k : Nat) (hs : Sound s) : Sound (returnPage k s) := by
  unfold returnPage
  dsimp only
  repeat' split
  all_goals simp [Sound, hs]

@[simp] theorem returned_sound (u : Nat) (hs : Sound s) : Sound (returned u s) := by
  unfold returned
  simp [Sound, hs]

@[simp] theorem drained_sound (u : Nat) (hs : Sound s) : Sound (drained u s) := by
  unfold drained
  simp [Sound, hs]

@[simp] theorem cacheTouch_sound (t : Table) (x w : Nat) (hs : Sound s) : Sound (cacheTouch t x w s) := by
  unfold cacheTouch
  simp [Sound, hs]

@[simp] theorem cacheFill_sound (t : Table) (x : Nat) (bytes : List Byte) (hs : Sound s) : Sound (cacheFill t x bytes s) := by
  unfold cacheFill
  simp [Sound, hs]

/-! Temperatures and tests. -/

@[simp] theorem thermalHalt_sound (k : Nat) (hs : Sound s) : Sound (thermalHalt k s) := by
  unfold thermalHalt
  extract_lets s₁ s₂ s₃ s₄
  have off : Sound s₂ := each_sound _ _ (fun r _ => offNow_sound r) (by simpa [s₁, Sound] using hs)
  simpa [s₄, s₃, Sound] using off

@[simp] theorem switchCritical_sound (k : Nat) (hs : Sound s) : Sound (switchCritical k s) := by
  unfold switchCritical
  simp [Sound, hs]

@[simp] theorem unitThrottle_sound (k : Nat) (hs : Sound s) : Sound (unitThrottle k s) := by
  unfold unitThrottle
  simp [Sound, hs]

@[simp] theorem senseIn_sound (k : Nat) (v : Int) (hs : Sound s) : Sound (senseIn k v s) := by
  unfold senseIn
  simp [Sound, hs]

@[simp] theorem sense_sound (k : Nat) (v : Int) (hs : Sound s) : Sound (sense k v s) := by
  unfold sense
  extract_lets s₁ crit s₂ s₃
  have read : Sound s₁ := by simpa [s₁, senseIn, Sound] using hs
  have warm : Sound s₂ := by simpa [s₂, Sound] using read
  have throttled : Sound s₃ := unitThrottle_sound k read
  repeat' split
  · exact hs
  · exact thermalHalt_sound k warm
  · exact warm
  · exact switchCritical_sound k throttled
  · exact throttled

@[simp] theorem rowOutCheck_sound (r : Nat) (hs : Sound s) : Sound (rowOutCheck r s) := by
  unfold rowOutCheck
  extract_lets d gone s₁ s₂
  have out : Sound s₂ := by simpa [s₂, s₁, Sound] using hs
  split
  · simpa [Sound] using rowPowerFail_sound r .unitRetired (offNow_sound r out)
  · simpa [Sound] using hs

@[simp] theorem pushMatched_sound (n r c : Nat) (g : RqRing) (q : Req) (e : List Byte) (hs : Sound s) : Sound (pushMatched n r c g q e s).2 := by
  have delivered := deliverCpl_sound n g e (8 * r + c) hs
  unfold pushMatched
  dsimp only
  split
  · exact hs
  split
  · split <;> simp [Sound, hs]
  split
  · next heq =>
    rw [heq] at delivered
    simpa [Sound] using delivered
  · exact hs

@[simp] theorem enginePush_sound (n r c : Nat) (e : List Byte) (hs : Sound s) : Sound (enginePush n r c e s).2 := by
  unfold enginePush
  repeat' split
  all_goals simp [Sound, hs]

@[simp] theorem enginePushBad_sound (n r c : Nat) (e : List Byte) (hs : Sound s) : Sound (enginePushBad n r c e s).2 := by
  unfold enginePushBad
  split
  · exact hs
  next g _ =>
  split
  · simpa [Sound] using hs
  next q _ =>
  have delivered := deliverCpl_sound n g (errCpl q.tag q.job .poisoned) (8 * r + c) hs
  split
  · exact hs
  split
  · next heq => rw [heq] at delivered; simpa [Sound] using delivered
  · exact hs

@[simp] theorem grantOwner_sound (r : Nat) (q : ScbReq) (bad : Bool) (hs : Sound s) : Sound (grantOwner r q bad s) := by
  unfold grantOwner
  dsimp only
  repeat' split
  all_goals simp [Sound, hs]

@[simp] theorem bankOffGo_sound (r b : Nat) (hs : Sound s) : Sound (bankOffGo r b s) := by
  unfold bankOffGo
  simp [Sound, hs]

@[simp] theorem bankIsOn_sound (r b : Nat) (hs : Sound s) : Sound (bankIsOn r b s) :=
  bankOffGo_sound r b (rowPowerCheck_sound r (completeWait_sound _ _ _ _ _ (by simpa [Sound] using hs)))

@[simp] theorem handoffFails_sound (c : Code) (hs : Sound s) : Sound (handoffFails c s) := by
  unfold handoffFails
  simp [Sound, hs]

@[simp] theorem imgRejected_sound (idx detail : Nat) (hs : Sound s) : Sound (imgRejected idx detail s) := by
  unfold imgRejected
  simp [Sound, hs]

@[simp] theorem testGone_sound (u : Nat) (o : TestOutcome) (hs : Sound s) : Sound (testGone u o s) := by
  unfold testGone
  simp [Sound, hs]

@[simp] theorem endPos_sound (x : Test) (o : TestOutcome) (hs : Sound s) : Sound (endPos x o s) := by
  unfold endPos
  extract_lets ast r p slot old halted bad defect s₁ s₂ s₃ now action s₄ s₅
  have placed : Sound s₁ := by simpa [s₁, Sound] using hs
  have carried : Sound s₂ := by unfold s₂; split <;> simp [Sound, placed]
  have moved : Sound s₄ := by simpa [s₄, s₃, Sound] using carried
  have told : Sound s₅ := by
    unfold s₅
    clear_value s₄ slot
    repeat' split
    all_goals simp [Sound, moved]
  exact rowOutCheck_sound r (by simpa [-keeps_ite, Sound] using told)

@[simp] theorem endBank_sound (x : Test) (o : TestOutcome) (hs : Sound s) : Sound (endBank x o s) := by
  unfold endBank
  simp [Sound, hs]

@[simp] theorem endSkip_sound (x : Test) (o : TestOutcome) (hs : Sound s) : Sound (endSkip x o s) := by
  unfold endSkip
  extract_lets ast r old bad s₁ s₂ s₃
  have moved : Sound s₂ := by unfold s₂ s₁; split <;> simp [Sound, hs]
  have told : Sound s₃ := by
    refine each_sound _ _ (fun p t ht => ?_) moved
    repeat' split
    all_goals simp [Sound, ht]
  exact rowOutCheck_sound r (by simpa [Sound] using told)

@[simp] theorem endDma_sound (x : Test) (o : TestOutcome) (hs : Sound s) : Sound (endDma x o s) := by
  unfold endDma
  simp [Sound, hs]

@[simp] theorem endRow_sound (x : Test) (rt : RowTest) (badBanks : List Nat) (hs : Sound s) : Sound (endRow x rt badBanks s).2 := by
  unfold endRow
  extract_lets r
  split
  next d fs out _ =>
  extract_lets bad s₁ s₂ s₃ s₄ o s₅
  have emptied : Sound (dropCells (rowKey r) s₂) := dropCells_sound _ (by simpa [s₂, s₁, Sound] using hs)
  have recorded : Sound s₄ := by simpa [s₄, s₃, Sound] using emptied
  have ended : Sound s₅ := by
    unfold s₅
    split
    · exact offNow_sound r (by simpa [Sound] using recorded)
    · exact recorded
  simpa [Sound] using ended

@[simp] theorem endTest_sound (x : Test) (o : TestOutcome) (hs : Sound s) : Sound (endTest x o s) := by
  unfold endTest
  repeat' split
  all_goals simp [Sound, hs]

/-! The Witness, windows, groups and recoveries. -/

@[simp] theorem witPost_sound (c : WitCpl) (hs : Sound s) : Sound (witPost c s) := by
  unfold witPost
  repeat' split
  all_goals simp [Sound, hs]

@[simp] theorem capture_sound (w : Nat) (e : WitEntry) (c : WitCpl) (hs : Sound s) : Sound (capture w e c s) := by
  unfold capture
  simp [Sound, hs]

@[simp] theorem evalOn_sound (w owner : Nat) (c : WitCpl) (hs : Sound s) : Sound (evalOn w owner c s) := by
  unfold evalOn
  simp [Sound, hs]

@[simp] theorem evalCpl_sound (c : WitCpl) (hs : Sound s) : Sound (evalCpl c s) := by
  unfold evalCpl
  dsimp only
  repeat' split
  all_goals simp [Sound, hs]

@[simp] theorem witFail_sound (w : Nat) (c : Code) (hs : Sound s) : Sound (witFail w c s) := by
  unfold witFail
  extract_lets g s₁ s₂ s₃ s₄
  have recorded : Sound s₃ := by simpa [s₃, s₂, s₁, Sound] using hs
  have posted : Sound s₄ := each_sound _ _ (fun x _ => witPost_sound x.cpl) recorded
  simpa [Sound] using completeWait_sound wOpen w c [] [] (completeWait_sound wSeal w c [] [] (completeWait_sound wClose w .ok [] [] posted))

@[simp] theorem putEntry_sound (w : Nat) (l : List Byte) (hs : Sound s) : Sound (putEntry w l s).2 := by
  unfold putEntry
  dsimp only
  split
  · have padded : Sound (if padOf (s.wring w) l.length = 0 then s else
        memWrite s ((s.wring w).base + 64 + (s.wring w).produced % ((s.wring w).len - 64)) (leBytes 4 0xFF ++ leBytes 4 (padOf (s.wring w) l.length))) := by
      split <;> simp [Sound, hs]
    simpa [Sound] using memWrite_sound _ _ (memWrite_sound _ _ padded)
  · exact hs

@[simp] theorem chained_sound (w : Nat) (e : WitEntry) (l : List Byte) (n : Nat) (hs : Sound s) : Sound (chained w e l n s) := by
  unfold chained
  simp [Sound, hs]

@[simp] theorem stallDrain_sound (k w : Nat) (hs : Sound s) : Sound (stallDrain k w s) := by
  induction k generalizing s with
  | zero => exact hs
  | succ k ih =>
    unfold stallDrain
    repeat' split
    · exact ih (witPost_sound _ (by simpa [Sound] using hs))
    · exact hs
    · exact hs

theorem freeLost_sound {k : Nat} {t : State} (hs : Sound s) (h : freeLost k s = some t) : Sound t := by
  unfold freeLost at h
  split at h
  · cases h
  · cases h
    exact dropCells_sound _ ((modMem_sound _ (by intro; rfl)).2 (movePage_sound _ _ hs))

@[simp] theorem winChange_sound (n : Nat) (w : Window) (hs : Sound s) : (winChange n w s).Sound := by
  unfold winChange
  simp [Sound, hs]

@[simp] theorem bindChange_sound (n : Nat) (o : Option Binding) (hs : Sound s) : (bindChange n o s).Sound := by
  unfold bindChange
  simp [Sound, hs]

@[simp] theorem witOpenGo_sound (w pred flags n thr base len : Nat) (hs : Sound s) : (witOpenGo w pred flags n thr base len s).Sound := by
  unfold witOpenGo
  dsimp only
  repeat' split
  all_goals simp [Sound, hs]

@[simp] theorem batchGo_sound (n : Nat) (t : Table) (es : List (Nat × Nat × List Byte)) (hs : Sound s) : (batchGo n t es s).Sound := by
  unfold batchGo
  simp [Sound, hs]

@[simp] theorem rowPowerGo_sound (r st : Nat) (hs : Sound s) : (rowPowerGo r st s).Sound := by
  unfold rowPowerGo
  dsimp only
  repeat' split
  all_goals simp [Sound, hs]

@[simp] theorem bankOff_sound (r b : Nat) (hs : Sound s) : (bankOff r b s).Sound := by
  unfold bankOff
  dsimp only
  repeat' split
  all_goals simp [Sound, hs]

@[simp] theorem bankOn_sound (r b : Nat) (hs : Sound s) : (bankOn r b s).Sound := by
  unfold bankOn
  dsimp only
  repeat' split
  all_goals simp [Sound, hs]

@[simp] theorem groupJoin_sound (group budget : Nat) (hs : Sound s) : (groupJoin group budget s).Sound := by
  unfold groupJoin
  simp [Sound, hs]

@[simp] theorem groupLeave_sound (group budget : Nat) (hs : Sound s) : (groupLeave group budget s).Sound := by
  unfold groupLeave
  simp [Sound, hs]

@[simp] theorem groupReconcile_sound (group budget : Nat) (hs : Sound s) : (groupReconcile group budget s).Sound := by
  unfold groupReconcile
  simp [Sound, hs]

@[simp] theorem recoverPos_sound (u : Nat) (copyBad : Bool) (hs : Sound s) : (recoverPos u copyBad s).Sound := by
  unfold recoverPos
  dsimp only
  repeat' split
  all_goals simp [Sound, hs]

@[simp] theorem recoverRow_sound (r : Nat) (hs : Sound s) : (recoverRow r s).Sound := by
  unfold recoverRow
  simp [Sound, hs]

@[simp] theorem recoverPort_sound (p : Nat) (hs : Sound s) : (recoverPort p s).Sound := by
  unfold recoverPort
  simp [Sound, hs]

@[simp] theorem recoverLane_sound (i : Nat) (hs : Sound s) : (recoverLane i s).Sound := by
  unfold recoverLane
  simp [Sound, hs]

@[simp] theorem recoverBridge_sound (b : Nat) (hs : Sound s) : (recoverBridge b s).Sound := by
  unfold recoverBridge
  simp [Sound, hs]

/-! The instructions of a core. -/

@[simp] theorem doTbwait_sound (r c rd a b w : Nat) (hs : Sound s) : (doTbwait r c rd a b w s).Sound := by
  unfold doTbwait
  simp [Sound, hs]

@[simp] theorem doRpop_sound (r c rd : Nat) (a b : Nat) (hs : Sound s) : (doRpop r c rd a b s).Sound := by
  unfold doRpop
  extract_lets out take s₁
  have taken {u : State} (n : Nat) (hu : Sound u) : (take n u).Sound := by
    unfold take
    dsimp only
    repeat' split
    all_goals simp [out, Sound, hu]
  have purged : Sound s₁ := each_sound _ _ (fun p _ => purgeHead_sound p.2.count p.1) hs
  dsimp only
  repeat' split
  · exact hs
  · exact hs
  · exact taken _ purged
  · simpa [out, Sound] using purged
  · exact taken _ (purgeHead_sound _ _ hs)
  · exact taken _ hs
  · simpa [out, Sound] using hs
  · simpa [out, Sound] using hs

@[simp] theorem doSresv_sound (r c rd a b : Nat) (hs : Sound s) : (doSresv r c rd a b s).Sound := by
  unfold doSresv
  dsimp only
  repeat' split
  all_goals simp [Sound, hs]

@[simp] theorem doSrels_sound (r c rd a : Nat) (hs : Sound s) : (doSrels r c rd a s).Sound := by
  unfold doSrels
  simp [Sound, hs]

@[simp] theorem doRpush_sound (r c rd : Nat) (a b : Nat) (hs : Sound s) : (doRpush r c rd a b s).Sound := by
  unfold doRpush
  dsimp only
  repeat' split
  all_goals simp [Sound, hs]

@[simp] theorem doCustom_sound (r c w : Nat) (hs : Sound s) : (doCustom r c w s).Sound := by
  unfold doCustom
  dsimp only
  repeat' split
  all_goals simp [Sound, hs]

@[simp] theorem coreLoad_sound (r c a n err : Nat) (hs : Sound s) : (coreLoad r c a n err s).Sound := by
  unfold coreLoad
  dsimp only
  repeat' split
  all_goals simp [Sound, hs]

theorem freeAll_sound {ks : List Nat} {t : State} (hs : Sound s) (h : freeAll ks s = some t) : Sound t := by
  induction ks generalizing s with
  | nil => cases h; exact hs
  | cons k ks ih =>
    unfold freeAll at h
    split at h
    · next freed => exact ih (freeLost_sound hs freed) h
    · cases h

@[simp] theorem freeLost_getD_sound (k : Nat) (hs : Sound s) : Sound ((freeLost k s).getD s) := by
  cases h : freeLost k s with
  | none => exact hs
  | some t => exact freeLost_sound hs h

@[simp] theorem runAmo_sound (r c w len err : Nat) (hs : Sound s) : (runAmo r c w len err s).Sound := by
  unfold runAmo
  extract_lets x a n f5 b put ok
  have loaded := coreLoad_sound r c a n err hs
  split
  · exact hs
  split
  · exact hs
  split
  · simpa [Sound] using hs
  split
  · next heq => rw [heq] at loaded; exact loaded
  · next heq =>
    rw [heq] at loaded
    split <;> simpa [Sound] using loaded

@[simp] theorem coreStore_sound (r c a : Nat) (l : List Byte) (hs : Sound s) : (coreStore r c a l s).Sound := by
  unfold coreStore
  dsimp only
  repeat' split
  all_goals simp [Sound, hs]

@[simp] theorem runScalar_sound (r c w len a n err : Nat) (store : Bool) (hs : Sound s) : (runScalar r c w len a n err store s).Sound := by
  unfold runScalar
  extract_lets x v
  have stored := coreStore_sound r c a (leBytes n v) hs
  have loaded := coreLoad_sound r c a n err hs
  split
  · split
    · next heq => rw [heq] at stored; simpa [Sound] using stored
    · next heq => rw [heq] at stored; exact stored
  · revert loaded
    generalize coreLoad r c a n err s = res
    intro loaded
    cases res with
    | ok l t => simpa [Sound] using loaded
    | trap k tv t => exact loaded

@[simp] theorem runElems_sound (r c err : Nat) (store fof : Bool) (xs : List VAcc) (hs : Sound s) : (runElems r c err store fof xs s).Sound := by
  induction xs generalizing s with
  | nil => exact hs
  | cons e t ih =>
    have went : (if store then coreStore r c e.addr (leBytes (e.n / 8) (vget (s.core r c) e.reg e.n e.idx)) s
        else coreLoad r c e.addr (e.n / 8) err s).Sound := by
      split
      · exact coreStore_sound _ _ _ _ hs
      · exact coreLoad_sound _ _ _ _ _ hs
    unfold runElems
    dsimp only
    generalize (if store then coreStore r c e.addr (leBytes (e.n / 8) (vget (s.core r c) e.reg e.n e.idx)) s
        else coreLoad r c e.addr (e.n / 8) err s) = res at went
    cases res with
    | trap cause tv u =>
      dsimp only
      split <;> simpa [Sound] using went
    | ok l u =>
      refine ih ?_
      split
      · exact went
      · simpa [Sound] using went

@[simp] theorem runVec_sound (r c w len eew err : Nat) (hs : Sound s) : (runVec r c w len eew err s).Sound := by
  have drawn : Sound s.draw.2 := by simpa [Sound] using hs
  unfold runVec
  extract_lets x store fof
  dsimp only
  split
  · exact drawn
  · next l _ =>
    split
    · split <;> simpa [Sound] using drawn
    · have ran := runElems_sound r c err store fof l drawn
      split
      · next heq => rw [heq] at ran; simpa [Sound] using ran
      · exact ran

@[simp] theorem runMem_sound (r c w len err : Nat) (hs : Sound s) : (runMem r c w len err s).Sound := by
  unfold runMem
  repeat' split
  all_goals simp [Sound, hs]

@[simp] theorem runInstr_sound (r c raw w len err : Nat) (hs : Sound s) : (runInstr r c raw w len err s).Sound := by
  unfold runInstr
  dsimp only
  repeat' split
  all_goals simp [Sound, hs]

end Sys2Proof.Machine
end

section
/-! SUPPORT. Memory's canonical form under the commands that touch memory (log 8). -/

namespace Sys2Proof.Machine

variable {s : State}

theorem runs_sound {t : State} (h : Sound t) : Runs Sound (.next t) := ⟨t, rfl, h⟩

/-- A Gwynpin command keeps memory canonical when its own meaning does (16 R438 to R441). -/
theorem gwCommand_sound {self : Instr} {h : CmdHdr} {op need o : Nat} {sec : Bool} {body : State → Done} (hs : Sound s)
    (hb : ∀ t, Sound t → (body t).Sound) : Runs Sound (gwCommand self h op sec need o body s) := by
  unfold gwCommand
  extract_lets mseq c u
  have taken : Sound u := by
    unfold u
    split
    · simpa [c, Sound] using hs
    · exact hs
  have meant := hb u taken
  split
  · exact runs_sound hs
  split
  · exact runs_sound (by simpa [Sound] using hs)
  split
  · cases hd : body u <;> rw [hd] at meant
    case now c i d t => exact runs_sound (finish_sound _ _ _ _ _ _ meant)
    case after t post => exact runs_sound (meant.2 _ (finish_sound _ _ _ _ _ _ meant.1))
    case hold t => exact runs_sound (by simpa [Sound] using meant)
    case later w a t => exact runs_sound (by simpa [Sound] using meant)
  · exact runs_sound (finish_sound _ _ _ _ _ _ taken)

/-- A request over the Chavi link keeps memory canonical when what it asks for does (15 R400). -/
theorem chaviReq_sound {h : ChaviHdr} {arg n : Nat} {go : State → State} (hs : Sound s) (hg : ∀ t, Sound t → Sound (go t)) :
    Runs Sound (chaviReq h arg n go s) := by
  have front : Sound (chaviFront h s).2 := by simpa [Sound] using hs
  unfold chaviReq
  split
  · exact runs_sound hs
  split <;> next heq =>
    rw [heq] at front
    refine runs_sound ?_
    simp [Sound, front, hg _ front]

/-- What a core's instruction ends in keeps memory canonical however it ends. -/
theorem Ran.finish_sound {x : Ran} (r c : Nat) (hx : x.Sound) : Machine.Sound (x.finish r c) := by
  cases x with
  | done t => exact hx
  | trap k tv t => simpa [Ran.finish, Machine.Sound] using hx

/-- An instruction of a core that goes (10 R257). -/
theorem atCore_sound {r c : Nat} {f : State → Ran} (hs : Sound s) (hf : ∀ t, Sound t → (f t).Sound) : Runs Sound (atCore r c f s) := by
  unfold atCore
  split
  · exact runs_sound (Ran.finish_sound r c (hf _ (by simpa [Sound] using hs)))
  · exact runs_sound hs

theorem blockEntry_sound {b e n : Nat} {r : FetchRun} {go : List Byte → State → State} (hs : Sound s)
    (hg : ∀ l t, Sound t → Sound (go l t)) : Sound (blockEntry b e n r go s) := by
  unfold blockEntry
  dsimp only
  repeat' split
  · simpa [Sound] using hs
  · exact hs
  · simpa [Sound] using hs
  · exact hg _ _ (by simpa [Sound] using hs)

/-- A refusal leaves memory as it is. -/
theorem Done.sound_refuse {c : Prop} [Decidable c] {k : Code} {d : Done} (hs : Machine.Sound s) (hd : d.Sound) :
    (if c then .now k [] [] s else d).Sound := by
  split
  · exact hs
  · exact hd

/-! Aster, the bring-up, mailboxes and J3. -/

theorem execDeciderEvaluation_sound (r t i w : Nat) (hs : Sound s) : Runs Sound (execDeciderEvaluation r t i w s) := by
  unfold execDeciderEvaluation
  extract_lets x
  split
  · exact runs_sound hs
  split
  · exact runs_sound hs
  next y _ _ ws _ =>
  extract_lets k f s₁
  have marked : Sound s₁ := by simpa [s₁, Sound] using hs
  split
  · exact runs_sound hs
  · have evaluated := each_sound (((List.range 32).map (· + 32 * w)).filter (fun v => decide (v < mV y.word))) (evalVec f r t i x ws k)
      (fun v _ => evalVec_sound f r t i x ws k v) marked
    exact runs_sound (by simpa [Sound] using evaluated)

theorem execMatvComplete_sound (r t i : Nat) (hs : Sound s) : Runs Sound (execMatvComplete r t i s) := by
  unfold execMatvComplete
  extract_lets x
  split
  · exact runs_sound hs
  next y _ =>
  split
  · exact runs_sound hs
  next ws _ =>
  extract_lets p vs f s₁ s₂
  have written : Sound s₁ := by
    unfold s₁
    split
    · exact hs
    · exact each_sound _ _ (fun v _ => finishVec_sound _ _ _ _ _ _ _ _ _ _) hs
  have marked : Sound s₂ := by simpa [s₂, Sound] using written
  repeat' split
  · exact runs_sound hs
  · exact runs_sound (by simpa [Sound] using hs)
  · exact runs_sound hs
  · exact runs_sound (by simpa [Sound] using marked)
  · exact runs_sound (by simpa [Sound] using marked)

theorem execBu0_sound (fail0 fail1 : Nat) (slotUnst mbxUnst arbLost : Bool) (hs : Sound s) : Runs Sound (execBu0 fail0 fail1 slotUnst mbxUnst arbLost s) := by
  have begun : Sound (bu0Begin fail0 fail1 slotUnst mbxUnst s) := by
    unfold bu0Begin
    dsimp only
    repeat' split
    all_goals simp [Sound, hs]
  unfold execBu0
  extract_lets s₁ fs s₂
  have cleared : Sound s₂ := by simpa [s₂, Sound] using begun
  repeat' split
  · exact runs_sound hs
  · exact runs_sound (by simpa [Sound] using hs)
  · exact runs_sound (stageStop_sound _ (by simpa [Sound] using cleared))
  · exact runs_sound (by simpa [Sound] using cleared)

theorem execBu1_sound (badWord : Option Nat) (hs : Sound s) : Runs Sound (execBu1 badWord s) := by
  unfold execBu1
  dsimp only
  repeat' split
  all_goals simp [Sound, hs]

theorem execBu2_sound (trips : List SharedRail) (rowTrips present swFaults : List Nat) (hs : Sound s) : Runs Sound (execBu2 trips rowTrips present swFaults s) := by
  unfold execBu2
  extract_lets fs s₁ s₂ sw s₃ fs' s₄ s₅
  have rails : Sound s₁ := by
    unfold s₁
    split
    · exact hs
    · exact each_sound _ _ (fun x _ => bu2Rail_sound trips x) hs
  have rows : Sound s₂ := each_sound _ _ (fun r _ => bu2Row_sound rowTrips r) rails
  have switches : Sound s₃ := by
    unfold s₃
    split <;> simpa [Sound] using rows
  repeat' split
  · exact runs_sound hs
  · exact runs_sound (stageStop_sound _ rails)
  · exact runs_sound (by simpa [s₅, s₄, Sound] using switches)

theorem execBu3_sound (tests : List RowTest) (hs : Sound s) : Runs Sound (execBu3 tests s) := by
  unfold execBu3
  extract_lets s₁ res s₂ fs s₃ s₄ s₅
  have tested : Sound s₃ := by
    refine each_sound _ _ (fun r t ht => ?_) (by simpa [s₂, s₁, Sound] using hs)
    dsimp only
    split
    · exact forceOff_sound r (by simpa [Sound] using ht)
    · simpa [Sound] using ht
  have recorded : Sound s₅ := by simpa [s₅, Sound] using restartTests_sound tested
  repeat' split
  · exact runs_sound hs
  · exact runs_sound (by simpa [Sound] using recorded)
  · exact runs_sound (stageStop_sound _ recorded)

theorem execBu4_sound (badBanks : List Nat) (hs : Sound s) : Runs Sound (execBu4 badBanks s) := by
  unfold execBu4
  extract_lets bad carr d s₁ s₂ s₃ s₄ fs
  have retired : Sound s₂ := by
    have drawn : Sound s₁ := by
      unfold s₁ d
      split <;> simp [Sound, hs]
    simpa [s₂, Sound] using drawn
  have scrubbed : Sound s₃ := dropCells_sound _ retired
  have classed : Sound s₄ := by
    unfold s₄
    split
    · exact scrubbed
    · simpa [Sound] using scrubbed
  split
  · exact runs_sound hs
  · exact runs_sound (by simpa [Sound] using classed)

theorem execBu5_sound (res : List MemTest) (hs : Sound s) : Runs Sound (execBu5 res s) := by
  unfold execBu5
  simp [Sound, hs]

theorem execBu6_sound (res : List MemTest) (hs : Sound s) : Runs Sound (execBu6 res s) := by
  unfold execBu6
  simp [Sound, hs]

theorem execBu9_sound (hs : Sound s) : Runs Sound (execBu9 s) := by
  unfold execBu9
  simp [Sound, hs]

theorem execStageTimeout_sound (hs : Sound s) : Runs Sound (execStageTimeout s) := by
  unfold execStageTimeout
  simp [Sound, hs]

theorem execMbxSend_sound (h : ChaviHdr) (ch : Nat) (msg : List Byte) (hs : Sound s) : Runs Sound (execMbxSend h ch msg s) :=
  chaviReq_sound hs fun _ => hostArrive_sound _

theorem execMbxDone_sound (h : ChaviHdr) (ch mseq code : Nat) (hs : Sound s) : Runs Sound (execMbxDone h ch mseq code s) :=
  chaviReq_sound hs fun _ => hostArrive_sound _

theorem execHwrite_sound (h : ChaviHdr) (win off wepoch : Nat) (data : List Byte) (hs : Sound s) : Runs Sound (execHwrite h win off wepoch data s) :=
  chaviReq_sound hs fun _ => hostWindow_sound _ _ _ _ _ _ _ _

theorem execHread_sound (h : ChaviHdr) (win off wepoch n : Nat) (hs : Sound s) : Runs Sound (execHread h win off wepoch n s) :=
  chaviReq_sound hs fun _ => hostWindow_sound _ _ _ _ _ _ _ _

theorem execSleepEntry_sound (r : Nat) (hs : Sound s) : Runs Sound (execSleepEntry r s) := by
  unfold execSleepEntry
  dsimp only
  repeat' split
  all_goals simp [Sound, hs]

/-! The fabric, the targeted tests and the flash cards. -/

theorem arrive_sound (port : Nat) (p : Pkt) (hs : Sound s) : Runs Sound (arrive port p s) := by
  unfold arrive
  dsimp only
  repeat' split
  all_goals simp [Sound, hs]

theorem execFabricPacketForward_sound (inPort : Nat) (p : Pkt) (hs : Sound s) : Runs Sound (execFabricPacketForward inPort p s) := by
  unfold execFabricPacketForward
  repeat' split
  · exact arrive_sound inPort p hs
  · exact runs_sound (injectOut_sound _ hs)
  · exact runs_sound hs

theorem execFabricWrite_sound (port : Nat) (p : Pkt) (hs : Sound s) : Runs Sound (execFabricWrite port p s) := arrive_sound port _ hs

theorem execFabricReadReq_sound (port : Nat) (p : Pkt) (hs : Sound s) : Runs Sound (execFabricReadReq port p s) := arrive_sound port _ hs

theorem execFabricReadRsp_sound (port : Nat) (p : Pkt) (hs : Sound s) : Runs Sound (execFabricReadRsp port p s) := arrive_sound port _ hs

theorem execFabricAck_sound (port : Nat) (p : Pkt) (hs : Sound s) : Runs Sound (execFabricAck port p s) := arrive_sound port _ hs

theorem execFabricFetch_sound (port : Nat) (p : Pkt) (hs : Sound s) : Runs Sound (execFabricFetch port p s) := arrive_sound port _ hs

theorem execFabricMsg_sound (port : Nat) (p : Pkt) (hs : Sound s) : Runs Sound (execFabricMsg port p s) := arrive_sound port _ hs

theorem execFabricToken_sound (port : Nat) (p : Pkt) (hs : Sound s) : Runs Sound (execFabricToken port p s) := arrive_sound port _ hs

theorem execFabricPoison_sound (port : Nat) (p : Pkt) (hs : Sound s) : Runs Sound (execFabricPoison port p s) := arrive_sound port _ hs

theorem execFabricWitrec_sound (port : Nat) (p : Pkt) (hs : Sound s) : Runs Sound (execFabricWitrec port p s) := arrive_sound port _ hs

theorem execFabRequestTimeout_sound (b tag : Nat) (hs : Sound s) : Runs Sound (execFabRequestTimeout b tag s) := by
  unfold execFabRequestTimeout
  dsimp only
  repeat' split
  all_goals simp [Sound, hs]

theorem execBindingSendComplete_sound (n : Nat) (hs : Sound s) : Runs Sound (execBindingSendComplete n s) := by
  unfold execBindingSendComplete
  repeat' split
  all_goals simp [Sound, hs]

theorem execRouteCommitTick_sound (hs : Sound s) : Runs Sound (execRouteCommitTick s) := by
  unfold execRouteCommitTick
  simp [Sound, hs]

theorem execPortQualificationEnd_sound (port : Nat) (lanes : BitVec 9) (partner : Bool) (hs : Sound s) : Runs Sound (execPortQualificationEnd port lanes partner s) := by
  unfold execPortQualificationEnd
  dsimp only
  repeat' split
  all_goals simp [Sound, hs]

theorem execPoisonDeadline_sound (hs : Sound s) : Runs Sound (execPoisonDeadline s) := by
  have lines := each_sound (List.range 12) (fun r s =>
    let due := (s.row r).prov.filter (entryDue s.tb)
    let s := s.modRow r (fun w => { w with prov := w.prov.map (fun e => if entryDue s.tb e then { e with poisoned := true, deadline := none } else e) })
    each due (fun e => deadlineRecord (r / 6) (lnAddr r e.line)) s) (fun r t ht => by simpa [Sound] using ht) hs
  refine runs_sound (windowsSettle_sound (each_sound _ _ (fun b t ht => ?_) lines))
  simpa [Sound] using ht

theorem execHeldRpushResolve_sound (r c : Nat) (hs : Sound s) : Runs Sound (execHeldRpushResolve r c s) := by
  unfold execHeldRpushResolve
  dsimp only
  repeat' split
  all_goals simp [Sound, hs]

theorem execTestNeedsTimeout_sound (u : Nat) (hs : Sound s) : Runs Sound (execTestNeedsTimeout u s) := by
  unfold execTestNeedsTimeout
  dsimp only
  repeat' split
  all_goals simp [Sound, hs]

theorem execTargetedTestEnd_sound (u : Nat) (pass : Bool) (rt : RowTest) (badBanks : List Nat) (hs : Sound s) : Runs Sound (execTargetedTestEnd u pass rt badBanks s) := by
  unfold execTargetedTestEnd
  dsimp only
  repeat' split
  all_goals simp [Sound, hs]

theorem execLaneQualificationEnd_sound (port : Nat) (pass : Bool) (hs : Sound s) : Runs Sound (execLaneQualificationEnd port pass s) := by
  unfold execLaneQualificationEnd
  dsimp only
  repeat' split
  · exact runs_sound hs
  · exact runs_sound hs
  · exact runs_sound (completeWait_sound _ _ _ _ _ (endTest_sound _ _ (by simpa [Sound] using hs)))
  · exact runs_sound (completeWait_sound _ _ _ _ _ (endTest_sound _ _ (by simpa [Sound] using hs)))

theorem execSlotRecovery_sound (ast : Bool) (r t : Nat) (hs : Sound s) : Runs Sound (execSlotRecovery ast r t s) := by
  unfold execSlotRecovery
  split
  · exact runs_sound hs
  next x _ =>
  extract_lets set done bad s₁ s₂
  have restored : Sound s₂ := by
    have freed : Sound s₁ := by simpa [s₁, Sound] using hs
    unfold s₂
    repeat' split
    all_goals simp [Sound, freed]
  repeat' split
  · exact runs_sound hs
  · exact runs_sound (by simpa [Sound] using hs)
  · exact runs_sound (by simpa [Sound] using hs)
  · exact runs_sound hs
  · exact runs_sound (each_sound _ _ (fun y _ => recoveryDone_sound y) restored)

theorem execFlashBatchCommit_sound (t : Nat) (toL : List Nat) (hs : Sound s) : Runs Sound (execFlashBatchCommit t toL s) := by
  unfold execFlashBatchCommit
  split
  · extract_lets ok gs n s₁ s₂
    have placed : Sound s₂ := by simpa [s₂, s₁, Sound] using hs
    repeat' split
    · exact runs_sound hs
    · exact runs_sound (failBatches_sound _ hs)
    · exact runs_sound hs
    · exact runs_sound (batchDone_sound _ (applyRows_sound _ _ _ _ placed))
  · exact runs_sound hs

theorem execFlashProgramEraseComplete_sound (c k die fail spareLeft peAvg peMax wa : Nat) (lost : List (Nat × Nat)) (hs : Sound s) : Runs Sound (execFlashProgramEraseComplete c k die fail spareLeft peAvg peMax wa lost s) := by
  unfold execFlashProgramEraseComplete
  extract_lets s₁ rebuilding s₂ s₃ s₄ x
  have worn : Sound s₁ := by simpa [s₁, Sound] using hs
  have moved : Sound s₃ := by simpa [s₃, s₂, Sound] using worn
  have failed : Sound s₄ := by
    unfold s₄
    repeat' split
    · exact worn
    · exact fchanSet_sound _ _ _ _ (by simpa [Sound] using moved)
    · exact moved
  repeat' split
  · exact runs_sound hs
  · exact runs_sound failed
  · exact runs_sound (fchanSet_sound _ _ _ _ failed)
  · exact runs_sound (fchanSet_sound _ _ _ _ failed)
  · exact runs_sound failed

theorem execFlashRelocationComplete_sound (t g c k die : Nat) (balanced : Bool) (hs : Sound s) : Runs Sound (execFlashRelocationComplete t g c k die balanced s) := by
  unfold execFlashRelocationComplete
  dsimp only
  repeat' split
  all_goals simp [Sound, hs]

theorem execFlashInterfaceTraining_sound (c k : Nat) (ok : Bool) (hs : Sound s) : Runs Sound (execFlashInterfaceTraining c k ok s) := by
  unfold execFlashInterfaceTraining
  simp [Sound, hs]

theorem execFlashMapReloadComplete_sound (b t : Nat) (hs : Sound s) : Runs Sound (execFlashMapReloadComplete b t s) := by
  unfold execFlashMapReloadComplete
  extract_lets pages s₁ s₂
  have freed : Sound s₁ := each_sound _ _ (fun k _ => freeLost_getD_sound k) hs
  have found : Sound s₂ := (modMem_sound _ (by intro; rfl)).2 freed
  split
  · exact runs_sound hs
  · exact runs_sound (by simpa [Sound] using found)

theorem execCardTestComplete_sound (c hdr serial reason : Nat) (balanced : Bool) (hs : Sound s) : Runs Sound (execCardTestComplete c hdr serial reason balanced s) := by
  unfold execCardTestComplete
  simp [Sound, hs]

/-! The commands of Gwynpin. -/

theorem execEndpointAssign_sound (h : CmdHdr) (ep : Nat) (hs : Sound s) : Runs Sound (execEndpointAssign h ep s) := by
  refine gwCommand_sound hs fun t ht => ?_
  repeat' split
  all_goals simp [Sound, ht]

theorem execRouteStage_sound (h : CmdHdr) (b first count src : Nat) (hs : Sound s) : Runs Sound (execRouteStage h b first count src s) := by
  refine gwCommand_sound hs fun t ht => ?_
  dsimp only
  repeat' split
  all_goals simp [Sound, ht]

theorem execRouteCommit_sound (h : CmdHdr) (tick drain : Nat) (hs : Sound s) : Runs Sound (execRouteCommit h tick drain s) := by
  refine gwCommand_sound hs fun t ht => ?_
  repeat' split
  all_goals simp [Sound, ht]

theorem execMapWindow_sound (h : CmdHdr) (win perm home base len : Nat) (srcf : List (Nat × Nat)) (hs : Sound s) : Runs Sound (execMapWindow h win perm home base len srcf s) := by
  refine gwCommand_sound hs fun t ht => ?_
  repeat' split
  all_goals simp [Sound, ht]

theorem execUnmapWindow_sound (h : CmdHdr) (win : Nat) (hs : Sound s) : Runs Sound (execUnmapWindow h win s) := by
  refine gwCommand_sound hs fun t ht => ?_
  repeat' split
  all_goals simp [Sound, ht]

theorem execBinding_sound (h : CmdHdr) (bind op r b comp fmt flow dline dlen sline slen dst win wepoch doff soff v k stride notify ndst nword : Nat) (hs : Sound s) : Runs Sound (execBinding h bind op r b comp fmt flow dline dlen sline slen dst win wepoch doff soff v k stride notify ndst nword s) := by
  refine gwCommand_sound hs fun t ht => ?_
  dsimp only
  repeat' split
  all_goals simp [Sound, ht]

theorem execFabricPolicy_sound (h : CmdHdr) (b q1 q2 q3 q4 : Nat) (hs : Sound s) : Runs Sound (execFabricPolicy h b q1 q2 q3 q4 s) := by
  refine gwCommand_sound hs fun t ht => ?_
  repeat' split
  all_goals simp [Sound, ht]

theorem execDeviceInfo_sound (h : CmdHdr) (hs : Sound s) : Runs Sound (execDeviceInfo h s) :=
  gwCommand_sound hs fun t ht => by simp [Sound, ht]

theorem execDefectMap_sound (h : CmdHdr) (hs : Sound s) : Runs Sound (execDefectMap h s) :=
  gwCommand_sound hs fun t ht => by simp [Sound, ht]

theorem execBootLog_sound (h : CmdHdr) (half : Nat) (hs : Sound s) : Runs Sound (execBootLog h half s) := by
  refine gwCommand_sound hs fun t ht => ?_
  dsimp only
  repeat' split
  all_goals simp [Sound, ht]

theorem execPowerStatus_sound (h : CmdHdr) (hs : Sound s) : Runs Sound (execPowerStatus h s) :=
  gwCommand_sound hs fun t ht => by simp [Sound, ht]

theorem execClockStatus_sound (h : CmdHdr) (hs : Sound s) : Runs Sound (execClockStatus h s) :=
  gwCommand_sound hs fun t ht => by simp [Sound, ht]

theorem execFabricStatus_sound (h : CmdHdr) (b : Nat) (hs : Sound s) : Runs Sound (execFabricStatus h b s) := by
  refine gwCommand_sound hs fun t ht => ?_
  repeat' split
  all_goals simp [Sound, ht]

theorem execFlashHealth_sound (h : CmdHdr) (hs : Sound s) : Runs Sound (execFlashHealth h s) := by
  refine gwCommand_sound hs fun t ht => ?_
  dsimp only
  repeat' split
  all_goals simp [Sound, ht]

theorem execErrorLogRead_sound (h : CmdHdr) (start max : Nat) (hs : Sound s) : Runs Sound (execErrorLogRead h start max s) :=
  gwCommand_sound hs fun t ht => by simp [Sound, ht]

theorem execChannelConfigure_sound (h : CmdHdr) (ch rcv flags smatch rdest rchan : Nat) (hs : Sound s) : Runs Sound (execChannelConfigure h ch rcv flags smatch rdest rchan s) := by
  refine gwCommand_sound hs fun t ht => ?_
  dsimp only
  repeat' split
  all_goals simp [Sound, ht]

theorem execRingCreate_sound (h : CmdHdr) (ring owner slots log2 cqtarget cqchan notify dbchavi rq cq : Nat) (dbsrc : List (Nat × Nat)) (tmo : Nat) (hs : Sound s) : Runs Sound (execRingCreate h ring owner slots log2 cqtarget cqchan notify dbchavi rq cq dbsrc tmo s) := by
  refine gwCommand_sound hs fun t ht => ?_
  dsimp only
  repeat' split
  all_goals simp [Sound, ht]

theorem execRingDestroy_sound (h : CmdHdr) (ring : Nat) (hs : Sound s) : Runs Sound (execRingDestroy h ring s) := by
  refine gwCommand_sound hs fun t ht => ?_
  repeat' split
  all_goals simp [Sound, ht]

theorem execRingModify_sound (h : CmdHdr) (ring slots notify dbchavi : Nat) (dbsrc : List (Nat × Nat)) (tmo : Nat) (hs : Sound s) : Runs Sound (execRingModify h ring slots notify dbchavi dbsrc tmo s) := by
  refine gwCommand_sound hs fun t ht => ?_
  repeat' split
  all_goals simp [Sound, ht]

theorem execWitnessRing_sound (h : CmdHdr) (w pred flags n thr base len : Nat) (hs : Sound s) : Runs Sound (execWitnessRing h w pred flags n thr base len s) := by
  refine gwCommand_sound hs fun t ht => ?_
  repeat' split
  all_goals simp [Sound, ht]

theorem execWitnessSeal_sound (h : CmdHdr) (w : Nat) (hs : Sound s) : Runs Sound (execWitnessSeal h w s) := by
  refine gwCommand_sound hs fun t ht => ?_
  repeat' split
  all_goals simp [Sound, ht]

theorem execAttestQuote_sound (h : CmdHdr) (nonce : List Byte) (hs : Sound s) : Runs Sound (execAttestQuote h nonce s) :=
  gwCommand_sound hs fun t ht => by simp [Sound, ht]

theorem execDebugUnlock_sound (h : CmdHdr) (token sig : List Byte) (hs : Sound s) : Runs Sound (execDebugUnlock h token sig s) := by
  refine gwCommand_sound hs fun t ht => ?_
  dsimp only
  repeat' split
  all_goals simp [Sound, ht]

theorem execKeyRevoke_sound (h : CmdHdr) (record sig : List Byte) (hs : Sound s) : Runs Sound (execKeyRevoke h record sig s) := by
  refine gwCommand_sound hs fun t ht => ?_
  dsimp only
  repeat' split
  all_goals simp [Sound, ht]

theorem execMemClaim_sound (h : CmdHdr) (base len : Nat) (hs : Sound s) : Runs Sound (execMemClaim h base len s) := by
  refine gwCommand_sound hs fun t ht => ?_
  dsimp only
  repeat' split
  all_goals simp [Sound, ht]

theorem execMemRelease_sound (h : CmdHdr) (base len : Nat) (hs : Sound s) : Runs Sound (execMemRelease h base len s) := by
  refine gwCommand_sound hs fun t ht => ?_
  dsimp only
  repeat' split
  all_goals simp [Sound, ht]

theorem execPageFree_sound (h : CmdHdr) (base len : Nat) (hs : Sound s) : Runs Sound (execPageFree h base len s) := by
  refine gwCommand_sound hs fun t ht => Done.sound_refuse ht (Done.sound_refuse ht ?_)
  refine Done.sound_refuse ht ?_
  split
  · next heq => exact freeAll_sound ht heq
  · exact ht

theorem execTableCreate_sound (h : CmdHdr) (table bridge home type hash seed nrows dim fmt fill part rowBase keyBase partBase bsize mapBase mapInit : Nat) (hs : Sound s) : Runs Sound (execTableCreate h table bridge home type hash seed nrows dim fmt fill part rowBase keyBase partBase bsize mapBase mapInit s) := by
  refine gwCommand_sound hs fun t ht => ?_
  extract_lets d absent pages codes
  repeat' refine Done.sound_refuse ht ?_
  split
  · exact ht
  · exact tablePlace_sound _ _ _ ht

theorem execTableUpdate_sound (h : CmdHdr) (table count src : Nat) (hs : Sound s) : Runs Sound (execTableUpdate h table count src s) := by
  refine gwCommand_sound hs fun t ht => ?_
  dsimp only
  repeat' split
  all_goals simp [Sound, ht]

theorem execTableDestroy_sound (h : CmdHdr) (table : Nat) (hs : Sound s) : Runs Sound (execTableDestroy h table s) := by
  refine gwCommand_sound hs fun t ht => ?_
  dsimp only
  repeat' split
  all_goals simp [Sound, ht]

theorem execChannelDrain_sound (h : CmdHdr) (d rate : Nat) (hs : Sound s) : Runs Sound (execChannelDrain h d rate s) := by
  refine gwCommand_sound hs fun t ht => ?_
  dsimp only
  repeat' split
  all_goals simp [Sound, ht]

theorem execChannelReturn_sound (h : CmdHdr) (d rate : Nat) (present : Bool) (hs : Sound s) : Runs Sound (execChannelReturn h d rate present s) := by
  refine gwCommand_sound hs fun t ht => ?_
  dsimp only
  repeat' split
  all_goals simp [Sound, ht]

theorem execLocate_sound (h : CmdHdr) (kind index on : Nat) (hs : Sound s) : Runs Sound (execLocate h kind index on s) := by
  refine gwCommand_sound hs fun t ht => ?_
  dsimp only
  repeat' split
  all_goals simp [Sound, ht]

theorem execFlashPolicy_sound (h : CmdHdr) (b rate : Nat) (hs : Sound s) : Runs Sound (execFlashPolicy h b rate s) := by
  refine gwCommand_sound hs fun t ht => ?_
  repeat' split
  all_goals simp [Sound, ht]

theorem execCardDrain_sound (h : CmdHdr) (c : Nat) (hs : Sound s) : Runs Sound (execCardDrain h c s) := by
  refine gwCommand_sound hs fun t ht => ?_
  repeat' split
  all_goals simp [Sound, ht]

theorem execCardReturn_sound (h : CmdHdr) (c flags : Nat) (present : Bool) (hs : Sound s) : Runs Sound (execCardReturn h c flags present s) := by
  refine gwCommand_sound hs fun t ht => ?_
  dsimp only
  repeat' split
  all_goals simp [Sound, ht]

theorem execProgramLoad_sound (h : CmdHdr) (r prog flags region units src len : Nat) (hs : Sound s) : Runs Sound (execProgramLoad h r prog flags region units src len s) := by
  refine gwCommand_sound hs fun t ht => ?_
  repeat' split
  all_goals simp [Sound, ht]

theorem execProgramUnload_sound (h : CmdHdr) (r prog : Nat) (hs : Sound s) : Runs Sound (execProgramUnload h r prog s) := by
  refine gwCommand_sound hs fun t ht => ?_
  split
  · exact ht
  split
  · exact ht
  next p _ =>
  extract_lets u
  have stopped : Sound u := by
    have reset := each_sound p.prm (fun c => resetCore r c .unitRetired) (fun c _ => resetCore_sound r c _) (show Sound (wakeRow r t) by simpa [Sound] using ht)
    simpa [u, Sound] using reset
  repeat' split
  · exact ht
  · simpa [Sound] using stopped
  · simpa [Sound] using stopped

theorem execSelfTest_sound (h : CmdHdr) (u : Nat) (hs : Sound s) : Runs Sound (execSelfTest h u s) := by
  refine gwCommand_sound hs fun t ht => ?_
  repeat' split
  all_goals simp [Sound, ht]

theorem execRowPowerPolicy_sound (h : CmdHdr) (r tNap tSleep tBank : Nat) (hs : Sound s) : Runs Sound (execRowPowerPolicy h r tNap tSleep tBank s) := by
  refine gwCommand_sound hs fun t ht => ?_
  repeat' split
  all_goals simp [Sound, ht]

theorem execRowPower_sound (h : CmdHdr) (r st : Nat) (hs : Sound s) : Runs Sound (execRowPower h r st s) := by
  refine gwCommand_sound hs fun t ht => ?_
  repeat' split
  all_goals simp [Sound, ht]

theorem execRowRearm_sound (h : CmdHdr) (r : Nat) (hs : Sound s) : Runs Sound (execRowRearm h r s) := by
  refine gwCommand_sound hs fun t ht => ?_
  repeat' split
  all_goals simp [Sound, ht]

theorem execBankPower_sound (h : CmdHdr) (r b st : Nat) (hs : Sound s) : Runs Sound (execBankPower h r b st s) := by
  refine gwCommand_sound hs fun t ht => ?_
  repeat' split
  all_goals simp [Sound, ht]

theorem execPowerCap_sound (h : CmdHdr) (module package halfN halfS : Nat) (hs : Sound s) : Runs Sound (execPowerCap h module package halfN halfS s) := by
  unfold execPowerCap
  extract_lets ok pick
  refine gwCommand_sound hs fun t ht => ?_
  repeat' split
  all_goals simp [Sound, ht]

theorem execStepLimit_sound (h : CmdHdr) (min max : Nat) (hs : Sound s) : Runs Sound (execStepLimit h min max s) := by
  refine gwCommand_sound hs fun t ht => ?_
  repeat' split
  all_goals simp [Sound, ht]

theorem execEnergyReport_sound (h : CmdHdr) (job start : Nat) (hs : Sound s) : Runs Sound (execEnergyReport h job start s) :=
  gwCommand_sound hs fun t ht => by simp [Sound, ht]

theorem execPowerGroup_sound (h : CmdHdr) (op group budget : Nat) (hs : Sound s) : Runs Sound (execPowerGroup h op group budget s) := by
  refine gwCommand_sound hs fun t ht => ?_
  repeat' split
  all_goals simp [Sound, ht]

theorem execWatchdog_sound (h : CmdHdr) (r slot period : Nat) (hs : Sound s) : Runs Sound (execWatchdog h r slot period s) := by
  refine gwCommand_sound hs fun t ht => ?_
  repeat' split
  all_goals simp [Sound, ht]

theorem execTimeoutSet_sound (h : CmdHdr) (level job value : Nat) (hs : Sound s) : Runs Sound (execTimeoutSet h level job value s) := by
  refine gwCommand_sound hs fun t ht => ?_
  repeat' split
  all_goals simp [Sound, ht]

theorem execRecalibrate_sound (h : CmdHdr) (r what : Nat) (hs : Sound s) : Runs Sound (execRecalibrate h r what s) := by
  refine gwCommand_sound hs fun t ht => ?_
  dsimp only
  repeat' split
  all_goals simp [Sound, ht]

theorem execDefectClear_sound (h : CmdHdr) (u : Nat) (hs : Sound s) : Runs Sound (execDefectClear h u s) := by
  refine gwCommand_sound hs fun t ht => ?_
  repeat' split
  all_goals simp [Sound, ht]

theorem execRestart_sound (h : CmdHdr) (kind : Nat) (hs : Sound s) : Runs Sound (execRestart h kind s) := by
  refine gwCommand_sound hs fun t ht => ?_
  split
  · exact ht
  · exact ⟨ht, fun _ => warmRestart_sound⟩

theorem execHandoff_sound (h : CmdHdr) (image : Nat) (hs : Sound s) : Runs Sound (execHandoff h image s) := by
  refine gwCommand_sound hs fun t ht => ?_
  repeat' split
  all_goals simp [Sound, ht]

theorem execHandoffImageVerified_sound (hs : Sound s) : Runs Sound (execHandoffImageVerified s) := by
  unfold execHandoffImageVerified
  dsimp only
  repeat' split
  all_goals simp [Sound, hs]

theorem execUnitRecover_sound (h : CmdHdr) (u : Nat) (copyBad : Bool) (hs : Sound s) : Runs Sound (execUnitRecover h u copyBad s) := by
  refine gwCommand_sound hs fun t ht => ?_
  dsimp only
  repeat' split
  all_goals simp [Sound, ht]

/-! Power, memory and the rows. -/

theorem execInputTrip_sound (cause vin iin : Nat) (hs : Sound s) : Runs Sound (execInputTrip cause vin iin s) := by
  unfold execInputTrip
  dsimp only
  split
  · exact runs_sound hs
  · exact runs_sound (sound_iff.2 rfl)

theorem execHoldUpEnd_sound (hs : Sound s) : Runs Sound (execHoldUpEnd s) := by
  unfold execHoldUpEnd
  dsimp only
  repeat' split
  · exact runs_sound (sound_iff.2 rfl)
  · exact runs_sound hs
  · exact runs_sound hs

theorem execMrstNAssert_sound (ns : Nat) (hs : Sound s) : Runs Sound (execMrstNAssert ns s) := by
  unfold execMrstNAssert
  extract_lets d s₁ u
  repeat' split
  · exact runs_sound hs
  · exact runs_sound (sound_iff.2 rfl)
  · have drawn : Sound s₁ := by
      unfold s₁ d
      split <;> simp [Sound, hs]
    exact runs_sound drawn

theorem execSwitchSoftStartDone_sound (i : Nat) (spdOk trainOk : Bool) (hs : Sound s) : Runs Sound (execSwitchSoftStartDone i spdOk trainOk s) := by
  unfold execSwitchSoftStartDone
  simp [Sound, hs]

theorem execSwitchSoftStartTimeout_sound (i : Nat) (hs : Sound s) : Runs Sound (execSwitchSoftStartTimeout i s) := by
  unfold execSwitchSoftStartTimeout
  simp [Sound, hs]

theorem execSwitchCurrentLimitLatch_sound (i : Nat) (hs : Sound s) : Runs Sound (execSwitchCurrentLimitLatch i s) := by
  unfold execSwitchCurrentLimitLatch
  simp [Sound, hs]

theorem execDimmRemovedWhileOn_sound (d : Nat) (hs : Sound s) : Runs Sound (execDimmRemovedWhileOn d s) := by
  unfold execDimmRemovedWhileOn
  simp [Sound, hs]

theorem execBayLatchOpen_sound (c : Nat) (hs : Sound s) : Runs Sound (execBayLatchOpen c s) := by
  unfold execBayLatchOpen
  simp [Sound, hs]

theorem execBaySwitchDelayedOpen_sound (c : Nat) (hs : Sound s) : Runs Sound (execBaySwitchDelayedOpen c s) := by
  unfold execBaySwitchDelayedOpen
  repeat' split
  all_goals simp [Sound, hs]

theorem execMemoryAccess_sound (a n : Nat) (wr : Bool) (data : List Byte) (corr : Bool) (bad : Option Nat) (hs : Sound s) : Runs Sound (execMemoryAccess a n wr data corr bad s) := by
  unfold execMemoryAccess
  dsimp only
  repeat' split
  all_goals simp [Sound, hs]

theorem execPageRemapComplete_sound (k : Nat) (hs : Sound s) : Runs Sound (execPageRemapComplete k s) := by
  unfold execPageRemapComplete
  extract_lets e u base inPage s₁ s₂
  have remapped : Sound s₁ := (modMem_sound _ (by intro; rfl)).2 hs
  have retired : Sound s₂ := by simpa [s₂, Sound] using retirePage_sound k remapped
  repeat' split
  · exact runs_sound hs
  · exact runs_sound (stackLost_sound _ _ retired)
  · exact runs_sound (memUnitFail_sound _ _ retired)
  · exact runs_sound (by simpa [Sound] using retired)

theorem execDdrScrubCountRead_sound (d count : Nat) (errs : List Nat) (hs : Sound s) : Runs Sound (execDdrScrubCountRead d count errs s) := by
  unfold execDdrScrubCountRead
  split
  · exact runs_sound (each_sound _ _ (fun p _ => memCorr_sound _) ((modMemUnit_sound _ _).2 hs))
  · exact runs_sound hs

theorem execMigrationPageCopyComplete_sound (d : Nat) (hs : Sound s) : Runs Sound (execMigrationPageCopyComplete d s) := by
  have moved (k t f) : Sound ((movePage k t (releaseLender (pageEnt s k) s)).modMemUnit (8 + d) f) :=
    (modMemUnit_sound _ _).2 (movePage_sound _ _ (releaseLender_sound _ hs))
  have home (k f) : Sound ((returnPage k s).modMemUnit (8 + d) f) := (modMemUnit_sound _ _).2 (returnPage_sound k hs)
  unfold execMigrationPageCopyComplete
  dsimp only
  repeat' split
  · exact runs_sound hs
  · exact runs_sound (drained_sound _ (moved _ _ _))
  · exact runs_sound (moved _ _ _)
  · exact runs_sound hs
  · exact runs_sound (drained_sound _ hs)
  · exact runs_sound (returned_sound _ (home _ _))
  · exact runs_sound (home _ _)
  · exact runs_sound (returned_sound _ hs)
  · exact runs_sound hs

theorem execChannelTestComplete_sound (d reason : Nat) (pages : List Nat) (hs : Sound s) : Runs Sound (execChannelTestComplete d reason pages s) := by
  unfold execChannelTestComplete
  extract_lets u moved s₁ s₂ s₃ s₄
  have emptied : Sound s₁ := dropCells_sound _ hs
  have listed : Sound s₂ := (modMem_sound _ (by intro; rfl)).2 emptied
  have placed : Sound s₄ := by
    refine each_sound _ _ (fun p t ht => ?_) ((modMemUnit_sound _ _).2 listed)
    split
    · exact (modMem_sound _ (by intro; rfl)).2 ht
    · exact ht
  split
  · exact runs_sound hs
  split
  · exact runs_sound (by simpa [Sound] using memUnitFail_sound u _ hs)
  split
  · exact runs_sound (returned_sound u placed)
  · exact runs_sound (by simpa [Sound] using placed)

theorem execPhaseLoss_sound (r p : Nat) (hs : Sound s) : Runs Sound (execPhaseLoss r p s) := by
  unfold execPhaseLoss
  extract_lets ph s₁ st
  have rated : Sound s₁ := by simpa [s₁, Sound] using hs
  repeat' split
  · have dark := rowPowerFail_sound r .rowDark (completeWait_sound wRearm r .rowDark [] [] (darken_sound r .dark
      (show Sound (s₁.modConv r (fun c => { c with retryAt := none })) by simpa [Sound] using rated)))
    exact runs_sound (by simpa [Sound] using dark)
  · exact runs_sound (by simpa [Sound] using rated)
  · exact runs_sound (by simpa [Sound] using rated)
  · exact runs_sound hs

theorem execRowShort_sound (r : Nat) (hs : Sound s) : Runs Sound (execRowShort r s) := by
  unfold execRowShort
  extract_lets spent s₁ s₂ s₃
  have dark : Sound s₂ := by simpa [s₂, Sound] using darken_sound r _ hs
  have told : Sound s₃ := by
    unfold s₃
    split
    · exact completeWait_sound _ _ _ _ _ dark
    · exact dark
  split
  · exact runs_sound (by simpa [Sound] using rowPowerFail_sound r .rowDark told)
  · exact runs_sound hs

theorem execRowRetrySuccess_sound (r : Nat) (hs : Sound s) : Runs Sound (execRowRetrySuccess r s) := by
  unfold execRowRetrySuccess
  dsimp only
  repeat' split
  all_goals simp [Sound, hs]

theorem execHeaderStageClose_sound (h : Nat) (hs : Sound s) : Runs Sound (execHeaderStageClose h s) := by
  unfold execHeaderStageClose
  dsimp only
  repeat' split
  all_goals simp [Sound, hs]

theorem execRowUsable_sound (r : Nat) (hs : Sound s) : Runs Sound (execRowUsable r s) := by
  unfold execRowUsable
  dsimp only
  repeat' split
  all_goals simp [Sound, hs]

theorem execSharedRailLost_sound (x : SharedRail) (hs : Sound s) : Runs Sound (execSharedRailLost x s) := by
  unfold execSharedRailLost
  simp [Sound, hs]

theorem execVspineLost_sound (hs : Sound s) : Runs Sound (execVspineLost s) := by
  unfold execVspineLost
  dsimp only
  repeat' split
  · exact runs_sound (sound_iff.2 rfl)
  · exact runs_sound (sound_iff.2 rfl)
  · exact runs_sound hs

/-! Primrose, rings and row fetch. -/

theorem execPrimroseExecute_sound (r c bad : Nat) (hs : Sound s) : Runs Sound (execPrimroseExecute r c bad s) := by
  unfold execPrimroseExecute
  extract_lets x
  split
  · exact runs_sound hs
  split
  · split <;> exact runs_sound (by simpa [Sound] using hs)
  split
  · exact runs_sound (by simpa [Sound] using hs)
  split
  · exact runs_sound (Ran.finish_sound r c (runInstr_sound _ _ _ _ _ _ hs))
  · exact runs_sound (by simpa [Sound] using hs)
  · exact runs_sound hs

theorem execPrimroseMemoryAccess_sound (r c err : Nat) (hs : Sound s) : Runs Sound (execPrimroseMemoryAccess r c err s) := by
  unfold execPrimroseMemoryAccess
  dsimp only
  repeat' split
  · exact runs_sound hs
  · exact runs_sound hs
  · exact runs_sound (by simpa [Sound] using hs)
  · exact runs_sound (Ran.finish_sound r c (runMem_sound _ _ _ _ _ (by simpa [Sound] using hs)))

theorem execRpop_sound (r c rd rs1 rs2 : Nat) (hs : Sound s) : Runs Sound (execRpop r c rd rs1 rs2 s) :=
  atCore_sound hs fun _ => doRpop_sound _ _ _ _ _

theorem execRpush_sound (r c rd rs1 rs2 : Nat) (hs : Sound s) : Runs Sound (execRpush r c rd rs1 rs2 s) :=
  atCore_sound hs fun _ => doRpush_sound _ _ _ _ _

theorem execWdkick_sound (r c : Nat) (hs : Sound s) : Runs Sound (execWdkick r c s) := atCore_sound hs fun _ => doCustom_sound _ _ _

theorem execBadd_sound (r c rd rs1 rs2 : Nat) (hs : Sound s) : Runs Sound (execBadd r c rd rs1 rs2 s) := atCore_sound hs fun _ => doCustom_sound _ _ _

theorem execBscl_sound (r c rd rs1 rs2 : Nat) (hs : Sound s) : Runs Sound (execBscl r c rd rs1 rs2 s) := atCore_sound hs fun _ => doCustom_sound _ _ _

theorem execBmax_sound (r c rd rs1 rs2 : Nat) (hs : Sound s) : Runs Sound (execBmax r c rd rs1 rs2 s) := atCore_sound hs fun _ => doCustom_sound _ _ _

theorem execBlin_sound (r c rd rs1 rs2 rs3 : Nat) (hs : Sound s) : Runs Sound (execBlin r c rd rs1 rs2 rs3 s) := atCore_sound hs fun _ => doCustom_sound _ _ _

theorem execFhash_sound (r c rd rs1 rs2 rs3 fn : Nat) (hs : Sound s) : Runs Sound (execFhash r c rd rs1 rs2 rs3 fn s) := atCore_sound hs fun _ => doCustom_sound _ _ _

theorem execHaltedCoreRequestsEnd_sound (r c : Nat) (hs : Sound s) : Runs Sound (execHaltedCoreRequestsEnd r c s) := by
  unfold execHaltedCoreRequestsEnd
  dsimp only
  split
  · exact runs_sound (each_sound _ _ (fun p _ => endRequests_sound p.1 _ _) hs)
  · exact runs_sound hs

theorem execThermalSensorRead_sound (k : Nat) (v : Int) (hs : Sound s) : Runs Sound (execThermalSensorRead k v s) := by
  unfold execThermalSensorRead
  simp [Sound, hs]

theorem execHbmTempRead_sound (u : Nat) (v : Int) (hs : Sound s) : Runs Sound (execHbmTempRead u v s) := by
  unfold execHbmTempRead
  simp [Sound, hs]

theorem ringBell_sound (path : BellPath) (word : Nat) (hs : Sound s) : Runs Sound (ringBell path word s) := by
  cases path with
  | chavi h => exact chaviReq_sound hs fun _ => hostArrive_sound _
  | fabric port p =>
    unfold ringBell
    dsimp only
    split
    · exact runs_sound hs
    · exact arrive_sound port _ hs

theorem execReqTail_sound (path : BellPath) (ring value rsv : Nat) (hs : Sound s) : Runs Sound (execReqTail path ring value rsv s) := ringBell_sound _ _ hs

theorem execReqAdd_sound (path : BellPath) (ring value rsv : Nat) (hs : Sound s) : Runs Sound (execReqAdd path ring value rsv s) := ringBell_sound _ _ hs

theorem execCplHead_sound (path : BellPath) (ring value rsv : Nat) (hs : Sound s) : Runs Sound (execCplHead path ring value rsv s) := ringBell_sound _ _ hs

theorem execReqTimeout_sound (n i : Nat) (hs : Sound s) : Runs Sound (execReqTimeout n i s) := by
  unfold execReqTimeout
  dsimp only
  repeat' split
  all_goals simp [Sound, hs]

theorem execJobTimeout_sound (job : Nat) (hs : Sound s) : Runs Sound (execJobTimeout job s) := by
  unfold execJobTimeout
  extract_lets s₁ s₂
  have recorded : Sound s₁ := by simpa [s₁, Sound] using hs
  have ended : Sound s₂ := each_sound _ _ (fun p _ => endRequests_sound p.1 _ _) recorded
  split
  · exact runs_sound hs
  · exact runs_sound (each_sound _ _ (fun p _ => purgeHead_sound p.2.count p.1) ended)

theorem execFetchBlockGather_sound (b e : Nat) (bad : Bool) (hs : Sound s) : Runs Sound (execFetchBlockGather b e bad s) := by
  unfold execFetchBlockGather
  split
  · exact runs_sound hs
  split
  · exact runs_sound hs
  refine runs_sound (blockEntry_sound hs fun l t ht => ?_)
  dsimp only
  split
  · simpa [Sound] using ht
  · simpa [Sound] using memMeets_sound _ _ ht
  · simpa [Sound] using ht

theorem execFetchBlockMove_sound (b e : Nat) (bad : Bool) (hs : Sound s) : Runs Sound (execFetchBlockMove b e bad s) := by
  unfold execFetchBlockMove
  split
  · exact runs_sound hs
  split
  · exact runs_sound hs
  refine runs_sound (blockEntry_sound hs fun l t ht => ?_)
  extract_lets x dst inMem
  split
  · split
    · simpa [Sound] using ht
    · have counted (f) : Sound (t.modEngine b e f) := by simpa [Sound] using ht
      simpa [Sound] using memWrite_sound _ _ (memWrite_sound _ _ (counted _))
  · simpa [Sound] using memMeets_sound _ _ ht
  · simpa [Sound] using ht

theorem execRowReadComplete_sound (b e : Nat) (bad : Bool) (hs : Sound s) : Runs Sound (execRowReadComplete b e bad s) := by
  unfold execRowReadComplete
  dsimp only
  repeat' split
  all_goals simp [Sound, hs]

theorem execFetchComplete_sound (b e : Nat) (hs : Sound s) : Runs Sound (execFetchComplete b e s) := by
  unfold execFetchComplete
  dsimp only
  repeat' split
  all_goals simp [Sound, hs]

theorem execScoreboardGrant_sound (r i : Nat) (bad : Bool) (hs : Sound s) : Runs Sound (execScoreboardGrant r i bad s) := by
  unfold execScoreboardGrant
  dsimp only
  repeat' split
  all_goals simp [Sound, hs]

theorem execDmaComplete_sound (r e err lines : Nat) (hs : Sound s) : Runs Sound (execDmaComplete r e err lines s) := by
  unfold execDmaComplete
  extract_lets x
  split
  · exact runs_sound hs
  extract_lets c0 poi c taint l l' s₁ s₂
  have written : Sound s₁ := dmaWrite_sound _ _ _ _ (by simpa [Sound] using hs)
  have told : Sound s₂ := by
    unfold s₂
    repeat' split
    all_goals simp [Sound, written]
  split
  · exact runs_sound hs
  · exact runs_sound (by simpa [Sound] using told)

theorem execDmaDescriptorTimeout_sound (r e lines : Nat) (hs : Sound s) : Runs Sound (execDmaDescriptorTimeout r e lines s) := by
  unfold execDmaDescriptorTimeout
  dsimp only
  repeat' split
  all_goals simp [Sound, hs]

theorem ingressStep_sound (r a i : Nat) (bad : Bool) (hs : Sound s) : Runs Sound (ingressStep r a i bad s) := by
  unfold ingressStep
  dsimp only
  repeat' split
  all_goals simp [Sound, hs]

theorem execIngressTransaction_sound (r a i : Nat) (bad : Bool) (hs : Sound s) : Runs Sound (execIngressTransaction r a i bad s) := by
  obtain ⟨t, step, ht⟩ := ingressStep_sound r a i bad hs
  unfold execIngressTransaction
  rw [step]
  exact runs_sound (windowsSettle_sound ht)

theorem execNetTimeoutExpiry_sound (kind a b : Nat) (hs : Sound s) : Runs Sound (execNetTimeoutExpiry kind a b s) := by
  unfold execNetTimeoutExpiry
  dsimp only
  repeat' split
  all_goals simp [Sound, hs]

theorem execBankTransitionComplete_sound (r b : Nat) (hs : Sound s) : Runs Sound (execBankTransitionComplete r b s) := by
  unfold execBankTransitionComplete
  extract_lets k
  repeat' split
  · exact runs_sound hs
  · exact runs_sound (completeWait_sound _ _ _ _ _ (dropCells_sound _ (by simpa [Sound] using hs)))
  · exact runs_sound (by simpa [Sound] using hs)
  · exact runs_sound (by simpa [Sound] using hs)
  · exact runs_sound (bankIsOn_sound r b hs)
  · exact runs_sound hs

theorem execBankScrubEnd_sound (r b : Nat) (hs : Sound s) : Runs Sound (execBankScrubEnd r b s) := by
  unfold execBankScrubEnd
  simp [Sound, hs]

/-! Images, tests, bridges and the Witness. -/

theorem execImgReqResponse_sound (idx off : Nat) (absent : Bool) (data : List Byte) (hs : Sound s) : Runs Sound (execImgReqResponse idx off absent data s) := by
  unfold execImgReqResponse
  dsimp only
  repeat' split
  all_goals simp [Sound, hs]

theorem execImgReqResend_sound (hs : Sound s) : Runs Sound (execImgReqResend s) := by
  unfold execImgReqResend
  repeat' split
  all_goals simp [Sound, hs]

theorem execQuoteSigningComplete_sound (hs : Sound s) : Runs Sound (execQuoteSigningComplete s) := by
  unfold execQuoteSigningComplete
  dsimp only
  repeat' split
  all_goals simp [Sound, hs]

theorem execDbgWrite_sound (h : ChaviHdr) (a : Nat) (data : List Byte) (hs : Sound s) : Runs Sound (execDbgWrite h a data s) := by
  refine chaviReq_sound hs fun t ht => ?_
  have touched : Sound (mgmtTouch a t) := by simpa [Sound] using ht
  dsimp only
  repeat' split
  · simpa [Sound] using ht
  · simpa [Sound] using ht
  · simpa [Sound] using memWrite_sound _ data touched
  · simpa [Sound] using touched
  · simpa [Sound] using ht

theorem execDimmFault_sound (d : Nat) (hs : Sound s) : Runs Sound (execDimmFault d s) := by
  unfold execDimmFault
  simp [Sound, hs]

theorem execBridgeReloadComplete_sound (b : Nat) (res : List CardTest) (hs : Sound s) : Runs Sound (execBridgeReloadComplete b res s) := by
  unfold execBridgeReloadComplete
  extract_lets x s₁ s₂ s₃ s₄ s₅
  have refreshed : Sound s₂ := each_sound _ _ (fun _ _ => (modMemUnit_sound _ _).2) (by simpa [s₁, Sound] using hs)
  have reset : Sound s₃ := by simpa [s₃, Sound] using refreshed
  have scanned : Sound s₄ := by
    unfold s₄
    split
    · simpa [Sound] using reset
    · exact reset
  have up : Sound s₅ := by
    unfold s₅
    split
    · simpa [Sound] using scanned
    · exact scanned
  split
  · exact runs_sound hs
  · exact runs_sound (completeWait_sound _ _ _ _ _ up)

theorem execWitnessEvaluation_sound (i : Nat) (hs : Sound s) : Runs Sound (execWitnessEvaluation i s) := by
  unfold execWitnessEvaluation
  repeat' split
  all_goals simp [Sound, hs]

theorem execFetchItemWaitExpiry_sound (i : Nat) (hs : Sound s) : Runs Sound (execFetchItemWaitExpiry i s) := by
  unfold execFetchItemWaitExpiry
  repeat' split
  all_goals simp [Sound, hs]

theorem execStallHoldExpiry_sound (w : Nat) (hs : Sound s) : Runs Sound (execStallHoldExpiry w s) := by
  unfold execStallHoldExpiry
  dsimp only
  repeat' split
  all_goals simp [Sound, hs]

theorem execWitnessEntryWrite_sound (w : Nat) (hs : Sound s) : Runs Sound (execWitnessEntryWrite w s) := by
  unfold execWitnessEntryWrite
  split
  · exact runs_sound hs
  next e _ =>
  extract_lets g reserve s₁ g' l
  have read : Sound s₁ := by
    unfold s₁
    split <;> simp [Sound, hs]
  have put := putEntry_sound w l read
  split
  · exact runs_sound read
  split
  · next heq =>
    rw [heq] at put
    extract_lets t₁ t₂
    have recorded : Sound t₂ := chained_sound w e l _ (show Sound t₁ by simpa [t₁, Sound] using put)
    have drained := each_sound (List.range 16) (fun v s => stallDrain ((s.wring v).heldRecs.length) v s) (fun v _ => stallDrain_sound _ v) recorded
    exact runs_sound (by simpa [Sound] using drained)
  · exact runs_sound (witFail_sound _ _ read)

theorem execSealWrite_sound (hs : Sound s) : Runs Sound (execSealWrite s) := by
  unfold execSealWrite
  split
  · exact runs_sound hs
  next x _ =>
  extract_lets w s₁ hd
  have read : Sound s₁ := by
    unfold s₁
    split <;> simp [Sound, hs]
  have put := putEntry_sound w (hd ++ Config.slhSign s₁.fuse.seed hd) read
  split
  · exact runs_sound read
  split
  · next t heq =>
    rw [heq] at put
    extract_lets done t₁ t₂ t₃
    have sealed : Sound t₁ := by simpa [t₁, Sound] using put
    have told : Sound t₂ := by
      unfold t₂
      split
      · exact completeWait_sound _ _ _ _ _ sealed
      · exact sealed
    have closed : Sound t₃ := by
      unfold t₃
      split
      · exact completeWait_sound _ _ _ _ _ told
      · exact told
    exact runs_sound (by simpa [Sound] using closed)
  · exact runs_sound (witFail_sound _ _ read)

end Sys2Proof.Machine
end

section
/-! PROOFS. O60: every step keeps memory in its canonical form (log 8). -/

namespace Sys2Proof.Machine

variable {s : State}

/-! The module at rest, and every command. -/

theorem hostIdle_sound {t : State} (hs : Sound s) (h : hostIdle s = some t) : Sound t := by
  unfold hostIdle at h
  split at h
  · cases h
  split at h
  · cases h
  · cases h
    exact hostPerform_sound _ (by simpa [Sound] using hs)

theorem ringIdle_sound {t : State} (hs : Sound s) (h : ringIdle s = some t) : Sound t := by
  unfold ringIdle at h
  split at h
  · cases h
  · obtain ⟨p, _, rfl⟩ := Option.map_eq_some_iff.1 h
    exact drainHeld_sound _ _ hs

theorem cmdStep_sound {k : Cmd} {t : State} (hs : Sound s) (h : cmdStep s k = some t) : Sound t := by
  unfold cmdStep swapStep at h
  dsimp only at h
  repeat' split at h
  all_goals cases h
  all_goals simp [Sound, hs]

theorem cmdIdle_sound {t : State} (hs : Sound s) (h : cmdIdle s = some t) : Sound t := by
  obtain ⟨k, _, step⟩ := List.exists_of_findSome?_eq_some h
  exact cmdStep_sound hs step

/-- What no command does to memory: a command whose effect names other fields alone keeps memory canonical. -/
theorem runs_sound_of_keeps {r : Res} (hs : Sound s) (h : ∀ u, Runs (Keeps memless u) r ↔ Keeps memless u s) : Runs Sound r := by
  obtain ⟨u, hu, hk⟩ := hs
  obtain ⟨t, step, ht⟩ := (h u).2 hk
  exact ⟨t, step, u, hu, ht⟩

theorem exec_sound (c : Instr) (hs : Sound s) : Runs Sound (exec c s) := by
  have kept {r : Res} (h : ∀ u, Runs (Keeps memless u) r ↔ Keeps memless u s) : Runs Sound r := runs_sound_of_keeps hs h
  cases c with
  | inputTrip => exact execInputTrip_sound _ _ _ hs
  | inputRangeExcursion => exact kept fun _ => runs_execInputRangeExcursion _ _ (by simp)
  | holdUpEnd => exact execHoldUpEnd_sound hs
  | platformEventRecordWrite => exact kept fun _ => runs_execPlatformEventRecordWrite _ _ (by simp)
  | eepromArbitrationRetry => exact kept fun _ => runs_execEepromArbitrationRetry _ _ (by simp)
  | inputSwitchClose => exact kept fun _ => runs_execInputSwitchClose _ (by simp)
  | softStartComplete => exact kept fun _ => runs_execSoftStartComplete _ (by simp)
  | mrstNAssert => exact execMrstNAssert_sound _ hs
  | mrstNRelease => exact kept fun _ => runs_execMrstNRelease _ (by simp)
  | coldBringUpStart => exact kept fun _ => runs_execColdBringUpStart _ (by simp)
  | switchSoftStartDone => exact execSwitchSoftStartDone_sound _ _ _ hs
  | switchSoftStartTimeout => exact execSwitchSoftStartTimeout_sound _ hs
  | switchCurrentLimitLatch => exact execSwitchCurrentLimitLatch_sound _ hs
  | dimmRemovedWhileOn => exact execDimmRemovedWhileOn_sound _ hs
  | bayLatchOpen => exact execBayLatchOpen_sound _ hs
  | baySwitchDelayedOpen => exact execBaySwitchDelayedOpen_sound _ hs
  | presentNChange => exact kept fun _ => runs_execPresentNChange _ _ _ (by simp)
  | mgmtPortLinkChange => exact kept fun _ => runs_execMgmtPortLinkChange _ _ _ (by simp)
  | j3Send => exact kept fun _ => runs_execJ3Send _ _ _ _ (by simp)
  | j3Done => exact kept fun _ => runs_execJ3Done _ _ _ _ _ (by simp)
  | phaseLoss => exact execPhaseLoss_sound _ _ hs
  | rowShort => exact execRowShort_sound _ hs
  | rowRetryBegin => exact kept fun _ => runs_execRowRetryBegin _ _ (by simp)
  | rowRetrySuccess => exact execRowRetrySuccess_sound _ hs
  | stagingStart => exact kept fun _ => runs_execStagingStart _ _ _ (by simp)
  | stagingHalfRateStart => exact kept fun _ => runs_execStagingHalfRateStart _ _ _ (by simp)
  | headerStageClose => exact execHeaderStageClose_sound _ hs
  | rowUsable => exact execRowUsable_sound _ hs
  | powerWindowEnd => exact kept fun _ => runs_execPowerWindowEnd _ _ (by simp)
  | sharedRailLost => exact execSharedRailLost_sound _ hs
  | sharedRailRetry => exact kept fun _ => runs_execSharedRailRetry _ _ _ (by simp)
  | vspineLost => exact execVspineLost_sound hs
  | refLoss => exact kept fun _ => runs_execRefLoss _ (by simp)
  | clockHold => exact kept fun _ => runs_execClockHold _ _ _ _ (by simp)
  | clkStepAtWrite => exact kept fun _ => runs_execClkStepAtWrite _ _ _ _ (by simp)
  | stepWithdraw => exact kept fun _ => runs_execStepWithdraw _ (by simp)
  | stepChangeTick => exact kept fun _ => runs_execStepChangeTick _ (by simp)
  | stepSettled => exact kept fun _ => runs_execStepSettled _ (by simp)
  | idleEntry => exact kept fun _ => runs_execIdleEntry _ _ (by simp)
  | napEntry => exact kept fun _ => runs_execNapEntry _ _ (by simp)
  | sleepEntry => exact execSleepEntry_sound _ hs
  | timebaseEventWake => exact kept fun _ => runs_execTimebaseEventWake _ _ (by simp)
  | halfPark => exact kept fun _ => runs_execHalfPark _ _ (by simp)
  | seamUnparkComplete => exact kept fun _ => runs_execSeamUnparkComplete _ _ (by simp)
  | bu0 => exact execBu0_sound _ _ _ _ _ hs
  | bu1 => exact execBu1_sound _ hs
  | bu2 => exact execBu2_sound _ _ _ _ hs
  | bu3 => exact execBu3_sound _ hs
  | bu4 => exact execBu4_sound _ hs
  | bu5 => exact execBu5_sound _ hs
  | bu6 => exact execBu6_sound _ hs
  | bu7 => exact kept fun _ => runs_execBu7 _ _ (by simp)
  | bu8 => exact kept fun _ => runs_execBu8 _ _ (by simp)
  | bu9 => exact execBu9_sound hs
  | bu10 => exact kept fun _ => runs_execBu10 _ (by simp)
  | stageTimeout => exact execStageTimeout_sound hs
  | astRunWrite => exact kept fun _ => runs_execAstRunWrite _ _ _ _ (by simp)
  | astRunFetch => exact kept fun _ => runs_execAstRunFetch _ _ _ _ (by simp)
  | astQpushWrite => exact kept fun _ => runs_execAstQpushWrite _ _ _ _ _ (by simp)
  | nopMark => exact kept fun _ => runs_execNopMark _ _ _ _ (by simp)
  | fence => exact kept fun _ => runs_execFence _ _ _ _ (by simp)
  | resv => exact kept fun _ => runs_execResv _ _ _ _ (by simp)
  | rels => exact kept fun _ => runs_execRels _ _ _ _ (by simp)
  | wload => exact kept fun _ => runs_execWload _ _ _ _ _ (by simp)
  | wloadComplete => exact kept fun _ => runs_execWloadComplete _ _ _ _ (by simp)
  | epi => exact kept fun _ => runs_execEpi _ _ _ _ _ (by simp)
  | epiComplete => exact kept fun _ => runs_execEpiComplete _ _ _ _ (by simp)
  | decideSet => exact kept fun _ => runs_execDecideSet _ _ _ _ (by simp)
  | group => exact kept fun _ => runs_execGroup _ _ _ _ (by simp)
  | matv => exact kept fun _ => runs_execMatv _ _ _ _ _ (by simp)
  | deciderEvaluation => exact execDeciderEvaluation_sound _ _ _ _ hs
  | matvComplete => exact execMatvComplete_sound _ _ _ hs
  | pairCompare => exact kept fun _ => runs_execPairCompare _ _ _ _ (by simp)
  | astWaitTimeout => exact kept fun _ => runs_execAstWaitTimeout _ _ _ _ (by simp)
  | astRunTimeout => exact kept fun _ => runs_execAstRunTimeout _ _ _ _ (by simp)
  | primroseExecute => exact execPrimroseExecute_sound _ _ _ hs
  | primroseMemoryAccess => exact execPrimroseMemoryAccess_sound _ _ _ hs
  | rpop => exact execRpop_sound _ _ _ _ _ hs
  | rpush => exact execRpush_sound _ _ _ _ _ hs
  | sresv => exact kept fun _ => runs_execSresv _ _ _ _ _ _ (by simp)
  | sresvDeadline => exact kept fun _ => runs_execSresvDeadline _ _ _ (by simp)
  | srels => exact kept fun _ => runs_execSrels _ _ _ _ _ (by simp)
  | tbwait => exact kept fun _ => runs_execTbwait _ _ _ _ _ _ (by simp)
  | tbwaitEnd => exact kept fun _ => runs_execTbwaitEnd _ _ _ (by simp)
  | wdkick => exact execWdkick_sound _ _ hs
  | badd => exact execBadd_sound _ _ _ _ _ hs
  | bscl => exact execBscl_sound _ _ _ _ _ hs
  | bmax => exact execBmax_sound _ _ _ _ _ hs
  | blin => exact execBlin_sound _ _ _ _ _ _ hs
  | fhash => exact execFhash_sound _ _ _ _ _ _ _ hs
  | prmWatchdogExpiry => exact kept fun _ => runs_execPrmWatchdogExpiry _ _ _ (by simp)
  | haltedCoreRequestsEnd => exact execHaltedCoreRequestsEnd_sound _ _ hs
  | scoreboardGrant => exact execScoreboardGrant_sound _ _ _ hs
  | dmaCopy => exact kept fun _ => runs_execDmaCopy _ _ _ _ (by simp)
  | dmaSkew => exact kept fun _ => runs_execDmaSkew _ _ _ _ (by simp)
  | dmaUnskew => exact kept fun _ => runs_execDmaUnskew _ _ _ _ (by simp)
  | dmaFill => exact kept fun _ => runs_execDmaFill _ _ _ _ (by simp)
  | dmaDescriptorStart => exact kept fun _ => runs_execDmaDescriptorStart _ _ _ (by simp)
  | dmaComplete => exact execDmaComplete_sound _ _ _ _ hs
  | dmaCplPop => exact kept fun _ => runs_execDmaCplPop _ _ _ (by simp)
  | dmaDescriptorTimeout => exact execDmaDescriptorTimeout_sound _ _ _ hs
  | ingressTransaction => exact execIngressTransaction_sound _ _ _ _ hs
  | netTimeoutExpiry => exact execNetTimeoutExpiry_sound _ _ _ hs
  | bankRetEntry => exact kept fun _ => runs_execBankRetEntry _ _ _ (by simp)
  | bankTransitionComplete => exact execBankTransitionComplete_sound _ _ hs
  | bankScrubEnd => exact execBankScrubEnd_sound _ _ hs
  | ucieFlitReceive => exact kept fun _ => runs_execUcieFlitReceive _ _ _ _ _ _ _ (by simp)
  | memoryAccess => exact execMemoryAccess_sound _ _ _ _ _ _ hs
  | pageRemapComplete => exact execPageRemapComplete_sound _ hs
  | hbmTempRead => exact execHbmTempRead_sound _ _ hs
  | ddrScrubCountRead => exact execDdrScrubCountRead_sound _ _ _ hs
  | fetchCommand => exact kept fun _ => runs_execFetchCommand _ _ _ (by simp)
  | fetchDispatch => exact kept fun _ => runs_execFetchDispatch _ _ _ (by simp)
  | fetchPool => exact kept fun _ => runs_execFetchPool _ _ _ (by simp)
  | fetchBlockGather => exact execFetchBlockGather_sound _ _ _ hs
  | fetchBlockMove => exact execFetchBlockMove_sound _ _ _ hs
  | rowReadComplete => exact execRowReadComplete_sound _ _ _ hs
  | fetchComplete => exact execFetchComplete_sound _ _ hs
  | migrationPageCopyComplete => exact execMigrationPageCopyComplete_sound _ hs
  | channelTestComplete => exact execChannelTestComplete_sound _ _ _ hs
  | flashReadComplete => exact kept fun _ => runs_execFlashReadComplete _ _ _ _ (by simp)
  | flashBatchCommit => exact execFlashBatchCommit_sound _ _ hs
  | flashProgramEraseComplete => exact execFlashProgramEraseComplete_sound _ _ _ _ _ _ _ _ _ hs
  | flashRelocationComplete => exact execFlashRelocationComplete_sound _ _ _ _ _ _ hs
  | flashRetentionExpiry => exact kept fun _ => runs_execFlashRetentionExpiry _ _ _ _ (by simp)
  | flashInterfaceTraining => exact execFlashInterfaceTraining_sound _ _ _ hs
  | flashMapReloadComplete => exact execFlashMapReloadComplete_sound _ _ hs
  | cardTestComplete => exact execCardTestComplete_sound _ _ _ _ _ hs
  | fabricFrameReceive => exact kept fun _ => runs_execFabricFrameReceive _ _ _ _ _ (by simp)
  | fabricControlFlit => exact kept fun _ => runs_execFabricControlFlit _ _ _ _ _ _ _ (by simp)
  | laneSwap => exact kept fun _ => runs_execLaneSwap _ _ _ _ (by simp)
  | laneSwapEffective => exact kept fun _ => runs_execLaneSwapEffective _ _ _ (by simp)
  | laneReturn => exact kept fun _ => runs_execLaneReturn _ _ _ _ (by simp)
  | laneBerWindowEnd => exact kept fun _ => runs_execLaneBerWindowEnd _ _ _ _ (by simp)
  | laneQualificationEnd => exact execLaneQualificationEnd_sound _ _ hs
  | fabricPacketForward => exact execFabricPacketForward_sound _ _ hs
  | fabricWrite => exact execFabricWrite_sound _ _ hs
  | fabricReadReq => exact execFabricReadReq_sound _ _ hs
  | fabricReadRsp => exact execFabricReadRsp_sound _ _ hs
  | fabricAck => exact execFabricAck_sound _ _ hs
  | fabricFetch => exact execFabricFetch_sound _ _ hs
  | fabricMsg => exact execFabricMsg_sound _ _ hs
  | fabricToken => exact execFabricToken_sound _ _ hs
  | fabricPoison => exact execFabricPoison_sound _ _ hs
  | fabricWitrec => exact execFabricWitrec_sound _ _ hs
  | fabStallExpiry => exact kept fun _ => runs_execFabStallExpiry _ _ (by simp)
  | fabRequestTimeout => exact execFabRequestTimeout_sound _ _ hs
  | injectionStepEval => exact kept fun _ => runs_execInjectionStepEval _ (by simp)
  | routeCommitTick => exact execRouteCommitTick_sound hs
  | routeVersionFree => exact kept fun _ => runs_execRouteVersionFree _ _ (by simp)
  | bindingSendStart => exact kept fun _ => runs_execBindingSendStart _ _ (by simp)
  | bindingSendComplete => exact execBindingSendComplete_sound _ hs
  | portLinkLoss => exact kept fun _ => runs_execPortLinkLoss _ _ (by simp)
  | portRetrainStart => exact kept fun _ => runs_execPortRetrainStart _ _ (by simp)
  | portQualificationEnd => exact execPortQualificationEnd_sound _ _ _ hs
  | chaviFrameReceive => exact kept fun _ => runs_execChaviFrameReceive _ _ _ _ _ _ (by simp)
  | chaviLinkUp => exact kept fun _ => runs_execChaviLinkUp _ (by simp)
  | chaviLinkDown => exact kept fun _ => runs_execChaviLinkDown _ _ (by simp)
  | credit => exact kept fun _ => runs_execCredit _ _ _ (by simp)
  | mbxSend => exact execMbxSend_sound _ _ _ hs
  | mbxDone => exact execMbxDone_sound _ _ _ _ hs
  | dwRead => exact kept fun _ => runs_execDwRead _ _ _ _ _ (by simp)
  | hwrite => exact execHwrite_sound _ _ _ _ _ hs
  | hread => exact execHread_sound _ _ _ _ _ hs
  | mbxAckWrite => exact kept fun _ => runs_execMbxAckWrite _ _ _ _ (by simp)
  | mbxTakeRead => exact kept fun _ => runs_execMbxTakeRead _ _ (by simp)
  | mbxPeerResend => exact kept fun _ => runs_execMbxPeerResend _ _ (by simp)
  | reqTail => exact execReqTail_sound _ _ _ _ hs
  | reqAdd => exact execReqAdd_sound _ _ _ _ hs
  | cplHead => exact execCplHead_sound _ _ _ _ hs
  | reqTimeout => exact execReqTimeout_sound _ _ hs
  | jobTimeout => exact execJobTimeout_sound _ hs
  | deviceInfo => exact execDeviceInfo_sound _ hs
  | defectMap => exact execDefectMap_sound _ hs
  | bootLog => exact execBootLog_sound _ _ hs
  | powerStatus => exact execPowerStatus_sound _ hs
  | clockStatus => exact execClockStatus_sound _ hs
  | fabricStatus => exact execFabricStatus_sound _ _ hs
  | flashHealth => exact execFlashHealth_sound _ hs
  | errorLogRead => exact execErrorLogRead_sound _ _ _ hs
  | rowPowerPolicy => exact execRowPowerPolicy_sound _ _ _ _ _ hs
  | rowPower => exact execRowPower_sound _ _ _ hs
  | rowRearm => exact execRowRearm_sound _ _ hs
  | bankPower => exact execBankPower_sound _ _ _ _ hs
  | powerCap => exact execPowerCap_sound _ _ _ _ _ hs
  | stepLimit => exact execStepLimit_sound _ _ _ hs
  | energyReport => exact execEnergyReport_sound _ _ _ hs
  | powerGroup => exact execPowerGroup_sound _ _ _ _ hs
  | watchdog => exact execWatchdog_sound _ _ _ _ hs
  | programLoad => exact execProgramLoad_sound _ _ _ _ _ _ _ _ hs
  | programUnload => exact execProgramUnload_sound _ _ _ hs
  | selfTest => exact execSelfTest_sound _ _ hs
  | unitRecover => exact execUnitRecover_sound _ _ _ hs
  | timeoutSet => exact execTimeoutSet_sound _ _ _ _ hs
  | recalibrate => exact execRecalibrate_sound _ _ _ hs
  | defectClear => exact execDefectClear_sound _ _ hs
  | restart => exact execRestart_sound _ _ hs
  | handoff => exact execHandoff_sound _ _ hs
  | handoffImageVerified => exact execHandoffImageVerified_sound hs
  | memClaim => exact execMemClaim_sound _ _ _ hs
  | memRelease => exact execMemRelease_sound _ _ _ hs
  | pageFree => exact execPageFree_sound _ _ _ hs
  | tableCreate => exact execTableCreate_sound _ _ _ _ _ _ _ _ _ _ _ _ _ _ _ _ _ _ hs
  | tableUpdate => exact execTableUpdate_sound _ _ _ _ hs
  | tableDestroy => exact execTableDestroy_sound _ _ hs
  | channelDrain => exact execChannelDrain_sound _ _ _ hs
  | channelReturn => exact execChannelReturn_sound _ _ _ _ hs
  | locate => exact execLocate_sound _ _ _ _ hs
  | flashPolicy => exact execFlashPolicy_sound _ _ _ hs
  | cardDrain => exact execCardDrain_sound _ _ hs
  | cardReturn => exact execCardReturn_sound _ _ _ _ hs
  | endpointAssign => exact execEndpointAssign_sound _ _ hs
  | routeStage => exact execRouteStage_sound _ _ _ _ _ hs
  | routeCommit => exact execRouteCommit_sound _ _ _ hs
  | mapWindow => exact execMapWindow_sound _ _ _ _ _ _ _ hs
  | unmapWindow => exact execUnmapWindow_sound _ _ hs
  | binding => exact execBinding_sound _ _ _ _ _ _ _ _ _ _ _ _ _ _ _ _ _ _ _ _ _ _ _ hs
  | fabricPolicy => exact execFabricPolicy_sound _ _ _ _ _ _ hs
  | channelConfigure => exact execChannelConfigure_sound _ _ _ _ _ _ _ hs
  | ringCreate => exact execRingCreate_sound _ _ _ _ _ _ _ _ _ _ _ _ _ hs
  | ringDestroy => exact execRingDestroy_sound _ _ hs
  | ringModify => exact execRingModify_sound _ _ _ _ _ _ _ hs
  | witnessRing => exact execWitnessRing_sound _ _ _ _ _ _ _ _ hs
  | witnessSeal => exact execWitnessSeal_sound _ _ hs
  | attestQuote => exact execAttestQuote_sound _ _ hs
  | debugUnlock => exact execDebugUnlock_sound _ _ _ hs
  | keyRevoke => exact execKeyRevoke_sound _ _ _ hs
  | replyRetry => exact kept fun _ => runs_execReplyRetry _ _ (by simp)
  | poisonDeadline => exact execPoisonDeadline_sound hs
  | heldRpushResolve => exact execHeldRpushResolve_sound _ _ hs
  | targetedTestStart => exact kept fun _ => runs_execTargetedTestStart _ _ (by simp)
  | testNeedsTimeout => exact execTestNeedsTimeout_sound _ hs
  | targetedTestRetry => exact kept fun _ => runs_execTargetedTestRetry _ _ (by simp)
  | targetedTestEnd => exact execTargetedTestEnd_sound _ _ _ _ hs
  | slotRecovery => exact execSlotRecovery_sound _ _ _ hs
  | mgmtWatchdogRestart => exact kept fun _ => runs_execMgmtWatchdogRestart _ (by simp)
  | mgmtWatchdogExpiry => exact kept fun _ => runs_execMgmtWatchdogExpiry _ _ (by simp)
  | mcHalt => exact kept fun _ => runs_execMcHalt _ _ (by simp)
  | failoverResume => exact kept fun _ => runs_execFailoverResume _ (by simp)
  | powerFastCheck => exact kept fun _ => runs_execPowerFastCheck _ _ (by simp)
  | phaseMarker => exact kept fun _ => runs_execPhaseMarker _ (by simp)
  | thermalSensorRead => exact execThermalSensorRead_sound _ _ hs
  | thermalCeilingRaise => exact kept fun _ => runs_execThermalCeilingRaise _ (by simp)
  | peerDiscovery => exact kept fun _ => runs_execPeerDiscovery _ (by simp)
  | tokenReportPeriod => exact kept fun _ => runs_execTokenReportPeriod _ (by simp)
  | witnessItem => exact kept fun _ => runs_execWitnessItem _ _ (by simp)
  | witnessItemExpiry => exact kept fun _ => runs_execWitnessItemExpiry _ _ (by simp)
  | witnessEvaluation => exact execWitnessEvaluation_sound _ hs
  | fetchItemWaitExpiry => exact execFetchItemWaitExpiry_sound _ hs
  | stallHoldExpiry => exact execStallHoldExpiry_sound _ hs
  | witnessEntryWrite => exact execWitnessEntryWrite_sound _ hs
  | sealTimer => exact kept fun _ => runs_execSealTimer _ _ (by simp)
  | sealWrite => exact execSealWrite_sound hs
  | imgReqResponse => exact execImgReqResponse_sound _ _ _ _ hs
  | imgReqResend => exact execImgReqResend_sound hs
  | sesHello => exact kept fun _ => runs_execSesHello _ _ _ _ _ (by simp)
  | sesOfferSend => exact kept fun _ => runs_execSesOfferSend _ (by simp)
  | sesProof => exact kept fun _ => runs_execSesProof _ _ _ _ _ (by simp)
  | authLockoutEnd => exact kept fun _ => runs_execAuthLockoutEnd _ (by simp)
  | noiseHealthChange => exact kept fun _ => runs_execNoiseHealthChange _ _ (by simp)
  | dbgRead => exact kept fun _ => runs_execDbgRead _ _ _ _ (by simp)
  | dbgWrite => exact execDbgWrite_sound _ _ _ hs
  | spnAttnClearbelow => exact kept fun _ => runs_execSpnAttnClearbelow _ _ (by simp)
  | spnTbLowRead => exact kept fun _ => runs_execSpnTbLowRead _ _ (by simp)
  | astPlanesRead => exact kept fun _ => runs_execAstPlanesRead _ _ _ (by simp)
  | scbStatusRead => exact kept fun _ => runs_execScbStatusRead _ _ (by simp)
  | clkRowRead => exact kept fun _ => runs_execClkRowRead _ _ (by simp)
  | witCntRead => exact kept fun _ => runs_execWitCntRead _ _ (by simp)
  | registerWrite => exact kept fun _ => runs_execRegisterWrite _ _ _ (by simp)
  | attnNRelease => exact kept fun _ => runs_execAttnNRelease _ (by simp)
  | attnEventDeferred => exact kept fun _ => runs_execAttnEventDeferred _ (by simp)
  | dimmFault => exact execDimmFault_sound _ hs
  | qualificationSessionRequest => exact kept fun _ => runs_execQualificationSessionRequest _ _ (by simp)
  | quoteSigningComplete => exact execQuoteSigningComplete_sound hs
  | bridgeReloadComplete => exact execBridgeReloadComplete_sound _ _ hs
  | recalibrationComplete => exact kept fun _ => runs_execRecalibrationComplete _ _ _ _ (by simp)

theorem idle_sound (hs : Sound s) : Runs Sound (idle s) := by
  unfold idle
  split
  · next t resumed =>
    refine runs_sound ?_
    cases hh : hostIdle s with
    | some u => exact hostIdle_sound hs (by simpa [hh] using resumed)
    | none =>
      cases hr : ringIdle s with
      | some u => exact ringIdle_sound hs (by simpa [hh, hr] using resumed)
      | none => exact cmdIdle_sound hs (by simpa [hh, hr] using resumed)
  split
  · next before c after _ =>
    obtain ⟨t, step, ht⟩ := exec_sound (s := s.modGw (fun g => { g with waiting := before })) c (by simpa [Sound] using hs)
    rw [step]
    exact runs_sound (by simpa [Sound] using ht)
  · exact runs_sound (by simpa [Sound] using hs)

theorem step_sound (hs : Sound s) : Runs Sound (step s) := by
  unfold step
  split
  · exact idle_sound hs
  · exact exec_sound _ (by simpa [Sound] using hs)

/-- Settles O60: each command keeps memory canonical, and so does the module at rest. -/
theorem everyStepKeepsMemoryCanonical : Obligations.EveryStepKeepsMemoryCanonical := by
  intro s t hs step
  obtain ⟨u, ran, hu⟩ := step_sound (sound_iff.2 hs)
  cases ran.symm.trans step
  exact sound_iff.1 hu

end Sys2Proof.Machine
end

section
/-! PROOFS. O27: memory and the forms of an address (12 R305, R306; log 8). -/

namespace Sys2Proof.Machine

variable {s : State}

/-- Where a place of memory stands in the stack-local or channel-local form; the address itself where there is none (12 R306). -/
def Place.flat (a : Nat) : Place → Nat
  | .mem u loc => if u < 8 then 2 * 2 ^ 44 + u * 2 ^ 36 + loc else 4 * 2 ^ 44 + (u - 8) * 2 ^ 37 + loc
  | _ => a

theorem canon_eq_flat (s : State) (a : Nat) : canon s a = (place s a).flat a := by
  unfold canon Place.flat
  cases place s a <;> rfl

theorem Place.flat_ite {c : Prop} [Decidable c] (p q : Place) (a : Nat) : (if c then p else q).flat a = if c then p.flat a else q.flat a :=
  apply_ite (Place.flat a) c p q

theorem Place.flat_mem (u loc a : Nat) :
    (Place.mem u loc).flat a = if u < 8 then 2 * 2 ^ 44 + u * 2 ^ 36 + loc else 4 * 2 ^ 44 + (u - 8) * 2 ^ 37 + loc := rfl

theorem Place.flat_unmapped (a : Nat) : Place.unmapped.flat a = a := rfl

/-! The regions of the address space (12 Table 12.1). -/

theorem place_regionOne {a : Nat} (h : a / 2 ^ 44 = 1) : place s a =
    if a % 2 ^ 44 < 2 ^ 39 then
      if 256 * (a % 2 ^ 44 / 2048) + a % 2 ^ 44 % 256 < 47815065600 then .mem (a % 2 ^ 44 / 256 % 8) (256 * (a % 2 ^ 44 / 2048) + a % 2 ^ 44 % 256)
      else .unmapped
    else .unmapped := by
  unfold place
  rw [if_neg (by omega), h]
  rfl

theorem place_regionTwo {a : Nat} (h : a / 2 ^ 44 = 2) : place s a =
    if a % 2 ^ 44 < 2 ^ 39 then
      if a % 2 ^ 44 % 2 ^ 36 < 47815065600 then .mem (a % 2 ^ 44 / 2 ^ 36) (a % 2 ^ 44 % 2 ^ 36) else .unmapped
    else .unmapped := by
  unfold place
  rw [if_neg (by omega), h]
  rfl

theorem place_regionThree {a : Nat} (h : a / 2 ^ 44 = 3) : place s a =
    if 2 ^ 41 ≤ a % 2 ^ 44 then .unmapped
    else if s.fuse.variant == .m4 then
      if 256 * (a % 2 ^ 44 / 2048) + a % 2 ^ 44 % 256 < 125829120000 then
        .mem (8 + a % 2 ^ 44 / 256 % 8) (256 * (a % 2 ^ 44 / 2048) + a % 2 ^ 44 % 256)
      else .unmapped
    else
      if 256 * (a % 2 ^ 44 / 4096) + a % 2 ^ 44 % 256 < 125829120000 then
        .mem (8 + a % 2 ^ 44 / 256 % 16) (256 * (a % 2 ^ 44 / 4096) + a % 2 ^ 44 % 256)
      else .unmapped := by
  unfold place
  rw [if_neg (by omega), h]
  rfl

theorem place_regionFour {a : Nat} (h : a / 2 ^ 44 = 4) : place s a =
    if a % 2 ^ 44 < 2 ^ 41 then
      if a % 2 ^ 44 % 2 ^ 37 < 125829120000 then .mem (8 + a % 2 ^ 44 / 2 ^ 37) (a % 2 ^ 44 % 2 ^ 37) else .unmapped
    else .unmapped := by
  unfold place
  rw [if_neg (by omega), h]
  rfl

/-- No other region is memory. -/
theorem canon_of_other {a : Nat} (h1 : a / 2 ^ 44 ≠ 1) (h2 : a / 2 ^ 44 ≠ 2) (h3 : a / 2 ^ 44 ≠ 3) (h4 : a / 2 ^ 44 ≠ 4) : canon s a = a := by
  rw [canon_eq_flat]
  unfold place
  extract_lets off hbm ddr
  split
  · rfl
  split
  · split <;> rfl
  · exact absurd ‹_› h1
  · exact absurd ‹_› h2
  · exact absurd ‹_› h3
  · exact absurd ‹_› h4
  · split
    · rfl
    · split <;> rfl
  · rfl

/-- The 64 bytes of an aligned unit of an address stand together in memory, in either form of address (12 R306). -/
theorem canon_add {a i : Nat} (ha : a % 64 = 0) (hi : i < 64) : canon s (a + i) = canon s a + i := by
  have region : (a + i) / 2 ^ 44 = a / 2 ^ 44 := by omega
  have offset : (a + i) % 2 ^ 44 = a % 2 ^ 44 + i := by omega
  have aligned : a % 2 ^ 44 % 64 = 0 := by omega
  by_cases h1 : a / 2 ^ 44 = 1
  · rw [canon_eq_flat, canon_eq_flat, place_regionOne h1, place_regionOne (region.trans h1), offset]
    simp only [Place.flat_ite, Place.flat_mem, Place.flat_unmapped]
    split_ifs <;> omega
  by_cases h2 : a / 2 ^ 44 = 2
  · rw [canon_eq_flat, canon_eq_flat, place_regionTwo h2, place_regionTwo (region.trans h2), offset]
    simp only [Place.flat_ite, Place.flat_mem, Place.flat_unmapped]
    split_ifs <;> omega
  by_cases h3 : a / 2 ^ 44 = 3
  · rw [canon_eq_flat, canon_eq_flat, place_regionThree h3, place_regionThree (region.trans h3), offset]
    simp only [Place.flat_ite, Place.flat_mem, Place.flat_unmapped]
    split_ifs <;> omega
  by_cases h4 : a / 2 ^ 44 = 4
  · rw [canon_eq_flat, canon_eq_flat, place_regionFour h4, place_regionFour (region.trans h4), offset]
    simp only [Place.flat_ite, Place.flat_mem, Place.flat_unmapped]
    split_ifs <;> omega
  · rw [canon_of_other h1 h2 h3 h4, canon_of_other (region ▸ h1) (region ▸ h2) (region ▸ h3) (region ▸ h4)]

/-- Two bytes of one aligned unit of an address are two bytes of memory. -/
theorem canon_ne_of_ne {a i j : Nat} (ha : a % 64 = 0) (hi : i < 64) (hj : j < 64) (ne : i ≠ j) : canon s (a + i) ≠ canon s (a + j) := by
  rw [canon_add ha hi, canon_add ha hj]
  omega

theorem cellRead_cellWrite_self (m : List Host.Cell) (k : Nat) (b : Byte) : cellRead (cellWrite m k b) k = b := by
  unfold cellRead cellWrite
  split
  · next zero => simp [mget_mdel, zero]
  · simp [mget_mset_self]

theorem cellRead_cellWrite_of_ne (m : List Host.Cell) {k j : Nat} (b : Byte) (ne : j ≠ k) : cellRead (cellWrite m k b) j = cellRead m j := by
  unfold cellRead cellWrite
  split
  · simp [mget_mdel, ne]
  · simp [mget_mset_of_ne _ _ ne]

/-- A byte of memory no byte of a write falls on. -/
theorem cellRead_writeCells_of_ne (m : List Host.Cell) (a : Nat) (l : List Byte) {k : Nat} (away : ∀ i, i < l.length → canon s (a + i) ≠ k) :
    cellRead (writeCells s m a l) k = cellRead m k := by
  induction l generalizing m a with
  | nil => rfl
  | cons b l ih =>
    have first : k ≠ canon s a := fun e => away 0 (by simp) e.symm
    have rest : ∀ i, i < l.length → canon s (a + 1 + i) ≠ k := fun i hi => by
      rw [Nat.add_right_comm]
      exact away (i + 1) (by simpa using hi)
    rw [writeCells, ih _ _ rest, cellRead_cellWrite_of_ne _ _ first]

/-- A byte of memory holds the last byte a write put there. -/
theorem cellRead_writeCells_self (m : List Host.Cell) (a : Nat) (l : List Byte) {i : Nat} (hi : i < l.length)
    (last : ∀ j, i < j → j < l.length → canon s (a + j) ≠ canon s (a + i)) : cellRead (writeCells s m a l) (canon s (a + i)) = nth l i := by
  induction l generalizing m a i with
  | nil => exact absurd hi (Nat.not_lt_zero i)
  | cons b l ih =>
    have shift (j : Nat) : a + 1 + j = a + (j + 1) := by omega
    cases i with
    | zero =>
      have later : ∀ j, j < l.length → canon s (a + 1 + j) ≠ canon s a := fun j hj => by
        rw [shift]
        exact last (j + 1) (by omega) (by simpa using hj)
      exact (cellRead_writeCells_of_ne _ _ _ later).trans (cellRead_cellWrite_self ..)
    | succ i =>
      have later : ∀ j, i < j → j < l.length → canon s (a + 1 + j) ≠ canon s (a + 1 + i) := fun j lt hj => by
        rw [shift, shift]
        exact last (j + 1) (by omega) (by simpa using hj)
      rw [← shift i]
      exact ih _ _ (by simpa using hi) later

/-- The interleaved form of an address of the stacks falls where the stack-local form of its place does (12 R306). -/
theorem place_interleaved {off : Nat} (hoff : off < 2 ^ 39) (hloc : 256 * (off / 2048) + off % 256 < 47815065600) :
    place s (2 ^ 44 + off) = .mem (off / 256 % 8) (256 * (off / 2048) + off % 256) := by
  have offset : (2 ^ 44 + off) % 2 ^ 44 = off := by omega
  rw [place_regionOne (by omega), offset, if_pos hoff, if_pos hloc]

theorem place_stackLocal {u loc : Nat} (hu : u < 8) (hloc : loc < 47815065600) : place s (2 * 2 ^ 44 + u * 2 ^ 36 + loc) = .mem u loc := by
  obtain ⟨region, offset, deep, stack, within⟩ : (2 * 2 ^ 44 + u * 2 ^ 36 + loc) / 2 ^ 44 = 2
      ∧ (2 * 2 ^ 44 + u * 2 ^ 36 + loc) % 2 ^ 44 = u * 2 ^ 36 + loc ∧ u * 2 ^ 36 + loc < 2 ^ 39
      ∧ (u * 2 ^ 36 + loc) / 2 ^ 36 = u ∧ (u * 2 ^ 36 + loc) % 2 ^ 36 = loc := by
    refine ⟨?_, ?_, ?_, ?_, ?_⟩ <;> omega
  rw [place_regionTwo region, offset, if_pos deep, stack, within, if_pos hloc]

/-- The two forms of an address name one byte. -/
theorem canon_interleaved {off : Nat} (hoff : off < 2 ^ 39) (hloc : 256 * (off / 2048) + off % 256 < 47815065600) :
    canon s (2 ^ 44 + off) = canon s (2 * 2 ^ 44 + off / 256 % 8 * 2 ^ 36 + (256 * (off / 2048) + off % 256)) := by
  rw [canon_eq_flat, canon_eq_flat, place_interleaved hoff hloc, place_stackLocal (by omega) hloc]
  rfl

/-- Settles O27: a write is its bytes one after the other, and the forms of an address are places of the same units. -/
theorem memoryReadsBackWhatWasWritten : Obligations.MemoryReadsBackWhatWasWritten := by
  refine ⟨fun s a l k away => ?_, fun s a l i hi last => ?_, fun s a i j => canon_ne_of_ne, fun s off hoff hloc => ?_⟩
  · exact cellRead_writeCells_of_ne _ _ _ away
  · exact cellRead_writeCells_self _ _ _ hi last
  · exact ⟨place_interleaved hoff hloc, canon_interleaved hoff hloc⟩

end Sys2Proof.Machine
end

section
/-! PROOFS. O28: accesses of memory, uncorrectable errors and the retirement of pages (12 R308, R309; log 30). -/

namespace Sys2Proof.Machine

variable {s t : State} {a n u loc k : Nat}

/-! Pages and units of memory after an update. -/

theorem place_of_fuse (hf : t.fuse = s.fuse) (a : Nat) : place t a = place s a := by simp only [place, hf]

theorem canon_of_fuse (hf : t.fuse = s.fuse) (a : Nat) : canon t a = canon s a := by simp only [canon, place_of_fuse hf]

theorem pageEnt_of_mem (h : t.mem = s.mem) (k : Nat) : pageEnt t k = pageEnt s k := by rw [pageEnt, h, pageEnt]

theorem pageEnt_of_remap {e : PageEnt} (h : mget s.mem.remap k = some e) : pageEnt s k = e := by rw [pageEnt, h, Option.getD_some]

theorem memUnit_of_mem (h : t.mem = s.mem) (u : Nat) : t.memUnit u = s.memUnit u := by rw [State.memUnit, h, State.memUnit]

theorem memUnit_modMemUnit (hu : u < s.mem.units.length) (f : MemUnit → MemUnit) : (s.modMemUnit u f).memUnit u = f (s.memUnit u) :=
  nth_modify_self f hu

/-! An uncorrectable error (12 R309). -/

theorem startRetire_mem (mapped : (pageEnt s k).st = .mapped) :
    (startRetire k s).mem = { s.mem with remap := mset s.mem.remap k { pageEnt s k with st := .retired, copying := true } } := by
  unfold startRetire
  dsimp only
  rw [if_neg (not_not_intro mapped), errRecord_mem]
  rfl

/-- The memory once the unit at an address has met an uncorrectable error. -/
def uncorrMem (a k : Nat) (s : State) : Mem :=
  { s.mem with
    bad := addNew s.mem.bad (canon s a / 64)
    units := s.mem.units.modify (pageEnt s k).unit (fun x => { x with uncorr := true })
    remap := mset s.mem.remap k { pageEnt s k with st := .retired, copying := true } }

theorem memUncorr_mem (here : place s a = .mem u loc) (aligned : a % 64 = 0) (mapped : (pageEnt s (pageKey u loc)).st = .mapped) :
    (memUncorr a s).mem = uncorrMem a (pageKey u loc) s := by
  have unit : 64 * (a / 64) = a := by omega
  unfold memUncorr
  rw [here]
  dsimp only
  generalize hv : errRecord _ s = v
  have mem : v.mem = s.mem := hv ▸ errRecord_mem ..
  have fuse : v.fuse = s.fuse := hv ▸ errRecord_fuse ..
  have page := pageEnt_of_mem mem (pageKey u loc)
  unfold memMark
  rw [place_of_fuse fuse, here]
  dsimp only
  rw [unit, canon_of_fuse fuse, page]
  generalize hw : State.modMemUnit _ _ _ = w
  have marked : w.mem = { s.mem with
      bad := addNew s.mem.bad (canon s a / 64)
      units := s.mem.units.modify (pageEnt s (pageKey u loc)).unit (fun x => { x with uncorr := true }) } := by
    rw [← hw, ← mem]
    rfl
  have kept : pageEnt w (pageKey u loc) = pageEnt s (pageKey u loc) := by rw [pageEnt, marked, pageEnt]
  rw [startRetire_mem (by rw [kept]; exact mapped), kept, marked]
  rfl

theorem uncorrMem_retires (h : t.mem = uncorrMem a k s) (hu : (pageEnt s k).unit < s.mem.units.length) :
    (pageEnt t k).st = .retired ∧ (pageEnt t k).copying = true ∧ (t.memUnit (pageEnt s k).unit).uncorr = true
      ∧ t.mem.bad.contains (canon s a / 64) = true ∧ t.mem.cells = s.mem.cells := by
  have page : pageEnt t k = { pageEnt s k with st := .retired, copying := true } :=
    pageEnt_of_remap (by rw [h]; exact mget_mset_self ..)
  have unit : t.memUnit (pageEnt s k).unit = { s.memUnit (pageEnt s k).unit with uncorr := true } := by
    rw [State.memUnit, h]
    exact nth_modify_self _ hu
  refine ⟨by rw [page], by rw [page], by rw [unit], ?_, by rw [h]; rfl⟩
  rw [h]
  exact List.contains_iff_mem.2 (mem_addNew_self ..)

/-! An access of memory (12 R308). -/

theorem execMemoryAccess_write {data : List Byte} (here : place s a = .mem u loc) (ok : accessCode s true a data.length = .ok) :
    execMemoryAccess a 0 true data false none s = .next ((memWrite s a data).send (.answer 0 [])) := by
  unfold execMemoryAccess
  simp [here, ok]

theorem execMemoryAccess_read (here : place s a = .mem u loc) (ok : accessCode s false a n = .ok) :
    execMemoryAccess a n false [] false none s = .next (s.send (.answer 0 (memRead s a n))) := by
  unfold execMemoryAccess
  simp [here, ok]

/-- Any code but OK is the whole answer. -/
theorem execMemoryAccess_refused {c : Code} (here : place s a = .mem u loc) (code : accessCode s false a n = c) (hc : c ≠ .ok) (corr : Bool)
    (bad : Option Nat) : execMemoryAccess a n false [] corr bad s = .next (s.send (.answer c.val [])) := by
  unfold execMemoryAccess
  simp only [here, code, Bool.false_eq_true, if_false]
  cases c
  case ok => exact absurd rfl hc
  all_goals rfl

/-- The access that meets an uncorrectable error in its first unit. -/
theorem execMemoryAccess_uncorr (here : place s a = .mem u loc) (aligned : a % 64 = 0) (ok : accessCode s false a 64 = .ok) :
    execMemoryAccess a 64 false [] false (some 0) s = .next ((memUncorr a s).send (.answer Code.memUncorrectable.val [])) := by
  have unit : 64 * (a / 64) = a := by omega
  have units : unitsOf a 64 = [a / 64] := by
    have one : (a + 63) / 64 - a / 64 = 0 := by omega
    simp [unitsOf, one]
  unfold execMemoryAccess
  simp [here, ok, units, unit, Option.filter]

/-! The end of a page's copy to a spare (12 R309). -/

/-- The unit once a page of it has been retired. -/
def MemUnit.countRetired (phys : Nat) (x : MemUnit) : MemUnit := { x with retired := x.retired + 1, badPhys := addNew x.badPhys phys }

/-- The unit that works on with a page retired. -/
def MemUnit.degrade (x : MemUnit) : MemUnit := { x with st := if x.st = .inService then .degraded else x.st }

theorem retirePage_mem (k : Nat) (s : State) : ∃ l,
    (retirePage k s).mem = { s.mem with
      units := s.mem.units.modify (pageEnt s k).unit (.countRetired (pageEnt s k).phys)
      remap := l }
    ∧ (l = s.mem.remap ∨ ∃ v p, l = mset s.mem.remap k { st := .mapped, unit := v, phys := p }) := by
  unfold retirePage
  dsimp only
  split
  · next v p _ => exact ⟨_, rfl, .inr ⟨v, p, rfl⟩⟩
  · exact ⟨_, rfl, .inl rfl⟩

/-- The memory when the copy of page `k` ends, before its switch to a spare. -/
def copiedMem (k : Nat) (inPage : Nat → Bool) (s : State) : Mem :=
  { s.mem with
    dataLost := (s.mem.bad.filter inPage).foldl addNew s.mem.dataLost
    bad := s.mem.bad.filter (fun x => !inPage x)
    remap := mset s.mem.remap k { pageEnt s k with st := .mapped, copying := false } }

/-- A unit that had failed stays so, or reads DATA_LOST. -/
theorem copiedMem_bad (k : Nat) (inPage : Nat → Bool) {x : Nat} (hx : x ∈ s.mem.bad) :
    x ∈ (copiedMem k inPage s).bad ∨ x ∈ (copiedMem k inPage s).dataLost := by
  cases hin : inPage x
  · exact .inl (List.mem_filter.2 ⟨hx, by simp [hin]⟩)
  · exact .inr (mem_foldl_addNew.2 (.inr (List.mem_filter.2 ⟨hx, hin⟩)))

theorem pageEnt_copied {inPage : Nat → Bool} (h : t.mem = copiedMem k inPage s) : pageEnt t k = { pageEnt s k with st := .mapped, copying := false } :=
  pageEnt_of_remap (by rw [h]; exact mget_mset_self ..)

/-- The page's entry when the switch has been made, to a spare or, where there is none, in its place. -/
theorem retirePage_pageEnt (mapped : (pageEnt s k).st = .mapped) (done : (pageEnt s k).copying = false) :
    (pageEnt (retirePage k s) k).st = .mapped ∧ (pageEnt (retirePage k s) k).copying = false := by
  obtain ⟨l, mem, rfl | ⟨v, p, rfl⟩⟩ := retirePage_mem k s
  · have same : pageEnt (retirePage k s) k = pageEnt s k := by rw [pageEnt, mem, pageEnt]
    exact ⟨by rw [same, mapped], by rw [same, done]⟩
  · have spare : pageEnt (retirePage k s) k = { st := .mapped, unit := v, phys := p } :=
      pageEnt_of_remap (by rw [mem]; exact mget_mset_self ..)
    exact ⟨by rw [spare], by rw [spare]⟩

theorem retirePage_memUnit (hu : (pageEnt s k).unit < s.mem.units.length) : (retirePage k s).memUnit (pageEnt s k).unit =
    (s.memUnit (pageEnt s k).unit).countRetired (pageEnt s k).phys := by
  obtain ⟨l, mem, _⟩ := retirePage_mem k s
  rw [State.memUnit, mem]
  exact nth_modify_self _ hu

/-- The state when the copy of page `k` has ended, before its switch to a spare. -/
def endCopy (k : Nat) (inPage : Nat → Bool) (s : State) : State := s.modMem (fun _ => copiedMem k inPage s)

/-- What the end of a copy leaves in the memory, while its unit has room for another retired page. -/
theorem execPageRemapComplete_spare (copying : (pageEnt s k).copying = true) (retired : (pageEnt s k).st = .retired)
    (hu : (pageEnt s k).unit < s.mem.units.length) (room : (s.memUnit (pageEnt s k).unit).retired < retireLimit (pageEnt s k).unit) :
    ∃ inPage t, execPageRemapComplete k s = .next t ∧ t.mem = ((retirePage k (endCopy k inPage s)).modMemUnit (pageEnt s k).unit .degrade).mem := by
  unfold execPageRemapComplete
  extract_lets e u base inPage v w
  have page : pageEnt v k = { e with st := .mapped, copying := false } := pageEnt_copied (inPage := inPage) rfl
  have mem : w.mem = (retirePage k v).mem := mapCheck_mem _
  have unit : (w.memUnit e.unit).retired = (s.memUnit e.unit).retired + 1 := by
    have counted := retirePage_memUnit (s := v) (k := k) (by rw [page]; exact hu)
    rw [page] at counted
    rw [memUnit_of_mem mem, counted]
    rfl
  have within : ¬ retireLimit e.unit < (w.memUnit e.unit).retired := by rw [unit]; exact Nat.not_lt.2 room
  rw [if_neg (by simp [e, copying, retired]), if_neg within]
  refine ⟨inPage, _, rfl, ?_⟩
  rw [mapUnits_mem, State.modMemUnit, State.modMemUnit, State.modMem_mem, State.modMem_mem, mem]
  rfl

/-- The page is switched, and its unit has counted the retired page. -/
theorem pageSwitched {inPage : Nat → Bool} (hu : (pageEnt s k).unit < s.mem.units.length)
    (h : t.mem = ((retirePage k (endCopy k inPage s)).modMemUnit (pageEnt s k).unit .degrade).mem) :
    (pageEnt t k).st = .mapped ∧ (pageEnt t k).copying = false
      ∧ (t.memUnit (pageEnt s k).unit).retired = (s.memUnit (pageEnt s k).unit).retired + 1
      ∧ (t.memUnit (pageEnt s k).unit).badPhys.contains (pageEnt s k).phys = true ∧ t.mem.cells = s.mem.cells
      ∧ ∀ x ∈ s.mem.bad, x ∈ t.mem.bad ∨ x ∈ t.mem.dataLost := by
  have page : pageEnt (endCopy k inPage s) k = { pageEnt s k with st := .mapped, copying := false } := pageEnt_copied (inPage := inPage) rfl
  have home : (pageEnt (endCopy k inPage s) k).unit = (pageEnt s k).unit := by rw [page]
  have phys : (pageEnt (endCopy k inPage s) k).phys = (pageEnt s k).phys := by rw [page]
  have entry : pageEnt t k = pageEnt (retirePage k (endCopy k inPage s)) k := by rw [pageEnt, h]; rfl
  have counted := retirePage_memUnit (s := endCopy k inPage s) (k := k) (by rw [home]; exact hu)
  obtain ⟨l, switched, _⟩ := retirePage_mem k (endCopy k inPage s)
  obtain ⟨mapped, done⟩ := retirePage_pageEnt (s := endCopy k inPage s) (k := k) (by rw [page]) (by rw [page])
  rw [home, phys] at counted switched
  have unit : t.memUnit (pageEnt s k).unit = (((endCopy k inPage s).memUnit (pageEnt s k).unit).countRetired (pageEnt s k).phys).degrade := by
    rw [memUnit_of_mem h, memUnit_modMemUnit (by rw [switched]; simpa [endCopy, copiedMem] using hu), counted]
  refine ⟨by rw [entry, mapped], by rw [entry, done], by rw [unit]; rfl, ?_, ?_, fun x hx => ?_⟩
  · rw [unit]
    exact List.contains_iff_mem.2 (mem_addNew_self ..)
  · rw [h, State.modMemUnit, State.modMem_mem, switched]
    rfl
  · rw [h, State.modMemUnit, State.modMem_mem, switched]
    exact copiedMem_bad k inPage hx

/-- Settles O28: an access is one of four answers, and the end of a copy is the mark of its units and the switch of its page. -/
theorem memoryAccessesAnswerAndRetire : Obligations.MemoryAccessesAnswerAndRetire := by
  refine ⟨fun s a u loc data here ok => ?write, fun s a n u loc here ok => ?read, fun s a n u loc c here code hc corr bad => ?refused,
    fun s a u loc here aligned ok hu mapped => ?uncorr, fun s k copying retired hu room => ?copied, fun s d c hd out => ?scrub⟩
  case write => exact ⟨_, execMemoryAccess_write here ok, rfl, rfl, by simp⟩
  case read => exact ⟨_, execMemoryAccess_read here ok, rfl, by simp⟩
  case refused => exact ⟨_, execMemoryAccess_refused here code hc corr bad, rfl, by simp⟩
  case uncorr =>
    exact ⟨_, execMemoryAccess_uncorr here aligned ok, rfl, uncorrMem_retires (memUncorr_mem here aligned mapped) hu⟩
  case copied =>
    obtain ⟨inPage, t, run, mem⟩ := execPageRemapComplete_spare copying retired hu room
    exact ⟨t, run, pageSwitched hu mem⟩
  case scrub => exact if_pos ⟨hd, out⟩

end Sys2Proof.Machine
end

section
/-! PROOFS. O29: the drain, the return and the test of a DDR5 channel (12 R332, R333; logs 8, 30, 38). -/

namespace Sys2Proof.Machine

variable {s t : State} {d k : Nat} {rest : List Nat}

/-! The move of a page, and its return (12 R332, R333). -/

theorem releaseLender_mem (e : PageEnt) (s : State) : ∃ l, (releaseLender e s).mem = { s.mem with remap := l } := by
  unfold releaseLender
  rw [State.modMem_mem]
  split
  · exact ⟨_, rfl⟩
  · exact ⟨_, rfl⟩

/-- With no page borrowed, none is given back. -/
theorem releaseLender_mem_of_none (e : PageEnt) (none : ∀ x ∈ s.mem.remap, x.2.st ≠ .borrowed) : (releaseLender e s).mem = s.mem := by
  have unlent : s.mem.remap.find? (fun x => x.2.st == .borrowed && x.2.unit == e.unit && x.2.phys == e.phys) = Option.none :=
    List.find?_eq_none.2 fun x hx => by simp [none x hx]
  unfold releaseLender
  rw [State.modMem_mem, unlent]

theorem movePage_mem (k : Nat) (x : Nat × Nat × Option Nat) (s : State) : ∃ l, (movePage k x s).mem = { s.mem with remap := l }
    ∧ ((∀ b, x.2.2 = some b → b ≠ k) → mget l k = some { st := .mapped, unit := x.1, phys := x.2.1 })
    ∧ ∀ b, x.2.2 = some b → mget l b = some { st := .borrowed, unit := x.1, phys := x.2.1 } := by
  obtain ⟨v, p, lender⟩ := x
  cases lender with
  | none => exact ⟨_, rfl, fun _ => mget_mset_self .., nofun⟩
  | some b =>
    refine ⟨_, rfl, fun h => ?_, fun c hc => ?_⟩
    · rw [mget_mset_of_ne _ _ (h b rfl).symm]
      exact mget_mset_self ..
    · cases hc
      exact mget_mset_self ..

/-- The memory once the copy of a page has ended, its unit still with pages to move. -/
def movedMem (d : Nat) (rest : List Nat) (l : List (Nat × PageEnt)) (s : State) : Mem :=
  { s.mem with remap := l, units := s.mem.units.modify (8 + d) (fun x => { x with moving := rest }) }

theorem memUnit_of_movedMem {l : List (Nat × PageEnt)} (h : t.mem = movedMem d rest l s) (hu : 8 + d < s.mem.units.length) :
    t.memUnit (8 + d) = { s.memUnit (8 + d) with moving := rest } := by
  rw [State.memUnit, h]
  exact nth_modify_self _ hu

theorem execMigrationPageCopyComplete_moves {x : Nat × Nat × Option Nat} (hd : d < 16) (draining : (s.memUnit (8 + d)).st = .draining)
    (next : (s.memUnit (8 + d)).moving = k :: rest) (more : rest ≠ []) (target : moveTarget s (8 + d) = some x) :
    execMigrationPageCopyComplete d s = .next ((movePage k x (releaseLender (pageEnt s k) s)).modMemUnit (8 + d) (fun x => { x with moving := rest })) := by
  unfold execMigrationPageCopyComplete
  simp [Nat.not_le.2 hd, draining, next, target, more]

theorem execMigrationPageCopyComplete_drained (hd : d < 16) (draining : (s.memUnit (8 + d)).st = .draining)
    (last : (s.memUnit (8 + d)).moving = []) : execMigrationPageCopyComplete d s = .next (drained (8 + d) s) := by
  unfold execMigrationPageCopyComplete
  simp [Nat.not_le.2 hd, draining, last]

theorem execMigrationPageCopyComplete_returns (hd : d < 16) (returning : (s.memUnit (8 + d)).st = .returning)
    (next : (s.memUnit (8 + d)).moving = k :: rest) (more : rest ≠ []) :
    execMigrationPageCopyComplete d s = .next ((returnPage k s).modMemUnit (8 + d) (fun x => { x with moving := rest })) := by
  unfold execMigrationPageCopyComplete
  simp [Nat.not_le.2 hd, returning, next, more]

/-- A page moved to its place, or back, in one step (12 R332). -/
theorem movePage_release_mem (k : Nat) (x : Nat × Nat × Option Nat) (rest : List Nat) (s : State) :
    ∃ l, ((movePage k x (releaseLender (pageEnt s k) s)).modMemUnit (8 + d) (fun x => { x with moving := rest })).mem = movedMem d rest l s
      ∧ ((∀ b, x.2.2 = some b → b ≠ k) → mget l k = some { st := .mapped, unit := x.1, phys := x.2.1 })
      ∧ ∀ b, x.2.2 = some b → mget l b = some { st := .borrowed, unit := x.1, phys := x.2.1 } := by
  obtain ⟨r, released⟩ := releaseLender_mem (pageEnt s k) s
  obtain ⟨l, mem, page, lender⟩ := movePage_mem k x (releaseLender (pageEnt s k) s)
  refine ⟨l, ?_, page, lender⟩
  rw [State.modMemUnit, State.modMem_mem, mem, released]
  rfl

/-- With no bad place and no page borrowed, the page goes home and no entry stands for it. -/
theorem returnPage_mem (good : (s.memUnit (k / 65536)).badPhys = []) (none : ∀ e ∈ s.mem.remap, e.2.st ≠ .borrowed) :
    (returnPage k s).mem = { s.mem with remap := mdel s.mem.remap k } := by
  have kept : ∀ e ∈ mdel s.mem.remap k, e.2.st ≠ .borrowed := fun e he => none e (List.mem_filter.1 he).1
  have home := releaseLender_mem_of_none (s := s.modMem (fun m => { m with remap := mdel m.remap k })) (pageEnt s k) kept
  unfold returnPage
  dsimp only
  rw [if_neg (by rw [State.memUnit, home]; simp [show (nth s.mem.units (k / 65536)).badPhys = [] from good]), home]
  rfl

/-- A page no entry stands for is at home, in a unit that is not lost. -/
theorem pageEnt_home (noEntry : mget s.mem.remap k = none) (kept : s.mem.lostUnits = []) :
    pageEnt s k = { st := .mapped, unit := k / 65536, phys := k % 65536 } := by
  rw [pageEnt, noEntry, kept]
  rfl

/-! A channel that is drained, and one that has been tested. -/

theorem drained_mem (d : Nat) (s : State) :
    (drained (8 + d) s).mem = (s.modMemUnit (8 + d) (fun x => { x with st := .drained, outReason := 8, moving := [] })).mem := by
  unfold drained
  rw [errRecord_mem]
  exact mapUnits_mem ..

theorem drained_sw (hd : d < s.power.switches.length) : ((drained (8 + d) s).sw d).st = .off := by
  unfold drained
  rw [sw_of_power (errRecord_power ..), Nat.add_sub_cancel_left]
  have power : (mapUnits [8 + d] (s.modMemUnit (8 + d) (fun x => { x with st := .drained, outReason := 8, moving := [] }))).power = s.power :=
    (keeps_mapUnits _ _ (List.Subset.refl _)).2 Keeps.rfl' .power (by decide)
  rw [switchOff_sw_self (by rw [power]; exact hd)]

theorem execChannelTestComplete_failed {reason : Nat} (pages : List Nat) (hd : d < 16) (testing : (s.memUnit (8 + d)).st = .testing)
    (failed : reason ≠ 0) : execChannelTestComplete d reason pages s = .next (switchOff d (memUnitFail (8 + d) (if reason = 3 then 3 else 7) s)) := by
  unfold execChannelTestComplete
  simp [Nat.not_le.2 hd, testing, failed]

/-- A unit found good and empty, with no bad page. -/
def MemUnit.found (x : MemUnit) : MemUnit := { x with st := .inService, retired := 0, badPhys := [], uncorr := false, outReason := 0, moving := [] }

/-- The memory of a channel found good and empty: its bytes, pages and errors are gone (12 R333). -/
def testedMem (u : Nat) (s : State) : Mem :=
  { s.mem with
    cells := s.mem.cells.filter (fun c => !memUnitKey u c.1)
    lostUnits := s.mem.lostUnits.filter (· != u)
    remap := s.mem.remap.filter (fun e => e.1 / 65536 != u || e.2.unit != u)
    dataLost := s.mem.dataLost.filter (fun x => !memUnitKey u (64 * x))
    units := s.mem.units.modify u .found }

/-- A passed test of an empty channel with no bad page puts it in service. -/
theorem execChannelTestComplete_passed (hd : d < 16) (testing : (s.memUnit (8 + d)).st = .testing)
    (empty : ∀ e ∈ s.mem.remap, e.1 / 65536 ≠ 8 + d) : ∃ t, execChannelTestComplete d 0 [] s = .next t ∧ t.mem = testedMem (8 + d) s := by
  have none : s.mem.remap.filter (fun e => e.1 / 65536 == 8 + d && e.2.unit != 8 + d) = [] :=
    List.filter_eq_nil_iff.2 fun e he => by simp [empty e he]
  unfold execChannelTestComplete
  simp only [none]
  rw [if_neg (by simp [Nat.not_le.2 hd, testing]), if_neg (by simp)]
  refine ⟨_, rfl, ?_⟩
  rw [returned, mapUnits_mem]
  simp [testedMem, State.modMemUnit, dropCells, each, List.modify_modify_eq, Function.comp_def]
  rfl

/-- Settles O29: each clause is one arm of the copy's end or of the test's, and its memory is known in whole. -/
theorem channelsDrainAndReturn : Obligations.ChannelsDrainAndReturn := by
  refine ⟨fun s d k x rest hd hu draining next more target other => ?moves, fun s d hd hu draining last hsw => ?drained,
    fun s d k rest hd hu own returning next more good kept unlent => ?returns, fun s d hd hu testing empty => ?passed,
    fun s d reason l hd hu hsw testing failed => ?failed⟩
  case moves =>
    obtain ⟨l, mem, page, lender⟩ := movePage_release_mem (d := d) k x rest s
    have unit := memUnit_of_movedMem mem hu
    refine ⟨_, execMigrationPageCopyComplete_moves hd draining next more target, ?_, fun b hb => ?_, by rw [unit], by rw [unit, draining],
      by rw [mem]; rfl, by simp [movePage, releaseLender]⟩
    · exact pageEnt_of_remap (by rw [mem]; exact page other)
    · rw [pageEnt_of_remap (by rw [mem]; exact lender b hb)]
  case drained =>
    refine ⟨_, execMigrationPageCopyComplete_drained hd draining last, ?_, drained_sw hsw, by rw [drained_mem]; rfl⟩
    rw [memUnit_of_mem (drained_mem d s), memUnit_modMemUnit hu]
  case returns =>
    have mem : ((returnPage k s).modMemUnit (8 + d) (fun x => { x with moving := rest })).mem = movedMem d rest (mdel s.mem.remap k) s := by
      rw [State.modMemUnit, State.modMem_mem, returnPage_mem (by rw [own]; exact good) unlent]
      rfl
    have unit := memUnit_of_movedMem mem hu
    refine ⟨_, execMigrationPageCopyComplete_returns hd returning next more, ?_, by rw [unit], by rw [mem]; rfl⟩
    exact pageEnt_home (by rw [mem]; exact (mget_mdel ..).trans (if_pos rfl)) (by rw [mem]; exact kept)
  case passed =>
    obtain ⟨t, run, mem⟩ := execChannelTestComplete_passed hd testing empty
    have unit : t.memUnit (8 + d) = (s.memUnit (8 + d)).found := by
      rw [State.memUnit, mem]
      exact nth_modify_self _ hu
    refine ⟨t, run, by rw [unit]; rfl, by rw [unit]; rfl, fun k hk => ?_, fun k hk => ?_⟩
    · rw [mem]
      exact (cellRead_filter (memUnitKey (8 + d)) s.mem.cells k).trans (if_pos hk)
    · rw [mem]
      exact (cellRead_filter (memUnitKey (8 + d)) s.mem.cells k).trans (if_neg (by simp [hk]))
  case failed =>
    refine ⟨_, execChannelTestComplete_failed l hd testing failed, ?_⟩
    exact memUnitFail_unit_failed _ hu

end Sys2Proof.Machine
end

section
/-! SUPPORT. The engines of row fetch, and the reads of a list entry (12 R319, R321). -/

namespace Sys2Proof.Machine

variable {s t : State} {b e n : Nat} {r : FetchRun} {t0 : Table}

/-! The engines of a bridge after an update (12 R319). -/

theorem engine_of_fetch (h : t.fetch = s.fetch) (b e : Nat) : t.engine b e = s.engine b e :=
  congrArg (fun x : Fetch => nth (nth x.bridges b).engines e) h

theorem fetchU_modFetchU (hb : b < s.fetch.bridges.length) (f : FetchUnit → FetchUnit) : (s.modFetchU b f).fetchU b = f (s.fetchU b) :=
  nth_modify_self f hb

theorem nth_modify_map {α : Type} (l : List (Option α)) (i : Nat) (f : α → α) : nth (l.modify i (·.map f)) i = (nth l i).map f := by
  by_cases hi : i < l.length
  · exact nth_modify_self _ hi
  · rw [nth_of_length_le (by simpa using hi), nth_of_length_le (by simpa using hi)]
    rfl

/-- No engine works at a bridge that is not there. -/
theorem engine_default (e : Nat) : nth (default : FetchUnit).engines e = none := by
  have idle : ∀ x ∈ (default : FetchUnit).engines, x = none := by decide
  unfold nth
  rw [List.getD_eq_getElem?_getD]
  cases h : (default : FetchUnit).engines[e]? with
  | none => rfl
  | some x => exact idle x (List.mem_of_getElem? h)

theorem engine_of_length_le (h : s.fetch.bridges.length ≤ b) (e : Nat) : s.engine b e = none := by
  rw [State.engine, show s.fetchU b = default from nth_of_length_le h]
  exact engine_default e

/-- The engine of an update is updated, where there is one. -/
theorem engine_modEngine (s : State) (b e : Nat) (f : FetchRun → FetchRun) : (s.modEngine b e f).engine b e = (s.engine b e).map f := by
  by_cases hb : b < s.fetch.bridges.length
  · rw [State.engine, State.modEngine, fetchU_modFetchU hb]
    exact nth_modify_map ..
  · rw [engine_of_length_le (Nat.not_lt.1 hb), engine_of_length_le (by simpa [State.modEngine, State.modFetchU] using hb)]
    rfl

@[simp] theorem accessCode_modEngine (wr : Bool) (a n : Nat) (f : FetchRun → FetchRun) :
    accessCode (s.modEngine b e f) wr a n = accessCode s wr a n := rfl

@[simp] theorem memRead_modEngine (a n : Nat) (f : FetchRun → FetchRun) : memRead (s.modEngine b e f) a n = memRead s a n := rfl

@[simp] theorem place_modEngine (a : Nat) (f : FetchRun → FetchRun) : place (s.modEngine b e f) a = place s a := rfl

theorem resolveEntry_modEngine (c : FetchCmd) (t0 : Table) (i x : Nat) (f : FetchRun → FetchRun) :
    resolveEntry (s.modEngine b e f) c t0 i x = resolveEntry s c t0 i x := by
  simp only [resolveEntry, accessCode_modEngine, keyAt, memRead_modEngine]
  rfl

theorem blockAt_modEngine (t0 : Table) (x : Nat) (f : FetchRun → FetchRun) : blockAt (s.modEngine b e f) t0 x = blockAt s t0 x := by
  have codes : accessCode (s.modEngine b e f) = accessCode s := rfl
  have bytes : memRead (s.modEngine b e f) = memRead s := rfl
  have places : place (s.modEngine b e f) = place s := rfl
  rw [blockAt, codes, bytes, places, blockAt]

/-- An engine at work has its command and its table, and no row in flight. -/
theorem working_some (h : working s b e = some (r, t0)) :
    s.engine b e = some r ∧ s.table r.cmd.table = some t0 ∧ r.ended = false ∧ r.pendRow = none ∧ bridgeServes s b = true := by
  unfold working at h
  split at h
  · next engine =>
    split at h
    · next table =>
      split at h
      · cases h
      · next runs =>
        cases h
        simpa [engine, table, and_assoc] using runs
    · cases h
  · cases h

/-! The reads of a list entry (12 R319, R321; 17 R460). -/

/-- Extents a list entry is read from at once, and that bring no taint. -/
def Readable (s : State) (gs : List (Nat × Nat)) : Prop :=
  ∀ g ∈ gs, readHeld s g.1 g.2 = false ∧ accessCode s false g.1 g.2 = .ok ∧ linesAt s g.1 g.2 = none

section
variable {gs : List (Nat × Nat)} (h : Readable s gs)
include h

theorem Readable.held : gs.find? (fun g => readHeld s g.1 g.2) = none :=
  List.find?_eq_none.2 fun g hg => by simp [(h g hg).1]

theorem Readable.code : ((gs.map (fun g => accessCode s false g.1 g.2)).find? (· != .ok)).getD .ok = .ok := by
  have none : (gs.map (fun g => accessCode s false g.1 g.2)).find? (· != .ok) = none :=
    List.find?_eq_none.2 fun c hc => by
      obtain ⟨g, hg, rfl⟩ := List.mem_map.1 hc
      simp [(h g hg).2.1]
  rw [none]
  rfl

theorem Readable.taint (r : FetchRun) : fetchTaint s gs r = r := by
  unfold fetchTaint
  induction gs with
  | nil => rfl
  | cons g gs ih =>
    rw [List.foldl_cons, (h g List.mem_cons_self).2.2]
    exact ih fun x hx => h x (List.mem_cons_of_mem _ hx)

end

/-- A block entry that can be read goes on with its bytes. -/
theorem blockEntry_of_readable {go : List Byte → State → State} (h : Readable s (entryReads r.cmd false r.next n)) (taint : r.taint = []) :
    blockEntry b e n r go s = go (listAt s r.cmd (n * r.next) n) (s.modEngine b e (fun _ => r)) := by
  unfold blockEntry
  simp only [h.held, h.code, h.taint]
  simp [taint]

end Sys2Proof.Machine
end

section
/-! SUPPORT. A store to a fetch port, the dispatch to an engine, and the entries of a POOL (12 R319, R322, R323). -/

namespace Sys2Proof.Machine

variable {s t : State} {b e n c : Nat} {t0 : Table}

/-! A store to a fetch port (12 R319). -/

theorem trap_cause (x : Core) (cause tval : Nat) : (x.trap cause tval).csrv 0x342 = (BitVec.ofNat 64 cause).toNat := by
  simp only [Core.trap, Core.csrv, Core.setCsr, mget_mset_self, mget_mset_of_ne _ _ (show 0x342 ≠ 0x300 by decide),
    mget_mset_of_ne _ _ (show 0x342 ≠ 0x343 by decide), Option.getD_some]

/-- The core whose command has been taken. -/
def fetchSent (b len : Nat) (x : Core) : Core :=
  ({ x with mem := none, fetchOut := x.fetchOut.modify b (· + 1), csr := mset x.csr 8 0 } : Core).adv len

/-- The core whose command finds no place. -/
def fetchFaulted (addr : Nat) (x : Core) : Core := ({ x with mem := none } : Core).trap 7 addr

/-- The command as its queue holds it. -/
def fetchQueued (s : State) (l : List Byte) (r c : Nat) : FetchCmd :=
  { parseFetch l r c with unknown := (s.table (parseFetch l r c).table).any (·.dying) }

section
variable {r : Nat} {l : List Byte} {m : PendMem} (pending : (s.core r c).mem = some m) (store : fetchStore s r c = some (b, l))
  (runs : rowRuns s r = true)
include pending store runs

theorem execFetchCommand_queued (serves : bridgeServes s b = true) (line : isLine (parseFetch l r c).cpl = true)
    (few : nth (s.core r c).fetchOut b < 2) : execFetchCommand r c s =
      .next ((s.modFetchU b (fun u => { u with queue := u.queue ++ [fetchQueued s l r c] })).modCore r c (fetchSent b m.len)) := by
  unfold execFetchCommand
  rw [pending, store]
  dsimp only
  rw [if_neg (by simp [runs]), if_neg (by simp [serves, line, Nat.not_le.2 few])]
  rfl

theorem execFetchCommand_faults (many : 2 ≤ nth (s.core r c).fetchOut b) :
    execFetchCommand r c s = .next (s.modCore r c (fetchFaulted m.addr)) := by
  unfold execFetchCommand
  rw [pending, store]
  dsimp only
  rw [if_neg (by simp [runs]), if_pos (by simp [many])]
  rfl

end

/-! The oldest command goes to a free engine (12 R319, R322). -/

/-- The run of a command that starts: at its first entry, or ended by its checks. -/
def dispatched (s : State) (b : Nat) (c : FetchCmd) : FetchRun :=
  match fetchCheck s b c with
  | .ok => emptyBag (((s.table c.table).map (·.dim)).getD 0) { cmd := c }
  | k => { cmd := c, status := k.val, ended := true }

theorem dispatched_cmd (s : State) (b : Nat) (c : FetchCmd) : (dispatched s b c).cmd = c := by
  unfold dispatched
  split <;> rfl

theorem dispatched_ok {c : FetchCmd} (ok : fetchCheck s b c = .ok) : (dispatched s b c).status = 0 ∧ (dispatched s b c).ended = false := by
  rw [dispatched, ok]
  exact ⟨rfl, rfl⟩

theorem dispatched_fails {c : FetchCmd} (bad : fetchCheck s b c ≠ .ok) :
    (dispatched s b c).status = (fetchCheck s b c).val ∧ (dispatched s b c).ended = true := by
  unfold dispatched
  split
  · contradiction
  · exact ⟨rfl, rfl⟩

theorem execFetchDispatch_free {c : FetchCmd} {rest : List FetchCmd} (he : e < 4) (queue : (s.fetchU b).queue = c :: rest)
    (free : s.engine b e = none) (serves : bridgeServes s b = true) (cool : s.therm.halt = false) : execFetchDispatch b e s =
      .next (s.modFetchU b (fun u => { u with queue := rest, engines := u.engines.set e (some (dispatched s b c)) })) := by
  unfold execFetchDispatch
  rw [queue]
  dsimp only
  rw [if_neg (by simp [Nat.not_le.2 he, free, serves, cool])]
  rfl

/-! A list entry of a POOL (12 R313, R321, R323). -/

/-- The run whose row read starts. -/
def rowStarts (x w : Nat) (r : FetchRun) : FetchRun := { r with pendRow := some x, pendW := w, bagSeen := true, flashRead := none, noFill := false }

theorem poolEntry_row {r : FetchRun} {x : Nat} (readable : Readable s (entryReads r.cmd (t0.type == .keyed) r.next 16)) (taint : r.taint = [])
    (room : r.curBag < r.cmd.nbags) (bag : field (listAt s r.cmd (16 * r.next) 16) 6 2 = r.curBag)
    (row : resolveEntry s r.cmd t0 r.next (field (listAt s r.cmd (16 * r.next) 16) 0 5) = .row x) :
    poolEntry b e r t0 s = (s.modEngine b e (fun _ => r)).modEngine b e
      (rowStarts x (if r.cmd.unweighted then 0x3F800000 else field (listAt s r.cmd (16 * r.next) 16) 8 4)) := by
  unfold poolEntry
  simp only [readable.held, readable.code, readable.taint, resolveEntry_modEngine, row]
  rw [if_neg (by simp [taint]), if_neg (by simp), if_neg (by omega), if_neg (by omega)]
  rfl

theorem execFetchPool_entry {r : FetchRun} (work : working s b e = some (r, t0)) (pool : r.cmd.op = 1) (more : r.next < r.cmd.nids) :
    execFetchPool b e s = .next (poolEntry b e r t0 s) := by
  unfold execFetchPool
  rw [work]
  dsimp only
  rw [if_neg (by simp [pool]), if_pos more]

end Sys2Proof.Machine
end

section
/-! SUPPORT. A row that returns, and one that fails (12 R315, R323 to R325). -/

namespace Sys2Proof.Machine

variable {s t : State} {b e n x tier : Nat} {r : FetchRun} {t0 : Table}

/-! An uncorrectable error that a read meets leaves every byte (12 R309). -/

theorem startRetire_cells (k : Nat) (s : State) : (startRetire k s).mem.cells = s.mem.cells := by
  unfold startRetire
  dsimp only
  split
  · rfl
  · rw [errRecord_mem]
    rfl

theorem memMark_cells (a : Nat) (s : State) : (memMark a s).mem.cells = s.mem.cells := by
  unfold memMark
  split
  · exact startRetire_cells ..
  · rfl

theorem memMeets_cells (op : Nat) (gs : List (Nat × Nat)) (s : State) : (memMeets op gs s).mem.cells = s.mem.cells := by
  unfold memMeets
  dsimp only
  split
  · rw [memMark_cells, errRecord_mem]
    rfl
  · rfl

theorem memMeets_keeps (op : Nat) (gs : List (Nat × Nat)) (s : State) :
    Keeps [.mem, .fab, .chavi, .mbx, .gw, .err, .sec, .attn, .out, .fresh] s (memMeets op gs s) :=
  (keeps_memMeets op gs s (List.Subset.refl _)).2 Keeps.rfl'

/-! A row that returns, and one that fails (12 R315, R323 to R325). -/

theorem engine_modEngine_some (h : s.engine b e = some r) (f : FetchRun → FetchRun) : (s.modEngine b e f).engine b e = some (f r) := by
  rw [engine_modEngine, h]
  rfl

/-- A command without WITNESS gives the Witness unit nothing (12 R324). -/
theorem witItem_of_unwitnessed (h : s.engine b e = some r) (unwitnessed : r.cmd.witness = false) (row tier bag w : Nat) :
    witItem b e row tier bag w s = s := by
  unfold witItem
  rw [h]
  exact if_pos unwitnessed

/-- The run past a row that failed. -/
def rowFails (r : FetchRun) : FetchRun :=
  { r with next := r.next + 1, failed := r.failed + 1, bagBad := true, bagSeen := true, pendRow := none, flashRead := none }

theorem skipEntry_failed (h : s.engine b e = some r) (unwitnessed : r.cmd.witness = false) (bag w : Nat) :
    skipEntry b e x 4 bag w s = s.modEngine b e rowFails :=
  witItem_of_unwitnessed (r := rowFails r) (engine_modEngine_some h _) unwitnessed ..

/-- The run past a row that has been added to its bag. -/
def rowAdded (tier epoch : Nat) (v : DRowVal) (free : Nat) (r : FetchRun) : FetchRun :=
  { addRow r.pendW v free (countRow (decide (tier ≤ 1)) (tier == 3) epoch r) with next := r.next + 1, pendRow := none, flashRead := none }

theorem rowAdded_counts (tier epoch : Nat) (v : DRowVal) (free : Nat) (r : FetchRun) : (rowAdded tier epoch v free r).rows = r.rows + 1
    ∧ (rowAdded tier epoch v free r).bagRows = r.bagRows + 1 ∧ (rowAdded tier epoch v free r).cmd = r.cmd := by
  exact ⟨rfl, rfl, rfl⟩

/-- The state when a row's read has met an uncorrectable error in memory. -/
def badRow (t0 : Table) (x tier : Nat) (o : Option (List Byte)) (s : State) : State :=
  if o.isSome && tier != 3 then memMeets 0x0F [((wayOf s t0 x).elim (t0.rowBase + x * t0.rowBytes) (wayAddr t0 x), t0.rowBytes)] s else s

theorem badRow_keeps (t0 : Table) (x tier : Nat) (o : Option (List Byte)) (s : State) : (badRow t0 x tier o s).mem.cells = s.mem.cells
    ∧ Keeps [.mem, .fab, .chavi, .mbx, .gw, .err, .sec, .attn, .out, .fresh] s (badRow t0 x tier o s) := by
  unfold badRow
  split
  · exact ⟨memMeets_cells .., memMeets_keeps _ _ _⟩
  · exact ⟨rfl, Keeps.rfl'⟩

/-- Whether a row that returns fills a way (12 R315, R316). -/
def fillsWay (s : State) (r : FetchRun) (t0 : Table) (x tier : Nat) : Bool :=
  decide (tier ≠ 0) && setOn s t0 x && !r.noFill && (t0.fill == 1 || (t0.fill == 2 && tier == 3)) && decide (2 ≤ tier)

/-- The state when the cache has taken note of a row that returned. -/
def rowCached (b e : Nat) (r : FetchRun) (t0 : Table) (x tier : Nat) (l : List Byte) (s : State) : State :=
  let u := match wayOf s t0 x with
    | some w => cacheTouch t0 x w s
    | none => if fillsWay s r t0 x tier then cacheFill t0 x l s else s
  if fillsWay s r t0 x tier then u.modEngine b e (fun r => { r with fills := r.fills + 1 }) else u

theorem rowCached_keeps (l : List Byte) : Keeps [.fetch, .mem] s (rowCached b e r t0 x tier l s) := by
  unfold rowCached
  dsimp only
  repeat' split
  all_goals simp

theorem rowCached_engine (h : s.engine b e = some r) (l : List Byte) : ∃ k, (rowCached b e r t0 x tier l s).engine b e = some { r with fills := k } := by
  unfold rowCached
  extract_lets u
  have kept : Keeps [.mem] s u := by
    unfold u
    repeat' split
    all_goals simp
  have same : u.engine b e = some r := (engine_of_fetch (kept .fetch (by decide)) b e).trans h
  split
  · exact ⟨_, engine_modEngine_some same _⟩
  · exact ⟨r.fills, same⟩

section
variable {o : Option (List Byte)} (engine : s.engine b e = some r) (row : r.pendRow = some x) (table : s.table r.cmd.table = some t0)
include engine row table

theorem execRowReadComplete_bad (source : rowSource s r t0 x = .got tier o) :
    execRowReadComplete b e true s = .next (skipEntry b e x 4 r.curBag r.pendW (badRow t0 x tier o s)) := by
  unfold execRowReadComplete
  rw [engine]
  dsimp only
  rw [row, table]
  dsimp only
  rw [source]
  rfl

theorem execRowReadComplete_good {l : List Byte} {v : DRowVal} (source : rowSource s r t0 x = .got tier (some l)) (decoded : decodeRow t0.dim l = some v) :
    execRowReadComplete b e false s = .next (witItem b e x tier r.curBag r.pendW
      ((rowCached b e r t0 x tier l s).draw.2.modEngine b e (rowAdded tier t0.epoch v (rowCached b e r t0 x tier l s).draw.1))) := by
  unfold execRowReadComplete
  rw [engine]
  dsimp only
  rw [row, table]
  dsimp only
  rw [source]
  dsimp only
  rw [if_neg (by decide)]
  dsimp only
  rw [decoded]
  rfl

end

end Sys2Proof.Machine
end

section
/-! SUPPORT. Block commands (12 R325, R328). -/

namespace Sys2Proof.Machine

variable {s t : State} {b e n x tier : Nat} {r : FetchRun} {t0 : Table}

/-! A block command (12 R325, R328). -/

/-- What the writes of an engine leave as it is: all that a failed write does not change. -/
theorem engine_fetchWrite {α : Type} {f : FetchRun → α} (hf : ∀ c r, f (runFails c r) = f r) (p : Nat × List Byte) :
    ((fetchWrite b e p s).engine b e).map f = (s.engine b e).map f := by
  have kept {β : Type} (xs : List β) (g : β → State → State) (hg : ∀ x t, ((g x t).engine b e).map f = (t.engine b e).map f) (s : State) :
      ((each xs g s).engine b e).map f = (s.engine b e).map f := by
    induction xs generalizing s with
    | nil => rfl
    | cons x xs ih => exact (ih (g x s)).trans (hg x s)
  unfold fetchWrite
  split
  · rfl
  split
  · refine kept _ _ (fun q t => ?_) s
    split
    · rw [engine_modEngine, Option.map_map]
      exact congrArg (Option.map · _) (funext fun r => hf _ r)
    · rfl
  · refine kept _ _ (fun q t => ?_) s
    exact congrArg (Option.map f) (engine_of_fetch ((keeps_inject _ _ _ _ t (List.Subset.refl _)).2 Keeps.rfl' .fetch (by decide)) b e)

/-- The run past a block that failed, and past one that was copied. -/
def blockFails (r : FetchRun) : FetchRun := { r with next := r.next + 1, failed := r.failed + 1 }
def blockDone (r : FetchRun) : FetchRun := { r with next := r.next + 1, bags := r.bags + 1 }

theorem failBlock_eq (b e : Nat) (s : State) : failBlock b e s = s.modEngine b e blockFails := rfl

/-- The state with the block's read counted. -/
def blockRead (b e : Nat) (r : FetchRun) (t0 : Table) (a : Nat) (s : State) : State :=
  (s.modEngine b e (fun _ => r)).modEngine b e (countRow (tierHits s a) false t0.epoch)

theorem blockRead_engine (h : s.engine b e = some r) (t0 : Table) (a : Nat) :
    (blockRead b e r t0 a s).engine b e = some (countRow (tierHits s a) false t0.epoch r) :=
  engine_modEngine_some (engine_modEngine_some h _) _

/-- The state when a block's read has met an uncorrectable error in memory. -/
def badBlock (block : Option Nat) (bytes : Nat) (s : State) : State :=
  match block with
  | some a => memMeets 0x0F [(a, bytes)] s
  | none => s

theorem badBlock_keeps (block : Option Nat) (bytes : Nat) (s : State) : (badBlock block bytes s).mem.cells = s.mem.cells
    ∧ Keeps [.mem, .fab, .chavi, .mbx, .gw, .err, .sec, .attn, .out, .fresh] s (badBlock block bytes s) := by
  cases block with
  | none => exact ⟨rfl, Keeps.rfl'⟩
  | some a => exact ⟨memMeets_cells .., memMeets_keeps _ _ _⟩

section
variable {a : Nat} (work : working s b e = some (r, t0)) (more : r.next < r.cmd.nids) (taint : r.taint = [])
include work more taint

section
variable (op : r.cmd.op = 2) (readable : Readable s (entryReads r.cmd false r.next 8))
include op readable

theorem execFetchBlockGather_copies (block : blockAt s t0 (field (listAt s r.cmd (8 * r.next) 8) 0 5) = some a) :
    execFetchBlockGather b e false s = .next ((fetchWrite b e (r.cmd.dst + r.next * t0.bsize, memRead s a t0.bsize)
      (blockRead b e r t0 a s)).modEngine b e blockDone) := by
  unfold execFetchBlockGather
  rw [work]
  dsimp only
  rw [if_neg (by omega), blockEntry_of_readable readable taint, blockAt_modEngine, block]
  rfl

/-- A block whose read fails, placed or not. -/
theorem execFetchBlockGather_bad : execFetchBlockGather b e true s = .next (failBlock b e
    (badBlock (blockAt s t0 (field (listAt s r.cmd (8 * r.next) 8) 0 5)) t0.bsize (s.modEngine b e (fun _ => r)))) := by
  unfold execFetchBlockGather
  rw [work]
  dsimp only
  rw [if_neg (by omega), blockEntry_of_readable readable taint, blockAt_modEngine]
  cases blockAt s t0 (field (listAt s r.cmd (8 * r.next) 8) 0 5) <;> rfl

end

section
variable (op : r.cmd.op = 3) (readable : Readable s (entryReads r.cmd false r.next 16))
include op readable

theorem execFetchBlockMove_fails (block : blockAt s t0 (field (listAt s r.cmd (16 * r.next) 16) 0 5) = none) :
    execFetchBlockMove b e false s = .next (failBlock b e (s.modEngine b e (fun _ => r))) := by
  unfold execFetchBlockMove
  rw [work]
  dsimp only
  rw [if_neg (by omega), blockEntry_of_readable readable taint, blockAt_modEngine, block]

theorem execFetchBlockMove_copies {u loc : Nat} (block : blockAt s t0 (field (listAt s r.cmd (16 * r.next) 16) 0 5) = some a)
    (target : place s (field (listAt s r.cmd (16 * r.next) 16) 8 8) = .mem u loc)
    (writable : accessCode s true (field (listAt s r.cmd (16 * r.next) 16) 8 8) t0.bsize = .ok)
    (entry : accessCode s true (t0.mapBase + 8 * field (listAt s r.cmd (16 * r.next) 16) 0 5) 8 = .ok) :
    execFetchBlockMove b e false s = .next ((memWrite (memWrite (blockRead b e r t0 a s) (field (listAt s r.cmd (16 * r.next) 16) 8 8) (memRead s a t0.bsize))
      (t0.mapBase + 8 * field (listAt s r.cmd (16 * r.next) 16) 0 5) (leBytes 8 (field (listAt s r.cmd (16 * r.next) 16) 8 8))).modEngine b e blockDone) := by
  unfold execFetchBlockMove
  rw [work]
  dsimp only
  rw [if_neg (by omega), blockEntry_of_readable readable taint, blockAt_modEngine, block]
  dsimp only
  rw [place_modEngine, target, accessCode_modEngine, writable, accessCode_modEngine, entry]
  rfl

end

end

end Sys2Proof.Machine
end

section
/-! PROOFS. O30: a fetch command from its store to its record (12 R319 to R328; logs 52, 54). -/

namespace Sys2Proof.Machine

variable {s t : State} {b e n x : Nat} {r : FetchRun} {t0 : Table}

/-! The single completion record (12 R325, R327). -/

/-- An engine with work left is not done. -/
theorem fetchDone_of_more (runs : r.ended = false) (more : r.next < r.cmd.nids) : fetchDone s b e r = false := by
  simp [fetchDone, runs, Nat.not_le.2 more]

/-- A table that goes leaves the engines. -/
theorem tableGone_engine (n : Nat) (s : State) (b e : Nat) : (tableGone n s).engine b e = s.engine b e := by
  unfold tableGone
  split
  · split
    · exact engine_of_fetch ((keeps_completeWait _ _ _ _ _ _ (List.Subset.refl _)).2 Keeps.rfl' .fetch (by decide)) b e
    · rfl
  · rfl

/-- A table that is not being destroyed stays. -/
theorem tableGone_of_kept (kept : ∀ t0, s.table n = some t0 → t0.dying = false) : tableGone n s = s := by
  unfold tableGone
  split
  · next t0 table => exact if_neg (by simp [kept t0 table])
  · rfl

/-- The engine is free. -/
def freeEngine (b e : Nat) (s : State) : State := s.modFetchU b (fun u => { u with engines := u.engines.set e none })

theorem freeEngine_self (hb : b < s.fetch.bridges.length) (e : Nat) : (freeEngine b e s).engine b e = none := by
  rw [State.engine, freeEngine, fetchU_modFetchU hb]
  by_cases he : e < (s.fetchU b).engines.length
  · simp [nth, he]
  · exact nth_of_length_le (by simpa using he)

theorem freeEngine_of_ne (hb : b < s.fetch.bridges.length) {f : Nat} (ne : f ≠ e) : (freeEngine b e s).engine b f = s.engine b f := by
  rw [State.engine, freeEngine, fetchU_modFetchU hb]
  simp [nth, ne.symm, State.engine]

theorem fetchEnd_eq (h : s.engine b e = some r) : fetchEnd b e s = tableGone r.cmd.table (freeEngine b e (writeFetchRecord b r s)) := by
  unfold fetchEnd
  rw [h]
  rfl

theorem writeFetchRecord_fetch (b : Nat) (r : FetchRun) (s : State) : (writeFetchRecord b r s).fetch = s.fetch :=
  (keeps_writeFetchRecord b r s (List.Subset.refl _)).2 Keeps.rfl' .fetch (by decide)

/-- The end of a command frees its engine and no other. -/
theorem fetchEnd_engines (hb : b < s.fetch.bridges.length) (h : s.engine b e = some r) :
    (fetchEnd b e s).engine b e = none ∧ ∀ f, f ≠ e → (fetchEnd b e s).engine b f = s.engine b f := by
  have fetch := writeFetchRecord_fetch b r s
  have hb' : b < (writeFetchRecord b r s).fetch.bridges.length := by rwa [fetch]
  rw [fetchEnd_eq h]
  refine ⟨?_, fun f hf => ?_⟩
  · rw [tableGone_engine, freeEngine_self hb']
  · rw [tableGone_engine, freeEngine_of_ne hb' hf, engine_of_fetch fetch]

/-- The run with the STATUS of its record. -/
def runClosed (r : FetchRun) : FetchRun := { r with status := if r.status = 0 ∧ 0 < r.failed then Code.fetchPartial.val else r.status }

theorem runClosed_of_none_failed (none : r.failed = 0) : runClosed r = r := by
  have same : (if r.status = 0 ∧ 0 < r.failed then Code.fetchPartial.val else r.status) = r.status := if_neg (by omega)
  rw [runClosed, same]

theorem bridges_modEngine (s : State) (b e : Nat) (f : FetchRun → FetchRun) :
    (s.modEngine b e f).fetch.bridges.length = s.fetch.bridges.length := List.length_modify ..

theorem modEngine_of_ne (s : State) (b : Nat) {e f : Nat} (ne : f ≠ e) (g : FetchRun → FetchRun) : (s.modEngine b e g).engine b f = s.engine b f := by
  by_cases hb : b < s.fetch.bridges.length
  · rw [State.engine, State.modEngine, fetchU_modFetchU hb]
    exact nth_modify_of_ne _ _ ne
  · rw [engine_of_length_le (Nat.not_lt.1 hb), engine_of_length_le (by simpa [State.modEngine, State.modFetchU] using hb)]

theorem execFetchComplete_undone (engine : s.engine b e = some r) (undone : fetchDone s b e r = false) : execFetchComplete b e s = .next s := by
  unfold execFetchComplete
  rw [engine]
  exact if_pos (.inl undone)

section
variable (engine : s.engine b e = some r) (done : fetchDone s b e r = true) (serves : bridgeServes s b = true)
include engine done serves

/-- A command of the fabric ends with its packet. -/
theorem execFetchComplete_remote (remote : r.cmd.src ≠ 0) : execFetchComplete b e s = .next (fetchEnd b e (s.modEngine b e runClosed)) := by
  unfold execFetchComplete
  rw [engine]
  dsimp only
  rw [if_neg (by simp [done, serves]), if_pos (by simp [FetchCmd.isLocal, remote])]
  rfl

/-- The line of the record, with the engine's taint. -/
def recordMarked (q ln : Nat) (r : FetchRun) (s : State) : State := s.modRow q (provWrite r.taint r.taintBad ln 1)

theorem execFetchComplete_own {q ln : Nat} (hq : q = r.cmd.cpl / 83886080) (hl : ln = r.cmd.cpl / 64 % 1310720) (own : r.cmd.src = 0)
    (kept : rowIsOut s q = false) (lit : rowIsDark s q = false) (runs : rowRuns s q = true) (on : (s.bank q (ln / 32768)).st = .on)
    (free : (s.row q).scb.all (fun x => rangeOk (ln / 8 * 8, 1, true) x.range) = true) (fits : markFits s q r.taint r.taintBad = true) :
    execFetchComplete b e s = .next (fetchEnd b e (recordMarked q ln r (s.modEngine b e runClosed))) := by
  subst hq hl
  have kept' : rowIsOut (s.modEngine b e runClosed) (r.cmd.cpl / 83886080) = false := kept
  have lit' : rowIsDark (s.modEngine b e runClosed) (r.cmd.cpl / 83886080) = false := lit
  have runs' : rowRuns (s.modEngine b e runClosed) (r.cmd.cpl / 83886080) = true := runs
  have free' : ((s.modEngine b e runClosed).row (r.cmd.cpl / 83886080)).scb.all
      (fun x => rangeOk (r.cmd.cpl / 64 % 1310720 / 8 * 8, 1, true) x.range) = true := free
  have fits' : markFits (s.modEngine b e runClosed) (r.cmd.cpl / 83886080) r.taint r.taintBad = true := fits
  unfold execFetchComplete
  rw [engine]
  dsimp only
  unfold runClosed at kept' lit' runs' free' fits'
  rw [if_neg (by simp [done, serves]), if_neg (by simp [FetchCmd.isLocal, own, kept', lit']), if_neg (by simp [runs']), if_neg (by simp [on]),
    if_neg (by simp only [free', fits', Bool.true_eq_false, or_self, not_false_eq_true])]
  rfl

end

/-- The record of a command of this module is written to its line, and the core's port has a place again. -/
theorem writeFetchRecord_own (own : r.cmd.src = 0) (ok : accessCode s true r.cmd.cpl 64 = .ok) : writeFetchRecord b r s =
    (memWrite s r.cmd.cpl (fetchRecord r s.tb)).modCore r.cmd.row r.cmd.slot (fun c => { c with fetchOut := c.fetchOut.modify b (· - 1) }) := by
  unfold writeFetchRecord
  simp only [own, ok, if_true]

/-- A row of the state after an update of one row is as it was, or updated. -/
theorem row_modRow_or (s : State) (q p : Nat) (f : Row → Row) : (s.modRow q f).row p = s.row p ∨ (s.modRow q f).row p = f (s.row p) := by
  by_cases hp : p = q
  · subst hp
    by_cases hq : p < s.rows.length
    · exact .inr (row_modRow_self hq f)
    · left
      rw [State.row, State.row, nth_of_length_le (by rw [modRow_rows_length]; exact Nat.not_lt.1 hq), nth_of_length_le (Nat.not_lt.1 hq)]
  · exact .inl (nth_modify_of_ne _ f hp)

/-- The mark on the record's line is no matter of an access. -/
theorem accessCode_recordMarked (q ln : Nat) (wr : Bool) (a n : Nat) : accessCode (recordMarked q ln r s) wr a n = accessCode s wr a n := by
  have fields (w : Row) : (provWrite r.taint r.taintBad ln 1 w).rowOut = w.rowOut ∧ (provWrite r.taint r.taintBad ln 1 w).st = w.st
      ∧ (provWrite r.taint r.taintBad ln 1 w).banks = w.banks := by
    unfold provWrite
    split <;> exact ⟨rfl, rfl, rfl⟩
  refine accessCode_congr (by rfl) (by rfl) (by rfl) (fun p => ?_) ..
  rcases row_modRow_or s q p (provWrite r.taint r.taintBad ln 1) with same | marked
  · rw [recordMarked, same]
    exact ⟨rfl, rfl, rfl⟩
  · rw [recordMarked, marked]
    exact fields _

/-- The end of a command of this module, its record written (12 R327). -/
theorem fetchEnd_own {q ln : Nat} (engine : s.engine b e = some r) (own : r.cmd.src = 0) (ok : accessCode s true r.cmd.cpl 64 = .ok)
    (none : r.failed = 0) (kept : ∀ t0, s.table r.cmd.table = some t0 → t0.dying = false) :
    fetchEnd b e (recordMarked q ln r (s.modEngine b e runClosed)) = freeEngine b e
      ((memWrite (recordMarked q ln r (s.modEngine b e runClosed)) r.cmd.cpl (fetchRecord r s.tb)).modCore r.cmd.row r.cmd.slot
        (fun c => { c with fetchOut := c.fetchOut.modify b (· - 1) })) := by
  have closed : (s.modEngine b e runClosed).engine b e = some r :=
    (engine_modEngine_some engine _).trans (congrArg some (runClosed_of_none_failed none))
  have marked : (recordMarked q ln r (s.modEngine b e runClosed)).engine b e = some r := closed
  have writable : accessCode (recordMarked q ln r (s.modEngine b e runClosed)) true r.cmd.cpl 64 = .ok :=
    (accessCode_recordMarked ..).trans ok
  rw [fetchEnd_eq marked, writeFetchRecord_own own writable]
  exact tableGone_of_kept kept

/-- Settles O30: each clause is one arm of its command, and what the arm does to its engine, its core or the memory. -/
theorem fetchCommandsRunToTheirRecord : Obligations.FetchCommandsRunToTheirRecord := by
  refine ⟨fun s r c b l m hr hc hb pending store runs => ⟨fun serves line few => ?queued, fun many => ?faults⟩,
    fun s b e c rest hb he four queue free serves cool => ?dispatch,
    fun s b e x w r t0 hb he work pool more room taint readable bag row hw => ?pool,
    fun s b e x tier r t0 l hb he engine row table unwitnessed source decoded => ?good,
    fun s b e x tier o r t0 hb he engine row table unwitnessed source => ?bad,
    fun s b e a r t0 hb he work taint more readable =>
      ⟨fun op block => ?copies, fun op => ?gatherBad, fun op block => ?moveFails, fun op block u loc target writable entry => ?moves⟩,
    fun s b e r hb he engine remote done serves => ?remote,
    fun s b e q ln r hb he engine own done serves hq hl kept lit runs on free fits ok table status none => ?own,
    fun s b e r engine runs more => ?more⟩
  case queued =>
    have core := core_modCore (s := s.modFetchU b (fun u => { u with queue := u.queue ++ [fetchQueued s l r c] })) ⟨hr, hc⟩ (fetchSent b m.len)
    refine ⟨_, execFetchCommand_queued pending store runs serves line few, ?_, by rw [core]; rfl, by rw [core]; rfl, by simp⟩
    exact (congrArg (fun u : FetchUnit => u.queue.length) (fetchU_modFetchU hb _)).trans List.length_append
  case faults =>
    have core := core_modCore ⟨hr, hc⟩ (fetchFaulted m.addr)
    exact ⟨_, execFetchCommand_faults pending store runs many, by rw [core]; rfl, by rw [core, fetchFaulted, trap_cause]; rfl, rfl⟩
  case dispatch =>
    refine ⟨_, execFetchDispatch_free he queue free serves cool, congrArg FetchUnit.queue (fetchU_modFetchU hb _), by simp, dispatched s b c, ?_,
      dispatched_cmd s b c, dispatched_ok, dispatched_fails⟩
    rw [State.engine, fetchU_modFetchU hb]
    simp [nth, four, he]
  case pool =>
    obtain ⟨engine, table, live, idle, serves⟩ := working_some work
    have started := engine_modEngine_some (engine_modEngine_some engine (fun _ => r)) (rowStarts x w)
    refine ⟨_, execFetchPool_entry work pool more, ?_⟩
    rw [poolEntry_row readable taint room bag row, ← hw, started]
    exact ⟨rfl, rfl, rfl, by simp⟩
  case good =>
    obtain ⟨v, hv⟩ := Option.isSome_iff_exists.1 decoded
    obtain ⟨k, cached⟩ := rowCached_engine (x := x) (tier := tier) (t0 := t0) engine l
    obtain ⟨rows, bagRows, cmd⟩ := rowAdded_counts tier t0.epoch v (rowCached b e r t0 x tier l s).draw.1 { r with fills := k }
    have drawn : (rowCached b e r t0 x tier l s).draw.2.engine b e = some { r with fills := k } := cached
    have added := engine_modEngine_some drawn (rowAdded tier t0.epoch v (rowCached b e r t0 x tier l s).draw.1)
    have kept : Keeps [.fetch, .fresh, .mem] s (rowCached b e r t0 x tier l s) := (rowCached_keeps l).mono (by decide)
    refine ⟨_, execRowReadComplete_good engine row table source hv, ?_⟩
    rw [witItem_of_unwitnessed added (by rw [cmd]; exact unwitnessed), added]
    exact ⟨rfl, rfl, congrArg some rows, congrArg some bagRows, by simp [kept]⟩
  case bad =>
    obtain ⟨cells, met⟩ := badRow_keeps t0 x tier o s
    have same := (engine_of_fetch (met .fetch (by decide)) b e).trans engine
    refine ⟨_, execRowReadComplete_bad engine row table source, ?_⟩
    rw [skipEntry_failed same unwitnessed, engine_modEngine_some same]
    exact ⟨rfl, rfl, rfl, cells, (keeps_State_modEngine _ b e rowFails (by decide)).2 (met.mono (by decide))⟩
  case copies =>
    obtain ⟨engine, _⟩ := working_some work
    have read : Readable s (entryReads r.cmd false r.next 8) := fun g hg => readable g (List.mem_append_left _ hg)
    refine ⟨_, execFetchBlockGather_copies work more taint op read block, ?_, ?_, by simp [blockRead]⟩
    · rw [engine_modEngine, Option.map_map]
      exact (engine_fetchWrite (f := fun r => r.next + 1) (fun _ _ => rfl) _).trans (congrArg _ (blockRead_engine engine t0 a))
    · rw [engine_modEngine, Option.map_map]
      exact (engine_fetchWrite (f := fun r => r.bags + 1) (fun _ _ => rfl) _).trans (congrArg _ (blockRead_engine engine t0 a))
  case gatherBad =>
    obtain ⟨engine, _⟩ := working_some work
    have read : Readable s (entryReads r.cmd false r.next 8) := fun g hg => readable g (List.mem_append_left _ hg)
    obtain ⟨cells, met⟩ := badBlock_keeps (blockAt s t0 (field (listAt s r.cmd (8 * r.next) 8) 0 5)) t0.bsize (s.modEngine b e (fun _ => r))
    have same := (engine_of_fetch (met .fetch (by decide)) b e).trans (engine_modEngine_some engine _)
    refine ⟨_, execFetchBlockGather_bad work more taint op read, ?_⟩
    rw [failBlock_eq, engine_modEngine_some same]
    have start : Keeps [.fetch] s (s.modEngine b e (fun _ => r)) := by simp
    exact ⟨rfl, cells, (keeps_State_modEngine _ b e blockFails (by decide)).2 ((start.mono (by decide)).trans (met.mono (by decide)))⟩
  case moveFails =>
    obtain ⟨engine, _⟩ := working_some work
    have read : Readable s (entryReads r.cmd false r.next 16) := fun g hg => readable g (List.mem_append_right _ hg)
    refine ⟨_, execFetchBlockMove_fails work more taint op read block, ?_⟩
    rw [failBlock_eq, engine_modEngine_some (engine_modEngine_some engine _)]
    exact ⟨rfl, by simp⟩
  case moves =>
    obtain ⟨engine, _⟩ := working_some work
    have read : Readable s (entryReads r.cmd false r.next 16) := fun g hg => readable g (List.mem_append_right _ hg)
    have written := memWrite_mem_congr (t := blockRead b e r t0 a s) (s := s) rfl rfl (field (listAt s r.cmd (16 * r.next) 16) 8 8) (memRead s a t0.bsize)
    refine ⟨_, execFetchBlockMove_copies work more taint op read block target writable entry, ?_, memWrite_mem_congr written rfl .., by simp [blockRead]⟩
    rw [engine_modEngine]
    exact congrArg (fun o => (o.map blockDone).map (·.bags)) (blockRead_engine engine t0 a)
  case remote =>
    obtain ⟨freed, others⟩ := fetchEnd_engines (s := s.modEngine b e runClosed) (by rwa [bridges_modEngine])
      (engine_modEngine_some engine _)
    exact ⟨_, execFetchComplete_remote engine done serves remote, freed, fun f hf => (others f hf).trans (modEngine_of_ne s b hf _)⟩
  case own =>
    have marked : Keeps [.rows, .mem, .fetch] s (recordMarked q ln r (s.modEngine b e runClosed)) := by simp [recordMarked]
    have written := memWrite_mem_congr (t := recordMarked q ln r (s.modEngine b e runClosed)) (s := s) rfl rfl r.cmd.cpl (fetchRecord r s.tb)
    refine ⟨_, execFetchComplete_own engine done serves hq hl own kept lit runs on free fits, ?_⟩
    rw [fetchEnd_own engine own ok none table]
    exact ⟨freeEngine_self ((bridges_modEngine s b e runClosed).symm ▸ hb) e, written, by simp [freeEngine, marked]⟩
  case more =>
    have undone := fetchDone_of_more (s := s) (b := b) (e := e) runs more
    exact execFetchComplete_undone engine undone

end Sys2Proof.Machine
end

section
/-! SUPPORT. The flash tier: a keyed map after a write, a card and a channel after an update, and a channel or card that
changes its state (13 R336, R353 to R355). -/

namespace Sys2Proof.Machine

/-! A keyed map after a write. -/

section
variable {κ α β : Type} [BEq κ] [LawfulBEq κ]

theorem kget_kset_self (m : List (κ × α)) (k : κ) (v : α) : kget (kset m k v) k = some v := by
  simp [kget, kset]

theorem kget_kset_of_ne (m : List (κ × α)) {k j : κ} (v : α) (h : j ≠ k) : kget (kset m k v) j = kget m j := by
  have other : (fun p : κ × α => decide ((!(p.1 == k)) = true ∧ (p.1 == j) = true)) = fun p => p.1 == j := funext fun p => by
    by_cases e : p.1 = j
    · simp [e, h]
    · simp [e]
  unfold kget kset
  rw [List.find?_cons_of_neg (by simpa using h.symm), List.find?_filter, other]

/-- A key that none of the writes is made under keeps its entry. -/
theorem kget_foldl_kset_of_ne (key : β → κ) (val : β → α) {j : κ} (l : List β) (h : ∀ p ∈ l, key p ≠ j) (m : List (κ × α)) :
    kget (l.foldl (fun m p => kset m (key p) (val p)) m) j = kget m j := by
  induction l generalizing m with
  | nil => rfl
  | cons p l ih =>
    rw [List.foldl_cons, ih fun q hq => h q (List.mem_cons_of_mem _ hq)]
    exact kget_kset_of_ne m _ (h p List.mem_cons_self).symm

/-- Writes under keys that differ all stand at the end. -/
theorem kget_foldl_kset_of_mem (key : β → κ) (val : β → α) {p : β} (l : List β) (distinct : (l.map key).Nodup) (h : p ∈ l) (m : List (κ × α)) :
    kget (l.foldl (fun m p => kset m (key p) (val p)) m) (key p) = some (val p) := by
  induction l generalizing m with
  | nil => cases h
  | cons q l ih =>
    rw [List.map_cons, List.nodup_cons] at distinct
    obtain ⟨fresh, distinct⟩ := distinct
    rcases List.mem_cons.1 h with rfl | h
    · rw [List.foldl_cons, kget_foldl_kset_of_ne key val l fun r hr e => fresh (List.mem_map.2 ⟨r, hr, e⟩)]
      exact kget_kset_self ..
    · exact ih distinct h _

end

/-! A card and a channel after an update of one of them. -/

/-- What an update of a unit leaves alone reads the same at every place, inside the list or not. -/
theorem nth_modify_fixed {α β : Type} [Inhabited α] (g : α → β) {f : α → α} (h : ∀ x, g (f x) = g x) (l : List α) (i j : Nat) :
    g (nth (l.modify i f) j) = g (nth l j) := by
  by_cases hj : j < l.length
  · by_cases e : j = i
    · rw [e, nth_modify_self f (e ▸ hj), h]
    · rw [nth_modify_of_ne l f e]
  · rw [nth_of_length_le (by simpa using hj), nth_of_length_le (Nat.not_lt.1 hj)]

variable {s t : State} {c k i j : Nat}

theorem card_of_cards (h : t.flash.cards = s.flash.cards) (c : Nat) : t.card c = s.card c := congrArg (nth · c) h

theorem fchan_of_cards (h : t.flash.cards = s.flash.cards) (c k : Nat) : t.fchan c k = s.fchan c k :=
  congrArg (fun x : Card => nth x.chans k) (card_of_cards h c)

theorem card_modCard_self (f : Card → Card) (hc : c < s.flash.cards.length) : (s.modCard c f).card c = f (s.card c) := nth_modify_self f hc

@[simp] theorem cards_length_modCard (s : State) (c : Nat) (f : Card → Card) : (s.modCard c f).flash.cards.length = s.flash.cards.length :=
  List.length_modify ..

theorem fchan_modCard {f : Card → Card} (h : ∀ x, (f x).chans = x.chans) (s : State) (c i j : Nat) : (s.modCard c f).fchan i j = s.fchan i j :=
  nth_modify_fixed (fun x : Card => nth x.chans j) (fun x => by rw [h]) ..

theorem fchan_modFChan_self (f : FChan → FChan) (hc : c < s.flash.cards.length) (hk : k < (s.card c).chans.length) :
    (s.modFChan c k f).fchan c k = f (s.fchan c k) := by
  rw [State.fchan, State.modFChan, card_modCard_self _ hc]
  exact nth_modify_self f hk

/-- What an update of a channel leaves alone reads the same at every channel. -/
theorem fchan_modFChan_fixed {β : Type} (g : FChan → β) {f : FChan → FChan} (h : ∀ y, g (f y) = g y) (s : State) (c k i j : Nat) :
    g ((s.modFChan c k f).fchan i j) = g (s.fchan i j) :=
  nth_modify_fixed (fun x : Card => g (nth x.chans j)) (fun x => nth_modify_fixed g h x.chans k j) ..

theorem card_st_modFChan (f : FChan → FChan) (s : State) (c k i : Nat) : ((s.modFChan c k f).card i).st = (s.card i).st :=
  nth_modify_fixed Card.st (fun _ => by rfl) ..

/-- The channels that are there do not change in number. -/
theorem chans_length_modFChan (f : FChan → FChan) (s : State) (c k i : Nat) :
    ((s.modFChan c k f).card i).chans.length = (s.card i).chans.length :=
  nth_modify_fixed (fun x : Card => x.chans.length) (fun _ => List.length_modify ..) ..

/-! A channel or a card that changes its state (13 R350, R351, R353 to R355). -/

theorem errRecord_card (x : Rec) (s : State) (c : Nat) : (errRecord x s).card c = s.card c := card_of_cards (congrArg Flash.cards (errRecord_flash x s)) c

theorem errRecord_fchan (x : Rec) (s : State) (i j : Nat) : (errRecord x s).fchan i j = s.fchan i j :=
  fchan_of_cards (congrArg Flash.cards (errRecord_flash x s)) i j

theorem mapCards_card (s : State) (c : Nat) : (mapCards s).card c = s.card c := card_of_cards (congrArg Flash.cards (mapCards_flash s)) c

theorem mapCards_fchan (s : State) (i j : Nat) : (mapCards s).fchan i j = s.fchan i j := fchan_of_cards (congrArg Flash.cards (mapCards_flash s)) i j

theorem cardSet_card (st : CardState) (hc : c < s.flash.cards.length) : (cardSet c st s).card c = { s.card c with st := st } := by
  have moved := card_modCard_self (fun x => { x with st := st }) hc
  unfold cardSet
  split
  · next same => rw [← eq_of_beq same]
  · dsimp only
    split
    · exact (errRecord_card ..).trans ((mapCards_card ..).trans moved)
    · exact (mapCards_card ..).trans moved

theorem cardSet_power (c : Nat) (st : CardState) (s : State) : (cardSet c st s).power = s.power :=
  (keeps_cardSet c st s (List.Subset.refl _)).2 Keeps.rfl' .power (by decide)

theorem cardSet_fchan (c : Nat) (st : CardState) (s : State) (i j : Nat) : (cardSet c st s).fchan i j = s.fchan i j := by
  have kept : (mapCards (s.modCard c (fun x => { x with st := st }))).fchan i j = s.fchan i j :=
    (mapCards_fchan ..).trans (fchan_modCard (fun _ => by rfl) ..)
  unfold cardSet
  dsimp only
  split
  · rfl
  · split
    · exact (errRecord_fchan ..).trans kept
    · exact kept

theorem cardFail_fchan (c reason : Nat) (s : State) (i j : Nat) : (cardFail c reason s).fchan i j = s.fchan i j := by
  unfold cardFail cardRecord
  rw [errRecord_fchan, fchan_of_cards (failBatches_cards ..), mapCards_fchan]
  exact fchan_modCard (fun _ => by rfl) (loseGroups (fun _ g => g.card == c) s) c i j

theorem cardFollow_fchan (c : Nat) (s : State) (i j : Nat) : (cardFollow c s).fchan i j = s.fchan i j := by
  unfold cardFollow
  split
  · split
    · exact cardFail_fchan ..
    · exact cardSet_fchan ..
  · rfl

theorem fchanRecord_fchan (c k : Nat) (code : Code) (detail : Nat) (s : State) (i j : Nat) :
    (fchanRecord c k code detail s).fchan i j = s.fchan i j :=
  errRecord_fchan ..

/-- A channel put in a state is in it, whatever else follows for its row groups, batches and card. -/
theorem fchanSet_st (st : FChanState) (reason : Nat) (hc : c < s.flash.cards.length) (hk : k < (s.card c).chans.length) :
    ((fchanSet c k st reason s).fchan c k).st = st := by
  have moved : ((s.modFChan c k (fun x => { x with st := st })).fchan c k).st = st := by rw [fchan_modFChan_self _ hc hk]
  unfold fchanSet
  split
  · next same => exact eq_of_beq same
  · extract_lets s1 s2 s3
    have entered : (s2.fchan c k).st = st := by
      unfold s2
      split
      · exact (congrArg FChan.st (errRecord_fchan ..)).trans moved
      · exact (congrArg FChan.st (fchanRecord_fchan ..)).trans moved
      · exact (congrArg FChan.st (fchanRecord_fchan ..)).trans ((fchan_modFChan_fixed FChan.st (fun _ => by rfl) ..).trans moved)
      · exact (congrArg FChan.st (fchanRecord_fchan ..)).trans moved
      · exact moved
    rw [cardFollow_fchan]
    unfold s3
    split
    · rw [fchan_of_cards (failBatches_cards ..)]
      exact entered
    · exact entered

end Sys2Proof.Machine
end

section
/-! PROOFS. O32: programs, relocation, retention, training, map reload and returned cards (13 R335, R338, R346, R349 to R351,
R357; logs 31, 38). -/

namespace Sys2Proof.Machine

variable {s : State} {c k : Nat}

theorem ne_retired_of_writable {st : FChanState} (h : chanWritable st = true) : st ≠ .retired := by
  rintro rfl
  cases h

/-! A block that fails its program or erase (13 R350, R351). -/

/-- The channel and its card with the counts that the failed block leaves. -/
def blockFailed (c k sp pa pm wa : Nat) (s : State) : State :=
  (s.modFChan c k (fun x => { x with peAvg := pa, peMax := pm, spareLeft := sp })).modCard c (fun x => { x with wa := wa })

section
variable {sp pa pm wa : Nat} (hc : c < s.flash.cards.length) (hk : k < (s.card c).chans.length)
include hc hk

theorem blockFailed_fchan : (blockFailed c k sp pa pm wa s).fchan c k = { s.fchan c k with peAvg := pa, peMax := pm, spareLeft := sp } := by
  unfold blockFailed
  rw [fchan_modCard (fun _ => by rfl), fchan_modFChan_self _ hc hk]

/-- The channel is still there to change its state. -/
theorem blockFailed_fchanSet (st : FChanState) (reason : Nat) : ((fchanSet c k st reason (blockFailed c k sp pa pm wa s)).fchan c k).st = st := by
  refine fchanSet_st st reason ?_ ?_
  · simpa [blockFailed, State.modFChan] using hc
  · have wa : ((blockFailed c k sp pa pm wa s).card c).chans.length = ((s.modFChan c k (fun x => { x with peAvg := pa, peMax := pm, spareLeft := sp })).card c).chans.length :=
      nth_modify_fixed (fun x : Card => x.chans.length) (fun _ => by rfl) ..
    rw [wa, chans_length_modFChan]
    exact hk

theorem execFlashProgramEraseComplete_block (die : Nat) (hc8 : c < 8) (hk4 : k < 4) (card : cardWritable (s.card c) = true)
    (chan : chanWritable (s.fchan c k).st = true) : execFlashProgramEraseComplete c k die 1 sp pa pm wa [] s =
      .next (if sp = 0 ∨ 3300 ≤ pa then fchanSet c k .readOnly 0 (blockFailed c k sp pa pm wa s)
        else if 4 * sp < (s.fchan c k).spareInit then fchanSet c k .lowSpare 0 (blockFailed c k sp pa pm wa s)
        else blockFailed c k sp pa pm wa s) := by
  have counts := blockFailed_fchan (sp := sp) (pa := pa) (pm := pm) (wa := wa) hc hk
  unfold execFlashProgramEraseComplete
  rw [if_neg (by simp [Nat.not_le.2 hc8, Nat.not_le.2 hk4, card, chan])]
  extract_lets u rebuilding dieOut queued v y
  have only : v = blockFailed c k sp pa pm wa s := if_pos (by decide)
  have chanNow : y = { s.fchan c k with peAvg := pa, peMax := pm, spareLeft := sp } := counts
  rw [only, chanNow, if_neg (ne_retired_of_writable chan)]
  split
  · rfl
  · split
    · rfl
    · rfl

end

/-! A row group in its new place (13 R346). -/

/-- A row group programmed anew in another place. -/
def RowGroup.placed (c k die tb : Nat) (x : RowGroup) : RowGroup := { x with card := c, chan := k, die := die, since := tb, bad := false, reads := 0 }

/-- The row group's entry of the map names its new place, and its old channel has it no more to move. -/
def groupMoved (t g c k die : Nat) (x : RowGroup) (s : State) : State :=
  (s.modFlash (fun f => { f with groups := kset f.groups (t, g) (x.placed c k die s.tb) })).modFChan x.card x.chan
    (fun y => { y with toMove := y.toMove.filter (· != (t, g)) })

theorem groupMoved_kget_self (t g c k die : Nat) (x : RowGroup) (s : State) : kget (groupMoved t g c k die x s).flash.groups (t, g) =
    some (x.placed c k die s.tb) :=
  kget_kset_self s.flash.groups _ _

theorem groupMoved_kget_of_ne {t g die : Nat} {x : RowGroup} {q : Nat × Nat} (h : q ≠ (t, g)) :
    kget (groupMoved t g c k die x s).flash.groups q = kget s.flash.groups q :=
  kget_kset_of_ne s.flash.groups _ h

theorem execFlashRelocationComplete_moves {t g : Nat} {x : RowGroup} (die : Nat) (group : kget s.flash.groups (t, g) = some x)
    (held : x.lost = false) (hc8 : c < 8) (hk4 : k < 4) (bridge : cardBridge c = cardBridge x.card) (card : cardWritable (s.card c) = true)
    (staying : (s.card c).st ≠ .draining) (chan : chanWritable (s.fchan c k).st = true)
    (readable : chanReadable (s.fchan x.card x.chan).st = true) (writable : (s.fchan x.card x.chan).st ≠ .readOnly)
    (kept : (s.card x.card).st ≠ .draining) :
    execFlashRelocationComplete t g c k die false s = .next (groupMoved t g c k die x s) := by
  have oldChan : ((groupMoved t g c k die x s).fchan x.card x.chan).st ≠ .readOnly := by
    unfold groupMoved
    rw [fchan_modFChan_fixed FChan.st (fun _ => by rfl)]
    exact writable
  have oldCard : ((groupMoved t g c k die x s).card x.card).st ≠ .draining := by
    unfold groupMoved
    rw [card_st_modFChan]
    exact kept
  unfold execFlashRelocationComplete
  rw [group]
  refine (if_neg (by simp [held, Nat.not_le.2 hc8, Nat.not_le.2 hk4, bridge, card, staying, chan, readable])).trans ?_
  extract_lets a u v w
  have moved : u = groupMoved t g c k die x s := rfl
  have notEmptied : v = u := if_neg fun h => oldChan (moved ▸ h.1)
  have notDrained : w = v := if_neg fun h => oldCard (moved ▸ notEmptied ▸ h.1)
  rw [if_neg (by decide), notDrained, notEmptied, moved]

/-! Data past T_RET (13 R349). -/

theorem execFlashRetentionExpiry_queues {g : Nat × Nat} (here : (groupsOn s c k).contains g = true) (writable : (s.fchan c k).st ≠ .readOnly) :
    execFlashRetentionExpiry c k [g] s = .next (queueMove g c k s) := by
  have still : [g].filter (fun g => (groupsOn s c k).contains g) = [g] := List.filter_eq_self.2 fun x hx => by
    rw [List.mem_singleton.1 hx]
    exact here
  unfold execFlashRetentionExpiry
  rw [still]
  simp [writable, each]

theorem queueMove_fchan (g : Nat × Nat) (hc : c < s.flash.cards.length) (hk : k < (s.card c).chans.length) :
    (queueMove g c k s).fchan c k = { s.fchan c k with toMove := addNew (s.fchan c k).toMove g } :=
  fchan_modFChan_self _ hc hk

/-! The training of a channel (13 R335, R353). -/

/-- The channel with the tick of this training. -/
def chanTrained (c k : Nat) (s : State) : State := s.modFChan c k (fun x => { x with lastTrain := s.tb })

theorem chanTrained_fchan (hc : c < s.flash.cards.length) (hk : k < (s.card c).chans.length) :
    (chanTrained c k s).fchan c k = { s.fchan c k with lastTrain := s.tb } :=
  fchan_modFChan_self _ hc hk

theorem execFlashInterfaceTraining_due (ok : Bool) (hc8 : c < 8) (hk4 : k < 4) (kept : (s.fchan c k).st ≠ .retired)
    (fitted : (s.fchan c k).st ≠ .absent) (on : (s.sw (16 + c)).st = .on) (due : (s.fchan c k).lastTrain + 50000000 ≤ s.tb) :
    execFlashInterfaceTraining c k ok s = .next (if ok then chanTrained c k s else fchanSet c k .retired 3 (chanTrained c k s)) := by
  unfold execFlashInterfaceTraining
  dsimp only
  rw [if_neg (by simp [Nat.not_le.2 hc8, Nat.not_le.2 hk4, kept, fitted, on, Nat.not_lt.2 due])]
  rfl

/-! A working map that is back (13 R338). -/

/-- The pages of a table's map freed, and the losses in them forgotten: what the reload changes in memory. -/
def mapPagesBack (t : Nat) (s : State) : State :=
  let pages := ((s.table t).map (·.mapPages)).getD []
  let u := each (pages.filter (fun k => (pageEnt s k).st == .lost)) (fun k s => (freeLost k s).getD s) s
  u.modMem (fun m => { m with dataLost := m.dataLost.filter (fun x => match place u (64 * x) with
    | .mem v loc => !pages.contains (pageKey v loc) | _ => true) })

theorem mapPagesBack_keeps (t : Nat) (s : State) : Keeps [.mem] s (mapPagesBack t s) := by
  simp [mapPagesBack]

theorem execFlashMapReloadComplete_waited {b t : Nat} (waits : mapWaits s b t = true) : execFlashMapReloadComplete b t s =
    .next ((mapPagesBack t s).modFlash (fun f => { f with reloading := f.reloading.filter (· != (b, t)) })) := by
  unfold execFlashMapReloadComplete
  rw [if_neg (by simp [waits])]
  rfl

/-- The fetches of the table whose map is back wait no more, and the others wait as they did. -/
theorem mapWaits_reloaded {u : State} (b t : Nat) (same : u.flash = s.flash) (b' t' : Nat) :
    mapWaits (u.modFlash (fun f => { f with reloading := f.reloading.filter (· != (b, t)) })) b' t' =
      (mapWaits s b' t' && (b', t') != (b, t)) := by
  rw [Bool.eq_iff_iff]
  simp only [mapWaits, State.modFlash_flash, same, List.contains_iff_mem, List.mem_filter, Bool.and_eq_true]

/-! A returned card that has been tested (13 R357). -/

/-- A card of another module: its header's serial is kept, and its bay's switch opens. -/
def cardForeign (c hdr ser : Nat) (s : State) : State := switchOff (16 + c) (s.modCard c (fun x => { x with mapSerial := hdr, serial := ser }))

theorem cardForeign_sw {hdr ser : Nat} (h : 16 + c < s.power.switches.length) : ((cardForeign c hdr ser s).sw (16 + c)).st = .off :=
  congrArg Switch.st (switchOff_sw_self (s := s.modCard c (fun x => { x with mapSerial := hdr, serial := ser })) h)

theorem cardForeign_cards_length (c hdr ser : Nat) (s : State) : (cardForeign c hdr ser s).flash.cards.length = s.flash.cards.length :=
  cards_length_modCard s c (fun x => { x with mapSerial := hdr, serial := ser })

section
variable {hdr ser reason : Nat} {balanced : Bool} (hc8 : c < 8) (testing : (s.card c).st = .testing)
include hc8 testing

theorem execCardTestComplete_fails (bad : reason ≠ 0) :
    execCardTestComplete c hdr ser reason balanced s = .next (cardFail c reason (switchOff (16 + c) s)) := by
  unfold execCardTestComplete
  simp [Nat.not_le.2 hc8, testing, bad]

theorem execCardTestComplete_foreign (unformatted : (s.card c).format = false) (written : hdr ≠ 0) (other : hdr ≠ s.eeprom.ident.serial) :
    execCardTestComplete c hdr ser 0 balanced s = .next (cardRecord c .cardForeign 0 (cardSet c .failed (cardForeign c hdr ser s))) := by
  unfold execCardTestComplete
  simp [Nat.not_le.2 hc8, testing, unformatted, written, other, cardForeign]

end

/-- A card of this module as its test leaves it, the rows it holds known again. -/
def cardKnown (c ser : Nat) (s : State) : State :=
  let u := s.modCard c (fun x => { x with mapSerial := s.eeprom.ident.serial, serial := ser, format := false, uncorr := false })
  u.modFlash (fun f => { f with groups := f.groups.map (fun g =>
    if g.2.card = c then (g.1, { g.2 with lost := (u.fchan c g.2.chan).st == .retired }) else g) })

theorem cardKnown_serial (ser : Nat) (hc : c < s.flash.cards.length) : ((cardKnown c ser s).card c).serial = ser :=
  congrArg Card.serial (card_modCard_self (fun x => { x with mapSerial := s.eeprom.ident.serial, serial := ser, format := false, uncorr := false }) hc)

theorem execCardTestComplete_own (ser : Nat) (hc8 : c < 8) (testing : (s.card c).st = .testing) (unformatted : (s.card c).format = false)
    (known : s.eeprom.ident.serial ≠ 0) :
    execCardTestComplete c s.eeprom.ident.serial ser 0 false s = .next (cardSet c .rebalancing (cardKnown c ser s)) := by
  unfold execCardTestComplete
  simp [Nat.not_le.2 hc8, testing, unformatted, known, cardKnown]

/-- With no fault found, the end of a test answers a next state, whatever header the card has. -/
theorem execCardTestComplete_answers (c hdr ser : Nat) (balanced : Bool) (s : State) : ∃ t, execCardTestComplete c hdr ser 0 balanced s = .next t := by
  unfold execCardTestComplete
  dsimp only
  rw [if_neg (by decide : ¬ (0 : Nat) ≠ 0)]
  split
  · exact ⟨_, rfl⟩
  · split
    · exact ⟨_, rfl⟩
    · exact ⟨_, rfl⟩

/-- Settles O32: each clause is one arm of its command, whose next state is known in whole. -/
theorem flashUpkeepKeepsRows : Obligations.FlashUpkeepKeepsRows := by
  refine ⟨fun s c k die sp pa pm wa hc8 hk4 hc hk card chan spare worn enough => ?block,
    fun s c k die pa pm wa hc8 hk4 hc hk card chan _ => ?lastSpare,
    fun s t g c k die x group held hc8 hk4 bridge card staying chan readable writable kept => ?relocated,
    fun s c k g hc hk here writable => ?expired,
    fun s c k hc8 hk4 hc hk kept fitted on due => ⟨?trained, ?untrained⟩,
    fun s b t waits => ?reloaded, fun s b t free => if_pos free,
    fun s c ser hc8 hc testing unformatted => ?own,
    fun s c ser hdr hc8 hc testing unformatted written other => ?foreign,
    fun s c hdr ser reason b hc8 hc testing bad => ⟨_, execCardTestComplete_fails hc8 testing bad, cardFail_card_failed reason hc⟩⟩
  case block =>
    have counts := blockFailed_fchan (sp := sp) (pa := pa) (pm := pm) (wa := wa) hc hk
    refine ⟨blockFailed c k sp pa pm wa s, ?_, ?_, ?_, ?_, ?_, rfl, by simp [blockFailed]⟩
    · exact (execFlashProgramEraseComplete_block hc hk die hc8 hk4 card chan).trans
        (by rw [if_neg (by omega), if_neg (by omega)])
    all_goals rw [counts]
  case lastSpare =>
    refine ⟨_, execFlashProgramEraseComplete_block hc hk die hc8 hk4 card chan, ?_⟩
    rw [if_pos (.inl rfl)]
    exact blockFailed_fchanSet hc hk ..
  case relocated =>
    exact ⟨_, execFlashRelocationComplete_moves die group held hc8 hk4 bridge card staying chan readable writable kept,
      groupMoved_kget_self .., fun q hq => groupMoved_kget_of_ne hq, rfl, by simp [groupMoved]⟩
  case expired =>
    refine ⟨_, execFlashRetentionExpiry_queues here writable, ?_, rfl, rfl, by simp⟩
    rw [queueMove_fchan g hc hk]
    exact mem_addNew.2 (.inr rfl)
  case trained =>
    refine ⟨_, execFlashInterfaceTraining_due true hc8 hk4 kept fitted on due, ?_, ?_, by simp [chanTrained]⟩
    all_goals rw [if_pos rfl, chanTrained_fchan hc hk]
  case untrained =>
    refine ⟨_, execFlashInterfaceTraining_due false hc8 hk4 kept fitted on due, fchanSet_st _ _ ?_ ?_⟩
    · simpa [chanTrained, State.modFChan] using hc
    · exact (chans_length_modFChan _ s c k c).symm ▸ hk
  case reloaded =>
    have back := mapPagesBack_keeps t s
    have waiting := mapWaits_reloaded b t (back .flash (by decide))
    refine ⟨_, execFlashMapReloadComplete_waited waits, ?_, fun b' t' other => ?_, ?_⟩
    · simp [waiting]
    · simp [waiting, bne_iff_ne.2 other]
    · exact (keeps_modFlash _ (by decide)).2 (back.mono (by decide))
  case own =>
    by_cases known : s.eeprom.ident.serial = 0
    · obtain ⟨t, run⟩ := execCardTestComplete_answers c s.eeprom.ident.serial ser false s
      exact ⟨t, run, fun h => absurd known h⟩
    · refine ⟨_, execCardTestComplete_own ser hc8 testing unformatted known, fun _ => ?_⟩
      rw [cardSet_card .rebalancing (by simpa [cardKnown] using hc)]
      exact ⟨rfl, cardKnown_serial ser hc⟩
  case foreign =>
    refine ⟨_, execCardTestComplete_foreign hc8 testing unformatted written other, ?_, fun hs => ?_⟩
    · unfold cardRecord
      rw [errRecord_card, cardSet_card .failed (by rw [cardForeign_cards_length]; exact hc)]
    · unfold cardRecord
      rw [sw_of_power (errRecord_power ..), sw_of_power (cardSet_power ..), cardForeign_sw hs]

end Sys2Proof.Machine
end

section
/-! PROOFS. O31: flash reads by the step of the ladder, and the commit of a batch (13 R340, R341, R343, R344, R349; log 31). -/

namespace Sys2Proof.Machine

variable {s : State} {b e x t : Nat} {r : FetchRun} {t0 d : Table} {g : RowGroup}

/-! A codeword that is read (13 R340, R341, R349). -/

/-- The engine with the answer to its flash read. -/
def flashAnswered (b e : Nat) (ok : Bool) (s : State) : State := s.modEngine b e (fun r => { r with flashRead := some ok })

theorem flashAnswered_engine (h : s.engine b e = some r) (ok : Bool) :
    ((flashAnswered b e ok s).engine b e).map (·.flashRead) = some (some ok) :=
  congrArg (Option.map (·.flashRead)) (engine_modEngine_some h _)

/-- A channel's counters after a read that ended at a step of the ladder. -/
def FChan.readAt (step : Nat) (c : FChan) : FChan :=
  if step = 2 ∨ step = 3 then { c with retry := sat 32 (c.retry + 1) }
  else if step = 4 then { c with recon := sat 32 (c.recon + 1) }
  else if 5 ≤ step then { c with failed := sat 16 (c.failed + 1) } else c

theorem FChan.readAt_unreadable {step : Nat} (h : 5 ≤ step) (c : FChan) : c.readAt step = { c with failed := sat 16 (c.failed + 1) } := by
  unfold FChan.readAt
  rw [if_neg (by omega), if_neg (by omega), if_pos h]

/-- The read counted on its channel and its row group. -/
def readCounted (k : Nat × Nat) (g : RowGroup) (step : Nat) (s : State) : State :=
  (s.modFChan g.card g.chan (FChan.readAt step)).modFlash (fun f => { f with groups := kset f.groups k { g with reads := g.reads + 1 } })

/-- The flash tier once the read has been counted, the row group queued where its read calls for that. -/
def readMet (k : Nat × Nat) (g : RowGroup) (step : Nat) (s : State) : State :=
  if 2 ≤ step ∨ g.bad ∨ 50000 ≤ g.reads + 1 then queueMove k g.card g.chan (readCounted k g step s) else readCounted k g step s

theorem readMet_keeps (k : Nat × Nat) (g : RowGroup) (step : Nat) (s : State) : Keeps [.flash] s (readMet k g step s) := by
  unfold readMet
  split
  all_goals simp [readCounted]

theorem readMet_rows (k : Nat × Nat) (g : RowGroup) (step : Nat) (s : State) : (readMet k g step s).flash.rows = s.flash.rows := by
  unfold readMet
  split
  all_goals rfl

theorem readMet_engine (k : Nat × Nat) (step : Nat) (h : s.engine b e = some r) : (readMet k g step s).engine b e = some r :=
  (engine_of_fetch (readMet_keeps k g step s .fetch (by decide)) b e).trans h

theorem readMet_fchan_unreadable {step : Nat} (k : Nat × Nat) (h : 5 ≤ step) (hc : g.card < s.flash.cards.length)
    (hk : g.chan < (s.card g.card).chans.length) : (readMet k g step s).fchan g.card g.chan =
      { s.fchan g.card g.chan with failed := sat 16 ((s.fchan g.card g.chan).failed + 1), toMove := addNew (s.fchan g.card g.chan).toMove k } := by
  have counted : (readCounted k g step s).fchan g.card g.chan = { s.fchan g.card g.chan with failed := sat 16 ((s.fchan g.card g.chan).failed + 1) } :=
    (fchan_modFChan_self _ hc hk).trans (FChan.readAt_unreadable h _)
  unfold readMet
  rw [if_pos (.inl (by omega)), queueMove_fchan, counted]
  · exact (cards_length_modCard s g.card _).symm ▸ hc
  · exact (chans_length_modFChan (FChan.readAt step) s g.card g.chan g.card).symm ▸ hk

/-- The card's mark and the error record of a codeword that no step decodes. -/
def readFailed (g : RowGroup) (s : State) : State :=
  errRecord { code := .memUncorrectable, unit := uFChan g.card g.chan, op := 0x0E } (s.modCard g.card (fun c => { c with uncorr := true }))

theorem readFailed_fchan (g : RowGroup) (s : State) (i j : Nat) : (readFailed g s).fchan i j = s.fchan i j :=
  (errRecord_fchan ..).trans (fchan_modCard (fun _ => by rfl) ..)

theorem readFailed_engine (g : RowGroup) (h : s.engine b e = some r) : (readFailed g s).engine b e = some r :=
  (engine_of_fetch (errRecord_keeps _ _ .fetch (by decide)) b e).trans h

section
variable (engine : s.engine b e = some r) (row : r.pendRow = some x) (table : s.table r.cmd.table = some t0) (home : t0.home = .flash)
  (unanswered : r.flashRead = none) (mapped : mapWaits s b r.cmd.table = false) (uncached : wayOf s t0 x = none)
  (serves : bridgeServes s b = true) (group : kget s.flash.groups (r.cmd.table, x / groupRows t0.rowBytes) = some g)
include engine row table home unanswered mapped uncached serves group

/-- A read that is due ends in one of three ways: with nothing to read, unreadable, or decoded. -/
theorem execFlashReadComplete_due (step : Nat) : execFlashReadComplete b e step s =
    .next (if g.lost = true ∨ chanReadable (s.fchan g.card g.chan).st = false then flashAnswered b e false s
      else if 5 ≤ step then flashAnswered b e false (readFailed g (readMet (r.cmd.table, x / groupRows t0.rowBytes) g step s))
      else flashAnswered b e (!g.bad) (readMet (r.cmd.table, x / groupRows t0.rowBytes) g step s)) := by
  unfold execFlashReadComplete
  rw [engine]
  dsimp only
  rw [row, table]
  refine (if_neg (by simp [home, unanswered, mapped, uncached, serves])).trans ?_
  rw [group]
  unfold flashAnswered readFailed readMet readCounted FChan.readAt
  dsimp only
  split
  · rfl
  · split
    · rfl
    · rfl

theorem execFlashReadComplete_lost (step : Nat) (lost : g.lost = true) :
    execFlashReadComplete b e step s = .next (flashAnswered b e false s) := by
  rw [execFlashReadComplete_due engine row table home unanswered mapped uncached serves group, if_pos (.inl lost)]

theorem execFlashReadComplete_decoded {step : Nat} (early : step < 5) (held : g.lost = false)
    (readable : chanReadable (s.fchan g.card g.chan).st = true) : execFlashReadComplete b e step s =
      .next (flashAnswered b e (!g.bad) (readMet (r.cmd.table, x / groupRows t0.rowBytes) g step s)) := by
  rw [execFlashReadComplete_due engine row table home unanswered mapped uncached serves group, if_neg (by simp [held, readable]),
    if_neg (by omega)]

theorem execFlashReadComplete_unreadable {step : Nat} (late : 5 ≤ step) (held : g.lost = false)
    (readable : chanReadable (s.fchan g.card g.chan).st = true) : execFlashReadComplete b e step s =
      .next (flashAnswered b e false (readFailed g (readMet (r.cmd.table, x / groupRows t0.rowBytes) g step s))) := by
  rw [execFlashReadComplete_due engine row table home unanswered mapped uncached serves group, if_neg (by simp [held, readable]),
    if_pos late]

end

/-! A batch that commits (13 R343). -/

theorem cacheUpdate_keeps (d : Table) (y : Nat) (l : List Byte) (s : State) : Keeps [.mem] s (cacheUpdate d y l s) :=
  (keeps_cacheUpdate d y l s (List.Subset.refl _)).2 Keeps.rfl'

/-- The rows of a batch are written in turn, and what else follows leaves the stored rows alone. -/
theorem applyRows_flashRows (home : d.home = .flash) (t : Nat) (rows : List (Nat × List Byte)) (keys : List (Nat × Nat)) (s : State) :
    (applyRows t d rows keys s).flash.rows = rows.foldl (fun m p => kset m (t, p.1) p.2) s.flash.rows := by
  have cached (y : Nat) (l : List Byte) (u : State) : (cacheUpdate d y l u).flash = u.flash := cacheUpdate_keeps d y l u .flash (by decide)
  unfold applyRows
  rw [State.modFetch_flash, each_fixed keys State.flash (fun _ _ => by rfl)]
  refine (List.foldl_hom (fun u : State => u.flash.rows) fun u p => ?_).symm
  simp only [cached, home, if_true, State.modFlash_flash]

/-- A row of a batch put where its table has its home. -/
def rowStored (t : Nat) (d : Table) (p : Nat × List Byte) (s : State) : State :=
  if d.home = .flash then s.modFlash (fun f => { f with rows := kset f.rows (t, p.1) p.2 }) else memWrite s (d.rowBase + p.1 * d.rowBytes) p.2

theorem rowStored_batches (t : Nat) (d : Table) (p : Nat × List Byte) (s : State) : (rowStored t d p s).flash.batches = s.flash.batches := by
  unfold rowStored
  split
  · rfl
  · rfl

theorem rowStored_keeps (t : Nat) (d : Table) (p : Nat × List Byte) (s : State) : Keeps [.mem, .flash] s (rowStored t d p s) := by
  unfold rowStored
  split
  all_goals simp

theorem applyRows_batches (t : Nat) (d : Table) (rows : List (Nat × List Byte)) (keys : List (Nat × Nat)) (s : State) :
    (applyRows t d rows keys s).flash.batches = s.flash.batches := by
  have row (p : Nat × List Byte) (u : State) : (cacheUpdate d p.1 p.2 (rowStored t d p u)).flash.batches = u.flash.batches :=
    (congrArg Flash.batches (cacheUpdate_keeps d p.1 p.2 _ .flash (by decide))).trans (rowStored_batches ..)
  unfold applyRows
  rw [State.modFetch_flash, each_fixed keys State.flash (fun _ _ => by rfl)]
  exact each_fixed rows (fun u => u.flash.batches) row s

theorem applyRows_tables (t : Nat) (d : Table) (rows : List (Nat × List Byte)) (keys : List (Nat × Nat)) (s : State) :
    (applyRows t d rows keys s).fetch.tables = s.fetch.tables := by
  have row (p : Nat × List Byte) (u : State) : (cacheUpdate d p.1 p.2 (rowStored t d p u)).fetch.tables = u.fetch.tables :=
    congrArg Fetch.tables ((keeps_cacheUpdate d p.1 p.2 _ (by decide)).2 (rowStored_keeps t d p u) .fetch (by decide))
  unfold applyRows
  rw [State.modFetch_fetch, each_fixed keys State.fetch (fun _ _ => by rfl)]
  exact each_fixed rows (fun u => u.fetch.tables) row s

theorem batchDone_flash (t : Nat) (s : State) : (batchDone t s).flash = s.flash :=
  (keeps_batchDone (ls := [.mem, .fetch, .fab, .chavi, .mbx, .gw, .sec, .out]) t s (List.Subset.refl _)).2 Keeps.rfl' .flash (by decide)

theorem batchDone_fetch (t : Nat) (s : State) : (batchDone t s).fetch = { s.fetch with
    updBusy := s.fetch.updBusy.filter (· != t)
    tables := mmod s.fetch.tables t (fun d => { d with epoch := (d.epoch + 1) % 2 ^ 32 }) } := by
  unfold batchDone
  exact (keeps_completeWait (ls := [.mem, .fab, .chavi, .mbx, .gw, .sec, .out]) _ _ _ _ _ _ (List.Subset.refl _)).2 Keeps.rfl' .fetch (by decide)

/-- The row groups of a batch in their order, each with its place in it. -/
def batchGroups (d : Table) (k : Batch) : List (Nat × Nat) :=
  let gs := (k.rows.map (fun p => p.1 / groupRows d.rowBytes)).foldl addNew []
  gs.zip (List.range gs.length)

/-- The map with the batch's row groups in the places written, the batch gone from those not committed, and the bytes
written counted on the cards. -/
def batchPlaced (t : Nat) (l : List Nat) (k : Batch) (d : Table) (s : State) : State :=
  each (batchGroups d k) (fun g s => s.modCard (nth l (g.2 % l.length) / 4) (fun c => { c with
      written := c.written + ((k.rows.filter (fun p => p.1 / groupRows d.rowBytes == g.1)).map (fun p => p.2.length)).sum }))
    (s.modFlash (fun f => { f with
      nextBatch := (f.nextBatch + 1) % 2 ^ 32
      batches := f.batches.filter (·.table != t)
      groups := (batchGroups d k).foldl (fun m g => kset m (t, g.1) (batchGroup (nth l (g.2 % l.length)) f.nextBatch s.tb)) f.groups }))

theorem batchPlaced_rows (t : Nat) (l : List Nat) (k : Batch) (d : Table) (s : State) : (batchPlaced t l k d s).flash.rows = s.flash.rows :=
  each_fixed _ (fun s => s.flash.rows) (fun _ _ => by rfl) _

theorem batchPlaced_batches (t : Nat) (l : List Nat) (k : Batch) (d : Table) (s : State) :
    (batchPlaced t l k d s).flash.batches = s.flash.batches.filter (·.table != t) :=
  each_fixed _ (fun s => s.flash.batches) (fun _ _ => by rfl) _

theorem batchPlaced_fetch (t : Nat) (l : List Nat) (k : Batch) (d : Table) (s : State) : (batchPlaced t l k d s).fetch = s.fetch :=
  each_fixed _ State.fetch (fun _ _ => by rfl) _

theorem execFlashBatchCommit_commits {l : List Nat} {k : Batch} (batch : s.flash.batches.find? (·.table == t) = some k) (table : s.table t = some d)
    (cool : s.therm.halt = false) (nonempty : l ≠ [])
    (writable : ∀ p ∈ l, cardBridge (p / 4) = d.bridge ∧ cardWritable (s.card (p / 4)) = true ∧ (s.card (p / 4)).st ≠ .draining
      ∧ chanWritable (s.fchan (p / 4) (p % 4)).st = true) :
    execFlashBatchCommit t l s = .next (batchDone t (applyRows t d k.rows k.keys (batchPlaced t l k d s))) := by
  have all : (!l.isEmpty && l.all (fun p => cardBridge (p / 4) == d.bridge && cardWritable (s.card (p / 4)) && (s.card (p / 4)).st != .draining
      && chanWritable (s.fchan (p / 4) (p % 4)).st)) = true := by
    rw [Bool.and_eq_true, List.all_eq_true]
    refine ⟨by simpa using nonempty, fun p hp => ?_⟩
    obtain ⟨bridge, card, staying, chan⟩ := writable p hp
    simp [bridge, card, staying, chan]
  unfold execFlashBatchCommit
  rw [batch, table]
  refine (if_neg (by simp [cool])).trans ((if_neg ?_).trans rfl)
  rw [all]
  decide

/-- Settles O31: the command's next state is known in whole, and the batch's rows are writes under keys that differ. -/
theorem flashReadsAndBatchCommit : Obligations.FlashReadsAndBatchCommit := by
  refine ⟨fun s b e x step r t0 g _ _ engine row table home unanswered mapped uncached serves group held readable =>
      ⟨fun early => ?decoded, fun late => ?unreadable⟩,
    fun s b e x step r t0 g _ _ engine row table home unanswered mapped uncached serves group lost =>
      ⟨_, execFlashReadComplete_lost engine row table home unanswered mapped uncached serves group step lost, flashAnswered_engine engine false,
        by simp [flashAnswered]⟩,
    fun s t l k d batch table home cool nonempty writable distinct => ?committed⟩
  case decoded =>
    exact ⟨_, execFlashReadComplete_decoded engine row table home unanswered mapped uncached serves group early held readable,
      flashAnswered_engine (readMet_engine _ step engine) _, readMet_rows ..,
      (keeps_State_modEngine _ b e _ (by decide)).2 ((readMet_keeps _ g step s).mono (by decide))⟩
  case unreadable =>
    refine ⟨_, execFlashReadComplete_unreadable engine row table home unanswered mapped uncached serves group late held readable,
      flashAnswered_engine (readFailed_engine g (readMet_engine _ step engine)) _, fun hc hk => ?_⟩
    have chan := (readFailed_fchan g _ g.card g.chan).trans (readMet_fchan_unreadable (r.cmd.table, x / groupRows t0.rowBytes) late hc hk)
    exact ⟨congrArg FChan.failed chan, (congrArg FChan.toMove chan).symm ▸ mem_addNew.2 (.inr rfl)⟩
  case committed =>
    have rows := applyRows_flashRows home t k.rows k.keys (batchPlaced t l k d s)
    rw [batchPlaced_rows] at rows
    have own : (k.rows.map (fun p => (t, p.1))).Nodup := by
      rw [← Function.comp_def (Prod.mk t) Prod.fst, ← List.map_map]
      exact distinct.map (Prod.mk_right_injective t)
    refine ⟨_, execFlashBatchCommit_commits batch table cool nonempty writable, ?_⟩
    rw [batchDone_flash, State.table, batchDone_fetch, rows, applyRows_batches, batchPlaced_batches, applyRows_tables, batchPlaced_fetch]
    refine ⟨fun p hp => kget_foldl_kset_of_mem (fun p => (t, p.1)) Prod.snd k.rows own hp _,
      fun q other => kget_foldl_kset_of_ne (fun p => (t, p.1)) Prod.snd k.rows (fun p _ same => other (congrArg Prod.fst same).symm) _, rfl, ?_, ?_⟩
    · rw [mget_mmod, if_pos rfl, show mget s.fetch.tables t = _ from table]
      rfl
    · simp

end Sys2Proof.Machine
end

section
/-! SUPPORT. The fabric (14): what a packet, a record or an answer that the module sends leaves of it, what a port's queue sends, and how a
packet that arrives reaches what performs it. -/

namespace Sys2Proof.Machine

variable {s t : State} {b k port i : Nat} {p : Pkt}

/-! An injection changes of the fabric the injection queue and the tracking of one bridge (14 R370, R383). -/

/-- A bridge without what an injection changes of it. -/
def Bridge.settled (x : Bridge) : Bridge := { x with injq := [], nextTag := 0, tracked := [], fenced := [] }

/-- The fabric without what injections change of it. -/
def Fab.settled (f : Fab) : Fab := { f with bridges := f.bridges.map Bridge.settled }

theorem map_modify_fixed {α β : Type} {g : α → β} {f : α → α} (h : ∀ x, g (f x) = g x) (l : List α) (i : Nat) : (l.modify i f).map g = l.map g := by
  induction l generalizing i with
  | nil => cases i <;> rfl
  | cons x l ih => cases i <;> simp [h, ih]

/-- A position of a list after an update of one, inside the list or not. -/
theorem nth_modify_or {α : Type} [Inhabited α] (l : List α) (i j : Nat) (f : α → α) :
    nth (l.modify i f) j = nth l j ∨ nth (l.modify i f) j = f (nth l j) := by
  by_cases same : j = i
  · subst same
    by_cases here : j < l.length
    · exact .inr (nth_modify_self f here)
    · exact .inl (congrArg (nth · j) (List.modify_eq_self (Nat.le_of_not_lt here)))
  · exact .inl (nth_modify_of_ne l f same)

theorem modBridge_settled {f : Bridge → Bridge} (h : ∀ x, (f x).settled = x.settled) (s : State) (b : Nat) :
    (s.modBridge b f).fab.settled = s.fab.settled :=
  congrArg (fun l => { s.fab with bridges := l }) (map_modify_fixed h s.fab.bridges b)

theorem inject_settled (b : Nat) (p : Pkt) (owner arg : Nat) (s : State) : (inject b p owner arg s).fab.settled = s.fab.settled := by
  unfold inject
  split
  · rfl
  · dsimp only
    split
    · refine modBridge_settled ?_ s b
      exact fun _ => rfl
    · refine modBridge_settled ?_ s b
      exact fun _ => rfl

theorem answer_settled (b : Nat) (p : Pkt) (c : Code) (data : List Byte) (s : State) : (answer b p c data s).fab.settled = s.fab.settled := by
  unfold answer
  split
  · exact inject_settled ..
  · rfl

/-- The delivery of a message injects only for a channel of the fabric's peers (15 R414). -/
theorem deliver_fab_of_rcv {n : Nat} (h : (s.chan n).rcv ≠ .fabricPeer) : (deliver n s).fab = s.fab := by
  unfold deliver
  dsimp only
  split
  · rfl
  · exact (keeps_deliverHost n s (List.Subset.refl _)).2 Keeps.rfl' .fab (by decide)
  · split <;> rfl
  · next peer => exact absurd peer h

theorem deliver_settled (n : Nat) (s : State) : (deliver n s).fab.settled = s.fab.settled := by
  by_cases h : (s.chan n).rcv = .fabricPeer
  · simp only [deliver, h]
    exact inject_settled ..
  · rw [deliver_fab_of_rcv h]

theorem mbxWrite_settled (n : Nat) (msg : List Byte) (sid : Nat) (s : State) : (mbxWrite n msg sid s).2.fab.settled = s.fab.settled := by
  unfold mbxWrite
  split
  · exact deliver_settled ..
  · rfl

theorem mbxWrite_fab_of_rcv {n : Nat} (h : (s.chan n).rcv ≠ .fabricPeer) (msg : List Byte) (sid : Nat) : (mbxWrite n msg sid s).2.fab = s.fab := by
  unfold mbxWrite
  split
  · refine deliver_fab_of_rcv ?_
    rwa [State.chan, State.setChan, State.modMbx_mbx, mget_mset_self]
  · rfl

/-- An error record changes nothing of the fabric, or what its message on the event channel changes (17 R472). -/
theorem errRecord_fab_cases (x : Rec) (s : State) : (errRecord x s).fab = s.fab
    ∨ ∃ u msg, u.fab = s.fab ∧ u.mbx = s.mbx ∧ (errRecord x s).fab = (mbxWrite (eventChan s) msg 0x7000 u).2.fab := by
  have logged (n : Nat) : (errRecord.go x s n).fab = s.fab
      ∨ ∃ u msg, u.fab = s.fab ∧ u.mbx = s.mbx ∧ (errRecord.go x s n).fab = (mbxWrite (eventChan s) msg 0x7000 u).2.fab := by
    unfold errRecord.go
    dsimp only
    rw [attnSettle_fab]
    simp only [apply_ite State.fab, State.modGw_fab, ite_self]
    split
    · left
      split <;> rfl
    · exact .inr ⟨_, _, by rfl, by rfl, rfl⟩
  unfold errRecord
  dsimp only
  split
  · split
    · exact .inl rfl
    · exact logged _
  · exact logged _

theorem errRecord_settled (x : Rec) (s : State) : (errRecord x s).fab.settled = s.fab.settled := by
  rcases errRecord_fab_cases x s with e | ⟨u, msg, fab, -, e⟩
  · rw [e]
  · rw [e, mbxWrite_settled, fab]

theorem errRecord_fab_of_rcv (h : (s.chan (eventChan s)).rcv ≠ .fabricPeer) (x : Rec) : (errRecord x s).fab = s.fab := by
  rcases errRecord_fab_cases x s with e | ⟨u, msg, fab, mbx, e⟩
  · exact e
  · rw [e, mbxWrite_fab_of_rcv, fab]
    rwa [State.chan, mbx]

theorem writeReply_settled (rchan : Nat) (msg : List Byte) (s : State) : (writeReply rchan msg s).fab.settled = s.fab.settled := by
  have w := mbxWrite_settled rchan msg (gwStamp s) s
  unfold writeReply
  split
  · rfl
  · split
    · rfl
    · next e => rwa [e] at w

theorem finish_settled (op : Nat) (h : CmdHdr) (mseq : Nat) (c : Code) (inline data : List Byte) (s : State) :
    (finish op h mseq c inline data s).fab.settled = s.fab.settled := by
  unfold finish
  dsimp only
  rw [mbxAck_fab, State.modGw_fab, writeReply_settled]
  split <;> rfl

theorem completeCmd_settled (k : Cmd) (c : Code) (inline data : List Byte) (s : State) : (completeCmd k c inline data s).fab.settled = s.fab.settled := by
  unfold completeCmd
  dsimp only
  rw [finish_settled, State.modGw_fab]

theorem completeWait_settled (w a : Nat) (c : Code) (inline data : List Byte) (s : State) :
    (completeWait w a c inline data s).fab.settled = s.fab.settled :=
  each_fixed _ (fun u => u.fab.settled) (fun k u => completeCmd_settled k c inline data u) s

theorem bridge_of_settled (h : t.fab.settled = s.fab.settled) (k : Nat) : (t.bridge k).settled = (s.bridge k).settled := by
  have e : nth (t.fab.bridges.map Bridge.settled) k = nth (s.fab.bridges.map Bridge.settled) k := congrArg (fun f : Fab => nth f.bridges k) h
  rwa [nth_map_of_default rfl, nth_map_of_default rfl] at e

theorem port_of_settled (h : t.fab.settled = s.fab.settled) (k : Nat) : t.port k = s.port k := by
  have e : t.fab.settled.ports = s.fab.settled.ports := congrArg Fab.ports h
  exact port_of_ports e k

theorem binding_of_settled (h : t.fab.settled = s.fab.settled) (n : Nat) : t.binding n = s.binding n := by
  have e : t.fab.settled.bindings = s.fab.settled.bindings := congrArg Fab.bindings h
  exact congrArg (mget · n) e

theorem binding_modBinding_self (s : State) (n : Nat) (f : Binding → Binding) : (s.modBinding n f).binding n = (s.binding n).map f :=
  (mget_mmod s.fab.bindings n n f).trans (if_pos rfl)

/-! What is injected last: a packet that is not held, stamped (14 R370, R372, R383). -/

theorem bridge_modBridge_self (h : b < s.fab.bridges.length) (f : Bridge → Bridge) : (s.modBridge b f).bridge b = f (s.bridge b) :=
  nth_modify_self f h

theorem inject_last_of_free {owner arg : Nat} (assigned : s.fab.epBase ≠ none) (here : b < s.fab.bridges.length)
    (free : mustHold (s.bridge b) p = false) : lastInj (inject b p owner arg s) b = some (stampPkt (s.bridge b) p) := by
  unfold inject lastInj
  rw [if_neg assigned]
  dsimp only
  rw [if_neg (by rw [free]; decide), bridge_modBridge_self here, List.getLast?_concat]

/-- An answer is a response, and no response waits at injection (14 R383, Table 14.4). -/
theorem answerOf_isResponse (p : Pkt) (c : Code) (data : List Byte) : isRequest (answerOf p c data).type = false := by
  unfold answerOf
  dsimp only
  split <;> rfl

theorem answer_last {c : Code} {data : List Byte} (assigned : s.fab.epBase ≠ none) (here : b < s.fab.bridges.length)
    (request : isRequest p.type = true) :
    lastInj (answer b p c data s) b = some { answerOf p c data with epoch := (s.bridge b).act, ttl := 32 } := by
  have response := answerOf_isResponse p c data
  unfold answer
  rw [if_pos request, inject_last_of_free assigned here (by simp [mustHold, response]), stampPkt]
  simp [response]

theorem answered_answer {c : Code} {data : List Byte} (assigned : s.fab.epBase ≠ none) (here : b < s.fab.bridges.length)
    (request : isRequest p.type = true) (ack : p.type ≠ 2) : answered (answer b p c data s) b = some (4, c.val, p.src, p.tag) := by
  rw [answered, answer_last assigned here request, Option.map_some, answerOf, if_neg ack]

/-! The output queue of a port (14 R365, R385, R386). -/

theorem port_modPort_or (s : State) (p k : Nat) (f : Port → Port) : (s.modPort p f).port k = s.port k ∨ (s.modPort p f).port k = f (s.port k) :=
  nth_modify_or ..

theorem bridge_modBridge_or (s : State) (b k : Nat) (f : Bridge → Bridge) :
    (s.modBridge b f).bridge k = s.bridge k ∨ (s.modBridge b f).bridge k = f (s.bridge k) := nth_modify_or ..

theorem syncInflight_bridge (b k : Nat) (s : State) : ∃ n z, (syncInflight b s).bridge k = { s.bridge k with inflight := n, zeroSince := z } := by
  unfold syncInflight
  dsimp only
  rcases bridge_modBridge_or s b k _ with kept | counted
  · exact ⟨_, _, kept⟩
  · rw [counted]
    split
    · exact ⟨_, _, rfl⟩
    · exact ⟨_, _, rfl⟩

theorem drainGo_of_empty (n : Nat) (empty : (s.port port).txq = []) : drainGo n port s = s := by
  cases n with
  | zero => rfl
  | succ n =>
    unfold drainGo
    dsimp only
    rw [empty]

theorem drainPort_of_empty (empty : (s.port port).txq = []) : drainPort port s = syncInflight (portBridge port) s := by
  rw [drainPort, drainGo_of_empty _ empty]

/-- A port that holds the credits of the only packet it queues sends it. -/
theorem drainPort_out_of_single (here : port < s.fab.ports.length) (queue : (s.port port).txq = [p]) (live : portLive (s.port port).st = true)
    (credits : pktCredits p ≤ nth (s.port port).credTx (vcOf p.type)) : (drainPort port s).out = .forward port p :: s.out := by
  have go : portLive (s.port port).st && decide (pktCredits p ≤ nth (s.port port).credTx (vcOf p.type)) := by simp [live, credits]
  rw [drainPort, queue]
  change (drainGo 2 port s).out = _
  unfold drainGo
  dsimp only
  rw [queue]
  dsimp only
  rw [if_pos go, drainGo_of_empty]
  · rfl
  · exact congrArg Port.txq (port_modPort_self _ here)

/-! The arrival of a packet at a live port (14 R370, R371, R374). -/

/-- The packet under another type. -/
abbrev typed (n : Nat) (p : Pkt) : Pkt := { p with type := n }

/-- The state with other ports. -/
abbrev State.withPorts (s : State) (l : List Port) : State := s.modFab (fun f => { f with ports := l })

theorem freeCredit_eq (port : Nat) (p : Pkt) (s : State) : ∃ l, freeCredit port p s = s.withPorts l := by
  unfold freeCredit
  split
  · exact ⟨_, rfl⟩
  · exact ⟨s.fab.ports, rfl⟩

/-- What performs a whole packet for endpoint i of this module, by the packet's type (14, Table 14.4). -/
def served (port b i : Nat) (p : Pkt) (s : State) : State :=
  match p.type with
  | 1 | 2 => windowReq (performer b i) i p s
  | 3 | 4 => responseIn b p s
  | 5 => doorbellPkt (performer b i) i p s
  | 6 => fetchPkt port (performer b i) i p s
  | 7 => msgPkt port b p s
  | 8 => tokenPkt port b i p s
  | 9 => poisonPkt port (performer b i) p s
  | _ => witrecPkt port b i p s

theorem deliverPkt_served (whole : pktFault p = none) (fitted : i = 15 → hasWitness s = true) (works : bridgeUp s (performer b i) = true) :
    deliverPkt port b i p s = served port b i p s := by
  unfold deliverPkt served
  dsimp only
  rw [whole]
  dsimp only
  exact (if_neg (fun c => by simp [fitted c.1] at c)).trans (if_neg (by simp [works]))

theorem arrive_served (live : portLive (s.port port).st = true) (dst : epIndex s p.dst = some i)
    (stays : mustStay s (performer (portBridge port) i) i p = false) (whole : pktFault p = none) (fitted : i = 15 → hasWitness s = true)
    (works : bridgeUp s (performer (portBridge port) i) = true) :
    ∃ l, arrive port p s = .next (served port (portBridge port) i p (s.withPorts l)) := by
  obtain ⟨l, freed⟩ := freeCredit_eq port p s
  refine ⟨l, ?_⟩
  unfold arrive
  dsimp only
  rw [if_neg (by simp [live]), dst]
  dsimp only
  rw [if_neg (by simp [stays]), freed]
  exact congrArg Host.Outcome.next (deliverPkt_served whole fitted works)

/-- Only a WRITE can stay in the port's receive buffer (17 R465). -/
theorem mustStay_of_type (h : p.type ≠ 1) : mustStay s b i p = false := by
  simp [mustStay, h]

theorem assigned_of_epIndex {dst : Nat} (h : epIndex s dst = some i) : s.fab.epBase ≠ none := by
  intro e
  simp [epIndex, e] at h

theorem arrive_atEndpoint (h : AtEndpoint s port i p) (type : p.type ≠ 1) :
    ∃ l, arrive port p s = .next (served port (portBridge port) i p (s.withPorts l)) := by
  obtain ⟨-, -, live, dst, fitted, whole, works⟩ := h
  exact arrive_served live dst (mustStay_of_type type) whole fitted works

theorem portBridge_lt (h : port < 12) : portBridge port < 2 := by
  unfold portBridge
  omega

theorem performer_lt (h : b < 2) (i : Nat) : performer b i < 2 := by
  unfold performer
  split
  · decide
  · split
    · decide
    · exact h

theorem portBridge_lt_of_atEndpoint (h : AtEndpoint s port i p) : portBridge port < 2 := portBridge_lt h.1

theorem lt_bridges_of_atEndpoint (h : AtEndpoint s port i p) (two : k < 2) : k < s.fab.bridges.length := by
  obtain ⟨-, length, -⟩ := h
  omega

/-- What the answer says to a request that arrived for an endpoint, from a state whose bridges and EPBASE are as at the arrival. -/
theorem answered_atEndpoint {n : Nat} {c : Code} (h : AtEndpoint s port i (typed n p)) (base : t.fab.epBase = s.fab.epBase)
    (bridges : t.fab.bridges = s.fab.bridges) (two : k < 2) (request : isRequest n = true) (ack : n ≠ 2) :
    answered (answer k (typed n p) c [] t) k = some (4, c.val, p.src, p.tag) := by
  have here := lt_bridges_of_atEndpoint h two
  obtain ⟨-, -, -, dst, -⟩ := h
  exact answered_answer (base ▸ assigned_of_epIndex dst) (bridges ▸ here) request ack

theorem arrive_of_not_live (h : portLive (s.port port).st = false) (p : Pkt) : arrive port p s = .next s := if_pos h

end Sys2Proof.Machine
end

section
/-! PROOFS. Frames, control flits and stalls (14 R362 to R365, R378, R385). -/

namespace Sys2Proof.Machine

variable {s : State} {p ack : Nat} {cs : List Nat} {x : Pkt} {q : Port}

/-- What a control flit leaves of a port, before its queue moves on (14 R364, R365, R385). -/
def flitTaken (ack : Nat) (nak : Bool) (cs : List Nat) (q : Port) : Port := keepReplay (ackFlits ack nak (addCredits cs q))

theorem flitTaken_txq (ack : Nat) (cs : List Nat) (q : Port) : (flitTaken ack false cs q).txq = q.txq := by
  unfold flitTaken keepReplay ackFlits addCredits
  split <;> rfl

theorem flitTaken_replayRow_le (few : q.replayRow ≤ 8) (ack : Nat) (cs : List Nat) : (flitTaken ack false cs q).replayRow ≤ 8 := by
  have row : (addCredits cs q).replayRow = q.replayRow := by
    unfold addCredits
    split <;> rfl
  change (if ack == (addCredits cs q).txAcked then (addCredits cs q).replayRow else 0) ≤ 8
  split
  · omega
  · decide

theorem flitTaken_credits (four : cs.length = 4) (held : q.credTx.length = 4) :
    (flitTaken ack false cs q).txAcked = ack ∧ (flitTaken ack false cs q).credSeen = cs.map (· % 2 ^ 24)
      ∧ ∀ i, i < 4 → nth (flitTaken ack false cs q).credTx i = nth q.credTx i + (nth cs i + 2 ^ 24 - nth q.credSeen i) % 2 ^ 24 := by
  unfold flitTaken keepReplay ackFlits addCredits
  rw [if_pos four]
  exact ⟨rfl, rfl, fun i hi => nth_mapIdx _ (held ▸ hi)⟩

/-- Where nothing is queued, a control flit without NAK and lane command acknowledges and adds credits, and nothing leaves. -/
theorem execFabricControlFlit_acks (here : p < s.fab.ports.length) (live : portLive (s.port p).st = true) (empty : (s.port p).txq = [])
    (few : (s.port p).replayRow ≤ 8) :
    execFabricControlFlit p ack false cs 0 0 s = .next (syncInflight (portBridge p) (s.modPort p (flitTaken ack false cs))) := by
  have port := port_modPort_self (flitTaken ack false cs) here
  have row := flitTaken_replayRow_le few ack cs
  rw [← port] at row
  have quiet : ((s.modPort p (flitTaken ack false cs)).port p).txq = [] := by rw [port, flitTaken_txq, empty]
  unfold execFabricControlFlit
  rw [if_neg (by simp [live])]
  refine (if_neg (Nat.not_lt.2 row)).trans ((if_neg (fun c => c.1 rfl)).trans ?_)
  exact congrArg Host.Outcome.next (drainPort_of_empty quiet)

/-- The ninth replay of one flit in a row takes the port out (14 R365). -/
theorem execFabricControlFlit_replayed (here : p < s.fab.ports.length) (live : portLive (s.port p).st = true) (eight : (s.port p).replayRow = 8) :
    execFabricControlFlit p (s.port p).txAcked true [] 0 0 s = .next (portLoss p (s.modPort p (flitTaken (s.port p).txAcked true []))) := by
  unfold execFabricControlFlit
  rw [if_neg (by simp [live])]
  refine if_pos ?_
  rw [port_modPort_self _ here]
  simp [keepReplay, ackFlits, addCredits, eight]

/-- The record of a discard leaves of every port all but the tick of its last discard record (14 R374). -/
theorem discardRecord_port (port b : Nat) (c : Code) (p : Pkt) (s : State) (k : Nat) :
    ∃ d, (discardRecord port b c p s).port k = { s.port k with lastDiscardTb := d } := by
  unfold discardRecord
  split
  · split
    · exact ⟨_, rfl⟩
    · rw [port_of_ports (errRecord_ports ..)]
      rcases port_modPort_or s port k _ with kept | stamped
      · exact ⟨_, kept⟩
      · exact ⟨_, stamped⟩
  · exact ⟨_, port_of_ports (errRecord_ports ..) k⟩

/-- What a stalled head leaves of its port, alone in the queue (14 R378). -/
def headGone (tb : Nat) (x : Pkt) (q : Port) : Port := { q with txq := [], headSince := tb, depth := q.depth - pktBytes x }

/-- A packet that waited 2 ms for credit, alone in its queue, leaves it. -/
theorem execFabStallExpiry_due (here : p < s.fab.ports.length) (queue : (s.port p).txq = [x]) (due : (s.port p).headSince + 100000 ≤ s.tb) :
    ∃ t d, execFabStallExpiry p s = .next t ∧ t.port p = { headGone s.tb x (s.port p) with lastDiscardTb := d } := by
  obtain ⟨d, port⟩ := discardRecord_port p (portBridge p) .fabStall x (s.modPort p (headGone s.tb x)) p
  rw [port_modPort_self _ here] at port
  have answered := (port_of_ports (answer_ports (portBridge p) x .fabStall [] _) p).trans port
  refine ⟨syncInflight (portBridge p) _, d, ?_, answered⟩
  unfold execFabStallExpiry
  dsimp only
  rw [queue]
  refine (if_neg (Nat.not_lt.2 due)).trans (congrArg Host.Outcome.next (drainPort_of_empty ?_))
  exact congrArg Port.txq answered

theorem execFabStallExpiry_early (early : s.tb < (s.port p).headSince + 100000) : execFabStallExpiry p s = .next s := by
  unfold execFabStallExpiry
  dsimp only
  split
  · rfl
  · exact if_pos early

/-- Settles O33: each command updates its own port, and what a discard records or answers leaves the port's queue as it is. -/
theorem framesFlitsAndStalls : Obligations.FramesFlitsAndStalls := by
  refine ⟨fun s p c q here live next => ?good, fun s p c l here live => ?bad, fun s p c ok l dead => if_pos dead,
    fun s p ack cs here live empty four few held => ?acked, fun s p here live eight => ?replayed, fun s p x here queue due => ?stalled,
    fun s p early => execFabStallExpiry_early early⟩
  case good =>
    subst next
    have taken : takeFlit { s.port p with winCsym := (s.port p).winCsym + c } (s.port p).rxSeq = _ := if_pos rfl
    have port := (port_modPort_self (fun q => [(s.port p).rxSeq].foldl takeFlit { q with winCsym := q.winCsym + c }) here).trans taken
    refine ⟨_, (if_neg (by simp [live])).trans (if_pos rfl), congrArg Port.rxSeq port, congrArg Port.winCsym port, ?_,
      fun k other => port_modPort_of_ne _ other, by simp [sendFlit]⟩
    rw [sendFlit, port]
    rfl
  case bad =>
    have port := port_modPort_self (fun q => { q with rxDiscarding := true }) here
    refine ⟨_, (if_neg (by simp [live])).trans (if_neg Bool.false_ne_true), port, ?_, by simp [sendFlit]⟩
    rw [sendFlit, port]
    rfl
  case acked =>
    have port := port_modPort_self (flitTaken ack false cs) here
    refine ⟨_, execFabricControlFlit_acks here live empty few, ?_⟩
    rw [show (syncInflight (portBridge p) (s.modPort p (flitTaken ack false cs))).port p = _ from port]
    obtain ⟨acked, seen, added⟩ := flitTaken_credits (ack := ack) four held
    exact ⟨acked, seen, added, by simp⟩
  case replayed =>
    refine ⟨_, execFabricControlFlit_replayed here live eight, ?_⟩
    exact congrArg Port.st (portLoss_port_self (by simpa [State.modPort] using here))
  case stalled =>
    obtain ⟨t, d, run, port⟩ := execFabStallExpiry_due here queue due
    exact ⟨t, run, by rw [port]; rfl, by rw [port]; rfl⟩

end Sys2Proof.Machine
end

section
/-! PROOFS. Lanes (14 R366 to R369). -/

namespace Sys2Proof.Machine

variable {s : State} {p l : Nat} {x : Test}

/-- A measurement that ends as LASTING ends the lane's test, and no lane command is sent (14 R367; 17 R477). -/
theorem execLaneQualificationEnd_lasting (lane : (s.port p).outLane = some l) (due : (s.port p).outAt + 780000000 ≤ s.tb)
    (live : portLive (s.port p).st = true) (free : (s.port p).swapTx = none) (test : s.test (uLane p l) = some x)
    (lasting : (testOutcome x true s).1 = .lasting) :
    execLaneQualificationEnd p true s
      = .next (completeWait wRecover (uLane p l) .ok [] [] (endTest x .lasting (testOutcome x true s).2)) := by
  unfold execLaneQualificationEnd
  dsimp only
  rw [lane]
  refine (if_neg (by simp [Nat.not_lt.2 due, live, free])).trans ?_
  rw [test, Option.getD_some]
  generalize testOutcome x true s = r at lasting ⊢
  obtain ⟨o, u⟩ := r
  obtain rfl : o = .lasting := lasting
  rfl

/-- Lane 7 of port 0 has passed its measurement twice within the last 2^32 ticks, and the third one ends; the test was started by record 1. -/
def thirdPass : State := { State.reset with
  clk := { State.reset.clk with tb := 2340000000 }
  fab := { State.reset.fab with ports := [{ st := .upSpare, laneOk := 0x1FF, spared := some 7, outLane := some 7, outAt := 1560000000 }] }
  gw := { State.reset.gw with tests := [{ unit := uLane 0 7, recNo := 1 }], passes := [(uLane 0 7, [780000000, 1560000000])] } }

/-- The third pass of a lane in 2^32 ticks ends the measurement without a RETURN (17 R477). -/
theorem thirdPass_silent : Runs (fun t => (t.port 0).swapTx = none) (execLaneQualificationEnd 0 true thirdPass) :=
  ⟨_, execLaneQualificationEnd_lasting (x := { unit := uLane 0 7, recNo := 1 }) (l := 7) rfl (by decide) (by decide) rfl (by decide) (by decide),
    by decide +kernel⟩

/-- Refutes O34: the third pass of a lane in 2^32 ticks is LASTING (17 R477): the lane stays out, and no RETURN is sent. -/
theorem not_lanesSwapAndReturn : ¬ Obligations.LanesSwapAndReturn := by
  rintro ⟨-, -, -, -, -, -, -, qualified, -⟩
  obtain ⟨t, run, returned⟩ := qualified thirdPass 0 7 (by decide) rfl (by decide) (by decide) rfl
  obtain ⟨u, ran, silent⟩ := thirdPass_silent
  obtain rfl : t = u := Host.Outcome.next.inj (run.symm.trans ran)
  exact absurd (silent.symm.trans returned) (by decide)

end Sys2Proof.Machine
end

section
/-! PROOFS. Packets at a bridge (14 R374, R376, R377, R387, R388; 11 R291). -/

namespace Sys2Proof.Machine

variable {s t : State} {port b c i a k : Nat} {p : Pkt}

/-! A WRITE or READ_REQ at its window (14 R388). -/

theorem touchMem_eq (a : Nat) (s : State) : ∃ l, touchMem a s = s.modPower (fun w => { w with halves := l }) := by
  unfold touchMem
  split
  · split
    · exact ⟨_, rfl⟩
    · exact ⟨s.power.halves, rfl⟩
  · exact ⟨s.power.halves, rfl⟩

theorem accessCode_halves (l : List Half) (wr : Bool) (a n : Nat) :
    accessCode (s.modPower (fun w => { w with halves := l })) wr a n = accessCode s wr a n :=
  accessCode_congr rfl rfl rfl (fun _ => ⟨rfl, rfl, rfl⟩) wr a n

theorem memPerform_write (type : p.type = 1) (ok : accessCode s true a p.len = .ok) :
    ∃ l, memPerform b p a s = answer b p .ok [] (memWrite (s.modPower (fun w => { w with halves := l })) a p.data) := by
  obtain ⟨l, touched⟩ := touchMem_eq a s
  refine ⟨l, ?_⟩
  unfold memPerform
  dsimp only
  rw [touched, accessCode_halves, type, show accessCode s (1 == 1) a p.len = .ok from ok]
  rfl

theorem memPerform_read (type : p.type = 2) (ok : accessCode s false a p.len = .ok) :
    ∃ l, memPerform b p a s = answer b p .ok (memRead s a p.len) (s.modPower (fun w => { w with halves := l })) := by
  obtain ⟨l, touched⟩ := touchMem_eq a s
  refine ⟨l, ?_⟩
  unfold memPerform
  dsimp only
  rw [touched, accessCode_halves, type, show accessCode s (2 == 1) a p.len = .ok from ok]
  rfl

theorem windowReq_admitted (ok : winCheck s p.win p.wepoch (some i) p.src (p.type == 1) p.offset p.len = .ok) :
    windowReq b i p s = windowGo b i p s := by
  rw [windowReq, ok]

theorem windowReq_refused {c : Code} (checked : winCheck s p.win p.wepoch (some i) p.src (p.type == 1) p.offset p.len = c) (bad : c ≠ .ok) :
    windowReq b i p s = answer b p c [] s := by
  rw [windowReq, checked]
  cases c
  case ok => exact absurd rfl bad
  all_goals rfl

theorem windowGo_plain (memory : 12 ≤ i) (plain : (p.prov && p.type == 1) = false) : windowGo b i p s = memPerform b p (pktAddr s p) s :=
  (if_neg (Nat.not_lt.2 memory)).trans (if_neg (by simp [plain]))

/-! Forwarding (14 R376, R377). -/

theorem freeCredit_port (port : Nat) (p : Pkt) (s : State) (k : Nat) : ∃ l, (freeCredit port p s).port k = { s.port k with credFreed := l } := by
  unfold freeCredit
  split
  · rcases port_modPort_or s port k _ with kept | freed
    · exact ⟨_, kept⟩
    · exact ⟨_, freed⟩
  · exact ⟨_, rfl⟩

theorem routeOf_congr (bridge : t.bridge b = s.bridge b) (live : ∀ k, portLive (t.port k).st = portLive (s.port k).st) (p : Pkt) :
    routeOf t b p = routeOf s b p := by
  have codes : codeLive t b = codeLive s b := funext fun c => by rw [codeLive, live, codeLive]
  rw [routeOf, bridge, codes, routeOf]

theorem routeOf_freeCredit (b port : Nat) (p : Pkt) (s : State) : routeOf (freeCredit port p s) b p = routeOf s b p := by
  refine routeOf_congr ?_ (fun k => ?_) p
  · obtain ⟨l, freed⟩ := freeCredit_eq port p s
    rw [freed]
    rfl
  · obtain ⟨l, freed⟩ := freeCredit_port port p s k
    rw [freed]

theorem freeCredit_out (port : Nat) (p : Pkt) (s : State) : (freeCredit port p s).out = s.out := by
  obtain ⟨l, freed⟩ := freeCredit_eq port p s
  rw [freed]
  rfl

theorem freeCredit_ports_length (port : Nat) (p : Pkt) (s : State) : (freeCredit port p s).fab.ports.length = s.fab.ports.length := by
  unfold freeCredit
  split
  · exact List.length_modify ..
  · rfl

theorem forwardPkt_enqueues {n inPort : Nat} (route : routeOf s b p = some c) (code : c < 6) (hops : 1 < p.ttl) :
    forwardPkt (n + 1) inPort b p s = enqueue (6 * b + c) { p with ttl := p.ttl - 1 } s := by
  unfold forwardPkt
  rw [route]
  split
  · next e => cases e
  · next e => cases e; omega
  · next e =>
    cases e
    exact if_neg (Nat.not_le.2 hops)

theorem forwardPkt_expired {n inPort : Nat} (route : routeOf s b p = some c) (code : c < 6) (spent : p.ttl ≤ 1) :
    forwardPkt (n + 1) inPort b p s = answer b p .ttlExpired [] (discardRecord inPort b .ttlExpired p s) := by
  unfold forwardPkt
  rw [route]
  split
  · next e => cases e
  · next e => cases e; omega
  · next e =>
    cases e
    exact if_pos spent

/-- A port whose queue has taken in a packet (14 R386). -/
def queued (tb : Nat) (p : Pkt) (q : Port) : Port :=
  { q with txq := q.txq ++ [p], headSince := if q.txq.isEmpty then tb else q.headSince, depth := q.depth + pktBytes p }

theorem enqueue_out_of_empty (here : port < s.fab.ports.length) (empty : (s.port port).txq = []) (live : portLive (s.port port).st = true)
    (credits : pktCredits p ≤ nth (s.port port).credTx (vcOf p.type)) : (enqueue port p s).out = .forward port p :: s.out := by
  have taken : (s.modPort port (queued s.tb p)).port port = queued s.tb p (s.port port) := port_modPort_self _ here
  refine drainPort_out_of_single (s := s.modPort port (queued s.tb p)) ((List.length_modify ..).symm ▸ here) ?_ ?_ ?_
  · rw [taken, queued, empty]
    rfl
  · rw [taken]
    exact live
  · rw [taken]
    exact credits

theorem arrive_forwards {e : Nat} (live : portLive (s.port port).st = true) (assigned : s.fab.epBase = some e) (elsewhere : epIndex s p.dst = none)
    (whole : malformed p = false) : arrive port p s = .next (forwardPkt 3 port (portBridge port) p (freeCredit port p s)) := by
  unfold arrive
  dsimp only
  rw [if_neg (by simp [live]), elsewhere]
  dsimp only
  rw [if_neg (by simp [assigned]), if_neg (by simp [whole])]

theorem pktCredits_le (short : p.len ≤ 4096) : pktCredits p ≤ 65536 := by
  unfold pktCredits
  split <;> omega

theorem vcOf_lt (n : Nat) : vcOf n < 4 := by
  unfold vcOf
  split_ifs <;> decide

theorem execFabricWrite_window (live : portLive (s.port port).st = true) (dst : epIndex s p.dst = some i) (unit : i < 15)
    (stays : mustStay s (performer (portBridge port) i) i (typed 1 p) = false) (whole : pktFault (typed 1 p) = none)
    (works : bridgeUp s (performer (portBridge port) i) = true) :
    ∃ l, execFabricWrite port p s = .next (windowReq (performer (portBridge port) i) i (typed 1 p) (s.withPorts l)) :=
  arrive_served (p := typed 1 p) live dst stays whole (fun e => absurd e (Nat.ne_of_lt unit)) works

theorem execFabricReadReq_window (live : portLive (s.port port).st = true) (dst : epIndex s p.dst = some i) (unit : i < 15)
    (whole : pktFault (typed 2 p) = none) (works : bridgeUp s (performer (portBridge port) i) = true) :
    ∃ l, execFabricReadReq port p s = .next (windowReq (performer (portBridge port) i) i (typed 2 p) (s.withPorts l)) :=
  arrive_served (p := typed 2 p) live dst (mustStay_of_type (Nat.succ_ne_self 1)) whole (fun e => absurd e (Nat.ne_of_lt unit)) works

/-- Settles O35: a packet that arrives frees its credits and goes to its window, which answers it, hands it to its row or refuses it, or to
the queue of the port its route names. -/
theorem packetsPerformOrForward : Obligations.PacketsPerformOrForward := by
  refine ⟨fun s port i a p here two live dst lo hi whole works plain checked addr ok => ?write,
    fun s port i a p here two live dst lo hi whole works checked addr ok => ?read,
    fun s port i p c here two live dst hi whole works checked bad => ?refused,
    fun s port i p here row hrow live dst whole works checked => ?toRow,
    fun s port c p e here live assigned elsewhere whole route code hout lout empty credits hops short => ?forwarded,
    fun s port c p e here hin live assigned elsewhere whole route code spent => ?spent,
    fun s port p here dead => ⟨(if_pos here).trans (arrive_of_not_live dead p), arrive_of_not_live dead _⟩⟩
  case write =>
    have bridge := two.symm ▸ performer_lt (portBridge_lt here) i
    obtain ⟨l, run⟩ := execFabricWrite_window live dst hi (by simp [mustStay, plain]) whole works
    rw [windowReq_admitted (by exact checked), windowGo_plain lo (by simp [plain])] at run
    obtain ⟨h, done⟩ := memPerform_write (s := s.withPorts l) (b := performer (portBridge port) i) (p := typed 1 p) rfl (addr ▸ ok)
    subst addr
    refine ⟨_, run.trans (congrArg _ done), ?_, by simp [memWrite],
      (congrArg (Option.map _) (answer_last (by exact assigned_of_epIndex dst) (by exact bridge) rfl)).trans rfl⟩
    rw [answer_keeps _ _ _ _ _ .mem (by decide)]
    exact memWrite_mem_congr (by rfl) (by rfl) ..
  case read =>
    have bridge := two.symm ▸ performer_lt (portBridge_lt here) i
    obtain ⟨l, run⟩ := execFabricReadReq_window live dst hi whole works
    rw [windowReq_admitted (by exact checked), windowGo_plain lo (Bool.and_false _)] at run
    obtain ⟨h, done⟩ := memPerform_read (s := s.withPorts l) (b := performer (portBridge port) i) (p := typed 2 p) rfl (addr ▸ ok)
    subst addr
    exact ⟨_, run.trans (congrArg _ done), answer_keeps _ _ _ _ _ .mem (by decide), by simp,
      (congrArg (Option.map _) (answer_last (by exact assigned_of_epIndex dst) (by exact bridge) rfl)).trans rfl⟩
  case refused =>
    have bridge := two.symm ▸ performer_lt (portBridge_lt here) i
    obtain ⟨l, run⟩ := execFabricWrite_window live dst hi (by simp [mustStay, checked, bad]) whole works
    rw [windowReq_refused (by exact checked) bad] at run
    exact ⟨_, run, by simp, (congrArg (Option.map _) (answer_last (by exact assigned_of_epIndex dst) (by exact bridge) rfl)).trans rfl⟩
  case toRow =>
    have here : performer (portBridge port) i = portBridge port := by
      rw [performer, if_neg (Nat.ne_of_lt row), if_neg (by omega)]
    obtain ⟨l, run⟩ := execFabricWrite_window live dst (by omega) (by simp [mustStay, row]) whole (here.symm ▸ works)
    rw [windowReq_admitted (by exact checked), windowGo, if_pos row] at run
    refine ⟨_, run, ?_, by simp, (rowsBut_modRow _).2 (RowsBut.rfl'.of_rows rfl)⟩
    rw [row_modRow_self (by exact hrow)]
    simp [State.row]
  case forwarded =>
    obtain ⟨l, freed⟩ := freeCredit_port port p s (6 * portBridge port + c)
    have held : pktCredits p ≤ nth (s.port (6 * portBridge port + c)).credTx (vcOf p.type) :=
      (pktCredits_le short).trans (credits _ (vcOf_lt p.type))
    have queued := forwardPkt_enqueues (n := 2) (inPort := port) ((routeOf_freeCredit _ port p s).trans route) code hops
    refine ⟨_, (if_pos here).trans ((arrive_forwards live assigned elsewhere whole).trans (congrArg _ queued)), ?_, by simp⟩
    rw [enqueue_out_of_empty, freeCredit_out]
    · rwa [freeCredit_ports_length]
    · rw [freed]
      exact empty
    · rw [freed]
      exact lout
    · rw [freed]
      exact held
  case spent =>
    refine ⟨_, (if_pos here).trans (arrive_forwards live assigned elsewhere whole), fun k => ?_⟩
    obtain ⟨d, recorded⟩ := discardRecord_port port (portBridge port) .ttlExpired p (freeCredit port p s) k
    obtain ⟨l, freed⟩ := freeCredit_port port p s k
    rw [forwardPkt_expired ((routeOf_freeCredit ..).trans route) code spent, port_of_ports (answer_ports ..), recorded, freed]

end Sys2Proof.Machine
end

section
/-! PROOFS. Responses and timeouts of tracked requests (14 R383, R384, R393; 18 R484, R490). -/

namespace Sys2Proof.Machine

variable {s t : State} {port b c i n tag : Nat} {p : Pkt} {u : Tracked}

/-- A tracked request leaves its bridge (14 R383). -/
def untracked (c : Nat) (u : Tracked) (s : State) : State := s.modBridge c (fun x => { x with tracked := x.tracked.erase u })

theorem releaseFenced_of_none (unheld : (s.bridge b).fenced = []) : releaseFenced b s = s.modBridge b (fun x => { x with fenced := [] }) := by
  unfold releaseFenced
  dsimp only
  rw [unheld]
  rfl

/-- Where nothing waits at injection, a request that is over is erased, and its originator learns of it. -/
theorem releaseFenced_untracked (here : c < s.fab.bridges.length) (unheld : (s.bridge c).fenced = [])
    (same : t.fab.bridges = (untracked c u s).fab.bridges) :
    releaseFenced c t = t.modBridge c (fun x => { x with fenced := [] })
      ∧ ((releaseFenced c t).bridge c).tracked = (s.bridge c).tracked.erase u := by
  have bridge : t.bridge c = _ := (congrArg (nth · c) same).trans (bridge_modBridge_self here _)
  have released := releaseFenced_of_none (s := t) (b := c) (by rw [bridge]; exact unheld)
  refine ⟨released, ?_⟩
  have there : c < t.fab.bridges.length := by rw [same]; exact (List.length_modify ..).symm ▸ here
  rw [released, bridge_modBridge_self there, bridge]

/-- The answered request is tracked at the bridge that the response reached, or at the other. -/
theorem findTracked_lt (found : findTracked s b p = some (c, u)) (two : b < 2) : c < 2 := by
  obtain ⟨k, mem, hit⟩ := List.exists_of_findSome?_eq_some found
  obtain ⟨v, -, e⟩ := Option.map_eq_some_iff.1 hit
  obtain rfl : k = c := congrArg Prod.fst e
  rcases List.mem_pair.1 mem with rfl | rfl <;> omega

theorem responseIn_tracked (found : findTracked s b p = some (c, u)) :
    responseIn b p s = releaseFenced c (requestDone u p.status (untracked c u s)) := by
  unfold responseIn
  rw [found]
  rfl

/-- A response that no tracked request waits for is counted at its bridge (18 R490). -/
theorem responseIn_late (b : Nat) (p : Pkt) (unasked : findTracked s b p = none) (here : b < s.fab.bridges.length) :
    ((responseIn b p s).bridge b).lateCount = (s.bridge b).lateCount + 1 ∧ (responseIn b p s).mem = s.mem ∧ (responseIn b p s).rows = s.rows := by
  unfold responseIn
  rw [unasked]
  refine ⟨?_, errRecord_mem .., errRecord_rows ..⟩
  have kept (x : Rec) (t : State) : ((errRecord x t).bridge b).lateCount = (t.bridge b).lateCount :=
    have e := congrArg Bridge.lateCount (bridge_of_settled (errRecord_settled x t) b)
    e
  exact (kept ..).trans (congrArg Bridge.lateCount (bridge_modBridge_self here _))

theorem arrive_responds (h : AtEndpoint s port i (typed n p)) (response : n = 3 ∨ n = 4) :
    ∃ l, arrive port (typed n p) s = .next (responseIn (portBridge port) (typed n p) (s.withPorts l)) := by
  rcases response with rfl | rfl
  · exact arrive_atEndpoint h (by simp)
  · exact arrive_atEndpoint h (by simp)

theorem execFabRequestTimeout_due (found : (s.bridge b).tracked.find? (fun t => t.tag == tag && decide (t.tb + t.limit ≤ s.tb)) = some u) :
    execFabRequestTimeout b tag s = .next (releaseFenced b (requestDone u Code.fabTimeout.val
      (errRecord { code := .fabTimeout, unit := uBridge b, op := 0x0A, detail := u.dst + 0x10000 * u.src + 2 ^ 32 * u.tag } (untracked b u s)))) := by
  unfold execFabRequestTimeout
  rw [found]
  rfl

theorem execFabRequestTimeout_early (early : ∀ u ∈ (s.bridge b).tracked, s.tb < u.tb + u.limit) : execFabRequestTimeout b tag s = .next s := by
  have none : (s.bridge b).tracked.find? (fun t => t.tag == tag && decide (t.tb + t.limit ≤ s.tb)) = none :=
    List.find?_eq_none.2 (fun u mem => by simp [Nat.not_le.2 (early u mem)])
  unfold execFabRequestTimeout
  rw [none]

/-- What a binding keeps of the answer to one of its WRITEs (14 R393). -/
def sendAnswered (status : Nat) (x : Binding) : Binding :=
  { x with left := x.left - 1, badCode := if x.badCode = 0 then status else x.badCode }

theorem requestDone_send (send : u.owner = 0) (status : Nat) (s : State) : requestDone u status s = s.modBinding u.arg (sendAnswered status) := by
  rw [requestDone, send]
  rfl

/-- A request whose originator does not ask for its answer. -/
theorem requestDone_other (other : u.owner = 8) (status : Nat) (s : State) : requestDone u status s = s := by
  rw [requestDone, other]
  rfl

/-- Settles O36: a response or a timeout erases the request, tells its originator, and lets go what waited at injection, which is nothing. -/
theorem responsesCompleteRequests : Obligations.ResponsesCompleteRequests := by
  refine ⟨fun s port i c p u h found send unheld => ?ack, fun s port i c p u h found other unheld => ?data, fun s port i p h unasked => ?lateData,
    fun s port i p h unasked => ?lateAck, fun s b tag u here found other unheld event => ?timeout,
    fun s b tag early => execFabRequestTimeout_early early⟩
  case ack =>
    have here := lt_bridges_of_atEndpoint h (findTracked_lt found (portBridge_lt_of_atEndpoint h))
    obtain ⟨l, run⟩ := arrive_responds (n := 4) h (.inr rfl)
    rw [responseIn_tracked (c := c) (u := u) (by exact found), requestDone_send send] at run
    obtain ⟨released, erased⟩ := releaseFenced_untracked (s := s.withPorts l) (c := c) (u := u) (by exact here) (by exact unheld)
      (t := (untracked c u (s.withPorts l)).modBinding u.arg (sendAnswered p.status)) rfl
    refine ⟨_, run, erased, by simp [untracked], ?_⟩
    rw [released]
    exact binding_modBinding_self (untracked c u (s.withPorts l)) u.arg (sendAnswered p.status)
  case data =>
    have here := lt_bridges_of_atEndpoint h (findTracked_lt found (portBridge_lt_of_atEndpoint h))
    obtain ⟨l, run⟩ := arrive_responds (n := 3) h (.inl rfl)
    rw [responseIn_tracked (c := c) (u := u) (by exact found), requestDone_other other] at run
    exact ⟨_, run, (releaseFenced_untracked (s := s.withPorts l) (by exact here) (by exact unheld) rfl).2, by simp [untracked]⟩
  case lateData =>
    have here := lt_bridges_of_atEndpoint h (portBridge_lt_of_atEndpoint h)
    obtain ⟨l, run⟩ := arrive_responds (n := 3) h (.inl rfl)
    exact ⟨_, run, responseIn_late (s := s.withPorts l) _ _ unasked here⟩
  case lateAck =>
    have here := lt_bridges_of_atEndpoint h (portBridge_lt_of_atEndpoint h)
    obtain ⟨l, run⟩ := arrive_responds (n := 4) h (.inr rfl)
    exact ⟨_, run, responseIn_late (s := s.withPorts l) _ _ unasked here⟩
  case timeout =>
    refine ⟨_, execFabRequestTimeout_due found, ?_⟩
    rw [requestDone_other other]
    have same (x : Rec) : (errRecord x (untracked b u s)).fab.bridges = (untracked b u s).fab.bridges :=
      congrArg Fab.bridges (errRecord_fab_of_rcv (by exact event) x)
    obtain ⟨released, erased⟩ := releaseFenced_untracked here unheld (same _)
    exact ⟨erased, by rw [released]; exact errRecord_rows .., by rw [released]; exact errRecord_mem ..⟩

end Sys2Proof.Machine
end

section
/-! PROOFS. Requests for this module's services (14 R394, R395; 15 R416; 17 R465; 19 R530, R532; 20 R534). -/

namespace Sys2Proof.Machine

variable {s t : State} {port b i k : Nat} {p : Pkt} {c : Code}

/-! FETCH (14 R394). -/

theorem fetchPkt_full (bridge : i = 12 ∨ i = 13) (full : 64 ≤ countIf (fun c => !c.isLocal) (s.fetchU b).queue) :
    fetchPkt port b i p s = answer b p .fabQueueFull [] s := by
  rw [fetchPkt, if_neg (by omega), if_pos full]

theorem fetchPkt_queued (bridge : i = 12 ∨ i = 13) (room : countIf (fun c => !c.isLocal) (s.fetchU b).queue < 64) :
    ∃ f : FetchCmd, f.src = p.src + 1 ∧ f.entries = p.data.drop 64
      ∧ fetchPkt port b i p s = answer b p .ok [] (s.modFetchU b (fun u => { u with queue := u.queue ++ [f] })) := by
  rw [fetchPkt, if_neg (by omega), if_neg (Nat.not_le.2 room)]
  exact ⟨_, rfl, rfl, rfl⟩

theorem performer_bridge (bridge : i = 12 ∨ i = 13) (b : Nat) : performer b i = i - 12 := by
  rcases bridge with rfl | rfl <;> rfl

theorem execFabricFetch_arrives (h : AtEndpoint s port i (typed 6 p)) (bridge : i = 12 ∨ i = 13) :
    ∃ l, execFabricFetch port p s = .next (fetchPkt port (i - 12) i (typed 6 p) (s.withPorts l)) := by
  obtain ⟨l, run⟩ := arrive_atEndpoint h (by simp)
  exact ⟨l, performer_bridge bridge (portBridge port) ▸ run⟩

theorem execFabricMsg_arrives (h : AtEndpoint s port i (typed 7 p)) :
    ∃ l, execFabricMsg port p s = .next (msgPkt port (portBridge port) (typed 7 p) (s.withPorts l)) := arrive_atEndpoint h (by simp)

theorem execFabricToken_arrives (h : AtEndpoint s port i (typed 8 p)) :
    ∃ l, execFabricToken port p s = .next (tokenPkt port (portBridge port) i (typed 8 p) (s.withPorts l)) := arrive_atEndpoint h (by simp)

theorem execFabricPoison_arrives (h : AtEndpoint s port i (typed 9 p)) :
    ∃ l, execFabricPoison port p s = .next (poisonPkt port (performer (portBridge port) i) (typed 9 p) (s.withPorts l)) := arrive_atEndpoint h (by simp)

theorem execFabricWitrec_arrives (h : AtEndpoint s port i (typed 0xA p)) :
    ∃ l, execFabricWitrec port p s = .next (witrecPkt port (portBridge port) i (typed 0xA p) (s.withPorts l)) := arrive_atEndpoint h (by simp)

/-! MSG (15 R416). -/

/-- The SENDER_ID of a packet's module (15 R407). -/
abbrev peerId (p : Pkt) : Nat := 0x4000 + p.src / 16 % 4096

theorem chan_setChan_self (s : State) (n : Nat) (c : Chan) : (s.setChan n c).chan n = c := by
  rw [State.chan, State.setChan, State.modMbx_mbx, mget_mset_self, Option.getD_some]

theorem msgPkt_written (win : p.win = 0xFFFF) (epoch : p.wepoch = 0) (chan : p.offset < 1024) (ok : mbxCheck s p.offset (peerId p) = .ok)
    (own : (s.chan p.offset).rcv = .mgmtCore) :
    msgPkt port b p s = answer b p .ok [] (s.setChan p.offset ((s.chan p.offset).accept p.data (peerId p) s.tb)) := by
  rw [msgPkt, if_neg (by simp [win, epoch, chan]), mbxWrite, ok]
  dsimp only
  rw [deliver, chan_setChan_self]
  simp only [Chan.accept, own]

theorem msgPkt_refused (win : p.win = 0xFFFF) (epoch : p.wepoch = 0) (chan : p.offset < 1024) (checked : mbxCheck s p.offset (peerId p) = c)
    (bad : c ≠ .ok) : msgPkt port b p s = answer b p c [] s := by
  rw [msgPkt, if_neg (by simp [win, epoch, chan]), mbxWrite, checked]
  cases c
  case ok => exact absurd rfl bad
  all_goals rfl

/-! TOKEN (14 R395; 19 R530, R532). -/

/-- What a member keeps of a TOKEN that grants nothing: its number, and what its sender asks for. -/
def tokenSeen (p : Pkt) (c : Cap) : Cap := { c with
  seenTseq := mset c.seenTseq p.src (field p.data 4 4)
  roster := c.roster.map (fun x => if x.ep = p.src / 16 * 16 then { x with ask := bit (field p.data 2 2) 0, slack := field p.data 0x0C 4 } else x) }

section
variable (flags : field p.data 2 2 < 2) (reserved : field p.data 0x14 12 = 0)
include flags reserved

theorem tokenPkt_foreign (foreign : s.cap.group ≠ some (field p.data 0 2)) : tokenPkt port b 14 p s = answer b p .unitAbsent [] s := by
  rw [tokenPkt, if_neg (by simp [flags, reserved]), if_pos foreign]

theorem tokenPkt_repeated (member : s.cap.group = some (field p.data 0 2)) (seen : mget s.cap.seenTseq p.src = some (field p.data 4 4)) :
    tokenPkt port b 14 p s = answer b p .ok [] s := by
  rw [tokenPkt, if_neg (by simp [flags, reserved]), if_neg (not_not.2 member), if_pos seen]

theorem tokenPkt_new (member : s.cap.group = some (field p.data 0 2)) (new : mget s.cap.seenTseq p.src ≠ some (field p.data 4 4)) :
    tokenPkt port b 14 p s = answer b p (tokenTake p s).1 [] (tokenTake p s).2 := by
  rw [tokenPkt, if_neg (by simp [flags, reserved]), if_neg (not_not.2 member), if_neg new]

end

theorem tokenTake_short (settled : s.cap.reconTb = none) (short : 1400000 < s.cap.share + field p.data 8 4) : tokenTake p s = (.capacityShort, s) := by
  unfold tokenTake
  dsimp only
  rw [if_neg (by simp [settled]), if_pos short]

theorem tokenTake_report (nothing : field p.data 8 4 = 0) (within : s.cap.share ≤ 1400000) : tokenTake p s = (.ok, s.modCap (tokenSeen p)) := by
  unfold tokenTake
  dsimp only
  rw [nothing, if_neg (fun g => g.1 rfl), if_neg (show ¬1400000 < s.cap.share + 0 from Nat.not_lt.2 within)]
  rfl

theorem tokenSeen_roster (p : Pkt) (c : Cap) (x : Peer) (mem : x ∈ (tokenSeen p c).roster) (sender : x.ep = p.src / 16 * 16) :
    x.slack = field p.data 0x0C 4 ∧ x.ask = bit (field p.data 2 2) 0 := by
  obtain ⟨y, -, rfl⟩ := List.mem_map.1 mem
  split at sender
  · next same =>
    rw [if_pos same]
    exact ⟨rfl, rfl⟩
  · next other => exact absurd sender other

/-! POISON (17 R465). -/

theorem verdicts_of_settled (h : t.fab.settled = s.fab.settled) (k : Nat) : (t.bridge k).verdicts = (s.bridge k).verdicts := by
  have e := congrArg Bridge.verdicts (bridge_of_settled h k)
  exact e

theorem memPerform_settled (b : Nat) (p : Pkt) (a : Nat) (s : State) : (memPerform b p a s).fab.settled = s.fab.settled := by
  obtain ⟨l, touched⟩ := touchMem_eq a s
  unfold memPerform
  dsimp only
  rw [touched]
  split
  · split
    · exact answer_settled ..
    · exact answer_settled ..
  · exact answer_settled ..

theorem verdictHeld_verdicts (b tag : Nat) (v : Verdict) (s : State) (k : Nat) : ((verdictHeld b tag v s).bridge k).verdicts = (s.bridge k).verdicts := by
  unfold verdictHeld
  refine (each_fixed _ (fun u => (u.bridge k).verdicts) (fun h u => ?_) _).trans ?_
  · cases v
    · exact verdicts_of_settled (memPerform_settled ..) k
    · exact verdicts_of_settled (answer_settled ..) k
  · rcases bridge_modBridge_or s b k _ with kept | changed
    · rw [kept]
    · rw [changed]

theorem applyVerdict_bridges (o q : Nat) (v : Verdict) (s : State) : (applyVerdict o q v s).fab.bridges = s.fab.bridges := by
  cases v <;> rfl

theorem windowsSettle_verdicts (s : State) (k : Nat) : ((windowsSettle s).bridge k).verdicts = (s.bridge k).verdicts := by
  refine each_fixed _ (fun u => (u.bridge k).verdicts) (fun w u => ?_) s
  dsimp only
  split
  · rfl
  · exact (verdicts_of_settled (completeWait_settled ..) k).trans rfl

theorem getLast?_lastN {α : Type} {n : Nat} (pos : 0 < n) (l : List α) (x : α) : (lastN n (l ++ [x])).getLast? = some x := by
  rw [lastN, List.getLast?_drop, if_neg (by simp; omega), List.getLast?_concat]

/-- The verdict a POISON packet carries (17, Table 17.3). -/
abbrev verdictOf (p : Pkt) : Verdict := if field p.data 4 1 = 0 then .confirmed else .poisoned

theorem poisonPkt_keeps_verdict (kind : field p.data 4 1 ≤ 1) (reserved : field p.data 5 11 = 0) (here : b < s.fab.bridges.length) :
    ((poisonPkt port b p s).bridge b).verdicts.getLast? = some (field p.data 0 4, verdictOf p, s.tb) := by
  rw [poisonPkt, if_neg (by omega)]
  dsimp only
  rw [windowsSettle_verdicts, verdicts_of_settled (answer_settled ..), State.bridge, applyVerdict_bridges, ← State.bridge, verdictHeld_verdicts,
    bridge_modBridge_self here]
  dsimp only
  rw [getLast?_lastN (by decide)]

/-! WITREC (20 R534). -/

theorem witrecPkt_taken (whole : p.len % 24 = 0) : ∃ l : List ItemHeld, l.length = p.len / 24
    ∧ witrecPkt port b 15 p s = s.modWit (fun w => { w with inbox := w.inbox ++ l }) := by
  rw [witrecPkt, if_neg (by omega)]
  exact ⟨_, by simp, rfl⟩

/-- Settles O37: a packet that arrives frees its credits and goes to its service, whose answer leaves what the service took as it is. -/
theorem servicesTakeTheirPackets : Obligations.ServicesTakeTheirPackets := by
  refine ⟨fun s port i p h bridge two => ⟨fun room => ?fetch, fun full => ?fetchFull⟩,
    fun s port i p h win epoch chan => ⟨fun ok own => ?msg, fun c checked bad => ?msgRefused⟩,
    fun s port p h flags reserved => ⟨fun foreign => ?foreign, fun member seen => ?repeated, fun member new grant settled short => ?short,
      fun member new nothing within => ?report⟩,
    fun s port i p h kind reserved => ?poison, fun s port p h whole => ?witrec, fun s port p dead c mem => ?dead⟩
  case fetch =>
    have here : i - 12 < 2 := by omega
    have unit : i - 12 < s.fetch.bridges.length := by omega
    obtain ⟨l, run⟩ := execFabricFetch_arrives h bridge
    obtain ⟨f, src, entries, e⟩ := fetchPkt_queued (s := s.withPorts l) (port := port) (p := typed 6 p) bridge room
    rw [e] at run
    have queue : ∀ q, (answer (i - 12) (typed 6 p) .ok [] ((s.withPorts l).modFetchU (i - 12) q)).fetchU (i - 12) = q (s.fetchU (i - 12)) :=
      fun q => by
        rw [State.fetchU, answer_keeps _ _ _ _ _ .fetch (by decide)]
        exact fetchU_modFetchU (s := s.withPorts l) unit q
    refine ⟨_, run, ?_, ?_, answered_atEndpoint h rfl rfl here rfl (by decide), by simp⟩
    · rw [queue, List.length_append]
      rfl
    · rw [queue, List.getLast?_concat, Option.map_some, src, entries]
  case fetchFull =>
    obtain ⟨l, run⟩ := execFabricFetch_arrives h bridge
    rw [fetchPkt_full bridge (by exact full)] at run
    exact ⟨_, run, answered_atEndpoint h rfl rfl (by omega) rfl (by decide), by simp⟩
  case msg =>
    obtain ⟨l, run⟩ := execFabricMsg_arrives h
    rw [msgPkt_written (p := typed 7 p) win epoch chan (by exact ok) (by exact own)] at run
    refine ⟨_, run, ?_, answered_atEndpoint h rfl rfl (portBridge_lt_of_atEndpoint h) rfl (by decide), by simp⟩
    rw [State.chan, answer_keeps _ _ _ _ _ .mbx (by decide)]
    exact chan_setChan_self ..
  case msgRefused =>
    obtain ⟨l, run⟩ := execFabricMsg_arrives h
    rw [msgPkt_refused (p := typed 7 p) win epoch chan (by exact checked) bad] at run
    exact ⟨_, run, answered_atEndpoint h rfl rfl (portBridge_lt_of_atEndpoint h) rfl (by decide), by simp⟩
  case foreign =>
    obtain ⟨l, run⟩ := execFabricToken_arrives h
    rw [tokenPkt_foreign (p := typed 8 p) flags reserved (by exact foreign)] at run
    exact ⟨_, run, answered_atEndpoint h rfl rfl (portBridge_lt_of_atEndpoint h) rfl (by decide), by simp⟩
  case repeated =>
    obtain ⟨l, run⟩ := execFabricToken_arrives h
    rw [tokenPkt_repeated (p := typed 8 p) flags reserved (by exact member) (by exact seen)] at run
    exact ⟨_, run, answered_atEndpoint h rfl rfl (portBridge_lt_of_atEndpoint h) rfl (by decide), by simp⟩
  case short =>
    obtain ⟨l, run⟩ := execFabricToken_arrives h
    rw [tokenPkt_new (p := typed 8 p) flags reserved (by exact member) (by exact new), tokenTake_short (by exact settled) (by exact short)] at run
    exact ⟨_, run, answered_atEndpoint h rfl rfl (portBridge_lt_of_atEndpoint h) rfl (by decide), by simp⟩
  case report =>
    obtain ⟨l, run⟩ := execFabricToken_arrives h
    rw [tokenPkt_new (p := typed 8 p) flags reserved (by exact member) (by exact new), tokenTake_report (by exact nothing) (by exact within)] at run
    have cap : ∀ c, (answer (portBridge port) (typed 8 p) c [] ((s.withPorts l).modCap (tokenSeen (typed 8 p)))).cap = tokenSeen p s.cap :=
      fun c => answer_keeps _ _ _ _ _ .cap (by decide)
    refine ⟨_, run, ?_, ?_, ?_, by simp⟩
    · rw [cap]; rfl
    · rw [cap]; exact mget_mset_self ..
    · rw [cap]; exact tokenSeen_roster p s.cap
  case poison =>
    have here := lt_bridges_of_atEndpoint h (performer_lt (portBridge_lt_of_atEndpoint h) i)
    obtain ⟨l, run⟩ := execFabricPoison_arrives h
    exact ⟨_, run, poisonPkt_keeps_verdict (s := s.withPorts l) kind reserved here⟩
  case witrec =>
    obtain ⟨l, run⟩ := execFabricWitrec_arrives h
    obtain ⟨items, count, e⟩ := witrecPkt_taken (s := s.withPorts l) (port := port) (b := portBridge port) (p := typed 0xA p) whole
    rw [e] at run
    exact ⟨_, run, by simp [count], by simp, by simp⟩
  case dead =>
    simp only [List.mem_cons, List.not_mem_nil, or_false] at mem
    rcases mem with rfl | rfl | rfl | rfl | rfl | rfl | rfl | rfl <;> exact arrive_of_not_live dead _

end Sys2Proof.Machine
end

section
/-! PROOFS. Injection steps, route versions and sends (14 R379 to R382, R386, R391, R393; 17 R464). -/

namespace Sys2Proof.Machine

variable {s t : State} {b n z : Nat} {x : Binding}

/-! Routes (14 R379 to R382). -/

/-- The commit in both bridges (14 R380). -/
def routesCommitted (s : State) : State :=
  s.modFab (fun f => { f with bridges := f.bridges.map (commitBridge s.tb), routeGen := (f.routeGen + 1) % 2 ^ 32 })

/-- A bridge whose version has switched (14 R380). -/
def versionSwitched (tb : Nat) (y : Bridge) : Bridge :=
  { y with act := !y.act, other := .draining, armedAt := none, commitTb := tb, committed := if y.act then y.v0 else y.v1, zeroSince := none }

/-- The count of what is in flight adds nothing to the switch of an armed bridge but its own result (14 R381). -/
theorem syncInflight_routesCommitted_bridge (here : b < s.fab.bridges.length) (armed : (s.bridge b).armedAt.isSome = true) :
    ∃ n z, (syncInflight 1 (syncInflight 0 (routesCommitted s))).bridge b = { versionSwitched s.tb (s.bridge b) with inflight := n, zeroSince := z } := by
  obtain ⟨n, z, east⟩ := syncInflight_bridge 1 b (syncInflight 0 (routesCommitted s))
  obtain ⟨_, _, west⟩ := syncInflight_bridge 0 b (routesCommitted s)
  have commit : (routesCommitted s).bridge b = versionSwitched s.tb (s.bridge b) := (nth_map _ here).trans (if_pos armed)
  exact ⟨n, z, by rw [east, west, commit]⟩

theorem execRouteCommitTick_due (due : (s.bridge 0).armedAt.any (fun t => decide (t ≤ s.tb)) = true) (here : 0 < s.fab.bridges.length) :
    execRouteCommitTick s = .next (completeWait wCommit 0 .ok (leBytes 1 (b2n ((routesCommitted s).bridge 0).act)) []
      (syncInflight 1 (syncInflight 0 (routesCommitted s)))) := by
  have first : s.bridge 0 ∈ s.fab.bridges := by
    rw [State.bridge, nth, List.getD_eq_getElem _ _ here]
    exact List.getElem_mem here
  exact if_pos (List.any_eq_true.2 ⟨_, first, due⟩)

theorem execRouteCommitTick_early (early : ∀ x ∈ s.fab.bridges, x.armedAt.any (fun t => decide (t ≤ s.tb)) = false) :
    execRouteCommitTick s = .next s :=
  if_neg (by simpa using early)

theorem execRouteVersionFree_zero (draining : (s.bridge b).other = .draining) (zero : (s.bridge b).zeroSince = some z) (quiet : z + 500 ≤ s.tb) :
    execRouteVersionFree b s = .next (s.modBridge b (fun x => { x with other := .free, inflight := 0, zeroSince := none })) :=
  (if_neg (not_not.2 draining)).trans (if_pos (by simp [zero, quiet]))

/-- A version that its drain limit frees, with a record (14 R381). -/
def drainExpired (b : Nat) (s : State) : State :=
  errRecord { code := .routeBusy, unit := uBridge b, op := 0x0A, detail := (s.bridge b).inflight }
    (s.modBridge b (fun x => { x with other := .free, drainExpired := true, inflight := 0, zeroSince := none }))

theorem execRouteVersionFree_expired (draining : (s.bridge b).other = .draining) (flying : (s.bridge b).zeroSince = none)
    (ended : (s.bridge b).commitTb + (s.bridge b).drainLim ≤ s.tb) : execRouteVersionFree b s = .next (drainExpired b s) :=
  (if_neg (not_not.2 draining)).trans ((if_neg (by simp [flying])).trans (if_pos ended))

theorem drainExpired_bridge (here : b < s.fab.bridges.length) :
    ((drainExpired b s).bridge b).other = .free ∧ ((drainExpired b s).bridge b).drainExpired = true := by
  have kept := bridge_of_settled (errRecord_settled { code := .routeBusy, unit := uBridge b, op := 0x0A, detail := (s.bridge b).inflight }
    (s.modBridge b (fun x => { x with other := .free, drainExpired := true, inflight := 0, zeroSince := none }))) b
  rw [bridge_modBridge_self here] at kept
  exact ⟨(congrArg Bridge.other kept :), (congrArg Bridge.drainExpired kept :)⟩

/-! Sends (14 R391 to R393; 17 R464). -/

/-- A binding whose send begins (14 R391). -/
def sendBegun (x : Binding) : Binding := { x with sending := true, left := 0, badCode := 0, tags := [], tagBad := false }

/-- The row of a binding whose send begins: its reservations are waited for again, and the read of its lines arrives at the row. -/
def sendArrives (n : Nat) (x : Binding) (tb : Nat) (w : Row) : Row := { w with
  watch := w.watch.map (fun v => if v.bind = n then { v with seen := false } else v)
  arrivals := w.arrivals ++ [{ addr := lnAddr x.row x.dline, bytes := 512 * x.dlen, src := 2 ^ 20 + n, kind := 3, bridge := x.bridge
                               since := tb, side := if x.slen = 0 then none else some (x.sline, x.slen) }] }

theorem sendArrives_unseen (x : Binding) (tb : Nat) (w : Row) : ∀ v ∈ (sendArrives n x tb w).watch, v.bind = n → v.seen = false := by
  intro v mem own
  obtain ⟨u, -, rfl⟩ := List.mem_map.1 mem
  split at own
  · next same => rw [if_pos same]
  · next other => exact absurd own other

theorem execBindingSendStart_begins (found : s.binding n = some x) (good : x.halted = false) (idle : x.sending = false)
    (works : bridgeUp s x.bridge = true) (watched : (s.row x.row).watch.filter (·.bind == n) ≠ [])
    (granted : ∀ w ∈ (s.row x.row).watch, w.bind = n → w.seen = true)
    (room : countIf (fun p => p.2.sending && p.2.bridge == x.bridge) s.fab.bindings < 16) :
    execBindingSendStart n s = .next ((s.modBinding n sendBegun).modRow x.row (sendArrives n x s.tb)) := by
  have seen : ((s.row x.row).watch.filter (·.bind == n)).any (fun w => !w.seen) = false := by
    simpa [List.any_eq_false] using granted
  unfold execBindingSendStart
  rw [found]
  exact if_neg (by simp [good, idle, watched, seen, works, room])

section
variable (found : s.binding n = some x) (sending : x.sending = true) (done : x.left = 0) (read : sendReads s n = false) (free : notifyOut s n = false)
include found sending done read free

theorem execBindingSendComplete_bad (bad : x.badCode ≠ 0) : execBindingSendComplete n s
    = .next (sendOver n (errRecord { code := Code.ofVal x.badCode, unit := uBridge x.bridge, op := 0x0A, detail := n }
        (s.modBinding n (fun x => { x with halted := true })))) := by
  unfold execBindingSendComplete
  rw [found]
  exact (if_neg (by simp [sending, done, read, free])).trans (if_pos bad)

variable (good : x.badCode = 0) (clean : x.tagBad = false) (confirmed : x.tags = [])
include good clean confirmed

theorem execBindingSendComplete_plain (plain : x.notify = none) : execBindingSendComplete n s = .next (sendOver n s) := by
  unfold execBindingSendComplete
  rw [found]
  refine (if_neg (by simp [sending, done, read, free])).trans ((if_neg (not_not.2 good)).trans ((if_neg (by simp [clean])).trans
    ((if_neg (by simp [confirmed])).trans ?_)))
  rw [plain]

theorem execBindingSendComplete_notifies {d w : Nat} (notify : x.notify = some (d, w)) : execBindingSendComplete n s
    = .next (inject x.bridge { dst := d, src := endpoint s x.row, type := 5, fence := true, flow := x.flow, len := 8, data := leBytes 8 w } 6 n s) := by
  unfold execBindingSendComplete
  rw [found]
  refine (if_neg (by simp [sending, done, read, free])).trans ((if_neg (not_not.2 good)).trans ((if_neg (by simp [clean])).trans
    ((if_neg (by simp [confirmed])).trans ?_)))
  rw [notify]

end

/-- The end of a send that no BINDING waits for (16 R451). -/
theorem sendOver_of_none (unasked : mget s.fab.bindNext n = none) : sendOver n s = s.modBinding n (fun x => { x with sending := false }) := by
  rw [sendOver, bindSettle, show mget (s.modBinding n (fun x => { x with sending := false })).fab.bindNext n = none from unasked]

/-- A command that waited for the commit leaves both bridges switched (14 R380; 16 R441). -/
theorem completeWait_routesCommitted_bridge (w a : Nat) (c : Code) (inline data : List Byte) (here : b < s.fab.bridges.length)
    (armed : (s.bridge b).armedAt.isSome = true) : ∃ n z, ((completeWait w a c inline data (syncInflight 1 (syncInflight 0 (routesCommitted s)))).bridge b).settled
      = { versionSwitched s.tb (s.bridge b) with inflight := n, zeroSince := z }.settled := by
  obtain ⟨n, z, e⟩ := syncInflight_routesCommitted_bridge here armed
  exact ⟨n, z, by rw [bridge_of_settled (completeWait_settled ..), e]⟩

theorem bindNext_of_settled (h : t.fab.settled = s.fab.settled) : t.fab.bindNext = s.fab.bindNext := (congrArg Fab.bindNext h :)

/-- Settles O38: each command updates its ports, bridges or binding, and what it records or answers leaves of these all but the injection
queues. -/
theorem routesSwitchAndSendsComplete : Obligations.RoutesSwitchAndSendsComplete := by
  refine ⟨fun s => ⟨_, rfl, by simp, List.length_mapIdx .., rfl, fun p here => nth_mapIdx _ here⟩, fun s two due armed => ?commit,
    fun s early => execRouteCommitTick_early early,
    fun s b z here draining zero quiet => ⟨_, execRouteVersionFree_zero draining zero quiet, bridge_modBridge_self here _, by simp⟩,
    fun s b here draining flying ended => ⟨_, execRouteVersionFree_expired draining flying ended, drainExpired_bridge here⟩,
    fun s b other => if_pos other,
    fun s n x found good idle row works watched granted room => ?begins,
    fun s n x found sending done read free unasked => ⟨fun good clean confirmed plain => ?plain, fun bad => ?bad,
      fun d w good clean confirmed notify untracked unheld assigned here => ?notifies⟩,
    fun s n unknown => ⟨?notStarted, ?notEnded⟩⟩
  case commit =>
    have both : ∀ b, b < 2 → (s.bridge b).armedAt.isSome = true := by
      intro b hb
      obtain rfl | rfl : b = 0 ∨ b = 1 := by omega
      · obtain ⟨d, armed, -⟩ := (Option.any_eq_true _ _).1 due
        exact armed ▸ rfl
      · exact armed
    refine ⟨_, execRouteCommitTick_due due (by omega), (congrArg Fab.routeGen (completeWait_settled ..) :), fun b hb => ?_⟩
    obtain ⟨n, z, e⟩ := completeWait_routesCommitted_bridge wCommit 0 .ok (leBytes 1 (b2n ((routesCommitted s).bridge 0).act)) [] (by omega) (both b hb)
    exact ⟨(congrArg Bridge.act e :), (congrArg Bridge.other e :), (congrArg Bridge.armedAt e :), (congrArg Bridge.commitTb e :),
      (congrArg Bridge.v0 e :), (congrArg Bridge.v1 e :)⟩
  case begins =>
    have arrived := row_modRow_self (s := s.modBinding n sendBegun) row (sendArrives n x s.tb)
    refine ⟨_, execBindingSendStart_begins found good idle works watched granted room, ?_, ?_, ?_, (rowsBut_modRow _).2 (RowsBut.rfl'.of_rows rfl), by simp⟩
    · exact (congrArg _ (binding_modBinding_self s n sendBegun)).trans (by rw [found]; rfl)
    · rw [arrived]
      exact sendArrives_unseen x s.tb _
    · rw [arrived]
      exact List.length_append
  case plain =>
    refine ⟨_, execBindingSendComplete_plain found sending done read free good clean confirmed plain, ?_⟩
    rw [sendOver_of_none unasked, binding_modBinding_self, found]
    exact ⟨rfl, by simp⟩
  case bad =>
    refine ⟨_, execBindingSendComplete_bad found sending done read free bad, ?_⟩
    rw [sendOver_of_none, binding_modBinding_self, binding_of_settled (errRecord_settled ..), binding_modBinding_self, found]
    · rfl
    · rw [bindNext_of_settled (errRecord_settled ..)]
      exact unasked
  case notifies =>
    refine ⟨_, execBindingSendComplete_notifies found sending done read free good clean confirmed notify, ?_, by simp⟩
    rw [inject_last_of_free assigned here (by simp [mustHold, untracked, unheld])]
    rfl
  case notStarted =>
    change execBindingSendStart n s = _
    unfold execBindingSendStart
    rw [unknown]
  case notEnded =>
    change execBindingSendComplete n s = _
    unfold execBindingSendComplete
    rw [unknown]

end Sys2Proof.Machine
end

section
/-! PROOFS. O58: every command completes and keeps what it does not touch (16 R438 to R441; log 17). -/

namespace Sys2Proof.Machine

theorem pending_notMem_touches (c : Instr) : Fld.pending ∉ c.touches := by
  cases c <;> simp [Instr.touches]

/-- Each command completes with the fields it does not touch as they were: the lemma about its meaning says so of every state. -/
theorem exec_keeps_untouched (c : Instr) (s : State) : Runs (Keeps c.touches s) (exec c s) := by
  have kept {l : List Fld} {r : Res} (h : Runs (Keeps l s) r ↔ Keeps l s s) : Runs (Keeps l s) r := h.2 Keeps.rfl'
  cases c with
  | inputTrip => exact kept (runs_execInputTrip _ _ _ _ (by simp [Instr.touches]))
  | inputRangeExcursion => exact kept (runs_execInputRangeExcursion _ _ (by simp [Instr.touches]))
  | holdUpEnd => exact kept (runs_execHoldUpEnd _ (by simp [Instr.touches]))
  | platformEventRecordWrite => exact kept (runs_execPlatformEventRecordWrite _ _ (by simp [Instr.touches]))
  | eepromArbitrationRetry => exact kept (runs_execEepromArbitrationRetry _ _ (by simp [Instr.touches]))
  | inputSwitchClose => exact kept (runs_execInputSwitchClose _ (by simp [Instr.touches]))
  | softStartComplete => exact kept (runs_execSoftStartComplete _ (by simp [Instr.touches]))
  | mrstNAssert => exact kept (runs_execMrstNAssert _ _ (by simp [Instr.touches]))
  | mrstNRelease => exact kept (runs_execMrstNRelease _ (by simp [Instr.touches]))
  | coldBringUpStart => exact kept (runs_execColdBringUpStart _ (by simp [Instr.touches]))
  | switchSoftStartDone => exact kept (runs_execSwitchSoftStartDone _ _ _ _ (by simp [Instr.touches]))
  | switchSoftStartTimeout => exact kept (runs_execSwitchSoftStartTimeout _ _ (by simp [Instr.touches]))
  | switchCurrentLimitLatch => exact kept (runs_execSwitchCurrentLimitLatch _ _ (by simp [Instr.touches]))
  | dimmRemovedWhileOn => exact kept (runs_execDimmRemovedWhileOn _ _ (by simp [Instr.touches]))
  | bayLatchOpen => exact kept (runs_execBayLatchOpen _ _ (by simp [Instr.touches]))
  | baySwitchDelayedOpen => exact kept (runs_execBaySwitchDelayedOpen _ _ (by simp [Instr.touches]))
  | presentNChange => exact kept (runs_execPresentNChange _ _ _ (by simp [Instr.touches]))
  | mgmtPortLinkChange => exact kept (runs_execMgmtPortLinkChange _ _ _ (by simp [Instr.touches]))
  | j3Send => exact kept (runs_execJ3Send _ _ _ _ (by simp [Instr.touches]))
  | j3Done => exact kept (runs_execJ3Done _ _ _ _ _ (by simp [Instr.touches]))
  | phaseLoss => exact kept (runs_execPhaseLoss _ _ _ (by simp [Instr.touches]))
  | rowShort => exact kept (runs_execRowShort _ _ (by simp [Instr.touches]))
  | rowRetryBegin => exact kept (runs_execRowRetryBegin _ _ (by simp [Instr.touches]))
  | rowRetrySuccess => exact kept (runs_execRowRetrySuccess _ _ (by simp [Instr.touches]))
  | stagingStart => exact kept (runs_execStagingStart _ _ _ (by simp [Instr.touches]))
  | stagingHalfRateStart => exact kept (runs_execStagingHalfRateStart _ _ _ (by simp [Instr.touches]))
  | headerStageClose => exact kept (runs_execHeaderStageClose _ _ (by simp [Instr.touches]))
  | rowUsable => exact kept (runs_execRowUsable _ _ (by simp [Instr.touches]))
  | powerWindowEnd => exact kept (runs_execPowerWindowEnd _ _ (by simp [Instr.touches]))
  | sharedRailLost => exact kept (runs_execSharedRailLost _ _ (by simp [Instr.touches]))
  | sharedRailRetry => exact kept (runs_execSharedRailRetry _ _ _ (by simp [Instr.touches]))
  | vspineLost => exact kept (runs_execVspineLost _ (by simp [Instr.touches]))
  | refLoss => exact kept (runs_execRefLoss _ (by simp [Instr.touches]))
  | clockHold => exact kept (runs_execClockHold _ _ _ _ (by simp [Instr.touches]))
  | clkStepAtWrite => exact kept (runs_execClkStepAtWrite _ _ _ _ (by simp [Instr.touches]))
  | stepWithdraw => exact kept (runs_execStepWithdraw _ (by simp [Instr.touches]))
  | stepChangeTick => exact kept (runs_execStepChangeTick _ (by simp [Instr.touches]))
  | stepSettled => exact kept (runs_execStepSettled _ (by simp [Instr.touches]))
  | idleEntry => exact kept (runs_execIdleEntry _ _ (by simp [Instr.touches]))
  | napEntry => exact kept (runs_execNapEntry _ _ (by simp [Instr.touches]))
  | sleepEntry => exact kept (runs_execSleepEntry _ _ (by simp [Instr.touches]))
  | timebaseEventWake => exact kept (runs_execTimebaseEventWake _ _ (by simp [Instr.touches]))
  | halfPark => exact kept (runs_execHalfPark _ _ (by simp [Instr.touches]))
  | seamUnparkComplete => exact kept (runs_execSeamUnparkComplete _ _ (by simp [Instr.touches]))
  | bu0 => exact kept (runs_execBu0 _ _ _ _ _ _ (by simp [Instr.touches]))
  | bu1 => exact kept (runs_execBu1 _ _ (by simp [Instr.touches]))
  | bu2 => exact kept (runs_execBu2 _ _ _ _ _ (by simp [Instr.touches]))
  | bu3 => exact kept (runs_execBu3 _ _ (by simp [Instr.touches]))
  | bu4 => exact kept (runs_execBu4 _ _ (by simp [Instr.touches]))
  | bu5 => exact kept (runs_execBu5 _ _ (by simp [Instr.touches]))
  | bu6 => exact kept (runs_execBu6 _ _ (by simp [Instr.touches]))
  | bu7 => exact kept (runs_execBu7 _ _ (by simp [Instr.touches]))
  | bu8 => exact kept (runs_execBu8 _ _ (by simp [Instr.touches]))
  | bu9 => exact kept (runs_execBu9 _ (by simp [Instr.touches]))
  | bu10 => exact kept (runs_execBu10 _ (by simp [Instr.touches]))
  | stageTimeout => exact kept (runs_execStageTimeout _ (by simp [Instr.touches]))
  | astRunWrite => exact kept (runs_execAstRunWrite _ _ _ _ (by simp [Instr.touches]))
  | astRunFetch => exact kept (runs_execAstRunFetch _ _ _ _ (by simp [Instr.touches]))
  | astQpushWrite => exact kept (runs_execAstQpushWrite _ _ _ _ _ (by simp [Instr.touches]))
  | nopMark => exact kept (runs_execNopMark _ _ _ _ (by simp [Instr.touches]))
  | fence => exact kept (runs_execFence _ _ _ _ (by simp [Instr.touches]))
  | resv => exact kept (runs_execResv _ _ _ _ (by simp [Instr.touches]))
  | rels => exact kept (runs_execRels _ _ _ _ (by simp [Instr.touches]))
  | wload => exact kept (runs_execWload _ _ _ _ _ (by simp [Instr.touches]))
  | wloadComplete => exact kept (runs_execWloadComplete _ _ _ _ (by simp [Instr.touches]))
  | epi => exact kept (runs_execEpi _ _ _ _ _ (by simp [Instr.touches]))
  | epiComplete => exact kept (runs_execEpiComplete _ _ _ _ (by simp [Instr.touches]))
  | decideSet => exact kept (runs_execDecideSet _ _ _ _ (by simp [Instr.touches]))
  | group => exact kept (runs_execGroup _ _ _ _ (by simp [Instr.touches]))
  | matv => exact kept (runs_execMatv _ _ _ _ _ (by simp [Instr.touches]))
  | deciderEvaluation => exact kept (runs_execDeciderEvaluation _ _ _ _ _ (by simp [Instr.touches]))
  | matvComplete => exact kept (runs_execMatvComplete _ _ _ _ (by simp [Instr.touches]))
  | pairCompare => exact kept (runs_execPairCompare _ _ _ _ (by simp [Instr.touches]))
  | astWaitTimeout => exact kept (runs_execAstWaitTimeout _ _ _ _ (by simp [Instr.touches]))
  | astRunTimeout => exact kept (runs_execAstRunTimeout _ _ _ _ (by simp [Instr.touches]))
  | primroseExecute => exact kept (runs_execPrimroseExecute _ _ _ _ (by simp [Instr.touches]))
  | primroseMemoryAccess => exact kept (runs_execPrimroseMemoryAccess _ _ _ _ (by simp [Instr.touches]))
  | rpop => exact kept (runs_execRpop _ _ _ _ _ _ (by simp [Instr.touches]))
  | rpush => exact kept (runs_execRpush _ _ _ _ _ _ (by simp [Instr.touches]))
  | sresv => exact kept (runs_execSresv _ _ _ _ _ _ (by simp [Instr.touches]))
  | sresvDeadline => exact kept (runs_execSresvDeadline _ _ _ (by simp [Instr.touches]))
  | srels => exact kept (runs_execSrels _ _ _ _ _ (by simp [Instr.touches]))
  | tbwait => exact kept (runs_execTbwait _ _ _ _ _ _ (by simp [Instr.touches]))
  | tbwaitEnd => exact kept (runs_execTbwaitEnd _ _ _ (by simp [Instr.touches]))
  | wdkick => exact kept (runs_execWdkick _ _ _ (by simp [Instr.touches]))
  | badd => exact kept (runs_execBadd _ _ _ _ _ _ (by simp [Instr.touches]))
  | bscl => exact kept (runs_execBscl _ _ _ _ _ _ (by simp [Instr.touches]))
  | bmax => exact kept (runs_execBmax _ _ _ _ _ _ (by simp [Instr.touches]))
  | blin => exact kept (runs_execBlin _ _ _ _ _ _ _ (by simp [Instr.touches]))
  | fhash => exact kept (runs_execFhash _ _ _ _ _ _ _ _ (by simp [Instr.touches]))
  | prmWatchdogExpiry => exact kept (runs_execPrmWatchdogExpiry _ _ _ (by simp [Instr.touches]))
  | haltedCoreRequestsEnd => exact kept (runs_execHaltedCoreRequestsEnd _ _ _ (by simp [Instr.touches]))
  | scoreboardGrant => exact kept (runs_execScoreboardGrant _ _ _ _ (by simp [Instr.touches]))
  | dmaCopy => exact kept (runs_execDmaCopy _ _ _ _ (by simp [Instr.touches]))
  | dmaSkew => exact kept (runs_execDmaSkew _ _ _ _ (by simp [Instr.touches]))
  | dmaUnskew => exact kept (runs_execDmaUnskew _ _ _ _ (by simp [Instr.touches]))
  | dmaFill => exact kept (runs_execDmaFill _ _ _ _ (by simp [Instr.touches]))
  | dmaDescriptorStart => exact kept (runs_execDmaDescriptorStart _ _ _ (by simp [Instr.touches]))
  | dmaComplete => exact kept (runs_execDmaComplete _ _ _ _ _ (by simp [Instr.touches]))
  | dmaCplPop => exact kept (runs_execDmaCplPop _ _ _ (by simp [Instr.touches]))
  | dmaDescriptorTimeout => exact kept (runs_execDmaDescriptorTimeout _ _ _ _ (by simp [Instr.touches]))
  | ingressTransaction => exact kept (runs_execIngressTransaction _ _ _ _ _ (by simp [Instr.touches]))
  | netTimeoutExpiry => exact kept (runs_execNetTimeoutExpiry _ _ _ _ (by simp [Instr.touches]))
  | bankRetEntry => exact kept (runs_execBankRetEntry _ _ _ (by simp [Instr.touches]))
  | bankTransitionComplete => exact kept (runs_execBankTransitionComplete _ _ _ (by simp [Instr.touches]))
  | bankScrubEnd => exact kept (runs_execBankScrubEnd _ _ _ (by simp [Instr.touches]))
  | ucieFlitReceive => exact kept (runs_execUcieFlitReceive _ _ _ _ _ _ _ (by simp [Instr.touches]))
  | memoryAccess => exact kept (runs_execMemoryAccess _ _ _ _ _ _ _ (by simp [Instr.touches]))
  | pageRemapComplete => exact kept (runs_execPageRemapComplete _ _ (by simp [Instr.touches]))
  | hbmTempRead => exact kept (runs_execHbmTempRead _ _ _ (by simp [Instr.touches]))
  | ddrScrubCountRead => exact kept (runs_execDdrScrubCountRead _ _ _ _ (by simp [Instr.touches]))
  | fetchCommand => exact kept (runs_execFetchCommand _ _ _ (by simp [Instr.touches]))
  | fetchDispatch => exact kept (runs_execFetchDispatch _ _ _ (by simp [Instr.touches]))
  | fetchPool => exact kept (runs_execFetchPool _ _ _ (by simp [Instr.touches]))
  | fetchBlockGather => exact kept (runs_execFetchBlockGather _ _ _ _ (by simp [Instr.touches]))
  | fetchBlockMove => exact kept (runs_execFetchBlockMove _ _ _ _ (by simp [Instr.touches]))
  | rowReadComplete => exact kept (runs_execRowReadComplete _ _ _ _ (by simp [Instr.touches]))
  | fetchComplete => exact kept (runs_execFetchComplete _ _ _ (by simp [Instr.touches]))
  | migrationPageCopyComplete => exact kept (runs_execMigrationPageCopyComplete _ _ (by simp [Instr.touches]))
  | channelTestComplete => exact kept (runs_execChannelTestComplete _ _ _ _ (by simp [Instr.touches]))
  | flashReadComplete => exact kept (runs_execFlashReadComplete _ _ _ _ (by simp [Instr.touches]))
  | flashBatchCommit => exact kept (runs_execFlashBatchCommit _ _ _ (by simp [Instr.touches]))
  | flashProgramEraseComplete => exact kept (runs_execFlashProgramEraseComplete _ _ _ _ _ _ _ _ _ _ (by simp [Instr.touches]))
  | flashRelocationComplete => exact kept (runs_execFlashRelocationComplete _ _ _ _ _ _ _ (by simp [Instr.touches]))
  | flashRetentionExpiry => exact kept (runs_execFlashRetentionExpiry _ _ _ _ (by simp [Instr.touches]))
  | flashInterfaceTraining => exact kept (runs_execFlashInterfaceTraining _ _ _ _ (by simp [Instr.touches]))
  | flashMapReloadComplete => exact kept (runs_execFlashMapReloadComplete _ _ _ (by simp [Instr.touches]))
  | cardTestComplete => exact kept (runs_execCardTestComplete _ _ _ _ _ _ (by simp [Instr.touches]))
  | fabricFrameReceive => exact kept (runs_execFabricFrameReceive _ _ _ _ _ (by simp [Instr.touches]))
  | fabricControlFlit => exact kept (runs_execFabricControlFlit _ _ _ _ _ _ _ (by simp [Instr.touches]))
  | laneSwap => exact kept (runs_execLaneSwap _ _ _ _ (by simp [Instr.touches]))
  | laneSwapEffective => exact kept (runs_execLaneSwapEffective _ _ _ (by simp [Instr.touches]))
  | laneReturn => exact kept (runs_execLaneReturn _ _ _ _ (by simp [Instr.touches]))
  | laneBerWindowEnd => exact kept (runs_execLaneBerWindowEnd _ _ _ _ (by simp [Instr.touches]))
  | laneQualificationEnd => exact kept (runs_execLaneQualificationEnd _ _ _ (by simp [Instr.touches]))
  | fabricPacketForward => exact kept (runs_execFabricPacketForward _ _ _ (by simp [Instr.touches]))
  | fabricWrite => exact kept (runs_execFabricWrite _ _ _ (by simp [Instr.touches]))
  | fabricReadReq => exact kept (runs_execFabricReadReq _ _ _ (by simp [Instr.touches]))
  | fabricReadRsp => exact kept (runs_execFabricReadRsp _ _ _ (by simp [Instr.touches]))
  | fabricAck => exact kept (runs_execFabricAck _ _ _ (by simp [Instr.touches]))
  | fabricFetch => exact kept (runs_execFabricFetch _ _ _ (by simp [Instr.touches]))
  | fabricMsg => exact kept (runs_execFabricMsg _ _ _ (by simp [Instr.touches]))
  | fabricToken => exact kept (runs_execFabricToken _ _ _ (by simp [Instr.touches]))
  | fabricPoison => exact kept (runs_execFabricPoison _ _ _ (by simp [Instr.touches]))
  | fabricWitrec => exact kept (runs_execFabricWitrec _ _ _ (by simp [Instr.touches]))
  | fabStallExpiry => exact kept (runs_execFabStallExpiry _ _ (by simp [Instr.touches]))
  | fabRequestTimeout => exact kept (runs_execFabRequestTimeout _ _ _ (by simp [Instr.touches]))
  | injectionStepEval => exact kept (runs_execInjectionStepEval _ (by simp [Instr.touches]))
  | routeCommitTick => exact kept (runs_execRouteCommitTick _ (by simp [Instr.touches]))
  | routeVersionFree => exact kept (runs_execRouteVersionFree _ _ (by simp [Instr.touches]))
  | bindingSendStart => exact kept (runs_execBindingSendStart _ _ (by simp [Instr.touches]))
  | bindingSendComplete => exact kept (runs_execBindingSendComplete _ _ (by simp [Instr.touches]))
  | portLinkLoss => exact kept (runs_execPortLinkLoss _ _ (by simp [Instr.touches]))
  | portRetrainStart => exact kept (runs_execPortRetrainStart _ _ (by simp [Instr.touches]))
  | portQualificationEnd => exact kept (runs_execPortQualificationEnd _ _ _ _ (by simp [Instr.touches]))
  | chaviFrameReceive => exact kept (runs_execChaviFrameReceive _ _ _ _ _ _ (by simp [Instr.touches]))
  | chaviLinkUp => exact kept (runs_execChaviLinkUp _ (by simp [Instr.touches]))
  | chaviLinkDown => exact kept (runs_execChaviLinkDown _ _ (by simp [Instr.touches]))
  | credit => exact kept (runs_execCredit _ _ _ (by simp [Instr.touches]))
  | mbxSend => exact kept (runs_execMbxSend _ _ _ _ (by simp [Instr.touches]))
  | mbxDone => exact kept (runs_execMbxDone _ _ _ _ _ (by simp [Instr.touches]))
  | dwRead => exact kept (runs_execDwRead _ _ _ _ _ (by simp [Instr.touches]))
  | hwrite => exact kept (runs_execHwrite _ _ _ _ _ _ (by simp [Instr.touches]))
  | hread => exact kept (runs_execHread _ _ _ _ _ _ (by simp [Instr.touches]))
  | mbxAckWrite => exact kept (runs_execMbxAckWrite _ _ _ _ (by simp [Instr.touches]))
  | mbxTakeRead => exact kept (runs_execMbxTakeRead _ _ (by simp [Instr.touches]))
  | mbxPeerResend => exact kept (runs_execMbxPeerResend _ _ (by simp [Instr.touches]))
  | reqTail => exact kept (runs_execReqTail _ _ _ _ _ (by simp [Instr.touches]))
  | reqAdd => exact kept (runs_execReqAdd _ _ _ _ _ (by simp [Instr.touches]))
  | cplHead => exact kept (runs_execCplHead _ _ _ _ _ (by simp [Instr.touches]))
  | reqTimeout => exact kept (runs_execReqTimeout _ _ _ (by simp [Instr.touches]))
  | jobTimeout => exact kept (runs_execJobTimeout _ _ (by simp [Instr.touches]))
  | deviceInfo => exact runs_execDeviceInfo _ _ (by simp [Instr.touches]) Keeps.rfl'
  | defectMap => exact runs_execDefectMap _ _ (by simp [Instr.touches]) Keeps.rfl'
  | bootLog => exact runs_execBootLog _ _ _ (by simp [Instr.touches]) Keeps.rfl'
  | powerStatus => exact runs_execPowerStatus _ _ (by simp [Instr.touches]) Keeps.rfl'
  | clockStatus => exact runs_execClockStatus _ _ (by simp [Instr.touches]) Keeps.rfl'
  | fabricStatus => exact runs_execFabricStatus _ _ _ (by simp [Instr.touches]) Keeps.rfl'
  | flashHealth => exact runs_execFlashHealth _ _ (by simp [Instr.touches]) Keeps.rfl'
  | errorLogRead => exact runs_execErrorLogRead _ _ _ _ (by simp [Instr.touches]) Keeps.rfl'
  | rowPowerPolicy => exact runs_execRowPowerPolicy _ _ _ _ _ _ (by simp [Instr.touches]) Keeps.rfl'
  | rowPower => exact runs_execRowPower _ _ _ _ (by simp [Instr.touches]) Keeps.rfl'
  | rowRearm => exact runs_execRowRearm _ _ _ (by simp [Instr.touches]) Keeps.rfl'
  | bankPower => exact runs_execBankPower _ _ _ _ _ (by simp [Instr.touches]) Keeps.rfl'
  | powerCap => exact runs_execPowerCap _ _ _ _ _ _ (by simp [Instr.touches]) Keeps.rfl'
  | stepLimit => exact runs_execStepLimit _ _ _ _ (by simp [Instr.touches]) Keeps.rfl'
  | energyReport => exact runs_execEnergyReport _ _ _ _ (by simp [Instr.touches]) Keeps.rfl'
  | powerGroup => exact runs_execPowerGroup _ _ _ _ _ (by simp [Instr.touches]) Keeps.rfl'
  | watchdog => exact runs_execWatchdog _ _ _ _ _ (by simp [Instr.touches]) Keeps.rfl'
  | programLoad => exact runs_execProgramLoad _ _ _ _ _ _ _ _ _ (by simp [Instr.touches]) Keeps.rfl'
  | programUnload => exact runs_execProgramUnload _ _ _ _ (by simp [Instr.touches]) Keeps.rfl'
  | selfTest => exact runs_execSelfTest _ _ _ (by simp [Instr.touches]) Keeps.rfl'
  | unitRecover => exact runs_execUnitRecover _ _ _ _ (by simp [Instr.touches]) Keeps.rfl'
  | timeoutSet => exact runs_execTimeoutSet _ _ _ _ _ (by simp [Instr.touches]) Keeps.rfl'
  | recalibrate => exact runs_execRecalibrate _ _ _ _ (by simp [Instr.touches]) Keeps.rfl'
  | defectClear => exact runs_execDefectClear _ _ _ (by simp [Instr.touches]) Keeps.rfl'
  | restart => exact runs_execRestart _ _ _ (by simp [Instr.touches]) Keeps.rfl'
  | handoff => exact runs_execHandoff _ _ _ (by simp [Instr.touches]) Keeps.rfl'
  | handoffImageVerified => exact kept (runs_execHandoffImageVerified _ (by simp [Instr.touches]))
  | memClaim => exact runs_execMemClaim _ _ _ _ (by simp [Instr.touches]) Keeps.rfl'
  | memRelease => exact runs_execMemRelease _ _ _ _ (by simp [Instr.touches]) Keeps.rfl'
  | pageFree => exact runs_execPageFree _ _ _ _ (by simp [Instr.touches]) Keeps.rfl'
  | tableCreate => exact runs_execTableCreate _ _ _ _ _ _ _ _ _ _ _ _ _ _ _ _ _ _ _ (by simp [Instr.touches]) Keeps.rfl'
  | tableUpdate => exact runs_execTableUpdate _ _ _ _ _ (by simp [Instr.touches]) Keeps.rfl'
  | tableDestroy => exact runs_execTableDestroy _ _ _ (by simp [Instr.touches]) Keeps.rfl'
  | channelDrain => exact runs_execChannelDrain _ _ _ _ (by simp [Instr.touches]) Keeps.rfl'
  | channelReturn => exact runs_execChannelReturn _ _ _ _ _ (by simp [Instr.touches]) Keeps.rfl'
  | locate => exact runs_execLocate _ _ _ _ _ (by simp [Instr.touches]) Keeps.rfl'
  | flashPolicy => exact runs_execFlashPolicy _ _ _ _ (by simp [Instr.touches]) Keeps.rfl'
  | cardDrain => exact runs_execCardDrain _ _ _ (by simp [Instr.touches]) Keeps.rfl'
  | cardReturn => exact runs_execCardReturn _ _ _ _ _ (by simp [Instr.touches]) Keeps.rfl'
  | endpointAssign => exact runs_execEndpointAssign _ _ _ (by simp [Instr.touches]) Keeps.rfl'
  | routeStage => exact runs_execRouteStage _ _ _ _ _ _ (by simp [Instr.touches]) Keeps.rfl'
  | routeCommit => exact runs_execRouteCommit _ _ _ _ (by simp [Instr.touches]) Keeps.rfl'
  | mapWindow => exact runs_execMapWindow _ _ _ _ _ _ _ _ (by simp [Instr.touches]) Keeps.rfl'
  | unmapWindow => exact runs_execUnmapWindow _ _ _ (by simp [Instr.touches]) Keeps.rfl'
  | binding => exact runs_execBinding _ _ _ _ _ _ _ _ _ _ _ _ _ _ _ _ _ _ _ _ _ _ _ _ (by simp [Instr.touches]) Keeps.rfl'
  | fabricPolicy => exact runs_execFabricPolicy _ _ _ _ _ _ _ (by simp [Instr.touches]) Keeps.rfl'
  | channelConfigure => exact runs_execChannelConfigure _ _ _ _ _ _ _ _ (by simp [Instr.touches]) Keeps.rfl'
  | ringCreate => exact runs_execRingCreate _ _ _ _ _ _ _ _ _ _ _ _ _ _ (by simp [Instr.touches]) Keeps.rfl'
  | ringDestroy => exact runs_execRingDestroy _ _ _ (by simp [Instr.touches]) Keeps.rfl'
  | ringModify => exact runs_execRingModify _ _ _ _ _ _ _ _ (by simp [Instr.touches]) Keeps.rfl'
  | witnessRing => exact runs_execWitnessRing _ _ _ _ _ _ _ _ _ (by simp [Instr.touches]) Keeps.rfl'
  | witnessSeal => exact runs_execWitnessSeal _ _ _ (by simp [Instr.touches]) Keeps.rfl'
  | attestQuote => exact runs_execAttestQuote _ _ _ (by simp [Instr.touches]) Keeps.rfl'
  | debugUnlock => exact runs_execDebugUnlock _ _ _ _ (by simp [Instr.touches]) Keeps.rfl'
  | keyRevoke => exact runs_execKeyRevoke _ _ _ _ (by simp [Instr.touches]) Keeps.rfl'
  | replyRetry => exact kept (runs_execReplyRetry _ _ (by simp [Instr.touches]))
  | poisonDeadline => exact kept (runs_execPoisonDeadline _ (by simp [Instr.touches]))
  | heldRpushResolve => exact kept (runs_execHeldRpushResolve _ _ _ (by simp [Instr.touches]))
  | targetedTestStart => exact kept (runs_execTargetedTestStart _ _ (by simp [Instr.touches]))
  | testNeedsTimeout => exact kept (runs_execTestNeedsTimeout _ _ (by simp [Instr.touches]))
  | targetedTestRetry => exact kept (runs_execTargetedTestRetry _ _ (by simp [Instr.touches]))
  | targetedTestEnd => exact kept (runs_execTargetedTestEnd _ _ _ _ _ (by simp [Instr.touches]))
  | slotRecovery => exact kept (runs_execSlotRecovery _ _ _ _ (by simp [Instr.touches]))
  | mgmtWatchdogRestart => exact kept (runs_execMgmtWatchdogRestart _ (by simp [Instr.touches]))
  | mgmtWatchdogExpiry => exact kept (runs_execMgmtWatchdogExpiry _ _ (by simp [Instr.touches]))
  | mcHalt => exact kept (runs_execMcHalt _ _ (by simp [Instr.touches]))
  | failoverResume => exact kept (runs_execFailoverResume _ (by simp [Instr.touches]))
  | powerFastCheck => exact kept (runs_execPowerFastCheck _ _ (by simp [Instr.touches]))
  | phaseMarker => exact kept (runs_execPhaseMarker _ (by simp [Instr.touches]))
  | thermalSensorRead => exact kept (runs_execThermalSensorRead _ _ _ (by simp [Instr.touches]))
  | thermalCeilingRaise => exact kept (runs_execThermalCeilingRaise _ (by simp [Instr.touches]))
  | peerDiscovery => exact kept (runs_execPeerDiscovery _ (by simp [Instr.touches]))
  | tokenReportPeriod => exact kept (runs_execTokenReportPeriod _ (by simp [Instr.touches]))
  | witnessItem => exact kept (runs_execWitnessItem _ _ (by simp [Instr.touches]))
  | witnessItemExpiry => exact kept (runs_execWitnessItemExpiry _ _ (by simp [Instr.touches]))
  | witnessEvaluation => exact kept (runs_execWitnessEvaluation _ _ (by simp [Instr.touches]))
  | fetchItemWaitExpiry => exact kept (runs_execFetchItemWaitExpiry _ _ (by simp [Instr.touches]))
  | stallHoldExpiry => exact kept (runs_execStallHoldExpiry _ _ (by simp [Instr.touches]))
  | witnessEntryWrite => exact kept (runs_execWitnessEntryWrite _ _ (by simp [Instr.touches]))
  | sealTimer => exact kept (runs_execSealTimer _ _ (by simp [Instr.touches]))
  | sealWrite => exact kept (runs_execSealWrite _ (by simp [Instr.touches]))
  | imgReqResponse => exact kept (runs_execImgReqResponse _ _ _ _ _ (by simp [Instr.touches]))
  | imgReqResend => exact kept (runs_execImgReqResend _ (by simp [Instr.touches]))
  | sesHello => exact kept (runs_execSesHello _ _ _ _ _ (by simp [Instr.touches]))
  | sesOfferSend => exact kept (runs_execSesOfferSend _ (by simp [Instr.touches]))
  | sesProof => exact kept (runs_execSesProof _ _ _ _ _ (by simp [Instr.touches]))
  | authLockoutEnd => exact kept (runs_execAuthLockoutEnd _ (by simp [Instr.touches]))
  | noiseHealthChange => exact kept (runs_execNoiseHealthChange _ _ (by simp [Instr.touches]))
  | dbgRead => exact kept (runs_execDbgRead _ _ _ _ (by simp [Instr.touches]))
  | dbgWrite => exact kept (runs_execDbgWrite _ _ _ _ (by simp [Instr.touches]))
  | spnAttnClearbelow => exact kept (runs_execSpnAttnClearbelow _ _ (by simp [Instr.touches]))
  | spnTbLowRead => exact kept (runs_execSpnTbLowRead _ _ (by simp [Instr.touches]))
  | astPlanesRead => exact kept (runs_execAstPlanesRead _ _ _ (by simp [Instr.touches]))
  | scbStatusRead => exact kept (runs_execScbStatusRead _ _ (by simp [Instr.touches]))
  | clkRowRead => exact kept (runs_execClkRowRead _ _ (by simp [Instr.touches]))
  | witCntRead => exact kept (runs_execWitCntRead _ _ (by simp [Instr.touches]))
  | registerWrite => exact kept (runs_execRegisterWrite _ _ _ (by simp [Instr.touches]))
  | attnNRelease => exact kept (runs_execAttnNRelease _ (by simp [Instr.touches]))
  | attnEventDeferred => exact kept (runs_execAttnEventDeferred _ (by simp [Instr.touches]))
  | dimmFault => exact kept (runs_execDimmFault _ _ (by simp [Instr.touches]))
  | qualificationSessionRequest => exact kept (runs_execQualificationSessionRequest _ _ (by simp [Instr.touches]))
  | quoteSigningComplete => exact kept (runs_execQuoteSigningComplete _ (by simp [Instr.touches]))
  | bridgeReloadComplete => exact kept (runs_execBridgeReloadComplete _ _ _ (by simp [Instr.touches]))
  | recalibrationComplete => exact kept (runs_execRecalibrationComplete _ _ _ _ (by simp [Instr.touches]))

/-- Settles O58: a command completes with what it does not touch as it was, and no command touches the queue. -/
theorem everyCommandCompletes : Obligations.EveryCommandCompletes := by
  intro c s
  obtain ⟨t, ran, keeps⟩ := exec_keeps_untouched c s
  exact ⟨t, ran, keeps, keeps .pending (pending_notMem_touches c)⟩

end Sys2Proof.Machine
end

section
/-! SUPPORT. The Chavi link (15 R398 to R401, R404; 21 R562): what a packet that the device sends leaves of the link and of the
session, and how a request of the host outside a session is answered. -/

namespace Sys2Proof.Machine

variable {s u v : State}

/-! What sending leaves: the receiving side of the link, and of the security unit all but the session. -/

/-- The link as its receiving side sees it. -/
def Chavi.received (c : Chavi) : Chavi := { c with txq := [], used := 0, txSeq := 0, replay := [] }

/-- From s to u packets were sent at most: the receiving side of the link is as it was, and the session at most ended; outside a session
the security unit is as it was, and on a link that is down so is the link. -/
structure Sent (s u : State) : Prop where
  chavi : u.chavi.received = s.chavi.received
  sec : (endSession u).sec = (endSession s).sec
  clear : s.sec.session = 0 → u.sec = s.sec
  down : s.chavi.up = false → u.chavi = s.chavi ∧ u.sec = s.sec

theorem Sent.of_eq (hc : u.chavi = s.chavi) (hs : u.sec = s.sec) : Sent s u :=
  ⟨congrArg _ hc, congrArg (fun x => (endSession { s with sec := x }).sec) hs, fun _ => hs, fun _ => ⟨hc, hs⟩⟩

theorem Sent.refl (s : State) : Sent s s := .of_eq rfl rfl

theorem Sent.of_keeps {l : List Fld} (k : Keeps l s u) (hc : Fld.chavi ∉ l) (hs : Fld.sec ∉ l) : Sent s u :=
  .of_eq (k .chavi hc) (k .sec hs)

theorem Sent.trans (h : Sent s u) (g : Sent u v) : Sent s v where
  chavi := g.chavi.trans h.chavi
  sec := g.sec.trans h.sec
  clear c := by
    have same := h.clear c
    exact (g.clear (same ▸ c)).trans same
  down d := by
    obtain ⟨hc, hs⟩ := h.down d
    obtain ⟨gc, gs⟩ := g.down (hc ▸ d)
    exact ⟨gc.trans hc, gs.trans hs⟩

theorem Sent.after (h : Sent u v) (hc : u.chavi = s.chavi) (hs : u.sec = s.sec) : Sent s v := (Sent.of_eq hc hs).trans h

section
variable (h : Sent s u)
include h
theorem Sent.up : u.chavi.up = s.chavi.up := (congrArg Chavi.up h.chavi :)
theorem Sent.rxSeq : u.chavi.rxSeq = s.chavi.rxSeq := (congrArg Chavi.rxSeq h.chavi :)
theorem Sent.credFreed : u.chavi.credFreed = s.chavi.credFreed := (congrArg Chavi.credFreed h.chavi :)
theorem Sent.creditRx : u.chavi.creditRx = s.chavi.creditRx := (congrArg Chavi.creditRx h.chavi :)
theorem Sent.creditTb : u.chavi.creditTb = s.chavi.creditTb := (congrArg Chavi.creditTb h.chavi :)
theorem Sent.hwSeq : u.chavi.hwSeq = s.chavi.hwSeq := (congrArg Chavi.hwSeq h.chavi :)
theorem Sent.tamper : u.sec.tamper = s.sec.tamper := (congrArg Sec.tamper h.sec :)
theorem Sent.session (c : s.sec.session = 0) : u.sec.session = 0 := by rw [h.clear c, c]
end

theorem Sent.ite {c : Prop} [Decidable c] (h : c → Sent s u) (g : ¬ c → Sent s v) : Sent s (if c then u else v) := by
  split
  · next y => exact h y
  · next n => exact g n

/-- What changes the sending side of a link that is up. -/
theorem Sent.modChavi {f : Chavi → Chavi} (hf : (f s.chavi).received = s.chavi.received) (up : s.chavi.up = true) : Sent s (s.modChavi f) :=
  ⟨hf, rfl, fun _ => rfl, fun d => by simp [d] at up⟩

theorem chaviEmit_sent (p : ChaviOut) (up : s.chavi.up = true) : Sent s (chaviEmit p s) := by
  have ended : Sent s (if s.sec.session ≠ 0 ∧ 2 ^ 48 ≤ s.sec.ctrTx then endSession s else s) := by
    refine .ite (fun c => ⟨rfl, rfl, fun clear => absurd clear c.1, fun d => by simp [d] at up⟩) fun _ => .refl s
  unfold chaviEmit
  dsimp only
  generalize (if s.sec.session ≠ 0 ∧ 2 ^ 48 ≤ s.sec.ctrTx then endSession s else s) = u at ended ⊢
  refine ended.trans ?_
  have up' := ended.up.trans up
  refine .ite (fun c => ⟨rfl, rfl, fun clear => absurd clear c.1, fun d => by simp [d] at up'⟩) fun _ => ?_
  exact .ite (fun _ => .refl u) fun _ => ⟨rfl, rfl, fun _ => rfl, fun d => by simp [d] at up'⟩

theorem chaviDrain_sent (n : Nat) (up : s.chavi.up = true) : Sent s (chaviDrain n s) := by
  induction n generalizing s with
  | zero => exact .refl s
  | succ n ih =>
    unfold chaviDrain
    split
    · exact .refl s
    · next p _ _ =>
      dsimp only
      refine .ite (fun _ => ?_) fun _ => .refl s
      have started (f : Chavi → Chavi) (hf : (f s.chavi).received = s.chavi.received) : Sent s (chaviEmit p (s.modChavi f)) :=
        (Sent.modChavi hf up).trans (chaviEmit_sent _ ((Sent.modChavi hf up).up.trans up))
      exact (started _ rfl).trans (ih ((started _ rfl).up.trans up))

theorem chaviSend_sent (p : ChaviOut) (s : State) : Sent s (chaviSend p s) := by
  unfold chaviSend
  refine .ite (fun _ => .refl s) fun up => ?_
  rw [Bool.not_eq_false] at up
  refine .ite (fun _ => chaviEmit_sent p up) fun _ => ?_
  exact (Sent.modChavi (by rfl) up).trans (chaviDrain_sent _ up)

theorem deliverHost_sent (n : Nat) (s : State) : Sent s (deliverHost n s) := .ite (fun _ => chaviSend_sent _ s) fun _ => .refl s

theorem deliver_sent (n : Nat) (s : State) : Sent s (deliver n s) := by
  unfold deliver
  dsimp only
  split
  · exact .refl s
  · exact deliverHost_sent n s
  · exact .ite (fun _ => .of_eq rfl rfl) fun _ => .refl s
  · exact .of_keeps (l := [.fab, .mbx]) ((keeps_sendPeer n s (List.Subset.refl _)).2 Keeps.rfl') (by decide) (by decide)

theorem mbxWrite_sent (n : Nat) (msg : List Byte) (sid : Nat) (s : State) : Sent s (mbxWrite n msg sid s).2 := by
  unfold mbxWrite
  split
  · exact (deliver_sent n _).after rfl rfl
  · exact .refl s

theorem attnEvent_sent (s : State) : Sent s (attnEvent s) := (chaviSend_sent _ _).after rfl rfl

theorem attnSettle_sent (s : State) : Sent s (attnSettle s) := by
  have low : Sent s (if summary s ≠ 0 ∧ s.attn.lowSince = none ∧ s.attn.hiZ = false
      then s.modAttn (fun a => { a with lowSince := some s.clk.tb }) else s) := .ite (fun _ => .of_eq rfl rfl) fun _ => .refl s
  unfold attnSettle
  dsimp only
  refine low.trans (.ite (fun _ => .refl _) fun _ => .ite (fun _ => .of_eq rfl rfl) fun _ => ?_)
  exact .ite (fun _ => .of_eq rfl rfl) fun _ => attnEvent_sent _

theorem attnOwed_sent (s : State) : Sent s (attnOwed s) := .ite (fun _ => .of_eq rfl rfl) fun _ => attnEvent_sent s

theorem errRecord_go_sent (x : Rec) (n : Nat) (s : State) : Sent s (errRecord.go x s n) := by
  unfold errRecord.go
  dsimp only
  have queued (c : Prop) [Decidable c] (u : State) (f : Gw → Gw) : Sent u (if c then u.modGw f else u) :=
    .ite (fun _ => .of_eq rfl rfl) fun _ => .refl u
  refine (Sent.trans ?_ (queued _ _ _)).trans (attnSettle_sent _)
  refine .ite (fun _ => .ite (fun _ => .of_eq rfl rfl) fun _ => .of_eq rfl rfl) fun _ => ?_
  exact (mbxWrite_sent _ _ _ _).after rfl rfl

theorem errRecord_sent (x : Rec) (s : State) : Sent s (errRecord x s) := by
  unfold errRecord
  dsimp only
  split
  · exact .ite (fun _ => .of_eq rfl rfl) fun _ => errRecord_go_sent x _ s
  · exact errRecord_go_sent x _ s

theorem sent_each {α : Type} {g : α → State → State} (h : ∀ x t, Sent t (g x t)) (l : List α) (s : State) : Sent s (each l g s) := by
  induction l generalizing s with
  | nil => exact .refl s
  | cons x l ih => exact (h x s).trans (ih _)

/-! Requests of the host outside a session (15 R400, R401). -/

/-- What needs no credits goes out at once, in clear outside a session. -/
theorem chaviSend_clear {p : ChaviOut} (up : s.chavi.up = true) (clear : s.sec.session = 0) (free : chaviFree p = true) :
    chaviSend p s = chaviPut p s := by
  have notMsg : p.type ≠ 2 := fun e => by simp [chaviFree, e] at free
  unfold chaviSend chaviEmit
  simp [up, free, clear, notMsg]

/-- A request is answered: its RSP, then the CREDIT for its receive buffer. -/
def rspFreed (h : ChaviHdr) (arg n : Nat) (c : Code) (data : List Byte) (s : State) : State := chaviFreed n (chaviRsp h.tag arg c data s)

theorem rspFreed_clear (h : ChaviHdr) (arg n : Nat) (c : Code) (data : List Byte) (up : u.chavi.up = true) (clear : u.sec.session = 0) :
    rspFreed h arg n c data u = chaviPut { type := 0x0A, arg := (u.chavi.credFreed + chaviCredits n) % 2 ^ 32 }
      ((chaviPut { type := 0x09, tag := h.tag, status := c.val, arg := arg, data := data } u).modChavi
        fun x => { x with credFreed := (u.chavi.credFreed + chaviCredits n) % 2 ^ 32 }) := by
  unfold rspFreed chaviFreed chaviRsp
  rw [chaviSend_clear (s := u) up clear rfl]
  exact chaviSend_clear up clear rfl

theorem rspFreed_answers (h : ChaviHdr) (arg n : Nat) (c : Code) (data : List Byte) (up : u.chavi.up = true) (clear : u.sec.session = 0)
    (out : u.out = s.out) (freed : u.chavi.credFreed = s.chavi.credFreed) : HostAnswered s (rspFreed h arg n c data u) h arg n c data := by
  rw [rspFreed_clear h arg n c data up clear, HostAnswered, ← out, ← freed]
  rfl

theorem rspFreed_keeps (h : ChaviHdr) (arg n : Nat) (c : Code) (data : List Byte) (up : u.chavi.up = true) (clear : u.sec.session = 0) :
    Keeps [.chavi, .out] u (rspFreed h arg n c data u) := by
  rw [rspFreed_clear h arg n c data up clear]
  simp

theorem PlainLink.up {h : ChaviHdr} (hp : PlainLink s h) : s.chavi.up = true := (Bool.and_eq_true _ _ ▸ hp.1 : _ ∧ _).1

/-- A request outside a session that passes the link's checks is performed, and its receive buffer is freed. -/
theorem chaviReq_plain {h : ChaviHdr} (hp : PlainLink s h) (arg n : Nat) (go : State → State) :
    chaviReq h arg n go s = .next (chaviFreed n (go s)) := by
  obtain ⟨up, clear, crc, layout, enc⟩ := hp
  simp [chaviReq, chaviFront, up, clear, crc, layout, enc]

end Sys2Proof.Machine
end

section
/-! PROOFS. O40: messages are held, taken, acknowledged and sent again (15 R400, R407 to R411, R414, R415, R419, R420, R433, R600; log 34). -/

namespace Sys2Proof.Machine

variable {s : State} {h : ChaviHdr} {n sid : Nat} {msg : List Byte}

/-! The channels, and what a write does (15 R407 to R409). -/

theorem chan_setChan_of_ne {m : Nat} (ne : m ≠ n) (s : State) (c : Chan) : (s.setChan n c).chan m = s.chan m := by
  rw [State.chan, State.setChan, State.modMbx_mbx, mget_mset_of_ne _ _ ne, State.chan]

theorem mbxWrite_accepts (ok : mbxCheck s n sid = .ok) : mbxWrite n msg sid s = (.ok, deliver n (s.setChan n ((s.chan n).accept msg sid s.tb))) := by
  unfold mbxWrite
  rw [ok]

/-- A message for Gwynpin stays in its channel. -/
theorem mbxWrite_holds (ok : mbxCheck s n sid = .ok) (core : (s.chan n).rcv = .mgmtCore) :
    mbxWrite n msg sid s = (.ok, s.setChan n ((s.chan n).accept msg sid s.tb)) := by
  have rcv : ((s.setChan n ((s.chan n).accept msg sid s.tb)).chan n).rcv = .mgmtCore := by rw [chan_setChan_self]; exact core
  rw [mbxWrite_accepts ok]
  unfold deliver
  simp only [rcv]

theorem mbxWrite_refuses {c : Code} (hc : mbxCheck s n sid = c) (bad : c ≠ .ok) : mbxWrite n msg sid s = (c, s) := by
  unfold mbxWrite
  rw [hc]
  split
  · exact absurd rfl bad
  · rfl

/-! Requests of the host that nothing of its own waits before (15 R433). -/

/-- With no HWRITE of its own before it and nothing that waits, a request is performed as it arrives. -/
theorem hostArrive_performs (quiet : HostQuiet s) (clear : s.sec.session = 0) (q : HostReq) :
    hostArrive q s = hostPerform { q with seq := s.chavi.hwSeq, sender := 0x1000 } s := by
  obtain ⟨written, empty⟩ := quiet
  simp [hostArrive, hostSender, written, empty, clear]

/-- An answered request: what it did before its answer is kept, and the answer is the link's. -/
theorem rspFreed_after {u : State} {l : List Fld} {arg k : Nat} {c : Code} {data : List Byte} (hp : PlainLink s h) (did : Keeps l s u)
    (chavi : u.chavi = s.chavi) (sec : u.sec = s.sec) (out : u.out = s.out) (hc : Fld.chavi ∈ l) (ho : Fld.out ∈ l) :
    HostAnswered s (rspFreed h arg k c data u) h arg k c data ∧ Keeps l s (rspFreed h arg k c data u) := by
  have up : u.chavi.up = true := chavi ▸ hp.up
  have clear : u.sec.session = 0 := sec ▸ hp.2.1
  refine ⟨rspFreed_answers h arg k c data up clear out (congrArg _ chavi), did.trans ((rspFreed_keeps h arg k c data up clear).mono ?_)⟩
  simp [hc, ho]

theorem rspFreed_chan {u : State} {arg k : Nat} {c : Code} {data : List Byte} (up : u.chavi.up = true) (clear : u.sec.session = 0) :
    (rspFreed h arg k c data u).chan n = u.chan n :=
  congrArg (fun m : Mbx => (mget m.chans n).getD {}) (rspFreed_keeps h arg k c data up clear .mbx (by decide))

theorem execMbxSend_holds (hp : PlainLink s h) (quiet : HostQuiet s) (ok : mbxCheck s n 0x1000 = .ok) (core : (s.chan n).rcv = .mgmtCore) :
    exec (.mbxSend h n msg) s = .next (rspFreed h (((s.chan n).mseq + 1) % 256) 64 .ok [] (s.setChan n ((s.chan n).accept msg 0x1000 s.tb))) := by
  refine (chaviReq_plain hp _ _ _).trans ?_
  rw [hostArrive_performs quiet hp.2.1]
  simp only [hostPerform, hostSend, mbxWrite_holds ok core, if_true, chan_setChan_self]
  rfl

theorem execMbxSend_refuses {c : Code} (hp : PlainLink s h) (quiet : HostQuiet s) (hc : mbxCheck s n 0x1000 = c) (bad : c ≠ .ok) :
    exec (.mbxSend h n msg) s = .next (rspFreed h n 64 c [] s) := by
  refine (chaviReq_plain hp _ _ _).trans ?_
  rw [hostArrive_performs quiet hp.2.1]
  simp only [hostPerform, hostSend, mbxWrite_refuses hc bad, if_neg bad]
  rfl

/-! Taking a message in acknowledged mode (15 R411, R414, R420, R600). -/

section
variable {q k : Nat} (acked : s.boot.mbxMode = false) (full : (s.chan n).full = true) (seq : q = (s.chan n).mseq)
include acked full seq

/-- The channel once its message is acknowledged. -/
theorem mbxAck_takes : mbxAck n q k s = s.setChan n { s.chan n with full := false, ackv := true, ackSeq := q, ackCode := k } := by
  unfold mbxAck
  rw [if_pos ⟨acked, full, seq⟩]

theorem doneTake_takes {path : Rcv} (auth : Bool) (open_ : secureEnd s ≤ n) (here : n < nChans s) (enabled : (s.chan n).enabled = true)
    (rcv : (s.chan n).rcv = path) :
    doneTake n q k path auth s = (.ok, s.setChan n { s.chan n with full := false, ackv := true, ackSeq := q, ackCode := k }) := by
  have passes : doneCheck s n q path auth = none := by
    simp [doneCheck, Nat.not_le.2 here, enabled, Nat.not_lt.2 open_, rcv, full, seq]
  unfold doneTake
  rw [passes]
  simp only [acked, Bool.false_eq_true, if_false, mbxAck_takes acked full seq]

end

theorem execMbxDone_takes {q k : Nat} (hp : PlainLink s h) (quiet : HostQuiet s) (acked : s.boot.mbxMode = false) (open_ : secureEnd s ≤ n)
    (here : n < nChans s) (enabled : (s.chan n).enabled = true) (rcv : (s.chan n).rcv = .chaviHost) (full : (s.chan n).full = true)
    (seq : q = (s.chan n).mseq) : exec (.mbxDone h n q k) s
      = .next (rspFreed h (n + 2 ^ 32 * q) 0 .ok [] (s.setChan n { s.chan n with full := false, ackv := true, ackSeq := q, ackCode := k })) := by
  refine (chaviReq_plain hp _ _ _).trans ?_
  rw [hostArrive_performs quiet hp.2.1]
  simp only [hostPerform, hostDone, doneTake_takes acked full seq _ open_ here enabled rcv]
  rfl

/-! J3 (15 R415). -/

section
variable (works : j3Works s = true) (live : alive s = true)
include works live

theorem execJ3Send_holds {mac : Nat} (ok : mbxCheck s n (0x3000 + mac % 0x1000) = .ok) (core : (s.chan n).rcv = .mgmtCore) : exec (.j3Send mac n msg) s
      = .next ((s.setChan n ((s.chan n).accept msg (0x3000 + mac % 0x1000) s.tb)).send (.j3 2 n 0 0 (((s.chan n).mseq + 1) % 256) [] mac)) := by
  refine (if_pos ⟨works, live⟩).trans ?_
  simp only [mbxWrite_holds ok core, if_true, chan_setChan_self]
  rfl

theorem execJ3Done_takes {mac q k : Nat} (acked : s.boot.mbxMode = false) (open_ : secureEnd s ≤ n) (here : n < nChans s)
    (enabled : (s.chan n).enabled = true) (rcv : (s.chan n).rcv = .mgmtNet) (full : (s.chan n).full = true) (seq : q = (s.chan n).mseq) :
    exec (.j3Done mac n q k) s
      = .next ((s.setChan n { s.chan n with full := false, ackv := true, ackSeq := q, ackCode := k }).send (.j3 2 n 0 0 q [] mac)) := by
  refine (if_pos ⟨works, live⟩).trans ?_
  simp only [doneTake_takes acked full seq _ open_ here enabled rcv]
  rfl

end

/-! The registers of a channel, and messages for a fabric peer (15 R411, R414, R419, R420). -/

theorem execMbxAckWrite_alive (live : alive s = true) (q k : Nat) : exec (.mbxAckWrite n q k) s = .next (mbxAck n q k s) :=
  congrArg _ (if_pos live)

theorem execMbxTakeRead_alive (live : alive s = true) :
    exec (.mbxTakeRead n) s = .next ((takeRead n s).send (.value (mbxWord s true n 0x48))) := if_pos live

theorem sendPeer_keeps (n : Nat) (s : State) : Keeps [.mbx, .fab] s (sendPeer n s) :=
  (keeps_sendPeer n s (by simp)).2 Keeps.rfl'

/-- The MSG packet of a channel's message, sent last at bridge 0. -/
theorem sendPeer_last (assigned : s.fab.epBase ≠ none) (here : 0 < s.fab.bridges.length) (room : (s.bridge 0).tracked.length < 8192) :
    (lastInj (sendPeer n s) 0).map (fun p => (p.type, p.dst, p.offset, p.data))
      = some (7, (s.chan n).rdest, (s.chan n).rchan, (s.chan n).msg) := by
  unfold sendPeer
  dsimp only
  rw [inject_last (s := s.setChan n _) _ _ assigned rfl here room]
  rfl

/-- Settles O40: each message operation is the state it makes, then its answer. -/
theorem messagesAreHeldAndTaken : Obligations.MessagesAreHeldAndTaken := by
  unfold Obligations.MessagesAreHeldAndTaken
  refine ⟨fun s h n m hp quiet => ⟨fun ok core => ?_, fun c hc bad => ?_⟩, ?_, ?_, ?_, ?_, ?_, ?_, ?_⟩
  · refine ⟨_, execMbxSend_holds hp quiet ok core, ?_, rspFreed_after hp (by simp) rfl rfl rfl (by simp) (by simp)⟩
    exact (rspFreed_chan (u := s.setChan n _) hp.up hp.2.1).trans (chan_setChan_self ..)
  · exact ⟨_, execMbxSend_refuses hp quiet hc bad, rspFreed_after hp Keeps.rfl' rfl rfl rfl (by simp) (by simp)⟩
  · intro s h n q k hp quiet acked open_ here enabled rcv full seq
    refine ⟨_, execMbxDone_takes hp quiet acked open_ here enabled rcv full seq, ?_,
      rspFreed_after hp (by simp) rfl rfl rfl (by simp) (by simp)⟩
    exact (rspFreed_chan (u := s.setChan n _) hp.up hp.2.1).trans (chan_setChan_self ..)
  · intro s mac n m works live ok core
    exact ⟨_, execJ3Send_holds works live ok core, chan_setChan_self .., rfl, by simp⟩
  · intro s mac n q k works live acked open_ here enabled rcv full seq
    exact ⟨_, execJ3Done_takes works live acked open_ here enabled rcv full seq, chan_setChan_self .., rfl, by simp⟩
  · intro s n q k live acked full
    rw [execMbxAckWrite_alive live]
    refine ⟨fun seq => ⟨_, congrArg _ (mbxAck_takes acked full seq), chan_setChan_self .., fun m ne => chan_setChan_of_ne ne .., by simp⟩, fun ne => ?_⟩
    exact congrArg _ (if_neg fun c => ne c.2.2)
  · intro s n live here
    rw [execMbxTakeRead_alive live]
    refine ⟨fun streaming => ⟨_, rfl, ?_⟩, fun acked => ⟨_, rfl, ?_⟩⟩
    · rw [takeRead, if_pos ⟨streaming, here⟩]
      exact ⟨chan_setChan_self .., fun m ne => chan_setChan_of_ne ne .., by simp⟩
    · rw [takeRead, if_neg (by simp [acked])]
      simp
  · intro s n live full rcv due assigned here room
    exact ⟨_, if_pos ⟨live, full, rcv, due⟩, sendPeer_last assigned here room, sendPeer_keeps n s⟩
  · intro s n early
    exact if_neg fun c => by omega

end Sys2Proof.Machine
end

section
/-! PROOFS. O41: frames, credits, the link and bad packets (15 R398 to R401, R404, R598; 21 R562; logs 34, 59). -/

namespace Sys2Proof.Machine

variable {s : State} {h : ChaviHdr}

/-! The link goes down (15 R404, R598). -/

/-- The link as it goes down: its sequence numbers and the count of HWRITEs stay. -/
def Chavi.downed (c : Chavi) : Chavi := { rxSeq := c.rxSeq, txSeq := c.txSeq, hwSeq := c.hwSeq }

/-- What is reported of a link that is down goes out another way: link and session are as the loss leaves them. -/
theorem chaviDown_link (up : s.chavi.up = true) : (chaviDown s).chavi = s.chavi.downed ∧ (chaviDown s).sec = (endSession s).sec := by
  unfold chaviDown
  rw [if_pos up]
  exact (errRecord_sent _ _).down rfl

theorem chaviDown_power (s : State) : (chaviDown s).power = s.power :=
  (keeps_chaviDown s (List.Subset.refl _)).2 Keeps.rfl' .power (by decide)

/-! Frames (15 R398, R399). -/

section
variable (on : cageOn s = true)
include on

theorem execChaviFrameReceive_inOrder (a : Nat) : exec (.chaviFrameReceive true false s.chavi.rxSeq false a) s
      = .next ((s.modChavi fun c => chaviAcked a { c with txReplays := 0 }).modChavi
          fun c => { c with rxSeq := (c.rxSeq + 1) % 4096, discarding := false, replays := 0 }) := by
  refine (if_neg (by simp [on])).trans ((if_neg (by simp)).trans ?_)
  refine (if_neg (by simp)).trans ((if_neg (by simp)).trans ?_)
  simp

theorem execChaviFrameReceive_bad (i k : Bool) (q a : Nat) (again : s.chavi.replays < 8) : exec (.chaviFrameReceive false i q k a) s
      = .next ((s.modChavi fun c => { c with discarding := true, replays := c.replays + 1 }).send (.chaviNak ((s.chavi.rxSeq + 4095) % 4096))) :=
  (if_neg (by simp [on])).trans ((if_pos rfl).trans (if_neg (by omega)))

theorem execChaviFrameReceive_ninth (i k : Bool) (q a : Nat) (eight : s.chavi.replays = 8) :
    exec (.chaviFrameReceive false i q k a) s = .next (chaviDown s) :=
  (if_neg (by simp [on])).trans ((if_pos rfl).trans (if_pos (by omega)))

/-! Credits (15 R401). -/

theorem execCredit_taken (f : Nat) (crc : h.crcOk = true) (layout : h.layoutOk = true) : exec (.credit h f) s
      = .next (if s.chavi.up then chaviDrain (s.chavi.txq.length + 1) (s.modChavi fun c => { c with creditRx := f % 2 ^ 32, creditTb := s.tb, credSeen := true })
          else s.modChavi fun c => { c with creditRx := f % 2 ^ 32, creditTb := s.tb, credSeen := true }) :=
  if_neg (by simp [on, crc, layout])

/-! The link comes up (15 R404, R598). -/

theorem execChaviLinkUp_aligned (down : s.chavi.up = false) (seen : s.chavi.credSeen = true) :
    ∃ t, exec .chaviLinkUp s = .next t ∧ t.chavi.up = true ∧ t.power.j4Ok = true ∧ t.mbx = s.mbx := by
  refine ⟨_, if_neg (by simp [on, down, seen]), ?_⟩
  generalize hu : (s.modChavi fun c => { c with up := true }).modPower (fun p => { p with j4Ok := true }) = u
  have sent : Sent u (attnOwed (each (hostHeld u (secureEnd u)) deliverHost u)) := (sent_each deliverHost_sent _ u).trans (attnOwed_sent _)
  have kept : Keeps [.chavi, .sec, .attn, .out] u (attnOwed (each (hostHeld u (secureEnd u)) deliverHost u)) := by simp
  exact ⟨sent.up.trans (hu ▸ rfl), (congrArg Power.j4Ok (kept .power (by decide))).trans (hu ▸ rfl), (kept .mbx (by decide)).trans (hu ▸ rfl)⟩

end

/-- The three causes of a loss (15 R598). -/
theorem execChaviLinkDown_aligned (live : alive s = true) : exec (.chaviLinkDown 0) s = .next (chaviDown s) :=
  if_neg (by simp [live])

theorem execChaviLinkDown_starved (live : alive s = true) :
    exec (.chaviLinkDown 1) s = if s.chavi.creditTb + 500 ≤ s.tb then .next (chaviDown s) else .next s :=
  if_neg (by simp [live])

theorem execChaviLinkDown_unplugged (live : alive s = true) :
    exec (.chaviLinkDown 2) s = .next (chaviDown (s.modPower fun p => { p with j4Ok := false })) :=
  if_neg (by simp [live])

/-! Packets that fail the link's checks (15 R400; 21 R562). -/

theorem execMbxSend_badCrc (n : Nat) (m : List Byte) (up : linkUp s = true) (crc : h.crcOk = false) (enc : h.enc = false) :
    exec (.mbxSend h n m) s = .next (rspFreed h n 64 .ecrcError [] s) := by
  refine (if_neg (by simp [up])).trans ?_
  simp [chaviFront, crc, enc]
  rfl

theorem tamper_sec (c : Code) (clear : s.sec.session = 0) : (tamper c s).sec = { s.sec with tamper := true } := (errRecord_sent _ _).clear clear

/-- An answer outside a session leaves the security unit as it is, the link up or down. -/
theorem rspFreed_sec {arg n : Nat} {c : Code} {data : List Byte} (clear : s.sec.session = 0) : (rspFreed h arg n c data s).sec = s.sec := by
  have answered : (chaviRsp h.tag arg c data s).sec = s.sec := (chaviSend_sent _ s).clear clear
  have freed : (chaviFreed n (chaviRsp h.tag arg c data s)).sec = (chaviRsp h.tag arg c data s).sec :=
    (chaviSend_sent _ (State.modChavi _ _)).clear ((congrArg Sec.session answered).trans clear)
  exact freed.trans answered

/-- A packet in clear within a session ends it, and its answer leaves the security unit as the end does. -/
theorem execMbxSend_inClear (n : Nat) (m : List Byte) (up : linkUp s = true) (session : s.sec.session ≠ 0) (crc : h.crcOk = true)
    (layout : h.layoutOk = true) (enc : h.enc = false) : ∃ t, exec (.mbxSend h n m) s = .next t ∧ t.sec = { (endSession s).sec with tamper := true } := by
  have ended := tamper_sec (s := endSession s) .fabMalformed rfl
  refine ⟨rspFreed h n 64 .fabMalformed [] (tamper .fabMalformed (endSession s)), (if_neg (by simp [up])).trans ?_, ?_⟩
  · simp [chaviFront, crc, layout, session, enc]
    rfl
  · exact (rspFreed_sec (congrArg Sec.session ended)).trans ended

/-- Settles O41: each event of the link, and each bad packet, by the lemma of its case. -/
theorem chaviLinkKeepsItsOrder : Obligations.ChaviLinkKeepsItsOrder := by
  unfold Obligations.ChaviLinkKeepsItsOrder
  refine ⟨?_, ?_, ?_, ?_, ?_, ?_, ?_, ?_, ?_, ?_, ?_⟩
  · intro s a on
    exact ⟨_, execChaviFrameReceive_inOrder on a, rfl, rfl, rfl, by simp⟩
  · intro s i k q a on again
    exact ⟨_, execChaviFrameReceive_bad on i k q a again, rfl, rfl, rfl, by simp⟩
  · intro s i k q a on up eight
    obtain ⟨link, sec⟩ := chaviDown_link up
    exact ⟨_, execChaviFrameReceive_ninth on i k q a eight, congrArg Chavi.up link, (congrArg Chavi.rxSeq link :), congrArg Sec.session sec⟩
  · intro s h f on crc layout
    rw [execCredit_taken on f crc layout]
    refine ⟨fun down => ⟨_, congrArg _ (if_neg (by simp [down])), rfl, by simp⟩, _, rfl, ?_⟩
    split
    · next up =>
      have sent := chaviDrain_sent (s := s.modChavi fun c => { c with creditRx := f % 2 ^ 32, creditTb := s.tb, credSeen := true }) (s.chavi.txq.length + 1) up
      exact ⟨sent.creditRx, sent.creditTb, by simp⟩
    · exact ⟨rfl, rfl, by simp⟩
  · intro s h f crc
    exact if_pos (by simp [crc])
  · exact fun s down seen on => execChaviLinkUp_aligned on down seen
  · intro s unseen
    exact if_pos (by simp [unseen])
  · intro s live up
    obtain ⟨link, sec⟩ := chaviDown_link up
    refine ⟨⟨_, execChaviLinkDown_aligned live, congrArg Chavi.up link, congrArg Chavi.txq link, congrArg Chavi.waiting link, congrArg Sec.session sec⟩, ?_⟩
    rw [execChaviLinkDown_starved live]
    refine ⟨fun due => ⟨_, if_pos due, congrArg Chavi.up link⟩, fun early => if_neg (by omega), _, execChaviLinkDown_unplugged live, ?_⟩
    exact ⟨congrArg Chavi.up (chaviDown_link (s := s.modPower _) up).1, congrArg Power.j4Ok (chaviDown_power _)⟩
  · intro s u f
    exact ⟨_, rfl, rfl, by simp⟩
  · intro s h n m up clear crc enc
    have link : s.chavi.up = true := (Bool.and_eq_true _ _ ▸ up : _ ∧ _).1
    exact ⟨_, execMbxSend_badCrc n m up crc enc, rspFreed_answers _ _ _ _ _ link clear rfl rfl, rspFreed_keeps _ _ _ _ _ link clear⟩
  · intro s h n m up session crc layout enc
    obtain ⟨t, step, sec⟩ := execMbxSend_inClear n m up session crc layout enc
    exact ⟨t, step, congrArg Sec.session sec, congrArg Sec.tamper sec⟩

end Sys2Proof.Machine
end

section
/-! PROOFS. O42: the direct window, HWRITE and HREAD (15 R402, R403, R433; 22 R571; log 34). -/

namespace Sys2Proof.Machine

variable {s : State} {h : ChaviHdr} {o n w e : Nat} {l : List Byte} {x : Window}

/-! The words of the direct window (15 R403). -/

/-- Words of 8 bytes laid end to end: the first i words are the first 8 * i bytes. -/
theorem drop_flatMap_words {f : Nat → List Byte} (words : ∀ k, (f k).length = 8) (l : List Nat) (i : Nat) :
    (l.flatMap f).drop (8 * i) = (l.drop i).flatMap f := by
  induction l generalizing i with
  | nil => simp
  | cons k l ih =>
    cases i with
    | zero => simp
    | succ i =>
      rw [List.flatMap_cons, List.drop_append, words, List.drop_of_length_le (by rw [words]; omega), List.nil_append,
        show 8 * (i + 1) - 8 = 8 * i by omega, ih, List.drop_succ_cons]

theorem dwData_failed_word (s : State) (o : Nat) {i : Nat} (hi : i < 32) :
    (dwData s o 256 [i]).drop (8 * i) = leBytes 8 0 ++ (dwData s o 256 [i]).drop (8 * i + 8) := by
  unfold dwData
  dsimp only
  rw [show 8 * i + 8 = 8 * (i + 1) by omega, drop_flatMap_words (fun _ => leBytes_length ..), drop_flatMap_words (fun _ => leBytes_length ..),
    List.drop_eq_getElem_cons (by simpa using hi), List.flatMap_cons, List.getElem_range]
  simp

theorem execDwRead_reads (hp : PlainLink s h) (b : List Nat) (ho : o % 8 = 0) (hn : n % 8 = 0) (low : 8 ≤ n) (high : n ≤ 256) :
    exec (.dwRead h o n b) s = .next (rspFreed h o 0 .ok (dwData s o n b) s) := by
  refine (chaviReq_plain hp _ _ _).trans ?_
  rw [if_neg (by omega)]
  rfl

theorem execDwRead_refuses (hp : PlainLink s h) (b : List Nat) (bad : o % 8 ≠ 0 ∨ n % 8 ≠ 0 ∨ n < 8 ∨ 256 < n) :
    exec (.dwRead h o n b) s = .next (rspFreed h o 0 .fabMalformed [] s) := by
  refine (chaviReq_plain hp _ _ _).trans ?_
  rw [if_pos bad]
  rfl

/-! The host's windows (15 R402). -/

section
variable {wr : Bool} {len arg : Nat} {data : List Byte} (low : 1 ≤ len) (high : len ≤ 4096)
include low high

theorem hostWindow_admits (ok : winCheck s w e none 0xFFFF wr o len = .ok) :
    hostWindow h wr w o e len arg data s = hostAccess h wr w o len arg data s := by
  unfold hostWindow
  rw [if_neg (by omega), ok]

theorem hostWindow_refuses {c : Code} (hc : winCheck s w e none 0xFFFF wr o len = c) (bad : c ≠ .ok) :
    hostWindow h wr w o e len arg data s = chaviRsp h.tag arg c [] s := by
  unfold hostWindow
  rw [if_neg (by omega), hc]
  split
  · exact absurd rfl bad
  · rfl

end

/-- The state in which a host access waits at the agents of its window's row, an HWRITE counted among the HWRITEs (15 R402, R433). -/
def arrivedAt (h : ChaviHdr) (x : Window) (wr : Bool) (w o len arg : Nat) (l : List Byte) (s : State) : State :=
  (s.modRow x.home (fun y => { y with arrivals := y.arrivals ++ [{
    isWrite := wr, addr := x.base + o, bytes := len, data := l, src := 0xFFFF, kind := 1, bridge := 0, since := s.tb
    pkt := { tag := h.tag, offset := arg, win := w, pseq := s.chavi.hwSeq } }] })).modChavi
    (fun c => { c with hwSeq := if wr then s.chavi.hwSeq + 1 else s.chavi.hwSeq })

section
variable {arg len : Nat} (hx : mget s.fab.windows w = some x)
include hx

/-- An access to a window of a row waits at the row's agents. -/
theorem hostAccess_row (wr : Bool) (row : x.home < 12) : hostAccess h wr w o len arg l s = arrivedAt h x wr w o len arg l s := by
  unfold hostAccess
  rw [hx]
  exact if_pos row

variable (bridge : 12 ≤ x.home) (works : bridgeUp s (x.home - 12) = true)
include bridge works

/-- An access to a window of a bridge acts on memory, whose half may wake. -/
theorem hostAccess_writes (ok : accessCode s true (x.base + o) len = .ok) :
    ∃ k, hostAccess h true w o len arg l s = chaviRsp h.tag arg .ok [] (memWrite (s.modPower fun p => { p with halves := k }) (x.base + o) l) := by
  obtain ⟨k, touched⟩ := touchMem_eq (x.base + o) s
  refine ⟨k, ?_⟩
  unfold hostAccess
  rw [hx]
  refine (if_neg (by simpa using bridge)).trans ((if_neg (by simp [works])).trans ?_)
  simp only [Option.getD_some, touched, accessCode_halves, ok, if_true]

theorem hostAccess_reads (ok : accessCode s false (x.base + o) len = .ok) :
    ∃ k, hostAccess h false w o len arg l s
      = chaviRsp h.tag arg .ok (memRead s (x.base + o) len) (s.modPower fun p => { p with halves := k }) := by
  obtain ⟨k, touched⟩ := touchMem_eq (x.base + o) s
  refine ⟨k, ?_⟩
  unfold hostAccess
  rw [hx]
  refine (if_neg (by simpa using bridge)).trans ((if_neg (by simp [works])).trans ?_)
  simp only [Option.getD_some, touched, accessCode_halves, ok, Bool.false_eq_true, if_false]
  rfl

end

/-! The commands (15 R402, R433). -/

/-- A request that ends in an answer. -/
theorem chaviReq_answers {u : State} {go : State → State} {arg k : Nat} {c : Code} {data : List Byte} (hp : PlainLink s h)
    (ends : go s = chaviRsp h.tag arg c data u) : chaviReq h arg k go s = .next (rspFreed h arg k c data u) := by
  rw [chaviReq_plain hp, ends, rspFreed]

section
variable {arg : Nat} (hp : PlainLink s h)
include hp

theorem execHwrite_refuses {c : Code} (low : 1 ≤ l.length) (high : l.length ≤ 4096) (hc : winCheck s w e none 0xFFFF true o l.length = c)
    (bad : c ≠ .ok) : exec (.hwrite h w o e l) s = .next (rspFreed h (o + 2 ^ 40 * w) l.length c [] s) :=
  chaviReq_answers hp (hostWindow_refuses low high hc bad)

variable (hx : mget s.fab.windows w = some x)
include hx

theorem execHwrite_row (low : 1 ≤ l.length) (high : l.length ≤ 4096) (ok : winCheck s w e none 0xFFFF true o l.length = .ok) (row : x.home < 12) :
    exec (.hwrite h w o e l) s = .next (chaviFreed l.length (arrivedAt h x true w o l.length (o + 2 ^ 40 * w) l s)) :=
  by
  rw [← hostAccess_row hx true row, ← hostWindow_admits low high ok]
  exact chaviReq_plain hp ..

variable (bridge : 12 ≤ x.home) (works : bridgeUp s (x.home - 12) = true)
include bridge works

theorem execHwrite_bridge (low : 1 ≤ l.length) (high : l.length ≤ 4096) (ok : winCheck s w e none 0xFFFF true o l.length = .ok)
    (granted : accessCode s true (x.base + o) l.length = .ok) : ∃ k, exec (.hwrite h w o e l) s
      = .next (rspFreed h (o + 2 ^ 40 * w) l.length .ok [] (memWrite (s.modPower fun p => { p with halves := k }) (x.base + o) l)) := by
  obtain ⟨k, written⟩ := hostAccess_writes (h := h) (l := l) (arg := o + 2 ^ 40 * w) hx bridge works granted
  exact ⟨k, chaviReq_answers hp ((hostWindow_admits low high ok).trans written)⟩

theorem execHread_bridge (low : 1 ≤ n) (high : n ≤ 16) (ok : winCheck s w e none 0xFFFF false o (256 * n) = .ok)
    (granted : accessCode s false (x.base + o) (256 * n) = .ok) : ∃ k, exec (.hread h w o e n) s
      = .next (rspFreed h (o + 2 ^ 40 * w + 2 ^ 52 * n) 0 .ok (memRead s (x.base + o) (256 * n)) (s.modPower fun p => { p with halves := k })) := by
  obtain ⟨k, read⟩ := hostAccess_reads (h := h) (l := []) (arg := o + 2 ^ 40 * w + 2 ^ 52 * n) hx bridge works granted
  exact ⟨k, chaviReq_answers hp ((hostWindow_admits (by omega) (by omega) ok).trans read)⟩

end

/-! What an access that waits at its row's agents leaves. -/

theorem chaviFreed_keeps (k : Nat) (up : s.chavi.up = true) (clear : s.sec.session = 0) : Keeps [.chavi, .out] s (chaviFreed k s) := by
  have sent := chaviSend_clear (p := { type := 0x0A, arg := (s.chavi.credFreed + chaviCredits k) % 2 ^ 32 })
    (s := s.modChavi fun c => { c with credFreed := (s.chavi.credFreed + chaviCredits k) % 2 ^ 32 }) up clear rfl
  unfold chaviFreed
  dsimp only
  rw [sent]
  simp

theorem chaviFreed_hwSeq (k : Nat) (s : State) : (chaviFreed k s).chavi.hwSeq = s.chavi.hwSeq := (chaviSend_sent _ (s.modChavi _)).hwSeq

section
variable {wr : Bool} {len arg : Nat}

theorem arrivedAt_keeps : Keeps [.rows, .chavi] s (arrivedAt h x wr w o len arg l s) := by simp [arrivedAt]

theorem arrivedAt_rows : ∃ f : Row → Row, (arrivedAt h x wr w o len arg l s).rows = (s.modRow x.home f).rows
    ∧ ∀ y, (f y).arrivals.length = y.arrivals.length + 1 :=
  ⟨_, rfl, fun _ => List.length_append⟩

end

/-- Settles O42: the answer of each access, after what the access did. -/
theorem hostWindowsReachMemory : Obligations.HostWindowsReachMemory := by
  unfold Obligations.HostWindowsReachMemory
  refine ⟨?_, ?_, ?_, ?_, ?_, ?_, ?_⟩
  · intro s h o n b hp ho hn low high
    exact ⟨_, execDwRead_reads hp b ho hn low high, rspFreed_after hp Keeps.rfl' rfl rfl rfl (by simp) (by simp)⟩
  · intro s h o n b hp bad
    exact ⟨_, execDwRead_refuses hp b bad, rspFreed_after hp Keeps.rfl' rfl rfl rfl (by simp) (by simp)⟩
  · exact fun s o i hi => ⟨rfl, dwData_failed_word s o hi⟩
  · rintro s h w o e a l x hp low high ok hx bridge works rfl granted
    obtain ⟨k, step⟩ := execHwrite_bridge hp hx bridge works low high ok granted
    refine ⟨_, step, ?_, rspFreed_after hp (by simp) rfl rfl rfl (by simp) (by simp)⟩
    exact (rspFreed_keeps h _ _ _ _ (u := memWrite (s.modPower _) _ _) hp.up hp.2.1 .mem (by decide)).trans
      (memWrite_mem_congr (s := s) (t := s.modPower _) rfl rfl _ _)
  · intro s h w o e l x hp low high ok hx row here
    have kept := chaviFreed_keeps (s := arrivedAt h x true w o l.length (o + 2 ^ 40 * w) l s) l.length hp.up hp.2.1
    obtain ⟨f, rows, longer⟩ := arrivedAt_rows (s := s) (h := h) (x := x) (wr := true) (w := w) (o := o) (len := l.length) (arg := o + 2 ^ 40 * w) (l := l)
    have rows := (kept .rows (by decide)).trans rows
    refine ⟨_, execHwrite_row hp hx low high ok row, ?_, chaviFreed_hwSeq _ _, ?_, (arrivedAt_keeps.mono (by simp)).trans (kept.mono (by simp))⟩
    · rw [row_of_rows rows, row_modRow_self here, longer]
    · rw [rowsBut_of_rows rows]
      simp
  · intro s h w o e l c hp low high hc bad
    exact ⟨_, execHwrite_refuses hp low high hc bad, rspFreed_after hp Keeps.rfl' rfl rfl rfl (by simp) (by simp)⟩
  · rintro s h w o e n a x hp low high ok hx bridge works rfl granted
    obtain ⟨k, step⟩ := execHread_bridge hp hx bridge works low high ok granted
    exact ⟨_, step, rspFreed_after hp (by simp) rfl rfl rfl (by simp) (by simp)⟩

end Sys2Proof.Machine
end

section
/-! SUPPORT. What error records and completions leave of Gwynpin: all but its list of tests (17 R475). -/

namespace Sys2Proof.Machine

variable {s u v : State}

/-- From s to u tests were queued at most: nothing else of Gwynpin changed. -/
def TestsQueued (s u : State) : Prop := ∃ l, u.gw = { s.gw with tests := s.gw.tests ++ l }

theorem TestsQueued.of_eq (h : u.gw = s.gw) : TestsQueued s u := ⟨[], by rw [h, List.append_nil]⟩

theorem TestsQueued.refl (s : State) : TestsQueued s s := .of_eq rfl

theorem TestsQueued.trans (h : TestsQueued s u) (g : TestsQueued u v) : TestsQueued s v := by
  obtain ⟨l, hl⟩ := h
  obtain ⟨k, hk⟩ := g
  exact ⟨l ++ k, by rw [hk, hl, ← List.append_assoc]⟩

theorem TestsQueued.after (h : TestsQueued u v) (same : u.gw = s.gw) : TestsQueued s v := (TestsQueued.of_eq same).trans h

/-- A field of Gwynpin that is not its list of tests. -/
theorem TestsQueued.field {α : Type} (h : TestsQueued s u) (f : Gw → α) (hf : ∀ g l, f { g with tests := l } = f g) : f u.gw = f s.gw := by
  obtain ⟨l, hl⟩ := h
  rw [hl, hf]

theorem testsQueued_each {α : Type} {g : α → State → State} (h : ∀ x t, TestsQueued t (g x t)) (l : List α) (s : State) :
    TestsQueued s (each l g s) := by
  induction l generalizing s with
  | nil => exact .refl s
  | cons x l ih => exact (h x s).trans (ih _)

theorem attnSettle_gw (s : State) : (attnSettle s).gw = s.gw := attnSettle_keeps s .gw (by decide)

theorem TestsQueued.ite {c : Prop} [Decidable c] (h : TestsQueued s u) (g : TestsQueued s v) : TestsQueued s (if c then u else v) := by
  split
  · exact h
  · exact g

theorem errRecord_go_tests (x : Rec) (n : Nat) (s : State) : TestsQueued s (errRecord.go x s n) := by
  have queued (c : Prop) [Decidable c] (u : State) (l : List Test) : TestsQueued u (if c then u.modGw fun g => { g with tests := g.tests ++ l } else u) :=
    .ite ⟨l, rfl⟩ (.refl u)
  unfold errRecord.go
  dsimp only
  refine (TestsQueued.trans ?_ (queued _ _ _)).trans (.of_eq (attnSettle_gw _))
  exact .ite (.ite (.refl s) (.refl s)) (.of_eq (mbxWrite_gw ..))

theorem errRecord_tests (x : Rec) (s : State) : TestsQueued s (errRecord x s) := by
  unfold errRecord
  dsimp only
  split
  · split
    · exact .refl s
    · exact errRecord_go_tests x _ s
  · exact errRecord_go_tests x _ s

theorem deliverCpl_gw (n : Nat) (g : RqRing) (e : List Byte) (st : Nat) (s : State) : (deliverCpl n g e st s).2.gw = s.gw :=
  (keeps_deliverCpl n g e st s (List.Subset.refl _)).2 Keeps.rfl' .gw (by decide)

theorem postDevice_tests (n : Nat) (e : List Byte) (st : Nat) (s : State) : TestsQueued s (postDevice n e st s) := by
  unfold postDevice
  split
  · exact .refl s
  · next g _ =>
    have delivered := deliverCpl_gw n g e st s
    dsimp only
    split
    · exact .refl s
    · split
      · exact .refl s
      · split
        · next d => rw [d] at delivered; exact .of_eq delivered
        · exact .refl s
        · exact errRecord_tests ..

theorem endRequests_tests (n : Nat) (p : Req → Bool) (c : Code) (s : State) : TestsQueued s (endRequests n p c s) := by
  unfold endRequests
  split
  · exact .refl s
  · exact (testsQueued_each (fun _ _ => postDevice_tests ..) _ _).after rfl

theorem purgeHead_tests (k n : Nat) (s : State) : TestsQueued s (purgeHead k n s) := by
  induction k generalizing s with
  | zero => exact .refl s
  | succ k ih =>
    unfold purgeHead
    split
    · exact .refl s
    · split
      · exact .refl s
      · dsimp only
        split
        · refine TestsQueued.trans ?_ (ih _)
          exact (postDevice_tests ..).after rfl
        · exact .refl s

end Sys2Proof.Machine
end

section
/-! PROOFS. O43: doorbells, and the timeouts of requests and jobs (15 R424, R428, R430, R431; 18 R488, R489; log 34). -/

namespace Sys2Proof.Machine

variable {s t : State} {h : ChaviHdr} {n v : Nat} {g : RqRing}

/-! The doorbell word (15 R430). -/

theorem bellWord_ring (k r : Nat) (hn : n < 65536) : bellWord k n v r % 65536 = n := by
  unfold bellWord
  norm_num
  omega

theorem bellWord_fields {k : Nat} (hn : n < 65536) (hk : k < 4) (hv : v < 65536) : bits (bellWord k n v 0) 16 14 = 0
    ∧ bits (bellWord k n v 0) 48 16 = 0 ∧ bits (bellWord k n v 0) 30 2 = k ∧ bits (bellWord k n v 0) 32 16 = v := by
  unfold bellWord bits
  norm_num
  omega

/-- A doorbell for a ring that takes it is right exactly when its index is in range. -/
theorem dbCheck_bell {k : Nat} (hb : BellOk s h n g) (hk : k < 4) (hv : v < 65536) :
    dbCheck s .chavi (bellWord k n v 0) = if dbInRange g k v then .ok else .doorbellRange := by
  obtain ⟨-, -, ready, hn, hg, failed, allowed, -⟩ := hb
  obtain ⟨low, high, kind, value⟩ := bellWord_fields hn hk hv
  simp only [dbCheck, ready, bellWord_ring k 0 hn, hg, failed, dbAllowed, allowed, low, high, kind, value]
  cases dbInRange g k v <;> simp

theorem dbCheck_unknown (k r : Nat) (ready : s.boot.st = .ready) (hn : n < 65536) (absent : s.ring n = none) :
    dbCheck s .chavi (bellWord k n v r) = .ringUnknown := by
  simp [dbCheck, ready, bellWord_ring k r hn, absent]

/-! What a doorbell that is taken does to its ring. -/

/-- With no job expired and a Witness unit there, no entry at a ring's head ends where it lies. -/
theorem entryEnds_of_none (jobs : s.gw.jobExpired = []) (fitted : hasWitness s = true) (e : List Byte) : entryEnds s e = none := by
  simp [entryEnds, jobs, fitted]

/-- New entries of an active row leave the rings as they are; a half may wake. -/
theorem newEntries_active {x y : RqRing} (ends : rowEnds s x.owner = false) (active : (s.row x.owner).st = .active)
    (jobs : s.gw.jobExpired = []) (fitted : hasWitness s = true) (hy : s.ring n = some y) :
    ∃ l, newEntries n x s = s.modPower fun p => { p with halves := l } := by
  have woken : ∃ l, (if x.count = 0 ∧ y.count ≠ 0 then wakeRow x.owner s else s) = s.modPower fun p => { p with halves := l } := by
    split
    · simp only [rowEnds, Bool.or_eq_false_iff] at ends
      exact ⟨_, wakeRow_of_active ends.1.2 ends.1.1 active⟩
    · exact ⟨s.power.halves, rfl⟩
  obtain ⟨l, woken⟩ := woken
  refine ⟨l, ?_⟩
  unfold newEntries
  rw [hy]
  dsimp only
  rw [if_neg (by simp [ends]), woken]
  exact purgeHead_of_delivered (s := s.modPower _) hy (entryEnds_of_none jobs fitted _) _

theorem drainHeld_of_none (hg : s.ring n = some g) (none_ : g.held = []) (k : Nat) : drainHeld k n s = s := by
  cases k with
  | zero => rfl
  | succ k => simp [drainHeld, hg, none_]

/-- What a doorbell makes of PI, CI's side and CCI, by its kind (15 R424, R430). -/
def rung (k v : Nat) (g : RqRing) : RqRing :=
  match k with
  | 0 => { g with pi := v }
  | 1 => { g with pi := (g.pi + v) % 65536 }
  | _ => { g with cci := v }

theorem ring_modRing_self (hg : s.ring n = some g) (f : RqRing → RqRing) : (s.modRing n f).ring n = some (f g) := by
  rw [ring_modRing, if_pos rfl, hg, Option.map_some]

/-- A doorbell whose index is in range moves the index of its ring; for new entries a half may wake. -/
theorem doorbell_rings {k : Nat} (hb : BellOk s h n g) (hk : k < 3) (hv : v < 65536) (range : dbInRange g k v = true) :
    ∃ l, doorbell .chavi (bellWord k n v 0) s = (.ok, (s.modRing n (rung k v)).modPower fun p => { p with halves := l })
      ∧ (k = 2 → l = s.power.halves) := by
  have check := dbCheck_bell hb (by omega : k < 4) hv
  rw [range, if_pos rfl] at check
  obtain ⟨-, -, -, hn, hg, -, -, held, ends, active, jobs, fitted⟩ := hb
  obtain ⟨-, -, kind, value⟩ := bellWord_fields hn (by omega : k < 4) hv
  have entered (f : RqRing → RqRing) : ∃ l, newEntries n g (s.modRing n f) = (s.modRing n f).modPower fun p => { p with halves := l } :=
    newEntries_active ends active jobs fitted (ring_modRing_self hg f)
  unfold doorbell
  simp only [check, bellWord_ring k 0 hn, hg, kind, value]
  match k, hk with
  | 0, _ =>
    obtain ⟨l, e⟩ := entered fun g => { g with pi := v }
    exact ⟨l, congrArg _ e, fun c => by omega⟩
  | 1, _ =>
    obtain ⟨l, e⟩ := entered fun g => { g with pi := (g.pi + v) % 65536 }
    exact ⟨l, congrArg _ e, fun c => by omega⟩
  | 2, _ => exact ⟨s.power.halves, congrArg _ (drainHeld_of_none (ring_modRing_self hg _) held _), fun _ => rfl⟩

theorem doorbell_refused {word : Nat} {c : Code} (hc : dbCheck s .chavi word = c) (bad : c ≠ .ok) (ready : c ≠ .notReady) :
    doorbell .chavi word s = (c, s) := by
  unfold doorbell
  rw [hc]
  split
  · exact absurd rfl bad
  · exact absurd rfl ready
  · rfl

/-! Doorbells of the host and of the fabric. -/

theorem ringBell_answers {word : Nat} {c : Code} {u : State} (hp : PlainLink s h) (quiet : HostQuiet s) (does : doorbell .chavi word s = (c, u)) :
    ringBell (.chavi h) word s = .next (rspFreed h 0 8 c [] u) := by
  refine chaviReq_answers hp ?_
  rw [hostArrive_performs quiet hp.2.1]
  simp only [hostPerform, hostBell, does]

theorem ringBell_rings {k : Nat} (hb : BellOk s h n g) (hk : k < 3) (hv : v < 65536) (range : dbInRange g k v = true) :
    ∃ t, ringBell (.chavi h) (bellWord k n v 0) s = .next t ∧ t.ring n = some (rung k v g) ∧ HostAnswered s t h 0 8 .ok []
      ∧ Keeps [.rings, .chavi, .out, .power] s t ∧ (k = 2 → Keeps [.rings, .chavi, .out] s t) := by
  obtain ⟨l, does, head⟩ := doorbell_rings hb hk hv range
  obtain ⟨hp, quiet, -, -, hg, -⟩ := hb
  generalize hu : State.modPower _ _ = u at does
  have did : Keeps [.rings, .power] s u := by subst hu; simp
  have same : u.chavi = s.chavi ∧ u.sec = s.sec ∧ u.out = s.out :=
    ⟨did .chavi (by decide), did .sec (by decide), did .out (by decide)⟩
  have after {m : List Fld} (k : Keeps m s u) (hc : Fld.chavi ∈ m) (ho : Fld.out ∈ m) :=
    rspFreed_after (arg := 0) (k := 8) (c := .ok) (data := []) hp k same.1 same.2.1 same.2.2 hc ho
  obtain ⟨answered, kept⟩ := after (did.mono (m := [.rings, .chavi, .out, .power]) (by simp)) (by simp) (by simp)
  refine ⟨_, ringBell_answers hp quiet does, ?_, answered, kept, fun c => (after ?_ (by simp) (by simp)).2⟩
  · have rings := rspFreed_keeps (u := u) h 0 8 .ok [] (same.1 ▸ hp.up) (same.2.1 ▸ hp.2.1) .rings (by decide)
    rw [ring_of_rings (congrArg _ rings), ← hu]
    exact ring_modRing_self hg _
  · rw [← hu, head c]
    exact Keeps.trans (t := s.modRing n (rung k v)) (by simp) fun f _ => by cases f <;> rfl

theorem ringBell_refused {word : Nat} {c : Code} (hp : PlainLink s h) (quiet : HostQuiet s) (hc : dbCheck s .chavi word = c) (bad : c ≠ .ok)
    (ready : c ≠ .notReady) : ∃ t, ringBell (.chavi h) word s = .next t ∧ HostAnswered s t h 0 8 c [] ∧ Keeps [.chavi, .out] s t :=
  ⟨_, ringBell_answers hp quiet (doorbell_refused hc bad ready), rspFreed_after hp Keeps.rfl' rfl rfl rfl (by simp) (by simp)⟩

/-- A doorbell at another endpoint than the ring engine's is denied (15 R431). -/
theorem ringBell_denied {port i word : Nat} {p : Pkt} (at_ : AtEndpoint s port i (typed 5 { p with len := 8, data := leBytes 8 word }))
    (away : i ≠ 12) (untripped : s.power.trip = none) : ∃ t, ringBell (.fabric port p) word s = .next t
      ∧ answered t (performer (portBridge port) i) = some (4, Code.doorbellDenied.val, p.src, p.tag) ∧ Keeps [.fab] s t := by
  obtain ⟨l, run⟩ := arrive_atEndpoint at_ (by simp)
  have denied (u : State) : served port (portBridge port) i (typed 5 { p with len := 8, data := leBytes 8 word }) u
      = answer (performer (portBridge port) i) (typed 5 { p with len := 8, data := leBytes 8 word }) .doorbellDenied [] u :=
    if_pos away
  refine ⟨_, (if_neg (by simp [untripped])).trans (run.trans (congrArg _ (denied _))), ?_, by simp⟩
  exact answered_atEndpoint (t := s.withPorts l) at_ rfl rfl (performer_lt (portBridge_lt at_.1) i) rfl (by decide)

/-! Timeouts (18 R488, R489). -/

/-- An error completion in memory moves CPI. -/
theorem postDevice_cpi (hg : s.ring n = some g) (failed : g.failed = false) (held : g.held = []) (memory : g.cqChan = none)
    (room : cplFull s n g = false) (e : List Byte) (st : Nat) : ((postDevice n e st s).ring n).map (·.cpi) = some ((g.cpi + 1) % 65536) := by
  have free : ¬ g.size ≤ g.cplUsed := by
    simp only [cplFull, decide_eq_false_iff_not] at room
    omega
  have written : ((writeCpl n e s).ring n).map (·.cpi) = some ((g.cpi + 1) % 65536) := by
    have stored (u : State) (hu : u.rings = s.rings) :
        ((u.modRing n fun g' => { g' with cpi := (g.cpi + 1) % 65536, cphase := if (g.cpi + 1) % 65536 % g'.size = 0 then !g'.cphase else g'.cphase }).ring n).map
          (·.cpi) = some ((g.cpi + 1) % 65536) := by
      rw [ring_modRing_self ((ring_of_rings (congrArg _ hu) n).trans hg)]
      rfl
    have memory (c : Prop) [Decidable c] (a : Nat) (l : List Byte) : (if c then memWrite s a l else s).rings = s.rings := by split <;> rfl
    unfold writeCpl
    rw [hg]
    dsimp only
    split
    · rw [ring_of_rings (congrArg _ (chaviSend_rings ..))]
      exact stored _ (memory _ _ _)
    · exact stored _ (memory _ _ _)
  unfold postDevice
  rw [hg]
  dsimp only
  rw [if_neg (by simp [failed]), if_neg (by simp [held, room])]
  unfold deliverCpl
  rw [memory]
  dsimp only
  rw [if_neg free]
  exact written

section
variable {i : Nat} {q : Req} (hg : s.ring n = some g) (hq : g.out[i]? = some q)
include hg hq

/-- The state in which the completion of a request that outlived its TMO is posted: the timeout recorded, the request gone. -/
theorem execReqTimeout_due (up : s.rings.up = true) (timed : q.tmo ≠ 0) (due : q.popTb + q.tmo ≤ s.tb) : exec (.reqTimeout n i) s
    = .next (postDevice n (errCpl q.tag q.job .reqTimeout) (reqStamp g q)
        ((errRecord { code := .reqTimeout, unit := uSpine 3, op := 0x09, job := q.job } s).modRing n fun g => { g with out := g.out.eraseIdx i })) := by
  refine (show exec (.reqTimeout n i) s = execReqTimeout n i s from rfl).trans ?_
  unfold execReqTimeout
  simp only [hg, hq]
  exact if_neg (by simp [up, timed]; omega)

theorem execReqTimeout_early (early : s.tb < q.popTb + q.tmo) : exec (.reqTimeout n i) s = .next s := by
  refine (show exec (.reqTimeout n i) s = execReqTimeout n i s from rfl).trans ?_
  unfold execReqTimeout
  simp only [hg, hq]
  exact if_pos (.inr (.inr early))

end

theorem purgeHead_outOf (k m : Nat) (s : State) (n : Nat) : outOf (purgeHead k m s) n = outOf s n := by
  induction k generalizing s with
  | zero => rfl
  | succ k ih =>
    unfold purgeHead
    split
    · rfl
    · split
      · rfl
      · dsimp only
        split
        · rw [ih, postDevice_outOf]
          exact outOf_modRing _ _ _ fun _ => rfl
        · rfl

/-- What holds before a change for each element of a list, and is kept by each, holds after. -/
theorem each_induct {α : Type} {f : α → State → State} (p : State → Prop) (l : List α) (keep : ∀ x u, p u → p (f x u)) (hs : p s) :
    p (each l f s) := by
  induction l generalizing s with
  | nil => exact hs
  | cons x l ih => exact ih (keep x s hs)

/-- The requests of a job end on every ring. -/
theorem jobEnded_out {j : Nat} {c : Code} (hg : (each s.rings.rings (fun p => endRequests p.1 (·.job == j) c) s).ring n = some g) :
    ∀ q ∈ g.out, q.job ≠ j := by
  have out : outOf (each s.rings.rings (fun p => endRequests p.1 (·.job == j) c) s) n = some g.out := by rw [outOf, hg, Option.map_some]
  cases ho : s.ring n with
  | some g' =>
    have ended := each_endRequests_outOf s.rings.rings (·.job == j) c (s := s) (n := n) (o := g'.out) (by rw [outOf, ho, Option.map_some])
      (.inl ⟨g', mem_of_mget ho⟩)
    rw [out, Option.some_inj] at ended
    intro q hq
    rw [ended] at hq
    simpa using (List.mem_filter.1 hq).2
  | none =>
    have absent : outOf (each s.rings.rings (fun p => endRequests p.1 (·.job == j) c) s) n = none := by
      refine each_induct (fun u => outOf u n = none) s.rings.rings (fun p u hu => ?_) (by rw [outOf, ho, Option.map_none])
      rw [endRequests_outOf, hu]
      split <;> rfl
    rw [out] at absent
    cases absent

/-- A job that times out is of the past, its requests ended on every ring. -/
theorem execJobTimeout_due {j d : Nat} (at_ : mget s.gw.jobAt j = some d) (due : d ≤ s.tb) (up : s.rings.up = true) :
    ∃ t, exec (.jobTimeout j) s = .next t ∧ mget t.gw.jobAt j = none ∧ j ∈ t.gw.jobExpired ∧ ∀ n g, t.ring n = some g → ∀ q ∈ g.out, q.job ≠ j := by
  refine ⟨_, if_neg (by simp [at_, due, up]), ?_⟩
  generalize hv : errRecord _ _ = v
  have recorded : TestsQueued (s.modGw fun g => { g with jobAt := mdel g.jobAt j, jobTmo := mdel g.jobTmo j, jobExpired := addNew g.jobExpired j }) v :=
    hv ▸ errRecord_tests _ _
  have ended := (recorded.trans (testsQueued_each (g := fun p => endRequests p.1 (·.job == j) .jobTimeout) (fun _ _ => endRequests_tests ..) v.rings.rings v)).trans
    (testsQueued_each (g := fun p => purgeHead p.2.count p.1) (fun _ _ => purgeHead_tests ..)
      (each v.rings.rings (fun p => endRequests p.1 (·.job == j) .jobTimeout) v).rings.rings _)
  refine ⟨?_, ?_, fun n g hg q hq => ?_⟩
  · exact (congrArg (mget · j) (ended.field Gw.jobAt fun _ _ => rfl)).trans ((mget_mdel _ j j).trans (if_pos rfl))
  · exact (ended.field Gw.jobExpired fun _ _ => rfl) ▸ mem_addNew_self _ j
  · have kept := each_fixed (each v.rings.rings (fun p => endRequests p.1 (·.job == j) .jobTimeout) v).rings.rings
      (f := fun p => purgeHead p.2.count p.1) (outOf · n) (fun _ _ => purgeHead_outOf ..) (each v.rings.rings (fun p => endRequests p.1 (·.job == j) .jobTimeout) v)
    rw [outOf, hg, Option.map_some] at kept
    obtain ⟨g', hg', out⟩ := Option.map_eq_some_iff.1 kept.symm
    exact jobEnded_out hg' q (out ▸ hq)

/-- Settles O43: doorbells by what they make of their ring, timeouts by what they leave outstanding. -/
theorem doorbellsAndRequestTimers : Obligations.DoorbellsAndRequestTimers := by
  unfold Obligations.DoorbellsAndRequestTimers
  refine ⟨?_, ?_, ?_, ?_, ?_, ?_, ?_, ?_, fun s j d at_ due up => execJobTimeout_due at_ due up, ?_⟩
  · intro s h n v g hb hv range
    obtain ⟨t, run, ring, answered, kept, -⟩ := ringBell_rings (k := 0) hb (by decide) hv range
    exact ⟨t, run, ring, answered, kept⟩
  · intro s h n v g hb hv range
    obtain ⟨t, run, ring, answered, kept, -⟩ := ringBell_rings (k := 1) hb (by decide) hv range
    exact ⟨t, run, ring, answered, kept⟩
  · intro s h n v g hb hv range
    obtain ⟨t, run, ring, answered, -, kept⟩ := ringBell_rings (k := 2) hb (by decide) hv range
    exact ⟨t, run, ring, answered, kept rfl⟩
  · intro s h n v g hb hv range
    exact ringBell_refused hb.1 hb.2.1 ((dbCheck_bell hb (by decide) hv).trans (by simp [range])) (by decide) (by decide)
  · intro s h n v r hp quiet ready hn absent hv
    exact ringBell_refused hp quiet (dbCheck_unknown 1 r ready hn absent) (by decide) (by decide)
  · intro s port i n v r p at_ away untripped
    exact ringBell_denied at_ away untripped
  · intro s n i g q hg hq up timed due
    refine ⟨_, execReqTimeout_due hg hq up timed due, ?_⟩
    generalize hu : errRecord _ s = u
    have rings : u.rings = s.rings := hu ▸ errRecord_rings _ s
    have wit : u.wit = s.wit := hu ▸ errRecord_keeps _ s .wit (by decide)
    have ring := ring_modRing_self ((ring_of_rings (congrArg _ rings) n).trans hg) fun g => { g with out := g.out.eraseIdx i }
    refine ⟨?_, fun failed held memory room => ?_⟩
    · exact (postDevice_outOf _ _ _ _ n).trans (by rw [outOf, ring, Option.map_some])
    · refine postDevice_cpi ring failed held memory ?_ _ _
      rw [← room]
      simp only [cplFull, witCount, State.modRing, State.modRings_rings, State.modRings_wit, rings, wit, RqRing.size, RqRing.cplUsed]
      rfl
  · exact fun s n i g q hg hq early => execReqTimeout_early hg hq early
  · intro s j absent
    exact if_pos (.inl (by simp [absent]))

end Sys2Proof.Machine
end

section
/-! PROOFS. O44: commands wait, are refused or are answered; replies are written again (16 R438 to R441; logs 35, 68). -/

namespace Sys2Proof.Machine

section
variable {s t : State} {h : CmdHdr} {sec : Bool} {op need o : Nat} {self : Instr} {body : State → Done}

/-! The three ways Gwynpin takes a command: it waits, fails a check of R440, or begins. -/

theorem gwCommand_waits (live : alive s = true)
    (held : gwServes s = false ∨ 8 ≤ s.gw.cmds.length ∨ (o ≠ 0 ∧ (s.gw.cmds.any (·.obj == o) ∨ s.gw.waiting.any (·.1 == o)))) :
    gwCommand self h op sec need o body s = .next (s.modGw fun g => { g with waiting := g.waiting ++ [(o, self)] }) := by
  unfold gwCommand
  rw [if_neg (by simp [live]), if_pos held]

theorem alive_of_serves (serves : gwServes s = true) : alive s = true := by
  simp only [gwServes, Bool.and_eq_true] at serves
  exact serves.1.1.1

theorem cmdTaken_gwCheck : gwCheck (cmdTaken h s) h sec need = gwCheck s h sec need := by
  obtain ⟨m, hm⟩ := cmdTaken_eq_modMbx h s
  rw [hm]
  rfl

theorem cmdTaken_tb : (cmdTaken h s).tb = s.tb := by
  obtain ⟨m, hm⟩ := cmdTaken_eq_modMbx h s
  rw [hm]
  rfl

theorem cmdTaken_keeps : Keeps gwF s (cmdTaken h s) := by
  obtain ⟨m, hm⟩ := cmdTaken_eq_modMbx h s
  rw [hm]
  simp [gwF]

section
variable (serves : gwServes s = true) (place : s.gw.cmds.length < 8)
  (free : o = 0 ∨ ((∀ k ∈ s.gw.cmds, k.obj ≠ o) ∧ ∀ w ∈ s.gw.waiting, w.1 ≠ o))
include serves place free

/-- A command that need not wait is checked in the state with its message taken. -/
theorem gwCommand_begins : gwCommand self h op sec need o body s = if gwCheck s h sec need = .ok
    then cmdEnds self h op o (s.chan h.chan).mseq (body (cmdTaken h s))
    else .next (finish op h (s.chan h.chan).mseq (gwCheck s h sec need) [] [] (cmdTaken h s)) := by
  have starts : ¬ (gwServes s = false ∨ 8 ≤ s.gw.cmds.length ∨ (o ≠ 0 ∧ (s.gw.cmds.any (·.obj == o) ∨ s.gw.waiting.any (·.1 == o)))) := by
    rintro (c | c | ⟨c, d⟩)
    · exact absurd (serves.symm.trans c) (by decide)
    · omega
    · obtain ⟨cmds, waiting⟩ := free.resolve_left c
      simp only [List.any_eq_true, beq_iff_eq] at d
      rcases d with ⟨k, hk, e⟩ | ⟨w, hw, e⟩
      · exact cmds k hk e
      · exact waiting w hw e
  have checked : gwCheck (if s.boot.mbxMode then s.setChan h.chan { s.chan h.chan with full := false } else s) h sec need = gwCheck s h sec need :=
    cmdTaken_gwCheck
  unfold gwCommand
  rw [if_neg (by simp [alive_of_serves serves]), if_neg starts]
  dsimp only
  rw [checked]
  split
  · next ok =>
    rw [ok, if_pos rfl]
    rfl
  · next bad =>
    rw [if_neg bad]
    rfl

/-- A command that fails a check of R440 is answered with its code and changes nothing else. -/
theorem gwCommand_fails {c : Code} (hc : gwCheck s h sec need = c) (bad : c ≠ .ok) :
    ∃ t, gwCommand self h op sec need o body s = .next t ∧ Replied s t h op c [] [] ∧ Keeps gwF s t := by
  rw [gwCommand_begins serves place free, if_neg (hc ▸ bad), hc]
  exact ⟨_, rfl, finish_replied _ c [] cmdTaken_tb, Keeps.trans cmdTaken_keeps (finish_keeps _ _ _ _)⟩

end

/-! The take and the acknowledgement (16 R438; 15 R411): a command with no reply channel. -/

/-- The end of a command with no reply channel: Gwynpin remembers what it answered, and acknowledges the message. -/
theorem finish_unanswered {mseq : Nat} {c : Code} (silent : h.rchan = 0xFFFF) : finish op h mseq c [] [] t
    = mbxAck h.chan mseq c.val (t.modGw fun g => { g with lastReply := some (h.rchan, replyMsg op h.ctag c.val t.tb 0 [], t.tb) }) := by
  unfold finish writeReply
  simp only [List.isEmpty_nil, if_true, silent, List.length_nil]

theorem execStepLimit_taken {a b : Nat} (go : GwGo s h false 0 objDevice) (order : a ≤ b) (top : b ≤ 7) (silent : h.rchan = 0xFFFF) :
    exec (.stepLimit h a b) s = .next (mbxAck h.chan (s.chan h.chan).mseq 0 (((cmdTaken h s).modCap fun c => { c with stepMin := a, stepMax := b }).modGw
      fun g => { g with lastReply := some (h.rchan, replyMsg 0x0206 h.ctag 0 (cmdTaken h s).tb 0 [], (cmdTaken h s).tb) })) := by
  obtain ⟨serves, place, free, checks⟩ := go
  change execStepLimit h a b s = _
  refine (gwCommand_begins serves place free).trans ?_
  rw [if_pos checks, if_pos ⟨order, top⟩]
  exact congrArg _ (finish_unanswered silent)

end

/-! Replies written again (16 R439). -/

section
variable {s : State} {i : Nat} {x : Retry}

theorem chan_of_mbx {u v : State} (e : u.mbx = v.mbx) (n : Nat) : u.chan n = v.chan n := congrArg (fun m : Mbx => (mget m.chans n).getD {}) e

/-- Handing a message on leaves the message in its channel. -/
theorem deliver_msg (n : Nat) (s : State) : ((deliver n s).chan n).msg = (s.chan n).msg := by
  unfold deliver
  dsimp only
  split
  · rfl
  · have kept : Keeps [.chavi, .sec, .out] s (deliverHost n s) := by simp
    exact congrArg _ (chan_of_mbx (kept .mbx (by decide)) n)
  · split <;> rfl
  · unfold sendPeer
    dsimp only
    generalize hu : State.setChan _ _ _ = u
    have kept (p : Pkt) (a b : Nat) : Keeps [.fab] u (inject 0 p a b u) := by simp
    rw [chan_of_mbx (kept _ _ _ .mbx (by decide)) n, ← hu, chan_setChan_self]

variable (hx : s.gw.retries[i]? = some x) (serves : gwServes s = true) (due : x.since + 50000 * (x.tries + 1) ≤ s.tb)
include hx serves due

/-- A reply whose channel takes it now has ended. -/
theorem execReplyRetry_written (ok : mbxCheck s x.rchan (gwStamp s) = .ok) : exec (.replyRetry i) s
    = .next ((mbxWrite x.rchan x.msg (gwStamp s) s).2.modGw fun g => { g with retries := g.retries.eraseIdx i }) := by
  refine (show exec (.replyRetry i) s = execReplyRetry i s from rfl).trans ?_
  unfold execReplyRetry
  rw [hx]
  dsimp only
  rw [if_neg (by simp [serves]; omega), mbxWrite_accepts ok]

/-- A reply whose channel is still FULL waits for its next try, or is abandoned at the last. -/
theorem execReplyRetry_full (full : mbxCheck s x.rchan (gwStamp s) = .mbxFull) : exec (.replyRetry i) s = if 999 ≤ x.tries
    then .next (errRecord { code := .mbxFull, unit := uMc (s.gw.running.getD 0), op := 0, detail := x.rchan }
      (s.modGw fun g => { g with retries := g.retries.eraseIdx i }))
    else .next (s.modGw fun g => { g with retries := g.retries.set i { x with tries := x.tries + 1 } }) := by
  refine (show exec (.replyRetry i) s = execReplyRetry i s from rfl).trans ?_
  unfold execReplyRetry
  rw [hx]
  dsimp only
  rw [if_neg (by simp [serves]; omega), mbxWrite_refuses full (by decide)]

end

/-- Settles O44: the ways a command is taken, the take of its message, and the retries of its reply. -/
theorem commandsWaitAreRefusedOrAnswered : Obligations.CommandsWaitAreRefusedOrAnswered := by
  unfold Obligations.CommandsWaitAreRefusedOrAnswered
  refine ⟨fun s h r st b l live held => ?_, fun s h r st k live hk own => ?_, fun s h l j v c serves place cmds waiting => ?_,
    fun s h a b go order top silent full => ?_, fun s i x hx serves due => ⟨fun ok => ?_, fun full few => ?_, fun full many => ?_⟩, fun s i none_ => ?_⟩
  · have waits (o : Nat) : gwServes s = false ∨ 8 ≤ s.gw.cmds.length ∨ (o ≠ 0 ∧ (s.gw.cmds.any (·.obj == o) ∨ s.gw.waiting.any (·.1 == o))) :=
      held.imp_right .inl
    exact ⟨show execRowPower h r st s = _ from gwCommand_waits live (waits _), show execMemClaim h b l s = _ from gwCommand_waits live (waits _),
      show execRouteCommit h b l s = _ from gwCommand_waits live (waits _)⟩
  · change execRowPower h r st s = _
    refine gwCommand_waits live (.inr (.inr ⟨?_, .inl (List.any_eq_true.2 ⟨k, hk, beq_iff_eq.2 own⟩)⟩))
    unfold objRow obj
    omega
  · have free : objDevice = 0 ∨ ((∀ k ∈ s.gw.cmds, k.obj ≠ objDevice) ∧ ∀ w ∈ s.gw.waiting, w.1 ≠ objDevice) := .inr ⟨cmds, waiting⟩
    exact ⟨fun hc bad => show ∃ t, execTimeoutSet h l j v s = .next t ∧ _ from gwCommand_fails serves place free hc bad,
      fun hc bad => show ∃ t, execDeviceInfo h s = .next t ∧ _ from gwCommand_fails serves place free hc bad⟩
  · rw [execStepLimit_taken go order top silent]
    refine ⟨fun streaming => ⟨_, rfl, ?_⟩, fun acked => ⟨_, rfl, ?_⟩⟩
    · have taken : cmdTaken h s = s.setChan h.chan { s.chan h.chan with full := false } := if_pos streaming
      rw [mbxAck, if_neg fun c => Bool.false_ne_true (c.1.symm.trans (by rw [taken]; exact streaming)), taken]
      exact ⟨chan_setChan_self .., fun n ne => chan_setChan_of_ne ne .., by simp⟩
    · have taken : cmdTaken h s = s := if_neg (by simp [acked])
      rw [taken, mbxAck, if_pos ⟨acked, full, rfl⟩]
      exact ⟨chan_setChan_self .., fun n ne => chan_setChan_of_ne ne .., by simp⟩
  · refine ⟨_, execReplyRetry_written hx serves due ok, ?_, ?_⟩
    · exact congrArg (fun g : Gw => g.retries.eraseIdx i) (mbxWrite_gw ..)
    · rw [mbxWrite_accepts ok]
      refine (deliver_msg x.rchan _).trans ?_
      rw [chan_setChan_self]
      rfl
  · exact ⟨_, (execReplyRetry_full hx serves due full).trans (if_neg (by omega)), rfl, by simp⟩
  · exact ⟨_, (execReplyRetry_full hx serves due full).trans (if_pos many), (errRecord_tests _ _).field Gw.retries fun _ _ => rfl⟩
  · refine (show exec (.replyRetry i) s = execReplyRetry i s from rfl).trans ?_
    unfold execReplyRetry
    rw [none_]

end Sys2Proof.Machine
end

section
/-! SUPPORT. What an answer leaves of the channels and of the security unit; the Witness rings; claimed pages (15 R411, R421; 20 R545,
R549; 12 R308). -/

namespace Sys2Proof.Machine

variable {s t u v : State} {h : CmdHdr} {n w : Nat}

/-! The answer of a command: it writes its reply's channel and acknowledges in its own, and sends what the link sends. -/

theorem mbxWrite_chan_of_ne {k : Nat} (ne : n ≠ k) (msg : List Byte) (sid : Nat) (s : State) : (mbxWrite k msg sid s).2.chan n = s.chan n := by
  have handed (u : State) : (deliver k u).chan n = u.chan n := by
    have hosted : Keeps [.chavi, .sec, .out] u (deliverHost k u) := by simp
    unfold deliver
    dsimp only
    split
    · rfl
    · exact chan_of_mbx (hosted .mbx (by decide)) n
    · split <;> rfl
    · unfold sendPeer
      dsimp only
      generalize hv : State.setChan _ _ _ = v
      have kept (p : Pkt) (a b : Nat) : Keeps [.fab] v (inject 0 p a b v) := by simp
      rw [chan_of_mbx (kept _ _ _ .mbx (by decide)) n, ← hv, chan_setChan_of_ne ne]
  unfold mbxWrite
  split
  · exact (handed _).trans (chan_setChan_of_ne ne ..)
  · rfl

theorem mbxAck_chan_of_ne {k : Nat} (ne : n ≠ k) (q c : Nat) (s : State) : (mbxAck k q c s).chan n = s.chan n := by
  unfold mbxAck
  dsimp only
  split
  · exact chan_setChan_of_ne ne ..
  · rfl

theorem finish_chan_of_ne {op mseq : Nat} (command : n ≠ h.chan) (reply : n ≠ h.rchan) (c : Code) (inline : List Byte) (t : State) :
    (finish op h mseq c inline [] t).chan n = t.chan n := by
  have replied (msg : List Byte) : (writeReply h.rchan msg t).chan n = t.chan n := by
    have written := mbxWrite_chan_of_ne reply msg (gwStamp t) t
    unfold writeReply
    split
    · rfl
    · split
      · rfl
      · next u _ e => rw [e] at written; exact written
  unfold finish
  rw [mbxAck_chan_of_ne command]
  exact replied _

theorem writeReply_sent (n : Nat) (msg : List Byte) (t : State) : Sent t (writeReply n msg t) := by
  have written := mbxWrite_sent n msg (gwStamp t) t
  unfold writeReply
  split
  · exact .refl t
  · split
    · exact .of_eq rfl rfl
    · next u _ e => rw [e] at written; exact written

theorem finish_sent {data : List Byte} (op mseq : Nat) (c : Code) (inline : List Byte) (t : State) : Sent t (finish op h mseq c inline data t) := by
  have stored : Sent t (if data.isEmpty then t else memWrite t h.resptr data) := .ite (fun _ => .refl t) fun _ => .of_eq rfl rfl
  have acked (q k : Nat) (u : State) : Sent u (mbxAck h.chan q k u) :=
    .of_keeps (l := [.mbx]) ((keeps_mbxAck _ _ _ _ (List.Subset.refl _)).2 Keeps.rfl') (by decide) (by decide)
  have remembered (msg : List Byte) (f : Gw → Gw) (u : State) : Sent u ((writeReply h.rchan msg u).modGw f) := (writeReply_sent ..).trans (.of_eq rfl rfl)
  exact (stored.trans (remembered _ _ _)).trans (acked _ _ _)

theorem Sent.scope (k : Sent s u) : u.sec.scope = s.sec.scope := (congrArg Sec.scope k.sec :)

theorem Sent.log (k : Sent s u) : u.sec.log = s.sec.log := (congrArg Sec.log k.sec :)

/-- A taken command that is answered at once, by the state it is answered in. -/
theorem gwCommand_finishes {sec : Bool} {op need o : Nat} {self : Instr} {body : State → Done} {e : State → State} {c : Code} {inline data : List Byte}
    (g : GwGo s h sec need o) (hb : ∀ m, body (s.modMbx m) = .now c inline data (e (s.modMbx m))) :
    ∃ m, gwCommand self h op sec need o body s = .next (finish op h (s.chan h.chan).mseq c inline data (e (s.modMbx m))) := by
  obtain ⟨m, hm⟩ := gwCommand_taken (self := self) (op := op) (body := body) g
  exact ⟨m, hm.trans (by rw [hb m]; rfl)⟩

/-! Witness rings. -/

theorem wring_of_wit (h : u.wit.rings = s.wit.rings) (w : Nat) : u.wring w = s.wring w := congrArg (nth · w) h

theorem wring_modWring_self (f : WitRing → WitRing) (hw : w < s.wit.rings.length) : (s.modWring w f).wring w = f (s.wring w) := nth_modify_self f hw

theorem wring_modWring_of_ne (f : WitRing → WitRing) (ne : n ≠ w) (s : State) : (s.modWring w f).wring n = s.wring n := nth_modify_of_ne _ f ne

/-- A field of the ring that an update leaves. -/
theorem wring_modWring_fixed {β : Type} (g : WitRing → β) {f : WitRing → WitRing} (hf : ∀ x, g (f x) = g x) (s : State) (w n : Nat) :
    g ((s.modWring w f).wring n) = g (s.wring n) := nth_modify_fixed g hf _ w n

/-- A seal's start leaves of a ring all but the count of its entries since a seal, and of its command only that it has been taken up. -/
theorem sealStart_wring {β : Type} (g : WitRing → β) (hg : ∀ x, g { x with sinceSeal := 0, sealCmd := x.sealCmd.map fun _ => true } = g x) (s : State)
    (n : Nat) : g ((sealStart s).wring n) = g (s.wring n) := by
  unfold sealStart
  split
  · exact wring_modWring_fixed g hg ..
  · rfl

theorem sealTrigger_wring {β : Type} (g : WitRing → β) (hg : ∀ x, g { x with sinceSeal := 0, sealCmd := x.sealCmd.map fun _ => true } = g x) (w : Nat)
    (s : State) (n : Nat) : g ((sealTrigger w s).wring n) = g (s.wring n) :=
  sealStart_wring g hg _ n

theorem closeGo_wring {β : Type} (g : WitRing → β) (hg : ∀ x, g { x with sinceSeal := 0, sealCmd := x.sealCmd.map fun _ => true } = g x) (w : Nat)
    (s : State) (n : Nat) : g ((closeGo w s).wring n) = g (s.wring n) := by
  unfold closeGo
  split
  · exact sealTrigger_wring g hg ..
  · rfl

/-! Claimed pages: a claim is of the list of claimed pages and of the units that drain, and no access depends on it. -/

theorem joinDrains_mem (ks : List Nat) (s : State) : ∃ l, joinDrains ks s = s.modMem fun m => { m with units := l } := by
  have join (k : Nat) (u : State) : ∃ l, (if (u.memUnit (pageEnt u k).unit).st = .draining
      then u.modMemUnit (pageEnt u k).unit fun x => { x with moving := addNew x.moving k } else u) = u.modMem fun m => { m with units := l } := by
    split
    · exact ⟨_, rfl⟩
    · exact ⟨u.mem.units, rfl⟩
  unfold joinDrains
  induction ks generalizing s with
  | nil => exact ⟨s.mem.units, rfl⟩
  | cons k ks ih =>
    obtain ⟨l, hl⟩ := join k s
    obtain ⟨r, hr⟩ := ih (s.modMem fun m => { m with units := l })
    exact ⟨r, (congrArg (each ks _) hl).trans hr⟩

theorem joinDrains_st (ks : List Nat) (s : State) (n : Nat) : ((joinDrains ks s).memUnit n).st = (s.memUnit n).st := by
  refine each_fixed ks (fun u : State => (u.memUnit n).st) (fun k u => ?_) s
  dsimp only
  split
  · exact nth_modify_fixed MemUnit.st (f := fun x => { x with moving := addNew x.moving k }) (fun _ => rfl) ..
  · rfl

theorem claimPages_claimed (ks : List Nat) (s : State) (k : Nat) (hk : k ∈ ks) : k ∈ (claimPages ks s).mem.claimed := by
  obtain ⟨l, hl⟩ := joinDrains_mem ks (s.modMem fun m => { m with claimed := m.claimed ++ ks.filter (fun k => !m.claimed.contains k) })
  rw [claimPages, hl]
  by_cases c : s.mem.claimed.contains k = true
  · exact List.mem_append_left _ (List.contains_iff_mem.1 c)
  · exact List.mem_append_right _ (List.mem_filter.2 ⟨hk, by simpa using c⟩)

/-- Accesses depend on the pages, on what is marked, and on which units are out. -/
theorem accessCode_modMem {f : Mem → Mem} (remap : (f s.mem).remap = s.mem.remap) (lost : (f s.mem).lostUnits = s.mem.lostUnits)
    (data : (f s.mem).dataLost = s.mem.dataLost) (bad : (f s.mem).bad = s.mem.bad) (out : ∀ n, ((s.modMem f).memUnit n).st = (s.memUnit n).st)
    (wr : Bool) (a n : Nat) : accessCode (s.modMem f) wr a n = accessCode s wr a n := by
  have pages (k : Nat) : pageEnt (s.modMem f) k = pageEnt s k := by simp only [pageEnt, State.modMem_mem, remap, lost]
  have units (x : Nat) : unitCode (s.modMem f) wr a n x = unitCode s wr a n x := by
    have placed : place (s.modMem f) (64 * x) = place s (64 * x) := rfl
    have canonical : canon (s.modMem f) (64 * x) = canon s (64 * x) := rfl
    simp only [unitCode, placed, canonical, pages, out, State.modMem_mem, data, bad]
    rfl
  have same : unitCode (s.modMem f) wr a n = unitCode s wr a n := funext units
  rw [accessCode, same, accessCode]

theorem accessCode_claimPages (ks : List Nat) (s : State) (wr : Bool) (a n : Nat) : accessCode (claimPages ks s) wr a n = accessCode s wr a n := by
  have st := joinDrains_st ks (s.modMem fun m => { m with claimed := m.claimed ++ ks.filter (fun k => !m.claimed.contains k) })
  obtain ⟨l, hl⟩ := joinDrains_mem ks (s.modMem fun m => { m with claimed := m.claimed ++ ks.filter (fun k => !m.claimed.contains k) })
  rw [claimPages, hl]
  rw [hl] at st
  exact accessCode_modMem (s := s) (f := fun m => { m with claimed := m.claimed ++ ks.filter (fun k => !m.claimed.contains k), units := l })
    rfl rfl rfl rfl st wr a n

end Sys2Proof.Machine
end

section
/-! PROOFS. O51: channels, rings, Witness rings and security (15 R421, R423, R434, R599; 20 R542, R545, R549; 21 R559, R564, R565;
logs 36, 39). -/

namespace Sys2Proof.Machine

section
variable {s t : State} {h : CmdHdr} {n : Nat} {g : RqRing}

/-! Channels (15 R421, R599). -/

/-- A channel with the settings of a CHANNEL_CONFIGURE; what it holds stays. -/
def configured (v f m d k : Nat) (c : Chan) : Chan :=
  { c with rcv := rcvOf v, shared := bit f 0, classMatch := bit f 1, enabled := bit f 2, smatch := m, rdest := d, rchan := k }

theorem execChannelConfigure_sets {v f m d k : Nat} (go : GwGo s h true 0 (objChan n)) (here : n < nChans s) (hv : v ≤ 3) (hf : f ≤ 7) (hk : k < 1024)
    (local_ : v ≠ 3 → d = 0 ∧ k = 0) (open_ : 2 ≤ v → secureEnd s ≤ n) : ∃ x, execChannelConfigure h n v f m d k s
      = .next ((finish 0x0701 h (s.chan h.chan).mseq .ok [] [] (s.modMbx x)).setChan n
        (configured v f m d k ((finish 0x0701 h (s.chan h.chan).mseq .ok [] [] (s.modMbx x)).chan n)))
      ∧ (n ≠ h.chan → (s.modMbx x).chan n = s.chan n) := by
  have legal (x : Mbx → Mbx) : ¬ (nChans (s.modMbx x) ≤ n ∨ 3 < v ∨ 7 < f ∨ 1024 ≤ k ∨ (v ≠ 3 ∧ (d ≠ 0 ∨ k ≠ 0)) ∨ (2 ≤ v ∧ n < secureEnd (s.modMbx x))) := by
    rintro (c | c | c | c | ⟨c, e⟩ | ⟨c, e⟩)
    · exact absurd here (Nat.not_lt.2 c)
    · omega
    · omega
    · omega
    · obtain ⟨hd, hk⟩ := local_ c
      omega
    · exact absurd e (Nat.not_lt.2 (open_ c))
  obtain ⟨serves, place, free, checks⟩ := go
  obtain ⟨x, hx⟩ := cmdTaken_eq_modMbx h s
  refine ⟨x, ?_, fun ne => ?_⟩
  · refine (gwCommand_begins serves place free).trans ?_
    rw [if_pos checks, hx]
    dsimp only
    rw [if_neg (legal x)]
    rfl
  · rw [← hx]
    unfold cmdTaken
    split
    · exact chan_setChan_of_ne ne ..
    · rfl

/-! Rings (15 R423, R434). -/

theorem mget_map_fixed {α β : Type} (g : α → β) {f : Nat × α → Nat × α} (hk : ∀ p, (f p).1 = p.1) (hg : ∀ p, g (f p).2 = g p.2) (l : List (Nat × α)) (n : Nat) :
    (mget (l.map f) n).map g = (mget l n).map g := by
  induction l with
  | nil => rfl
  | cons p l ih =>
    have mapped : (mget (((f p).1, (f p).2) :: l.map f) n).map g = (mget ((p.1, p.2) :: l) n).map g := by
      simp only [mget, hk]
      split
      · exact congrArg some (hg p)
      · exact ih
    exact mapped

/-- Marking rings FAILED changes nothing else of them. -/
theorem mget_markFailed {β : Type} (g : RqRing → β) (hg : ∀ x, g { x with failed := true } = g x) (c : Nat × RqRing → Bool) (l : List (Nat × RqRing)) (n : Nat) :
    (mget (l.map fun p => if c p then (p.1, { p.2 with failed := true }) else p) n).map g = (mget l n).map g := by
  refine mget_map_fixed g (fun p => ?_) (fun p => ?_) _ n
  · split <;> rfl
  · split
    · exact hg p.2
    · rfl

/-- The check of lost pages marks rings FAILED and changes nothing else of them. -/
theorem ringsCheck_ring {β : Type} (g : RqRing → β) (hg : ∀ x, g { x with failed := true } = g x) (s : State) (n : Nat) :
    ((ringsCheck s).ring n).map g = (s.ring n).map g := mget_markFailed g hg _ s.rings.rings n

/-- A ring created empty, its completions in memory. -/
def newRing (o sl lg no db rq cq m : Nat) (ds : List (Nat × Nat)) : RqRing :=
  { owner := o, slots := BitVec.ofNat 8 sl, log2size := lg, rqBase := rq, cqBase := cq, cqChan := none, notify := no == 1, dbChavi := db == 1
    dbSrc := ds, tmo := m }

/-- The effect of RING_CREATE: its completion ring cleared, the ring there. -/
def ringCreated (n o sl lg no db rq cq m : Nat) (ds : List (Nat × Nat)) (s : State) : State :=
  ringsCheck ((memZero s cq (64 * 2 ^ lg)).modRings fun x => { x with rings := mset x.rings n (newRing o sl lg no db rq cq m ds) })

theorem ringCreated_ring {β : Type} {o sl lg no db rq cq m : Nat} {ds : List (Nat × Nat)} (g : RqRing → β) (hg : ∀ x, g { x with failed := true } = g x) :
    ((ringCreated n o sl lg no db rq cq m ds s).ring n).map g = some (g (newRing o sl lg no db rq cq m ds)) := by
  rw [ringCreated, ringsCheck_ring g hg]
  exact congrArg (Option.map g) (mget_mset_self _ n _)

theorem execRingCreate_creates {o sl lg no db rq cq m : Nat} {ds : List (Nat × Nat)} (go : GwGo s h false 0 (objRing n)) (hn : n < 65536) (ho : o < 12)
    (hl : lg ≤ 12) (fields : ringFields sl no db ds m = true) (extents : ∀ g ∈ ringExtents true rq cq (64 * 2 ^ lg),
      ringBase s g.1 g.2 = true ∧ rangeAbsent s g.1 = false ∧ extentClaimed s g.1 g.2 = true) (absent : s.ring n = none)
    (room : countIf (fun p => p.2.owner == o) s.rings.rings < 8192) (served : rowIsOut s o = false) (lit : rowIsDark s o = false)
    (slots : ∀ c, c < 8 → bit sl c = true → prmPos s o c ≠ none) (zero : accessCode s true cq (64 * 2 ^ lg) = .ok) :
    ∃ t x, execRingCreate h n o sl lg 0 0 no db rq cq ds m s = .next t ∧ Replied s t h 0x0702 .ok [] []
      ∧ Keeps gwF (ringCreated n o sl lg no db rq cq m ds (s.modMbx x)) t := by
  refine gwCommand_answers (e := ringCreated n o sl lg no db rq cq m ds) go (fun x => ?_) fun x => ?_
  · have based : (ringExtents true rq cq (64 * 2 ^ lg)).any (fun g => !ringBase (s.modMbx x) g.1 g.2) = false :=
      List.any_eq_false.2 fun g hg => by simp [show ringBase (s.modMbx x) g.1 g.2 = true from (extents g hg).1]
    have present : (ringExtents true rq cq (64 * 2 ^ lg)).any (fun g => rangeAbsent (s.modMbx x) g.1) = false :=
      List.any_eq_false.2 fun g hg => by simp [show rangeAbsent (s.modMbx x) g.1 = false from (extents g hg).2.1]
    have claimed : (ringExtents true rq cq (64 * 2 ^ lg)).any (fun g => !extentClaimed (s.modMbx x) g.1 g.2) = false :=
      List.any_eq_false.2 fun g hg => by simp [show extentClaimed (s.modMbx x) g.1 g.2 = true from (extents g hg).2.2]
    have free : ((s.modMbx x).ring n).isSome = false := by rw [show (s.modMbx x).ring n = none from absent]; rfl
    have bound : (List.range 8).any (fun c => bit sl c && (prmPos (s.modMbx x) o c).isNone) = false := by
      refine List.any_eq_false.2 fun c hc => ?_
      have placed := slots c (List.mem_range.1 hc)
      simpa [Option.isNone_iff_eq_none] using placed
    have kept : ¬ (65536 ≤ n ∨ 12 ≤ o ∨ 12 < lg) := by omega
    simp only [not_or] at kept
    simp only [beq_self_eq_true, kept, fields, based, present, claimed, free, served, modMbx_rowIsOut, modMbx_rowIsDark, bound, lit,
      show accessCode (s.modMbx x) true cq (64 * 2 ^ lg) = .ok from zero, Nat.not_le.2 room, State.modMbx_rings]
    simp [ringCreated, newRing]
  · exact congrArg Clk.tb ((by simp [ringCreated] : Keeps [.rings, .mem] (s.modMbx x) (ringCreated n o sl lg no db rq cq m ds (s.modMbx x))) .clk (by decide))

theorem execRingDestroy_busy (go : GwGo s h false 0 (objRing n)) (hg : s.ring n = some g) (busy : ringBusy s n g = true) :
    ∃ t, execRingDestroy h n s = .next t ∧ Replied s t h 0x0703 .unitBusy [] [] ∧ Keeps gwF s t :=
  gwCommand_refuses go fun x => by
    rw [show (s.modMbx x).ring n = some g from hg]
    exact if_pos busy

theorem execRingDestroy_absent (go : GwGo s h false 0 (objRing n)) (hg : s.ring n = none) :
    ∃ t, execRingDestroy h n s = .next t ∧ Replied s t h 0x0703 .ringUnknown [] [] ∧ Keeps gwF s t :=
  gwCommand_refuses go fun x => by rw [show (s.modMbx x).ring n = none from hg]

/-- A command whose whole effect is an update of the ring engine. -/
theorem gwCommand_sets_rings {sec : Bool} {op need o : Nat} {self : Instr} {body : State → Done} {f : Rings → Rings} (go : GwGo s h sec need o)
    (hb : ∀ m, body (s.modMbx m) = .now .ok [] [] ((s.modMbx m).modRings f)) :
    ∃ t, gwCommand self h op sec need o body s = .next t ∧ Replied s t h op .ok [] [] ∧ t.rings = f s.rings ∧ Keeps (.rings :: gwF) s t := by
  obtain ⟨t, m, run, replied, kept⟩ := gwCommand_answers (self := self) (op := op) (e := (·.modRings f)) go hb (fun _ => rfl)
  exact ⟨t, run, replied, kept .rings (by decide), Keeps.trans (t := (s.modMbx m).modRings f) (by simp [gwF]) (kept.mono (by decide))⟩

theorem execRingDestroy_destroys (go : GwGo s h false 0 (objRing n)) (hg : s.ring n = some g) (idle : ringBusy s n g = false) :
    ∃ t, execRingDestroy h n s = .next t ∧ Replied s t h 0x0703 .ok [] [] ∧ t.rings = { s.rings with rings := mdel s.rings.rings n } ∧ Keeps (.rings :: gwF) s t :=
  gwCommand_sets_rings (f := fun m => { m with rings := mdel m.rings n }) go fun x => by
    rw [show (s.modMbx x).ring n = some g from hg]
    exact if_neg (by rw [show ringBusy (s.modMbx x) n g = false from idle]; decide)

/-- A ring with the settings of a RING_MODIFY. -/
def modified (sl no db m : Nat) (ds : List (Nat × Nat)) (g : RqRing) : RqRing :=
  { g with slots := BitVec.ofNat 8 sl, notify := no == 1, dbChavi := db == 1, dbSrc := ds, tmo := m }

theorem execRingModify_modifies {sl no db m : Nat} {ds : List (Nat × Nat)} (go : GwGo s h false 0 (objRing n)) (hg : s.ring n = some g)
    (fields : ringFields sl no db ds m = true) : ∃ t, execRingModify h n sl no db ds m s = .next t ∧ Replied s t h 0x0704 .ok [] []
      ∧ t.rings = (s.modRing n (modified sl no db m ds)).rings ∧ Keeps (.rings :: gwF) s t :=
  gwCommand_sets_rings (f := fun x => { x with rings := mmod x.rings n (modified sl no db m ds) }) go fun x => by
    rw [if_neg (by simp [fields]), show (s.modMbx x).ring n = some g from hg]
    rfl

end

section
variable {s t : State} {h : CmdHdr} {w : Nat}

/-! Witness rings (20 R542, R545, R549). -/

/-- The effect of opening a Witness ring. -/
def witOpening (w p f n th b l : Nat) (s : State) : State :=
  memZero ((claimPages (pagesOf s b l) s).modWring w fun _ => witOpened (claimPages (pagesOf s b l) s) p f n th b l) b 64

theorem memZero_wring (s : State) (a n w : Nat) : (memZero s a n).wring w = s.wring w := rfl

theorem memZero_claimed (s : State) (a n : Nat) : (memZero s a n).mem.claimed = s.mem.claimed := rfl

theorem witOpening_keeps (w p f n th b l : Nat) (s : State) : Keeps [.mem, .wit] s (witOpening w p f n th b l s) := by simp [witOpening]

theorem witOpening_wring {p f n th b l : Nat} (hw : w < s.wit.rings.length) :
    (witOpening w p f n th b l s).wring w = witOpened (claimPages (pagesOf s b l) s) p f n th b l := by
  have wit : (claimPages (pagesOf s b l) s).wit = s.wit := ((keeps_claimPages (sz := s) _ _ (List.Subset.refl _)).2 Keeps.rfl' .wit (by decide) :)
  rw [witOpening, memZero_wring, wring_modWring_self _ (by rw [wit]; exact hw)]

theorem witOpening_claimed {p f n th b l k : Nat} (hk : k ∈ pagesOf s b l) : k ∈ (witOpening w p f n th b l s).mem.claimed := by
  rw [witOpening, memZero_claimed, State.modWring, State.modWit_mem]
  exact claimPages_claimed _ s k hk

theorem witOpenGo_opens {p f n th b l : Nat} (zero : accessCode s true b 64 = .ok) :
    witOpenGo w p f n th b l s = .later wOpen w (witOpening w p f n th b l s) := by
  have written (u : State) (g : WitRing → WitRing) : accessCode (u.modWring w g) true b 64 = accessCode u true b 64 := rfl
  unfold witOpenGo
  dsimp only
  rw [written, accessCode_claimPages, zero]
  rfl

theorem execWitnessRing_opens {p f n th b l : Nat} (go : GwGo s h false 0 (objWit w)) (hw : w < 16) (fitted : hasWitness s = true) (opens : l ≠ 0)
    (legal : witLegal s p f n th b l = true) (present : rangeAbsent s b = false) (closed : (s.wring w).st = .closed)
    (free : ∀ k ∈ pagesOf s b l, k ∉ s.mem.claimed ∧ (pageEnt s k).st ≠ .borrowed) (zero : accessCode s true b 64 = .ok) :
    ∃ t x, execWitnessRing h w p f n th b l s = .next t ∧ Accepted s t h 0x0901 wOpen w (objWit w) ∧ Keeps [.gw] (witOpening w p f n th b l (s.modMbx x)) t := by
  refine gwCommand_accepts (e := witOpening w p f n th b l) go (fun x => ?_) fun x => (witOpening_keeps w p f n th b l (s.modMbx x)) .gw (by decide)
  have unclaimed : (pagesOf (s.modMbx x) b l).any (fun k => (s.modMbx x).mem.claimed.contains k || (pageEnt (s.modMbx x) k).st == .borrowed) = false := by
    refine List.any_eq_false.2 fun k hk => ?_
    obtain ⟨claim, lent⟩ := free k hk
    have lent : (pageEnt (s.modMbx x) k).st ≠ .borrowed := lent
    simp [claim, lent]
  have hasUnit : hasWitness (s.modMbx x) = true := fitted
  have off : ((s.modMbx x).wring w).st = .closed := closed
  have placed : rangeAbsent (s.modMbx x) b = false := present
  have fields : witLegal (s.modMbx x) p f n th b l = true := legal
  rw [if_neg (by simp [fields]; omega), if_neg (by simp [hasUnit, placed]), if_neg opens, if_neg (not_or.2 ⟨not_not.2 off, by rw [unclaimed]; decide⟩)]
  exact witOpenGo_opens zero

theorem witClose_keeps (w : Nat) (s : State) : Keeps [.wit] s (witClose w s) := by simp

theorem execWitnessRing_closes {p f n th b : Nat} (go : GwGo s h false 0 (objWit w)) (hw : w < 16) (fitted : hasWitness s = true)
    (opened : (s.wring w).st = .opened) : ∃ t x, execWitnessRing h w p f n th b 0 s = .next t ∧ Accepted s t h 0x0901 wClose w (objWit w)
      ∧ Keeps [.gw] (witClose w (s.modMbx x)) t := by
  refine gwCommand_accepts (e := witClose w) go (fun x => ?_) fun x => witClose_keeps w (s.modMbx x) .gw (by decide)
  have hasUnit : hasWitness (s.modMbx x) = true := fitted
  rw [if_neg (by simp; omega), if_neg (by simp [hasUnit]), if_pos rfl, show ((s.modMbx x).wring w).st = .opened from opened]

theorem witClose_st (hw : w < s.wit.rings.length) : ((witClose w s).wring w).st = .closing := by
  refine (closeGo_wring WitRing.st (fun _ => rfl) w _ w).trans ?_
  rw [wring_modWring_self _ hw]

/-- The effect of WITNESS_SEAL: the command waits on its ring, and a seal is triggered. -/
def sealing (w : Nat) (s : State) : State := sealTrigger w (s.modWring w fun g => { g with sealCmd := some false })

theorem sealing_keeps (w : Nat) (s : State) : Keeps [.wit] s (sealing w s) := by simp [sealing]

theorem execWitnessSeal_seals (go : GwGo s h false 0 (objWit w)) (hw : w < 16) (fitted : hasWitness s = true) (opened : (s.wring w).st = .opened) :
    ∃ t x, execWitnessSeal h w s = .next t ∧ Accepted s t h 0x0902 wSeal w (objWit w) ∧ Keeps [.gw] (sealing w (s.modMbx x)) t := by
  refine gwCommand_accepts (e := sealing w) go (fun x => ?_) fun x => sealing_keeps w (s.modMbx x) .gw (by decide)
  rw [if_neg (by omega), if_neg (by simp [show hasWitness (s.modMbx x) = true from fitted]),
    if_neg (by simp [show ((s.modMbx x).wring w).st = .opened from opened])]
  rfl

theorem sealing_sealCmd (hw : w < s.wit.rings.length) : ((sealing w s).wring w).sealCmd.isSome = true := by
  refine (sealTrigger_wring (·.sealCmd.isSome) (fun _ => Option.isSome_map) w _ w).trans ?_
  rw [wring_modWring_self _ hw]
  rfl

theorem execWitnessSeal_refuses (go : GwGo s h false 0 (objWit w)) (hw : w < 16) (fitted : hasWitness s = true) (off : (s.wring w).st ≠ .opened) :
    ∃ t, execWitnessSeal h w s = .next t ∧ Replied s t h 0x0902 .unitBusy [] [] ∧ Keeps gwF s t :=
  gwCommand_refuses go fun x => by
    rw [if_neg (by omega), if_neg (by simp [show hasWitness (s.modMbx x) = true from fitted]), if_pos (show ((s.modMbx x).wring w).st ≠ .opened from off)]

/-! Quotes, tokens and records (21 R559, R564, R565). -/

theorem execAttestQuote_waits {x : List Byte} (go : GwGo s h false (384 + 96 * s.sec.log.length + 49856) 0) :
    ∃ t m, execAttestQuote h x s = .next t ∧ Accepted s t h 0x0A01 wQuote s.gw.nextId 0 ∧ Keeps [.gw] ((s.modMbx m).modSec fun y => { y with
      quotes := y.quotes ++ [{ cmd := s.gw.nextId, resptr := h.resptr, body := quoteHeader s x ++ s.sec.log.flatMap MeasEnt.bytes }] }) t :=
  gwCommand_accepts (e := fun u => u.modSec fun y => { y with
    quotes := y.quotes ++ [{ cmd := s.gw.nextId, resptr := h.resptr, body := quoteHeader s x ++ s.sec.log.flatMap MeasEnt.bytes }] })
    go (fun _ => rfl) fun _ => rfl

theorem measure_scope (event arg detail : Nat) (digest : List Byte) (s : State) : (measure event arg detail digest s).sec.scope = s.sec.scope := by
  unfold measure
  dsimp only [State.modSec_sec]
  split
  · split <;> rfl
  · rfl

section
variable {x g : List Byte}

theorem execDebugUnlock_refuses {c : Code} (go : GwGo s h false 0 objDevice) (hc : tokenCheck s x g = c) (bad : c ≠ .ok) :
    ∃ m, execDebugUnlock h x g s = .next (finish 0x0A02 h (s.chan h.chan).mseq c [] [] (s.modMbx m)) :=
  gwCommand_finishes (e := id) go fun m => by
    rw [show tokenCheck (s.modMbx m) x g = c from hc]
    split
    · exact absurd rfl bad
    · rfl

/-- A valid token: its scope joins the scope in force, and it is measured. -/
def unlocked (x : List Byte) (s : State) : State :=
  measure 0x07 (field x 7 1) 0 (Config.shake256 x) (s.modSec fun y => { y with scope := s.sec.scope ||| BitVec.ofNat 3 (field x 7 1) })

theorem unlocked_scope : (unlocked x s).sec.scope = s.sec.scope ||| BitVec.ofNat 3 (field x 7 1) := measure_scope ..

theorem execDebugUnlock_unlocks (go : GwGo s h false 0 objDevice) (ok : tokenCheck s x g = .ok) :
    ∃ m, execDebugUnlock h x g s = .next (finish 0x0A02 h (s.chan h.chan).mseq .ok [] [] (unlocked x (s.modMbx m))) :=
  gwCommand_finishes (e := unlocked x) go fun m => by rw [show tokenCheck (s.modMbx m) x g = .ok from ok]; rfl

theorem execKeyRevoke_refuses {c : Code} (go : GwGo s h true 0 objDevice) (hc : revokeCheck s x g = c) (bad : c ≠ .ok) :
    ∃ t, execKeyRevoke h x g s = .next t ∧ Replied s t h 0x0A03 c [] [] ∧ Keeps gwF s t :=
  gwCommand_refuses go fun m => by
    rw [show revokeCheck (s.modMbx m) x g = c from hc]
    split
    · exact absurd rfl bad
    · rfl

/-- A valid record: its key is revoked, and it is measured. -/
def revoked (x : List Byte) (s : State) : State :=
  measure 0x08 (field x 6 1) 0 (Config.shake256 x) (s.modFuse fun f => { f with keyRev := setBit f.keyRev (field x 6 1) })

theorem execKeyRevoke_revokes (go : GwGo s h true 0 objDevice) (ok : revokeCheck s x g = .ok) :
    ∃ m, execKeyRevoke h x g s = .next (finish 0x0A03 h (s.chan h.chan).mseq .ok [] [] (revoked x (s.modMbx m))) :=
  gwCommand_finishes (e := revoked x) go fun m => by rw [show revokeCheck (s.modMbx m) x g = .ok from ok]; rfl

end

end

/-- Settles O51: each command's answer, and the one thing its meaning updates. -/
theorem channelRingAndSecurityCommands : Obligations.ChannelRingAndSecurityCommands := by
  unfold Obligations.ChannelRingAndSecurityCommands
  refine ⟨?channel, ?create, fun s h n g go hg => ⟨fun idle => ?destroy, fun busy => execRingDestroy_busy go hg busy, fun sl no db ds m fields => ?modify⟩,
    fun s h n go hg => execRingDestroy_absent go hg, fun s h w go hw here fitted => ⟨?opens, fun opened => ?closes, fun opened => ?seals,
    fun off => execWitnessSeal_refuses go hw fitted off⟩, fun s h x go => ?quote, fun s h x g go => ?unlock, fun s h x g go => ?revoke⟩
  case channel =>
    intro s h n v f m d k go here hv hf hk local_ open_
    obtain ⟨x, run, taken⟩ := execChannelConfigure_sets (m := m) go here hv hf hk local_ open_
    refine ⟨_, run, finish_replied (s := s) _ .ok [] rfl, ?_⟩
    rw [chan_setChan_self]
    refine ⟨rfl, rfl, rfl, rfl, rfl, rfl, rfl, fun command reply => ?_⟩
    have held := (finish_chan_of_ne command reply .ok [] (s.modMbx x) (op := 0x0701) (mseq := (s.chan h.chan).mseq)).trans (taken command)
    exact ⟨(congrArg Chan.full held :), (congrArg Chan.msg held :)⟩
  case create =>
    intro s h n o sl lg no db rq cq m ds go hn ho hl fields extents absent room served lit slots zero
    obtain ⟨t, x, run, replied, kept⟩ := execRingCreate_creates go hn ho hl fields extents absent room served lit slots zero
    have rings := congrArg Rings.rings (kept .rings (by decide) : t.rings = _)
    refine ⟨t, run, replied, ?_, ?_, ?_, ?_⟩
    · have checked : Keeps [.rings] (memZero (s.modMbx x) cq (64 * 2 ^ lg)) (ringCreated n o sl lg no db rq cq m ds (s.modMbx x)) := by simp [ringCreated]
      exact ((kept .mem (by decide)).trans (checked .mem (by decide))).trans (memWrite_mem_congr (t := s.modMbx x) (s := s) rfl rfl _ _)
    · exact Keeps.trans (t := ringCreated n o sl lg no db rq cq m ds (s.modMbx x)) (by simp [ringCreated, gwF]) (kept.mono (by decide))
    · rw [ring_of_rings rings]
      exact ringCreated_ring _ fun _ => rfl
    · rw [ring_of_rings rings]
      exact ringCreated_ring _ fun _ => rfl
  case destroy =>
    obtain ⟨t, run, replied, rings, kept⟩ := execRingDestroy_destroys go hg idle
    refine ⟨t, run, replied, ?_, kept⟩
    rw [State.ring, rings]
    exact (mget_mdel _ n n).trans (if_pos rfl)
  case modify =>
    obtain ⟨t, run, replied, rings, kept⟩ := execRingModify_modifies go hg fields
    exact ⟨t, run, replied, kept, (ring_of_rings (congrArg _ rings) n).trans (ring_modRing_self hg _)⟩
  case opens =>
    intro p f n th b l opens legal present closed free zero
    obtain ⟨t, x, run, accepted, kept⟩ := execWitnessRing_opens go hw fitted opens legal present closed free zero
    have ring := (wring_of_wit (congrArg Wit.rings (kept .wit (by decide))) w).trans (witOpening_wring (s := s.modMbx x) here)
    refine ⟨t, run, accepted, by rw [ring]; rfl, by rw [ring]; rfl, by rw [ring]; rfl, fun k hk => ?_⟩
    rw [congrArg Mem.claimed (kept .mem (by decide))]
    exact witOpening_claimed (s := s.modMbx x) hk
  case closes =>
    obtain ⟨t, x, run, accepted, kept⟩ := execWitnessRing_closes go hw fitted opened
    exact ⟨t, run, accepted, (congrArg WitRing.st (wring_of_wit (congrArg Wit.rings (kept .wit (by decide))) w)).trans (witClose_st (s := s.modMbx x) here)⟩
  case seals =>
    obtain ⟨t, x, run, accepted, kept⟩ := execWitnessSeal_seals go hw fitted opened
    exact ⟨t, run, accepted, by rw [wring_of_wit (congrArg Wit.rings (kept .wit (by decide)))]; exact sealing_sealCmd (s := s.modMbx x) here⟩
  case quote =>
    obtain ⟨t, m, run, accepted, kept⟩ := execAttestQuote_waits go
    refine ⟨t, run, accepted, ?_⟩
    rw [kept .sec (by decide)]
    simp
  case unlock =>
    by_cases ok : tokenCheck s x g = .ok
    · obtain ⟨m, run⟩ := execDebugUnlock_unlocks go ok
      refine ⟨_, run, ?_, ?_, ?_⟩
      · rw [ok]
        exact finish_replied _ .ok [] (congrArg Clk.tb (measure_keeps _ _ _ _ _ .clk (by decide)))
      · exact Keeps.trans (t := unlocked x (s.modMbx m)) (by simp [unlocked, gwF]) (finish_keeps _ _ _ _)
      · rw [if_pos ok]
        exact ⟨(finish_sent ..).scope.trans unlocked_scope, (finish_nmeas ..).trans (measure_nmeas ..)⟩
    · obtain ⟨m, run⟩ := execDebugUnlock_refuses go rfl ok
      refine ⟨_, run, finish_replied _ _ [] rfl, Keeps.trans (t := s.modMbx m) (by simp [gwF]) (finish_keeps _ _ _ _), ?_⟩
      rw [if_neg ok]
      exact ⟨(finish_sent ..).scope, (finish_sent ..).log⟩
  case revoke =>
    by_cases ok : revokeCheck s x g = .ok
    · obtain ⟨m, run⟩ := execKeyRevoke_revokes go ok
      have measured := measure_keeps 0x08 (field x 6 1) 0 (Config.shake256 x) ((s.modMbx m).modFuse fun f => { f with keyRev := setBit f.keyRev (field x 6 1) })
      refine ⟨_, run, ?_, ?_⟩
      · rw [ok]
        exact finish_replied _ .ok [] (congrArg Clk.tb (measured .clk (by decide)))
      · rw [if_pos ok]
        refine ⟨?_, (finish_nmeas ..).trans (measure_nmeas ..), ?_⟩
        · exact (finish_keeps _ _ _ (revoked x (s.modMbx m)) .fuse (by decide)).trans (measured .fuse (by decide))
        · exact Keeps.trans (t := revoked x (s.modMbx m)) (by simp [revoked, gwF]) ((finish_keeps _ _ _ _).mono (by decide))
    · obtain ⟨t, run, replied, kept⟩ := execKeyRevoke_refuses go rfl ok
      exact ⟨t, run, replied, by rw [if_neg ok]; exact kept⟩

end Sys2Proof.Machine
end

section
/-! PROOFS. O54: items, evaluation, stalled records, entries and seals of the Witness unit (20 R534, R536, R539 to R545, R548, R549;
logs 12, 66). -/

namespace Sys2Proof.Machine

variable {s t u : State} {w n i : Nat}

/-! What a completion that posts leaves: the completions that the unit holds, and the unit. -/

theorem writeCpl_witHeld (k : Nat) (e : List Byte) (s : State) : (writeCpl k e s).rings.witHeld = s.rings.witHeld := by
  unfold writeCpl
  split
  · rfl
  · have written (c : Prop) [Decidable c] (a : Nat) (l : List Byte) : (if c then memWrite s a l else s).rings.witHeld = s.rings.witHeld := by
      split <;> rfl
    dsimp only
    split
    · rw [chaviSend_rings]
      exact written _ _ _
    · exact written _ _ _

theorem postDevice_witHeld (k : Nat) (e : List Byte) (st : Nat) (s : State) : (postDevice k e st s).rings.witHeld = s.rings.witHeld := by
  unfold postDevice
  split
  · rfl
  · next g _ =>
    have delivered : (deliverCpl k g e st s).2.rings.witHeld = s.rings.witHeld := by
      unfold deliverCpl
      split
      · split
        · rfl
        · exact congrArg Rings.witHeld (mbxWrite_rings ..)
      · split
        · rfl
        · exact writeCpl_witHeld ..
    dsimp only
    split
    · rfl
    · split
      · rfl
      · split
        · next d => rwa [d] at delivered
        · rfl
        · exact congrArg Rings.witHeld (errRecord_rings ..)

theorem witPost_witHeld (c : WitCpl) (s : State) : (witPost c s).rings.witHeld = s.rings.witHeld := by
  unfold witPost
  split
  · exact postDevice_witHeld ..
  · rfl

theorem witPost_wit (c : WitCpl) (s : State) : (witPost c s).wit = s.wit :=
  ((keeps_witPost (sz := s) c s (List.Subset.refl _)).2 Keeps.rfl' .wit (by decide) :)

theorem witPost_wring (c : WitCpl) (s : State) (n : Nat) : (witPost c s).wring n = s.wring n := wring_of_wit (congrArg _ (witPost_wit c s)) n

theorem completeWait_wring (k a : Nat) (c : Code) (l d : List Byte) (s : State) (n : Nat) : (completeWait k a c l d s).wring n = s.wring n :=
  wring_of_wit (congrArg _ ((keeps_completeWait (sz := s) k a c l d s (List.Subset.refl _)).2 Keeps.rfl' .wit (by decide))) n

/-! Capture (20 R541). -/

theorem capture_witHeld (w : Nat) (e : WitEntry) (c : WitCpl) (s : State) : (capture w e c s).rings.witHeld = s.rings.witHeld := by
  unfold capture
  dsimp only
  split
  · exact witPost_witHeld ..
  · split
    · rfl
    · exact witPost_witHeld ..

theorem capture_items (w : Nat) (e : WitEntry) (c : WitCpl) (s : State) : (capture w e c s).wit.items = s.wit.items := by
  unfold capture
  dsimp only
  split
  · rw [witPost_wit]; rfl
  · split
    · rfl
    · rw [witPost_wit]; rfl

theorem capture_cnt (w : Nat) (e : WitEntry) (c : WitCpl) (s : State) (n : Nat) : ((capture w e c s).wring n).cnt = (s.wring n).cnt := by
  unfold capture
  dsimp only
  split
  · rw [witPost_wring, acceptRec]
    exact wring_modWring_fixed WitRing.cnt (by intro x; rfl) ..
  · split
    · exact wring_modWring_fixed WitRing.cnt (by intro x; rfl) ..
    · rw [witPost_wring, giveUp]
      exact wring_modWring_fixed WitRing.cnt (by intro x; rfl) ..

/-- A record that has room, with no other before it, is the last of the buffer. -/
theorem capture_buf {e : WitEntry} (hw : w < s.wit.rings.length) (idle : (s.wring w).heldRecs = []) (gap : (s.wring w).gap = none)
    (room : bufRoom s e.elen = true) (c : WitCpl) : ((capture w e c s).wring w).buf = (s.wring w).buf ++ [e] := by
  unfold capture
  simp only [idle, List.isEmpty_nil, room, Bool.and_self, if_true]
  rw [witPost_wring, acceptRec, wring_modWring_self _ hw, gap]
  exact congrArg (· ++ [e]) (List.append_nil _)

/-! Evaluation (20 R539, R540). -/

theorem nth_set_self {α : Type} [Inhabited α] {l : List α} (a : α) (h : n < l.length) : nth (l.set n a) n = a := by simp [nth, h]

/-- The state in which a completion posts, or is captured: its items consumed, its ring's counters as the predicates leave them. -/
def evaluated (w owner : Nat) (c : WitCpl) (s : State) : State :=
  let t := trailerOf c.entry
  let r := evalPreds (s.wring w) t ((s.wit.items.filter (links t owner)).filterMap (·.dec))
  s.modWit fun u => { u with
    items := u.items.filter (fun x => !links t owner x)
    lost := u.lost.filter (fun x => !links t owner { x with tag := 0 })
    late := if !itemsHere s t owner then u.late ++ [{ wring := w, drow := owner, ftag := t.ftag, bag0 := t.bag0, nbag := t.nbag
                                                      missing := t.nfetch - countIf (fun x => x.fetch.any (linksFetch t owner)) s.wit.items, tb := s.tb }] else u.late
    rings := u.rings.set w { r.2 with itemsLost := r.2.itemsLost + (s.wit.lost.filter (fun x => links t owner { x with tag := 0 })).length } }

theorem evalOn_eq (owner : Nat) (c : WitCpl) (own : w = (trailerOf c.entry).wring) (s : State) : evalOn w owner c s
    = if (evalOf s c owner).1 = 0 then witPost c (evaluated w owner c s)
      else capture w (recordOf s c owner) c ((evaluated w owner c s).modFresh (· + 3)) := by
  subst own
  rfl

theorem evaluated_wring (owner : Nat) (c : WitCpl) (own : w = (trailerOf c.entry).wring) (hw : w < s.wit.rings.length) : (evaluated w owner c s).wring w
    = { (evalOf s c owner).2 with itemsLost := (evalOf s c owner).2.itemsLost
        + (s.wit.lost.filter (fun x => links (trailerOf c.entry) owner { x with tag := 0 })).length } := by
  subst own
  exact nth_set_self _ hw

/-- The predicates change the counters of a ring alone. -/
theorem evalPreds_kept {β : Type} (f : WitRing → β) (hf : ∀ x k d, f { x with subj := d, cnt := k } = f x) (g : WitRing) (t : Trailer) (ds : List DItem) :
    f (evalPreds g t ds).2 = f g := hf g _ _

theorem evaluated_kept {β : Type} (f : WitRing → β) (hf : ∀ x k d, f { x with subj := d, cnt := k } = f x) (hl : ∀ x k, f { x with itemsLost := k } = f x)
    (owner : Nat) (c : WitCpl) (own : w = (trailerOf c.entry).wring) (hw : w < s.wit.rings.length) :
    f ((evaluated w owner c s).wring w) = f (s.wring w) := by
  rw [evaluated_wring owner c own hw, hl]
  subst own
  exact evalPreds_kept f hf ..

theorem map_set_fixed {α β : Type} [Inhabited α] (f : α → β) (l : List α) (a : α) (h : f a = f (nth l n)) : (l.set n a).map f = l.map f := by
  refine List.ext_getElem (by simp) fun k _ hk => ?_
  rw [List.length_map] at hk
  simp only [List.getElem_map, List.getElem_set]
  split
  · next e =>
    subst e
    rw [h, nth, List.getD_eq_getElem _ _ hk]
  · rfl

/-- An evaluation leaves the room in the buffer. -/
theorem bufRoom_evaluated (owner : Nat) (c : WitCpl) (k m : Nat) :
    bufRoom ((evaluated w owner c s).modFresh (· + m)) k = bufRoom s k := by
  have held : recBytes ((evaluated w owner c s).modFresh (· + m)) = recBytes s := by
    refine congrArg List.sum (map_set_fixed (fun g : WitRing => (g.buf.map WitEntry.elen).sum) s.wit.rings _ ?_)
    rfl
  rw [bufRoom, held, bufRoom]

theorem evalOn_witHeld (w owner : Nat) (c : WitCpl) (s : State) : (evalOn w owner c s).rings.witHeld = s.rings.witHeld := by
  unfold evalOn
  dsimp only
  split
  · exact witPost_witHeld ..
  · exact capture_witHeld ..

/-- However it is evaluated, a completion leaves those that the unit holds. -/
theorem evalCpl_witHeld (c : WitCpl) (s : State) : (evalCpl c s).rings.witHeld = s.rings.witHeld.erase c := by
  unfold evalCpl
  dsimp only
  split
  · split
    · exact evalOn_witHeld ..
    · rfl
  · exact witPost_witHeld ..

/-- A completion for a ring that is not OPEN posts at once, counted in DROPPED. -/
theorem evalCpl_dropped {c : WitCpl} (off : ¬ ((trailerOf c.entry).wring < 16 ∧ (s.wring (trailerOf c.entry).wring).st = .opened)) : (evalCpl c s).wit
    = (s.modWring (trailerOf c.entry).wring fun g => { g with dropped := g.dropped + 1 }).wit := by
  unfold evalCpl
  dsimp only
  split
  · next on => exact absurd on off
  · exact witPost_wit ..

/-- The state with a completion no longer held by the unit. -/
def released (c : WitCpl) (s : State) : State := s.modRings fun m => { m with witHeld := m.witHeld.erase c }

theorem evalCpl_opened {c : WitCpl} {g : RqRing} (own : w = (trailerOf c.entry).wring) (hw : w < 16) (opened : (s.wring w).st = .opened)
    (hg : s.ring c.ring = some g) : evalCpl c s = evalOn w g.owner c (released c s) := by
  subst own
  unfold evalCpl
  dsimp only
  refine (if_pos ⟨hw, opened⟩).trans ?_
  rw [show (s.modRings fun m => { m with witHeld := m.witHeld.erase c }).ring c.ring = some g from hg]
  rfl

section
variable {c : WitCpl} (hc : s.rings.witHeld[i]? = some c)
include hc

theorem execWitnessEvaluation_ready (up : s.rings.up = true) (ready : cplReady s c = true)
    (first : s.rings.witHeld.any (fun d => cplReady s d && cplBefore d c) = false) : exec (.witnessEvaluation i) s = .next (evalCpl c s) := by
  change execWitnessEvaluation i s = _
  unfold execWitnessEvaluation
  rw [hc]
  exact if_neg (by simp only [up, ready, first]; decide)

theorem execFetchItemWaitExpiry_due (up : s.rings.up = true) (waits : cplReady s c = false) (due : c.tb + 5000 ≤ s.tb) :
    exec (.fetchItemWaitExpiry i) s = .next (evalCpl c s) := by
  change execFetchItemWaitExpiry i s = _
  unfold execFetchItemWaitExpiry
  rw [hc]
  exact if_neg (by simp [up, waits]; omega)

theorem execFetchItemWaitExpiry_early (early : s.tb < c.tb + 5000) : exec (.fetchItemWaitExpiry i) s = .next s := by
  change execFetchItemWaitExpiry i s = _
  unfold execFetchItemWaitExpiry
  rw [hc]
  exact if_pos (.inr (.inr early))

end

/-! Items (20 R534, R536). -/

theorem execWitnessItem_comes {x : ItemHeld} (hx : s.wit.inbox[i]? = some x) (none_ : s.wit.late = []) :
    exec (.witnessItem i) s = if 0x600000 < itemBytes s + itemSize x
      then .next (s.modWit fun u => { u with inbox := u.inbox.eraseIdx i, lost := u.lost ++ [{ x with tb := s.tb }] })
      else .next (s.modWit fun u => { u with inbox := u.inbox.eraseIdx i, items := u.items ++ [{ x with tb := s.tb }] }) := by
  change execWitnessItem i s = _
  unfold execWitnessItem
  rw [hx]
  simp only [State.modWit_wit, none_, List.find?_nil]
  rfl

section
variable {x : ItemHeld} (hx : s.wit.items[i]? = some x)
include hx

theorem execWitnessItemExpiry_due (due : x.tb + 5000000 ≤ s.tb) : exec (.witnessItemExpiry i) s = .next (s.modWit fun u => { u with
    items := u.items.eraseIdx i
    lost := u.lost.filter (fun y => decide (s.tb < y.tb + 5000000)), late := u.late.filter (fun y => decide (s.tb < y.tb + 5000000)) }) := by
  change execWitnessItemExpiry i s = _
  unfold execWitnessItemExpiry
  rw [hx]
  exact if_neg (by omega)

theorem execWitnessItemExpiry_early (early : s.tb < x.tb + 5000000) : exec (.witnessItemExpiry i) s = .next s := by
  change execWitnessItemExpiry i s = _
  unfold execWitnessItemExpiry
  rw [hx]
  exact if_pos early

end

/-! Records held under STALL (20 R541). -/

section
variable {x : WitStalled} {l : List WitStalled} (hx : (s.wring w).heldRecs = x :: l)
include hx

theorem execStallHoldExpiry_due (due : x.since + 5000000 ≤ s.tb) : exec (.stallHoldExpiry w) s
    = .next (closeGo w (witPost x.cpl (errRecord { code := .capacityShort, unit := uSpine 1, op := 0, job := x.cpl.req.job, detail := w }
        (giveUp w (s.modWring w fun g => { g with heldRecs := l }))))) := by
  change execStallHoldExpiry w s = _
  unfold execStallHoldExpiry
  rw [hx]
  exact if_neg (by omega)

theorem execStallHoldExpiry_early (early : s.tb < x.since + 5000000) : exec (.stallHoldExpiry w) s = .next s := by
  change execStallHoldExpiry w s = _
  unfold execStallHoldExpiry
  rw [hx]
  exact if_pos early

end

theorem giveUp_wring (hw : w < s.wit.rings.length) : ((giveUp w s).wring w).heldRecs = (s.wring w).heldRecs
    ∧ ((giveUp w s).wring w).dropped = (s.wring w).dropped + 1 ∧ ((giveUp w s).wring w).gap.isSome = true := by
  rw [giveUp, wring_modWring_self _ hw]
  exact ⟨rfl, rfl, rfl⟩

/-! Entries and seals (20 R543, R548, R549). -/

/-- A ring but for its buffers and the triggers of its seals. -/
def WitRing.chain (g : WitRing) : WitRing := { g with buf := [], gap := none, heldRecs := [], sinceSeal := 0, sealCmd := none }

theorem WitRing.of_chain {a b : WitRing} (h : a.chain = b.chain) : a.produced = b.produced ∧ a.eseq = b.eseq ∧ a.lastChained = b.lastChained ∧ a.prev = b.prev
    ∧ a.st = b.st ∧ a.captured = b.captured ∧ a.sealedTo = b.sealedTo ∧ a.sealTb = b.sealTb := by
  simp only [WitRing.chain, WitRing.mk.injEq] at h
  simp [h]

theorem stallDrain_chain (k v : Nat) (s : State) (n : Nat) : ((stallDrain k v s).wring n).chain = (s.wring n).chain := by
  induction k generalizing s with
  | zero => rfl
  | succ k ih =>
    unfold stallDrain
    split
    · next x rest _ =>
      split
      · rw [ih, witPost_wring, acceptRec]
        refine (wring_modWring_fixed WitRing.chain (by intro x; rfl) ..).trans ?_
        exact wring_modWring_fixed WitRing.chain (by intro x; rfl) ..
      · rfl
    · rfl

/-- What follows a written entry leaves the chain. -/
theorem drained_chain (s : State) (w n : Nat) :
    ((closeGo w (each (List.range 16) (fun v s => stallDrain ((s.wring v).heldRecs.length) v s) s)).wring n).chain = (s.wring n).chain :=
  (closeGo_wring WitRing.chain (fun _ => rfl) w _ n).trans
    (each_fixed (List.range 16) (fun u : State => (u.wring n).chain) (fun v u => stallDrain_chain _ v u n) s)

/-- A ring with an entry written at PRODUCED. -/
def WitRing.put (g : WitRing) (m : Nat) : WitRing :=
  { g with produced := g.produced + padOf g m + m, eseq := g.eseq + 1
           bounds := g.bounds ++ (if padOf g m = 0 then [] else [g.produced + padOf g m]) ++ [g.produced + padOf g m + m] }

theorem putEntry_writes {l : List Byte} (hw : w < s.wit.rings.length) (ok : (putEntry w l s).1 = .ok) :
    ∃ t, putEntry w l s = (.ok, t) ∧ t.wit.rings.length = s.wit.rings.length ∧ t.wring w = (s.wring w).put l.length := by
  unfold putEntry at ok ⊢
  dsimp only at ok ⊢
  split at ok
  · refine ⟨_, rfl, ?_, ?_⟩
    · split <;> exact List.length_modify ..
    · have kept (c : Prop) [Decidable c] (a b d : Nat) (l k m : List Byte) :
          (memWrite (memWrite (if c then s else memWrite s a l) b k) d m).wit = s.wit := by split <;> rfl
      rw [wring_modWring_self _ (by rw [kept]; exact hw), wring_of_wit (congrArg _ (kept ..))]
      rfl
  · next bad => exact absurd ok bad

/-- A ring whose last chained entry is e, of those bytes and that ESEQ. -/
def WitRing.link (g : WitRing) (e : WitEntry) (l : List Byte) (n : Nat) : WitRing :=
  { g with prev := Config.shake256 l, lastChained := some n, sinceSeal := g.sinceSeal + 1, captured := g.captured + (if e.kind = 1 then 1 else 0)
           prevSeal := if e.kind = 4 then Config.shake256 l else g.prevSeal, st := if e.kind = 4 then .opened else g.st }

theorem chained_chain (e : WitEntry) (l : List Byte) (hw : w < s.wit.rings.length) :
    ((chained w e l n s).wring w).chain = ((s.wring w).link e l n).chain := by
  have opens (c : Prop) [Decidable c] (u : State) : (if c then completeWait wOpen w .ok [] [] u else u).wring w = u.wring w := by
    split
    · exact completeWait_wring ..
    · rfl
  have linked : (s.modWring w fun g => g.link e l n).wring w = (s.wring w).link e l n := wring_modWring_self _ hw
  have due (u : State) : ((if 4096 ≤ (u.wring w).sinceSeal then sealTrigger w u else u).wring w).chain = (u.wring w).chain := by
    split
    · exact sealTrigger_wring WitRing.chain (fun _ => rfl) ..
    · rfl
  exact (due _).trans (congrArg WitRing.chain ((opens (e.kind = 4) _).trans linked))

/-- The chain of a ring in which an entry was put, once it has left the buffer. -/
theorem written_chain (e : WitEntry) (l : List Byte) (hw : w < t.wit.rings.length) :
    ((closeGo w (each (List.range 16) (fun v s => stallDrain ((s.wring v).heldRecs.length) v s)
      (chained w e l n (t.modWring w fun y => if y.buf.isEmpty then { y with gap := none } else { y with buf := y.buf.tail })))).wring w).chain
      = ((t.wring w).link e l n).chain := by
  refine (drained_chain _ w w).trans ((chained_chain e l (by simpa [State.modWring] using hw)).trans ?_)
  rw [wring_modWring_self _ hw]
  split <;> rfl

theorem execWitnessEntryWrite_writes {e : WitEntry} (next_ : nextEntry s w = some e) (running : (s.wring w).st ≠ .failed)
    (fits : entryFits (s.wring w) e.elen (if e.kind = 3 then 50048 else 50048 + 128) = true) (path : pathUsable s (s.wring w).base = true)
    (put : putEntry w (e.bytes w (s.wring w)) s = (.ok, t)) : exec (.witnessEntryWrite w) s
      = .next (closeGo w (each (List.range 16) (fun v s => stallDrain ((s.wring v).heldRecs.length) v s)
        (chained w e (e.bytes w (s.wring w)) (s.wring w).eseq (t.modWring w fun y => if y.buf.isEmpty then { y with gap := none } else { y with buf := y.buf.tail })))) := by
  change execWitnessEntryWrite w s = _
  unfold execWitnessEntryWrite
  rw [next_]
  dsimp only
  rw [if_pos fits]
  simp only [running, fits, path, put, false_or, Bool.true_eq_false, if_false]

theorem execWitnessEntryWrite_none (none_ : nextEntry s w = none) : exec (.witnessEntryWrite w) s = .next s := by
  change execWitnessEntryWrite w s = _
  unfold execWitnessEntryWrite
  rw [none_]

/-- A trigger with no seal in the engine starts its own. -/
theorem sealTrigger_signing (idle : s.wit.signing = none) (empty : s.wit.sealQueue = []) :
    (sealTrigger w s).wit.signing.map (fun x => (x.ring, x.last)) = some (w, (s.wring w).lastChained) := by
  unfold sealTrigger sealStart addNew
  simp only [State.modWit_wit, idle, empty]
  rfl

/-- The state once the seal is in the ring. -/
def sealed (x : WitSign) (hd : List Byte) (tb : Nat) (t : State) : State :=
  (t.modWit fun u => { u with signing := none }).modWring x.ring fun g => { g with
    sealedTo := x.last, prevSeal := Config.shake256 hd, sealTb := tb, sealCmd := if (t.wring x.ring).sealCmd == some true then none else g.sealCmd
    st := if x.closed then .closed else g.st }

theorem sealed_wring {x : WitSign} {hd : List Byte} {tb : Nat} (hw : x.ring < t.wit.rings.length) :
    ((sealed x hd tb t).wring x.ring).sealedTo = x.last ∧ ((sealed x hd tb t).wring x.ring).sealTb = tb
      ∧ ((sealed x hd tb t).wring x.ring).eseq = (t.wring x.ring).eseq ∧ (x.closed = true → ((sealed x hd tb t).wring x.ring).st = .closed) := by
  rw [sealed, wring_modWring_self (s := t.modWit _) _ hw]
  exact ⟨rfl, rfl, rfl, fun closed => if_pos closed⟩

theorem execSealWrite_writes {x : WitSign} (hx : s.wit.signing = some x) (fits : entryFits (s.wring x.ring) 50048 0 = true)
    (path : pathUsable s (s.wring x.ring).base = true) (put : putEntry x.ring (sealHead s x ++ Config.slhSign s.fuse.seed (sealHead s x)) s = (.ok, t)) :
    ∃ a b : State → State, exec .sealWrite s = .next (closeGo x.ring (sealStart (b (a (sealed x (sealHead s x) s.tb t)))))
      ∧ (∀ u n, (a u).wring n = u.wring n) ∧ ∀ u n, (b u).wring n = u.wring n := by
  have waits (c : Bool) (k : Nat) (u : State) (n : Nat) : (if c then completeWait k x.ring .ok [] [] u else u).wring n = u.wring n := by
    split
    · exact completeWait_wring ..
    · rfl
  refine ⟨fun u => if (t.wring x.ring).sealCmd == some true then completeWait wSeal x.ring .ok [] [] u else u,
    fun u => if x.closed then completeWait wClose x.ring .ok [] [] u else u, ?_, waits _ _, waits _ _⟩
  change execSealWrite s = _
  unfold execSealWrite
  rw [hx]
  dsimp only
  rw [if_pos fits, if_neg (by simp [fits, path]), put]
  rfl

/-- Settles O54: what each event of the unit makes of its items, its held completions and its rings. -/
theorem witnessItemsRecordsAndSeals : Obligations.WitnessItemsRecordsAndSeals := by
  unfold Obligations.WitnessItemsRecordsAndSeals
  refine ⟨?_, ?_, ?_, ?_, ?_, ?_, fun s w none_ => execWitnessEntryWrite_none none_, ?_, ?_, ?_⟩
  · intro s i x hx none_
    rw [execWitnessItem_comes hx none_]
    exact ⟨fun room => ⟨_, if_neg (by omega), rfl, by simp⟩, fun full => ⟨_, if_pos full, rfl, by simp⟩⟩
  · intro s i x hx
    exact ⟨fun due => ⟨_, execWitnessItemExpiry_due hx due, rfl, rfl, by simp⟩, execWitnessItemExpiry_early hx⟩
  · intro s i c hc up ready first
    have run := execWitnessEvaluation_ready hc up ready first
    refine ⟨fun beyond all => ⟨_, run, evalCpl_witHeld .., ?_⟩, fun w own hw here off => ⟨_, run, evalCpl_witHeld .., ?_⟩,
      fun w g own hw here opened hg => ⟨_, run, evalCpl_witHeld .., ?_⟩⟩
    · rw [evalCpl_dropped (by omega), State.modWring, State.modWit_wit, List.modify_eq_self (by omega)]
    · subst own
      rw [wring_of_wit (congrArg _ (evalCpl_dropped fun c => off c.2))]
      exact wring_modWring_self _ here
    · rw [evalCpl_opened own hw opened hg, evalOn_eq g.owner c own]
      have evals : evalOf (released c s) c g.owner = evalOf s c g.owner := rfl
      have records : recordOf (released c s) c g.owner = recordOf s c g.owner := rfl
      have ring := evaluated_wring (s := released c s) g.owner c own here
      have buf := evaluated_kept (s := released c s) WitRing.buf (fun _ _ _ => rfl) (fun _ _ => rfl) g.owner c own here
      have held := evaluated_kept (s := released c s) WitRing.heldRecs (fun _ _ _ => rfl) (fun _ _ => rfl) g.owner c own here
      have gap := evaluated_kept (s := released c s) WitRing.gap (fun _ _ _ => rfl) (fun _ _ => rfl) g.owner c own here
      rw [evals, records]
      by_cases fires : (evalOf s c g.owner).1 = 0
      · rw [if_pos fires, witPost_wit, witPost_wring]
        exact ⟨rfl, (congrArg WitRing.cnt ring :), fun _ => buf, fun c => absurd fires c⟩
      · rw [if_neg fires, capture_items, capture_cnt]
        refine ⟨rfl, (congrArg WitRing.cnt ring :), fun c => absurd c fires, fun _ idle open_ room => ?_⟩
        have length : w < ((evaluated w g.owner c (released c s)).modFresh (· + 3)).wit.rings.length := by
          simpa [evaluated, released] using here
        exact (capture_buf length (held.trans idle) (gap.trans open_) ((bufRoom_evaluated (s := released c s) g.owner c _ 3).trans room) c).trans
          (congrArg (· ++ [recordOf s c g.owner]) buf)
  · intro s i c hc up waits
    exact ⟨fun due => ⟨_, execFetchItemWaitExpiry_due hc up waits due, evalCpl_witHeld ..⟩, execFetchItemWaitExpiry_early hc⟩
  · intro s w x l hx hw
    refine ⟨fun due => ⟨_, execStallHoldExpiry_due hx due, ?_⟩, execStallHoldExpiry_early hx⟩
    have length : w < (s.modWring w fun g => { g with heldRecs := l }).wit.rings.length := by simpa [State.modWring] using hw
    obtain ⟨held, dropped, gap⟩ := giveUp_wring length
    have recorded (r : Rec) (u : State) : (errRecord r u).wring w = u.wring w := wring_of_wit (congrArg _ (errRecord_keeps r u .wit (by decide))) w
    rw [closeGo_wring WitRing.heldRecs (fun _ => rfl), closeGo_wring WitRing.dropped (fun _ => rfl), closeGo_wring (·.gap.isSome) (fun _ => rfl),
      witPost_wring, recorded, held, dropped, wring_modWring_self _ hw]
    exact ⟨rfl, rfl, gap⟩
  · intro s w e g own hw next_ running fits path ok
    subst own
    obtain ⟨t, put, length, ring⟩ := putEntry_writes hw ok
    refine ⟨_, execWitnessEntryWrite_writes next_ running fits path put, ?_⟩
    have chain := written_chain (n := (s.wring w).eseq) e (e.bytes w (s.wring w)) (length ▸ hw)
    rw [ring] at chain
    obtain ⟨produced, eseq, last, prev, st, captured, -⟩ := WitRing.of_chain chain
    exact ⟨produced, eseq, last, prev, fun opens => st.trans (if_pos opens), fun record => captured.trans (congrArg ((s.wring w).captured + ·) (if_pos record))⟩
  · intro s w opened since idle empty
    refine ⟨fun due => ⟨_, if_pos ⟨opened, since, due⟩, sealTrigger_signing idle empty, by simp⟩, fun early => if_neg fun c => ?_⟩
    omega
  · intro s x hx hw fits path ok
    obtain ⟨t, put, length, ring⟩ := putEntry_writes hw ok
    obtain ⟨a, b, run, ha, hb⟩ := execSealWrite_writes hx fits path put
    have chain : ((closeGo x.ring (sealStart (b (a (sealed x (sealHead s x) s.tb t))))).wring x.ring).chain = ((sealed x (sealHead s x) s.tb t).wring x.ring).chain := by
      rw [closeGo_wring WitRing.chain (fun _ => rfl), sealStart_wring WitRing.chain (fun _ => rfl), hb, ha]
    obtain ⟨last, tb, eseq, st⟩ := sealed_wring (hd := sealHead s x) (tb := s.tb) (length ▸ hw)
    obtain ⟨-, eseq', -, -, st', -, last', tb'⟩ := WitRing.of_chain chain
    exact ⟨_, run, last'.trans last, tb'.trans tb, (eseq'.trans eseq).trans (congrArg WitRing.eseq ring), fun closed => st'.trans (st closed)⟩
  · intro s none_
    change execSealWrite s = _
    unfold execSealWrite
    rw [none_]

end Sys2Proof.Machine
end

section
/-! SUPPORT. Targeted tests (17 R475 to R478): the list of tests, what a completed command leaves of Gwynpin, and a wake of a row that
runs. -/

namespace Sys2Proof.Machine

variable {s t v : State} {u r i : Nat} {x : Test}

/-! The list of tests. -/

theorem test_of_gw (h : t.gw.tests = s.gw.tests) (u : Nat) : t.test u = s.test u := congrArg (fun l : List Test => l.find? fun y : Test => y.unit == u) h

theorem test_unit (hx : s.test u = some x) : x.unit = u := by simpa using List.find?_some hx

theorem find?_map_unit (f : Test → Test) (hf : ∀ y, (f y).unit = y.unit) (u : Nat) (l : List Test) :
    (l.map fun y => if y.unit = u then f y else y).find? (·.unit == u) = (l.find? (·.unit == u)).map f := by
  induction l with
  | nil => rfl
  | cons y l ih =>
    by_cases e : y.unit = u
    · simp [e, hf]
    · simp [e, ih]

/-- An update of a unit's test. -/
theorem test_modTest (f : Test → Test) (hf : ∀ y, (f y).unit = y.unit) (s : State) (u : Nat) : (s.modTest u f).test u = (s.test u).map f :=
  find?_map_unit f hf u s.gw.tests

/-- Records queue tests behind those that are queued. -/
theorem TestsQueued.test (h : TestsQueued s t) (hx : s.test u = some x) : t.test u = some x := by
  obtain ⟨l, hl⟩ := h
  rw [State.test, hl, List.find?_append]
  exact congrArg (Option.or · _) hx

/-! What a completed command leaves of Gwynpin (16 R438). -/

theorem completeWait_gw {α : Type} (f : Gw → α) (hf : ∀ g c j q y, f { g with cmds := c, journal := j, retries := q, lastReply := y } = f g) (w a : Nat)
    (c : Code) (l : List Byte) (s : State) : f (completeWait w a c l [] s).gw = f s.gw := by
  refine each_fixed _ (fun z : State => f z.gw) (fun k z => ?_) s
  unfold completeCmd
  dsimp only
  obtain ⟨q, y, e⟩ := finish_gw (op := k.opcode) (h := { chan := k.chan, ctag := k.ctag, rchan := k.rchan, resptr := k.resptr, resmax := k.resmax })
    k.mseq c l (z.modGw fun g => { g with cmds := g.cmds.filter (·.id != k.id), journal := g.journal.filter (· != k.id) })
  rw [e]
  exact hf z.gw _ _ q y

theorem completeWait_test (w a : Nat) (c : Code) (l : List Byte) (s : State) (u : Nat) : (completeWait w a c l [] s).test u = s.test u :=
  completeWait_gw (fun g => g.tests.find? fun y : Test => y.unit == u) (fun _ _ _ _ _ => rfl) w a c l s

/-- A test that has ended has left the list. -/
theorem testGone_test (u : Nat) (o : TestOutcome) (s : State) : (testGone u o s).test u = none := by
  refine (completeWait_test ..).trans (List.find?_eq_none.2 fun y hy => ?_)
  simpa using (List.mem_filter.1 hy).2

theorem testGone_mc (u : Nat) (o : TestOutcome) (s : State) : (testGone u o s).gw.mc = s.gw.mc := completeWait_gw Gw.mc (fun _ _ _ _ _ => rfl) ..

theorem testGone_rows (u : Nat) (o : TestOutcome) (s : State) : (testGone u o s).rows = s.rows := by
  have kept : Keeps [.mem, .fab, .chavi, .mbx, .gw, .sec, .out] s (testGone u o s) := by simp [testGone]
  exact kept .rows (by decide)

theorem testRecord_tests (x : Test) (o : TestOutcome) (a : Nat) (d q : Bool) (s : State) : TestsQueued s (testRecord x o a d q s) := by
  unfold testRecord
  dsimp only
  refine .ite ?_ (.ite (.refl s) (errRecord_tests ..))
  exact (errRecord_tests ..).after rfl

/-! A wake of a row that runs leaves it running, its contents as they were (04 R105, R111). -/

theorem runs_iff : rowRuns s r = true ↔ r < 12 ∧ rowIsOut s r = false ∧ rowIsDark s r = false
    ∧ ((s.row r).st = .active ∨ (s.row r).st = .idle ∨ (s.row r).st = .nap) := by
  simp [rowRuns, and_assoc, or_assoc]

theorem wakeRow_runs (hr : r < s.rows.length) (runs : rowRuns s r = true) : rowRuns (wakeRow r s) r = true
    ∧ ∃ a b, (wakeRow r s).row r = { s.row r with st := a, idleSince := b } := by
  obtain ⟨low, served, lit, st⟩ := runs_iff.1 runs
  have conv : (wakeRow r s).conv r = s.conv r ∧ ∃ a b, (a = .active ∨ a = .idle ∨ a = .nap) ∧ (wakeRow r s).row r = { s.row r with st := a, idleSince := b } := by
    have touched : (touchHalf (halfOf r) s).row r = s.row r := rfl
    have stays : (touchHalf (halfOf r) s).conv r = s.conv r ∧ ∃ a b, (a = .active ∨ a = .idle ∨ a = .nap)
        ∧ (touchHalf (halfOf r) s).row r = { s.row r with st := a, idleSince := b } := ⟨rfl, _, _, st, rfl⟩
    have wakes : ((touchHalf (halfOf r) s).modRow r fun w => { w with st := .active, idleSince := s.tb }).conv r = s.conv r ∧ ∃ a b,
        (a = .active ∨ a = .idle ∨ a = .nap) ∧ ((touchHalf (halfOf r) s).modRow r fun w => { w with st := .active, idleSince := s.tb }).row r
          = { s.row r with st := a, idleSince := b } := ⟨rfl, _, _, .inl rfl, row_modRow_self (s := touchHalf (halfOf r) s) hr _⟩
    unfold wakeRow startWake
    rw [if_neg (by simp [lit, served]), touched]
    split
    · exact stays
    · rcases st with e | e | e <;> rw [e]
      · exact stays
      · exact wakes
      · exact wakes
  obtain ⟨conv, a, b, ha, row⟩ := conv
  refine ⟨runs_iff.2 ⟨low, ?_, ?_, by rw [row]; exact ha⟩, a, b, row⟩
  · rw [rowIsOut, row]
    exact served
  · simp only [rowIsDark, conv, row, Bool.or_eq_false_iff] at lit ⊢
    refine ⟨⟨?_, lit.1.2⟩, lit.2⟩
    rcases ha with e | e | e <;> rw [e] <;> rfl

/-! Placing a unit and beginning its test (17 R475, R476). -/

/-- The test of a unit that is no position marks it running alone. -/
theorem beginTest_unit (other : uClass u ≠ 1 ∧ uClass u ≠ 2) (s : State) : ∃ f : Test → Test, beginTest u s = s.modTest u f
    ∧ ∀ y, (f y).unit = y.unit ∧ (f y).running = true := by
  have no : ¬ (uClass u = 1 ∨ uClass u = 2) := not_or.2 other
  exact ⟨_, if_neg no, fun y => ⟨rfl, rfl⟩⟩

/-- A begun test runs. -/
theorem beginTest_running (other : uClass u ≠ 1 ∧ uClass u ≠ 2) (queued : (s.test u).isSome = true) :
    ((beginTest u s).test u).map (·.running) = some true := by
  obtain ⟨f, e, hf⟩ := beginTest_unit other s
  obtain ⟨y, hy⟩ := Option.isSome_iff_exists.1 queued
  rw [e, test_modTest f (fun y => (hf y).1), hy]
  exact congrArg some (hf y).2

/-- The state with a unit's test placed. -/
def placed (u : Nat) (s : State) : State := s.modTest u fun t => { t with placed := some (t.placed.getD s.tb) }

theorem placed_test (hx : s.test u = some x) : ((placed u s).test u).isSome = true := by
  refine (congrArg Option.isSome (test_modTest _ (by intro y; rfl) s u)).trans ?_
  rw [hx]
  rfl

/-- A stack or a channel needs no placing, and its test starts at once. -/
theorem tryTest_board (board : uClass u = 6 ∨ uClass u = 7) (hx : s.test u = some x) :
    ((tryTest u s).test u).map (·.running) = some true ∧ Keeps [.gw] s (tryTest u s) := by
  have stands (v : State) : placeUnit u v = v ∧ testNeeds v u = true := by
    unfold placeUnit testNeeds inRow
    rcases board with e | e <;> simp [e]
  have begins : tryTest u s = beginTest u (placed u s) := by
    unfold tryTest
    rw [show s.modTest u _ = placed u s from rfl, (stands _).1]
    exact if_pos (stands _).2
  have other : uClass u ≠ 1 ∧ uClass u ≠ 2 := by omega
  obtain ⟨f, e, -⟩ := beginTest_unit other (placed u s)
  rw [begins]
  refine ⟨beginTest_running other (placed_test hx), ?_⟩
  rw [e]
  exact Keeps.trans (t := placed u s) (by simp [placed, State.modTest]) (by simp [State.modTest])

/-- The state of a bank's row, the bank out for its test. -/
def bankOut (u : Nat) (s : State) : State := (wakeRow (uRowOf u) s).modBank (uRowOf u) (uIdx u) fun b => { b with inTest := true }

/-- A bank that nothing uses, in a row that runs: its test starts at once. -/
theorem tryTest_bank (bank : uClass u = 3) (low : uRowOf u < 12) (runs : rowRuns s (uRowOf u) = true) (free : bankUsed (s.row (uRowOf u)) (uIdx u) = false)
    (hr : uRowOf u < s.rows.length) (hb : uIdx u < (s.row (uRowOf u)).banks.length) (hx : s.test u = some x) :
    ((tryTest u s).test u).map (·.running) = some true ∧ ((tryTest u s).bank (uRowOf u) (uIdx u)).inTest = true := by
  obtain ⟨woken, a, b, row⟩ := wakeRow_runs (s := placed u s) hr runs
  have hr' : uRowOf u < (wakeRow (uRowOf u) (placed u s)).rows.length := by
    obtain ⟨f, e, -⟩ := wakeRow_rows (s := placed u s) (r := uRowOf u)
    rw [e, List.length_modify]
    exact hr
  have out : placeUnit u (placed u s) = bankOut u (placed u s) := by
    unfold placeUnit inRow
    simp [bank, low, bankOut]
  have modified : (bankOut u (placed u s)).row (uRowOf u) = { s.row (uRowOf u) with st := a, idleSince := b, banks := (s.row (uRowOf u)).banks.modify (uIdx u) fun b => { b with inTest := true } } := by
    rw [bankOut, State.modBank, row_modRow_self hr', row]
    rfl
  have running : rowRuns (bankOut u (placed u s)) (uRowOf u) = true := by
    obtain ⟨_, served, lit, st⟩ := runs_iff.1 woken
    rw [rowIsOut, row] at served
    rw [rowIsDark, row] at lit
    rw [row] at st
    refine runs_iff.2 ⟨low, by rw [rowIsOut, modified]; exact served, ?_, by rw [modified]; exact st⟩
    rw [rowIsDark, modified]
    exact lit
  have needs : testNeeds (bankOut u (placed u s)) u = true := by
    unfold testNeeds
    simp only [bank, running, modified, Bool.true_and, Bool.not_eq_true']
    exact free
  have begins : tryTest u s = beginTest u (bankOut u (placed u s)) := by
    unfold tryTest
    rw [show s.modTest u _ = placed u s from rfl, out]
    exact if_pos needs
  have other : uClass u ≠ 1 ∧ uClass u ≠ 2 := by omega
  have kept : (bankOut u (placed u s)).gw = (placed u s).gw := ((by simp [bankOut] : Keeps [.power, .rows] (placed u s) (bankOut u (placed u s))) .gw (by decide) :)
  obtain ⟨f, e, -⟩ := beginTest_unit other (bankOut u (placed u s))
  rw [begins]
  refine ⟨beginTest_running other ?_, ?_⟩
  · rw [test_of_gw (congrArg _ kept)]
    exact placed_test hx
  · rw [e, show (State.modTest (bankOut u (placed u s)) u f).bank (uRowOf u) (uIdx u) = (bankOut u (placed u s)).bank (uRowOf u) (uIdx u) from rfl,
      State.bank, modified]
    exact congrArg Bank.inTest (nth_modify_self _ hb)

end Sys2Proof.Machine
end

section
/-! PROOFS. O52: poison deadlines, held RPUSHes, targeted tests, slot recovery and failover (17 R465, R467, R475 to R478; 18 R484, R492,
R494, R502, R503; logs 45, 46, 47, 78). -/

namespace Sys2Proof.Machine

section
variable {s t : State} {r b c k : Nat}

/-! Poison deadlines (17 R465). -/

/-- A row whose entries due without a verdict have become POISONED. -/
def poisonDue (tb : Nat) (w : Row) : Row :=
  { w with prov := w.prov.map (fun e => if entryDue tb e then { e with poisoned := true, deadline := none } else e) }

/-- The deadlines of a row, and of the WRITEs held in a bridge. -/
def rowDeadlines (r : Nat) (s : State) : State :=
  each ((s.row r).prov.filter (entryDue s.tb)) (fun e => deadlineRecord (r / 6) (lnAddr r e.line)) (s.modRow r (poisonDue s.tb))

def heldDeadlines (b : Nat) (s : State) : State :=
  each ((s.bridge b).holdBuf.filter (fun h => decide (h.2 ≤ s.tb))) (fun h s => deadlineRecord b (pktAddr s h.1) (answer b h.1 .poisoned [] s))
    (s.modBridge b (fun x => { x with holdBuf := x.holdBuf.filter (fun h => !decide (h.2 ≤ s.tb)) }))

theorem execPoisonDeadline_eq (s : State) :
    exec .poisonDeadline s = .next (windowsSettle (each [0, 1] heldDeadlines (each (List.range 12) rowDeadlines s))) := rfl

theorem rowDeadlines_rows (r : Nat) (s : State) : (rowDeadlines r s).rows = s.rows.modify r (poisonDue s.tb) ∧ (rowDeadlines r s).tb = s.tb :=
  ⟨each_fixed _ State.rows (fun _ _ => errRecord_rows ..) _, each_fixed _ State.tb (fun _ _ => errRecord_tb ..) _⟩

/-- Each row once: its entries due, and no other row's. -/
theorem each_rowDeadlines (l : List Nat) (once : l.Nodup) (hr : r < s.rows.length) :
    (each l rowDeadlines s).row r = if r ∈ l then poisonDue s.tb (s.row r) else s.row r := by
  induction l generalizing s with
  | nil => rfl
  | cons k l ih =>
    obtain ⟨rows, tb⟩ := rowDeadlines_rows k s
    obtain ⟨fresh, once⟩ := List.nodup_cons.1 once
    have next_ := ih (s := rowDeadlines k s) once (by rw [rows, List.length_modify]; exact hr)
    rw [tb, State.row, State.row, rows] at next_
    refine next_.trans ?_
    by_cases e : r = k
    · subst e
      rw [if_neg fresh, if_pos List.mem_cons_self]
      exact nth_modify_self _ hr
    · rw [nth_modify_of_ne _ _ e]
      simp [e, State.row]

theorem heldDeadlines_tb (b : Nat) (s : State) : (heldDeadlines b s).tb = s.tb := by
  refine each_fixed _ State.tb (fun h u => ?_) _
  exact (errRecord_tb ..).trans (congrArg Clk.tb (answer_keeps b h.1 .poisoned [] u .clk (by decide)))

theorem heldDeadlines_rows (b : Nat) (s : State) : (heldDeadlines b s).rows = s.rows := by
  refine each_fixed _ State.rows (fun h u => ?_) _
  exact (errRecord_rows ..).trans (answer_keeps b h.1 .poisoned [] u .rows (by decide))

theorem heldDeadlines_holdBuf (b k : Nat) (s : State) : ((heldDeadlines b s).bridge k).holdBuf
    = ((s.modBridge b (fun x => { x with holdBuf := x.holdBuf.filter (fun h => !decide (h.2 ≤ s.tb)) })).bridge k).holdBuf := by
  refine each_fixed _ (fun u : State => (u.bridge k).holdBuf) (fun h u => ?_) _
  exact (congrArg Bridge.holdBuf (bridge_of_settled ((errRecord_settled ..).trans (answer_settled ..)) k) :)

theorem heldDeadlines_other {k : Nat} (ne : k ≠ b) (s : State) : ((heldDeadlines b s).bridge k).holdBuf = (s.bridge k).holdBuf :=
  (heldDeadlines_holdBuf ..).trans (congrArg Bridge.holdBuf (nth_modify_of_ne _ _ ne))

/-- What a bridge still holds is not due. -/
theorem heldDeadlines_pending (b : Nat) (s : State) : ∀ h ∈ ((heldDeadlines b s).bridge b).holdBuf, s.tb < h.2 := by
  rw [heldDeadlines_holdBuf]
  intro h hh
  by_cases here : b < s.fab.bridges.length
  · rw [bridge_modBridge_self here] at hh
    simpa using (List.mem_filter.1 hh).2
  · have none_ : (s.modBridge b (fun x => { x with holdBuf := x.holdBuf.filter (fun h => !decide (h.2 ≤ s.tb)) })).bridge b = default :=
      nth_of_length_le (by rw [State.modBridge, State.modFab_fab, List.length_modify]; exact Nat.not_lt.1 here)
    rw [none_] at hh
    cases hh

theorem windowsSettle_bridge (s : State) (k : Nat) : ((windowsSettle s).bridge k).settled = (s.bridge k).settled := by
  refine each_fixed _ (fun u : State => (u.bridge k).settled) (fun p u => ?_) s
  dsimp only
  split
  · rfl
  · exact bridge_of_settled (completeWait_settled ..) k

theorem windowsSettle_holdBuf (s : State) (k : Nat) : ((windowsSettle s).bridge k).holdBuf = (s.bridge k).holdBuf :=
  (congrArg Bridge.holdBuf (windowsSettle_bridge s k) :)

/-- Both bridges, once each. -/
theorem bothDeadlines_pending (s : State) (hb : b < 2) : ∀ h ∈ ((each [0, 1] heldDeadlines s).bridge b).holdBuf, s.tb < h.2 := by
  have both : each [0, 1] heldDeadlines s = heldDeadlines 1 (heldDeadlines 0 s) := rfl
  rw [both]
  intro h hh
  by_cases one : b = 1
  · subst one
    exact heldDeadlines_tb 0 s ▸ heldDeadlines_pending 1 _ h hh
  · obtain rfl : b = 0 := by omega
    rw [heldDeadlines_other (by decide)] at hh
    exact heldDeadlines_pending 0 s h hh

theorem windowsSettle_rows (s : State) : (windowsSettle s).rows = s.rows := by
  have kept : Keeps [.mem, .fab, .chavi, .mbx, .gw, .sec, .out] s (windowsSettle s) := by simp
  exact kept .rows (by decide)

theorem execPoisonDeadline_poisons (s : State) : ∃ t, exec .poisonDeadline s = .next t
    ∧ (∀ r, r < 12 → r < s.rows.length → t.row r = poisonDue s.tb (s.row r)) ∧ ∀ b, b < 2 → ∀ h ∈ (t.bridge b).holdBuf, s.tb < h.2 := by
  have tb : (each (List.range 12) rowDeadlines s).tb = s.tb := each_fixed _ State.tb (fun r u => (rowDeadlines_rows r u).2) s
  refine ⟨_, execPoisonDeadline_eq s, fun r hr here => ?_, fun b hb => ?_⟩
  · rw [row_of_rows ((windowsSettle_rows _).trans (each_fixed _ State.rows heldDeadlines_rows _)), each_rowDeadlines _ List.nodup_range here]
    exact if_pos (List.mem_range.2 hr)
  · rw [windowsSettle_holdBuf, ← tb]
    exact bothDeadlines_pending _ hb

/-! Held RPUSHes (17 R467). -/

theorem execHeldRpushResolve_resolves {n rd : Nat} {e : List Byte} (held : (s.core r c).heldPush = some (n, e, rd)) (hc : HasCore s r c)
    (known : (s.core r c).taintBad = true ∨ (s.core r c).taint = []) : ∃ t, exec (.heldRpushResolve r c) s = .next t ∧ (t.core r c).heldPush = none
      ∧ ((s.core r c).st = .running → (t.core r c).pc = (s.core r c).pc + 4) := by
  change ∃ t, execHeldRpushResolve r c s = .next t ∧ _
  unfold execHeldRpushResolve
  dsimp only
  rw [held]
  dsimp only
  rw [if_neg (by rintro ⟨bad, waits⟩; rcases known with c | c <;> simp_all)]
  have rows : (if (s.core r c).taintBad = true then enginePushBad n r c e s else enginePush n r c e s).2.rows = s.rows := by
    have kept : Keeps [.mem, .fab, .chavi, .mbx, .rings, .gw, .err, .sec, .attn, .out] s
        (if (s.core r c).taintBad = true then enginePushBad n r c e s else enginePush n r c e s).2 := by split <;> simp
    exact kept .rows (by decide)
  generalize (if (s.core r c).taintBad = true then enginePushBad n r c e s else enginePush n r c e s) = p at rows ⊢
  obtain ⟨code, u⟩ := p
  have hu : HasCore u r c := by
    have same : u.rows = s.rows := rows
    simpa only [HasCore, State.row, same] using hc
  have counter : (u.core r c).pc = (s.core r c).pc := congrArg Core.pc (core_of_rows rows r c)
  have freed := core_modCore hu fun x => { x with heldPush := none }
  have freedHas := hasCore_modCore hu c fun x => { x with heldPush := none }
  have cleared : HasCore (if code = .ok then (u.modCore r c fun x => { x with heldPush := none }).modCore r c fun x => { x with taint := [], taintBad := false }
        else u.modCore r c fun x => { x with heldPush := none }) r c
      ∧ ((if code = .ok then (u.modCore r c fun x => { x with heldPush := none }).modCore r c fun x => { x with taint := [], taintBad := false }
        else u.modCore r c fun x => { x with heldPush := none }).core r c).heldPush = none
      ∧ ((if code = .ok then (u.modCore r c fun x => { x with heldPush := none }).modCore r c fun x => { x with taint := [], taintBad := false }
        else u.modCore r c fun x => { x with heldPush := none }).core r c).pc = (s.core r c).pc := by
    split
    · refine ⟨hasCore_modCore freedHas c _, ?_⟩
      rw [core_modCore freedHas, freed]
      exact ⟨rfl, counter⟩
    · rw [freed]
      exact ⟨freedHas, rfl, counter⟩
  obtain ⟨has, push, pc⟩ := cleared
  refine ⟨_, rfl, ?_⟩
  split
  · have advanced (x : Core) (v : Nat) : ((x.setX rd v).adv 4).heldPush = x.heldPush ∧ ((x.setX rd v).adv 4).pc = x.pc + 4 := by
      unfold Core.setX
      split <;> exact ⟨rfl, rfl⟩
    rw [retire, core_modCore has]
    obtain ⟨hold, next_⟩ := advanced _ _
    exact ⟨hold.trans push, fun _ => next_.trans (congrArg (· + 4) pc)⟩
  · next stopped => exact ⟨push, fun running => absurd running stopped⟩

theorem execHeldRpushResolve_waits {p : Nat × List Byte × Nat} (held : (s.core r c).heldPush = some p) (waits : (s.core r c).taint ≠ [])
    (good : (s.core r c).taintBad = false) : exec (.heldRpushResolve r c) s = .next s := by
  change execHeldRpushResolve r c s = _
  unfold execHeldRpushResolve
  dsimp only
  rw [held]
  exact if_pos ⟨good, waits⟩

end

/-! Targeted tests (17 R475 to R478). -/

/-- The needs of a placed test have not been met within 10 ms. -/
theorem needsExpired {s : State} {x : Test} {p : Nat} (at_ : x.placed = some p) (due : p + 500000 ≤ s.tb) :
    x.placed.all (fun t => decide (s.tb < t + 500000)) = false := by
  rw [at_, Option.all_some, decide_eq_false (by omega)]

section
variable {s : State} {u : Nat} {x : Test} (hx : s.test u = some x)
include hx

theorem execTargetedTestStart_tries (serves : gwServes s = true) (idle : x.running = false) (new : x.retryAt = none) :
    exec (.targetedTestStart u) s = .next (tryTest u s) := by
  change execTargetedTestStart u s = _
  unfold execTargetedTestStart
  rw [hx]
  exact if_pos ⟨serves, idle, new⟩

/-- The state with a test no longer waiting for its retry. -/
def retried (u : Nat) (s : State) : State := s.modTest u fun t => { t with retryAt := none, placed := none }

omit hx in
theorem retried_test (hx : s.test u = some x) : (retried u s).test u = some { x with retryAt := none, placed := none } :=
  (test_modTest _ (by intro y; rfl) s u).trans (congrArg _ hx)

theorem execTargetedTestRetry_tries {d : Nat} (serves : gwServes s = true) (idle : x.running = false) (at_ : x.retryAt = some d) (due : d ≤ s.tb) :
    exec (.targetedTestRetry u) s = .next (tryTest u (retried u s)) := by
  change execTargetedTestRetry u s = _
  unfold execTargetedTestRetry
  rw [hx]
  exact if_pos ⟨serves, idle, by simp [at_, due]⟩

theorem execTargetedTestRetry_early {d : Nat} (at_ : x.retryAt = some d) (early : s.tb < d) : exec (.targetedTestRetry u) s = .next s := by
  change execTargetedTestRetry u s = _
  unfold execTargetedTestRetry
  rw [hx]
  exact if_neg fun c => by simp [at_] at c; omega

theorem execTestNeedsTimeout_early {p : Nat} (at_ : x.placed = some p) (early : s.tb < p + 500000) : exec (.testNeedsTimeout u) s = .next s := by
  change execTestNeedsTimeout u s = _
  unfold execTestNeedsTimeout
  rw [hx]
  dsimp only
  rw [if_pos (.inr (.inr (by rw [at_, Option.all_some, decide_eq_true early])))]

section
variable {p : Nat} (serves : gwServes s = true) (idle : x.running = false) (at_ : x.placed = some p) (due : p + 500000 ≤ s.tb)
include serves idle at_ due

theorem execTestNeedsTimeout_third (third : 2 ≤ x.untest) : exec (.testNeedsTimeout u) s = .next (endTest x .lasting s) := by
  change execTestNeedsTimeout u s = _
  unfold execTestNeedsTimeout
  rw [hx]
  dsimp only
  rw [if_neg (by rw [needsExpired at_ due]; simp [serves, idle]), if_pos third]

/-- An UNTESTABLE outcome before the third in a row: the test waits for its retry. -/
theorem execTestNeedsTimeout_waits (few : x.untest < 2) : ∃ t, exec (.testNeedsTimeout u) s = .next t
    ∧ t.test u = some { x with untest := x.untest + 1, placed := none, retryAt := some (s.tb + 50000000) } := by
  change ∃ t, execTestNeedsTimeout u s = .next t ∧ _
  unfold execTestNeedsTimeout
  rw [hx]
  dsimp only
  rw [if_neg (by rw [needsExpired at_ due]; simp [serves, idle]), if_neg (by omega)]
  refine ⟨_, rfl, ?_⟩
  have waits := (test_modTest (fun t => { t with untest := t.untest + 1, placed := none, retryAt := some (s.tb + 50000000) }) (by intro y; rfl) s u).trans
    (congrArg _ hx)
  generalize s.modTest u _ = v at waits
  refine (completeWait_test ..).trans ((errRecord_tests _ _).test ?_)
  split
  · exact waits
  · exact waits

end

theorem execTargetedTestEnd_ends (running : x.running = true) (p : Bool) (rt : RowTest) (l : List Nat) (row : uClass u ≠ 5) (lane : uClass u ≠ 0xB) :
    exec (.targetedTestEnd u p rt l) s = .next (endTest x (testOutcome x p s).1 (testOutcome x p s).2) := by
  change execTargetedTestEnd u p rt l s = _
  unfold execTargetedTestEnd
  rw [hx]
  exact (if_neg (by simp [running, lane])).trans (if_neg row)

end

section
variable {s : State} {u i : Nat} {x : Test} {o : TestOutcome}

/-- An ended test has left the list, whatever its outcome. -/
theorem endTest_test (x : Test) (o : TestOutcome) (s : State) : (endTest x o s).test x.unit = none := testGone_test ..

/-- A bank whose test is LASTING is RETIRED (17 R477). -/
theorem endTest_bank (bank : uClass x.unit = 3) (hr : uRowOf x.unit < s.rows.length) (hb : uIdx x.unit < (s.row (uRowOf x.unit)).banks.length)
    (inService : (s.bank (uRowOf x.unit) (uIdx x.unit)).st ≠ .retired) : ((endTest x .lasting s).bank (uRowOf x.unit) (uIdx x.unit)).st = .retired := by
  have ends : endTest x .lasting s = testGone x.unit .lasting (endBank x .lasting s) := by
    unfold endTest
    simp only [bank]
  have back := bank_modBank hr hb fun k => { k with inTest := false, idleSince := s.tb, tIdle := (s.row (uRowOf x.unit)).tBank }
  have row := row_modRow_self hr fun w => { w with banks := w.banks.modify (uIdx x.unit) fun k =>
    { k with inTest := false, idleSince := s.tb, tIdle := (s.row (uRowOf x.unit)).tBank } }
  have retired : (endBank x .lasting s).rows = ((s.modBank (uRowOf x.unit) (uIdx x.unit) fun k =>
      { k with inTest := false, idleSince := s.tb, tIdle := (s.row (uRowOf x.unit)).tBank }).modBank (uRowOf x.unit) (uIdx x.unit) fun _ => { st := .retired }).rows := by
    have kept : Keeps [.mem, .dmap, .boot, .fab, .chavi, .mbx, .gw, .err, .sec, .attn, .out, .fresh] ((s.modBank (uRowOf x.unit) (uIdx x.unit) fun k =>
        { k with inTest := false, idleSince := s.tb, tIdle := (s.row (uRowOf x.unit)).tBank }).modBank (uRowOf x.unit) (uIdx x.unit) fun _ => { st := .retired })
        (endBank x .lasting s) := by
      unfold endBank
      dsimp only
      rw [if_pos ⟨rfl, by rw [back]; exact inService⟩]
      simp
    exact kept .rows (by decide)
  rw [ends, State.bank, row_of_rows ((testGone_rows ..).trans retired)]
  refine congrArg Bank.st (bank_modBank (s := s.modBank _ _ _) ?_ ?_ fun _ => { st := .retired })
  · rw [State.modBank, modRow_rows_length]
    exact hr
  · rw [State.modBank, row, List.length_modify]
    exact hb

/-- The test of a management core sets the core's state (18 R503). -/
theorem endTest_core (core : uClass x.unit = 0xD) (o : TestOutcome) (s : State) :
    (endTest x o s).gw.mc = s.gw.mc.set (uIdx x.unit) (if o = .lasting then .failed else .standby) := by
  have ends : endTest x o s = testGone x.unit o (endOther x o s) := by
    unfold endTest
    simp only [core]
  rw [ends, testGone_mc]
  unfold endOther
  simp only [core]
  refine ((testRecord_tests ..).field Gw.mc fun _ _ => rfl).trans ?_
  by_cases bad : o = .lasting
  · have mapped (v : State) (f : DMap → DMap) : (v.modDmapE f).gw = v.gw := ((by simp : Keeps [.dmap] v (v.modDmapE f)) .gw (by decide) :)
    rw [if_pos (by rw [bad]; rfl), mapped, if_pos bad]
    rfl
  · rw [if_neg (by simpa using bad), if_neg bad]
    rfl

end

/-! Slot recovery (18 R492 to R494). -/

section
variable {s : State} {r k : Nat} {x : Recovery}

theorem recoveryOf_found {a : Bool} (hx : recoveryOf s a r k = some x) : x.ast = a ∧ x.row = r ∧ x.slot = k := by
  simpa [and_assoc] using List.find?_some hx

theorem recoveryDone_rows (x : Recovery) (s : State) : (recoveryDone x s).rows = s.rows := by
  have kept : Keeps [.mem, .fab, .chavi, .mbx, .gw, .err, .sec, .attn, .out] s (recoveryDone x s) := by simp
  exact kept .rows (by decide)

/-- A recovery that is done has left the list. -/
theorem recoveryDone_gone (x : Recovery) (s : State) : recoveryOf (recoveryDone x s) x.ast x.row x.slot = none := by
  unfold recoveryDone
  dsimp only
  generalize (if x.outcome = .none then s else _) = u
  refine (completeWait_gw (fun g : Gw => g.recovering.find? fun y => y.ast == x.ast && y.row == x.row && y.slot == x.slot) (fun _ _ _ _ _ => rfl) _ _ _ _ _).trans ?_
  refine List.find?_eq_none.2 fun y hy => ?_
  have other := (List.mem_filter.1 hy).2
  rw [Bool.not_eq_true'] at other
  rw [other]
  decide

theorem freeMarked_tiles (tb o : Nat) (w : Row) : (freeMarked tb o w).tiles = w.tiles := by
  obtain ⟨p, e⟩ := foldl_prov (f := fun w (e : ScbEntry) => poisonRange e.line e.len w) (fun w e => ⟨_, rfl⟩) (w.scb.filter (fun e => e.owner == o && e.wr)) w
  unfold freeMarked
  rw [e]
  rfl

theorem regionResv_tile {h : HasTile s r k} : (regionResv r k s).tile r k = s.tile r k := by
  refine tile_modRow h ?_
  have entered (l : List Prog) (w : Row) : (l.foldl (fun w p => scbEnter s.tb { owner := ownAst k, ranges := [regionRange p.region p.units], tb := s.tb } w) w).tiles = w.tiles := by
    induction l generalizing w with
    | nil => rfl
    | cons p l ih => exact ih _
  exact entered _ _

/-- An unpaired Aster slot that has halted and has its position comes back EMPTY. -/
theorem execSlotRecovery_restores (hx : recoveryOf s true r k = some x) (serves : gwServes s = true) (lit : rowIsDark s r = false) (served : rowIsOut s r = false)
    (runs : rowRuns s r = true) (ready : recoverWaits s true r k = false) (single : (s.tile r k).paired = false) (has : (astPos s r k).isSome = true)
    (halted : (s.tile r k).halted = true) (h : HasTile s r k) :
    ∃ t, exec (.slotRecovery true r k) s = .next t ∧ t.tile r k = { resetTile (s.tile r k) with paired := false } ∧ recoveryOf t true r k = none := by
  obtain ⟨ast, row, slot⟩ := recoveryOf_found hx
  have freed : (recoverFree true r [k] s).tile r k = s.tile r k := tile_modRow h (freeMarked_tiles ..)
  have freedHas : HasTile (recoverFree true r [k] s) r k := (hasTile_modRow _ (congrArg List.length (freeMarked_tiles ..))).2 h
  have set : recoverSet s true r k = [k] := if_neg (by simp [single])
  have restored : (restoreTile r k (recoverFree true r [k] s)).tile r k = { resetTile (s.tile r k) with paired := false } := by
    unfold restoreTile
    rw [if_pos (by rw [freed]; exact halted), regionResv_tile (h := (hasTile_modTile _ _).2 freedHas), tile_modTile freedHas, freed]
  refine ⟨recoveryDone x (restoreTile r k (recoverFree true r [k] s)), ?_, ?_, ?_⟩
  · change execSlotRecovery true r k s = _
    unfold execSlotRecovery
    rw [hx]
    simp only [serves, lit, served, runs, ready, set, freed, single, show (astPos (recoverFree true r [k] s) r k).isSome = true from has,
      List.filterMap_cons, List.filterMap_nil, hx, Bool.or_false, Bool.false_eq_true, Bool.true_eq_false, if_false, if_true]
    rfl
  · rw [← restored]
    exact congrArg (fun w : Row => nth w.tiles k) (row_of_rows (recoveryDone_rows ..) r)
  · have gone := recoveryDone_gone x (restoreTile r k (recoverFree true r [k] s))
    rwa [ast, row, slot] at gone

end

/-! Failover (18 R484, R502, R503). -/

section
variable {s : State} {c : Nat}

theorem execMcHalt_fails (running : s.gw.running = some c) (live : alive s = true) (ready : s.boot.st = .ready) (first : s.gw.failAt = none) (d : Bool) :
    exec (.mcHalt d) s = .next (failover c d s) := by
  change execMcHalt d s = _
  unfold execMcHalt
  rw [running]
  exact if_pos ⟨live, ready, first⟩

theorem execMgmtWatchdogExpiry_fails (running : s.gw.running = some c) (live : alive s = true) (ready : s.boot.st = .ready) (first : s.gw.failAt = none)
    (due : s.gw.wdAt ≤ s.tb) (d : Bool) : exec (.mgmtWatchdogExpiry d) s
      = .next (failover c d (errRecord { code := .mcWatchdog, unit := uMc c, op := 0x13, platform := true, leaf := Leaf.other } s)) := by
  change execMgmtWatchdogExpiry d s = _
  unfold execMgmtWatchdogExpiry
  rw [running]
  exact if_pos ⟨live, ready, first, due⟩

theorem execMgmtWatchdogExpiry_early (running : s.gw.running = some c) (early : s.tb < s.gw.wdAt) (d : Bool) : exec (.mgmtWatchdogExpiry d) s = .next s := by
  change execMgmtWatchdogExpiry d s = _
  unfold execMgmtWatchdogExpiry
  rw [running]
  exact if_neg fun c => by omega

/-- What every failover begins with, and its record. -/
def failing (dup : Bool) (s : State) : State :=
  s.modGw fun g => { g with
    failAt := some s.tb, dupReply := if dup then (g.lastReply.filter (fun p => p.2.2 == s.tb)).map (fun p => (p.1, p.2.1)) else g.dupReply }

def failRecord (c : Nat) (k : Code) : Rec := { code := k, unit := uMc c, op := 0x13, platform := true, leaf := .ev 8 0 }

theorem failover_eq (c : Nat) (d : Bool) (s : State) : failover c d s = if nth s.gw.mc (1 - c) = .standby
    then errRecord (failRecord c .failover) (((failing d s).modGw fun g => { g with mc := (g.mc.set c .reset).set (1 - c) .running, running := some (1 - c) }).modBoot
      fun b => { b with bootCore := 1 - c })
    else if mcGood s c then (errRecord (failRecord c .failover) (failing d s)).modGw fun g => { g with tests := g.tests.filter (·.unit != uMc c) }
    else (errRecord (failRecord c .noCore) ((failing d s).modGw fun g => { g with mc := [.failed, .failed], running := none })).modGw
      fun g => { g with tests := g.tests.filter (·.unit != uMc c) } := rfl

/-- With a standby core, the role moves to it. -/
theorem failover_moves (stand : nth s.gw.mc (1 - c) = .standby) (d : Bool) : (failover c d s).gw.running = some (1 - c) ∧ (failover c d s).gw.failAt = some s.tb
    ∧ (failover c d s).gw.mc = (s.gw.mc.set c .reset).set (1 - c) .running ∧ (failover c d s).boot = { s.boot with bootCore := 1 - c } := by
  rw [failover_eq, if_pos stand]
  have queued (x : Rec) (u : State) := errRecord_tests x u
  refine ⟨(queued _ _).field Gw.running fun _ _ => rfl, (queued _ _).field Gw.failAt fun _ _ => rfl, (queued _ _).field Gw.mc fun _ _ => rfl, ?_⟩
  exact errRecord_keeps _ _ .boot (by decide)

/-- With itself alone good, the core is restarted. -/
theorem failover_restarts (alone : nth s.gw.mc (1 - c) ≠ .standby) (good : mcGood s c = true) (running : s.gw.running = some c) (d : Bool) :
    (failover c d s).gw.running = some c ∧ (failover c d s).gw.failAt = some s.tb := by
  rw [failover_eq, if_neg alone, if_pos good]
  exact ⟨((errRecord_tests _ _).field Gw.running fun _ _ => rfl).trans running, (errRecord_tests _ _).field Gw.failAt fun _ _ => rfl⟩

theorem failover_stops (alone : nth s.gw.mc (1 - c) ≠ .standby) (bad : mcGood s c = false) (d : Bool) :
    (failover c d s).gw.running = none ∧ (failover c d s).gw.mc = [.failed, .failed] := by
  have no : ¬ mcGood s c = true := by simp [bad]
  rw [failover_eq, if_neg alone, if_neg no]
  exact ⟨(errRecord_tests _ _).field Gw.running fun _ _ => rfl, (errRecord_tests _ _).field Gw.mc fun _ _ => rfl⟩

theorem execFailoverResume_resumes {n : Nat} (failed : s.gw.failAt = some n) (running : s.gw.running = some c) (live : alive s = true) :
    ∃ t, exec .failoverResume s = .next t ∧ t.gw.failAt = none ∧ t.gw.dupReply = none ∧ t.gw.wdAt = s.tb + s.gw.tmoMgmt ∧ (s.gw.dupReply = none → Keeps [.gw] s t) := by
  change ∃ t, execFailoverResume s = .next t ∧ _
  unfold execFailoverResume
  rw [if_neg (by simp [failed, running, live])]
  refine ⟨_, rfl, rfl, rfl, ?_, fun none_ => ?_⟩
  · split
    · next ch msg _ =>
      obtain ⟨q, e⟩ := writeReply_gw ch msg s
      have tb : (writeReply ch msg s).tb = s.tb := congrArg Clk.tb (writeReply_keeps ch msg s .clk (by decide))
      rw [State.modGw_gw, tb, e]
    · rfl
  · rw [none_]
    simp

end

/-- Settles O52: poison by rows and bridges, tests by the list of tests, recoveries by their slot, failover by the cores. -/
theorem testsRecoveriesAndFailover : Obligations.TestsRecoveriesAndFailover := by
  unfold Obligations.TestsRecoveriesAndFailover
  refine ⟨execPoisonDeadline_poisons, ?pushes, ?starts, ?ends, ?none, ?recovers, ?noRecovery, ?restart, ?failover, ?resumes, ?noFailover⟩
  case pushes =>
    intro s r c n rd e held hr hc
    refine ⟨fun clean good running => ?_, fun waits good => execHeldRpushResolve_waits held waits good, fun bad => ?_⟩
    · obtain ⟨t, run, freed, pc⟩ := execHeldRpushResolve_resolves held ⟨hr, hc⟩ (.inr clean)
      exact ⟨t, run, freed, pc running⟩
    · obtain ⟨t, run, freed, -⟩ := execHeldRpushResolve_resolves held ⟨hr, hc⟩ (.inl bad)
      exact ⟨t, run, freed⟩
  case starts =>
    intro s u x hx serves idle
    refine ⟨fun new board => ⟨_, execTargetedTestStart_tries hx serves idle new, tryTest_board board hx⟩,
      fun new bank low runs free hr hb => ⟨_, execTargetedTestStart_tries hx serves idle new, tryTest_bank bank low runs free hr hb hx⟩,
      fun d at_ due board => ?_, fun d at_ early => execTargetedTestRetry_early hx at_ early, fun p at_ due few => ?_,
      fun p at_ due third board => ⟨_, execTestNeedsTimeout_third hx serves idle at_ due third, ?_⟩, fun p at_ early => execTestNeedsTimeout_early hx at_ early⟩
    · obtain ⟨running, kept⟩ := tryTest_board board (retried_test hx)
      exact ⟨_, execTargetedTestRetry_tries hx serves idle at_ due, running, Keeps.trans (t := retried u s) (by simp [retried, State.modTest]) kept⟩
    · obtain ⟨t, run, test⟩ := execTestNeedsTimeout_waits hx serves idle at_ due few
      exact ⟨t, run, by rw [test, ← idle]; rfl⟩
    · exact test_unit hx ▸ endTest_test x .lasting s
  case ends =>
    intro s u x rt l hx running own
    subst own
    refine ⟨fun board p => ⟨_, execTargetedTestEnd_ends hx running p rt l (by omega) (by omega), endTest_test ..⟩,
      fun bank hr hb inService => ⟨_, execTargetedTestEnd_ends hx running false rt l (by omega) (by omega), endTest_test .., endTest_bank bank hr hb inService⟩,
      fun core here => ⟨⟨_, execTargetedTestEnd_ends hx running false rt l (by omega) (by omega), ?_⟩,
        fun own => ⟨_, execTargetedTestEnd_ends hx running true rt l (by omega) (by omega), ?_⟩⟩⟩
    · rw [endTest_core core]
      exact nth_set_self _ here
    · have outcome : (testOutcome x true s).1 = .pass ∧ (testOutcome x true s).2.gw.mc = s.gw.mc := ⟨by simp [testOutcome, own], rfl⟩
      rw [endTest_core core, outcome.1, outcome.2]
      exact nth_set_self _ here
  case none =>
    intro s u p rt l none_
    refine ⟨?_, ?_⟩
    · change execTargetedTestEnd u p rt l s = _
      unfold execTargetedTestEnd
      rw [none_]
    · change execTargetedTestStart u s = _
      unfold execTargetedTestStart
      rw [none_]
  case recovers =>
    intro s r k x hx serves lit served runs ready single has halted hr hk
    obtain ⟨t, run, tile, gone⟩ := execSlotRecovery_restores hx serves lit served runs ready single has halted ⟨hr, hk⟩
    exact ⟨t, run, by rw [tile]; rfl, by rw [tile]; rfl, by rw [tile]; rfl, gone⟩
  case noRecovery =>
    intro s a r k none_
    change execSlotRecovery a r k s = _
    unfold execSlotRecovery
    rw [none_]
  case restart =>
    intro s serves
    exact ⟨_, if_pos serves, rfl, by simp⟩
  case failover =>
    intro s c d running hc two live ready first
    have cores : c = 0 ∨ c = 1 := by omega
    refine ⟨fun stand => ⟨?_, fun due => ?_⟩, fun alone good => ⟨_, execMcHalt_fails running live ready first d, failover_restarts alone good running d⟩,
      fun alone bad => ⟨_, execMcHalt_fails running live ready first d, failover_stops alone bad d⟩,
      fun early => execMgmtWatchdogExpiry_early running early d⟩
    · obtain ⟨role, since, mc, boot⟩ := failover_moves stand d
      refine ⟨_, execMcHalt_fails running live ready first d, role, since, ?_, ?_, boot⟩
      · rw [mc]
        exact nth_set_self _ (by rw [List.length_set]; omega)
      · rw [mc, nth_set_of_ne _ _ (by omega)]
        exact nth_set_self _ (by omega)
    · have queued := errRecord_tests { code := .mcWatchdog, unit := uMc c, op := 0x13, platform := true, leaf := Leaf.other } s
      have stand' := (congrArg (nth · (1 - c)) (queued.field Gw.mc fun _ _ => rfl)).trans stand
      obtain ⟨role, since, -, boot⟩ := failover_moves stand' d
      exact ⟨_, execMgmtWatchdogExpiry_fails running live ready first due d, role, since.trans (congrArg some (errRecord_tb ..)), by rw [boot]⟩
  case resumes =>
    intro s c n failed running live
    exact execFailoverResume_resumes failed running live
  case noFailover =>
    intro s none_
    exact if_pos (.inl none_)

end Sys2Proof.Machine
end

section
/-! SUPPORT. What updates of the rows leave of a row's programs, tiles and pairs; what ends on a bridge leaves of Gwynpin's counter and
of the list of bridges (16 R448; 18 R508, R509). -/

namespace Sys2Proof.Machine

variable {s t u : State} {h : CmdHdr} {r k q b : Nat}

/-! Rows. -/

/-- A field that an update of a row leaves. -/
theorem row_modRow_fixed {β : Type} (g : Row → β) {f : Row → Row} (hf : ∀ w, g (f w) = g w) (s : State) (q r : Nat) :
    g ((s.modRow q f).row r) = g (s.row r) := by
  rcases row_modRow_or s q r f with e | e <;> rw [e]
  exact hf _

/-- A wake changes the state of a row and its ticks alone (04 R105). -/
theorem wakeRow_row_fixed {β : Type} (g : Row → β) (hg : ∀ w a b c, g { w with st := a, idleSince := b, fromSleep := c } = g w) (r : Nat) (s : State) (q : Nat) :
    g ((wakeRow r s).row q) = g (s.row q) := by
  have touched : (touchHalf (halfOf r) s).row q = s.row q := rfl
  unfold wakeRow startWake
  split
  · rfl
  · split
    · rfl
    · split
      · exact row_modRow_fixed g (by intro w; exact hg w _ _ w.fromSleep) (touchHalf (halfOf r) s) r q
      · exact row_modRow_fixed g (by intro w; exact hg w _ _ w.fromSleep) (touchHalf (halfOf r) s) r q
      · rw [row_of_rows (joinQueue_rows ..)]
        exact row_modRow_fixed g (by intro w; exact hg w _ w.idleSince _) (touchHalf (halfOf r) s) r q
      · rw [row_of_rows (joinQueue_rows ..)]
        exact row_modRow_fixed g (by intro w; exact hg w _ w.idleSince _) (touchHalf (halfOf r) s) r q
      · exact congrArg g touched

/-- Reservations over a slot's regions change the scoreboard alone. -/
theorem regionResv_row_fixed {β : Type} (g : Row → β) (hg : ∀ w a b c d, g { w with scb := a, hiwat := b, watch := c, scbPend := d } = g w) (r k : Nat)
    (s : State) (q : Nat) : g ((regionResv r k s).row q) = g (s.row q) := by
  refine row_modRow_fixed g (fun w => ?_) s r q
  generalize (w.progs.filter fun p => p.aster.contains k) = l
  induction l generalizing w with
  | nil => rfl
  | cons p l ih => exact (ih _).trans (hg ..)

theorem formPair_progs (r k : Nat) (s : State) (q : Nat) : ((formPair r k s).row q).progs = (s.row q).progs := by
  have tiles (u : State) (j : Nat) (f : Tile → Tile) : ((u.modTile r j f).row q).progs = (u.row q).progs := row_modRow_fixed Row.progs (by intro w; rfl) u r q
  have formed : ((((s.modRow r fun w => { w with pairs := w.pairs.set k { formed := true, seq := 1, done := 0 } }).modTile r (2 * k)
      fun x => { x with paired := true }).modTile r (2 * k + 1) fun x => { x with paired := true }).row q).progs = (s.row q).progs :=
    ((tiles ..).trans (tiles ..)).trans (row_modRow_fixed Row.progs (by intro w; rfl) s r q)
  unfold formPair
  dsimp only
  generalize State.modTile _ _ (2 * k + 1) _ = v at formed ⊢
  rcases mirror_cases r (2 * k) v with e | ⟨f, e⟩ <;> rw [e]
  · exact formed
  · exact (tiles ..).trans formed

/-! What the steps of a bridge's reset leave of Gwynpin's counter of commands and of the number of bridges. -/

/-- Gwynpin's counter of commands, and how many bridges there are. -/
def State.counts (s : State) : Nat × Nat := (s.gw.nextId, s.fab.bridges.length)

theorem counts_of (gw : t.gw.nextId = s.gw.nextId) (fab : t.fab.settled = s.fab.settled) : t.counts = s.counts := by
  have bridges : t.fab.bridges.length = s.fab.bridges.length := by
    simpa [Fab.settled] using congrArg (fun f : Fab => f.bridges.length) fab
  rw [State.counts, gw, bridges, State.counts]

theorem completeWait_counts (w a : Nat) (c : Code) (l : List Byte) (s : State) : (completeWait w a c l [] s).counts = s.counts :=
  counts_of (completeWait_gw Gw.nextId (fun _ _ _ _ _ => rfl) ..) (completeWait_settled ..)

theorem errRecord_counts (x : Rec) (s : State) : (errRecord x s).counts = s.counts :=
  counts_of ((errRecord_tests x s).field Gw.nextId fun _ _ => rfl) (errRecord_settled ..)

theorem tableGone_counts (n : Nat) (s : State) : (tableGone n s).counts = s.counts := by
  unfold tableGone
  split
  · split
    · exact completeWait_counts ..
    · rfl
  · rfl

theorem writeFetchRecord_counts (b : Nat) (x : FetchRun) (s : State) : (writeFetchRecord b x s).counts = s.counts := by
  have counted {v : State} (kept : Keeps [.rows, .mem] s v) : v.counts = s.counts :=
    counts_of (congrArg Gw.nextId (kept .gw (by decide))) (congrArg Fab.settled (kept .fab (by decide)))
  unfold writeFetchRecord
  dsimp only
  split
  · exact counted (by simp)
  · exact counts_of (congrArg Gw.nextId (inject_keeps _ _ _ _ _ .gw (by decide))) (inject_settled ..)

theorem fetchesDown_counts (b : Nat) (l : Bool) (s : State) : (fetchesDown b l s).counts = s.counts :=
  (each_fixed _ State.counts (fun _ _ => tableGone_counts ..) _).trans (each_fixed _ State.counts (fun _ _ => writeFetchRecord_counts ..) _)

theorem failBatches_counts (p : Nat → Bool) (s : State) : (failBatches p s).counts = s.counts :=
  each_fixed _ State.counts (fun _ _ => completeWait_counts ..) _

theorem bindSettle_counts (n : Nat) (s : State) : (bindSettle n s).counts = s.counts := by
  unfold bindSettle
  split
  · next o _ =>
    refine (completeWait_counts ..).trans ?_
    cases o <;> rfl
  · rfl

theorem chaviDown_counts (s : State) : (chaviDown s).counts = s.counts := by
  unfold chaviDown
  split
  · exact errRecord_counts ..
  · rfl

theorem windowsSettle_counts (s : State) : (windowsSettle s).counts = s.counts := by
  refine each_fixed _ State.counts (fun p u => ?_) s
  dsimp only
  split
  · rfl
  · exact completeWait_counts ..

/-- A bridge that has been stopped. -/
def bridgeStopped (x : Bridge) : Bridge :=
  { x with tracked := [], fenced := [], injq := [], holdBuf := [], pendVerd := [], v0 := [], v1 := [], act := false
           other := .free, armedAt := none, inflight := 0, zeroSince := none }

/-- The stop of a bridge ends with the bridge's own state. -/
theorem bridgeStop_last (b : Nat) (s : State) : ∃ u : State, bridgeStop b s = u.modBridge b bridgeStopped ∧ u.counts = s.counts := by
  have mapped (u : State) (f : DMap → DMap) : (u.modDmapE f).counts = u.counts := by
    have kept : Keeps [.dmap] u (u.modDmapE f) := by simp
    exact counts_of (congrArg Gw.nextId (kept .gw (by decide))) (congrArg Fab.settled (kept .fab (by decide)))
  have ports (p : Nat) (u : State) : (if portLive (u.port p).st then
      (u.modPort p (fun q => { q with st := .downRuntime, txq := [], replay := [], depth := 0, downAt := some (u.tb + 50000000) })).modDmapE
        (fun d => { d with fab := d.fab.modify p (fun f => { f with st := .downRuntime }) }) else u).counts = u.counts := by
    split
    · exact mapped ..
    · rfl
  have settled (l : List Nat) (u : State) : (each l bindSettle u).counts = u.counts := each_fixed _ State.counts (fun _ _ => bindSettle_counts ..) u
  have armed (u : State) : (if (u.bridge b).armedAt.isSome then
      completeWait wCommit 0 .routeBusy [] [] (u.modFab (fun f => { f with bridges := f.bridges.map (fun x => { x with armedAt := none }) })) else u).counts
        = u.counts := by
    split
    · refine (completeWait_counts ..).trans ?_
      rw [State.counts, State.modFab_fab, List.length_map]
      rfl
    · rfl
  have down := each_fixed ((List.range 6).map (· + 6 * b)) State.counts ports s
  unfold bridgeStop
  dsimp only
  generalize each ((List.range 6).map (· + 6 * b)) _ s = v at down ⊢
  exact ⟨_, rfl, (armed _).trans ((settled _ _).trans down)⟩

end Sys2Proof.Machine
end

section
/-! PROOFS. O48: programs, SELF_TEST, UNIT_RECOVER and HANDOFF (16 R448, Table 16.6; 17 R478; 18 R500, R501, R507 to R509; logs 36, 45,
60, 63). -/

namespace Sys2Proof.Machine

section
variable {s t : State} {h : CmdHdr} {sec : Bool} {op need o : Nat} {self : Instr} {body : State → Done} {e : State → State}

/-- A command that waits for an event, whose meaning changes Gwynpin but not its counter of commands. -/
theorem gwCommand_begun {w a : Nat} (g : GwGo s h sec need o) (hb : ∀ m, body (s.modMbx m) = .later w a (e (s.modMbx m)))
    (hg : ∀ m, (e (s.modMbx m)).gw.nextId = s.gw.nextId) : ∃ t m c j n, gwCommand self h op sec need o body s = .next t ∧ Accepted s t h op w a o
      ∧ Keeps [.gw] (e (s.modMbx m)) t ∧ t.gw = { (e (s.modMbx m)).gw with cmds := c, journal := j, nextId := n } := by
  obtain ⟨m, hm⟩ := gwCommand_taken (self := self) (op := op) (body := body) g
  rw [hb m] at hm
  exact ⟨_, m, _, _, _, hm, ⟨_, List.mem_append_right _ (List.mem_singleton_self _), hg m, rfl, rfl, rfl, rfl, rfl, rfl, rfl⟩, by simp, rfl⟩

end

section
variable {s t : State} {h : CmdHdr} {r n p f a u src : Nat}

/-! PROGRAM_LOAD (16 R448). -/

theorem loadCode_modMbx (m : Mbx → Mbx) (b : Bool) : loadCode (s.modMbx m) r p b a u src n = loadCode s r p b a u src n := rfl

theorem execProgramLoad_refuses (go : GwGo s h false 0 (objProg r p)) (hr : r < 12) (hf : f ≤ 1) (ha : a % 8 = 0) (hu : 0 < u) (hu' : u ≤ 4095)
    (fits : a + 16 * u ≤ 1310720) (bad : loadCode s r p (f == 1) a u src n ≠ .ok) :
    ∃ t, execProgramLoad h r p f a u src n s = .next t ∧ Replied s t h 0x0301 (loadCode s r p (f == 1) a u src n) [] [] ∧ Keeps gwF s t := by
  have legal : ¬ (12 ≤ r ∨ 1 < f ∨ a % 8 ≠ 0 ∨ u = 0 ∨ 4095 < u ∨ 1310720 < a + 16 * u) := by omega
  refine gwCommand_refuses go fun m => ?_
  rw [if_neg legal, loadCode_modMbx]
  split
  · next ok => exact absurd ok bad
  · rfl

/-- A row that runs, with its banks up, holds the program; the rest of a load's effect leaves the list. -/
theorem loadGo_progs {b : Bool} (hr : r < s.rows.length) : ∃ x : Prog, ((loadGo r p b a u src n s).row r).progs = (s.row r).progs ++ [x]
    ∧ x.num = p ∧ x.region = a ∧ x.units = u ∧ x.gen = (s.row r).progGen + 1 := by
  have written : Keeps [.mem] s (loadWrite r a (memRead s src n) s) := by simp
  have rows := row_of_rows (written .rows (by decide)) r
  have here : r < (loadWrite r a (memRead s src n) s).rows.length := by rw [written .rows (by decide)]; exact hr
  have reserved (l : List Nat) (v : State) : ((each l (fun k z => z.modRow r (scbEnter z.tb { owner := ownAst k, ranges := [regionRange a u], tb := z.tb })) v).row r).progs
      = (v.row r).progs := each_fixed _ (fun z : State => (z.row r).progs) (fun k z => row_modRow_fixed Row.progs (by intro w; rfl) z r r) v
  have paired (l : List Nat) (v : State) : ((if b then each l (fun k => formPair r (k / 2)) v else v).row r).progs = (v.row r).progs := by
    split
    · exact each_fixed _ (fun z : State => (z.row r).progs) (fun _ _ => formPair_progs ..) v
    · rfl
  have started (l : List Section) (img : List Byte) (v : State) : ((each l (fun x => startCore r x.slot x.dest p (x.data img)) v).row r).progs = (v.row r).progs :=
    each_fixed _ (fun z : State => (z.row r).progs) (fun k z => row_modRow_fixed Row.progs (by intro w; rfl) z r r) v
  unfold loadGo
  dsimp only
  rw [row_of_rows (measure_keeps _ _ _ _ _ .rows (by decide)), started, paired, reserved, row_modRow_self here, rows]
  exact ⟨_, rfl, rfl, rfl, rfl, rfl⟩

theorem loadGo_nmeas {b : Bool} : (loadGo r p b a u src n s).sec.nmeas = sat 32 (s.sec.nmeas + 1) := by
  have rest {v : State} (kept : Keeps [.mem, .rows] s v) : sat 32 (v.sec.nmeas + 1) = sat 32 (s.sec.nmeas + 1) := by rw [kept .sec (by decide)]
  unfold loadGo
  refine (measure_nmeas ..).trans (rest ?_)
  simp

theorem execProgramLoad_loads (go : GwGo s h false 0 (objProg r p)) (hr : r < 12) (hf : f ≤ 1) (ha : a % 8 = 0) (hu : 0 < u) (hu' : u ≤ 4095)
    (fits : a + 16 * u ≤ 1310720) (ok : loadCode s r p (f == 1) a u src n = .ok) (runs : rowRuns s r = true) (up : banksUp s r = true)
    (banks : loadBankCode s r a u (memRead s src n) = .ok) (ready : loadWaits (s.row r) a u (memRead s src n) = false) :
    ∃ m, execProgramLoad h r p f a u src n s = .next (finish 0x0301 h (s.chan h.chan).mseq .ok [] [] (loadGo r p (f == 1) a u src n (wakeRow r (s.modMbx m)))) := by
  have legal : ¬ (12 ≤ r ∨ 1 < f ∨ a % 8 ≠ 0 ∨ u = 0 ∨ 4095 < u ∨ 1310720 < a + 16 * u) := by omega
  refine gwCommand_finishes (e := fun v => loadGo r p (f == 1) a u src n (wakeRow r v)) go fun m => ?_
  have runs' : rowRuns (s.modMbx m) r = true := runs
  have up' : banksUp (s.modMbx m) r = true := up
  have banks' : loadBankCode (s.modMbx m) r a u (memRead (s.modMbx m) src n) = .ok := banks
  have ready' : loadWaits ((s.modMbx m).row r) a u (memRead (s.modMbx m) src n) = false := ready
  rw [if_neg legal, loadCode_modMbx, ok]
  dsimp only
  rw [if_neg (by simp only [runs', up']; decide), banks']
  dsimp only
  rw [if_neg (by rw [ready']; decide)]

/-! PROGRAM_UNLOAD (16, Table 16.6). -/

theorem each_unchanged {α : Type} {l : List α} {g : α → State → State} (hg : ∀ x ∈ l, g x s = s) : each l g s = s := by
  induction l with
  | nil => rfl
  | cons x l ih =>
    refine (congrArg (each l g) (hg x List.mem_cons_self)).trans (ih fun y hy => hg y (List.mem_cons_of_mem _ hy))

/-- What the reset of a core leaves of the row: its programs and its tiles. -/
theorem resetCore_row (r c : Nat) (code : Code) (s : State) (q : Nat) : ((resetCore r c code s).row q).progs = (s.row q).progs
    ∧ ((resetCore r c code s).row q).tiles = (s.row q).tiles := by
  have ended : (endSlotRequests r c code s).rows = s.rows := each_fixed _ State.rows (fun _ _ => endRequests_rows ..) s
  unfold resetCore
  refine ⟨?_, ?_⟩
  · refine (row_modRow_fixed Row.progs (by intro w; rfl) _ r q).trans ((row_modRow_fixed Row.progs (by intro w; rfl) _ r q).trans ?_)
    rw [row_of_rows ended]
  · refine (row_modRow_fixed Row.tiles (by intro w; rfl) _ r q).trans ((row_modRow_fixed Row.tiles (by intro w; rfl) _ r q).trans ?_)
    rw [row_of_rows ended]

/-- The state in which the tiles of a program stop: its row woken, its cores in RESET. -/
def coresReset (r : Nat) (x : Prog) (s : State) : State := each x.prm (fun c => resetCore r c .unitRetired) (wakeRow r s)

theorem coresReset_row (r : Nat) (x : Prog) (s : State) : ((coresReset r x s).row r).progs = (s.row r).progs
    ∧ ((coresReset r x s).row r).tiles = (s.row r).tiles := by
  have both : (((coresReset r x s).row r).progs, ((coresReset r x s).row r).tiles) = ((s.row r).progs, (s.row r).tiles) := by
    refine (each_fixed _ (fun z : State => ((z.row r).progs, (z.row r).tiles)) (fun c z => ?_) _).trans
      (wakeRow_row_fixed (fun w : Row => (w.progs, w.tiles)) (fun _ _ _ _ => rfl) r s r)
    obtain ⟨progs, tiles⟩ := resetCore_row r c .unitRetired z r
    rw [progs, tiles]
  exact ⟨congrArg Prod.fst both, congrArg Prod.snd both⟩

theorem coresReset_length (r : Nat) (x : Prog) (s : State) : (coresReset r x s).rows.length = s.rows.length := by
  refine (each_fixed _ (fun z : State => z.rows.length) (fun c z => ?_) _).trans ?_
  · exact (modRow_rows_length _).trans ((modRow_rows_length _).trans (congrArg List.length (each_fixed _ State.rows (fun _ _ => endRequests_rows ..) z)))
  · obtain ⟨g, e, -⟩ := wakeRow_rows r s
    rw [e, List.length_modify]

/-- The end of an unload leaves the other programs of its row. -/
theorem unloadEnd_progs (x : Prog) (hr : r < s.rows.length) : ((unloadEnd r x s).row r).progs = (s.row r).progs.filter (·.num != x.num) := by
  have modified (v : State) {g : Row → Row} (hg : ∀ w, (g w).progs = w.progs) : ((v.modRow r g).row r).progs = (v.row r).progs :=
    row_modRow_fixed Row.progs hg v r r
  have freed (v : State) (o : Nat) : ((v.modRow r (scbFreeOwner v.tb o)).row r).progs = (v.row r).progs := modified v (by intro w; rfl)
  unfold unloadEnd
  dsimp only
  refine (each_fixed _ (fun z : State => (z.row r).progs) (fun c z => freed z _) _).trans ?_
  have pairs (v : State) (g : Row → Row) (hg : ∀ w, (g w).progs = w.progs) : ((if x.paired then v.modRow r g else v).row r).progs = (v.row r).progs := by
    split
    · exact modified v hg
    · rfl
  refine (pairs _ _ (by intro w; rfl)).trans ((each_fixed _ (fun z : State => (z.row r).progs) (fun k z => ?_) _).trans ?_)
  · refine (regionResv_row_fixed Row.progs (fun _ _ _ _ _ => rfl) r k _ r).trans ((modified _ (by intro w; rfl)).trans (freed z _))
  · rw [row_modRow_self hr]

section
variable (go : GwGo s h false 0 (objProg r n)) (hr : r < 12)
include go hr

theorem execProgramUnload_absent (absent : (s.row r).progs.find? (·.num == n) = none) :
    ∃ t, execProgramUnload h r n s = .next t ∧ Replied s t h 0x0302 .unitBusy [] [] ∧ Keeps gwF s t :=
  gwCommand_refuses go fun m => by rw [if_neg (by omega), modMbx_row, absent]

theorem execProgramUnload_inUse {x : Prog} (found : (s.row r).progs.find? (·.num == n) = some x) (used : progInUse s r x = true) :
    ∃ t, execProgramUnload h r n s = .next t ∧ Replied s t h 0x0302 .rowInUse [] [] ∧ Keeps gwF s t :=
  gwCommand_refuses go fun m => by
    rw [if_neg (by omega), modMbx_row, found]
    exact if_pos used

/-- A program whose tiles have drained is unloaded at once. -/
theorem execProgramUnload_unloads {x : Prog} (found : (s.row r).progs.find? (·.num == n) = some x) (free : progInUse s r x = false)
    (idle : ∀ k ∈ progTiles x, tileBusy (s.tile r k) = false ∧ (s.tile r k).paired = false) :
    ∃ t m, execProgramUnload h r n s = .next t ∧ Replied s t h 0x0302 .ok [] [] ∧ Keeps gwF (unloadEnd r x (coresReset r x (s.modMbx m))) t := by
  refine gwCommand_answers (e := fun v => unloadEnd r x (coresReset r x v)) go (fun m => ?_) fun m => ?_
  · have tiles (k : Nat) : (coresReset r x (s.modMbx m)).tile r k = s.tile r k := congrArg (nth · k) (coresReset_row r x (s.modMbx m)).2
    have stopped : each (progTiles x) (stopTile r) (coresReset r x (s.modMbx m)) = coresReset r x (s.modMbx m) :=
      each_unchanged fun k hk => if_pos (by rw [tiles, (idle k hk).1]; simp)
    have drained : (progTiles x).all (tileDrained (coresReset r x (s.modMbx m)) r) = true := by
      refine List.all_eq_true.2 fun k hk => ?_
      obtain ⟨quiet, single⟩ := idle k hk
      have issued : (s.tile r k).issued.isEmpty = true := by
        simp only [tileBusy, Bool.or_eq_false_iff, Bool.not_eq_false'] at quiet
        exact quiet.1.2
      simp only [tileDrained, tiles, issued, single, Bool.not_false, Bool.true_or, Bool.and_self]
    rw [if_neg (by omega), modMbx_row, found]
    refine (if_neg ?_).trans ?_
    · rw [show progInUse (s.modMbx m) r x = false from free]
      decide
    · refine (if_pos ?_).trans (congrArg (fun v => Done.now .ok [] [] (unloadEnd r x v)) stopped)
      exact (congrArg (fun v => (progTiles x).all (tileDrained v r)) stopped).trans drained
  · have kept : Keeps [.rows, .mem, .fab, .chavi, .mbx, .rings, .gw, .err, .sec, .attn, .out, .power] (s.modMbx m) (unloadEnd r x (coresReset r x (s.modMbx m))) := by
      simp [coresReset]
    exact congrArg Clk.tb (kept .clk (by decide))

end

end

/-! SELF_TEST and UNIT_RECOVER (17 R478; 18 R497, R507 to R509). -/

section
variable {s t : State} {h : CmdHdr} {r p k b u : Nat}

theorem queueTest_gw (u n : Nat) (x : PosState) (s : State) : (∃ l, (queueTest u n x s).gw = { s.gw with tests := l }) ∧ ∃ y ∈ (queueTest u n x s).gw.tests, y.unit = u := by
  unfold queueTest
  split
  · next queued =>
    obtain ⟨y, hy⟩ := Option.isSome_iff_exists.1 queued
    exact ⟨⟨s.gw.tests, rfl⟩, y, List.mem_of_find?_eq_some hy, test_unit hy⟩
  · exact ⟨⟨_, rfl⟩, _, List.mem_append_right _ (List.mem_singleton_self _), rfl⟩

theorem execSelfTest_queues (go : GwGo s h false 0 (objUnit u)) (named : testUnitOk u = true) (fitted : testAbsent s u = false)
    (served : inRow u = true → rowIsOut s (uRowOf u) = false ∧ rowIsDark s (uRowOf u) = false) :
    ∃ t, execSelfTest h u s = .next t ∧ Accepted s t h 0x0303 wTest u (objUnit u) ∧ (∃ x ∈ t.gw.tests, x.unit = u) ∧ Keeps gwF s t := by
  have lit : (inRow u && rowIsOut s (uRowOf u)) = false ∧ (inRow u && rowIsDark s (uRowOf u)) = false := by
    cases c : inRow u
    · exact ⟨rfl, rfl⟩
    · exact served c
  obtain ⟨t, m, c, j, n, run, accepted, kept, gw⟩ : ∃ t m c j n, execSelfTest h u s = .next t ∧ Accepted s t h 0x0303 wTest u (objUnit u)
      ∧ Keeps [.gw] (queueTest u 0 .active (s.modMbx m)) t ∧ t.gw = { (queueTest u 0 .active (s.modMbx m)).gw with cmds := c, journal := j, nextId := n } := by
    refine gwCommand_begun (e := queueTest u 0 .active) go (fun m => ?_) fun m => ?_
    · have fitted' : testAbsent (s.modMbx m) u = false := fitted
      have served' : (inRow u && rowIsOut (s.modMbx m) (uRowOf u)) = false := lit.1
      have lit' : (inRow u && rowIsDark (s.modMbx m) (uRowOf u)) = false := lit.2
      rw [if_neg (by simp [named]), fitted', served', lit']
      rfl
    · obtain ⟨⟨l, e⟩, -⟩ := queueTest_gw u 0 .active (s.modMbx m)
      rw [e]
      rfl
  refine ⟨t, run, accepted, ?_, ?_⟩
  · rw [gw]
    exact (queueTest_gw u 0 .active (s.modMbx m)).2
  · exact Keeps.trans (t := queueTest u 0 .active (s.modMbx m)) (by simp [gwF]) (kept.mono (by decide))

theorem unit_port (hp : p < 12) : uClass (uPort p) = 0xA ∧ uRowOf (uPort p) = 0 ∧ uIdx (uPort p) = p := by
  unfold uClass uRowOf uIdx uPort unitId
  omega

theorem unit_row (hr : r < 12) : uClass (uRow r) = 5 ∧ uRowOf (uRow r) = r ∧ uIdx (uRow r) = 0 := by
  unfold uClass uRowOf uIdx uRow unitId
  omega

theorem unit_bridge (hb : b < 2) : uClass (uBridge b) = 0xC ∧ uRowOf (uBridge b) = 0 ∧ uIdx (uBridge b) = b := by
  unfold uClass uRowOf uIdx uBridge unitId
  omega

theorem unit_aster (hr : r < 12) (hp : p < 5) : uClass (uAst r p) = 1 ∧ uRowOf (uAst r p) = r ∧ uIdx (uAst r p) = p := by
  unfold uClass uRowOf uIdx uAst unitId
  omega

/-- A lost port that is fitted, in reach and connected trains again. -/
theorem execUnitRecover_port (c : Bool) (go : GwGo s h false 0 (objUnit (uPort p))) (hp : p < 12) (here : p < s.fab.ports.length)
    (fitted : portFitted s p = true) (down : (s.port p).st = .downRuntime) (up : bridgeUp s (portBridge p) = true) (present : nth s.power.presentN p = false) :
    ∃ t, execUnitRecover h (uPort p) c s = .next t ∧ Accepted s t h 0x0304 wRecover (uPort p) (objUnit (uPort p))
      ∧ t.port p = { s.port p with st := .retraining, downAt := none } ∧ Keeps gwF s t := by
  obtain ⟨cls, row, idx⟩ := unit_port hp
  have object : recoverObj (uPort p) = objUnit (uPort p) := by simp [recoverObj, cls]
  obtain ⟨t, m, run, accepted, kept⟩ : ∃ t m, execUnitRecover h (uPort p) c s = .next t ∧ Accepted s t h 0x0304 wRecover (uPort p) (recoverObj (uPort p))
      ∧ Keeps [.gw] ((s.modMbx m).modPort p fun q => { q with st := .retraining, downAt := none }) t := by
    refine gwCommand_accepts (e := fun v => v.modPort p fun q => { q with st := .retraining, downAt := none }) (object ▸ go) (fun m => ?_) fun _ => rfl
    have fitted' : portFitted (s.modMbx m) p = true := fitted
    have trains : recoverPort p (s.modMbx m) = .later wRecover (uPort p) ((s.modMbx m).modPort p fun q => { q with st := .retraining, downAt := none }) :=
      (if_neg (by rw [fitted']; decide)).trans (if_pos ⟨down, up, present⟩)
    simp only [cls, row, idx]
    exact (if_pos (by simp [hp])).trans trains
  refine ⟨t, run, object ▸ accepted, ?_, ?_⟩
  · exact (port_of_ports (congrArg Fab.ports (kept .fab (by decide))) p).trans (nth_modify_self _ here)
  · exact Keeps.trans (t := (s.modMbx m).modPort p fun q => { q with st := .retraining, downAt := none }) (by simp [gwF]) (kept.mono (by decide))

/-- After a row's reset its tiles are EMPTY and its pairs dissolved. -/
theorem rowReset_row (r : Nat) (s : State) : ((rowReset r s).row r).pairs = [{}, {}] ∧ ∀ k, ((rowReset r s).tile r k).queue = []
    ∧ ((rowReset r s).tile r k).issued = [] ∧ ((rowReset r s).tile r k).halted = false := by
  have cleared (v : State) : ((v.modRow r fun w => { clearScb w with tiles := w.tiles.map (fun x => { resetTile x with paired := false }), pairs := [{}, {}] }).row r).pairs = [{}, {}]
      ∧ ∀ k, let x := nth ((v.modRow r fun w => { clearScb w with tiles := w.tiles.map (fun x => { resetTile x with paired := false }), pairs := [{}, {}] }).row r).tiles k
          x.queue = [] ∧ x.issued = [] ∧ x.halted = false := by
    by_cases hr : r < v.rows.length
    · rw [row_modRow_self hr]
      refine ⟨rfl, fun k => ?_⟩
      by_cases hk : k < (v.row r).tiles.length
      · rw [nth_map _ hk]
        exact ⟨rfl, rfl, rfl⟩
      · rw [nth_of_length_le (by simpa using hk)]
        exact ⟨rfl, rfl, rfl⟩
    · rw [State.row, nth_of_length_le (by rw [modRow_rows_length]; exact Nat.not_lt.1 hr)]
      refine ⟨rfl, fun k => ?_⟩
      by_cases hk : k < 4
      · rw [show (default : Row).tiles = List.replicate 4 {} from rfl, nth_replicate _ hk]
        exact ⟨rfl, rfl, rfl⟩
      · rw [nth_of_length_le (by change 4 ≤ k; omega)]
        exact ⟨rfl, rfl, rfl⟩
  have restored (c : Nat) (v : State) : (((restoreCore r c 0 v).row r).pairs, ((restoreCore r c 0 v).row r).tiles) = ((v.row r).pairs, (v.row r).tiles) := by
    have cores (z : State) (g : Core → Core) : (((z.modCore r c g).row r).pairs, ((z.modCore r c g).row r).tiles) = ((z.row r).pairs, (z.row r).tiles) :=
      row_modRow_fixed (fun w : Row => (w.pairs, w.tiles)) (by intro w; rfl) z r r
    have lost := cores v fun x => { coreLost x with lmem := x.lmem, fetchOut := x.fetchOut }
    unfold restoreCore
    dsimp only
    generalize v.modCore r c _ = z at lost ⊢
    split
    · exact lost
    · split
      · split
        · exact (cores ..).trans lost
        · exact lost
      · rw [row_of_rows (errRecord_rows ..)]
        exact lost
  have rest (v : State) : (((each (List.range 8) (fun c z => restoreCore r c 0 z) (each (List.range 4) (regionResv r) v)).row r).pairs,
      ((each (List.range 8) (fun c z => restoreCore r c 0 z) (each (List.range 4) (regionResv r) v)).row r).tiles) = ((v.row r).pairs, (v.row r).tiles) :=
    (each_fixed _ (fun z : State => ((z.row r).pairs, (z.row r).tiles)) restored _).trans
      (each_fixed _ (fun z : State => ((z.row r).pairs, (z.row r).tiles))
        (fun k z => regionResv_row_fixed (fun w : Row => (w.pairs, w.tiles)) (fun _ _ _ _ _ => rfl) r k z r) v)
  unfold rowReset
  dsimp only
  simp only [State.tile]
  generalize each (List.range 4) (fun e => freeEverywhere (ownDma r e)) _ = v
  obtain ⟨pairs, tiles⟩ := Prod.mk.inj (rest (v.modRow r fun w => { clearScb w with tiles := w.tiles.map (fun x => { resetTile x with paired := false }), pairs := [{}, {}] }))
  rw [pairs, tiles]
  exact cleared v

theorem execUnitRecover_row (c : Bool) (go : GwGo s h false 0 (objRow r)) (hr : r < 12) (served : rowIsOut s r = false) (lit : rowIsDark s r = false)
    (runs : rowRuns s r = true) (up : banksUp s r = true) (room : markRoom (s.row r) (countIf (·.wr) (s.row r).scb) = true) :
    ∃ t m, execUnitRecover h (uRow r) c s = .next t ∧ Replied s t h 0x0304 .ok [] [] ∧ Keeps gwF (rowReset r (wakeRow r (s.modMbx m))) t := by
  obtain ⟨cls, row, idx⟩ := unit_row hr
  have object : recoverObj (uRow r) = objRow r := by simp [recoverObj, cls, row]
  refine gwCommand_answers (e := fun v => rowReset r (wakeRow r v)) (object ▸ go) (fun m => ?_) fun m => ?_
  · have runs' : rowRuns (s.modMbx m) r = true := runs
    have up' : banksUp (s.modMbx m) r = true := up
    have resets : recoverRow r (s.modMbx m) = .now .ok [] [] (rowReset r (wakeRow r (s.modMbx m))) := by
      unfold recoverRow
      rw [modMbx_rowIsOut, served, modMbx_rowIsDark, lit, runs', up', modMbx_row, room]
      rfl
    have named : testUnitOk (uRow r) = true := by simp [testUnitOk, cls, row, idx, hr]
    simp only [cls, row]
    exact (if_pos named).trans resets
  · have kept : Keeps [.power, .rows, .mem, .fetch, .fab, .chavi, .mbx, .rings, .gw, .err, .wit, .sec, .attn, .out] (s.modMbx m) (rowReset r (wakeRow r (s.modMbx m))) := by simp
    exact congrArg Clk.tb (kept .clk (by decide))

/-- A bridge in reset holds no packet, and Gwynpin's counter of commands is as before. -/
theorem bridgeReset_bridge (hb : b < s.fab.bridges.length) : (bridgeReset b s).gw.nextId = s.gw.nextId ∧ ((bridgeReset b s).bridge b).inReset = true
    ∧ ((bridgeReset b s).bridge b).v0 = [] ∧ ((bridgeReset b s).bridge b).v1 = [] := by
  have failed := (failBatches_counts (bridgeTable s b) (fetchesDown b false s)).trans (fetchesDown_counts b false s)
  have refreshed (l : List Nat) (v : State) : (each l (fun u z => z.modMemUnit u (fun x => { x with selfRefresh := x.st != .absent })) v).counts = v.counts :=
    each_fixed _ State.counts (by intro x z; rfl) v
  unfold bridgeReset
  dsimp only
  generalize hv : each ((List.range 8).map _) _ _ = v
  have counts : v.counts = s.counts := hv ▸ (refreshed _ _).trans failed
  obtain ⟨z, stop, same⟩ := bridgeStop_last b v
  have counted : z.counts = s.counts := same.trans counts
  have length : b < z.fab.bridges.length := by rw [show z.fab.bridges.length = s.fab.bridges.length from congrArg Prod.snd counted]; exact hb
  have reset : ((z.modBridge b bridgeStopped).modBridge b fun x => { x with inReset := true }).bridge b = { bridgeStopped (z.bridge b) with inReset := true } := by
    rw [bridge_modBridge_self (by rw [State.modBridge, State.modFab_fab, List.length_modify]; exact length), bridge_modBridge_self length]
  rw [stop]
  have stopped : ((z.modBridge b bridgeStopped).modBridge b fun x => { x with inReset := true }).counts = s.counts := by
    rw [← counted]
    simp [State.counts, State.modBridge]
  generalize (z.modBridge b bridgeStopped).modBridge b _ = y at reset stopped ⊢
  have down (v : State) : (chaviDown v).counts = v.counts ∧ ((chaviDown v).bridge b).settled = (v.bridge b).settled := by
    refine ⟨chaviDown_counts v, ?_⟩
    unfold chaviDown
    split
    · exact bridge_of_settled (errRecord_settled ..) b
    · rfl
  have ended : (if b = 0 then chaviDown (y.modRings fun m => { m with up := false }) else y).counts = y.counts
      ∧ ((if b = 0 then chaviDown (y.modRings fun m => { m with up := false }) else y).bridge b).settled = (y.bridge b).settled := by
    split
    · exact down _
    · exact ⟨rfl, rfl⟩
  have bridge := (windowsSettle_bridge _ b).trans (ended.2.trans (congrArg Bridge.settled reset))
  refine ⟨congrArg Prod.fst ((windowsSettle_counts _).trans (ended.1.trans stopped)), ?_, ?_, ?_⟩
  · exact (congrArg Bridge.inReset bridge :)
  · exact (congrArg Bridge.v0 bridge :)
  · exact (congrArg Bridge.v1 bridge :)

theorem execUnitRecover_bridge (c : Bool) (go : GwGo s h false 0 (objBridge b)) (hb : b < 2) (here : b < s.fab.bridges.length) (served : (s.bridge b).out = false)
    (up : (s.bridge b).inReset = false) : ∃ t, execUnitRecover h (uBridge b) c s = .next t ∧ Accepted s t h 0x0304 wRecover (uBridge b) (objBridge b)
      ∧ (t.bridge b).inReset = true ∧ (t.bridge b).v0 = [] ∧ (t.bridge b).v1 = [] := by
  obtain ⟨cls, row, idx⟩ := unit_bridge hb
  have object : recoverObj (uBridge b) = objBridge b := by simp [recoverObj, cls, idx]
  have reset (m : Mbx → Mbx) := bridgeReset_bridge (s := s.modMbx m) here
  obtain ⟨t, m, _, _, _, run, accepted, kept, -⟩ : ∃ t m c' j n, execUnitRecover h (uBridge b) c s = .next t
      ∧ Accepted s t h 0x0304 wRecover (uBridge b) (recoverObj (uBridge b)) ∧ Keeps [.gw] (bridgeReset b (s.modMbx m)) t
      ∧ t.gw = { (bridgeReset b (s.modMbx m)).gw with cmds := c', journal := j, nextId := n } := by
    refine gwCommand_begun (e := bridgeReset b) (object ▸ go) (fun m => ?_) fun m => (reset m).1
    have served' : ((s.modMbx m).bridge b).out = false := served
    have up' : ((s.modMbx m).bridge b).inReset = false := up
    have resets : recoverBridge b (s.modMbx m) = .later wRecover (uBridge b) (bridgeReset b (s.modMbx m)) := by
      unfold recoverBridge
      rw [served', up']
      rfl
    simp only [cls, row, idx]
    exact (if_pos (by simp [hb])).trans resets
  have bridge : t.bridge b = (bridgeReset b (s.modMbx m)).bridge b := congrArg (fun f : Fab => nth f.bridges b) (kept .fab (by decide))
  refine ⟨t, run, object ▸ accepted, ?_⟩
  rw [bridge]
  exact (reset m).2

/-- A slot that runs, with a spare position in its chain, waits for its swap. -/
theorem execUnitRecover_swap (go : GwGo s h false 0 (objUnit (uAst r p))) (hr : r < 12) (hp : p < 5) (served : rowIsOut s r = false) (lit : rowIsDark s r = false)
    (good : posBad (posState s true r p) = false) (has : posState s true r p ≠ .lost) (untested : posState s true r p ≠ .inTest) (slot : posSlot s true r p = some k)
    (runs : slotHalted s true r k = false) (spare : (spareOf s true r).isSome = true) :
    ∃ t, execUnitRecover h (uAst r p) false s = .next t ∧ Accepted s t h 0x0304 wSwap (uAst r p) (objUnit (uAst r p)) := by
  obtain ⟨cls, row, idx⟩ := unit_aster hr hp
  have object : recoverObj (uAst r p) = objUnit (uAst r p) := by simp [recoverObj, cls]
  obtain ⟨t, m, run, accepted, -⟩ : ∃ t m, execUnitRecover h (uAst r p) false s = .next t ∧ Accepted s t h 0x0304 wSwap (uAst r p) (recoverObj (uAst r p))
      ∧ Keeps [.gw] (setStopped r k true (wakeRow r (s.modMbx m))) t := by
    refine gwCommand_accepts (e := fun v => setStopped r k true (wakeRow r v)) (object ▸ go) (fun m => ?_) fun m => ?_
    · have state : posState (s.modMbx m) true r p = posState s true r p := rfl
      have slot' : posSlot (s.modMbx m) true r p = some k := slot
      have runs' : slotHalted (s.modMbx m) true r k = false := runs
      have spare' : (spareOf (s.modMbx m) true r).isNone = false := by
        rw [show spareOf (s.modMbx m) true r = spareOf s true r from rfl, Option.isNone_eq_false_iff]
        exact spare
      have swaps : recoverPos (uAst r p) false (s.modMbx m) = .later wSwap (uAst r p) (setStopped r k true (wakeRow r (s.modMbx m))) := by
        unfold recoverPos
        simp only [uAster, cls, row, idx, beq_self_eq_true, modMbx_rowIsOut, served, modMbx_rowIsDark, lit, state, good, slot', runs', spare',
          beq_eq_false_iff_ne.2 has, beq_eq_false_iff_ne.2 untested, Bool.or_self, Bool.false_eq_true, if_false, if_true, Nat.add_zero]
      have named : testUnitOk (uAst r p) = true := by simp [testUnitOk, cls, row, idx, hr, hp]
      simp only [cls]
      exact (if_pos named).trans swaps
    · have kept : Keeps [.power, .rows] (s.modMbx m) (setStopped r k true (wakeRow r (s.modMbx m))) := by simp
      exact kept .gw (by decide)
  exact ⟨t, run, object ▸ accepted⟩

end

/-! HANDOFF (18 R500, R501). -/

section
variable {s t : State} {h : CmdHdr} {c i n : Nat}

theorem imgRequest_gw (i a n : Nat) (s : State) : (imgRequest i a n s).gw = { s.gw with imgReqs := [(i, a, s.tb, n)] } := by
  have sent (p : ChaviOut) : Keeps [.chavi, .sec, .out] s (chaviSend p s) := by simp
  unfold imgRequest
  rw [State.modGw_gw, sent _ .gw (by decide)]

section
variable (go : GwGo s h true 0 (objUnit (uMc 0))) (stands : standbyCore s ≠ none)
include go stands

theorem execHandoff_restarts : ∃ t, execHandoff h 0xFF s = .next t ∧ Accepted s t h 0x0309 wHandoff 0 (objUnit (uMc 0)) ∧ t.gw.handoff = some (0xFF, 1) ∧ Keeps gwF s t := by
  obtain ⟨t, m, c, j, n, run, accepted, kept, gw⟩ : ∃ t m c j n, execHandoff h 0xFF s = .next t ∧ Accepted s t h 0x0309 wHandoff 0 (objUnit (uMc 0))
      ∧ Keeps [.gw] ((s.modMbx m).modGw fun g => { g with handoff := some (0xFF, 1) }) t
      ∧ t.gw = { ((s.modMbx m).modGw fun g => { g with handoff := some (0xFF, 1) }).gw with cmds := c, journal := j, nextId := n } :=
    gwCommand_begun (e := fun v => v.modGw fun g => { g with handoff := some (0xFF, 1) }) go
      (fun m => by rw [if_neg (by decide), if_neg (show standbyCore (s.modMbx m) ≠ none from stands), if_pos rfl]) fun _ => rfl
  exact ⟨t, run, accepted, by rw [gw]; rfl, Keeps.trans (t := (s.modMbx m).modGw fun g => { g with handoff := some (0xFF, 1) }) (by simp [gwF]) (kept.mono (by decide))⟩

/-- The state in which the image of a handoff has been asked for. -/
def handoffAsked (i : Nat) (s : State) : State := imgRequest i 0 0 (s.modGw fun g => { g with handoff := some (i, 0), imgBuf := [] })

theorem execHandoff_asks (hi : i < 8) : ∃ t, execHandoff h i s = .next t ∧ Accepted s t h 0x0309 wHandoff 0 (objUnit (uMc 0)) ∧ t.gw.handoff = some (i, 0)
    ∧ t.gw.imgReqs = [(i, 0, s.tb, 0)] ∧ Keeps gwF s t := by
  have asked (m : Mbx → Mbx) : (handoffAsked i (s.modMbx m)).gw = { s.gw with handoff := some (i, 0), imgBuf := [], imgReqs := [(i, 0, s.tb, 0)] } := imgRequest_gw ..
  obtain ⟨t, m, c, j, n, run, accepted, kept, gw⟩ : ∃ t m c j n, execHandoff h i s = .next t ∧ Accepted s t h 0x0309 wHandoff 0 (objUnit (uMc 0))
      ∧ Keeps [.gw] (handoffAsked i (s.modMbx m)) t ∧ t.gw = { (handoffAsked i (s.modMbx m)).gw with cmds := c, journal := j, nextId := n } :=
    gwCommand_begun (e := handoffAsked i) go (fun m => by
      rw [if_neg (by omega), if_neg (show standbyCore (s.modMbx m) ≠ none from stands), if_neg (by omega)]
      rfl) fun m => by rw [asked]
  refine ⟨t, run, accepted, by rw [gw, asked], by rw [gw, asked], ?_⟩
  exact Keeps.trans (t := handoffAsked i (s.modMbx m)) (by simp [handoffAsked, gwF]) (kept.mono (by decide))

end

theorem runImage_gw (i : Nat) (s : State) : (runImage i s).gw = { s.gw with imageIdx := i, version := field s.gw.imgHdr 8 4, nhkey := field s.gw.imgHdr 7 1 } :=
  measure_keeps _ _ _ _ _ .gw (by decide)

theorem runImage_boot (i : Nat) (s : State) : (runImage i s).boot = s.boot := measure_boot ..

/-- The state once the verified image runs on the core that stood by. -/
def handedOff (i c : Nat) (s : State) : State :=
  ((if i = 0xFF then runImage s.gw.imageIdx s else runImage i (s.modGw fun g => { g with imgHdr := g.imgBuf.take 768, imgBuf := [] })).modGw fun g => { g with
    handoff := none, handoffRec := (g.cmds.filter (·.wait != wHandoff)).map (·.id), running := some (1 - c)
    mc := (g.mc.set (1 - c) .running).set c .standby
    wdAt := (if i = 0xFF then runImage s.gw.imageIdx s else runImage i (s.modGw fun g => { g with imgHdr := g.imgBuf.take 768, imgBuf := [] })).tb + g.tmoMgmt }).modBoot
    fun b => { b with bootCore := 1 - c }

theorem execHandoffImageVerified_moves (verified : s.gw.handoff = some (i, 1)) (running : s.gw.running = some c) (serves : gwServes s = true)
    (stands : nth s.gw.mc (1 - c) = .standby) : exec .handoffImageVerified s = .next (completeWait wHandoff 0 .ok [] [] (handedOff i c s)) := by
  change execHandoffImageVerified s = _
  unfold execHandoffImageVerified
  rw [verified, running]
  refine (if_neg ?_).trans ((if_neg (not_not.2 stands)).trans rfl)
  rw [serves]
  decide

theorem handedOff_moves (i c : Nat) (s : State) : (handedOff i c s).gw.running = some (1 - c) ∧ (handedOff i c s).gw.handoff = none
    ∧ (handedOff i c s).gw.mc = (s.gw.mc.set (1 - c) .running).set c .standby ∧ (handedOff i c s).boot = { s.boot with bootCore := 1 - c }
    ∧ (handedOff i c s).gw.imageIdx = (if i = 0xFF then s.gw.imageIdx else i) := by
  unfold handedOff
  split
  · simp only [State.modBoot_gw, State.modGw_gw, State.modBoot_boot, State.modGw_boot, runImage_gw, runImage_boot, and_self]
  · simp only [State.modBoot_gw, State.modGw_gw, State.modBoot_boot, State.modGw_boot, runImage_gw, runImage_boot, and_self]

end

/-- Settles O48: each command's answer or wait, and what it makes of its unit. -/
theorem programsTestsAndRecoveries : Obligations.ProgramsTestsAndRecoveries := by
  unfold Obligations.ProgramsTestsAndRecoveries
  refine ⟨?load, fun s h r p f a u src n go hr hf ha hu hu' fits bad => execProgramLoad_refuses go hr hf ha hu hu' fits bad,
    fun s h r n x go hr here => ⟨fun found free idle => ?unload, fun found used => execProgramUnload_inUse go hr found used, fun absent => execProgramUnload_absent go hr absent⟩,
    fun s h u go named fitted served => execSelfTest_queues go named fitted served,
    fun s h c p go hp here fitted down up present => execUnitRecover_port c go hp here fitted down up present, ?row,
    fun s h c b go hb here served up => execUnitRecover_bridge c go hb here served up,
    fun s h r p k go hr hp served lit good has untested slot runs spare => execUnitRecover_swap go hr hp served lit good has untested slot runs spare,
    fun s h m go stands => ⟨execHandoff_restarts go (by simp [stands]), fun i hi => execHandoff_asks go (by simp [stands]) hi⟩, ?verified, ?noHandoff⟩
  case load =>
    intro s h r p f a u src n go hr here hf ha hu hu' fits ok runs up banks ready
    obtain ⟨m, run⟩ := execProgramLoad_loads go hr hf ha hu hu' fits ok runs up banks ready
    have loaded : Keeps [.power, .rows, .mem, .sec] (s.modMbx m) (loadGo r p (f == 1) a u src n (wakeRow r (s.modMbx m))) := by simp
    have awake : Keeps [.rows, .power] (s.modMbx m) (wakeRow r (s.modMbx m)) := by simp
    obtain ⟨_, a', b', woken⟩ := wakeRow_runs (s := s.modMbx m) here runs
    have length : r < (wakeRow r (s.modMbx m)).rows.length := by
      obtain ⟨g, e, -⟩ := wakeRow_rows (s := s.modMbx m) (r := r)
      rw [e, List.length_modify]
      exact here
    obtain ⟨x, progs, num, region, units, gen⟩ := loadGo_progs (s := wakeRow r (s.modMbx m)) (p := p) (a := a) (u := u) (src := src) (n := n) (b := f == 1) length
    rw [woken] at progs gen
    have row := (row_of_rows (finish_keeps (op := 0x0301) (h := h) (s.chan h.chan).mseq .ok []
      (loadGo r p (f == 1) a u src n (wakeRow r (s.modMbx m))) .rows (by decide)) r).trans rfl
    refine ⟨_, run, finish_replied _ .ok [] (congrArg Clk.tb (loaded .clk (by decide))), ?_, ?_, ?_⟩
    · rw [row, progs]
      exact List.length_append
    · rw [row, progs, List.getLast?_concat, Option.map_some, num, region, units, gen]
      rfl
    · exact (finish_nmeas ..).trans (loadGo_nmeas.trans (congrArg (fun z : Sec => sat 32 (z.nmeas + 1)) (awake .sec (by decide))))
  case unload =>
    obtain ⟨t, m, run, replied, kept⟩ := execProgramUnload_unloads go hr found free idle
    have length : r < (coresReset r x (s.modMbx m)).rows.length := by
      rw [coresReset_length]
      exact here
    refine ⟨t, run, replied, ?_⟩
    rw [row_of_rows (kept .rows (by decide)), unloadEnd_progs x length, (coresReset_row r x (s.modMbx m)).1,
      show x.num = n by simpa using List.find?_some found]
    rfl
  case row =>
    intro s h c r go hr here served lit runs up room
    obtain ⟨t, m, run, replied, kept⟩ := execUnitRecover_row c go hr served lit runs up room
    obtain ⟨pairs, tiles⟩ := rowReset_row r (wakeRow r (s.modMbx m))
    have row := row_of_rows (kept .rows (by decide)) r
    refine ⟨t, run, replied, by rw [row]; exact pairs, fun k => ?_⟩
    rw [State.tile, row]
    exact tiles k
  case verified =>
    intro s i c verified running hc two serves stands
    have kept := completeWait_gw (fun g : Gw => (g.running, g.handoff, g.mc, g.imageIdx)) (fun _ _ _ _ _ => rfl) wHandoff 0 .ok [] (handedOff i c s)
    obtain ⟨role, none_, mc, boot, image⟩ := handedOff_moves i c s
    have same : Keeps [.mem, .fab, .chavi, .mbx, .gw, .sec, .out] (handedOff i c s) (completeWait wHandoff 0 .ok [] [] (handedOff i c s)) := by simp
    simp only [Prod.mk.injEq] at kept
    obtain ⟨k1, k2, k3, k4⟩ := kept
    refine ⟨_, execHandoffImageVerified_moves verified running serves stands, k1.trans role, k2.trans none_, ?_, ?_, (same .boot (by decide)).trans boot, k4.trans image⟩
    · rw [k3, mc, nth_set_of_ne _ _ (by omega)]
      exact nth_set_self _ (by omega)
    · rw [k3, mc]
      exact nth_set_self _ (by rw [List.length_set]; omega)
  case noHandoff =>
    intro s none_
    change execHandoffImageVerified s = _
    unfold execHandoffImageVerified
    rw [none_]

end Sys2Proof.Machine
end

section
/-! PROOFS. O55: firmware images, sessions, the lockout, debug access and quotes (21 R554, R556 to R563, R566; logs 12, 69, 71). -/

namespace Sys2Proof.Machine

/-! Images (21 R556, R557). -/

section
variable {s : State} {i o n tk d : Nat} {l : List Byte}

theorem handoffFails_gw (c : Code) (s : State) : (handoffFails c s).gw.handoff = none ∧ (handoffFails c s).gw.imgReqs = [] ∧ (handoffFails c s).gw.running = s.gw.running := by
  have kept := completeWait_gw (fun g : Gw => (g.handoff, g.imgReqs, g.running)) (fun _ _ _ _ _ => rfl) wHandoff 0 c []
    (s.modGw fun g => { g with handoff := none, imgReqs := [], imgBuf := [] })
  exact ⟨congrArg Prod.fst kept, congrArg (fun x => x.2.1) kept, congrArg (fun x => x.2.2) kept⟩

/-- The state in which the bytes of an answer have joined those that came before. -/
def imgGathered (l : List Byte) (s : State) : State := s.modGw fun g => { g with imgBuf := g.imgBuf ++ l, imgReqs := [] }

/-- What a verdict on the bytes gathered leads to. -/
def imgJudged (i : Nat) (s : State) : ImgVerdict → State
  | .rejected d => imgRejected i d s
  | .verified => imgAccepted i s
  | .more => imgRequest i s.gw.imgBuf.length 0 s

section
variable (live : linkUp s = true) (serves : gwServes s = true) (handoff : s.gw.handoff = some (i, 0)) (reqs : s.gw.imgReqs = [(i, o, tk, n)])
include handoff

theorem imgAccepted_handoff : imgAccepted i (imgGathered l s) = (imgGathered l s).modGw fun g => { g with imgReqs := [], handoff := some (i, 1) } := by
  unfold imgAccepted
  exact if_pos (by change s.gw.handoff.isSome = true; rw [handoff]; rfl)

theorem imgRejected_handoff : imgRejected i d (imgGathered l s) = handoffFails (if d = 1 then .keyRevoked else .sigInvalid) (imgGathered l s) :=
  if_pos (by change s.gw.handoff.isSome = true; rw [handoff]; rfl)

include serves

theorem imgWanted_of_handoff : imgWanted s = true := by simp [imgWanted, serves, handoff]

include reqs

omit serves handoff in
theorem execImgReqResend_waits (early : s.tb < tk + 50000000) : exec .imgReqResend s = .next s := by
  change execImgReqResend s = _
  unfold execImgReqResend
  rw [reqs]
  exact if_pos (.inr early)

theorem execImgReqResend_asks (late : tk + 50000000 ≤ s.tb) (again : n < 3) : exec .imgReqResend s = .next (imgRequest i o (n + 1) s) := by
  have due : ¬ (imgWanted s = false ∨ s.tb < tk + 50000000) := by simp [imgWanted_of_handoff serves handoff, Nat.not_lt.2 late]
  change execImgReqResend s = _
  unfold execImgReqResend
  rw [reqs]
  exact (if_neg due).trans (if_pos again)

theorem execImgReqResend_fails (late : tk + 50000000 ≤ s.tb) (often : 3 ≤ n) : exec .imgReqResend s = .next (handoffFails .sigInvalid s) := by
  have due : ¬ (imgWanted s = false ∨ s.tb < tk + 50000000) := by simp [imgWanted_of_handoff serves handoff, Nat.not_lt.2 late]
  change execImgReqResend s = _
  unfold execImgReqResend
  rw [reqs]
  exact (if_neg due).trans ((if_neg (Nat.not_lt.2 often)).trans (if_pos (by rw [handoff]; rfl)))

include live

/-- The answer is one that was asked for. -/
theorem imgReq_asked : ¬ (linkUp s = false ∨ imgWanted s = false ∨ s.gw.imgReqs.any (fun q => q.1 == i && q.2.1 == o) = false) := by
  simp [live, imgWanted_of_handoff serves handoff, reqs]

theorem execImgReqResponse_absent : exec (.imgReqResponse i o true l) s = .next (handoffFails .unitAbsent s) := by
  change execImgReqResponse i o true l s = _
  unfold execImgReqResponse
  rw [if_neg (imgReq_asked live serves handoff reqs), if_pos rfl, if_pos (by rw [handoff]; rfl)]

theorem execImgReqResponse_judges (some_ : l ≠ []) (fits : l.length ≤ 4096) :
    exec (.imgReqResponse i o false l) s = .next (imgJudged i (imgGathered l s) (imgVerdict s (s.gw.imgBuf ++ l))) := by
  have gathered : imgVerdict (imgGathered l s) (imgGathered l s).gw.imgBuf = imgVerdict s (s.gw.imgBuf ++ l) := rfl
  rw [← gathered]
  change execImgReqResponse i o false l s = _
  unfold execImgReqResponse imgJudged
  rw [if_neg (imgReq_asked live serves handoff reqs), if_neg Bool.false_ne_true, if_neg (by simp [some_, fits])]
  dsimp only
  rw [← imgGathered]
  cases imgVerdict (imgGathered l s) (imgGathered l s).gw.imgBuf
  · rfl
  · rfl
  · rfl

end

theorem execImgReqResponse_unasked (a : Bool) (none_ : s.gw.imgReqs = []) : exec (.imgReqResponse i o a l) s = .next s := by
  change execImgReqResponse i o a l s = _
  unfold execImgReqResponse
  exact if_pos (by simp [none_])

end

/-! HELLO and OFFER (21 R560, R561, R563). -/

section
variable {s : State} {h : ChaviHdr} {o n : Nat} {l m : List Byte}

theorem linkUp_up (live : linkUp s = true) : s.chavi.up = true := (Bool.and_eq_true _ _ ▸ live : _ ∧ _).1

/-- One fragment is the whole message when it begins at 0 and has its length. -/
theorem assembled_single (n o : Nat) (l : List Byte) : assembled n (mset [] o l) = if o = 0 ∧ l.length = n then some l else none := by
  unfold assembled mset
  by_cases ho : o = 0
  · by_cases hl : l.length = n <;> simp [ho, hl, Option.filter]
  · simp [ho]

section
variable (live : linkUp s = true) (front : clearFront h = .ok) (fits : fragFits 1632 1632 o l = true)
include live front fits

theorem execSesHello_shut (shut : helloShut s = true) :
    exec (.sesHello h 1632 o l) s = .next (rspFreed h 1632 l.length .notReady [] (s.modSec fun x => { x with helloBuf := [] })) := by
  change execSesHello h 1632 o l s = _
  unfold execSesHello
  dsimp only
  rw [if_neg (by rw [live]; decide), if_neg (not_not.2 front), if_neg (by rw [fits]; decide), if_pos shut]
  rfl

section
variable (free : helloShut s = false) (first : s.sec.helloBuf = [])
include free first

theorem execSesHello_part (short : l.length < 1632) :
    exec (.sesHello h 1632 o l) s = .next (rspFreed h 1632 l.length .ok [] ((endSession s).modSec fun x => { x with helloBuf := mset [] o l })) := by
  have part : assembled 1632 (mset (endSession s).sec.helloBuf o l) = none := (assembled_single 1632 o l).trans (if_neg fun ⟨_, e⟩ => absurd e (Nat.ne_of_lt short))
  change execSesHello h 1632 o l s = _
  unfold execSesHello
  dsimp only
  rw [if_neg (by rw [live]; decide), if_neg (not_not.2 front), if_neg (by rw [fits]; decide), if_neg (by rw [free]; decide), if_pos first, part]
  rfl

/-- The state in which a whole HELLO has been accepted. -/
def helloTaken (m : List Byte) (s : State) : State := (endSession (endSession s)).modSec fun x => { x with hello := some (x.quotes.length, m) }

theorem execSesHello_whole (start : o = 0) (whole : l.length = 1632) (key : field l 32 1 < s.gw.nhkey) :
    exec (.sesHello h 1632 o l) s = .next (rspFreed h 1632 l.length .ok [] (helloTaken l s)) := by
  have all : assembled 1632 (mset (endSession s).sec.helloBuf o l) = some l := (assembled_single 1632 o l).trans (if_pos ⟨start, whole⟩)
  have taken : helloTake l (endSession s) = (.ok, helloTaken l s) := if_neg (Nat.not_le.2 key)
  change execSesHello h 1632 o l s = _
  unfold execSesHello
  dsimp only
  rw [if_neg (by rw [live]; decide), if_neg (not_not.2 front), if_neg (by rw [fits]; decide), if_neg (by rw [free]; decide), if_pos first, all]
  dsimp only
  rw [taken]
  rfl

end

end

theorem sendFrags_sent (k ty n o : Nat) (l : List Byte) (s : State) : Sent s (sendFrags k ty n o l s) := by
  induction k generalizing o l s with
  | zero => exact .refl s
  | succ k ih => exact .ite (fun _ => .refl s) fun _ => (chaviSend_sent _ s).trans (ih ..)

/-- The state in which an OFFER is sent: two random values drawn, a session number taken. -/
def offerMade (m t1 : List Byte) (s : State) : State := s.draw.2.draw.2.modSec fun x =>
  { x with hello := none, proofBuf := [], offer := some (x.nextSession, field m 32 1, t1), nextSession := x.nextSession % 4095 + 1 }

/-- The OFFER's content up to SIG, with the random values drawn for it, and T1. -/
def offerDrawn (m : List Byte) (s : State) : List Byte := offerBody s (Config.noise s.draw.1) (Config.kem (m.drop 64) (Config.noise s.draw.2.draw.1))
def offerT1 (m : List Byte) (s : State) : List Byte := Config.shake256 (m ++ offerDrawn m s)
def offerMsg (m : List Byte) (s : State) : List Byte := offerDrawn m s ++ Config.identSign s.fuse.seed (offerT1 m s)

theorem execSesOfferSend_sends (hello : s.sec.hello = some (0, m)) (live : linkUp s = true) :
    exec .sesOfferSend s = .next (sendFrags 13 0x11 (offerMsg m s).length 0 (offerMsg m s) (offerMade m (offerT1 m s) s)) := by
  change execSesOfferSend s = _
  unfold execSesOfferSend
  rw [hello]
  exact if_neg (by rw [live]; decide)

theorem execSesOfferSend_idle (none_ : s.sec.hello = none) : exec .sesOfferSend s = .next s := by
  change execSesOfferSend s = _
  unfold execSesOfferSend
  rw [none_]

end

/-! PROOF (21 R560, R561, R563). -/

section
variable {s : State} {x : Sec} {p : ChaviOut} {k : Nat}

/-- The security unit is x but for the next CTR, which the credits held cannot take past 2^32. -/
def InSession (x : Sec) (s : State) : Prop := ∃ k, s.sec = { x with ctrTx := k } ∧ k + chaviHolds s ≤ 2 ^ 32

/-- A packet that leaves while the CTR is below 2^48 changes the CTR alone, by one at most, and no credits. -/
theorem chaviEmit_sec (hs : s.sec = { x with ctrTx := k }) (hk : k < 2 ^ 48) :
    (∃ j, j ≤ k + 1 ∧ (chaviEmit p s).sec = { x with ctrTx := j }) ∧ chaviHolds (chaviEmit p s) = chaviHolds s := by
  have ctr : s.sec.ctrTx = k := congrArg Sec.ctrTx hs
  have unended : ¬ (s.sec.session ≠ 0 ∧ 2 ^ 48 ≤ s.sec.ctrTx) := fun e => by rw [ctr] at e; exact absurd e.2 (Nat.not_le.2 hk)
  unfold chaviEmit
  rw [if_neg unended]
  dsimp only
  split
  · refine ⟨⟨k + 1, le_rfl, ?_⟩, rfl⟩
    change { s.sec with ctrTx := s.sec.ctrTx + 1 } = _
    rw [hs]
  · split
    · exact ⟨⟨k, Nat.le_succ k, hs⟩, rfl⟩
    · exact ⟨⟨k, Nat.le_succ k, hs⟩, rfl⟩

/-- Each packet that starts uses a credit at least. -/
theorem chaviHolds_used {n : Nat} {q : List ChaviOut} (held : n ≤ chaviHolds s) (some_ : 1 ≤ n) :
    chaviHolds (s.modChavi fun c => { c with txq := q, used := (c.used + n) % 2 ^ 32 }) + n = chaviHolds s := by
  have after : chaviHolds (s.modChavi fun c => { c with txq := q, used := (c.used + n) % 2 ^ 32 })
      = (4096 + s.chavi.creditRx + 2 ^ 32 - (s.chavi.used + n) % 2 ^ 32) % 2 ^ 32 := rfl
  rw [after]
  unfold chaviHolds at held ⊢
  omega

theorem chaviDrain_inSession (n : Nat) (hs : InSession x s) : InSession x (chaviDrain n s) := by
  induction n generalizing s with
  | zero => exact hs
  | succ n ih =>
    unfold chaviDrain
    split
    · exact hs
    · next q _ _ =>
      dsimp only
      split
      · next held =>
        obtain ⟨k, hk, bound⟩ := hs
        have some_ : 1 ≤ chaviCredits (chaviLen s q) := by unfold chaviCredits; omega
        have used := chaviHolds_used (q := ‹List ChaviOut›) held some_
        obtain ⟨⟨j, hj, sec⟩, holds⟩ := chaviEmit_sec (p := q) (s := s.modChavi fun c => { c with txq := ‹List ChaviOut›, used := (c.used + chaviCredits (chaviLen s q)) % 2 ^ 32 })
          hk (by omega)
        exact ih ⟨j, sec, by omega⟩
      · exact hs

theorem chaviSend_inSession (credits : chaviFree p = false) (hs : InSession x s) : InSession x (chaviSend p s) := by
  unfold chaviSend
  split
  · exact hs
  · rw [if_neg (by rw [credits]; decide)]
    exact chaviDrain_inSession _ hs

theorem deliverHost_inSession (n : Nat) (hs : InSession x s) : InSession x (deliverHost n s) := by
  unfold deliverHost
  dsimp only
  split
  · exact chaviSend_inSession rfl hs
  · exact hs

theorem attnOwed_sec (hs : InSession x s) : ∃ k, (attnOwed s).sec = { x with ctrTx := k } := by
  obtain ⟨k, hk, bound⟩ := hs
  unfold attnOwed
  split
  · exact ⟨k, hk⟩
  · unfold attnEvent chaviSend
    split
    · exact ⟨k, hk⟩
    · obtain ⟨⟨j, -, sec⟩, -⟩ := chaviEmit_sec (p := { type := 0x08, arg := 2 ^ 63 + summary s })
        (s := s.modAttn fun a => { a with lastSent := summary s, lastSentTb := some s.clk.tb, deferred := false, owed := false }) hk (by omega)
      exact ⟨j, sec⟩

section
variable {no idx : Nat} {t1 sig : List Byte} (clear : s.sec.session = 0)
include clear

/-- A right signature starts the session. -/
theorem proofTake_starts (right : Config.slhVerify ((s.gw.imgHdr.drop (0x20 + 64 * idx)).take 64) (sesT2 t1) sig = true) :
    ∃ k, (proofTake no idx t1 sig s).sec = { s.sec with session := no, offer := none, proofBuf := [], ctrRx := none, failRun := 0, ctrTx := k } := by
  have done : (sesDone .ok s).sec = s.sec := (chaviSend_sent _ s).clear clear
  have started : InSession { s.sec with session := no, offer := none, proofBuf := [], ctrRx := none, failRun := 0 }
      ((sesDone .ok s).modSec fun x => { x with session := no, offer := none, proofBuf := [], ctrRx := none, ctrTx := 0, failRun := 0 }) := by
    refine ⟨0, ?_, ?_⟩
    · rw [State.modSec_sec, done]
    · have bound := Nat.mod_lt (4096 + (sesDone .ok s).chavi.creditRx + 2 ^ 32 - (sesDone .ok s).chavi.used) (Nat.two_pow_pos 32)
      rw [Nat.zero_add]
      exact bound.le
  unfold proofTake
  dsimp only
  rw [if_pos right]
  exact attnOwed_sec (each_induct _ _ (fun n u hu => deliverHost_inSession n hu) started)

/-- A wrong one ends the set-up; the fifth in a row starts the lockout. -/
theorem proofTake_fails (wrong : Config.slhVerify ((s.gw.imgHdr.drop (0x20 + 64 * idx)).take 64) (sesT2 t1) sig = false) :
    (proofTake no idx t1 sig s).sec = if s.sec.failRun = 4
      then { s.sec with offer := none, proofBuf := [], failRun := s.sec.failRun + 1, lockUntil := some (s.tb + 500000000), tamper := true }
      else { s.sec with offer := none, proofBuf := [], failRun := s.sec.failRun + 1 } := by
  have sent : Keeps [.chavi, .sec, .out] s (sesDone .sigInvalid s) := by simp
  have done : (sesDone .sigInvalid s).sec = s.sec := (chaviSend_sent _ s).clear clear
  have now : (sesDone .sigInvalid s).tb = s.tb := congrArg Clk.tb (sent .clk (by decide))
  unfold proofTake
  dsimp only
  rw [if_neg (by rw [wrong]; decide), State.modSec_sec, done]
  by_cases fifth : s.sec.failRun = 4
  · rw [if_pos fifth, if_pos (by rw [fifth]), tamper_sec _ (by rw [State.modSec_sec, State.modSec_sec, done]; exact clear), State.modSec_sec, State.modSec_sec, done, ← now]
    rfl
  · rw [if_neg fifth, if_neg (by change ¬ s.sec.failRun + 1 = 5; omega), State.modSec_sec, done]

end

section
variable {h : ChaviHdr} {o no : Nat} {t1 l : List Byte} (live : linkUp s = true) (front : clearFront h = .ok) (fits : fragFits 29792 29792 o l = true)
  (offer : s.sec.offer = some (no, k, t1))
include live front fits offer

/-- The state in which a fragment of a PROOF has been kept and answered. -/
def proofKept (h : ChaviHdr) (o : Nat) (l : List Byte) (s : State) : State :=
  rspFreed h 29792 l.length .ok [] (s.modSec fun x => { x with proofBuf := mset s.sec.proofBuf o l })

theorem execSesProof_part (part : assembled 29792 (mset s.sec.proofBuf o l) = none) : exec (.sesProof h 29792 o l) s = .next (proofKept h o l s) := by
  change execSesProof h 29792 o l s = _
  unfold execSesProof
  dsimp only
  rw [if_neg (by rw [live]; decide), if_neg (not_not.2 front), if_neg (by rw [fits]; decide), offer]
  dsimp only
  rw [part]
  rfl

theorem execSesProof_whole {g : List Byte} (whole : assembled 29792 (mset s.sec.proofBuf o l) = some g) :
    exec (.sesProof h 29792 o l) s = .next (proofTake no k t1 g (proofKept h o l s)) := by
  change execSesProof h 29792 o l s = _
  unfold execSesProof
  dsimp only
  rw [if_neg (by rw [live]; decide), if_neg (not_not.2 front), if_neg (by rw [fits]; decide), offer]
  dsimp only
  rw [whole]
  rfl

end

end

/-! The lockout and the noise source (21 R554, R563). -/

section
variable {s : State} {b : Bool} {d : Nat}

theorem execAuthLockoutEnd_ends (lock : s.sec.lockUntil = some d) (late : d ≤ s.tb) :
    exec .authLockoutEnd s = .next (s.modSec fun x => { x with lockUntil := none }) :=
  if_pos (by rw [lock, Option.any_some]; exact decide_eq_true late)

theorem execAuthLockoutEnd_waits (lock : s.sec.lockUntil = some d) (early : s.tb < d) : exec .authLockoutEnd s = .next s :=
  if_neg (by rw [lock, Option.any_some, decide_eq_false (Nat.not_le.2 early)]; decide)

theorem execNoiseHealthChange_changes (live : alive s = true) (change_ : s.sec.noiseFail ≠ b) :
    ∃ t, exec (.noiseHealthChange b) s = .next t ∧ t.sec.noiseFail = b ∧ Keeps [.sec, .err, .attn, .out, .chavi, .gw, .mbx, .fab] s t := by
  have applies : ¬ (alive s = false ∨ s.sec.noiseFail = b) := by simp [live, change_]
  have noise {u : State} (sent : Sent (s.modSec fun x => { x with noiseFail := b }) u) : u.sec.noiseFail = b := (congrArg Sec.noiseFail sent.sec :)
  cases b
  · exact ⟨_, (if_neg applies).trans (if_neg Bool.false_ne_true), noise (attnSettle_sent _), by simp⟩
  · exact ⟨_, (if_neg applies).trans (if_pos rfl), noise (errRecord_sent _ _), by simp⟩

end

/-! Debug access (21 R566). -/

section
variable {s u : State} {h : ChaviHdr} {a n d w loc : Nat} {c : Code} {l data : List Byte}

/-- The state in which a packet of the session has been accepted. -/
def heard (h : ChaviHdr) (s : State) : State := s.modSec fun x => { x with ctrRx := some h.ctr }

theorem chaviReq_secure (hp : SecureLink s h) (arg n : Nat) (go : State → State) :
    chaviReq h arg n go s = .next (chaviFreed (n + 24) (go (heard h s))) := by
  obtain ⟨up, session, crc, layout, enc, auth, low, order, -⟩ := hp
  have inOrder : s.sec.ctrRx.any (fun c => decide (h.ctr ≤ c)) = false := by
    cases last : s.sec.ctrRx with
    | none => rfl
    | some c => exact decide_eq_false (Nat.not_le.2 (order c last))
  have front : chaviFront h s = (none, heard h s) := by
    unfold chaviFront
    rw [if_neg (by rw [crc]; decide), if_neg (by rw [layout]; decide), if_neg session, if_neg (by rw [enc]; decide), if_neg (by rw [auth]; decide),
      if_neg (Nat.not_le.2 low), if_neg (by rw [inOrder]; decide)]
    rfl
  unfold chaviReq
  rw [if_neg (by rw [up]; decide), front]
  dsimp only
  rw [if_pos enc]

theorem chaviSend_free {p : ChaviOut} (up : s.chavi.up = true) (free : chaviFree p = true) : chaviSend p s = chaviEmit p s := by
  unfold chaviSend
  rw [if_neg (by rw [up]; decide), if_pos free]

/-- In a session the RSP takes the next CTR; the CREDIT is in clear. -/
theorem rspFreed_secure (k arg : Nat) (up : u.chavi.up = true) (session : u.sec.session ≠ 0) (room : u.sec.ctrTx < 2 ^ 48) :
    (rspFreed h arg (k + 24) c data u).out = .chavi { type := 0x0A, arg := (u.chavi.credFreed + chaviCredits (k + 24)) % 2 ^ 32 }
      :: .chavi { type := 0x09, tag := h.tag, status := c.val, arg := arg, data := data, ctr := some u.sec.ctrTx } :: u.out := by
  have rsp : chaviRsp h.tag arg c data u = chaviPut { type := 0x09, tag := h.tag, status := c.val, arg := arg, data := data, ctr := some u.sec.ctrTx }
      { u with sec := { u.sec with ctrTx := u.sec.ctrTx + 1 } } := by
    unfold chaviRsp
    rw [chaviSend_free up rfl]
    unfold chaviEmit
    dsimp only
    have unended : ¬ (u.sec.session ≠ 0 ∧ 2 ^ 48 ≤ u.sec.ctrTx) := fun e => absurd e.2 (Nat.not_le.2 room)
    rw [if_neg unended]
    exact if_pos ⟨session, rfl⟩
  have credit (f : Nat) (v : State) (upv : v.chavi.up = true) : (chaviSend { type := 0x0A, arg := f } v).out = .chavi { type := 0x0A, arg := f } :: v.out := by
    rw [chaviSend_free upv rfl]
    unfold chaviEmit
    dsimp only
    rw [if_neg (fun e => absurd e.2 (by decide)), if_neg (fun e => absurd e.1 (by decide))]
    split
    · rfl
    · rfl
  unfold rspFreed chaviFreed
  rw [rsp]
  exact credit _ _ up

theorem rspFreed_session (hp : SecureLink s h) (k arg : Nat) (hu : u.chavi = s.chavi) (out : u.out = s.out) (sec : u.sec = { s.sec with ctrRx := some h.ctr }) :
    SessionAnswered s (rspFreed h arg (k + 24) c data u) h arg k c data := by
  obtain ⟨up, session, -, -, -, -, -, -, room⟩ := hp
  have same := rspFreed_secure (h := h) (c := c) (data := data) k arg (u := u) (by rw [hu]; exact linkUp_up up) (by rw [sec]; exact session) (by rw [sec]; exact room)
  rw [SessionAnswered, same, hu, out, sec]

theorem mgmtPlace_device (ha : mgmtPlace a = .device d) : 2 ^ 63 ≤ a := by
  by_contra low
  unfold mgmtPlace at ha
  dsimp only at ha
  rw [if_neg low] at ha
  split_ifs at ha

theorem mgmtPlace_add (ha : mgmtPlace a = .device d) (k : Nat) : mgmtPlace (a + k) = .device (a + k - 2 ^ 63) :=
  if_pos ((mgmtPlace_device ha).trans (Nat.le_add_right a k))

/-- A device address has no register that a read clears. -/
theorem mgmtClears_device (ha : mgmtPlace a = .device d) (k : Nat) (s : State) : mgmtClears (a + k) s = s := by
  unfold mgmtClears
  rw [mgmtPlace_add ha k]

/-- An address in memory wakes no row. -/
theorem mgmtTouch_mem (ha : mgmtPlace a = .device d) (hd : place s d = .mem w loc) : mgmtTouch a s = s := by
  unfold mgmtTouch
  rw [ha]
  dsimp only
  rw [hd]

theorem mgmtCode_device (ha : mgmtPlace a = .device d) (wr : Bool) (n : Nat) : mgmtCode s wr a n = accessCode s wr d n := by
  unfold mgmtCode
  rw [ha]

theorem dbgScope_heard (session : s.sec.session ≠ 0) (i : Nat) : dbgScope (heard h s) i = s.sec.scope.getLsbD i := by
  change (s.sec.session != 0 && s.sec.scope.getLsbD i) = _
  rw [bne_iff_ne.2 session, Bool.true_and]

section
variable (hp : SecureLink s h)
include hp

theorem execDbgRead_denied (scope : s.sec.scope.getLsbD 0 = false) : exec (.dbgRead h a n) s = .next (rspFreed h a (0 + 24) .cmdDenied [] (heard h s)) := by
  refine (chaviReq_secure hp a 0 _).trans (congrArg (fun v => Host.Outcome.next (chaviFreed (0 + 24) v)) (if_pos ?_))
  rw [dbgScope_heard hp.2.1, scope]

section
variable (fits : dbgFits a n = true) (ha : mgmtPlace a = .device d) (hd : place s d = .mem w loc)
include fits ha hd

theorem execDbgRead_reads (scope : s.sec.scope.getLsbD 0 = true) (ok : accessCode s false d n = .ok) :
    exec (.dbgRead h a n) s = .next (rspFreed h a (0 + 24) .ok (memRead s d n) (heard h s)) := by
  have code : mgmtCode (heard h s) false a n = .ok := (mgmtCode_device ha false n).trans ok
  have bytes : dbgBytes (heard h s) a n = memRead s d n := by
    unfold dbgBytes
    rw [ha]
    rfl
  have touch : mgmtTouch a (heard h s) = heard h s := mgmtTouch_mem ha hd
  have clears : each ((List.range (n / 8)).map fun i => a + 8 * i) mgmtClears (heard h s) = heard h s := by
    refine each_unchanged fun x hx => ?_
    obtain ⟨i, -, rfl⟩ := List.mem_map.1 hx
    exact mgmtClears_device ha (8 * i) _
  refine (chaviReq_secure hp a 0 _).trans (congrArg (fun v => Host.Outcome.next (chaviFreed (0 + 24) v)) ?_)
  rw [if_neg (by rw [dbgScope_heard hp.2.1, scope]; decide), if_neg (by rw [fits]; decide), code]
  dsimp only
  rw [bytes, touch, clears]

theorem execDbgWrite_writes (scope : s.sec.scope.getLsbD 1 = true) (length : l.length = n) (ok : accessCode s true d n = .ok) :
    exec (.dbgWrite h a l) s = .next (rspFreed h a (n + 24) .ok [] (memWrite (heard h s) d l)) := by
  subst length
  have code : mgmtCode (heard h s) true a l.length = .ok := (mgmtCode_device ha true l.length).trans ok
  have touch : mgmtTouch a (heard h s) = heard h s := mgmtTouch_mem ha hd
  refine (chaviReq_secure hp a l.length _).trans (congrArg (fun v => Host.Outcome.next (chaviFreed (l.length + 24) v)) ?_)
  rw [if_neg (by rw [dbgScope_heard hp.2.1, scope]; decide), if_neg (by rw [fits]; decide), code]
  dsimp only
  rw [touch, ha]

end

end

theorem execDbgWrite_denied (hp : PlainLink s h) : exec (.dbgWrite h a l) s = .next (rspFreed h a l.length .cmdDenied [] s) := by
  refine (chaviReq_plain hp a l.length _).trans (congrArg (fun v => Host.Outcome.next (chaviFreed l.length v)) (if_pos ?_))
  unfold dbgScope
  rw [hp.2.1]
  rfl

end

/-! Quotes (21 R559). -/

section
variable {s : State} {w a : Nat} {c : Code} {l d : List Byte}

theorem completeCmd_cmds (k : Cmd) (s : State) : (completeCmd k c l d s).gw.cmds = s.gw.cmds.filter (·.id != k.id) := by
  have finished (op q : Nat) (h : CmdHdr) (t : State) : (finish op h q c l d t).gw.cmds = t.gw.cmds := by
    have stored : (if d.isEmpty then t else memWrite t h.resptr d).gw = t.gw := by
      split
      · rfl
      · rfl
    unfold finish
    rw [mbxAck_gw, State.modGw_gw]
    dsimp only
    obtain ⟨r, e⟩ := writeReply_gw h.rchan (replyMsg op h.ctag c.val (if d.isEmpty then t else memWrite t h.resptr d).tb d.length l)
      (if d.isEmpty then t else memWrite t h.resptr d)
    rw [e, stored]
  exact finished ..

/-- A completed wait leaves no command that waits for it. -/
theorem completeWait_cmds {k : Cmd} (hk : k ∈ (completeWait w a c l d s).gw.cmds) : ¬ (k.wait = w ∧ k.arg = a) := by
  have removed (q : List Cmd) (v : State) (hv : k ∈ (each q (fun j => completeCmd j c l d) v).gw.cmds) : k ∈ v.gw.cmds ∧ ∀ j ∈ q, k.id ≠ j.id := by
    induction q generalizing v with
    | nil => exact ⟨hv, by simp⟩
    | cons j q ih =>
      obtain ⟨here, others⟩ := ih (completeCmd j c l d v) hv
      rw [completeCmd_cmds, List.mem_filter, bne_iff_ne] at here
      exact ⟨here.1, List.forall_mem_cons.2 ⟨here.2, others⟩⟩
  obtain ⟨was, apart⟩ := removed _ _ hk
  rintro ⟨wait, arg⟩
  exact apart k (List.mem_filter.2 ⟨was, by rw [wait, arg]; simp⟩) rfl

theorem completeCmd_sent (k : Cmd) (c : Code) (l d : List Byte) (s : State) : Sent s (completeCmd k c l d s) := by
  unfold completeCmd
  refine Sent.trans ?_ (finish_sent ..)
  exact .of_eq rfl rfl

theorem completeWait_sent (w a : Nat) (c : Code) (l d : List Byte) (s : State) : Sent s (completeWait w a c l d s) := by
  unfold completeWait
  exact sent_each (fun k z => completeCmd_sent k c l d z) _ s

theorem execQuoteSigningComplete_signs {q : Quote} {l : List Quote} (quotes : s.sec.quotes = q :: l) (serves : gwServes s = true) (hello : s.sec.hello = none) :
    exec .quoteSigningComplete s = .next (completeWait wQuote q.cmd .ok [] (q.body ++ Config.slhSign s.fuse.seed q.body)
      (s.modSec fun x => { x with quotes := l, hello := x.hello.map fun p => (p.1 - 1, p.2) })) := by
  change execQuoteSigningComplete s = _
  unfold execQuoteSigningComplete
  rw [quotes]
  exact if_neg (by rw [serves, hello]; decide)

theorem execQuoteSigningComplete_idle (none_ : s.sec.quotes = []) : exec .quoteSigningComplete s = .next s := by
  change execQuoteSigningComplete s = _
  unfold execQuoteSigningComplete
  rw [none_]

end

/-- Settles O55: each event's step, and what it makes of the image, the session, the memory or the quote. -/
theorem imagesSessionsAndDebug : Obligations.ImagesSessionsAndDebug := by
  unfold Obligations.ImagesSessionsAndDebug
  refine ⟨fun s i o n tk l live serves handoff reqs => ⟨fun some_ fits => ?bytes, ?absent, fun late again => ?asks, fun late often => ?fails,
      fun early => execImgReqResend_waits reqs early⟩,
    fun s i o a l none_ => execImgReqResponse_unasked a none_,
    fun s h o l live front fits => ⟨fun shut clear => ?shut, fun free first short => ?part, fun free first start whole key => ?whole⟩,
    fun s m hello live clear => ?offer, fun s none_ => execSesOfferSend_idle none_,
    fun s h o no k t1 l live clear front fits offer => ⟨fun part => ?kept, fun g whole => ?proof⟩,
    fun s d lock => ⟨fun late => ⟨_, execAuthLockoutEnd_ends lock late, rfl, by simp⟩, fun early => execAuthLockoutEnd_waits lock early⟩,
    fun s b live change_ => execNoiseHealthChange_changes live change_, fun s b same => if_pos (.inr same),
    fun s h a n d u loc l hp fits ha hd => ⟨fun scope ok => ?read, fun scope length ok => ?write, fun scope => ?denied⟩,
    fun s h a l hp => ⟨_, execDbgWrite_denied hp, rspFreed_answers h a l.length .cmdDenied [] hp.up hp.2.1 rfl rfl, rspFreed_keeps h a l.length .cmdDenied [] hp.up hp.2.1⟩,
    fun s q l quotes serves hello => ?quote, fun s none_ => execQuoteSigningComplete_idle none_⟩
  case bytes =>
    have run := execImgReqResponse_judges live serves handoff reqs some_ fits
    refine ⟨_, run, ?_⟩
    cases imgVerdict s (s.gw.imgBuf ++ l) with
    | more =>
      dsimp only [imgJudged]
      rw [imgRequest_gw]
      exact ⟨rfl, rfl, handoff⟩
    | verified =>
      dsimp only [imgJudged]
      rw [imgAccepted_handoff handoff]
      exact ⟨rfl, rfl, rfl⟩
    | rejected d =>
      dsimp only [imgJudged]
      rw [imgRejected_handoff handoff]
      obtain ⟨ended, empty, -⟩ := handoffFails_gw (if d = 1 then .keyRevoked else .sigInvalid) (imgGathered l s)
      exact ⟨ended, empty⟩
  case absent =>
    obtain ⟨ended, -, same⟩ := handoffFails_gw .unitAbsent s
    exact ⟨_, execImgReqResponse_absent live serves handoff reqs, ended, same⟩
  case asks =>
    refine ⟨_, execImgReqResend_asks serves handoff reqs late again, ?_⟩
    rw [imgRequest_gw]
    exact ⟨rfl, rfl⟩
  case fails => exact ⟨_, execImgReqResend_fails serves handoff reqs late often, (handoffFails_gw ..).1⟩
  case shut => exact ⟨_, execSesHello_shut live front fits shut, rspFreed_answers h 1632 l.length .notReady [] (linkUp_up live) clear rfl rfl, rspFreed_sec clear⟩
  case part =>
    have sec := rspFreed_sec (h := h) (arg := 1632) (n := l.length) (c := .ok) (data := []) (s := (endSession s).modSec fun x => { x with helloBuf := mset [] o l }) rfl
    refine ⟨_, execSesHello_part live front fits free first short, ?_, ?_, rspFreed_answers h 1632 l.length .ok [] (linkUp_up live) rfl rfl rfl⟩
    · rw [sec]
      rfl
    · rw [sec]
      rfl
  case whole =>
    have sec := rspFreed_sec (h := h) (arg := 1632) (n := l.length) (c := .ok) (data := []) (s := helloTaken l s) rfl
    refine ⟨_, execSesHello_whole live front fits free first start whole key, ?_, ?_⟩
    · rw [sec]
      rfl
    · rw [sec]
      rfl
  case offer =>
    have sec := (sendFrags_sent 13 0x11 (offerMsg m s).length 0 (offerMsg m s) (offerMade m (offerT1 m s) s)).clear clear
    have kept : Keeps [.chavi, .sec, .out] (offerMade m (offerT1 m s) s)
        (sendFrags 13 0x11 (offerMsg m s).length 0 (offerMsg m s) (offerMade m (offerT1 m s) s)) := by simp
    refine ⟨_, execSesOfferSend_sends hello live, ?_, ?_, ?_, (kept .fresh (by decide)).trans rfl⟩
    · rw [sec]
      rfl
    · rw [sec]
      rfl
    · rw [sec]
      rfl
  case kept =>
    exact ⟨_, execSesProof_part live front fits offer part, rspFreed_answers h 29792 l.length .ok [] (linkUp_up live) clear rfl rfl, rspFreed_sec clear⟩
  case proof =>
    have sec : (proofKept h o l s).sec = { s.sec with proofBuf := mset s.sec.proofBuf o l } := rspFreed_sec clear
    have kept : Keeps [.chavi, .out] (s.modSec fun x => { x with proofBuf := mset s.sec.proofBuf o l }) (proofKept h o l s) :=
      rspFreed_keeps h 29792 l.length .ok [] (linkUp_up live) clear
    have gw : (proofKept h o l s).gw = s.gw := kept .gw (by decide)
    have clear' : (proofKept h o l s).sec.session = 0 := by rw [sec]; exact clear
    refine ⟨_, execSesProof_whole live front fits offer whole, ?_⟩
    split
    · next right =>
      obtain ⟨j, started⟩ := proofTake_starts (no := no) (idx := k) (t1 := t1) (sig := g) clear' (by rw [gw]; exact right)
      rw [started]
      exact ⟨rfl, rfl, rfl⟩
    · next wrong =>
      have failed := proofTake_fails (no := no) (idx := k) (t1 := t1) (sig := g) clear' (by rw [gw]; exact Bool.eq_false_iff.2 wrong)
      rw [failed, sec]
      by_cases fifth : s.sec.failRun = 4
      · rw [if_pos fifth]
        exact ⟨rfl, clear, rfl, fun _ => ⟨rfl, congrArg (fun x : Clk => some (x.tb + 500000000)) (kept .clk (by decide))⟩⟩
      · rw [if_neg fifth]
        exact ⟨rfl, clear, rfl, fun e => absurd e fifth⟩
  case read =>
    refine ⟨_, execDbgRead_reads hp fits ha hd scope ok, rspFreed_session hp 0 a rfl rfl rfl, ?_⟩
    simp [rspFreed, heard]
  case write =>
    have kept : Keeps [.chavi, .sec, .out] (memWrite (heard h s) d l) (rspFreed h a (n + 24) .ok [] (memWrite (heard h s) d l)) := by simp [rspFreed]
    refine ⟨_, execDbgWrite_writes hp fits ha hd scope length ok, rspFreed_session hp n a rfl rfl rfl, ?_, ?_⟩
    · exact (kept .mem (by decide)).trans (memWrite_mem_congr (s := s) (t := heard h s) rfl rfl d l)
    · simp [rspFreed, heard]
  case denied =>
    refine ⟨_, execDbgRead_denied hp scope, rspFreed_session hp 0 a rfl rfl rfl, ?_⟩
    simp [rspFreed, heard]
  case quote =>
    refine ⟨_, execQuoteSigningComplete_signs quotes serves hello, ?_, fun k hk => completeWait_cmds hk⟩
    exact (congrArg Sec.quotes (completeWait_sent ..).sec :)

end Sys2Proof.Machine
end

section
/-! PROOFS. O56: registers, attention, and units that leave or return (00 R10; 04 R88, R109; 05 R136; 09 R241; 11 R273; 12 R331; 18 R505,
R506, R509; 20 R551; 22 R584 to R591, R596, R597; logs 38, 72, 73, 74). -/

namespace Sys2Proof.Machine

variable {s : State}

/-! The attention tree (22 R586 to R591, R596, R597). -/

section
variable {α : Type} {a : Attn} {b d k n v : Nat}

/-- A change of the summary is told to ATTN_N and the host; the leaves, the masks and the records stand. -/
theorem attnSettle_attn (f : Attn → α) (hf : ∀ a l d e t o, f { a with lowSince := l, deferred := d, lastSent := e, lastSentTb := t, owed := o } = f a) (s : State) :
    f (attnSettle s).attn = f s.attn := by
  have event (u : State) : f (attnEvent u).attn = f u.attn := by
    have sent (p : ChaviOut) (z : State) : (chaviSend p z).attn = z.attn := (keeps_chaviSend p z (List.Subset.refl _)).2 Keeps.rfl' .attn (by decide)
    unfold attnEvent
    rw [sent, State.modAttn_attn]
    exact hf u.attn u.attn.lowSince false (summary u) (some u.clk.tb) false
  have low : f (if summary s ≠ 0 ∧ s.attn.lowSince = none ∧ s.attn.hiZ = false then s.modAttn (fun a => { a with lowSince := some s.clk.tb }) else s).attn = f s.attn := by
    split
    · exact hf s.attn (some s.clk.tb) s.attn.deferred s.attn.lastSent s.attn.lastSentTb s.attn.owed
    · rfl
  have deferred (u : State) (d : Bool) : f (u.modAttn fun a => { a with deferred := d }).attn = f u.attn :=
    hf u.attn u.attn.lowSince d u.attn.lastSent u.attn.lastSentTb u.attn.owed
  unfold attnSettle
  dsimp only
  generalize (if summary s ≠ 0 ∧ s.attn.lowSince = none ∧ s.attn.hiZ = false then s.modAttn (fun a => { a with lowSince := some s.clk.tb }) else s) = u at low ⊢
  rw [← low]
  split
  · rfl
  · split
    · exact deferred _ false
    · split
      · exact deferred _ true
      · exact event _

theorem clearBranch_cause (a : Attn) (b : Nat) : (a.clearBranch b).cause = a.cause.set b 0 := by
  unfold Attn.clearBranch
  split <;> rfl

/-- What clearing a branch makes of the third-level registers. -/
theorem clearBranch_third (a : Attn) (b : Nat) : (a.clearBranch b).rows = (if b = 2 then 0 else a.rows) ∧ (a.clearBranch b).ports = (if b = 5 then 0 else a.ports)
    ∧ (a.clearBranch b).mem = (if b = 6 then 0 else a.mem) ∧ (a.clearBranch b).cards = (if b = 6 then 0 else a.cards) := by
  unfold Attn.clearBranch
  split
  · exact ⟨rfl, rfl, rfl, rfl⟩
  · exact ⟨rfl, rfl, rfl, rfl⟩
  · exact ⟨rfl, rfl, rfl, rfl⟩
  · next two five six => exact ⟨(if_neg two).symm, (if_neg five).symm, (if_neg six).symm, (if_neg six).symm⟩

theorem clearBranch_masks (a : Attn) (b : Nat) : (a.clearBranch b).lastRec = a.lastRec ∧ (a.clearBranch b).en = a.en := by
  unfold Attn.clearBranch
  split <;> exact ⟨rfl, rfl⟩

/-- A part that the clearing of branch k alone clears, after several branches were cleared. -/
theorem foldl_clearBranch {f : Attn → α} {z : α} (hf : ∀ a b, f (a.clearBranch b) = if b = k then z else f a) (l : List Nat) (a : Attn) :
    f (l.foldl Attn.clearBranch a) = if k ∈ l then z else f a := by
  induction l generalizing a with
  | nil => rfl
  | cons b l ih =>
    rw [List.foldl_cons, ih, hf]
    by_cases here : b = k
    · rw [if_pos here, if_pos (List.mem_cons.2 (.inl here.symm)), ite_self]
    · simp [List.mem_cons, Ne.symm here, here]

theorem foldl_clearBranch_masks (l : List Nat) (a : Attn) : (l.foldl Attn.clearBranch a).lastRec = a.lastRec ∧ (l.foldl Attn.clearBranch a).en = a.en := by
  induction l generalizing a with
  | nil => exact ⟨rfl, rfl⟩
  | cons b l ih =>
    obtain ⟨last, en⟩ := clearBranch_masks a b
    rw [List.foldl_cons, (ih _).1, (ih _).2, last, en]
    exact ⟨rfl, rfl⟩

/-- The branches that CLEARBELOW clears. -/
def branchesBelow (n : Nat) (a : Attn) : List Nat := (List.range 9).filter fun b => 0 < b ∧ 0 < nth a.lastRec b ∧ nth a.lastRec b < n

theorem mem_branchesBelow (hb : b < 9) : b ∈ branchesBelow n a ↔ 0 < b ∧ 0 < nth a.lastRec b ∧ nth a.lastRec b < n := by
  simp [branchesBelow, List.mem_filter, hb]

theorem clearBelow_attn (f : Attn → α) (hf : ∀ a l d e t o, f { a with lowSince := l, deferred := d, lastSent := e, lastSentTb := t, owed := o } = f a) (n : Nat) (s : State) :
    f (clearBelow n s).attn = f ((branchesBelow n s.attn).foldl Attn.clearBranch s.attn) := attnSettle_attn f hf _

theorem clearBelow_cause (hb : b < 9) : nth (clearBelow n s).attn.cause b
    = if 0 < b ∧ 0 < nth s.attn.lastRec b ∧ nth s.attn.lastRec b < n then 0 else nth s.attn.cause b := by
  have cleared (a : Attn) (c : Nat) : nth (a.clearBranch c).cause b = if c = b then 0 else nth a.cause b := by
    rw [clearBranch_cause]
    by_cases same : c = b
    · subst same
      rw [if_pos rfl]
      by_cases inside : c < a.cause.length
      · exact nth_set_self _ inside
      · exact nth_of_length_le (by rw [List.length_set]; exact Nat.not_lt.1 inside)
    · rw [if_neg same, nth_set_of_ne _ _ (Ne.symm same)]
  rw [clearBelow_attn (fun a => nth a.cause b) (fun _ _ _ _ _ _ => rfl), foldl_clearBranch (f := fun a : Attn => nth a.cause b) cleared]
  simp only [mem_branchesBelow hb]

theorem clearBelow_third : (clearBelow n s).attn.rows = (if 0 < nth s.attn.lastRec 2 ∧ nth s.attn.lastRec 2 < n then 0 else s.attn.rows)
    ∧ (clearBelow n s).attn.ports = (if 0 < nth s.attn.lastRec 5 ∧ nth s.attn.lastRec 5 < n then 0 else s.attn.ports)
    ∧ (clearBelow n s).attn.mem = (if 0 < nth s.attn.lastRec 6 ∧ nth s.attn.lastRec 6 < n then 0 else s.attn.mem)
    ∧ (clearBelow n s).attn.cards = (if 0 < nth s.attn.lastRec 6 ∧ nth s.attn.lastRec 6 < n then 0 else s.attn.cards) := by
  have below (b : Nat) (low : 0 < b) (hb : b < 9) : b ∈ branchesBelow n s.attn ↔ 0 < nth s.attn.lastRec b ∧ nth s.attn.lastRec b < n := by
    rw [mem_branchesBelow hb, and_iff_right low]
  refine ⟨?_, ?_, ?_, ?_⟩
  · rw [clearBelow_attn Attn.rows (fun _ _ _ _ _ _ => rfl), foldl_clearBranch (f := Attn.rows) fun a b => (clearBranch_third a b).1]
    simp only [below 2 (by decide) (by decide)]
  · rw [clearBelow_attn Attn.ports (fun _ _ _ _ _ _ => rfl), foldl_clearBranch (f := Attn.ports) fun a b => (clearBranch_third a b).2.1]
    simp only [below 5 (by decide) (by decide)]
  · rw [clearBelow_attn Attn.mem (fun _ _ _ _ _ _ => rfl), foldl_clearBranch (f := Attn.mem) fun a b => (clearBranch_third a b).2.2.1]
    simp only [below 6 (by decide) (by decide)]
  · rw [clearBelow_attn Attn.cards (fun _ _ _ _ _ _ => rfl), foldl_clearBranch (f := Attn.cards) fun a b => (clearBranch_third a b).2.2.2]
    simp only [below 6 (by decide) (by decide)]

theorem clearBelow_masks : (clearBelow n s).attn.lastRec = s.attn.lastRec ∧ (clearBelow n s).attn.en = s.attn.en := by
  obtain ⟨last, en⟩ := foldl_clearBranch_masks (branchesBelow n s.attn) s.attn
  exact ⟨(clearBelow_attn Attn.lastRec (fun _ _ _ _ _ _ => rfl) n s).trans last, (clearBelow_attn Attn.en (fun _ _ _ _ _ _ => rfl) n s).trans en⟩

theorem execAttnNRelease_releases (low : s.attn.lowSince = some d) (quiet : summary s = 0) (late : d + 5000 ≤ s.tb) :
    exec .attnNRelease s = .next (s.modAttn fun a => { a with lowSince := none }) :=
  if_pos ⟨quiet, by rw [low, Option.any_some]; exact decide_eq_true late⟩

theorem execAttnNRelease_waits (low : s.attn.lowSince = some d) (early : s.tb < d + 5000) : exec .attnNRelease s = .next s :=
  if_neg fun e => by rw [low, Option.any_some, decide_eq_false (Nat.not_le.2 early)] at e; exact Bool.false_ne_true e.2

theorem execAttnEventDeferred_sends (deferred : s.attn.deferred = true) (live : linkUp s = true) (spaced : attnSpaced s = false)
    (changed : summary s ≠ s.attn.lastSent) : exec .attnEventDeferred s = .next (attnEvent s) :=
  (if_neg (by simp [deferred, live, spaced])).trans (if_neg fun e => changed e.1)

/-- Outside a session an EVENT leaves at once, in clear. -/
theorem attnEvent_clear (up : s.chavi.up = true) (clear : s.sec.session = 0) : attnEvent s = chaviPut { type := 0x08, arg := 2 ^ 63 + summary s }
    (s.modAttn fun a => { a with lastSent := summary s, lastSentTb := some s.clk.tb, deferred := false, owed := false }) :=
  chaviSend_clear up clear rfl

end

/-! Registers whose read has an effect (00 R10; 04 R88, R109; 09 R241; 11 R273). -/

section
variable {r k o a v b : Nat}

theorem rowRead_active (runs : rowRuns s r = true) (active : (s.row r).st = .active) (o : Nat) :
    rowRead r o s = .next ((rowReadClears r o 8 s).send (.value (rowWord s r o))) := by
  unfold rowRead atRow
  rw [if_pos runs, startWake_of_active active]

theorem rowReadClears_planes (hk : k < 4) (s : State) :
    rowReadClears r (0x2030 + 0x100 * k) 8 s = s.modTile r k fun x => { x with planesRun := 0, planesSkip := 0 } := by
  have tile : (0x2030 + 0x100 * k - 0x2000) / 0x100 = k := by omega
  have offset : (0x2030 + 0x100 * k) % 0x100 = 0x30 := by omega
  have low : ¬ (0x2030 + 0x100 * k < 2 + 2) := by omega
  have inside : 0x2000 ≤ 0x2030 + 0x100 * k ∧ 0x2030 + 0x100 * k < 0x2400 := by omega
  have outside : ¬ (0x4000 ≤ 0x2030 + 0x100 * k ∧ 0x2030 + 0x100 * k < 0x4400 ∧ (0x2030 + 0x100 * k) % 0x100 = 0x50 ∧ 8 = 16) := by omega
  unfold rowReadClears
  dsimp only
  rw [if_neg outside, if_pos inside, tile, offset]
  simp only [decide_eq_false low, Bool.false_and, Bool.false_eq_true, if_false]
  rfl

theorem rowReadClears_status (s : State) : rowReadClears r 0 8 s = s.modRow r fun w => { w with hiwat := 0, fullSeen := false } := rfl

theorem execAstPlanesRead_reads (hk : k < 4) (runs : rowRuns s r = true) (active : (s.row r).st = .active) : exec (.astPlanesRead r k) s
    = .next ((s.modTile r k fun x => { x with planesRun := 0, planesSkip := 0 }).send (.value (rowWord s r (0x2030 + 0x100 * k)))) := by
  refine (if_pos hk).trans ((rowRead_active runs active _).trans ?_)
  rw [rowReadClears_planes hk]

theorem execScbStatusRead_reads (runs : rowRuns s r = true) (active : (s.row r).st = .active) : exec (.scbStatusRead r) s
    = .next ((s.modRow r fun w => { w with hiwat := 0, fullSeen := false }).send (.value (rowWord s r 0))) := rowRead_active runs active 0

/-! REGISTER_WRITE (00 R10; 22 R580, R586). -/

theorem execRegisterWrite_cause (live : alive s = true) (ha : a % 8 = 0) (hb : b < 9) (place : mgmtPlace a = .spine (0x150 + 8 * b)) :
    exec (.registerWrite a v) s = .next (attnSettle (s.modAttn fun x => { x with cause := x.cause.modify b (w1c · v) })) := by
  have leaf : (0x150 + 8 * b - 0x150) / 8 = b := by omega
  have written : mgmtWrite a v s = attnSettle (s.modAttn fun x => { x with cause := x.cause.modify b (w1c · v) }) := by
    unfold mgmtWrite
    rw [place]
    dsimp only
    rw [if_pos (by omega)]
    unfold attnWrite
    dsimp only
    rw [if_neg (by omega), if_neg (by omega), if_neg (by omega), if_neg (by omega), if_neg (by omega), if_neg (by omega), if_neg (by omega),
      if_neg (by omega), if_neg (by omega), if_pos (by omega), leaf]
    rfl
  change execRegisterWrite a v s = _
  unfold execRegisterWrite
  rw [if_neg (by simp [live, ha]), place]
  exact congrArg Host.Outcome.next written

theorem execRegisterWrite_dark (live : alive s = true) (ha : a % 8 = 0) (place : mgmtPlace a = .row r o) (still : rowRuns s r = false) (dark : rowIsDark s r = true) :
    exec (.registerWrite a v) s = .next s := by
  have woken : wakeRow r s = s := if_pos (by rw [dark]; rfl)
  change execRegisterWrite a v s = _
  unfold execRegisterWrite
  rw [if_neg (by simp [live, ha]), place]
  refine (if_neg (by rw [still]; decide)).trans (congrArg Host.Outcome.next ?_)
  rw [woken, ite_self]

end

/-! Units that fail or return (05 R136; 12 R331; 18 R505, R506, R509). -/

section
variable {p b d r : Nat} {l : List CardTest} {v : Int}

theorem execDimmFault_fails (live : alive s = true) (hd : d < 16) (serves : (s.memUnit (8 + d)).st = .inService) :
    exec (.dimmFault d) s = .next (memUnitFail (8 + d) 6 s) := if_pos ⟨live, hd, by rw [serves]; rfl⟩

theorem execDimmFault_failed (failed : (s.memUnit (8 + d)).st = .failed) : exec (.dimmFault d) s = .next s :=
  if_neg fun ⟨_, _, e⟩ => by rw [failed] at e; exact absurd e (by decide)

/-- A port that is not as an absent entry reads lies in the list. -/
theorem port_inside (st : (s.port p).st ≠ .down) : p < s.fab.ports.length := by
  by_contra outside
  exact st (by rw [State.port, nth_of_length_le (Nat.not_lt.1 outside)]; rfl)

/-- A port of the fabric is told to train again. -/
theorem mapPort_retraining (here : p < s.fab.ports.length) : (mapPort p (s.modPort p fun q => { q with st := .retraining, downAt := none })).port p
    = { s.port p with st := .retraining, downAt := none } :=
  (port_of_ports (congrArg Fab.ports (modDmapE_fab ..)) p).trans (port_modPort_self _ here)

theorem execQualificationSessionRequest_trains (live : alive s = true) (here : p < s.fab.ports.length) (fitted : portFitted s p = true)
    (present : nth s.power.presentN p = false) (up : bridgeUp s (portBridge p) = true) (ready : s.boot.st = .ready) (idle : (s.port p).st ≠ .retraining)
    (fit : (s.port p).st ≠ .absent) : ∃ t, exec (.qualificationSessionRequest p) s = .next t ∧ (t.port p).st = .retraining ∧ (t.port p).downAt = none := by
  have applies : ¬ (alive s = false ∨ portFitted s p = false ∨ nth s.power.presentN p = true ∨ bridgeUp s (portBridge p) = false
      ∨ (s.boot.st ≠ .ready ∧ s.boot.stage ≤ 8) ∨ (s.port p).st = .retraining ∨ (s.port p).st = .absent) := by
    simp [live, fitted, present, up, ready, idle, fit]
  have lost : p < (if portLive (s.port p).st then portLoss p s else s).fab.ports.length := by
    split
    · exact port_inside (by rw [portLoss_port_self here]; exact PortState.noConfusion)
    · exact here
  refine ⟨_, if_neg applies, ?_⟩
  rw [mapPort_retraining lost]
  exact ⟨rfl, rfl⟩

theorem rescanCard_settled (l : List CardTest) (c : Nat) (s : State) : (rescanCard l c s).fab.settled = s.fab.settled := by
  unfold rescanCard
  dsimp only
  split
  · rfl
  · refine (each_fixed _ (fun z : State => z.fab.settled) (fun f z => errRecord_settled _ z) _).trans (congrArg Fab.settled ?_)
    have scanned : Keeps [.dmap, .flash] s (mapCards (scanCard ((l.find? (·.card == c)).getD { card := c }) s).1) := by simp
    exact scanned .fab (by decide)

/-- A bridge as it comes back: with the table last committed, and nothing of what it held. -/
def bridgeReloaded (x : Bridge) : Bridge := { x with inReset := false, out := false, v0 := x.committed, v1 := [], act := false, other := .free }

theorem execBridgeReloadComplete_returns (live : alive s = true) (hb : b < 2) (here : b < s.fab.bridges.length)
    (away : (s.bridge b).inReset = true ∨ (s.bridge b).out = true) (powered : bridgePowered s b = true) :
    ∃ t, exec (.bridgeReloadComplete b l) s = .next t ∧ (t.bridge b).settled = (bridgeReloaded (s.bridge b)).settled ∧ (b = 0 → t.rings.up = true) := by
  have applies : ¬ (alive s = false ∨ 2 ≤ b ∨ ((s.bridge b).inReset = false ∧ (s.bridge b).out = false) ∨ bridgePowered s b = false) := by
    rcases away with away | away <;> simp [live, hb, away, powered]
  have reset : ((s.modBridge b bridgeReloaded).bridge b).settled = (bridgeReloaded (s.bridge b)).settled := by rw [bridge_modBridge_self here]
  have fresh (q : List Nat) (u : State) : ((each q (fun i z => z.modMemUnit i fun y => { y with selfRefresh := false }) u).bridge b).settled = (u.bridge b).settled :=
    each_fixed _ (fun z : State => (z.bridge b).settled) (by intro i z; rfl) u
  have rescanned (q : List Nat) (u : State) : ((if hasFlash u then each q (rescanCard l) u else u).bridge b).settled = (u.bridge b).settled := by
    split
    · exact each_fixed _ (fun z : State => (z.bridge b).settled) (fun c z => bridge_of_settled (rescanCard_settled l c z) b) u
    · rfl
  have ringsUp (u : State) : ((if b = 0 then u.modRings fun m => { m with up := true } else u).bridge b).settled = (u.bridge b).settled
      ∧ (b = 0 → (if b = 0 then u.modRings fun m => { m with up := true } else u).rings.up = true) := by
    split
    · exact ⟨rfl, fun _ => rfl⟩
    · next other => exact ⟨rfl, fun e => absurd e other⟩
  have answered (u : State) : Keeps [.mem, .fab, .chavi, .mbx, .gw, .sec, .out] u (completeWait wRecover (uBridge b) .ok [] [] u) := by simp
  refine ⟨_, if_neg applies, ?_, fun e => ?_⟩
  · refine (bridge_of_settled (completeWait_settled ..) b).trans ((ringsUp _).1.trans ((rescanned _ _).trans ?_))
    exact Eq.trans (by rfl) ((fresh _ _).trans reset)
  · exact (congrArg Rings.up (answered _ .rings (by decide))).trans ((ringsUp _).2 e)

theorem execBridgeReloadComplete_idle (works : (s.bridge b).inReset = false) (serves : (s.bridge b).out = false) : exec (.bridgeReloadComplete b l) s = .next s :=
  if_pos (.inr (.inr (.inl ⟨works, serves⟩)))

theorem execRecalibrationComplete_trims (due : r ∈ s.clk.recalRows) (runs : rowRuns s r = true) (free : s.clk.pend = false) :
    exec (.recalibrationComplete false r v) s = .next (s.modClk fun c => { c with
      recalRows := c.recalRows.filter (· != r), trims := c.trims.modify r fun l => l.set c.cur (clampTrim v) }) :=
  if_pos ⟨List.contains_iff_mem.2 due, runs, free⟩

theorem execRecalibrationComplete_sensors (due : s.clk.recalSensors = some d) (late : d + 4000000 ≤ s.tb) :
    exec (.recalibrationComplete true r v) s = .next (s.modClk fun c => { c with recalSensors := none }) := by
  change execRecalibrationComplete true r v s = _
  unfold execRecalibrationComplete
  rw [if_pos rfl, due, Option.any_some, decide_eq_true late, if_pos rfl]

theorem execRecalibrationComplete_early (due : s.clk.recalSensors = some d) (early : s.tb < d + 4000000) :
    exec (.recalibrationComplete true r v) s = .next s := by
  change execRecalibrationComplete true r v s = _
  unfold execRecalibrationComplete
  rw [if_pos rfl, due, Option.any_some, decide_eq_false (Nat.not_le.2 early), if_neg Bool.false_ne_true]

end

/-- Settles O56: each access or event's step, and what it leaves of its register or unit. -/
theorem registersAndReturningUnits : Obligations.RegistersAndReturningUnits := by
  unfold Obligations.RegistersAndReturningUnits
  refine ⟨?clear, fun s live => ⟨⟨_, (if_neg (by rw [live]; decide)).trans (if_neg Bool.false_ne_true), rfl, rfl, by simp⟩, ⟨_, (if_neg (by rw [live]; decide)).trans (if_pos rfl), rfl, rfl, by simp⟩⟩,
    fun s r hr here runs active => ⟨fun k hk hk' => ?planes, ?status⟩, fun s r live hr => ?clock, fun s n live hn here => ?witness,
    fun s a b v live ha hb here place => ?leaf, fun s a r o v live ha place still dark => execRegisterWrite_dark live ha place still dark,
    fun s a v odd => if_pos (.inr odd),
    fun s d low quiet => ⟨fun late => ⟨_, execAttnNRelease_releases low quiet late, rfl, by simp⟩, fun early => execAttnNRelease_waits low early⟩,
    fun s deferred live spaced clear changed => ?event, fun s idle => if_pos (.inl idle), fun s d live hd here serves => ?dimm,
    fun s d failed => execDimmFault_failed failed,
    fun s p live here fitted present up ready idle fit => execQualificationSessionRequest_trains live here fitted present up ready idle fit,
    fun s b l live hb here away powered => ?bridge, fun s b l works serves => execBridgeReloadComplete_idle works serves,
    fun s r v due runs free => ⟨_, execRecalibrationComplete_trims due runs free, by simp, rfl, by simp⟩,
    fun s r d v due => ⟨fun late => ⟨_, execRecalibrationComplete_sensors due late, rfl, by simp⟩, fun early => execRecalibrationComplete_early due early⟩⟩
  case clear =>
    intro s n live
    obtain ⟨rows, ports, mem, cards⟩ := clearBelow_third (s := s) (n := n)
    refine ⟨_, congrArg Host.Outcome.next (if_pos live), by simp, fun b hb => ?_, rows, ports, mem, cards, clearBelow_masks⟩
    rw [clearBelow_cause hb]
    exact ⟨fun below => if_pos below, fun above => if_neg above⟩
  case planes =>
    refine ⟨_, execAstPlanesRead_reads hk runs active, rfl, tile_modTile ⟨here, hk'⟩ _, fun q hq => nth_modify_of_ne _ _ hq, by simp⟩
  case status => exact ⟨_, execScbStatusRead_reads runs active, rfl, row_modRow_self here _, fun q hq => nth_modify_of_ne _ _ hq, by simp⟩
  case clock =>
    exact ⟨_, if_pos ⟨live, hr⟩, rfl, fun here => nth_modify_self _ here, fun q hq => nth_modify_of_ne _ _ hq, by simp⟩
  case witness => exact ⟨_, if_pos ⟨live, hn⟩, rfl, wring_modWring_self _ here, by simp⟩
  case leaf =>
    have kept (c : Nat) := attnSettle_attn (fun x => nth x.cause c) (fun _ _ _ _ _ _ => rfl) (s.modAttn fun x => { x with cause := x.cause.modify b (w1c · v) })
    exact ⟨_, execRegisterWrite_cause live ha hb place, (kept b).trans (nth_modify_self _ here), fun c hc => (kept c).trans (nth_modify_of_ne _ _ hc), by simp⟩
  case event =>
    refine ⟨_, execAttnEventDeferred_sends deferred live spaced changed, ?_⟩
    rw [attnEvent_clear (linkUp_up live) clear]
    exact ⟨rfl, rfl, rfl, by simp⟩
  case dimm =>
    refine ⟨_, execDimmFault_fails live hd serves, memUnitFail_unit_failed 6 here, memUnitFail_lostUnits .., ?_, fun k hk none_ => ?_⟩
    · rw [memUnitFail_mem]
    · exact pageEnt_lost none_ (hk ▸ memUnitFail_lostUnits ..)
  case bridge =>
    obtain ⟨t, run, settled, rings⟩ := execBridgeReloadComplete_returns (l := l) live hb here away powered
    have works : (t.bridge b).inReset = false := (congrArg Bridge.inReset settled :)
    have serves : (t.bridge b).out = false := (congrArg Bridge.out settled :)
    exact ⟨t, run, by simp [bridgeUp, works, serves], (congrArg Bridge.v0 settled :), (congrArg Bridge.act settled :), rings⟩

end Sys2Proof.Machine
end
